-- ==== Sys2Proof/Word.lean ====
section
/-!
DEFINITION. Words, bytes and the plainest arithmetic on them (R3, R4, R5).
-/
namespace Sys2Proof

/-- One byte. -/
abbrev Byte := BitVec 8

/-- A register word: registers are 32 bits wide (R5). -/
abbrev Word := BitVec 32

/-- A value of `bits` bits read as a two's complement signed number. -/
def signedOf (bits v : Nat) : Int :=
  if v % 2 ^ bits < 2 ^ (bits - 1) then (v % 2 ^ bits : Nat) else (v % 2 ^ bits : Nat) - (2 ^ bits : Nat)

/-- The two's complement bits of a signed number, in `bits` bits. -/
def unsignedOf (bits : Nat) (i : Int) : Nat := (i % (2 ^ bits : Nat)).toNat

/-- Bits [lo + w - 1 : lo] of a number. -/
def bitsOf (v lo w : Nat) : Nat := (v >>> lo) % 2 ^ w

/-- Bit `i` of a number as 0 or 1. -/
def bitAt (v i : Nat) : Nat := (v >>> i) % 2

end Sys2Proof
end

