-- ==== Sys2Proof/Operands.lean ====
section
/-!
DEFINITION. What the commands carry: requesters, message headers and bodies, host command headers, and the things outside the
device that a start-up or a cartridge brings.
-/
namespace Sys2Proof

/-- Who makes an access. I2C accesses count as host accesses (R449). -/
inductive Requester where
  | core (k : Nat)
  | host
  | i2c
  deriving DecidableEq, Repr

/-- The SYS registers held in the AON domain (R19, Table 21-6). -/
inductive AonReg where
  | pwrreq
  | aonalmLo
  | aonalmHi
  | wdog
  deriving DecidableEq, Repr

/-- A dispatcher operation taken in the same NOC cycle as another (R333). `value` is the word written. -/
inductive TskOp where
  | ready (req : Requester) (value : Nat)
  | delay (req : Requester) (value : Nat)
  | done (req : Requester) (value : Nat)
  | yield (req : Requester) (value : Nat)
  | next (req : Requester)
  deriving DecidableEq, Repr

/-- The link a Chord or referee message arrives on; a referee has one link to each unit (R345). -/
inductive ChdLink where
  | chord (lane : Nat)
  | referee
  | unit (port : Nat)
  deriving DecidableEq, Repr

/-- What the receiver sees of a message's framing (Table 17-2): the header's fields, the size the message has on the link
and whether its CRC-32C trailer agrees. -/
structure ChdHdr where
  link : ChdLink
  magic : Nat
  version : Nat
  unitId : Nat
  length : Nat
  size : Nat
  epoch : Nat
  msgnum : Nat
  crcOk : Bool
  deriving DecidableEq, Repr

/-- Body of HELLO (Table 17-3). -/
structure HelloBody where
  lowest : Nat
  highest : Nat
  role : Nat
  mode : Nat
  imageId : Nat
  compat : Nat
  klibver : Nat
  schemaMaj : Nat
  home : Bool
  lastEpoch : Nat
  deriving DecidableEq, Repr

/-- Body of HEARTBEAT (R352). -/
structure HbBody where
  role : Nat
  mode : Nat
  synced : Bool
  fenced : Bool
  age : Nat
  deltaSeq : Nat
  epoch : Nat
  deriving DecidableEq, Repr

/-- Body of DIGEST and PROVDIG (Table 17-5): `fhash` lists (member index, FHASH) of the members present, in member order. -/
structure DigestBody where
  seq : Nat
  sc : Nat
  nmemb : Nat
  vhash : Nat
  dig : Nat
  fhash : List (Nat × Nat)
  deriving DecidableEq, Repr

/-- A write that a parameter bank of DET or MODAL takes (R183, R205): a parameter register, or a table entry. -/
inductive BankWrite where
  | param (addr value : Nat)
  | entry (table index : Nat) (words : List Nat)
  deriving DecidableEq, Repr

/-- The configuration registers of an alarm channel (R225). -/
inductive AlcReg where
  | cfg | src | din
  deriving DecidableEq, Repr

/-- Body of DELTA: one of the kinds of Table 17-6 (R361). -/
inductive DeltaBody where
  | bank (modal : Bool) (write : BankWrite)
  | swap (changes : List (Nat × Nat))
  | snapReg (addr value : Nat)
  | weight (vid weight : Nat) (anchor : Bool)
  | level (sc level debtI debtS debtP : Nat)
  | baseline (update : Nat) (entries : List (Nat × Nat × Nat))
  | almReg (addr value seq : Nat)
  | almAck (channels : List (Nat × Bool × Bool)) (seq : Nat)
  | publish (goose : List (Nat × Nat × Nat)) (anSeq : Nat)
  | sources (add : Bool) (entry : List Byte) (count : Nat)
  | members (sc seq : Nat)
  | topoBatch (ops : List Byte)
  | topoCommit (tick : Nat)
  | edges (tick : Nat) (states : List (Nat × Nat))
  | facetCounts (tref : Nat) (counts : List (Nat × Nat × Nat × Nat))
  deriving DecidableEq, Repr

/-- One item of a state transfer (R363): a register, a registry entry as its eight words, bytes of device memory, hulls and generation
labels, what SNAP keeps of a member, alarm channels and their contributions, levels with the relaxation timer, banks, and what the
detectors and the oscillation monitor keep. Keys, indices and lists of counts are those of the state they come from. -/
inductive StateItem where
  | reg (addr value : Nat)
  | entry (words : List Nat)
  | memory (addr : Nat) (bytes : List Byte)
  | hull (hid : Nat) (valid f60 : Bool) (nfac : Nat)
  | generation (gen tick : Nat) (facets : List (Nat × Nat × Nat × Bool))
  | member (vid weight : Nat) (anchor : Bool) (missing : Nat) (absent : Bool)
  | alarm (channel : Nat) (latched acked kept : Bool) (lastHend : Nat)
  | contribution (channel kind subject sc seq : Nat) (prov : Bool) (since : Nat)
  | level (sc level debtI debtS debtP relaxFrom : Nat)
  | baseline (index base learned : Nat)
  | bank (modal : Bool) (bank : Nat) (write : BankWrite)
  | activeBank (bank : Nat)
  | deltas (sc seq : Nat) (ds : List (Nat × Nat))
  | step (sc seq : Nat) (us : List (Nat × Nat × Nat × Nat))
  | sep (pair seq value : Nat)
  | subject (key : Nat) (active : Bool) (counts : List Nat)
  | pass (tref : Nat) (counts : List (Nat × Nat × Nat × Nat))
  | verdicts (sc : Nat) (bytes : List Byte)
  | track (index : Nat) (values : List Nat) (hist : List (Nat × Nat))
  | modAlarm (index : Nat) (active : Bool) (counts : List Nat)
  | modChannel (index : Nat) (samples : List (Nat × Nat × Nat)) (envs : List (Nat × Option Nat))
  | modClass (sc inst : Nat)
  | modGrown (index : Nat)
  | settings (bytes : List Byte)
  deriving DecidableEq, Repr

/-- A host command's header (Table 22-5): its tag and its flags. -/
structure CmdHdr where
  tag : Nat
  force : Bool
  keep : Bool
  peer : Bool
  format : Bool
  deriving DecidableEq, Repr

/-- What a fitted cartridge brings (R372, R374): its identity, what it answers to the challenge it is given, and its content
as (address, byte) pairs, addresses rising. `owner` is the device ID in its identity mirror, none when blank. -/
structure CartIdent where
  cid : Nat
  model : Nat
  wear : Nat
  answer : List Byte
  owner : Option Nat
  sealPage : Nat
  content : List (Nat × Byte)
  deriving DecidableEq, Repr

/-- What the receiver sees of a relay frame's header (R410); `up` when it arrived on RLY0, from upstream. -/
structure RelayHdr where
  up : Bool
  magic : Nat
  version : Nat
  session : Nat
  index : Nat
  frag : Nat
  plen : Nat
  total : Nat
  pos : Nat
  deriving DecidableEq, Repr

/-- What ends a session: an ABORT message, or a write of UPD.ABORT. -/
inductive AbortSrc where
  | message (hdr : RelayHdr)
  | write (req : Requester) (value : Nat)
  deriving DecidableEq, Repr

/-- Who asks for a trim reload (R242): the command, or a write of SYS.TRIMRELOAD. -/
inductive TrimSrc where
  | command (h : CmdHdr)
  | write (req : Requester) (value : Nat)
  deriving DecidableEq, Repr

/-- What start-up finds outside the device's logic (R430): whether the signatures of the boot stage and of the firmware
verify, the cartridge fitted, the installed LPDDR5X that is usable, the lattice image of the bank set in force, the addresses of the
AFE trim registers whose fuse word fails its check (R242), the register writes that the host settings on the cartridge amount to, and
whether the schema major of the bank set differs from that of the set it replaces (R418). -/
structure StartEnv where
  bootVerified : Bool
  firmwareVerified : Bool
  cart : Option CartIdent
  usableBytes : Nat
  image : List Byte
  trimFailed : List Nat := []
  settings : List (Nat × Nat) := []
  schemaChanged : Bool := false
  deriving DecidableEq, Repr

/-- A frame as the MAC sees it end (R32): the bytes from destination address up to the FCS, whether FCS and coding are good,
whether preemption reassembly succeeded, and whether reception was cut short. -/
structure RxIn where
  bytes : List Byte
  fcsOk : Bool
  smdOk : Bool
  aborted : Bool
  deriving DecidableEq, Repr

/-- What the MAC knows of a PTP message it sends (R47, R48): messageType, sequenceId, one-step operation, where originTimestamp
lies in the frame, and where the UDP checksum lies if the message goes over UDP. -/
structure PtpTx where
  msgType : Nat
  seqId : Nat
  oneStep : Bool
  tsAt : Nat
  udpSumAt : Option Nat
  deriving DecidableEq, Repr

/-- A frame to send. -/
structure TxFrame where
  bytes : List Byte
  ptp : Option PtpTx := none
  deriving DecidableEq, Repr

/-- A PTP message as firmware takes it (R83, R85): whether it comes on the active port in the profile in use, whether it is an
Announce, whether the best master clock algorithm then selects the device's own dataset, whether host settings say slave-only,
and from an Announce the UTC offset, and the leap flags leap61 and leap59 with the TAI second at which the offset changes. -/
structure PtpMsg where
  onActive : Bool
  announce : Bool
  ownBest : Bool
  slaveOnly : Bool
  utcOffset : Option Nat
  leap61 : Bool
  leap59 : Bool
  leapAt : Nat
  deriving DecidableEq, Repr

/-- A decoded IRIG-B frame (R86): whether format, parity and markers are good, second of day, day of year, year if the format
gives one, the UTC second it names, and with X1344 a pending leap change: the TAI second at which the offset changes and
whether it deletes a second. -/
structure IrigFrame where
  good : Bool
  sod : Nat
  doy : Nat
  year : Option Nat
  utc : Nat
  leap : Option (Nat × Bool)
  deriving DecidableEq, Repr

/-- What the holdover estimate of R88 is made from: E0 in ns, |y| and |k| DT in parts of 10^15, |D| in parts of 10^21 per second. -/
structure HoldEst where
  e0 : Nat
  y : Nat
  kdt : Nat
  d : Nat
  deriving DecidableEq, Repr

/-! ### Stream frames and descriptors -/

/-- How a phasor is converted (R56): PHUNIT[23:0], the PHSCALE magnitude factor and angle offset in radians, binary32 bits. -/
structure PhConv where
  unit : Nat
  mag : Nat
  angle : Nat
  deriving DecidableEq, Repr

/-- One PMU block of a format descriptor (R55): the FORMAT word ([0] polar, [1] phasors, [2] analogs, [3] FREQ and DFREQ in
floating point), conversions of its phasors, factors of its analogs (binary32 bits), digital words, FNOM in Hz. -/
structure PmuDesc where
  format : Nat
  phasors : List PhConv
  analogs : List Nat
  ndig : Nat
  fnom : Nat
  deriving DecidableEq, Repr

/-- Where a dataset member of an R-SV stream goes in the slot. -/
inductive SlotPos where
  | none
  | freq
  | dfreq
  | analog (i : Nat)
  | phRe (i : Nat)
  | phIm (i : Nat)
  deriving DecidableEq, Repr

/-- A dataset member (R62): FLOAT32, INT32 with a scale (binary32 bits), 32-bit quality, Timestamp. -/
inductive RsvMember where
  | float32 (pos : SlotPos)
  | int32 (scale : Nat) (pos : SlotPos)
  | quality
  | timestamp
  deriving DecidableEq, Repr

/-- A format descriptor (R55, R62, R472): of a C37.118.2 stream its blocks, TIME_BASE and DATA_RATE; of an R-SV stream its
dataset and confRev. -/
structure Desc where
  rsv : Bool
  pmus : List PmuDesc
  timeBase : Nat
  rate : Int
  members : List RsvMember
  confRev : Nat
  deriving DecidableEq, Repr

/-- One ASDU of an SPDU as the parser sees it (R62). -/
structure Asdu where
  svid : List Byte
  smpCnt : Nat
  confRev : Nat
  smpSynch : Nat
  /-- refrTm as (seconds, ns), if present. -/
  refrTm : Option (Nat × Nat)
  data : List Byte
  deriving DecidableEq, Repr

/-- An R-SV SPDU as the parser sees it (R61): whether it is encrypted, whether its session identifier is that of sampled values,
key ID, signature algorithm (0 none, 1 HMAC-SHA256, 2 AES-GMAC), the tag, the bytes it covers and its IV, and the ASDUs. -/
structure Spdu where
  encrypted : Bool
  sampled : Bool
  keyId : Nat
  sig : Nat
  tag : List Byte
  covered : List Byte
  iv : List Byte
  lengthOk : Bool
  asdus : List Asdu
  deriving DecidableEq, Repr

/-- What the firmware path takes: the next frame of a port, with the SPDU it carries if it is an encrypted or tunnelled one, or a
C37.118.2 frame carried by TCP (R54, R55). -/
inductive FwIn where
  | frame (port : Nat) (spdu : Option Spdu)
  | tcp (port : Nat) (src : Nat) (bytes : List Byte) (ns frac : Nat)
  deriving DecidableEq, Repr

/-- A stream as R472 names it: its format, source address, UDP port, and IDCODE or the CRC-32C of its svID. -/
structure StreamId where
  fmt : Nat
  addr : Nat
  udpPort : Nat
  ident : Nat
  deriving DecidableEq, Repr

end Sys2Proof
end

