-- ==== Sys2Proof/Syntax.lean ====
section
/-!
DEFINITION. The commands: one constructor for each row of the command table (the opcode table), with the row's operands. Times `t` are
device time in TAI nanoseconds.
-/
namespace Sys2Proof

/-- A command the block takes from outside, or an event that reaches it. -/
inductive Instr where
  /-- REGISTER_WRITE (R7). A write of `width` bytes at an address, by a requester (R5, R7). -/
  | registerWrite (req : Requester) (addr width value : Nat)
  /-- AON_WRITE_ARRIVES (R19). A pending write to an AON-held SYS register arrives (R19). -/
  | aonWriteArrives (reg : AonReg)
  /-- FRAME_RECEIVED (R36). A frame ends at a port; `ns` and `frac` are TB time at its timestamp point, in ns and 1/16 ns (R32-R38, R44). -/
  | frameReceived (port ns frac : Nat) (frame : RxIn)
  /-- PORT_CTL_WRITE (R50). A write of ETH.PnCTL, with whether a frame is being received at that moment (R38, R50). -/
  | portCtlWrite (req : Requester) (port value : Nat) (receiving : Bool)
  /-- LINK_UP (R40). A port's link comes up; `status` gives the other bits of PnSTAT (R40). -/
  | linkUp (t port status : Nat)
  /-- LINK_DOWN (R43). A port's link goes down (R38, R43). -/
  | linkDown (t port : Nat) (receiving : Bool)
  /-- PREEMPT_WRITE (R40). A write of ETH.PnPREEMPT (R40). -/
  | preemptWrite (req : Requester) (t port value : Nat)
  /-- VERIFY_T_EXPIRY (R40). VERIFY_T passes with no respond mPacket (R40). -/
  | verifyTExpiry (t port : Nat)
  /-- RESPOND_MPACKET_RECEIVED (R40). The partner's respond mPacket arrives (R40). -/
  | respondMpacketReceived (port : Nat)
  /-- EXPRESS_FRAME_READY (R41). A frame becomes ready in EA or EB when `sent` bytes of the frame in progress have been sent (R41). -/
  | expressFrameReady (port : Nat) (eb : Bool) (frame : TxFrame) (sent : Nat)
  /-- FRAME_TRANSMITTED (R48). A frame leaves a port; `ns` and `frac` are TB time at its timestamp point (R44, R47, R48). -/
  | frameTransmitted (port ns frac : Nat)
  /-- TX_STAMP_READ (R48). A read of ETH.PnTXTSHI (R48). -/
  | txStampRead (req : Requester) (port : Nat)
  /-- C37_DATA_FRAME (R55). The parsers take a port's next frame as a C37.118.2 data frame; `ecc` when the registry entry reads with a double-bit error (R55-R60). -/
  | c37DataFrame (t port : Nat) (ecc : Bool)
  /-- RSV_SPDU (R61). The parsers take a port's next frame as an R-SV SPDU (R61-R63). -/
  | rsvSpdu (t port : Nat) (spdu : Spdu) (ecc : Bool)
  /-- VTD_DATAGRAM (R66). The parsers take a port's next frame as a VTD datagram (R64-R73). -/
  | vtdDatagram (t port : Nat) (ecc : Bool)
  /-- FIRMWARE_PATH_FRAME (R54). Resident firmware takes a frame that the hardware passes over (R52, R54). -/
  | firmwarePathFrame (t : Nat) (input : FwIn)
  /-- FRAGMENT_TIMEOUT (R54). Fragmented datagrams not complete 1 s after their first fragment are discarded (R54). -/
  | fragmentTimeout (t : Nat)
  /-- CONFIGURATION_FRAME (R472). A stream's configuration is known and its descriptor installed (R60, R472). -/
  | configurationFrame (t : Nat) (stream : StreamId) (desc : Desc)
  /-- GDOI_KEY_BIND (R63). Firmware binds an R-SV key ID to a key slot (R63). -/
  | gdoiKeyBind (keyId slot : Nat)
  /-- SOURCE_ADD (R75). Adds registry entries; `entry` holds the eight words of Table 03-8 (R75). -/
  | sourceAdd (h : CmdHdr) (entry : List Nat) (count : Nat)
  /-- SOURCE_REMOVE (R76). Removes registry entries (R76). -/
  | sourceRemove (h : CmdHdr) (entry : List Nat) (count : Nat)
  /-- SOURCE_REMOVE_DRAINED (R76). The last frame that matched an entry removed by the command of a tag has left the parsers (R76). -/
  | sourceRemoveDrained (t tag : Nat)
  /-- INCRI_WRITE (R79). A write of TB.INCRI (R79). -/
  | incriWrite (req : Requester) (value : Nat)
  /-- INCREMENT_COMMIT (R79). The next TB tick, at which a pending increment is committed or refused (R79). -/
  | incrementCommit
  /-- STEPCMD (R81). A write of TB.STEPCMD (R81). -/
  | stepcmd (req : Requester) (value : Nat)
  /-- STEP_APPLY (R81). The next TB tick, at which a pending step is applied (R81). -/
  | stepApply
  /-- NOW_READ (R80). A read of TB.NOWNS, or of TB.NOW64LO (`count64`) (R80). -/
  | nowRead (req : Requester) (count64 : Bool)
  /-- LEAP_SECOND_APPLY (R83). The TAI second of a pending leap change arrives (R83). -/
  | leapSecondApply (t : Nat)
  /-- PTP_MESSAGE (R85). Resident firmware takes a PTP message on the active PTP port (R85). -/
  | ptpMessage (t : Nat) (msg : PtpMsg)
  /-- IRIG_FRAME (R86). An IRIG-B frame has been decoded (R86). -/
  | irigFrame (t : Nat) (frame : IrigFrame)
  /-- HOLDOVER_UPDATE (R88). The update of the estimated time error in holdover (R88). -/
  | holdoverUpdate (t : Nat) (est : HoldEst)
  /-- TB_PLL_UNLOCK (R90). The TB PLL loses lock (R90). -/
  | tbPllUnlock (t : Nat)
  /-- TIME_ECHO (R91). A TAI millisecond boundary; `cycles` LAT cycles have passed since the one before (R91, R92). -/
  | timeEcho (t cycles : Nat)
  /-- TILE_COMPARE_FIRE (R93). A kernel arms its tile's compare with a target, and `cycles` LAT cycles pass (R93). -/
  | tileCompareFire (tile target cycles : Nat)
  /-- CMP_TARGET_WRITE (R95). A write of TB.CMPnTGT (R95). -/
  | cmpTargetWrite (req : Requester) (ch value : Nat)
  /-- CMP_CTL_WRITE (R98). A write of TB.CMPnCTL (R95, R98, R100). -/
  | cmpCtlWrite (req : Requester) (ch value : Nat)
  /-- COMPARE_FIRE (R97). A TB tick at TAI ns `t` and fraction `frac` (2^-24 ns), at which the armed channels are evaluated (R95-R101). -/
  | compareFire (t frac : Nat)
  /-- TPO_PULSE_END (R102). WIDTH has passed after the last firing of a pulse-mode output (R102). -/
  | tpoPulseEnd (t output : Nat)
  /-- TDC_EDGE (R104). An edge on a TDC input at TAI ns `t` and fraction `frac` (1/128 ns) (R103, R104). -/
  | tdcEdge (input t frac : Nat) (rising : Bool)
  /-- TDC_STAMP_READ (R104). A read of TB.TDCkHI (R104). -/
  | tdcStampRead (req : Requester) (input : Nat)
  /-- SNAPSHOT_OPEN (R110). A nominal instant of a class (R110). -/
  | snapshotOpen (t sc : Nat)
  /-- FINAL_RELEASE (R111). TB time reaches T_c of the class's head snapshot; `eccSlots` are the members whose slots read with a double-bit error (R111, R121). -/
  | finalRelease (t sc : Nat) (eccSlots : List Nat)
  /-- AMEND_HORIZON (R117). The amend horizon of a released snapshot passes (R117). -/
  | amendHorizon (t sc : Nat)
  /-- PROMOTION_COMPLETE (R119). The spilled slots of the next snapshot have been promoted (R119). -/
  | promotionComplete (t sc : Nat)
  /-- SNAP_SUBSCRIBE (R122). Creates a subscription (R122). -/
  | snapSubscribe (h : CmdHdr) (base size classes form kinds queue : Nat)
  /-- SNAP_UNSUBSCRIBE (R122). Ends a subscription (R122). -/
  | snapUnsubscribe (h : CmdHdr) (index : Nat)
  /-- LAST_READ (R126). A read of SNAP.LASTn (R126). -/
  | lastRead (req : Requester) (sc : Nat)
  /-- PROVISIONAL_RELEASE (R130). The conditions of provisional release of the class are judged (R130). -/
  | provisionalRelease (t sc : Nat)
  /-- PIN_HOLD_EXPIRY (R136). H_end of a retracted contribution of an alarm channel passes (R136). -/
  | pinHoldExpiry (t channel : Nat)
  /-- DEBT_LEAK (R139). PRBLEAK seconds have passed (R139). -/
  | debtLeak (t : Nat)
  /-- LEVEL_RELAX (R139). PRELAX seconds have passed with no counted retraction (R139). -/
  | levelRelax (t sc : Nat)
  /-- LEVEL_WRITE (R141). A write of SNAP.SCnPSTATE (R141). -/
  | levelWrite (req : Requester) (sc value : Nat)
  /-- WEIGHT_WRITE (R129). A write of SNAP.PWVAL (R129). -/
  | weightWrite (req : Requester) (value : Nat)
  /-- TOPOLOGY_TICK (R156). A topology tick: a TAI multiple of TTICK (R156). -/
  | topologyTick (t : Nat)
  /-- SPLIT_RECOMPUTE_DONE (R156). A split recomputation completes (R156). -/
  | splitRecomputeDone (t : Nat)
  /-- AGGREGATION_PASS (R159). An aggregation instant; `eccRows` are the rows that read with a double-bit error (R159). -/
  | aggregationPass (t : Nat) (eccRows : List Nat)
  /-- AGGREGATION_PASS_COMPLETE (R159). The pass that runs completes (R159). -/
  | aggregationPassComplete (t : Nat)
  /-- TOPO_EDIT (R162). Checks a batch of topology operations in host memory (R162). -/
  | topoEdit (h : CmdHdr) (addr count : Nat)
  /-- COHERE_COMPLETE (R171). COHERE has finished for a class's oldest waiting release of a kind (R171). -/
  | cohereComplete (t sc : Nat) (prov : Bool)
  /-- VERDICT_READY (R178). The verdicts of a class's oldest waiting run of a kind are ready (R178). -/
  | verdictReady (t sc : Nat) (prov : Bool)
  /-- DET_TCMD_WRITE (R184). A write of DET.TCMD with WRITE set (R184). -/
  | detTcmdWrite (req : Requester)
  /-- DET_TCMD_READ (R183). A write of DET.TCMD with READ set (R183). -/
  | detTcmdRead (req : Requester)
  /-- BANK_COPY_COMPLETE (R183). The bank copy of DET, or of MODAL, after a swap is complete (R183, R205). -/
  | bankCopyComplete (t : Nat) (modal : Bool)
  /-- MODAL_UPDATE_READY (R190). The update that runs for a group and band is ready (R190). -/
  | modalUpdateReady (t group band : Nat)
  /-- GROWTH_HIT (R198). The verdict of a growth hit of a group and band is ready (R198). -/
  | growthHit (t group band : Nat)
  /-- MODAL_TCMD_WRITE (R206). A write of MODAL.TCMD with WRITE set (R206). -/
  | modalTcmdWrite (req : Requester)
  /-- MODAL_TCMD_READ (R205). A write of MODAL.TCMD with READ set (R205). -/
  | modalTcmdRead (req : Requester)
  /-- ALM_ACK (R211). The command that acknowledges the channels of a 64-bit mask (R211). -/
  | almAck (h : CmdHdr) (mask : Nat)
  /-- MINON_EXPIRY (R212). MINON passes for a pin (R212). -/
  | minonExpiry (t pin : Nat)
  /-- OVERLOAD_DETECT (R214). A pin's driver has stayed at its current limit for 10 ms (R214). -/
  | overloadDetect (t pin : Nat)
  /-- DIN_CHANGE (R216). A contact input has held a new level for DEB ms (R216). -/
  | dinChange (t input : Nat) (closed : Bool)
  /-- GOOSE_REPEAT (R219). The repeat interval of a publication passes (R219). -/
  | gooseRepeat (t publication : Nat)
  /-- NOTICE_REFRESH (R222). REFRESH ms pass with no notice sent (R222). -/
  | noticeRefresh (t : Nat)
  /-- ALC_CONFIG_WRITE (R225). A write of ALCkCFG, ALCkSRC or ALCkDIN (R225). -/
  | alcConfigWrite (req : Requester) (channel : Nat) (reg : AlcReg) (value : Nat)
  /-- MOD_PLL_UNLOCK (R230). The MOD PLL loses lock (R230). -/
  | modPllUnlock (t : Nat)
  /-- MOD_PLL_RELOCK (R230). The MOD PLL locks again; `frac` is in 1/128 ns (R230). -/
  | modPllRelock (t frac : Nat)
  /-- MODULATOR_OVERLOAD (R232). A modulator detects an overload, resets and restarts (R232). -/
  | modulatorOverload (t ch : Nat)
  /-- MODULATOR_SETTLED (R231). 64 MODCLK cycles have passed since a modulator restarted (R231). -/
  | modulatorSettled (t ch : Nat)
  /-- RSTART (R237). A write of AUXCMD.RSTART; a conversion that starts is stamped with `t` and `frac` in 1/128 ns (R237, R239). -/
  | rstart (req : Requester) (t frac : Nat)
  /-- ISTART (R238). A write of AUXCMD.ISTART (R238). -/
  | istart (req : Requester) (t frac : Nat)
  /-- RSTOP (R237). A write of AUXCMD.RSTOP (R237). -/
  | rstop (req : Requester) (t : Nat)
  /-- AUX_CONVERSION_END (R240). The conversion that runs ends, its input at `vin` picovolts; the next one starts at `t` and `frac` in 1/128 ns (R240). -/
  | auxConversionEnd (t frac : Nat) (vin : Int)
  /-- AUXDATA_READ (R240). A read of AFE.AUXDATA (R240). -/
  | auxdataRead (req : Requester)
  /-- TRIM_RELOAD (R242). The command, or the write of SYS.TRIMRELOAD, that reloads factory trim (R242). -/
  | trimReload (src : TrimSrc)
  /-- TRIM_COPY_END (R242). The trim copy ends; `failed` are the addresses of the trim registers whose fuse word fails its check (R242). -/
  | trimCopyEnd (t frac : Nat) (failed : List Nat)
  /-- FILTER_SAMPLE (R250). The modulator bits of a channel since its last such command, oldest first, true for +1; `stamp` is the MOD edge of the last bit in 1/128 ns of TAI, `period` the measured MOD period in 2^-16 ns. The output samples that become complete go to detectors, lanes, metering, capture and the local phasor (R245-R260). -/
  | filterSample (ch : Nat) (bits : List Bool) (stamp period : Nat)
  /-- SWAP (R255). A write of FLT.BANKCMD (R255). -/
  | swap (req : Requester) (value : Nat)
  /-- FLT_BANK_SWAP_APPLY (R255). The first tap-1 boundary of channel 0 at or after `t` arrives after a swap request (R255). -/
  | fltBankSwapApply (t : Nat)
  /-- COEFFICIENT_ACCESS (R255). An access to FLT.CVAL: a write of a coefficient, or a read (R255). -/
  | coefficientAccess (req : Requester) (write : Option Nat)
  /-- PTRIM_WRITE (R251). A write of FLT.CHcPTRIM (R251). -/
  | ptrimWrite (req : Requester) (ch value : Nat)
  /-- DECSYNC (R256). A SYNC_DEC edge (none) or a write of SYS.CMD.DECSYNC; `t` and `frac` in 1/128 ns give the MOD edge it takes effect on (R256). -/
  | decsync (src : Option Requester) (t frac : Nat)
  /-- LOCAL_PHASOR_PLACE (R261). The PHASOR kernel places the local slot for an instant (R261). -/
  | localPhasorPlace (t inst : Nat)
  /-- METER_CYCLE_REGISTER (R267). The nominal cycle of a number registers (R267-R272). -/
  | meterCycleRegister (t cyc : Nat)
  /-- PULSE_START (R276). A pulse from the backlog of an output begins (R276). -/
  | pulseStart (t output : Nat)
  /-- PULSE_END (R276). WIDTH ms of a pulse pass (R276). -/
  | pulseEnd (t output : Nat)
  /-- SAVE_INSTANT (R278). A save instant arrives (R278). -/
  | saveInstant (t : Nat)
  /-- SAVE_WRITE_COMPLETE (R278). A save write ends; `refused` if the cartridge refuses it (R278). -/
  | saveWriteComplete (t : Nat) (refused : Bool)
  /-- CYCLO_READ (R272). A read of MTR.CYCLO (R272). -/
  | cycloRead (req : Requester)
  /-- CLRCMD (R283). A write of MTR.CLRCMD (R283). -/
  | clrcmd (req : Requester) (value : Nat)
  /-- CAP_ARM (R297). The command that arms capture buffers (R297). -/
  | capArm (h : CmdHdr) (mask : Nat)
  /-- CAP_READ (R298). The command that copies a stopped record to host memory; `ecc` if a word is read with a double-bit error (R298). -/
  | capRead (h : CmdHdr) (buf addr size : Nat) (ecc : Bool)
  /-- CAP_STOP (R298). A write of CAP.STOP (R298). -/
  | capStop (req : Requester) (value : Nat)
  /-- CAP_RELEASE (R298). A write of CAP.RELEASE (R298). -/
  | capRelease (req : Requester) (value : Nat)
  /-- HOSTTRIG (R290). A write of CAP.HOSTTRIG, taken at `t` and `frac` in 1/128 ns (R290). -/
  | hosttrig (req : Requester) (value t frac : Nat)
  /-- CAPTURE_TRIGGER (R292). The triggers on their way to a buffer reach it (R290-R294). -/
  | captureTrigger (t buf : Nat)
  /-- MASK_ACCESS (R295). An access to CAP.MVAL: a write of a word, or a read (R295). -/
  | maskAccess (req : Requester) (write : Option Nat)
  /-- ARCHIVE_WRITE_END (R300). The archive write of a buffer ends; `refused` if the cartridge refuses it (R300). -/
  | archiveWriteEnd (t buf : Nat) (refused : Bool)
  /-- IMAGE_LOAD (R317). The command that loads a lattice image (R317): `readable` if the host range can be read, `mismatch` the record whose read-back at step 6 disagrees, if one does. -/
  | imageLoad (h : CmdHdr) (source addr length : Nat) (readable : Bool) (mismatch : Option Nat)
  /-- FLUSH (R308). A write of LAT.QCMD (R308). -/
  | flush (req : Requester) (value : Nat)
  /-- CTRL_ITEM_ENQUEUE (R309). A CTRL item held for an input queue (tile index * 4 + queue) enters it between whole messages; `waited` if a message was in progress (R309). -/
  | ctrlItemEnqueue (t queue : Nat) (waited : Bool)
  /-- LATTICE_SWAP (R320). A write of LAT.SWAPCMD (R320). -/
  | latticeSwap (req : Requester) (value : Nat)
  /-- SWAP_CLASS_TIMEOUT (R320). A class has had no release for 2 s after a swap request (R320). -/
  | swapClassTimeout (t sc : Nat)
  /-- TILE_FAULT (R321). A kernel detects an internal fault and stops its tile (R321). -/
  | tileFault (t tile : Nat)
  /-- ACCESS_FAULT (R323). A customer-partition core makes an access it may not make (R323). -/
  | accessFault (core addr : Nat) (write : Bool)
  /-- BUS_ERROR (R324). A core read meets a double-bit error (`ecc`), or an access an unmapped address (R324, R325). -/
  | busError (core addr : Nat) (ecc : Bool)
  /-- WAIT (R327). A core whose CORE.PWRMODE was set to a value executes WAIT (R327, R328). -/
  | wait (core pwrmode : Nat)
  /-- WARM_START (R328). A wake line wakes a core in WAIT (R328). -/
  | warmStart (core : Nat)
  /-- READY (R330). A write of TSK.READY (R330). -/
  | ready (req : Requester) (value : Nat)
  /-- DELAY (R330). A write of TSK.DELAY (R330). -/
  | delay (req : Requester) (value : Nat)
  /-- CANCEL (R330). A write of TSK.CANCEL, with the dispatcher ticks and the other operations of the same NOC cycle (R330, R333). -/
  | cancel (req : Requester) (value ticks : Nat) (others : List TskOp)
  /-- NEXT (R331). A read of TSK.NEXT (R331). -/
  | next (req : Requester)
  /-- DONE (R330). A write of TSK.DONE (R330). -/
  | done (req : Requester) (value : Nat)
  /-- YIELD (R330). A write of TSK.YIELD (R330). -/
  | yield (req : Requester) (value : Nat)
  /-- DISPATCHER_TICK (R334). A dispatcher tick, arriving as a crossing count (R334). -/
  | dispatcherTick (count : Nat)
  /-- EVENT_EDGE (R338). An event of a source reaches EVC (R335, R338, R341). -/
  | eventEdge (src info : Nat)
  /-- RECORD_POST (R336). The controller posts a pending record of a target (R336). -/
  | recordPost (target : Nat) (writeFails : Bool)
  /-- CLAIM (R339). A read of EVC.TGTnCLAIM (R339). -/
  | claim (req : Requester) (target : Nat)
  /-- TGT_DONE (R339). A write of EVC.TGTnDONE (R339). -/
  | tgtDone (req : Requester) (target value : Nat)
  /-- RESET (R339). A write of EVC.TGTnRESET (R339). -/
  | tgtReset (req : Requester) (target value : Nat)
  /-- SWSET (R335). A write of EVC.SWSET (R335). -/
  | swset (req : Requester) (value : Nat)
  /-- SWCLR (R335). A write of EVC.SWCLR (R335). -/
  | swclr (req : Requester) (value : Nat)
  /-- REROUTE_EXPIRY (R342). REROUTE_T passes with a target asleep and records pending (R342). -/
  | rerouteExpiry (t target : Nat)
  /-- HELLO_RECEIVED (R350). A HELLO arrives (R350). -/
  | helloReceived (t : Nat) (hdr : ChdHdr) (body : HelloBody)
  /-- HEARTBEAT_SEND (R352). Every 250 us: HEARTBEAT to each peer (R352). -/
  | heartbeatSend (t : Nat)
  /-- HEARTBEAT_RECEIVED (R352). A HEARTBEAT arrives (R352). -/
  | heartbeatReceived (t : Nat) (hdr : ChdHdr) (body : HbBody)
  /-- REFEREE_EVALUATE (R353). Every 10 us: the referee judges the pair (R353). -/
  | refereeEvaluate (t : Nat)
  /-- PROMOTE (R354). PROMOTE arrives (R354). -/
  | promote (t : Nat) (hdr : ChdHdr) (epoch failed : Nat)
  /-- DEPOSE (R351). A message arrives whose epoch names another Active (R351). -/
  | depose (t : Nat) (hdr : ChdHdr) (active : Nat)
  /-- FENCE_T_EXPIRY (R355). FENCE_T passes with no valid message (R355). -/
  | fenceTExpiry (t : Nat)
  /-- UNFENCE (R351). A message at its own epoch reaches a fenced unit (R351). -/
  | unfence (t : Nat) (hdr : ChdHdr)
  /-- CHORD_LOST (R362). No Chord message for 750 us (R362). -/
  | chordLost (t : Nat)
  /-- LANE_DOWN (R347). A Chord lane goes down (R347). -/
  | laneDown (lane : Nat)
  /-- DIGEST (R359). A DIGEST arrives at a Standby (R359, R362). -/
  | digest (t : Nat) (hdr : ChdHdr) (body : DigestBody)
  /-- PROVDIG (R137). A PROVDIG arrives at a Standby (R137). -/
  | provdig (t : Nat) (hdr : ChdHdr) (body : DigestBody)
  /-- MISSREQ (R360). A MISSREQ arrives at the Active (R360). -/
  | missreq (t : Nat) (hdr : ChdHdr) (sc seq : Nat) (members : List Nat)
  /-- MIRROR (R359). A MIRROR arrives at a Standby (R359). -/
  | mirror (t : Nat) (hdr : ChdHdr) (sc seq member : Nat) (slot : List Byte)
  /-- MIRWAIT_EXPIRY (R360). MIRWAIT passes without the mirror (R360). -/
  | mirwaitExpiry (t sc seq : Nat)
  /-- DELTA (R361). A policy-state delta arrives (R361). -/
  | delta (t : Nat) (hdr : ChdHdr) (deltaSeq : Nat) (body : DeltaBody)
  /-- SYNCREQ (R363). SYNCREQ arrives at the Active (R363). -/
  | syncreq (t : Nat) (hdr : ChdHdr)
  /-- STATE (R363). A part of a state transfer arrives (R363). -/
  | statePart (t : Nat) (hdr : ChdHdr) (part : Nat) (items : List StateItem)
  /-- SYNCDONE (R363). SYNCDONE arrives (R363). -/
  | syncdone (t : Nat) (hdr : ChdHdr) (seqs : List Nat)
  /-- SWITCHOVER (R366). Host command 0x0A01 (R366). -/
  | switchover (h : CmdHdr)
  /-- SWITCHBACK (R367). Host command 0x0A02 (R367). -/
  | switchback (h : CmdHdr)
  /-- SWITCH (R366). A SWITCH message naming H arrives (R366). -/
  | switchMsg (t : Nat) (hdr : ChdHdr) (instant : Nat)
  /-- HANDOVER_INSTANT (R366). The handover instant arrives (R366). -/
  | handoverInstant (t : Nat)
  /-- LEDGER_ACCEPT (R385). Host command 0x0702 (R385). -/
  | ledgerAccept (h : CmdHdr)
  /-- LEDGER_EJECT (R387). Host command 0x0701 (R387). -/
  | ledgerEject (h : CmdHdr)
  /-- IDENTITY_POLL (R475). A 100 ms poll of the identity element (R475). -/
  | identityPoll (t : Nat) (answered : Bool)
  /-- IDENTITY_READ (R373). The identity is read in ATTACHING (R373, R385). -/
  | identityRead (t : Nat) (resp : Option CartIdent)
  /-- RESEED_COMPLETE (R386). Re-seeding completes (R386). -/
  | reseedComplete (t : Nat)
  /-- SEAL_COMMITTED (R387). The seal record is committed (R387). -/
  | sealCommitted (t : Nat)
  /-- EJECT_T_EXPIRY (R387). EJECT_T passes before the seal (R387). -/
  | ejectTExpiry (t : Nat)
  /-- LC_PWR_OVERCURRENT (R385). LC_PWR stays at its current limit for 1 ms (R385). -/
  | lcPwrOvercurrent (t : Nat)
  /-- RECORD_OFFER (R381). A ledger record is offered (R381). -/
  | recordOffer (type : Nat) (payload : List Byte)
  /-- COMMIT_T_EXPIRY (R380). COMMIT_T passes (R380). -/
  | commitTExpiry (t : Nat)
  /-- PAGE_COMMIT (R380). A journal page is committed, or its write is refused (R380, R385). -/
  | pageCommit (t : Nat) (refused : Bool)
  /-- RDCMD (R391). A write of LDG.RDCMD (R391). -/
  | rdcmd (req : Requester) (value : Nat)
  /-- READ_COPY_DONE (R391). A cartridge read copy completes (R391). -/
  | readCopyDone
  /-- KEY_UPDATE (R401). Host command 0x0801 (R400-R402). -/
  | keyUpdate (h : CmdHdr) (addr len : Nat)
  /-- UPDATE_BEGIN (R413). Host command 0x0901 (R413). -/
  | updateBegin (h : CmdHdr) (mode addr len : Nat)
  /-- RELAY_HELLO (R411). A relay HELLO arrives (R411). -/
  | relayHello (hdr : RelayHdr) (lowest highest : Nat) (mac : List Byte)
  /-- MANIFEST (R412). A manifest fragment arrives (R412). -/
  | manifest (t : Nat) (hdr : RelayHdr) (payload : List Byte)
  /-- BLOCK (R412). A block fragment arrives (R412). -/
  | block (t : Nat) (hdr : RelayHdr) (payload : List Byte)
  /-- NAK_TIMER (R412). 2 ms pass after a block's last fragment (R412). -/
  | nakTimer (t block : Nat)
  /-- NAK (R411). A NAK arrives (R411). -/
  | nak (hdr : RelayHdr) (missing : List Nat)
  /-- REPORT (R411). A REPORT arrives (R411). -/
  | report (hdr : RelayHdr) (payload : List Byte)
  /-- ABORT (R414). An ABORT message, or a write of UPD.ABORT (R414). -/
  | abort (src : AbortSrc)
  /-- STORE_COMPLETE (R414). The inactive bank has been written and read back (R414). -/
  | storeComplete (t : Nat) (flashError : Bool)
  /-- ACTIVATE (R416). Host command 0x0902 (R416). -/
  | activate (h : CmdHdr)
  /-- TRIAL_EXPIRY (R417). The trial timer reaches 0 (R417). -/
  | trialExpiry (t : Nat)
  /-- SELFOK (R419). Resident firmware makes its self-checks; what it finds of each part (R419). -/
  | selfok (t : Nat) (loaded : List Nat) (settingsParse : Bool)
  /-- HEALTH_CONFIRM (R419). Host command 0x0903 (R419). -/
  | healthConfirm (h : CmdHdr)
  /-- MODE_SET (R424). Host command 0x0101 (R424). -/
  | modeSet (h : CmdHdr) (target : Nat)
  /-- SETTLE_EXIT (R427). The conditions for leaving SETTLE are looked at (R427). -/
  | settleExit (t : Nat)
  /-- SETTLEMAX_EXPIRY (R424). SETTLEMAX passes without servo lock (R424). -/
  | settlemaxExpiry (t : Nat)
  /-- TIME_SOURCE_LOST (R88). Firmware finds no valid time source (R88). -/
  | timeSourceLost (t : Nat)
  /-- TIME_SOURCE_RETURN (R82). A valid time source returns with an offset (R82). -/
  | timeSourceReturn (t : Nat) (offsetNs : Int)
  /-- LOCKOUT (R424). A fault that resident firmware classes as fatal (R424). -/
  | lockout (t : Nat)
  /-- DORMANT_ENTRY (R431). The entry window leads to DORMANT, or the request is cancelled (R431). -/
  | dormantEntry (t : Nat)
  /-- I2C_ADDRESS_MATCH (R432). An address appears on the I2C bus (R432). -/
  | i2cAddressMatch (t addr : Nat)
  /-- WAKE_N (R432). WAKE_N changes (R432). -/
  | wakeN (t : Nat) (low : Bool)
  /-- AON_ALARM (R432). The AON counter reaches a count (R432). -/
  | aonAlarm (t count : Nat)
  /-- WAKE (R433). A wake source reaches AON in DORMANT (R433). -/
  | wake (t : Nat)
  /-- POWER_ON_RESET (R434). RESET_N low with the AON supply rising (R434). -/
  | powerOnReset
  /-- RESET_PIN (R434). RESET_N low with the AON supply held (R434). -/
  | resetPin
  /-- DEVRST (R434). A write of SYS.RSTCMD (R434). -/
  | devrst (req : Requester) (value : Nat)
  /-- WATCHDOG_EXPIRY (R434). The watchdog expires (R434). -/
  | watchdogExpiry (t : Nat)
  /-- WDKICK (R434). A write of SYS.WDKICK (R434). -/
  | wdkick (req : Requester) (value : Nat)
  /-- STARTUP (R430). RESET_N rises and the start-up sequence runs (R430). -/
  | startup (t : Nat) (env : StartEnv)
  /-- SUPPLY_FAIL (R435). A supply falls below its operating minimum (R435). -/
  | supplyFail
  /-- PCIE_PERST (R443). PCIE_PERST_N asserts (R443). -/
  | pciePerst (t : Nat)
  /-- COMMAND_DOORBELL (R445). A write of HIF.CMDTAIL (R445). -/
  | commandDoorbell (req : Requester) (value : Nat)
  /-- COMPLETION_WRITE (R445). A completion is written to the completion ring (R445). -/
  | completionWrite (writeFails : Bool)
  /-- NOP (R447). Host command 0x0000 (R447). -/
  | nop (h : CmdHdr)
  /-- DRVVER_WRITE (R448). A write of HIF.DRVVER (R448). -/
  | drvverWrite (req : Requester) (value : Nat)
  /-- BAR2_WRITE (R441). A host write through BAR2 (R441). -/
  | bar2Write (offset : Nat) (data : List Byte)
  /-- I2C_TRANSFER (R449). An I2C transfer: the bytes written after the address, then the bytes read (R449). -/
  | i2cTransfer (written : List Byte) (readBytes : Nat)
  /-- RC_COUNTER_READ (R7). A read of an RC register, with the increments that coincide with it (R7, R8). -/
  | rcCounterRead (req : Requester) (addr coincident : Nat)
  /-- PCIE_LINK_DOWN (R342). The PCIe link goes down (R342). -/
  | pcieLinkDown (t : Nat)
  /-- PCIE_LINK_UP (R342). The PCIe link comes up (R342, R440). -/
  | pcieLinkUp (rate lanes : Nat)
  /-- CHORD_LANE_UP (R349). A Chord lane comes up (R349). -/
  | chordLaneUp (lane : Nat)
  /-- REFEREE_LOST (R371). No message from the referee for 750 us (R371). -/
  | refereeLost (t : Nat)
  /-- ACTIVE_PARTNER_TIMEOUT (R428). 750 us after leaving SETTLE without a partner in the Active role (R428). -/
  | activePartnerTimeout (t : Nat)
  /-- TB_PLL_LOCK (R90). The TB PLL achieves or regains lock (R90). -/
  | tbPllLock (t : Nat)
  /-- ALIGNMENT_EXCEPTION (R325). A misaligned access where alignment is required (R325). -/
  | alignmentException (core : Nat)
  /-- ILLEGAL_INSTRUCTION (R325). An undefined or privileged encoding (R325). -/
  | illegalInstruction (core : Nat)
  /-- IMASK_WRITE (R326). A core writes CORE.IMASK (R326). -/
  | imaskWrite (core value : Nat)
  deriving DecidableEq, Repr

end Sys2Proof
end

