-- ==== Sys2Proof/Machine/Tab.lean ====
section
/-!
DEFINITION. Sparse tables: a list of (key, value) pairs in one canonical form, with what an unlisted key reads as given by a
function of the key. Memories, register files and every indexed collection of the state are held so.
-/
namespace Sys2Proof.Machine

/-- A sparse table. -/
abbrev Tab (α : Type) := List (Nat × α)

/-- The value at key `k`; an unlisted key reads as `d k`. -/
def tget {α : Type} (d : Nat → α) : Tab α → Nat → α
  | [], k => d k
  | (k', v) :: r, k => if k = k' then v else tget d r k

/-- The table without key `k`. -/
def terase {α : Type} : Tab α → Nat → Tab α
  | [], _ => []
  | (k', v) :: r, k => if k = k' then terase r k else (k', v) :: terase r k

/-- The table with (k, v) put before the first larger key. -/
def tins {α : Type} : Tab α → Nat → α → Tab α
  | [], k, v => [(k, v)]
  | (k', w) :: r, k, v => if k < k' then (k, v) :: (k', w) :: r else (k', w) :: tins r k v

/-- The table with `v` at key `k`. A value equal to what the unlisted key reads as is not listed. -/
def tput {α : Type} [DecidableEq α] (d : Nat → α) (m : Tab α) (k : Nat) (v : α) : Tab α :=
  if v = d k then terase m k else tins (terase m k) k v

/-- Every key of the table is above `lo`. -/
def tabove {α : Type} (lo : Nat) : Tab α → Bool
  | [] => true
  | (k, _) :: r => decide (lo < k) && tabove lo r

/-- The canonical form: keys strictly rising, and no entry equal to what its key reads as when unlisted. -/
def twf {α : Type} [DecidableEq α] (d : Nat → α) : Tab α → Bool
  | [] => true
  | (k, v) :: r => decide (v ≠ d k) && tabove k r && twf d r

/-- The value at `k` changed by `f`. -/
def tmod {α : Type} [DecidableEq α] (d : Nat → α) (m : Tab α) (k : Nat) (f : α → α) : Tab α :=
  tput d m k (f (tget d m k))

/-- The table built from a list of pairs, later pairs over earlier ones. -/
def tputAll {α : Type} [DecidableEq α] (d : Nat → α) (m : Tab α) : List (Nat × α) → Tab α
  | [] => m
  | (k, v) :: r => tputAll d (tput d m k v) r

/-! A memory of bytes: an unlisted byte reads as 0. -/

/-- What a byte of memory that nothing has written reads as. DESIGN CHOICE (notes/assumptions/4): unsafe. -/
def memDefault : Nat → Byte := fun _ => 0

/-- A memory in bytes (the cells of Host.Cell). -/
abbrev Mem := Tab Byte

/-- The byte at an address. -/
def Mem.byte (m : Mem) (a : Nat) : Byte := tget memDefault m a

/-- The canonical form of a memory. -/
abbrev Mem.wf (m : Mem) : Prop := twf memDefault m = true

/-- The memory with one byte written. -/
def Mem.put (m : Mem) (a : Nat) (b : Byte) : Mem := tput memDefault m a b

/-- `n` bytes from address `a` upward. -/
def Mem.bytes (m : Mem) (a : Nat) : Nat → List Byte
  | 0 => []
  | n + 1 => m.byte a :: Mem.bytes m (a + 1) n

/-- The memory with a list of bytes written from address `a` upward. -/
def Mem.putBytes (m : Mem) (a : Nat) : List Byte → Mem
  | [] => m
  | b :: r => Mem.putBytes (m.put a b) (a + 1) r

/-- A little-endian number (device memory order, R4). -/
def leNat : List Byte → Nat
  | [] => 0
  | b :: r => b.toNat + 256 * leNat r

/-- A big-endian number (wire order, R4). -/
def beNat (l : List Byte) : Nat := leNat l.reverse

/-- `n` bytes of a number, lowest byte first. -/
def leBytes (n v : Nat) : List Byte :=
  match n with
  | 0 => []
  | n + 1 => BitVec.ofNat 8 v :: leBytes n (v / 256)

/-- `n` bytes of a number, highest byte first. -/
def beBytes (n v : Nat) : List Byte := (leBytes n v).reverse

/-- A little-endian number of `n` bytes at address `a` of a memory. -/
def Mem.le (m : Mem) (a n : Nat) : Nat := leNat (m.bytes a n)

/-- The memory with a number written little-endian in `n` bytes. -/
def Mem.putLe (m : Mem) (a n v : Nat) : Mem := m.putBytes a (leBytes n v)

/-- `n` bytes of a list from position `i`. -/
def sliceOf (l : List Byte) (i n : Nat) : List Byte := (l.drop i).take n

/-- A big-endian field of `n` bytes at position `i` of a frame. -/
def beAt (l : List Byte) (i n : Nat) : Nat := beNat (sliceOf l i n)

/-- A little-endian field of `n` bytes at position `i`. -/
def leAt (l : List Byte) (i n : Nat) : Nat := leNat (sliceOf l i n)

end Sys2Proof.Machine
end

