-- ==== Sys2Proof/Machine/Crypto.lean ====
section
/-!
DEFINITION. The checksums and cryptographic functions the spec names: CRC-CCITT (IEEE C37.118.2), CRC-32C, SHA-256, SHA-384, HMAC-SHA256,
AES-128 and AES-256, AES-GMAC, AES key unwrap (KW of NIST SP 800-38F) and ECDSA P-384 verification, on lists of bytes.
-/
namespace Sys2Proof.Machine

/-! ### Checksums -/

/-- One bit step of CRC-CCITT. -/
def crcCcittBits : Nat → Nat → Nat
  | 0, c => c
  | n + 1, c => crcCcittBits n (if c / 0x8000 = 1 then (2 * c ^^^ 0x1021) % 0x10000 else 2 * c)

/-- CRC-CCITT with start value 0xFFFF and no final inversion, as IEEE C37.118.2 uses it (R55). -/
def crcCcitt (l : List Byte) : Nat := l.foldl (fun c b => crcCcittBits 8 (c ^^^ (b.toNat * 256))) 0xFFFF

/-- One bit step of CRC-32C, reflected. -/
def crc32cBits : Nat → Nat → Nat
  | 0, c => c
  | n + 1, c => crc32cBits n (if c % 2 = 1 then c / 2 ^^^ 0x82F63B78 else c / 2)

/-- CRC-32C (Castagnoli), reflected, start value and final inversion 0xFFFFFFFF. PRESUMED parameters
(notes/assumptions/7): the spec names the code and not its parameters. -/
def crc32c (l : List Byte) : Nat := l.foldl (fun c b => crc32cBits 8 (c ^^^ b.toNat)) 0xFFFFFFFF ^^^ 0xFFFFFFFF

/-- The internet checksum sum of a list of bytes, as 16-bit words in network order, folded. -/
def inetSum : List Byte → Nat
  | [] => 0
  | [a] => a.toNat * 256
  | a :: b :: r => a.toNat * 256 + b.toNat + inetSum r

/-- A sum folded to 16 bits with end-around carry. -/
def inetFold (n : Nat) : Nat :=
  let a := n % 65536 + n / 65536
  let b := a % 65536 + a / 65536
  b % 65536 + b / 65536

/-! ### SHA-2 -/

/-- Rotate right in a word of `w` bits. -/
def rotr (w x n : Nat) : Nat := (x >>> n) ||| ((x <<< (w - n)) % 2 ^ w)

/-- The first 32 bits of the fractional parts of the cube roots of the first 64 primes. -/
def sha256K : List Nat := [
  0x428A2F98, 0x71374491, 0xB5C0FBCF, 0xE9B5DBA5, 0x3956C25B, 0x59F111F1, 0x923F82A4, 0xAB1C5ED5,
  0xD807AA98, 0x12835B01, 0x243185BE, 0x550C7DC3, 0x72BE5D74, 0x80DEB1FE, 0x9BDC06A7, 0xC19BF174,
  0xE49B69C1, 0xEFBE4786, 0xFC19DC6, 0x240CA1CC, 0x2DE92C6F, 0x4A7484AA, 0x5CB0A9DC, 0x76F988DA,
  0x983E5152, 0xA831C66D, 0xB00327C8, 0xBF597FC7, 0xC6E00BF3, 0xD5A79147, 0x6CA6351, 0x14292967,
  0x27B70A85, 0x2E1B2138, 0x4D2C6DFC, 0x53380D13, 0x650A7354, 0x766A0ABB, 0x81C2C92E, 0x92722C85,
  0xA2BFE8A1, 0xA81A664B, 0xC24B8B70, 0xC76C51A3, 0xD192E819, 0xD6990624, 0xF40E3585, 0x106AA070,
  0x19A4C116, 0x1E376C08, 0x2748774C, 0x34B0BCB5, 0x391C0CB3, 0x4ED8AA4A, 0x5B9CCA4F, 0x682E6FF3,
  0x748F82EE, 0x78A5636F, 0x84C87814, 0x8CC70208, 0x90BEFFFA, 0xA4506CEB, 0xBEF9A3F7, 0xC67178F2]

/-- The start value of SHA-256. -/
def sha256H : List Nat := [
  0x6A09E667, 0xBB67AE85, 0x3C6EF372, 0xA54FF53A, 0x510E527F, 0x9B05688C, 0x1F83D9AB, 0x5BE0CD19]

/-- The first 64 bits of the fractional parts of the cube roots of the first 80 primes. -/
def sha512K : List Nat := [
  0x428A2F98D728AE22, 0x7137449123EF65CD, 0xB5C0FBCFEC4D3B2F, 0xE9B5DBA58189DBBC, 0x3956C25BF348B538, 0x59F111F1B605D019, 0x923F82A4AF194F9B, 0xAB1C5ED5DA6D8118,
  0xD807AA98A3030242, 0x12835B0145706FBE, 0x243185BE4EE4B28C, 0x550C7DC3D5FFB4E2, 0x72BE5D74F27B896F, 0x80DEB1FE3B1696B1, 0x9BDC06A725C71235, 0xC19BF174CF692694,
  0xE49B69C19EF14AD2, 0xEFBE4786384F25E3, 0xFC19DC68B8CD5B5, 0x240CA1CC77AC9C65, 0x2DE92C6F592B0275, 0x4A7484AA6EA6E483, 0x5CB0A9DCBD41FBD4, 0x76F988DA831153B5,
  0x983E5152EE66DFAB, 0xA831C66D2DB43210, 0xB00327C898FB213F, 0xBF597FC7BEEF0EE4, 0xC6E00BF33DA88FC2, 0xD5A79147930AA725, 0x6CA6351E003826F, 0x142929670A0E6E70,
  0x27B70A8546D22FFC, 0x2E1B21385C26C926, 0x4D2C6DFC5AC42AED, 0x53380D139D95B3DF, 0x650A73548BAF63DE, 0x766A0ABB3C77B2A8, 0x81C2C92E47EDAEE6, 0x92722C851482353B,
  0xA2BFE8A14CF10364, 0xA81A664BBC423001, 0xC24B8B70D0F89791, 0xC76C51A30654BE30, 0xD192E819D6EF5218, 0xD69906245565A910, 0xF40E35855771202A, 0x106AA07032BBD1B8,
  0x19A4C116B8D2D0C8, 0x1E376C085141AB53, 0x2748774CDF8EEB99, 0x34B0BCB5E19B48A8, 0x391C0CB3C5C95A63, 0x4ED8AA4AE3418ACB, 0x5B9CCA4F7763E373, 0x682E6FF3D6B2B8A3,
  0x748F82EE5DEFB2FC, 0x78A5636F43172F60, 0x84C87814A1F0AB72, 0x8CC702081A6439EC, 0x90BEFFFA23631E28, 0xA4506CEBDE82BDE9, 0xBEF9A3F7B2C67915, 0xC67178F2E372532B,
  0xCA273ECEEA26619C, 0xD186B8C721C0C207, 0xEADA7DD6CDE0EB1E, 0xF57D4F7FEE6ED178, 0x6F067AA72176FBA, 0xA637DC5A2C898A6, 0x113F9804BEF90DAE, 0x1B710B35131C471B,
  0x28DB77F523047D84, 0x32CAAB7B40C72493, 0x3C9EBE0A15C9BEBC, 0x431D67C49C100D4C, 0x4CC5D4BECB3E42B6, 0x597F299CFC657E2A, 0x5FCB6FAB3AD6FAEC, 0x6C44198C4A475817]

/-- The start value of SHA-384. -/
def sha384H : List Nat := [
  0xCBBB9D5DC1059ED8, 0x629A292A367CD507, 0x9159015A3070DD17, 0x152FECD8F70E5939, 0x67332667FFC00B31, 0x8EB44A8768581511, 0xDB0C2E0D64F98FA7, 0x47B5481DBEFA4FA4]

/-- Padding: one bit, zeros, the bit length big-endian, to a multiple of `blk` bytes. -/
def shaPad (blk lenBytes : Nat) (l : List Byte) : List Byte :=
  let n := l.length
  let z := (blk - (n + 1 + lenBytes) % blk) % blk
  l ++ [0x80] ++ List.replicate z 0 ++ beBytes lenBytes (8 * n)

/-- Rotation and shift amounts of a SHA-2 function. -/
structure ShaPar where
  w : Nat
  rounds : Nat
  s0 : Nat × Nat × Nat
  s1 : Nat × Nat × Nat
  e0 : Nat × Nat × Nat
  e1 : Nat × Nat × Nat

def shaPar256 : ShaPar := ⟨32, 64, (7, 18, 3), (17, 19, 10), (2, 13, 22), (6, 11, 25)⟩

def shaPar512 : ShaPar := ⟨64, 80, (1, 8, 7), (19, 61, 6), (28, 34, 39), (14, 18, 41)⟩

/-- The message schedule, latest word first, grown by `n` words from the first 16 (reversed). -/
def shaSched (p : ShaPar) : Nat → List Nat → List Nat
  | 0, ws => ws
  | n + 1, ws =>
    let a := ws.getD 14 0
    let b := ws.getD 1 0
    let x := rotr p.w a p.s0.1 ^^^ rotr p.w a p.s0.2.1 ^^^ (a >>> p.s0.2.2)
    let y := rotr p.w b p.s1.1 ^^^ rotr p.w b p.s1.2.1 ^^^ (b >>> p.s1.2.2)
    shaSched p n (((ws.getD 15 0 + x + ws.getD 6 0 + y) % 2 ^ p.w) :: ws)

/-- The working variables. -/
structure ShaVars where
  a : Nat
  b : Nat
  c : Nat
  d : Nat
  e : Nat
  f : Nat
  g : Nat
  h : Nat

def shaRound (p : ShaPar) (v : ShaVars) (kw : Nat) : ShaVars :=
  let ones := 2 ^ p.w - 1
  let s1 := rotr p.w v.e p.e1.1 ^^^ rotr p.w v.e p.e1.2.1 ^^^ rotr p.w v.e p.e1.2.2
  let ch := (v.e &&& v.f) ^^^ ((v.e ^^^ ones) &&& v.g)
  let t1 := v.h + s1 + ch + kw
  let s0 := rotr p.w v.a p.e0.1 ^^^ rotr p.w v.a p.e0.2.1 ^^^ rotr p.w v.a p.e0.2.2
  let mj := (v.a &&& v.b) ^^^ (v.a &&& v.c) ^^^ (v.b &&& v.c)
  ⟨(t1 + s0 + mj) % 2 ^ p.w, v.a, v.b, v.c, (v.d + t1) % 2 ^ p.w, v.e, v.f, v.g⟩

/-- Words of `n` bytes each, big-endian. -/
def beWords (n : Nat) : Nat → List Byte → List Nat
  | 0, _ => []
  | k + 1, l => beNat (l.take n) :: beWords n k (l.drop n)

def shaBlock (p : ShaPar) (ks : List Nat) (h : List Nat) (blk : List Byte) : List Nat :=
  let ws := (shaSched p (p.rounds - 16) (beWords (p.w / 8) 16 blk).reverse).reverse
  let v0 : ShaVars := ⟨h.getD 0 0, h.getD 1 0, h.getD 2 0, h.getD 3 0, h.getD 4 0, h.getD 5 0, h.getD 6 0, h.getD 7 0⟩
  let v := (List.zipWith (· + ·) ks ws).foldl (shaRound p) v0
  List.zipWith (fun x y => (x + y) % 2 ^ p.w) h [v.a, v.b, v.c, v.d, v.e, v.f, v.g, v.h]

def shaBlocks (p : ShaPar) (ks : List Nat) (blk : Nat) : Nat → List Byte → List Nat → List Nat
  | 0, _, h => h
  | n + 1, l, h => shaBlocks p ks blk n (l.drop blk) (shaBlock p ks h (l.take blk))

/-- SHA-256 of a list of bytes, 32 bytes. -/
def sha256 (l : List Byte) : List Byte :=
  let m := shaPad 64 8 l
  ((shaBlocks shaPar256 sha256K 64 (m.length / 64) m sha256H).map (beBytes 4)).flatten

/-- SHA-384 of a list of bytes, 48 bytes. -/
def sha384 (l : List Byte) : List Byte :=
  let m := shaPad 128 16 l
  (((shaBlocks shaPar512 sha512K 128 (m.length / 128) m sha384H).take 6).map (beBytes 8)).flatten

/-- Exclusive or of two lists of bytes. -/
def xorBytes (a b : List Byte) : List Byte := List.zipWith (· ^^^ ·) a b

/-- HMAC-SHA256. -/
def hmacSha256 (key l : List Byte) : List Byte :=
  let k0 := if 64 < key.length then sha256 key else key
  let k := k0 ++ List.replicate (64 - k0.length) 0
  sha256 (k.map (· ^^^ 0x5C) ++ sha256 (k.map (· ^^^ 0x36) ++ l))

/-! ### AES -/

/-- Product in GF(2^8) with the AES polynomial. -/
def gf8Mul : Nat → Nat → Nat → Nat
  | 0, _, _ => 0
  | n + 1, a, b =>
    let r := gf8Mul n ((if a / 128 = 1 then (2 * a) ^^^ 0x11B else 2 * a)) (b / 2)
    if b % 2 = 1 then a ^^^ r else r

/-- Inverse in GF(2^8): the 254th power. -/
def gf8Inv (x : Nat) : Nat :=
  let m := gf8Mul 8
  let x2 := m x x
  let x4 := m x2 x2
  let x8 := m x4 x4
  let x16 := m x8 x8
  let x32 := m x16 x16
  let x64 := m x32 x32
  let x128 := m x64 x64
  m x2 (m x4 (m x8 (m x16 (m x32 (m x64 x128)))))

/-- The AES S-box. -/
def aesSbox (x : Nat) : Nat :=
  let b := gf8Inv x
  let r := fun n => rotr 8 b n
  b ^^^ r 4 ^^^ r 5 ^^^ r 6 ^^^ r 7 ^^^ 0x63

/-- The inverse S-box. -/
def aesInvSbox (y : Nat) : Nat :=
  gf8Inv (rotr 8 y 2 ^^^ rotr 8 y 5 ^^^ rotr 8 y 7 ^^^ 0x05)

def subWord (w : List Nat) : List Nat := w.map aesSbox

/-- Key schedule: words of 4 bytes, latest first; `nk` words of key, index `i` of the next word. -/
def aesExpand (nk : Nat) : Nat → Nat → Nat → List (List Nat) → List (List Nat)
  | 0, _, _, ws => ws
  | n + 1, i, rcon, ws =>
    let t := ws.headD []
    let old := ws.getD (nk - 1) []
    if i % nk = 0 then
      let s := subWord (t.drop 1 ++ t.take 1)
      let u := List.zipWith (· ^^^ ·) s [rcon, 0, 0, 0]
      aesExpand nk n (i + 1) (gf8Mul 8 rcon 2) (List.zipWith (· ^^^ ·) old u :: ws)
    else if 6 < nk && i % nk = 4 then
      aesExpand nk n (i + 1) rcon (List.zipWith (· ^^^ ·) old (subWord t) :: ws)
    else aesExpand nk n (i + 1) rcon (List.zipWith (· ^^^ ·) old t :: ws)

/-- Groups of `n`, `k` of them. -/
def groupsOf {α : Type} (n : Nat) : Nat → List α → List (List α)
  | 0, _ => []
  | k + 1, l => l.take n :: groupsOf n k (l.drop n)

/-- Round keys of 16 bytes, first to last. -/
def aesKeys (key : List Byte) : List (List Nat) :=
  let nk := key.length / 4
  let w0 := groupsOf 4 nk (key.map (·.toNat))
  let ws := (aesExpand nk (4 * (nk + 7) - nk) nk 1 w0.reverse).reverse
  (groupsOf 4 (nk + 7) ws).map (·.flatten)

def shiftRows (s : List Nat) : List Nat :=
  [0, 5, 10, 15, 4, 9, 14, 3, 8, 13, 2, 7, 12, 1, 6, 11].map (fun i => s.getD i 0)

def invShiftRows (s : List Nat) : List Nat :=
  [0, 13, 10, 7, 4, 1, 14, 11, 8, 5, 2, 15, 12, 9, 6, 3].map (fun i => s.getD i 0)

/-- A column multiplied by the circulant matrix of `c`. -/
def mixCol (c : List Nat) (col : List Nat) : List Nat :=
  [0, 1, 2, 3].map (fun r =>
    ([0, 1, 2, 3].map (fun k => gf8Mul 8 (col.getD k 0) (c.getD ((k + 4 - r) % 4) 0))).foldl (· ^^^ ·) 0)

def mixCols (c s : List Nat) : List Nat := ((groupsOf 4 4 s).map (mixCol c)).flatten

def addKey (s k : List Nat) : List Nat := List.zipWith (· ^^^ ·) s k

/-- Encryption rounds over the remaining round keys. -/
def aesRounds : List (List Nat) → List Nat → List Nat
  | [], s => s
  | [k], s => addKey (shiftRows (s.map aesSbox)) k
  | k :: ks, s => aesRounds ks (addKey (mixCols [2, 3, 1, 1] (shiftRows (s.map aesSbox))) k)

/-- AES encryption of one block. -/
def aesEnc (key blk : List Byte) : List Byte :=
  match aesKeys key with
  | [] => blk
  | k :: ks => (aesRounds ks (addKey (blk.map (·.toNat)) k)).map (BitVec.ofNat 8)

/-- Decryption rounds over the round keys, last first. -/
def aesInvRounds : List (List Nat) → List Nat → List Nat
  | [], s => s
  | [k], s => addKey ((invShiftRows s).map aesInvSbox) k
  | k :: ks, s => aesInvRounds ks (mixCols [14, 11, 13, 9] (addKey ((invShiftRows s).map aesInvSbox) k))

/-- AES decryption of one block. -/
def aesDec (key blk : List Byte) : List Byte :=
  match (aesKeys key).reverse with
  | [] => blk
  | k :: ks => (aesInvRounds ks (addKey (blk.map (·.toNat)) k)).map (BitVec.ofNat 8)

/-- Product in the field of GHASH, `n` bits of `x` left. -/
def ghashMul : Nat → Nat → Nat → Nat → Nat
  | 0, _, _, z => z
  | n + 1, x, v, z =>
    let z' := if (x >>> n) % 2 = 1 then z ^^^ v else z
    let v' := if v % 2 = 1 then (v / 2) ^^^ (0xE1 * 2 ^ 120) else v / 2
    ghashMul n x v' z'

/-- GHASH over 16-byte blocks. -/
def ghash (h : Nat) (blocks : List (List Byte)) : Nat :=
  blocks.foldl (fun y b => ghashMul 128 (y ^^^ beNat b) h 0) 0

/-- AES-GMAC: the 16-byte tag over `aad` under a 12-byte IV (GCM with no plaintext). -/
def aesGmac (key iv aad : List Byte) : List Byte :=
  let h := beNat (aesEnc key (List.replicate 16 0))
  let pad := aad ++ List.replicate ((16 - aad.length % 16) % 16) 0
  let s := ghash h (groupsOf 16 (pad.length / 16) pad ++ [beBytes 16 (8 * aad.length * 2 ^ 64)])
  beBytes 16 (s ^^^ beNat (aesEnc key (iv ++ beBytes 4 1)))

/-- One unwrap step after another, t from `t` down; blocks R in order. -/
def kwSteps (key : List Byte) (n : Nat) : Nat → List Byte → List (List Byte) → List Byte × List (List Byte)
  | 0, a, r => (a, r)
  | t + 1, a, r =>
    let i := t % n
    let b := aesDec key (xorBytes a (beBytes 8 (t + 1)) ++ r.getD i [])
    kwSteps key n t (b.take 8) (r.set i (b.drop 8))

/-- AES key unwrap: the key data, none when the integrity check fails. -/
def aesUnwrap (key wrapped : List Byte) : Option (List Byte) :=
  let n := wrapped.length / 8 - 1
  let (a, r) := kwSteps key n (6 * n) (wrapped.take 8) (groupsOf 8 n (wrapped.drop 8))
  if a = List.replicate 8 0xA6 then some r.flatten else none

/-! ### ECDSA P-384 -/

def p384P : Nat := 2 ^ 384 - 2 ^ 128 - 2 ^ 96 + 2 ^ 32 - 1

def p384N : Nat := 0xFFFFFFFFFFFFFFFFFFFFFFFFFFFFFFFFFFFFFFFFFFFFFFFFC7634D81F4372DDF581A0DB248B0A77AECEC196ACCC52973

def p384B : Nat := 0xB3312FA7E23EE7E4988E056BE3F82D19181D9C6EFE8141120314088F5013875AC656398D8A2ED19D2A85C8EDD3EC2AEF

def p384G : Nat × Nat := (0xAA87CA22BE8B05378EB1C71EF320AD746E1D3B628BA79B9859F741E082542A385502F25DBF55296C3A545E3872760AB7, 0x3617DE4A96262C6F5D9E98BF9292DC29F8F41DBD289A147CE9DA3113B5F0B8C00A60B1CE1D7E819D7A431D7C90EA0E5F)

/-- a * b^(-1) chain: modular power with the exponent's bits from `n` down. -/
def powMod (m b : Nat) : Nat → Nat → Nat → Nat
  | 0, _, r => r
  | n + 1, e, r =>
    let q := r * r % m
    powMod m b n e (if (e >>> n) % 2 = 1 then q * b % m else q)

/-- Inverse modulo a prime of 384 bits. -/
def invMod (m a : Nat) : Nat := powMod m (a % m) 384 (m - 2) 1

def subMod (m a b : Nat) : Nat := (a + (m - b % m)) % m

/-- Sum of two points of the curve; none is the point at infinity. -/
def ecAdd : Option (Nat × Nat) → Option (Nat × Nat) → Option (Nat × Nat)
  | none, q => q
  | p, none => p
  | some (x1, y1), some (x2, y2) =>
    let m := p384P
    if x1 = x2 && (y1 + y2) % m = 0 then none
    else
      let l := if x1 = x2 then (3 * x1 * x1 + (m - 3)) * invMod m (2 * y1) % m
        else subMod m y2 y1 * invMod m (subMod m x2 x1) % m
      let x3 := subMod m (subMod m (l * l % m) x1) x2
      some (x3, subMod m (l * subMod m x1 x3 % m) y1)

/-- A multiple of a point, the scalar's bits from `n` down. -/
def ecMul (p : Option (Nat × Nat)) (k : Nat) : Nat → Option (Nat × Nat) → Option (Nat × Nat)
  | 0, acc => acc
  | n + 1, acc =>
    let d := ecAdd acc acc
    ecMul p k n (if (k >>> n) % 2 = 1 then ecAdd d p else d)

/-- Whether (r, s) is a signature of a SHA-384 digest under a public key. -/
def ecdsaVerify (pub : Nat × Nat) (digest : List Byte) (r s : Nat) : Bool :=
  if r = 0 || s = 0 || p384N ≤ r || p384N ≤ s then false
  else
    let w := invMod p384N s
    let u1 := beNat digest * w % p384N
    let u2 := r * w % p384N
    match ecAdd (ecMul (some p384G) u1 384 none) (ecMul (some pub) u2 384 none) with
    | none => false
    | some (x, _) => x % p384N == r

end Sys2Proof.Machine
end

