-- ==== Sys2Proof/Machine/Float.lean ====
section
/-!
DEFINITION. Binary floating-point arithmetic of IEEE 754 on the bits of the numbers: exact integers inside, one rounding to
nearest, ties to even, at the end.
-/
namespace Sys2Proof.Machine

/-- A binary format: exponent bits and fraction bits. -/
structure FFmt where
  ebits : Nat
  mbits : Nat
  deriving DecidableEq, Repr

/-- binary32. -/
def fmt32 : FFmt := ⟨8, 23⟩

/-- binary64. -/
def fmt64 : FFmt := ⟨11, 52⟩

/-- Exponent bias. -/
def FFmt.bias (f : FFmt) : Nat := 2 ^ (f.ebits - 1) - 1

/-- The bits of +infinity. -/
def FFmt.infBits (f : FFmt) : Nat := (2 ^ f.ebits - 1) * 2 ^ f.mbits

/-- The sign bit's weight. -/
def FFmt.signBit (f : FFmt) : Nat := 2 ^ (f.ebits + f.mbits)

/-- A number of a binary format, taken apart: a finite value is (-1)^neg * m * 2^e. -/
inductive FVal where
  | nan
  | inf (neg : Bool)
  | fin (neg : Bool) (m : Nat) (e : Int)
  deriving DecidableEq, Repr

/-- The value that bits stand for. -/
def FFmt.decode (f : FFmt) (x : Nat) : FVal :=
  let neg := x / f.signBit % 2 = 1
  let ex := x / 2 ^ f.mbits % 2 ^ f.ebits
  let fr := x % 2 ^ f.mbits
  if ex = 2 ^ f.ebits - 1 then (if fr = 0 then .inf neg else .nan)
  else if ex = 0 then .fin neg fr (1 - (f.bias : Int) - f.mbits)
  else .fin neg (fr + 2 ^ f.mbits) ((ex : Int) - f.bias - f.mbits)

/-- num / den rounded to the nearest integer, ties to even. -/
def divRne (num den : Nat) : Nat :=
  let q := num / den
  let r := num % den
  if 2 * r < den then q else if den < 2 * r then q + 1 else q + q % 2

/-- The bits of (-1)^neg * num / den * 2^e, rounded to nearest, ties to even. -/
def FFmt.round (f : FFmt) (neg : Bool) (num den : Nat) (e : Int) : Nat :=
  let s := if neg then f.signBit else 0
  if num = 0 then s
  else
    let k0 : Int := (Nat.log2 num : Int) - Nat.log2 den
    let low := if 0 ≤ k0 then num < den * 2 ^ k0.toNat else num * 2 ^ (-k0).toNat < den
    let k := (if low then k0 - 1 else k0) + e
    let emin : Int := 1 - (f.bias : Int) - f.mbits
    let q := if k - f.mbits < emin then emin else k - f.mbits
    let sh := e - q
    let m := if 0 ≤ sh then divRne (num * 2 ^ sh.toNat) den else divRne num (den * 2 ^ (-sh).toNat)
    if m < 2 ^ f.mbits then s + m
    else
      let b := (q + f.bias + f.mbits).toNat * 2 ^ f.mbits + (m - 2 ^ f.mbits)
      s + (if f.infBits ≤ b then f.infBits else b)

/-- A quiet NaN. -/
def FFmt.nan (f : FFmt) : Nat := f.infBits + 2 ^ (f.mbits - 1)

/-- The bits of an integer, rounded. -/
def FFmt.ofInt (f : FFmt) (i : Int) : Nat := f.round (i < 0) i.natAbs 1 0

/-- The bits of num / den (a rational number), rounded. -/
def FFmt.ofRat (f : FFmt) (num : Int) (den : Nat) : Nat := f.round (num < 0) num.natAbs den 0

/-- Whether the bits are a finite number. -/
def FFmt.isFin (f : FFmt) (x : Nat) : Bool := x / 2 ^ f.mbits % 2 ^ f.ebits != 2 ^ f.ebits - 1

/-- Whether the bits are a NaN. -/
def FFmt.isNan (f : FFmt) (x : Nat) : Bool := !f.isFin x && x % 2 ^ f.mbits != 0

/-- The signed mantissa. -/
def signedMant (neg : Bool) (m : Nat) : Int := if neg then -(m : Int) else m

/-- Negation. -/
def FFmt.neg (f : FFmt) (x : Nat) : Nat := if x / f.signBit % 2 = 1 then x - f.signBit else x + f.signBit

/-- Magnitude. -/
def FFmt.abs (f : FFmt) (x : Nat) : Nat := x % f.signBit

/-- Sum. -/
def FFmt.add (f : FFmt) (x y : Nat) : Nat :=
  match f.decode x, f.decode y with
  | .nan, _ => f.nan
  | _, .nan => f.nan
  | .inf a, .inf b => if a = b then x else f.nan
  | .inf _, _ => x
  | _, .inf _ => y
  | .fin s m e, .fin s' m' e' =>
    let q := if e < e' then e else e'
    let v := signedMant s m * 2 ^ (e - q).toNat + signedMant s' m' * 2 ^ (e' - q).toNat
    if v = 0 then (if s && s' then f.signBit else 0) else f.round (v < 0) v.natAbs 1 q

/-- Difference. -/
def FFmt.sub (f : FFmt) (x y : Nat) : Nat := if f.isNan y then f.nan else f.add x (f.neg y)

/-- Product. -/
def FFmt.mul (f : FFmt) (x y : Nat) : Nat :=
  match f.decode x, f.decode y with
  | .nan, _ => f.nan
  | _, .nan => f.nan
  | .inf a, .inf b => if a = b then f.infBits else f.signBit + f.infBits
  | .inf a, .fin b m _ => if m = 0 then f.nan else if a = b then f.infBits else f.signBit + f.infBits
  | .fin b m _, .inf a => if m = 0 then f.nan else if a = b then f.infBits else f.signBit + f.infBits
  | .fin s m e, .fin s' m' e' => f.round (s != s') (m * m') 1 (e + e')

/-- Quotient. -/
def FFmt.div (f : FFmt) (x y : Nat) : Nat :=
  match f.decode x, f.decode y with
  | .nan, _ => f.nan
  | _, .nan => f.nan
  | .inf _, .inf _ => f.nan
  | .inf a, .fin b _ _ => if a = b then f.infBits else f.signBit + f.infBits
  | .fin a _ _, .inf b => if a = b then 0 else f.signBit
  | .fin s m e, .fin s' m' e' =>
    if m' = 0 then (if m = 0 then f.nan else if s = s' then f.infBits else f.signBit + f.infBits)
    else f.round (s != s') m m' (e - e')

/-- Integer square root by binary digits, from bit `n` down. -/
def isqrtFrom : Nat → Nat → Nat → Nat
  | 0, _, r => r
  | n + 1, x, r => if (r + 2 ^ n) * (r + 2 ^ n) ≤ x then isqrtFrom n x (r + 2 ^ n) else isqrtFrom n x r

/-- The largest r with r * r ≤ x. -/
def isqrt (x : Nat) : Nat := isqrtFrom (Nat.log2 x / 2 + 1) x 0

/-- Square root. -/
def FFmt.sqrt (f : FFmt) (x : Nat) : Nat :=
  match f.decode x with
  | .nan => f.nan
  | .inf s => if s then f.nan else x
  | .fin s m e =>
    if m = 0 then x
    else if s then f.nan
    else
      -- scale so that the root has more than enough bits; a sticky bit keeps the rounding exact
      let g := 2 * f.mbits + 8
      let m2 := if e % 2 = 0 then m * 2 ^ (2 * g) else m * 2 ^ (2 * g + 1)
      let e2 := (if e % 2 = 0 then e else e - 1) / 2 - g
      let r := isqrt m2
      f.round false (2 * r + (if r * r = m2 then 0 else 1)) 2 e2

/-- Whether x < y; false when one is a NaN. -/
def FFmt.lt (f : FFmt) (x y : Nat) : Bool :=
  match f.decode x, f.decode y with
  | .nan, _ => false
  | _, .nan => false
  | .inf a, .inf b => a && !b
  | .inf a, .fin _ _ _ => a
  | .fin _ _ _, .inf b => !b
  | .fin s m e, .fin s' m' e' =>
    let q := if e < e' then e else e'
    decide (signedMant s m * 2 ^ (e - q).toNat < signedMant s' m' * 2 ^ (e' - q).toNat)

/-- Whether x ≤ y; false when one is a NaN. -/
def FFmt.le (f : FFmt) (x y : Nat) : Bool := !f.isNan x && !f.isNan y && !f.lt y x

/-- The value as an exact rational (numerator, denominator); infinities and NaNs give 0. -/
def FFmt.toRat (f : FFmt) (x : Nat) : Int × Nat :=
  match f.decode x with
  | .fin s m e => if 0 ≤ e then (signedMant s m * 2 ^ e.toNat, 1) else (signedMant s m, 2 ^ (-e).toNat)
  | _ => (0, 1)

/-- The greatest integer not above the value. -/
def FFmt.floor (f : FFmt) (x : Nat) : Int := let (n, d) := f.toRat x; n / (d : Int)

/-- The nearest integer, halves away from zero. -/
def ratRound (n : Int) (d : Nat) : Int :=
  if 0 ≤ n then (2 * n + d) / (2 * (d : Int)) else -((2 * (-n) + d) / (2 * (d : Int)))

/-- The value of a binary32 as a binary64 (exact). -/
def f32to64 (x : Nat) : Nat :=
  match fmt32.decode x with
  | .nan => fmt64.nan
  | .inf s => (if s then fmt64.signBit else 0) + fmt64.infBits
  | .fin s m e => fmt64.round s m 1 e

/-- A binary64 rounded to binary32. -/
def f64to32 (x : Nat) : Nat :=
  match fmt64.decode x with
  | .nan => fmt32.nan
  | .inf s => (if s then fmt32.signBit else 0) + fmt32.infBits
  | .fin s m e => fmt32.round s m 1 e

end Sys2Proof.Machine
end

