-- ==== Sys2Proof/Config.lean ====
section
/-!
DEFINITION. What an implementation fixes and what the spec leaves open: constants without a body, so that no proof
can see a value of one.
-/
namespace Sys2Proof.Config

/-- The value set at manufacture (fuses, boot flash, straps) of the register at an address, where its table says
'From fuses', 'From flash', 'From straps' or 'Set at manufacture'. -/
opaque madeValue : Nat → BitVec 32

/-- Key material that the fuses give slots 0 and 1 (R394). -/
opaque fuseKey : Nat → List Byte

/-- The 128-bit challenge formed from the TB count and LDG.ATTACHES (R373 does not say how). -/
opaque challenge : Nat → Nat → List Byte

/-- The ECDSA P-384 public key of index 0-3 held in fuses, and whether it is revoked there (R395, R415). -/
opaque fusePubKey : Nat → Nat × Nat

opaque fuseRevoked : Nat → Bool

/-- The hash slot of a stream key (FMT, SRCADDR, UDPPORT, SRCID) in the table of 32 768 slots; R75 names no hash. -/
opaque streamHash : Nat → Nat → Nat → Nat → Nat

/-- The whole number that a free draw of the model's counter stands for (notes/assumptions/3). -/
opaque freeNat : Nat → Nat

/-- The TimeAccuracy bits of an IEC 61850 UtcTime for a time quality code (R218 gives no table). -/
opaque timeAccuracy : Nat → Nat

/-- The device's own IP address on a port, IPv4 or IPv6, and the time to live of the datagrams it sends (R220 states neither). -/
opaque ownIp : Nat → Bool → Nat

opaque ipTtl : Nat

/-- A band sample from its decimation and the input samples its filter covers, oldest first; binary32 (R188 fixes the filter's
properties, not its taps). -/
opaque bandFilter : Nat → List Nat → Nat

/-- The poles of the autoregressive model fitted to the normalised columns, each with its residue in every column, as (real,
imaginary) binary32 (R191 gives the method, not the order of its arithmetic). -/
opaque modalFit : List (List (Option Nat)) → List ((Nat × Nat) × List (Nat × Nat))

/-- A coefficient of the reference bank of a table (0 FIR, 1 resampler) as its 24-bit word (R253 gives its response, not its numbers). -/
opaque refCoef : Nat → Nat → Nat

/-- The local phasor of one channel as binary32 real and imaginary part, from SCALE, f_nom, samples per cycle and the window's samples,
oldest first (R261 gives what it estimates, not the arithmetic). -/
opaque phasorEst : Nat → Nat → Nat → List Int → Nat × Nat

/-- FREQ and DFREQ of the local phasor as binary32, from f_nom, samples per cycle and the windows it is taken from (R261). -/
opaque freqEst : Nat → Nat → List (List Int) → Nat × Nat

/-- The fundamental phasors of a metering cycle and f_m (R268): from f_nom, SPC and the samples of cycles k - 1, k and k + 1 of the first
voltage channel, f_m as binary64; and from f_m, SPC and the samples of a channel, its RMS phasor in units of the sample word as two
binary64 values. -/
opaque meterFreq : Nat → Nat → List Int → Nat

opaque meterPhasor : Nat → Nat → List Int → Nat × Nat

/-- Whether the resident firmware supports a kernel library version (R318, code 0x09). -/
opaque klibSupported : Nat → Bool

/-- Whether a kernel accepts a parameter bank of a number of bytes (R318, code 0x0F). -/
opaque blenOk : Nat → Nat → Bool

/-- The tile SRAM that step 5 of an image load writes, from the body of the TILE record and of the tile's BANK record (R317): where
microcode and banks lie in it is opaque. -/
opaque tileSram : List Byte → List Byte → List Byte

/-- What a parameter bank of a detector or modal tile (kernel, instance, bytes) holds, as the views of R183 and R205 show it: (register
address, none, [value]) or (index, table, entry words). -/
opaque bankContent : Nat → Nat → List Byte → List (Nat × Option Nat × List Nat)

end Sys2Proof.Config
end

