-- ==== Sys2Proof/Machine/Registers.lean ====
section
/-!
DEFINITION. The register map: every register of every block window (Tables 02-5, 03-9, 04-7, 05-6, 06-5, 07-10,
08-5, 09-10, 10-9, 11-7, 12-7, 13-7, 14-8, 15-11, 16-7, 16-9, 17-9, 18-7, 19-5, 20-9, 21-6, 22-9 and the NOC table), its
address, its access type, its reset value, its fields and the range stated for each.
-/
namespace Sys2Proof.Machine

/-- Access types of R7. -/
inductive Acc where
  | rw | ro | w1c | w1s | wo | rc | rwl
  deriving DecidableEq, Repr

/-- A field of a register: its lowest bit and its width (R3, bit ranges are msb:lsb). -/
structure Fld where
  lo : Nat
  width : Nat
  deriving DecidableEq, Repr

/-- A field as a register table gives it: place, access type, lowest and highest value it may be given. -/
structure FieldDef where
  fld : Fld
  acc : Acc
  min : Nat
  max : Nat
  deriving DecidableEq, Repr

/-- One row of a register table. An array row has its index ranges in `dims` as (first index, count, stride), widest
stride first; the register of indices i, j, ... lies at `addr + stride * i + stride' * j + ...`.
`madeAt` marks a value set at manufacture (fuses, flash, straps), for which the tables give no number. -/
structure RegDef where
  addr : Nat
  dims : List (Nat × Nat × Nat)
  reset : Nat
  madeAt : Bool
  alignLog : Nat
  aon : Bool
  fields : List FieldDef
  deriving DecidableEq, Repr

/-! The addresses. An index of an array row counts from its first index and wraps at its last: no index reaches another row. -/

namespace Reg
/-- SYS.ID (R436). -/
def SYS_ID : Nat := 0x10000000
/-- SYS.MODE (R436). -/
def SYS_MODE : Nat := 0x10000004
/-- SYS.ERRSTAT (R436). -/
def SYS_ERRSTAT : Nat := 0x10000008
/-- SYS.BOOTSTAT (R436). -/
def SYS_BOOTSTAT : Nat := 0x1000000C
/-- SYS.BOOTCFG (R436). -/
def SYS_BOOTCFG : Nat := 0x10000010
/-- SYS.SETTLEMIN (R436). -/
def SYS_SETTLEMIN : Nat := 0x10000014
/-- SYS.SETTLEMAX (R436). -/
def SYS_SETTLEMAX : Nat := 0x10000018
/-- SYS.PWRREQ (R436). -/
def SYS_PWRREQ : Nat := 0x10000020
/-- SYS.AONPEND (R436). -/
def SYS_AONPEND : Nat := 0x10000024
/-- SYS.AONCNTLO (R436). -/
def SYS_AONCNTLO : Nat := 0x10000028
/-- SYS.AONCNTHI (R436). -/
def SYS_AONCNTHI : Nat := 0x1000002C
/-- SYS.AONALMLO (R436). -/
def SYS_AONALMLO : Nat := 0x10000030
/-- SYS.AONALMHI (R436). -/
def SYS_AONALMHI : Nat := 0x10000034
/-- SYS.WAKESRC (R436). -/
def SYS_WAKESRC : Nat := 0x10000038
/-- SYS.RSTCAUSE (R436). -/
def SYS_RSTCAUSE : Nat := 0x1000003C
/-- SYS.RSTCMD (R436). -/
def SYS_RSTCMD : Nat := 0x10000040
/-- SYS.WDOG (R436). -/
def SYS_WDOG : Nat := 0x10000044
/-- SYS.WDKICK (R436). -/
def SYS_WDKICK : Nat := 0x10000048
/-- SYS.TRIMRELOAD (R436). -/
def SYS_TRIMRELOAD : Nat := 0x1000004C
/-- SYS.CMD (R436). -/
def SYS_CMD : Nat := 0x10000050
/-- SYS.I2CADDR (R436). -/
def SYS_I2CADDR : Nat := 0x10000054
/-- SYS.TRANSITIONS (R436). -/
def SYS_TRANSITIONS : Nat := 0x10000100
/-- SYS.REFUSALS (R436). -/
def SYS_REFUSALS : Nat := 0x10000104
/-- SYS.WAKES (R436). -/
def SYS_WAKES : Nat := 0x10000108
/-- SYS.WAKELOST (R436). -/
def SYS_WAKELOST : Nat := 0x1000010C
/-- TB.CTL (R105). -/
def TB_CTL : Nat := 0x10100000
/-- TB.STAT (R105). -/
def TB_STAT : Nat := 0x10100004
/-- TB.INCRF (R105). -/
def TB_INCRF : Nat := 0x10100008
/-- TB.INCRI (R105). -/
def TB_INCRI : Nat := 0x1010000C
/-- TB.NOWNS (R105). -/
def TB_NOWNS : Nat := 0x10100010
/-- TB.NOWSLO (R105). -/
def TB_NOWSLO : Nat := 0x10100014
/-- TB.NOWSHI (R105). -/
def TB_NOWSHI : Nat := 0x10100018
/-- TB.NOWSUB (R105). -/
def TB_NOWSUB : Nat := 0x1010001C
/-- TB.NOW64LO (R105). -/
def TB_NOW64LO : Nat := 0x10100020
/-- TB.NOW64HI (R105). -/
def TB_NOW64HI : Nat := 0x10100024
/-- TB.SETSLO (R105). -/
def TB_SETSLO : Nat := 0x10100030
/-- TB.SETSHI (R105). -/
def TB_SETSHI : Nat := 0x10100034
/-- TB.SETNS (R105). -/
def TB_SETNS : Nat := 0x10100038
/-- TB.ADJNS (R105). -/
def TB_ADJNS : Nat := 0x1010003C
/-- TB.STEPCMD (R105). -/
def TB_STEPCMD : Nat := 0x10100040
/-- TB.STEPCNT (R105). -/
def TB_STEPCNT : Nat := 0x10100044
/-- TB.UTCOFF (R105). -/
def TB_UTCOFF : Nat := 0x10100050
/-- TB.LEAPSLO (R105). -/
def TB_LEAPSLO : Nat := 0x10100054
/-- TB.LEAPSHI (R105). -/
def TB_LEAPSHI : Nat := 0x10100058
/-- TB.TQ (R105). -/
def TB_TQ : Nat := 0x10100060
/-- TB.HOLDERR (R105). -/
def TB_HOLDERR : Nat := 0x10100064
/-- TB.ERRSTAT (R105). -/
def TB_ERRSTAT : Nat := 0x10100070
/-- TB.ECHOLO (R105). -/
def TB_ECHOLO : Nat := 0x10100080
/-- TB.ECHOHI (R105). -/
def TB_ECHOHI : Nat := 0x10100084
/-- TB.IRIGCFG (R105). -/
def TB_IRIGCFG : Nat := 0x10100090
/-- TB.IRIGSTAT (R105). -/
def TB_IRIGSTAT : Nat := 0x10100094
/-- TB.IRIGTOD (R105). -/
def TB_IRIGTOD : Nat := 0x10100098
/-- TB.IRIGYR (R105). -/
def TB_IRIGYR : Nat := 0x1010009C
/-- TB.CMPnCTL (R105). -/
def TB_CMPnCTL (n : Nat) : Nat := 0x10100100 + 0x20 * (n % 32)
/-- TB.CMPnTGT (R105). -/
def TB_CMPnTGT (n : Nat) : Nat := 0x10100104 + 0x20 * (n % 32)
/-- TB.CMPnTGTF (R105). -/
def TB_CMPnTGTF (n : Nat) : Nat := 0x10100108 + 0x20 * (n % 32)
/-- TB.CMPnPER (R105). -/
def TB_CMPnPER (n : Nat) : Nat := 0x1010010C + 0x20 * (n % 32)
/-- TB.CMPnPERF (R105). -/
def TB_CMPnPERF (n : Nat) : Nat := 0x10100110 + 0x20 * (n % 32)
/-- TB.CMPnSTAT (R105). -/
def TB_CMPnSTAT (n : Nat) : Nat := 0x10100114 + 0x20 * (n % 32)
/-- TB.CMPnCNT (R105). -/
def TB_CMPnCNT (n : Nat) : Nat := 0x10100118 + 0x20 * (n % 32)
/-- TB.CMPnSKIP (R105). -/
def TB_CMPnSKIP (n : Nat) : Nat := 0x1010011C + 0x20 * (n % 32)
/-- TB.TPOmCFG (R105). -/
def TB_TPOmCFG (m : Nat) : Nat := 0x10100500 + 0x10 * (m % 8)
/-- TB.TPOmWIDTH (R105). -/
def TB_TPOmWIDTH (m : Nat) : Nat := 0x10100504 + 0x10 * (m % 8)
/-- TB.TDCkCFG (R105). -/
def TB_TDCkCFG (k : Nat) : Nat := 0x10100600 + 0x10 * (k % 8)
/-- TB.TDCkLO (R105). -/
def TB_TDCkLO (k : Nat) : Nat := 0x10100604 + 0x10 * (k % 8)
/-- TB.TDCkHI (R105). -/
def TB_TDCkHI (k : Nat) : Nat := 0x10100608 + 0x10 * (k % 8)
/-- TB.TDCkDROP (R105). -/
def TB_TDCkDROP (k : Nat) : Nat := 0x1010060C + 0x10 * (k % 8)
/-- ETH.PnCTL (R49). -/
def ETH_PnCTL (n : Nat) : Nat := 0x10200000 + 0x1000 * (n % 8)
/-- ETH.PnSTAT (R49). -/
def ETH_PnSTAT (n : Nat) : Nat := 0x10200004 + 0x1000 * (n % 8)
/-- ETH.PnMACLO (R49). -/
def ETH_PnMACLO (n : Nat) : Nat := 0x10200008 + 0x1000 * (n % 8)
/-- ETH.PnMACHI (R49). -/
def ETH_PnMACHI (n : Nat) : Nat := 0x1020000C + 0x1000 * (n % 8)
/-- ETH.PnRXCFG (R49). -/
def ETH_PnRXCFG (n : Nat) : Nat := 0x10200010 + 0x1000 * (n % 8)
/-- ETH.PnPREEMPT (R49). -/
def ETH_PnPREEMPT (n : Nat) : Nat := 0x10200018 + 0x1000 * (n % 8)
/-- ETH.PnPREEMPTSTAT (R49). -/
def ETH_PnPREEMPTSTAT (n : Nat) : Nat := 0x1020001C + 0x1000 * (n % 8)
/-- ETH.PnTSLATRX (R49). -/
def ETH_PnTSLATRX (n : Nat) : Nat := 0x10200020 + 0x1000 * (n % 8)
/-- ETH.PnTSLATTX (R49). -/
def ETH_PnTSLATTX (n : Nat) : Nat := 0x10200024 + 0x1000 * (n % 8)
/-- ETH.PnTXTSLO (R49). -/
def ETH_PnTXTSLO (n : Nat) : Nat := 0x10200028 + 0x1000 * (n % 8)
/-- ETH.PnTXTSHI (R49). -/
def ETH_PnTXTSHI (n : Nat) : Nat := 0x1020002C + 0x1000 * (n % 8)
/-- ETH.PnERRSTAT (R49). -/
def ETH_PnERRSTAT (n : Nat) : Nat := 0x10200030 + 0x1000 * (n % 8)
/-- ETH.PnRXOK (R49). -/
def ETH_PnRXOK (n : Nat) : Nat := 0x10200040 + 0x1000 * (n % 8)
/-- ETH.PnRXOVFN (R49). -/
def ETH_PnRXOVFN (n : Nat) : Nat := 0x10200044 + 0x1000 * (n % 8)
/-- ETH.PnRXOVFH (R49). -/
def ETH_PnRXOVFH (n : Nat) : Nat := 0x10200048 + 0x1000 * (n % 8)
/-- ETH.PnRXFCS (R49). -/
def ETH_PnRXFCS (n : Nat) : Nat := 0x1020004C + 0x1000 * (n % 8)
/-- ETH.PnRXLEN (R49). -/
def ETH_PnRXLEN (n : Nat) : Nat := 0x10200050 + 0x1000 * (n % 8)
/-- ETH.PnRXFILT (R49). -/
def ETH_PnRXFILT (n : Nat) : Nat := 0x10200054 + 0x1000 * (n % 8)
/-- ETH.PnRXPAUSE (R49). -/
def ETH_PnRXPAUSE (n : Nat) : Nat := 0x10200058 + 0x1000 * (n % 8)
/-- ETH.PnRXSMD (R49). -/
def ETH_PnRXSMD (n : Nat) : Nat := 0x1020005C + 0x1000 * (n % 8)
/-- ETH.PnTXOK (R49). -/
def ETH_PnTXOK (n : Nat) : Nat := 0x10200060 + 0x1000 * (n % 8)
/-- ETH.PnTXFRAG (R49). -/
def ETH_PnTXFRAG (n : Nat) : Nat := 0x10200064 + 0x1000 * (n % 8)
/-- ETH.PnTXDROPE (R49). -/
def ETH_PnTXDROPE (n : Nat) : Nat := 0x10200068 + 0x1000 * (n % 8)
/-- ETH.PnLINKDN (R49). -/
def ETH_PnLINKDN (n : Nat) : Nat := 0x1020006C + 0x1000 * (n % 8)
/-- ETH.PnMCLOk (R49). -/
def ETH_PnMCLOk (n : Nat) (k : Nat) : Nat := 0x10200100 + 0x1000 * (n % 8) + 0x8 * (k % 16)
/-- ETH.PnMCHIk (R49). -/
def ETH_PnMCHIk (n : Nat) (k : Nat) : Nat := 0x10200104 + 0x1000 * (n % 8) + 0x8 * (k % 16)
/-- ETH.PnVLFk (R49). -/
def ETH_PnVLFk (n : Nat) (k : Nat) : Nat := 0x10200180 + 0x1000 * (n % 8) + 0x4 * (k % 16)
/-- ETH.SDVER (R49). -/
def ETH_SDVER : Nat := 0x10280000
/-- ING.CTL (R473). -/
def ING_CTL : Nat := 0x10300000
/-- ING.STAT (R473). -/
def ING_STAT : Nat := 0x10300004
/-- ING.C37PORT0 (R473). -/
def ING_C37PORT0 : Nat := 0x10300008
/-- ING.C37PORTk (R473). -/
def ING_C37PORTk (k : Nat) : Nat := 0x10300008 + 0x4 * (k % 4)
/-- ING.RSVPORT (R473). -/
def ING_RSVPORT : Nat := 0x10300018
/-- ING.VTDPORT (R473). -/
def ING_VTDPORT : Nat := 0x1030001C
/-- ING.VTDSKEW (R473). -/
def ING_VTDSKEW : Nat := 0x10300020
/-- ING.REGCNT (R473). -/
def ING_REGCNT : Nat := 0x10300024
/-- ING.DSEL (R473). -/
def ING_DSEL : Nat := 0x10300028
/-- ING.DSTAT (R473). -/
def ING_DSTAT : Nat := 0x1030002C
/-- ING.ERRSTAT (R473). -/
def ING_ERRSTAT : Nat := 0x10300030
/-- ING.PARSEOK (R473). -/
def ING_PARSEOK : Nat := 0x10300040
/-- ING.CSUM (R473). -/
def ING_CSUM : Nat := 0x10300044
/-- ING.CRC (R473). -/
def ING_CRC : Nat := 0x10300048
/-- ING.SIZEERR (R473). -/
def ING_SIZEERR : Nat := 0x1030004C
/-- ING.VERS (R473). -/
def ING_VERS : Nat := 0x10300050
/-- ING.TIME (R473). -/
def ING_TIME : Nat := 0x10300054
/-- ING.UNREG (R473). -/
def ING_UNREG : Nat := 0x10300058
/-- ING.ADDR (R473). -/
def ING_ADDR : Nat := 0x1030005C
/-- ING.NOTAG (R473). -/
def ING_NOTAG : Nat := 0x10300060
/-- ING.TAGFAIL (R473). -/
def ING_TAGFAIL : Nat := 0x10300064
/-- ING.KEY2 (R473). -/
def ING_KEY2 : Nat := 0x10300068
/-- ING.SEQ (R473). -/
def ING_SEQ : Nat := 0x1030006C
/-- ING.VTDGAP (R473). -/
def ING_VTDGAP : Nat := 0x10300070
/-- ING.UNMAPPED (R473). -/
def ING_UNMAPPED : Nat := 0x10300074
/-- ING.PAUSED (R473). -/
def ING_PAUSED : Nat := 0x10300078
/-- ING.FWPATH (R473). -/
def ING_FWPATH : Nat := 0x1030007C
/-- ING.KIDMAPk (R473). -/
def ING_KIDMAPk (k : Nat) : Nat := 0x10300100 + 0x4 * (k % 64)
/-- ING.KIDSLOTk (R473). -/
def ING_KIDSLOTk (k : Nat) : Nat := 0x10300200 + 0x4 * (k % 64)
/-- SNAP.CTL (R127). -/
def SNAP_CTL : Nat := 0x10400000
/-- SNAP.STAT (R127). -/
def SNAP_STAT : Nat := 0x10400004
/-- SNAP.MATCHTOL (R127). -/
def SNAP_MATCHTOL : Nat := 0x10400008
/-- SNAP.FUTURE (R127). -/
def SNAP_FUTURE : Nat := 0x1040000C
/-- SNAP.SPILLBASELO (R127). -/
def SNAP_SPILLBASELO : Nat := 0x10400010
/-- SNAP.SPILLBASEHI (R127). -/
def SNAP_SPILLBASEHI : Nat := 0x10400014
/-- SNAP.SPILLSIZE (R127). -/
def SNAP_SPILLSIZE : Nat := 0x10400018
/-- SNAP.SPILLUSE (R127). -/
def SNAP_SPILLUSE : Nat := 0x1040001C
/-- SNAP.ERRSTAT (R127). -/
def SNAP_ERRSTAT : Nat := 0x10400020
/-- SNAP.LQSEL (R127). -/
def SNAP_LQSEL : Nat := 0x10400024
/-- SNAP.LQVAL (R127). -/
def SNAP_LQVAL : Nat := 0x10400028
/-- SNAP.LQWT (R127). -/
def SNAP_LQWT : Nat := 0x1040002C
/-- SNAP.STEPDISC (R127). -/
def SNAP_STEPDISC : Nat := 0x10400030
/-- SNAP.SCnCFG (R127). -/
def SNAP_SCnCFG (n : Nat) : Nat := 0x10400100 + 0x40 * (n % 8)
/-- SNAP.SCnWMIN (R127). -/
def SNAP_SCnWMIN (n : Nat) : Nat := 0x10400104 + 0x40 * (n % 8)
/-- SNAP.SCnWMAX (R127). -/
def SNAP_SCnWMAX (n : Nat) : Nat := 0x10400108 + 0x40 * (n % 8)
/-- SNAP.SCnMARGIN (R127). -/
def SNAP_SCnMARGIN (n : Nat) : Nat := 0x1040010C + 0x40 * (n % 8)
/-- SNAP.SCnLQ (R127). -/
def SNAP_SCnLQ (n : Nat) : Nat := 0x10400110 + 0x40 * (n % 8)
/-- SNAP.SCnLDECAY (R127). -/
def SNAP_SCnLDECAY (n : Nat) : Nat := 0x10400114 + 0x40 * (n % 8)
/-- SNAP.SCnDECSTEP (R127). -/
def SNAP_SCnDECSTEP (n : Nat) : Nat := 0x10400118 + 0x40 * (n % 8)
/-- SNAP.SCnAMENDH (R127). -/
def SNAP_SCnAMENDH (n : Nat) : Nat := 0x1040011C + 0x40 * (n % 8)
/-- SNAP.SCnWCUR (R127). -/
def SNAP_SCnWCUR (n : Nat) : Nat := 0x10400120 + 0x40 * (n % 8)
/-- SNAP.SCnSEQ (R127). -/
def SNAP_SCnSEQ (n : Nat) : Nat := 0x10400124 + 0x40 * (n % 8)
/-- SNAP.SCnMEMB (R127). -/
def SNAP_SCnMEMB (n : Nat) : Nat := 0x10400128 + 0x40 * (n % 8)
/-- SNAP.SCnMISSN (R127). -/
def SNAP_SCnMISSN (n : Nat) : Nat := 0x1040012C + 0x40 * (n % 8)
/-- SNAP.SCnRELEASED (R127). -/
def SNAP_SCnRELEASED (n : Nat) : Nat := 0x10400300 + 0x40 * (n % 8)
/-- SNAP.SCnMISSING (R127). -/
def SNAP_SCnMISSING (n : Nat) : Nat := 0x10400304 + 0x40 * (n % 8)
/-- SNAP.SCnLATE (R127). -/
def SNAP_SCnLATE (n : Nat) : Nat := 0x10400308 + 0x40 * (n % 8)
/-- SNAP.SCnDUP (R127). -/
def SNAP_SCnDUP (n : Nat) : Nat := 0x1040030C + 0x40 * (n % 8)
/-- SNAP.SCnSTALE (R127). -/
def SNAP_SCnSTALE (n : Nat) : Nat := 0x10400310 + 0x40 * (n % 8)
/-- SNAP.SCnEARLY (R127). -/
def SNAP_SCnEARLY (n : Nat) : Nat := 0x10400314 + 0x40 * (n % 8)
/-- SNAP.SCnOFFGRID (R127). -/
def SNAP_SCnOFFGRID (n : Nat) : Nat := 0x10400318 + 0x40 * (n % 8)
/-- SNAP.SCnNOTMEMB (R127). -/
def SNAP_SCnNOTMEMB (n : Nat) : Nat := 0x1040031C + 0x40 * (n % 8)
/-- SNAP.SCnPROMOWAIT (R127). -/
def SNAP_SCnPROMOWAIT (n : Nat) : Nat := 0x10400320 + 0x40 * (n % 8)
/-- SNAP.SCnAMENDED (R127). -/
def SNAP_SCnAMENDED (n : Nat) : Nat := 0x10400324 + 0x40 * (n % 8)
/-- SNAP.SUBkCTL (R127). -/
def SNAP_SUBkCTL (k : Nat) : Nat := 0x10400600 + 0x20 * (k % 16)
/-- SNAP.SUBkBASELO (R127). -/
def SNAP_SUBkBASELO (k : Nat) : Nat := 0x10400604 + 0x20 * (k % 16)
/-- SNAP.SUBkBASEHI (R127). -/
def SNAP_SUBkBASEHI (k : Nat) : Nat := 0x10400608 + 0x20 * (k % 16)
/-- SNAP.SUBkSIZE (R127). -/
def SNAP_SUBkSIZE (k : Nat) : Nat := 0x1040060C + 0x20 * (k % 16)
/-- SNAP.SUBkHEAD (R127). -/
def SNAP_SUBkHEAD (k : Nat) : Nat := 0x10400610 + 0x20 * (k % 16)
/-- SNAP.SUBkTAIL (R127). -/
def SNAP_SUBkTAIL (k : Nat) : Nat := 0x10400614 + 0x20 * (k % 16)
/-- SNAP.SUBkDROP (R127). -/
def SNAP_SUBkDROP (k : Nat) : Nat := 0x10400618 + 0x20 * (k % 16)
/-- SNAP.LASTn (R127). -/
def SNAP_LASTn (n : Nat) : Nat := 0x10400800 + 0x20 * (n % 8)
/-- SNAP.LASTnSEQ (R127). -/
def SNAP_LASTnSEQ (n : Nat) : Nat := 0x10400804 + 0x20 * (n % 8)
/-- SNAP.LASTnINSTLO (R127). -/
def SNAP_LASTnINSTLO (n : Nat) : Nat := 0x10400808 + 0x20 * (n % 8)
/-- SNAP.LASTnINSTHI (R127). -/
def SNAP_LASTnINSTHI (n : Nat) : Nat := 0x1040080C + 0x20 * (n % 8)
/-- SNAP.LASTnCOUNT (R127). -/
def SNAP_LASTnCOUNT (n : Nat) : Nat := 0x10400810 + 0x20 * (n % 8)
/-- SNAP.LASTnCOVER (R127). -/
def SNAP_LASTnCOVER (n : Nat) : Nat := 0x10400814 + 0x20 * (n % 8)
/-- SNAP.LASTnREL (R127). -/
def SNAP_LASTnREL (n : Nat) : Nat := 0x10400818 + 0x20 * (n % 8)
/-- SNAP.LASTnFLAGS (R127). -/
def SNAP_LASTnFLAGS (n : Nat) : Nat := 0x1040081C + 0x20 * (n % 8)
/-- SNAP.PHOLD (R127). -/
def SNAP_PHOLD : Nat := 0x10400034
/-- SNAP.PWSEL (R127). -/
def SNAP_PWSEL : Nat := 0x10400038
/-- SNAP.PWVAL (R127). -/
def SNAP_PWVAL : Nat := 0x1040003C
/-- SNAP.PRBLEAK (R127). -/
def SNAP_PRBLEAK : Nat := 0x10400040
/-- SNAP.PRELAX (R127). -/
def SNAP_PRELAX : Nat := 0x10400044
/-- SNAP.SCnPCOV (R127). -/
def SNAP_SCnPCOV (n : Nat) : Nat := 0x10400130 + 0x40 * (n % 8)
/-- SNAP.SCnPMIN (R127). -/
def SNAP_SCnPMIN (n : Nat) : Nat := 0x10400134 + 0x40 * (n % 8)
/-- SNAP.SCnPCFG (R127). -/
def SNAP_SCnPCFG (n : Nat) : Nat := 0x10400138 + 0x40 * (n % 8)
/-- SNAP.SCnPSTATE (R127). -/
def SNAP_SCnPSTATE (n : Nat) : Nat := 0x1040013C + 0x40 * (n % 8)
/-- SNAP.SCnPROV (R127). -/
def SNAP_SCnPROV (n : Nat) : Nat := 0x10400328 + 0x40 * (n % 8)
/-- SNAP.SCnRETRACT (R127). -/
def SNAP_SCnRETRACT (n : Nat) : Nat := 0x1040032C + 0x40 * (n % 8)
/-- SNAP.SCnLATERAISE (R127). -/
def SNAP_SCnLATERAISE (n : Nat) : Nat := 0x10400330 + 0x40 * (n % 8)
/-- SNAP.SCnREVISED (R127). -/
def SNAP_SCnREVISED (n : Nat) : Nat := 0x10400334 + 0x40 * (n % 8)
/-- SNAP.SCnTIGHTEN (R127). -/
def SNAP_SCnTIGHTEN (n : Nat) : Nat := 0x10400338 + 0x40 * (n % 8)
/-- TOPO.CTL (R166). -/
def TOPO_CTL : Nat := 0x10500000
/-- TOPO.STAT (R166). -/
def TOPO_STAT : Nat := 0x10500004
/-- TOPO.TTICK (R166). -/
def TOPO_TTICK : Nat := 0x10500008
/-- TOPO.AGGINT (R166). -/
def TOPO_AGGINT : Nat := 0x1050000C
/-- TOPO.FACBASELO (R166). -/
def TOPO_FACBASELO : Nat := 0x10500010
/-- TOPO.FACBASEHI (R166). -/
def TOPO_FACBASEHI : Nat := 0x10500014
/-- TOPO.EDGEBASELO (R166). -/
def TOPO_EDGEBASELO : Nat := 0x10500018
/-- TOPO.EDGEBASEHI (R166). -/
def TOPO_EDGEBASEHI : Nat := 0x1050001C
/-- TOPO.ERRSTAT (R166). -/
def TOPO_ERRSTAT : Nat := 0x10500020
/-- TOPO.GEN (R166). -/
def TOPO_GEN : Nat := 0x10500024
/-- TOPO.GENTICK (R166). -/
def TOPO_GENTICK : Nat := 0x10500028
/-- TOPO.WORKBASE (R166). -/
def TOPO_WORKBASE : Nat := 0x1050002C
/-- TOPO.VCAP (R166). -/
def TOPO_VCAP : Nat := 0x10500030
/-- TOPO.FCAP (R166). -/
def TOPO_FCAP : Nat := 0x10500034
/-- TOPO.ECAP (R166). -/
def TOPO_ECAP : Nat := 0x10500038
/-- TOPO.ECOUNT (R166). -/
def TOPO_ECOUNT : Nat := 0x1050003C
/-- TOPO.NCOMP (R166). -/
def TOPO_NCOMP : Nat := 0x10500040
/-- TOPO.AGGPASS (R166). -/
def TOPO_AGGPASS : Nat := 0x10500044
/-- TOPO.AGGTIME (R166). -/
def TOPO_AGGTIME : Nat := 0x10500048
/-- TOPO.AGEPk (R166). -/
def TOPO_AGEPk (k : Nat) : Nat := 0x10500050 + 0x4 * (k % 4)
/-- TOPO.CSEL (R166). -/
def TOPO_CSEL : Nat := 0x10500060
/-- TOPO.CVAL (R166). -/
def TOPO_CVAL : Nat := 0x10500064
/-- TOPO.CSIZE (R166). -/
def TOPO_CSIZE : Nat := 0x10500068
/-- TOPO.COMMITS (R166). -/
def TOPO_COMMITS : Nat := 0x10500100
/-- TOPO.MERGES (R166). -/
def TOPO_MERGES : Nat := 0x10500104
/-- TOPO.SPLITS (R166). -/
def TOPO_SPLITS : Nat := 0x10500108
/-- TOPO.EDGECHG (R166). -/
def TOPO_EDGECHG : Nat := 0x1050010C
/-- TOPO.GENLAG (R166). -/
def TOPO_GENLAG : Nat := 0x10500110
/-- TOPO.AGGOVR (R166). -/
def TOPO_AGGOVR : Nat := 0x10500114
/-- TOPO.ROWECC (R166). -/
def TOPO_ROWECC : Nat := 0x10500118
/-- TOPO.LOADDROP (R166). -/
def TOPO_LOADDROP : Nat := 0x1050011C
/-- TOPO.EDITOPS (R166). -/
def TOPO_EDITOPS : Nat := 0x10500120
/-- DET.CTL (R183). -/
def DET_CTL : Nat := 0x10600000
/-- DET.STAT (R183). -/
def DET_STAT : Nat := 0x10600004
/-- DET.ERRSTAT (R183). -/
def DET_ERRSTAT : Nat := 0x10600008
/-- DET.VRBASELO (R183). -/
def DET_VRBASELO : Nat := 0x1060000C
/-- DET.VRBASEHI (R183). -/
def DET_VRBASEHI : Nat := 0x10600010
/-- DET.VRHEAD (R183). -/
def DET_VRHEAD : Nat := 0x10600014
/-- DET.RUNMAX (R183). -/
def DET_RUNMAX : Nat := 0x10600018
/-- DET.TSEL (R183). -/
def DET_TSEL : Nat := 0x10600020
/-- DET.TVALj (R183). -/
def DET_TVALj (j : Nat) : Nat := 0x10600024 + 0x4 * (j % 4)
/-- DET.TCMD (R183). -/
def DET_TCMD : Nat := 0x10600034
/-- DET.CFTOL (R183). -/
def DET_CFTOL : Nat := 0x10600040
/-- DET.CDTOL (R183). -/
def DET_CDTOL : Nat := 0x10600044
/-- DET.CWIN (R183). -/
def DET_CWIN : Nat := 0x10600048
/-- DET.FBAND (R183). -/
def DET_FBAND : Nat := 0x1060004C
/-- DET.ICFG (R183). -/
def DET_ICFG : Nat := 0x10600050
/-- DET.VTRIP (R183). -/
def DET_VTRIP : Nat := 0x10600054
/-- DET.STEPCFG (R183). -/
def DET_STEPCFG : Nat := 0x10600058
/-- DET.CLRCFG (R183). -/
def DET_CLRCFG : Nat := 0x1060005C
/-- DET.RUNS (R183). -/
def DET_RUNS : Nat := 0x10600100
/-- DET.PROVRUNS (R183). -/
def DET_PROVRUNS : Nat := 0x10600104
/-- DET.ISLRAISE (R183). -/
def DET_ISLRAISE : Nat := 0x10600108
/-- DET.ISLCLEAR (R183). -/
def DET_ISLCLEAR : Nat := 0x1060010C
/-- DET.STEPRAISE (R183). -/
def DET_STEPRAISE : Nat := 0x10600110
/-- DET.STEPCLEAR (R183). -/
def DET_STEPCLEAR : Nat := 0x10600114
/-- DET.SEPRAISE (R183). -/
def DET_SEPRAISE : Nat := 0x10600118
/-- DET.SEPCLEAR (R183). -/
def DET_SEPCLEAR : Nat := 0x1060011C
/-- DET.NOREF (R183). -/
def DET_NOREF : Nat := 0x10600120
/-- DET.NODATA (R183). -/
def DET_NODATA : Nat := 0x10600124
/-- DET.VRWRAP (R183). -/
def DET_VRWRAP : Nat := 0x10600128
/-- DET.SCnDET (R183). -/
def DET_SCnDET (n : Nat) : Nat := 0x10600180 + 0x4 * (n % 8)
/-- MODAL.CTL (R205). -/
def MODAL_CTL : Nat := 0x10700000
/-- MODAL.STAT (R205). -/
def MODAL_STAT : Nat := 0x10700004
/-- MODAL.ERRSTAT (R205). -/
def MODAL_ERRSTAT : Nat := 0x10700008
/-- MODAL.RBASELO (R205). -/
def MODAL_RBASELO : Nat := 0x1070000C
/-- MODAL.RBASEHI (R205). -/
def MODAL_RBASEHI : Nat := 0x10700010
/-- MODAL.MRHEAD (R205). -/
def MODAL_MRHEAD : Nat := 0x10700014
/-- MODAL.VRHEAD (R205). -/
def MODAL_VRHEAD : Nat := 0x10700018
/-- MODAL.UPDMAX (R205). -/
def MODAL_UPDMAX : Nat := 0x1070001C
/-- MODAL.TSEL (R205). -/
def MODAL_TSEL : Nat := 0x10700020
/-- MODAL.TVALj (R205). -/
def MODAL_TVALj (j : Nat) : Nat := 0x10700024 + 0x4 * (j % 4)
/-- MODAL.TCMD (R205). -/
def MODAL_TCMD : Nat := 0x10700034
/-- MODAL.MCFG (R205). -/
def MODAL_MCFG : Nat := 0x10700040
/-- MODAL.DAMPCFG (R205). -/
def MODAL_DAMPCFG : Nat := 0x10700044
/-- MODAL.FORCFG (R205). -/
def MODAL_FORCFG : Nat := 0x10700048
/-- MODAL.BASECFG (R205). -/
def MODAL_BASECFG : Nat := 0x1070004C
/-- MODAL.GAPCFG (R205). -/
def MODAL_GAPCFG : Nat := 0x10700050
/-- MODAL.GROWCFG (R205). -/
def MODAL_GROWCFG : Nat := 0x10700054
/-- MODAL.UPDATES (R205). -/
def MODAL_UPDATES : Nat := 0x10700100
/-- MODAL.PARTIAL (R205). -/
def MODAL_PARTIAL : Nat := 0x10700104
/-- MODAL.NODATAUPD (R205). -/
def MODAL_NODATAUPD : Nat := 0x10700108
/-- MODAL.EXCLUDED (R205). -/
def MODAL_EXCLUDED : Nat := 0x1070010C
/-- MODAL.NOREF (R205). -/
def MODAL_NOREF : Nat := 0x10700110
/-- MODAL.TRACKNEW (R205). -/
def MODAL_TRACKNEW : Nat := 0x10700114
/-- MODAL.TRACKDROP (R205). -/
def MODAL_TRACKDROP : Nat := 0x10700118
/-- MODAL.RAISES (R205). -/
def MODAL_RAISES : Nat := 0x1070011C
/-- MODAL.CLEARS (R205). -/
def MODAL_CLEARS : Nat := 0x10700120
/-- MODAL.GROWHITS (R205). -/
def MODAL_GROWHITS : Nat := 0x10700124
/-- MODAL.UPDOVR (R205). -/
def MODAL_UPDOVR : Nat := 0x10700128
/-- MODAL.MRWRAP (R205). -/
def MODAL_MRWRAP : Nat := 0x1070012C
/-- MODAL.VRWRAP (R205). -/
def MODAL_VRWRAP : Nat := 0x10700130
/-- ALM.CTL (R227). -/
def ALM_CTL : Nat := 0x10800000
/-- ALM.STAT (R227). -/
def ALM_STAT : Nat := 0x10800004
/-- ALM.ERRSTAT (R227). -/
def ALM_ERRSTAT : Nat := 0x10800008
/-- ALM.ACTLO (R227). -/
def ALM_ACTLO : Nat := 0x10800010
/-- ALM.ACTHI (R227). -/
def ALM_ACTHI : Nat := 0x10800014
/-- ALM.PINACTLO (R227). -/
def ALM_PINACTLO : Nat := 0x10800018
/-- ALM.PINACTHI (R227). -/
def ALM_PINACTHI : Nat := 0x1080001C
/-- ALM.OUTSTAT (R227). -/
def ALM_OUTSTAT : Nat := 0x10800028
/-- ALM.DINSTAT (R227). -/
def ALM_DINSTAT : Nat := 0x1080002C
/-- ALM.DINCFG (R227). -/
def ALM_DINCFG : Nat := 0x10800030
/-- ALM.GINT (R227). -/
def ALM_GINT : Nat := 0x10800040
/-- ALM.ANPORT (R227). -/
def ALM_ANPORT : Nat := 0x10800044
/-- ALM.ANCFG (R227). -/
def ALM_ANCFG : Nat := 0x10800048
/-- ALM.ANSEQ (R227). -/
def ALM_ANSEQ : Nat := 0x1080004C
/-- ALM.OUTmCFG (R227). -/
def ALM_OUTmCFG (m : Nat) : Nat := 0x10800060 + 0x4 * (m % 16)
/-- ALM.OUTmSELLO (R227). -/
def ALM_OUTmSELLO (m : Nat) : Nat := 0x108000A0 + 0x8 * (m % 16)
/-- ALM.OUTmSELHI (R227). -/
def ALM_OUTmSELHI (m : Nat) : Nat := 0x108000A4 + 0x8 * (m % 16)
/-- ALM.GPjST (R227). -/
def ALM_GPjST (j : Nat) : Nat := 0x10800140 + 0x8 * (j % 8)
/-- ALM.GPjSQ (R227). -/
def ALM_GPjSQ (j : Nat) : Nat := 0x10800144 + 0x8 * (j % 8)
/-- ALM.ANDSTj_0 (R227). -/
def ALM_ANDSTj_0 (j : Nat) : Nat := 0x10800200 + 0x20 * (j % 8)
/-- ALM.ANDSTj_1 (R227). -/
def ALM_ANDSTj_1 (j : Nat) : Nat := 0x10800204 + 0x20 * (j % 8)
/-- ALM.ANDSTj_2 (R227). -/
def ALM_ANDSTj_2 (j : Nat) : Nat := 0x10800208 + 0x20 * (j % 8)
/-- ALM.ANDSTj_3 (R227). -/
def ALM_ANDSTj_3 (j : Nat) : Nat := 0x1080020C + 0x20 * (j % 8)
/-- ALM.ANDSTj_4 (R227). -/
def ALM_ANDSTj_4 (j : Nat) : Nat := 0x10800210 + 0x20 * (j % 8)
/-- ALM.ANDSTj_5 (R227). -/
def ALM_ANDSTj_5 (j : Nat) : Nat := 0x10800214 + 0x20 * (j % 8)
/-- ALM.ANDSTj_6 (R227). -/
def ALM_ANDSTj_6 (j : Nat) : Nat := 0x10800218 + 0x20 * (j % 8)
/-- ALM.ANDSTj_7 (R227). -/
def ALM_ANDSTj_7 (j : Nat) : Nat := 0x1080021C + 0x20 * (j % 8)
/-- ALM.ALCkCFG (R227). -/
def ALM_ALCkCFG (k : Nat) : Nat := 0x10800400 + 0x10 * (k % 64)
/-- ALM.ALCkSRC (R227). -/
def ALM_ALCkSRC (k : Nat) : Nat := 0x10800404 + 0x10 * (k % 64)
/-- ALM.ALCkDIN (R227). -/
def ALM_ALCkDIN (k : Nat) : Nat := 0x10800408 + 0x10 * (k % 64)
/-- ALM.ALCkSTAT (R227). -/
def ALM_ALCkSTAT (k : Nat) : Nat := 0x1080040C + 0x10 * (k % 64)
/-- ALM.ALCkRAISES (R227). -/
def ALM_ALCkRAISES (k : Nat) : Nat := 0x10800800 + 0x4 * (k % 64)
/-- ALM.IGNORED (R227). -/
def ALM_IGNORED : Nat := 0x10800900
/-- ALM.RETRACTED (R227). -/
def ALM_RETRACTED : Nat := 0x10800904
/-- ALM.ACKS (R227). -/
def ALM_ACKS : Nat := 0x10800908
/-- ALM.GOOSETX (R227). -/
def ALM_GOOSETX : Nat := 0x1080090C
/-- ALM.ANTX (R227). -/
def ALM_ANTX : Nat := 0x10800910
/-- ALM.PUBDROP (R227). -/
def ALM_PUBDROP : Nat := 0x10800914
/-- ALM.OVLDEV (R227). -/
def ALM_OVLDEV : Nat := 0x10800918
/-- AFE.CTL (R244). -/
def AFE_CTL : Nat := 0x10900000
/-- AFE.STAT (R244). -/
def AFE_STAT : Nat := 0x10900004
/-- AFE.ERRSTAT (R244). -/
def AFE_ERRSTAT : Nat := 0x10900008
/-- AFE.MCHEN (R244). -/
def AFE_MCHEN : Nat := 0x10900010
/-- AFE.MCHcCFG (R244). -/
def AFE_MCHcCFG (c : Nat) : Nat := 0x10900020 + 0x4 * (c % 8)
/-- AFE.MCHSTAT (R244). -/
def AFE_MCHSTAT : Nat := 0x10900040
/-- AFE.MCHcOVLCNT (R244). -/
def AFE_MCHcOVLCNT (c : Nat) : Nat := 0x10900060 + 0x4 * (c % 8)
/-- AFE.AUXCFG (R244). -/
def AFE_AUXCFG : Nat := 0x10900100
/-- AFE.AUXCMD (R244). -/
def AFE_AUXCMD : Nat := 0x10900104
/-- AFE.AUXDATA (R244). -/
def AFE_AUXDATA : Nat := 0x10900108
/-- AFE.AUXTSLO (R244). -/
def AFE_AUXTSLO : Nat := 0x1090010C
/-- AFE.AUXTSHI (R244). -/
def AFE_AUXTSHI : Nat := 0x10900110
/-- AFE.AUXTSFR (R244). -/
def AFE_AUXTSFR : Nat := 0x10900114
/-- AFE.AUXREGMISS (R244). -/
def AFE_AUXREGMISS : Nat := 0x10900118
/-- AFE.AUXINJMISS (R244). -/
def AFE_AUXINJMISS : Nat := 0x1090011C
/-- AFE.AUXOVRCNT (R244). -/
def AFE_AUXOVRCNT : Nat := 0x10900120
/-- AFE.AUXCONV (R244). -/
def AFE_AUXCONV : Nat := 0x10900124
/-- AFE.AUXREGk (R244). -/
def AFE_AUXREGk (k : Nat) : Nat := 0x10900140 + 0x4 * (k % 24)
/-- AFE.AUXINJj (R244). -/
def AFE_AUXINJj (j : Nat) : Nat := 0x109001A0 + 0x4 * (j % 4)
/-- AFE.MTRIMcg (R244). -/
def AFE_MTRIMcg (c : Nat) (g : Nat) : Nat := 0x10900200 + 0x20 * (c % 8) + 0x4 * (g % 5)
/-- AFE.ATRIMr (R244). -/
def AFE_ATRIMr (r : Nat) : Nat := 0x10900300 + 0x4 * (r % 2)
/-- FLT.CTL (R264). -/
def FLT_CTL : Nat := 0x10A00000
/-- FLT.STAT (R264). -/
def FLT_STAT : Nat := 0x10A00004
/-- FLT.ERRSTAT (R264). -/
def FLT_ERRSTAT : Nat := 0x10A00008
/-- FLT.CFG (R264). -/
def FLT_CFG : Nat := 0x10A0000C
/-- FLT.BANKCMD (R264). -/
def FLT_BANKCMD : Nat := 0x10A00010
/-- FLT.SYNCCFG (R264). -/
def FLT_SYNCCFG : Nat := 0x10A00014
/-- FLT.SYNCCNT (R264). -/
def FLT_SYNCCNT : Nat := 0x10A00018
/-- FLT.SYNCTSLO (R264). -/
def FLT_SYNCTSLO : Nat := 0x10A0001C
/-- FLT.SYNCTSHI (R264). -/
def FLT_SYNCTSHI : Nat := 0x10A00020
/-- FLT.SYNCTSFR (R264). -/
def FLT_SYNCTSFR : Nat := 0x10A00024
/-- FLT.CSEL (R264). -/
def FLT_CSEL : Nat := 0x10A00028
/-- FLT.CVAL (R264). -/
def FLT_CVAL : Nat := 0x10A0002C
/-- FLT.CHcCFG (R264). -/
def FLT_CHcCFG (c : Nat) : Nat := 0x10A00100 + 0x40 * (c % 8)
/-- FLT.CHcFIX (R264). -/
def FLT_CHcFIX (c : Nat) : Nat := 0x10A00104 + 0x40 * (c % 8)
/-- FLT.CHcPTRIM (R264). -/
def FLT_CHcPTRIM (c : Nat) : Nat := 0x10A00108 + 0x40 * (c % 8)
/-- FLT.CHcSCALE (R264). -/
def FLT_CHcSCALE (c : Nat) : Nat := 0x10A0010C + 0x40 * (c % 8)
/-- FLT.CHcLAT (R264). -/
def FLT_CHcLAT (c : Nat) : Nat := 0x10A00110 + 0x40 * (c % 8)
/-- FLT.CHcRMSC (R264). -/
def FLT_CHcRMSC (c : Nat) : Nat := 0x10A00114 + 0x40 * (c % 8)
/-- FLT.CHcRMSA (R264). -/
def FLT_CHcRMSA (c : Nat) : Nat := 0x10A00118 + 0x40 * (c % 8)
/-- FLT.CHcPKMAX (R264). -/
def FLT_CHcPKMAX (c : Nat) : Nat := 0x10A0011C + 0x40 * (c % 8)
/-- FLT.CHcPKMIN (R264). -/
def FLT_CHcPKMIN (c : Nat) : Nat := 0x10A00120 + 0x40 * (c % 8)
/-- FLT.CHcPKHOLD (R264). -/
def FLT_CHcPKHOLD (c : Nat) : Nat := 0x10A00124 + 0x40 * (c % 8)
/-- FLT.CHcENV (R264). -/
def FLT_CHcENV (c : Nat) : Nat := 0x10A00128 + 0x40 * (c % 8)
/-- FLT.CHcENVCFG (R264). -/
def FLT_CHcENVCFG (c : Nat) : Nat := 0x10A0012C + 0x40 * (c % 8)
/-- FLT.CHcSAT (R264). -/
def FLT_CHcSAT (c : Nat) : Nat := 0x10A00130 + 0x40 * (c % 8)
/-- FLT.CHcFLAGS (R264). -/
def FLT_CHcFLAGS (c : Nat) : Nat := 0x10A00134 + 0x40 * (c % 8)
/-- FLT.PRVkCFG (R264). -/
def FLT_PRVkCFG (k : Nat) : Nat := 0x10A00400 + 0x20 * (k % 4)
/-- FLT.PRVkTHR (R264). -/
def FLT_PRVkTHR (k : Nat) : Nat := 0x10A00404 + 0x20 * (k % 4)
/-- FLT.PRVkREL (R264). -/
def FLT_PRVkREL (k : Nat) : Nat := 0x10A00408 + 0x20 * (k % 4)
/-- FLT.PRVkTSLO (R264). -/
def FLT_PRVkTSLO (k : Nat) : Nat := 0x10A0040C + 0x20 * (k % 4)
/-- FLT.PRVkTSHI (R264). -/
def FLT_PRVkTSHI (k : Nat) : Nat := 0x10A00410 + 0x20 * (k % 4)
/-- FLT.PRVkTSFR (R264). -/
def FLT_PRVkTSFR (k : Nat) : Nat := 0x10A00414 + 0x20 * (k % 4)
/-- FLT.PRVkCNT (R264). -/
def FLT_PRVkCNT (k : Nat) : Nat := 0x10A00418 + 0x20 * (k % 4)
/-- FLT.PHCFG (R264). -/
def FLT_PHCFG : Nat := 0x10A00600
/-- FLT.PHCNT (R264). -/
def FLT_PHCNT : Nat := 0x10A00604
/-- MTR.CTL (R284). -/
def MTR_CTL : Nat := 0x10B00000
/-- MTR.STAT (R284). -/
def MTR_STAT : Nat := 0x10B00004
/-- MTR.ERRSTAT (R284). -/
def MTR_ERRSTAT : Nat := 0x10B00008
/-- MTR.CFG (R284). -/
def MTR_CFG : Nat := 0x10B0000C
/-- MTR.SAVEINT (R284). -/
def MTR_SAVEINT : Nat := 0x10B00010
/-- MTR.SAVESEQ (R284). -/
def MTR_SAVESEQ : Nat := 0x10B00014
/-- MTR.SAVETIME (R284). -/
def MTR_SAVETIME : Nat := 0x10B00018
/-- MTR.SAVESKIP (R284). -/
def MTR_SAVESKIP : Nat := 0x10B0001C
/-- MTR.CLRCMD (R284). -/
def MTR_CLRCMD : Nat := 0x10B00020
/-- MTR.CREEP (R284). -/
def MTR_CREEP : Nat := 0x10B00024
/-- MTR.CYCLO (R284). -/
def MTR_CYCLO : Nat := 0x10B00028
/-- MTR.CYCHI (R284). -/
def MTR_CYCHI : Nat := 0x10B0002C
/-- MTR.FREQ (R284). -/
def MTR_FREQ : Nat := 0x10B00030
/-- MTR.SKIPCYC (R284). -/
def MTR_SKIPCYC : Nat := 0x10B00034
/-- MTR.SATCYC (R284). -/
def MTR_SATCYC : Nat := 0x10B00038
/-- MTR.REVCNT (R284). -/
def MTR_REVCNT : Nat := 0x10B0003C
/-- MTR.ESTLOSTLO (R284). -/
def MTR_ESTLOSTLO : Nat := 0x10B00040
/-- MTR.ESTLOSTHI (R284). -/
def MTR_ESTLOSTHI : Nat := 0x10B00044
/-- MTR.GAPCNT (R284). -/
def MTR_GAPCNT : Nat := 0x10B00048
/-- MTR.CHcGAIN (R284). -/
def MTR_CHcGAIN (c : Nat) : Nat := 0x10B00080 + 0x4 * (c % 8)
/-- MTR.CHcOFF (R284). -/
def MTR_CHcOFF (c : Nat) : Nat := 0x10B000A0 + 0x4 * (c % 8)
/-- MTR.PpPGAIN (R284). -/
def MTR_PpPGAIN (p : Nat) : Nat := 0x10B000C0 + 0x10 * (p % 3)
/-- MTR.PpQGAIN (R284). -/
def MTR_PpQGAIN (p : Nat) : Nat := 0x10B000C4 + 0x10 * (p % 3)
/-- MTR.PpPOFF (R284). -/
def MTR_PpPOFF (p : Nat) : Nat := 0x10B000C8 + 0x10 * (p % 3)
/-- MTR.PpQOFF (R284). -/
def MTR_PpQOFF (p : Nat) : Nat := 0x10B000CC + 0x10 * (p % 3)
/-- MTR.PpVRMS (R284). -/
def MTR_PpVRMS (p : Nat) : Nat := 0x10B00100 + 0x20 * (p % 4)
/-- MTR.PpIRMS (R284). -/
def MTR_PpIRMS (p : Nat) : Nat := 0x10B00104 + 0x20 * (p % 4)
/-- MTR.PpP (R284). -/
def MTR_PpP (p : Nat) : Nat := 0x10B00108 + 0x20 * (p % 4)
/-- MTR.PpP1 (R284). -/
def MTR_PpP1 (p : Nat) : Nat := 0x10B0010C + 0x20 * (p % 4)
/-- MTR.PpQ1 (R284). -/
def MTR_PpQ1 (p : Nat) : Nat := 0x10B00110 + 0x20 * (p % 4)
/-- MTR.PpS (R284). -/
def MTR_PpS (p : Nat) : Nat := 0x10B00114 + 0x20 * (p % 4)
/-- MTR.PpPF (R284). -/
def MTR_PpPF (p : Nat) : Nat := 0x10B00118 + 0x20 * (p % 4)
/-- MTR.PpAGG (R284). -/
def MTR_PpAGG (p : Nat) : Nat := 0x10B0011C + 0x20 * (p % 4)
/-- MTR.PLSnCFG (R284). -/
def MTR_PLSnCFG (n : Nat) : Nat := 0x10B00200 + 0x20 * (n % 4)
/-- MTR.PLSnCONST (R284). -/
def MTR_PLSnCONST (n : Nat) : Nat := 0x10B00204 + 0x20 * (n % 4)
/-- MTR.PLSnRES (R284). -/
def MTR_PLSnRES (n : Nat) : Nat := 0x10B00208 + 0x20 * (n % 4)
/-- MTR.PLSnCNT (R284). -/
def MTR_PLSnCNT (n : Nat) : Nat := 0x10B0020C + 0x20 * (n % 4)
/-- MTR.PLSnBACKLOG (R284). -/
def MTR_PLSnBACKLOG (n : Nat) : Nat := 0x10B00210 + 0x20 * (n % 4)
/-- MTR.PLSnDROP (R284). -/
def MTR_PLSnDROP (n : Nat) : Nat := 0x10B00214 + 0x20 * (n % 4)
/-- MTR.ENqpdLO (R284). -/
def MTR_ENqpdLO (q : Nat) (p : Nat) (d : Nat) : Nat := 0x10B00400 + 0x40 * (q % 4) + 0x10 * (p % 3) + 0x8 * (d % 2)
/-- MTR.ENqpdHI (R284). -/
def MTR_ENqpdHI (q : Nat) (p : Nat) (d : Nat) : Nat := 0x10B00404 + 0x40 * (q % 4) + 0x10 * (p % 3) + 0x8 * (d % 2)
/-- CAP.CTL (R302). -/
def CAP_CTL : Nat := 0x10C00000
/-- CAP.STAT (R302). -/
def CAP_STAT : Nat := 0x10C00004
/-- CAP.ERRSTAT (R302). -/
def CAP_ERRSTAT : Nat := 0x10C00008
/-- CAP.BASELO (R302). -/
def CAP_BASELO : Nat := 0x10C0000C
/-- CAP.BASEHI (R302). -/
def CAP_BASEHI : Nat := 0x10C00010
/-- CAP.SIZE (R302). -/
def CAP_SIZE : Nat := 0x10C00014
/-- CAP.RETRIG_EXT (R302). -/
def CAP_RETRIG_EXT : Nat := 0x10C00018
/-- CAP.RETRIG_MAX (R302). -/
def CAP_RETRIG_MAX : Nat := 0x10C0001C
/-- CAP.MERGED (R302). -/
def CAP_MERGED : Nat := 0x10C00020
/-- CAP.HOSTTRIG (R302). -/
def CAP_HOSTTRIG : Nat := 0x10C00024
/-- CAP.RELEASE (R302). -/
def CAP_RELEASE : Nat := 0x10C00028
/-- CAP.STOP (R302). -/
def CAP_STOP : Nat := 0x10C0002C
/-- CAP.MSEL (R302). -/
def CAP_MSEL : Nat := 0x10C00030
/-- CAP.MVAL (R302). -/
def CAP_MVAL : Nat := 0x10C00034
/-- CAP.BnCFG (R302). -/
def CAP_BnCFG (b : Nat) : Nat := 0x10C00100 + 0x40 * (b % 16)
/-- CAP.BnCHAN (R302). -/
def CAP_BnCHAN (b : Nat) : Nat := 0x10C00104 + 0x40 * (b % 16)
/-- CAP.BnTRIG (R302). -/
def CAP_BnTRIG (b : Nat) : Nat := 0x10C00108 + 0x40 * (b % 16)
/-- CAP.BnDEPTH (R302). -/
def CAP_BnDEPTH (b : Nat) : Nat := 0x10C0010C + 0x40 * (b % 16)
/-- CAP.BnPOST (R302). -/
def CAP_BnPOST (b : Nat) : Nat := 0x10C00110 + 0x40 * (b % 16)
/-- CAP.BnREGION (R302). -/
def CAP_BnREGION (b : Nat) : Nat := 0x10C00114 + 0x40 * (b % 16)
/-- CAP.BnMASK (R302). -/
def CAP_BnMASK (b : Nat) : Nat := 0x10C00118 + 0x40 * (b % 16)
/-- CAP.BnSTAT (R302). -/
def CAP_BnSTAT (b : Nat) : Nat := 0x10C0011C + 0x40 * (b % 16)
/-- CAP.BnFILL (R302). -/
def CAP_BnFILL (b : Nat) : Nat := 0x10C00120 + 0x40 * (b % 16)
/-- CAP.BnRECLEN (R302). -/
def CAP_BnRECLEN (b : Nat) : Nat := 0x10C00124 + 0x40 * (b % 16)
/-- CAP.BnMISSED (R302). -/
def CAP_BnMISSED (b : Nat) : Nat := 0x10C00128 + 0x40 * (b % 16)
/-- CAP.BnMARKOVF (R302). -/
def CAP_BnMARKOVF (b : Nat) : Nat := 0x10C0012C + 0x40 * (b % 16)
/-- CAP.BnVIOL (R302). -/
def CAP_BnVIOL (b : Nat) : Nat := 0x10C00130 + 0x40 * (b % 16)
/-- CAP.BnTRIGS (R302). -/
def CAP_BnTRIGS (b : Nat) : Nat := 0x10C00134 + 0x40 * (b % 16)
/-- CAP.BnSNAPk (R302). -/
def CAP_BnSNAPk (b : Nat) (k : Nat) : Nat := 0x10C00800 + 0x40 * (b % 16) + 0x4 * (k % 16)
/-- LAT.CTL (R322). -/
def LAT_CTL : Nat := 0x10D00000
/-- LAT.STAT (R322). -/
def LAT_STAT : Nat := 0x10D00004
/-- LAT.ERRSTAT (R322). -/
def LAT_ERRSTAT : Nat := 0x10D00008
/-- LAT.LOADERR (R322). -/
def LAT_LOADERR : Nat := 0x10D0000C
/-- LAT.IMAGEID (R322). -/
def LAT_IMAGEID : Nat := 0x10D00010
/-- LAT.SCHEMA (R322). -/
def LAT_SCHEMA : Nat := 0x10D00014
/-- LAT.KLIBVER (R322). -/
def LAT_KLIBVER : Nat := 0x10D00018
/-- LAT.COMPATk (R322). -/
def LAT_COMPATk (k : Nat) : Nat := 0x10D00020 + 0x4 * (k % 4)
/-- LAT.SWAPCMD (R322). -/
def LAT_SWAPCMD : Nat := 0x10D00030
/-- LAT.SWAPDONE (R322). -/
def LAT_SWAPDONE : Nat := 0x10D00034
/-- LAT.QSEL (R322). -/
def LAT_QSEL : Nat := 0x10D00040
/-- LAT.QCMD (R322). -/
def LAT_QCMD : Nat := 0x10D00044
/-- LAT.QSTAT (R322). -/
def LAT_QSTAT : Nat := 0x10D00048
/-- LAT.TSEL (R322). -/
def LAT_TSEL : Nat := 0x10D00060
/-- LAT.TINFO (R322). -/
def LAT_TINFO : Nat := 0x10D00064
/-- LAT.TSTAT (R322). -/
def LAT_TSTAT : Nat := 0x10D00068
/-- LAT.LOADS (R322). -/
def LAT_LOADS : Nat := 0x10D00100
/-- LAT.SWAPS (R322). -/
def LAT_SWAPS : Nat := 0x10D00104
/-- LAT.FLUSHES (R322). -/
def LAT_FLUSHES : Nat := 0x10D00108
/-- LAT.CTLLATE (R322). -/
def LAT_CTLLATE : Nat := 0x10D0010C
/-- LAT.ECCDISC (R322). -/
def LAT_ECCDISC : Nat := 0x10D00110
/-- LAT.TILEFAULTS (R322). -/
def LAT_TILEFAULTS : Nat := 0x10D00114
/-- LAT.KCNTk (R322). -/
def LAT_KCNTk (k : Nat) : Nat := 0x10D00200 + 0x4 * (k % 11)
/-- EVC.CTL (R344). -/
def EVC_CTL : Nat := 0x10E00000
/-- EVC.STAT (R344). -/
def EVC_STAT : Nat := 0x10E00004
/-- EVC.ERRSTAT (R344). -/
def EVC_ERRSTAT : Nat := 0x10E00008
/-- EVC.FAULTTGT (R344). -/
def EVC_FAULTTGT : Nat := 0x10E0000C
/-- EVC.REROUTE_T (R344). -/
def EVC_REROUTE_T : Nat := 0x10E00010
/-- EVC.SRCSEL (R344). -/
def EVC_SRCSEL : Nat := 0x10E00020
/-- EVC.SRCCFG (R344). -/
def EVC_SRCCFG : Nat := 0x10E00024
/-- EVC.SRCLVL (R344). -/
def EVC_SRCLVL : Nat := 0x10E00028
/-- EVC.SWSET (R344). -/
def EVC_SWSET : Nat := 0x10E00030
/-- EVC.SWCLR (R344). -/
def EVC_SWCLR : Nat := 0x10E00034
/-- EVC.POSTED (R344). -/
def EVC_POSTED : Nat := 0x10E00100
/-- EVC.MERGEDCNT (R344). -/
def EVC_MERGEDCNT : Nat := 0x10E00104
/-- EVC.SPURIOUS (R344). -/
def EVC_SPURIOUS : Nat := 0x10E00108
/-- EVC.REROUTES (R344). -/
def EVC_REROUTES : Nat := 0x10E0010C
/-- EVC.ORDERFLT (R344). -/
def EVC_ORDERFLT : Nat := 0x10E00110
/-- EVC.TGTnCTL (R344). -/
def EVC_TGTnCTL (n : Nat) : Nat := 0x10E01000 + 0x40 * (n % 24)
/-- EVC.TGTnBASELO (R344). -/
def EVC_TGTnBASELO (n : Nat) : Nat := 0x10E01004 + 0x40 * (n % 24)
/-- EVC.TGTnBASEHI (R344). -/
def EVC_TGTnBASEHI (n : Nat) : Nat := 0x10E01008 + 0x40 * (n % 24)
/-- EVC.TGTnSIZE (R344). -/
def EVC_TGTnSIZE (n : Nat) : Nat := 0x10E0100C + 0x40 * (n % 24)
/-- EVC.TGTnHEAD (R344). -/
def EVC_TGTnHEAD (n : Nat) : Nat := 0x10E01010 + 0x40 * (n % 24)
/-- EVC.TGTnTAIL (R344). -/
def EVC_TGTnTAIL (n : Nat) : Nat := 0x10E01014 + 0x40 * (n % 24)
/-- EVC.TGTnCLAIM (R344). -/
def EVC_TGTnCLAIM (n : Nat) : Nat := 0x10E01018 + 0x40 * (n % 24)
/-- EVC.TGTnDONE (R344). -/
def EVC_TGTnDONE (n : Nat) : Nat := 0x10E0101C + 0x40 * (n % 24)
/-- EVC.TGTnSTACK (R344). -/
def EVC_TGTnSTACK (n : Nat) : Nat := 0x10E01020 + 0x40 * (n % 24)
/-- EVC.TGTnRESET (R344). -/
def EVC_TGTnRESET (n : Nat) : Nat := 0x10E01024 + 0x40 * (n % 24)
/-- TSK.CTL (R343). -/
def TSK_CTL : Nat := 0x10F00000
/-- TSK.STAT (R343). -/
def TSK_STAT : Nat := 0x10F00004
/-- TSK.ERRSTAT (R343). -/
def TSK_ERRSTAT : Nat := 0x10F00008
/-- TSK.TICKPER (R343). -/
def TSK_TICKPER : Nat := 0x10F0000C
/-- TSK.TICK (R343). -/
def TSK_TICK : Nat := 0x10F00010
/-- TSK.READY (R343). -/
def TSK_READY : Nat := 0x10F00020
/-- TSK.CANCEL (R343). -/
def TSK_CANCEL : Nat := 0x10F00024
/-- TSK.DELAY (R343). -/
def TSK_DELAY : Nat := 0x10F00028
/-- TSK.NEXT (R343). -/
def TSK_NEXT : Nat := 0x10F0002C
/-- TSK.NEXTENTLO (R343). -/
def TSK_NEXTENTLO : Nat := 0x10F00030
/-- TSK.NEXTENTHI (R343). -/
def TSK_NEXTENTHI : Nat := 0x10F00034
/-- TSK.NEXTARG (R343). -/
def TSK_NEXTARG : Nat := 0x10F00038
/-- TSK.DONE (R343). -/
def TSK_DONE : Nat := 0x10F0003C
/-- TSK.YIELD (R343). -/
def TSK_YIELD : Nat := 0x10F00040
/-- TSK.DSEL (R343). -/
def TSK_DSEL : Nat := 0x10F00050
/-- TSK.DVALj (R343). -/
def TSK_DVALj (j : Nat) : Nat := 0x10F00054 + 0x4 * (j % 4)
/-- TSK.RUNk (R343). -/
def TSK_RUNk (k : Nat) : Nat := 0x10F00080 + 0x4 * (k % 8)
/-- TSK.DISPATCHED (R343). -/
def TSK_DISPATCHED : Nat := 0x10F00100
/-- TSK.PREEMPTS (R343). -/
def TSK_PREEMPTS : Nat := 0x10F00104
/-- TSK.RACECNT (R343). -/
def TSK_RACECNT : Nat := 0x10F00108
/-- TSK.TICKLATE (R343). -/
def TSK_TICKLATE : Nat := 0x10F0010C
/-- TSK.FLOWWAIT (R343). -/
def TSK_FLOWWAIT : Nat := 0x10F00110
/-- CHD.CTL (R370). -/
def CHD_CTL : Nat := 0x11000000
/-- CHD.STAT (R370). -/
def CHD_STAT : Nat := 0x11000004
/-- CHD.ERRSTAT (R370). -/
def CHD_ERRSTAT : Nat := 0x11000008
/-- CHD.CFG (R370). -/
def CHD_CFG : Nat := 0x1100000C
/-- CHD.EPOCH (R370). -/
def CHD_EPOCH : Nat := 0x11000010
/-- CHD.FENCE_T (R370). -/
def CHD_FENCE_T : Nat := 0x11000014
/-- CHD.MIRWAIT (R370). -/
def CHD_MIRWAIT : Nat := 0x11000018
/-- CHD.DELTASEQ (R370). -/
def CHD_DELTASEQ : Nat := 0x1100001C
/-- CHD.HBAGE (R370). -/
def CHD_HBAGE : Nat := 0x11000020
/-- CHD.PROMOLO (R370). -/
def CHD_PROMOLO : Nat := 0x11000024
/-- CHD.PROMOHI (R370). -/
def CHD_PROMOHI : Nat := 0x11000028
/-- CHD.PEERINFO (R370). -/
def CHD_PEERINFO : Nat := 0x1100002C
/-- CHD.REFSTAT (R370). -/
def CHD_REFSTAT : Nat := 0x11000030
/-- CHD.DIGSEQn (R370). -/
def CHD_DIGSEQn (n : Nat) : Nat := 0x11000040 + 0x4 * (n % 8)
/-- CHD.HBMISS (R370). -/
def CHD_HBMISS : Nat := 0x11000100
/-- CHD.DIGESTS (R370). -/
def CHD_DIGESTS : Nat := 0x11000104
/-- CHD.MISSREQS (R370). -/
def CHD_MISSREQS : Nat := 0x11000108
/-- CHD.MIRRORED (R370). -/
def CHD_MIRRORED : Nat := 0x1100010C
/-- CHD.DELTAS (R370). -/
def CHD_DELTAS : Nat := 0x11000110
/-- CHD.DIVERGES (R370). -/
def CHD_DIVERGES : Nat := 0x11000114
/-- CHD.RESYNCS (R370). -/
def CHD_RESYNCS : Nat := 0x11000118
/-- CHD.PROMOTIONS (R370). -/
def CHD_PROMOTIONS : Nat := 0x1100011C
/-- CHD.SWITCHOVERS (R370). -/
def CHD_SWITCHOVERS : Nat := 0x11000120
/-- CHD.FENCES (R370). -/
def CHD_FENCES : Nat := 0x11000124
/-- CHD.LANECRC (R370). -/
def CHD_LANECRC : Nat := 0x11000128
/-- CHD.DUPDISC (R370). -/
def CHD_DUPDISC : Nat := 0x1100012C
/-- LDG.CTL (R391). -/
def LDG_CTL : Nat := 0x11100000
/-- LDG.STAT (R391). -/
def LDG_STAT : Nat := 0x11100004
/-- LDG.ERRSTAT (R391). -/
def LDG_ERRSTAT : Nat := 0x11100008
/-- LDG.CFG (R391). -/
def LDG_CFG : Nat := 0x1110000C
/-- LDG.FBBASELO (R391). -/
def LDG_FBBASELO : Nat := 0x11100010
/-- LDG.FBBASEHI (R391). -/
def LDG_FBBASEHI : Nat := 0x11100014
/-- LDG.COALWIN (R391). -/
def LDG_COALWIN : Nat := 0x11100018
/-- LDG.COMMIT_T (R391). -/
def LDG_COMMIT_T : Nat := 0x1110001C
/-- LDG.EJECT_T (R391). -/
def LDG_EJECT_T : Nat := 0x11100020
/-- LDG.JSEQ (R391). -/
def LDG_JSEQ : Nat := 0x11100024
/-- LDG.JPAGELO (R391). -/
def LDG_JPAGELO : Nat := 0x11100028
/-- LDG.JPAGEHI (R391). -/
def LDG_JPAGEHI : Nat := 0x1110002C
/-- LDG.STAGED (R391). -/
def LDG_STAGED : Nat := 0x11100030
/-- LDG.WEAR (R391). -/
def LDG_WEAR : Nat := 0x11100034
/-- LDG.WEARGB (R391). -/
def LDG_WEARGB : Nat := 0x11100038
/-- LDG.CIDk (R391). -/
def LDG_CIDk (k : Nat) : Nat := 0x11100040 + 0x4 * (k % 4)
/-- LDG.MODEL (R391). -/
def LDG_MODEL : Nat := 0x11100050
/-- LDG.RDSRCLO (R391). -/
def LDG_RDSRCLO : Nat := 0x11100060
/-- LDG.RDSRCHI (R391). -/
def LDG_RDSRCHI : Nat := 0x11100064
/-- LDG.RDDSTLO (R391). -/
def LDG_RDDSTLO : Nat := 0x11100068
/-- LDG.RDDSTHI (R391). -/
def LDG_RDDSTHI : Nat := 0x1110006C
/-- LDG.RDLEN (R391). -/
def LDG_RDLEN : Nat := 0x11100070
/-- LDG.RDCMD (R391). -/
def LDG_RDCMD : Nat := 0x11100074
/-- LDG.RECORDS (R391). -/
def LDG_RECORDS : Nat := 0x11100100
/-- LDG.COALESCED (R391). -/
def LDG_COALESCED : Nat := 0x11100104
/-- LDG.PAGES (R391). -/
def LDG_PAGES : Nat := 0x11100108
/-- LDG.DROPPED (R391). -/
def LDG_DROPPED : Nat := 0x1110010C
/-- LDG.FBLOST (R391). -/
def LDG_FBLOST : Nat := 0x11100110
/-- LDG.INVALIDREC (R391). -/
def LDG_INVALIDREC : Nat := 0x11100114
/-- LDG.AUTHFAIL (R391). -/
def LDG_AUTHFAIL : Nat := 0x11100118
/-- LDG.ATTACHES (R391). -/
def LDG_ATTACHES : Nat := 0x1110011C
/-- KEY.CTL (R405). -/
def KEY_CTL : Nat := 0x11200000
/-- KEY.STAT (R405). -/
def KEY_STAT : Nat := 0x11200004
/-- KEY.ERRSTAT (R405). -/
def KEY_ERRSTAT : Nat := 0x11200008
/-- KEY.LASTERR (R405). -/
def KEY_LASTERR : Nat := 0x1120000C
/-- KEY.DEVIDk (R405). -/
def KEY_DEVIDk (k : Nat) : Nat := 0x11200010 + 0x4 * (k % 4)
/-- KEY.CNTLO (R405). -/
def KEY_CNTLO : Nat := 0x11200020
/-- KEY.CNTHI (R405). -/
def KEY_CNTHI : Nat := 0x11200024
/-- KEY.OTPLEFT (R405). -/
def KEY_OTPLEFT : Nat := 0x11200028
/-- KEY.SSEL (R405). -/
def KEY_SSEL : Nat := 0x11200030
/-- KEY.SATTR (R405). -/
def KEY_SATTR : Nat := 0x11200034
/-- KEY.UPDATES (R405). -/
def KEY_UPDATES : Nat := 0x11200100
/-- KEY.REFUSALS (R405). -/
def KEY_REFUSALS : Nat := 0x11200104
/-- UPD.CTL (R421). -/
def UPD_CTL : Nat := 0x11300000
/-- UPD.STAT (R421). -/
def UPD_STAT : Nat := 0x11300004
/-- UPD.ERRSTAT (R421). -/
def UPD_ERRSTAT : Nat := 0x11300008
/-- UPD.LASTERR (R421). -/
def UPD_LASTERR : Nat := 0x1130000C
/-- UPD.STAGEBASELO (R421). -/
def UPD_STAGEBASELO : Nat := 0x11300010
/-- UPD.STAGEBASEHI (R421). -/
def UPD_STAGEBASEHI : Nat := 0x11300014
/-- UPD.STAGESIZE (R421). -/
def UPD_STAGESIZE : Nat := 0x11300018
/-- UPD.TRIALWIN (R421). -/
def UPD_TRIALWIN : Nat := 0x1130001C
/-- UPD.TRIALREM (R421). -/
def UPD_TRIALREM : Nat := 0x11300020
/-- UPD.SESSION (R421). -/
def UPD_SESSION : Nat := 0x11300024
/-- UPD.NBLK (R421). -/
def UPD_NBLK : Nat := 0x11300028
/-- UPD.VERIFIED (R421). -/
def UPD_VERIFIED : Nat := 0x1130002C
/-- UPD.STOREDBLK (R421). -/
def UPD_STOREDBLK : Nat := 0x11300030
/-- UPD.SECVERMIN (R421). -/
def UPD_SECVERMIN : Nat := 0x11300034
/-- UPD.BANKAID (R421). -/
def UPD_BANKAID : Nat := 0x11300038
/-- UPD.BANKBID (R421). -/
def UPD_BANKBID : Nat := 0x1130003C
/-- UPD.CTLSEQ (R421). -/
def UPD_CTLSEQ : Nat := 0x11300040
/-- UPD.ABORT (R421). -/
def UPD_ABORT : Nat := 0x11300044
/-- UPD.BLOCKSRX (R421). -/
def UPD_BLOCKSRX : Nat := 0x11300100
/-- UPD.BLOCKSFWD (R421). -/
def UPD_BLOCKSFWD : Nat := 0x11300104
/-- UPD.HASHFAIL (R421). -/
def UPD_HASHFAIL : Nat := 0x11300108
/-- UPD.NAKSENT (R421). -/
def UPD_NAKSENT : Nat := 0x1130010C
/-- UPD.RETRANS (R421). -/
def UPD_RETRANS : Nat := 0x11300110
/-- UPD.FRAMEERR (R421). -/
def UPD_FRAMEERR : Nat := 0x11300114
/-- UPD.ACTIVATIONS (R421). -/
def UPD_ACTIVATIONS : Nat := 0x11300118
/-- UPD.FALLBACKS (R421). -/
def UPD_FALLBACKS : Nat := 0x1130011C
/-- HIF.CTL (R450). -/
def HIF_CTL : Nat := 0x11400000
/-- HIF.STAT (R450). -/
def HIF_STAT : Nat := 0x11400004
/-- HIF.ERRSTAT (R450). -/
def HIF_ERRSTAT : Nat := 0x11400008
/-- HIF.IFVER (R450). -/
def HIF_IFVER : Nat := 0x1140000C
/-- HIF.DRVVER (R450). -/
def HIF_DRVVER : Nat := 0x11400010
/-- HIF.AGREED (R450). -/
def HIF_AGREED : Nat := 0x11400014
/-- HIF.CMDBASELO (R450). -/
def HIF_CMDBASELO : Nat := 0x11400020
/-- HIF.CMDBASEHI (R450). -/
def HIF_CMDBASEHI : Nat := 0x11400024
/-- HIF.CMDSIZE (R450). -/
def HIF_CMDSIZE : Nat := 0x11400028
/-- HIF.CMDTAIL (R450). -/
def HIF_CMDTAIL : Nat := 0x1140002C
/-- HIF.CMDHEAD (R450). -/
def HIF_CMDHEAD : Nat := 0x11400030
/-- HIF.CPLBASELO (R450). -/
def HIF_CPLBASELO : Nat := 0x11400040
/-- HIF.CPLBASEHI (R450). -/
def HIF_CPLBASEHI : Nat := 0x11400044
/-- HIF.CPLSIZE (R450). -/
def HIF_CPLSIZE : Nat := 0x11400048
/-- HIF.CPLHEAD (R450). -/
def HIF_CPLHEAD : Nat := 0x1140004C
/-- HIF.CPLTAIL (R450). -/
def HIF_CPLTAIL : Nat := 0x11400050
/-- HIF.OFFADDRLO (R450). -/
def HIF_OFFADDRLO : Nat := 0x11400060
/-- HIF.OFFADDRHI (R450). -/
def HIF_OFFADDRHI : Nat := 0x11400064
/-- HIF.OFFCNT (R450). -/
def HIF_OFFCNT : Nat := 0x11400068
/-- HIF.I2CCFG (R450). -/
def HIF_I2CCFG : Nat := 0x11400070
/-- HIF.CMDS (R450). -/
def HIF_CMDS : Nat := 0x11400100
/-- HIF.CMDERRS (R450). -/
def HIF_CMDERRS : Nat := 0x11400104
/-- HIF.I2CXFER (R450). -/
def HIF_I2CXFER : Nat := 0x11400108
/-- HIF.I2CNAK (R450). -/
def HIF_I2CNAK : Nat := 0x1140010C
/-- HIF.PERSTS (R450). -/
def HIF_PERSTS : Nat := 0x11400110
/-- NOC.STAT (R451). -/
def NOC_STAT : Nat := 0x11500000
/-- NOC.ERRSTAT (R451). -/
def NOC_ERRSTAT : Nat := 0x11500008
/-- NOC.CORECLSk (R451). -/
def NOC_CORECLSk (k : Nat) : Nat := 0x11500010 + 0x4 * (k % 8)
/-- NOC.CPWINBASELO (R451). -/
def NOC_CPWINBASELO : Nat := 0x11500040
/-- NOC.CPWINBASEHI (R451). -/
def NOC_CPWINBASEHI : Nat := 0x11500044
/-- NOC.CPWINSIZE (R451). -/
def NOC_CPWINSIZE : Nat := 0x11500048
/-- NOC.BLKMAXp (R451). -/
def NOC_BLKMAXp (p : Nat) : Nat := 0x11500080 + 0x4 * (p % 7)
/-- NOC.GRANTSp (R451). -/
def NOC_GRANTSp (p : Nat) : Nat := 0x115000A0 + 0x4 * (p % 7)
/-- NOC.BOUNDEXC (R451). -/
def NOC_BOUNDEXC : Nat := 0x115000C0
end Reg

/-- Fields by name: `F.<block>_<register>_<field>`. -/
def F.whole : Fld := ⟨0, 32⟩

namespace F
def SYS_ID_STEPPING : Fld := ⟨0, 8⟩
def SYS_ID_PART : Fld := ⟨8, 16⟩
def SYS_ID_VENDOR : Fld := ⟨24, 8⟩
def SYS_MODE_MODE : Fld := ⟨0, 4⟩
def SYS_MODE_PREV : Fld := ⟨4, 4⟩
def SYS_MODE_TRANS : Fld := ⟨8, 1⟩
def SYS_MODE_TARGET : Fld := ⟨12, 4⟩
def SYS_ERRSTAT_CFGERR : Fld := ⟨0, 1⟩
def SYS_ERRSTAT_REFUSED : Fld := ⟨1, 1⟩
def SYS_ERRSTAT_BOOTERR : Fld := ⟨2, 1⟩
def SYS_ERRSTAT_LOCKOUT : Fld := ⟨3, 1⟩
def SYS_ERRSTAT_NOLOCK : Fld := ⟨4, 1⟩
def SYS_ERRSTAT_PWRABORT : Fld := ⟨5, 1⟩
def SYS_ERRSTAT_WAKELOST : Fld := ⟨6, 1⟩
def SYS_BOOTSTAT_STEP : Fld := ⟨0, 8⟩
def SYS_BOOTSTAT_CODE : Fld := ⟨8, 8⟩
def SYS_PWRREQ_TARGET : Fld := ⟨0, 2⟩
def SYS_PWRREQ_WKI2C : Fld := ⟨8, 1⟩
def SYS_PWRREQ_WKPIN : Fld := ⟨9, 1⟩
def SYS_PWRREQ_WKEVC : Fld := ⟨10, 1⟩
def SYS_PWRREQ_WKALM : Fld := ⟨11, 1⟩
def SYS_WDOG_PERIOD : Fld := ⟨0, 6⟩
def SYS_WDOG_EN : Fld := ⟨31, 1⟩
def TB_CTL_ECHOEN : Fld := ⟨0, 1⟩
def TB_CTL_TDCEN : Fld := ⟨1, 1⟩
def TB_CTL_TPOEN : Fld := ⟨2, 1⟩
def TB_STAT_PLLLOCK : Fld := ⟨0, 1⟩
def TB_STAT_INCRPEND : Fld := ⟨1, 1⟩
def TB_STAT_STEPPEND : Fld := ⟨2, 1⟩
def TB_STAT_IRIGLOCK : Fld := ⟨3, 1⟩
def TB_UTCOFF_OFF : Fld := ⟨0, 16⟩
def TB_UTCOFF_VALID : Fld := ⟨31, 1⟩
def TB_LEAPSHI_SEC : Fld := ⟨0, 16⟩
def TB_LEAPSHI_APPLIED : Fld := ⟨29, 1⟩
def TB_LEAPSHI_DIR : Fld := ⟨30, 1⟩
def TB_LEAPSHI_PENDING : Fld := ⟨31, 1⟩
def TB_TQ_TQCODE : Fld := ⟨0, 4⟩
def TB_TQ_UNSYNC : Fld := ⟨4, 1⟩
def TB_TQ_HOLD : Fld := ⟨5, 1⟩
def TB_ERRSTAT_INCRRNG : Fld := ⟨0, 1⟩
def TB_ERRSTAT_STEP : Fld := ⟨1, 1⟩
def TB_ERRSTAT_OWNER : Fld := ⟨2, 1⟩
def TB_ERRSTAT_CFGERR : Fld := ⟨3, 1⟩
def TB_ERRSTAT_TDCOVF : Fld := ⟨4, 1⟩
def TB_ERRSTAT_IRIGERR : Fld := ⟨5, 1⟩
def TB_ERRSTAT_PLLUNLOCK : Fld := ⟨6, 1⟩
def TB_ERRSTAT_LATE : Fld := ⟨7, 1⟩
def TB_IRIGCFG_EN : Fld := ⟨0, 1⟩
def TB_IRIGCFG_FMT : Fld := ⟨1, 3⟩
def TB_IRIGCFG_X1344 : Fld := ⟨4, 1⟩
def TB_IRIGCFG_INV : Fld := ⟨5, 1⟩
def TB_IRIGCFG_OFFSET : Fld := ⟨16, 16⟩
def TB_IRIGSTAT_LOCK : Fld := ⟨0, 1⟩
def TB_IRIGSTAT_GOOD : Fld := ⟨8, 8⟩
def TB_IRIGTOD_SOD : Fld := ⟨0, 17⟩
def TB_IRIGTOD_DOY : Fld := ⟨17, 9⟩
def TB_IRIGYR_YEAR : Fld := ⟨0, 7⟩
def TB_IRIGYR_VALID : Fld := ⟨7, 1⟩
def TB_CMPnCTL_EN : Fld := ⟨0, 1⟩
def TB_CMPnCTL_PERIODIC : Fld := ⟨1, 1⟩
def TB_CMPnCTL_ACTION : Fld := ⟨2, 3⟩
def TB_CMPnCTL_TPO : Fld := ⟨5, 3⟩
def TB_CMPnCTL_TPOEN : Fld := ⟨8, 1⟩
def TB_CMPnCTL_EVCEN : Fld := ⟨9, 1⟩
def TB_CMPnCTL_ARG : Fld := ⟨10, 10⟩
def TB_CMPnSTAT_FIRED : Fld := ⟨0, 1⟩
def TB_CMPnSTAT_LATE : Fld := ⟨1, 1⟩
def TB_CMPnSTAT_ARMED : Fld := ⟨2, 1⟩
def TB_TPOmCFG_POL : Fld := ⟨0, 1⟩
def TB_TPOmCFG_MODE : Fld := ⟨1, 1⟩
def TB_TPOmCFG_SYNCGATE : Fld := ⟨2, 1⟩
def TB_TDCkCFG_EN : Fld := ⟨0, 1⟩
def TB_TDCkCFG_EDGE : Fld := ⟨1, 2⟩
def TB_TDCkCFG_DIV : Fld := ⟨4, 3⟩
def TB_TDCkCFG_DLY : Fld := ⟨16, 16⟩
def TB_TDCkHI_FRAC : Fld := ⟨0, 7⟩
def TB_TDCkHI_OVF : Fld := ⟨30, 1⟩
def TB_TDCkHI_VALID : Fld := ⟨31, 1⟩
def ETH_PnCTL_EN : Fld := ⟨0, 1⟩
def ETH_PnCTL_LOOP : Fld := ⟨1, 1⟩
def ETH_PnCTL_SPEED : Fld := ⟨2, 2⟩
def ETH_PnCTL_FEC : Fld := ⟨4, 2⟩
def ETH_PnCTL_PROMISC : Fld := ⟨6, 1⟩
def ETH_PnCTL_BCAST : Fld := ⟨7, 1⟩
def ETH_PnCTL_ALLMC : Fld := ⟨8, 1⟩
def ETH_PnSTAT_LINK : Fld := ⟨0, 1⟩
def ETH_PnSTAT_LOCK : Fld := ⟨1, 1⟩
def ETH_PnSTAT_FECLOCK : Fld := ⟨2, 1⟩
def ETH_PnSTAT_ANDONE : Fld := ⟨3, 1⟩
def ETH_PnSTAT_SGMIISPD : Fld := ⟨4, 2⟩
def ETH_PnRXCFG_MAXLEN : Fld := ⟨0, 14⟩
def ETH_PnRXCFG_VLFILT : Fld := ⟨16, 1⟩
def ETH_PnRXCFG_UNTAG : Fld := ⟨17, 1⟩
def ETH_PnRXCFG_HIPCP : Fld := ⟨18, 3⟩
def ETH_PnRXCFG_HIRES : Fld := ⟨24, 4⟩
def ETH_PnPREEMPT_PEN : Fld := ⟨0, 1⟩
def ETH_PnPREEMPT_VDIS : Fld := ⟨1, 1⟩
def ETH_PnPREEMPT_ADDFRAG : Fld := ⟨2, 2⟩
def ETH_PnPREEMPT_VERIFY_T : Fld := ⟨8, 8⟩
def ETH_PnPREEMPTSTAT_ACTIVE : Fld := ⟨0, 1⟩
def ETH_PnPREEMPTSTAT_VSTATE : Fld := ⟨1, 3⟩
def ETH_PnTXTSHI_SEQID : Fld := ⟨0, 16⟩
def ETH_PnTXTSHI_FRAC : Fld := ⟨16, 4⟩
def ETH_PnTXTSHI_MSGTYPE : Fld := ⟨20, 4⟩
def ETH_PnTXTSHI_VALID : Fld := ⟨31, 1⟩
def ETH_PnERRSTAT_CFGERR : Fld := ⟨0, 1⟩
def ETH_PnERRSTAT_TSOVF : Fld := ⟨1, 1⟩
def ETH_PnERRSTAT_LINKCHG : Fld := ⟨2, 1⟩
def ETH_PnERRSTAT_PVFAIL : Fld := ⟨3, 1⟩
def ETH_PnERRSTAT_OVF : Fld := ⟨4, 1⟩
def ETH_PnMCHIk_OCT : Fld := ⟨0, 16⟩
def ETH_PnMCHIk_VALID : Fld := ⟨31, 1⟩
def ETH_PnVLFk_VIDA : Fld := ⟨0, 12⟩
def ETH_PnVLFk_VALA : Fld := ⟨15, 1⟩
def ETH_PnVLFk_VIDB : Fld := ⟨16, 12⟩
def ETH_PnVLFk_VALB : Fld := ⟨31, 1⟩
def ETH_SDVER_MINOR : Fld := ⟨0, 16⟩
def ETH_SDVER_MAJOR : Fld := ⟨16, 16⟩
def ING_CTL_EN : Fld := ⟨0, 1⟩
def ING_CTL_C37EN : Fld := ⟨1, 1⟩
def ING_CTL_RSVEN : Fld := ⟨2, 1⟩
def ING_CTL_VTDEN : Fld := ⟨3, 1⟩
def ING_CTL_VTD1EN : Fld := ⟨4, 1⟩
def ING_STAT_BUSY : Fld := ⟨0, 1⟩
def ING_STAT_UCODE : Fld := ⟨16, 16⟩
def ING_REGCNT_STREAM : Fld := ⟨0, 14⟩
def ING_REGCNT_TELEM : Fld := ⟨14, 18⟩
def ING_DSTAT_INSTALLED : Fld := ⟨0, 1⟩
def ING_DSTAT_RATE : Fld := ⟨16, 16⟩
def ING_ERRSTAT_CFGCHG : Fld := ⟨0, 1⟩
def ING_ERRSTAT_RATECHG : Fld := ⟨1, 1⟩
def ING_ERRSTAT_TAGFAIL : Fld := ⟨2, 1⟩
def ING_ERRSTAT_CACHEERR : Fld := ⟨3, 1⟩
def ING_ERRSTAT_CFGERR : Fld := ⟨4, 1⟩
def ING_KIDMAPk_KEYID : Fld := ⟨0, 32⟩
def ING_KIDSLOTk_SLOT : Fld := ⟨0, 8⟩
def ING_KIDSLOTk_VALID : Fld := ⟨31, 1⟩
def SNAP_CTL_EN : Fld := ⟨0, 1⟩
def SNAP_CTL_LEARN : Fld := ⟨1, 1⟩
def SNAP_STAT_RUNNING : Fld := ⟨0, 1⟩
def SNAP_STAT_SPILLING : Fld := ⟨1, 1⟩
def SNAP_STAT_FREE : Fld := ⟨16, 16⟩
def SNAP_ERRSTAT_CFGERR : Fld := ⟨0, 1⟩
def SNAP_ERRSTAT_SPILL : Fld := ⟨1, 1⟩
def SNAP_ERRSTAT_SPILLFULL : Fld := ⟨2, 1⟩
def SNAP_ERRSTAT_ABSENT : Fld := ⟨3, 1⟩
def SNAP_ERRSTAT_SUBDROP : Fld := ⟨4, 1⟩
def SNAP_ERRSTAT_PROMOWAIT : Fld := ⟨5, 1⟩
def SNAP_ERRSTAT_TIGHTEN : Fld := ⟨6, 1⟩
def SNAP_ERRSTAT_SUSPEND : Fld := ⟨7, 1⟩
def SNAP_LQVAL_Q : Fld := ⟨0, 22⟩
def SNAP_LQVAL_VALID : Fld := ⟨31, 1⟩
def SNAP_LQWT_TOTAL : Fld := ⟨0, 16⟩
def SNAP_LQWT_MISSING : Fld := ⟨16, 16⟩
def SNAP_SCnCFG_EN : Fld := ⟨0, 1⟩
def SNAP_SCnCFG_RATE : Fld := ⟨1, 8⟩
def SNAP_SCnCFG_AMEND : Fld := ⟨9, 1⟩
def SNAP_SCnCFG_PROV : Fld := ⟨10, 1⟩
def SNAP_SCnCFG_STRAGN : Fld := ⟨16, 8⟩
def SNAP_SCnMEMB_MEMB : Fld := ⟨0, 14⟩
def SNAP_SCnMEMB_LEARNED : Fld := ⟨16, 14⟩
def SNAP_SUBkCTL_EN : Fld := ⟨0, 1⟩
def SNAP_SUBkCTL_CLASSES : Fld := ⟨1, 8⟩
def SNAP_SUBkCTL_FORM : Fld := ⟨9, 2⟩
def SNAP_SUBkCTL_KINDS : Fld := ⟨11, 3⟩
def SNAP_SUBkCTL_QUEUE : Fld := ⟨16, 5⟩
def SNAP_LASTn_SEQ : Fld := ⟨0, 28⟩
def SNAP_LASTn_READY : Fld := ⟨28, 1⟩
def SNAP_LASTn_REREAD : Fld := ⟨29, 1⟩
def SNAP_LASTn_KIND : Fld := ⟨30, 2⟩
def SNAP_LASTnCOUNT_MEMBERS : Fld := ⟨0, 14⟩
def SNAP_LASTnCOUNT_PRESENT : Fld := ⟨16, 14⟩
def SNAP_PWVAL_WEIGHT : Fld := ⟨0, 8⟩
def SNAP_PWVAL_ANCHOR : Fld := ⟨8, 1⟩
def SNAP_SCnPCFG_ISLAND : Fld := ⟨0, 1⟩
def SNAP_SCnPCFG_STEP : Fld := ⟨1, 1⟩
def SNAP_SCnPCFG_SEP : Fld := ⟨2, 1⟩
def SNAP_SCnPCFG_PGUARD : Fld := ⟨8, 12⟩
def SNAP_SCnPCFG_PRBMAX : Fld := ⟨24, 4⟩
def SNAP_SCnPSTATE_LEVEL : Fld := ⟨0, 4⟩
def SNAP_SCnPSTATE_DEBTI : Fld := ⟨4, 4⟩
def SNAP_SCnPSTATE_DEBTS : Fld := ⟨8, 4⟩
def SNAP_SCnPSTATE_DEBTP : Fld := ⟨12, 4⟩
def SNAP_SCnPSTATE_SUSP : Fld := ⟨16, 1⟩
def TOPO_CTL_EN : Fld := ⟨0, 1⟩
def TOPO_CTL_AGGEN : Fld := ⟨1, 1⟩
def TOPO_STAT_EDITBUSY : Fld := ⟨0, 1⟩
def TOPO_STAT_SPLITBUSY : Fld := ⟨1, 1⟩
def TOPO_STAT_AGGBUSY : Fld := ⟨2, 1⟩
def TOPO_STAT_AGGCUR : Fld := ⟨3, 1⟩
def TOPO_ERRSTAT_CFGERR : Fld := ⟨0, 1⟩
def TOPO_ERRSTAT_GENLAG : Fld := ⟨1, 1⟩
def TOPO_ERRSTAT_GENOLD : Fld := ⟨2, 1⟩
def TOPO_ERRSTAT_AGGOVR : Fld := ⟨3, 1⟩
def TOPO_ERRSTAT_ROWECC : Fld := ⟨4, 1⟩
def TOPO_ERRSTAT_LOADDROP : Fld := ⟨5, 1⟩
def TOPO_ERRSTAT_EDGEUNK : Fld := ⟨6, 1⟩
def TOPO_AGEPk_AGED : Fld := ⟨0, 16⟩
def TOPO_AGEPk_STALE : Fld := ⟨16, 16⟩
def TOPO_CVAL_LABEL : Fld := ⟨0, 16⟩
def TOPO_CVAL_VALID : Fld := ⟨31, 1⟩
def DET_CTL_ISLEN : Fld := ⟨0, 1⟩
def DET_CTL_STEPEN : Fld := ⟨1, 1⟩
def DET_CTL_SEPEN : Fld := ⟨2, 1⟩
def DET_STAT_ABANK : Fld := ⟨0, 1⟩
def DET_STAT_TBUSY : Fld := ⟨1, 1⟩
def DET_STAT_KVER : Fld := ⟨16, 16⟩
def DET_ERRSTAT_CFGERR : Fld := ⟨0, 1⟩
def DET_ERRSTAT_VRWRAP : Fld := ⟨1, 1⟩
def DET_ERRSTAT_NOREF : Fld := ⟨2, 1⟩
def DET_ERRSTAT_NOAGG : Fld := ⟨3, 1⟩
def DET_ERRSTAT_TBLERR : Fld := ⟨4, 1⟩
def DET_TSEL_TABLE : Fld := ⟨0, 2⟩
def DET_TSEL_INDEX : Fld := ⟨4, 16⟩
def DET_ICFG_ICONF : Fld := ⟨0, 4⟩
def DET_ICFG_ICLR : Fld := ⟨8, 8⟩
def DET_ICFG_MINPMU : Fld := ⟨16, 8⟩
def DET_VTRIP_VTRIPPCT : Fld := ⟨0, 7⟩
def DET_VTRIP_VMINROW : Fld := ⟨16, 16⟩
def DET_STEPCFG_PJTH : Fld := ⟨0, 12⟩
def DET_STEPCFG_VSTH : Fld := ⟨16, 10⟩
def DET_CLRCFG_SCLR : Fld := ⟨0, 8⟩
def DET_CLRCFG_STALECLR : Fld := ⟨8, 8⟩
def DET_CLRCFG_STHOLD : Fld := ⟨16, 16⟩
def DET_SCnDET_STEPEN : Fld := ⟨0, 1⟩
def MODAL_CTL_EN : Fld := ⟨0, 1⟩
def MODAL_CTL_LEARN : Fld := ⟨1, 1⟩
def MODAL_CTL_FASTEN : Fld := ⟨2, 1⟩
def MODAL_CTL_BANDEN : Fld := ⟨4, 4⟩
def MODAL_STAT_ABANK : Fld := ⟨0, 1⟩
def MODAL_STAT_TBUSY : Fld := ⟨1, 1⟩
def MODAL_STAT_UPDBUSY : Fld := ⟨2, 1⟩
def MODAL_STAT_KVER : Fld := ⟨16, 16⟩
def MODAL_ERRSTAT_CFGERR : Fld := ⟨0, 1⟩
def MODAL_ERRSTAT_TBLERR : Fld := ⟨1, 1⟩
def MODAL_ERRSTAT_MRWRAP : Fld := ⟨2, 1⟩
def MODAL_ERRSTAT_VRWRAP : Fld := ⟨3, 1⟩
def MODAL_ERRSTAT_UPDOVR : Fld := ⟨4, 1⟩
def MODAL_ERRSTAT_RATEERR : Fld := ⟨5, 1⟩
def MODAL_ERRSTAT_NOREF : Fld := ⟨6, 1⟩
def MODAL_TSEL_TABLE : Fld := ⟨0, 2⟩
def MODAL_TSEL_INDEX : Fld := ⟨4, 12⟩
def MODAL_MCFG_MCONF : Fld := ⟨0, 4⟩
def MODAL_MCFG_MCLR : Fld := ⟨8, 4⟩
def MODAL_MCFG_TRKDROP : Fld := ⟨16, 4⟩
def MODAL_MCFG_TRACKTOL : Fld := ⟨24, 7⟩
def MODAL_DAMPCFG_DAMPLO : Fld := ⟨0, 10⟩
def MODAL_DAMPCFG_FDAMP : Fld := ⟨16, 10⟩
def MODAL_FORCFG_FUPD : Fld := ⟨0, 4⟩
def MODAL_FORCFG_FSPREAD : Fld := ⟨8, 8⟩
def MODAL_BASECFG_BQ : Fld := ⟨0, 8⟩
def MODAL_BASECFG_BSTEP : Fld := ⟨8, 4⟩
def MODAL_BASECFG_BMULT : Fld := ⟨16, 16⟩
def MODAL_GAPCFG_GAPMAX : Fld := ⟨0, 4⟩
def MODAL_GAPCFG_VALIDPCT : Fld := ⟨8, 7⟩
def MODAL_GROWCFG_GSPAN : Fld := ⟨0, 4⟩
def MODAL_GROWCFG_GRATIO : Fld := ⟨8, 8⟩
def ALM_CTL_EN : Fld := ⟨0, 1⟩
def ALM_CTL_TESTPIN : Fld := ⟨1, 1⟩
def ALM_CTL_GOOSEEN : Fld := ⟨2, 1⟩
def ALM_CTL_ANEN : Fld := ⟨3, 1⟩
def ALM_STAT_MUTED : Fld := ⟨0, 1⟩
def ALM_STAT_GPEN : Fld := ⟨8, 8⟩
def ALM_ERRSTAT_CFGERR : Fld := ⟨0, 1⟩
def ALM_ERRSTAT_OVLD : Fld := ⟨1, 1⟩
def ALM_ERRSTAT_TPLERR : Fld := ⟨2, 1⟩
def ALM_ERRSTAT_ANKEY : Fld := ⟨3, 1⟩
def ALM_ERRSTAT_PUBDROP : Fld := ⟨4, 1⟩
def ALM_ERRSTAT_IGNORED : Fld := ⟨5, 1⟩
def ALM_OUTSTAT_ACT : Fld := ⟨0, 16⟩
def ALM_OUTSTAT_OVLD : Fld := ⟨16, 16⟩
def ALM_DINCFG_DEB : Fld := ⟨0, 8⟩
def ALM_DINCFG_WET : Fld := ⟨8, 4⟩
def ALM_DINCFG_DINEN : Fld := ⟨16, 16⟩
def ALM_GINT_MIN : Fld := ⟨0, 7⟩
def ALM_GINT_MAX : Fld := ⟨16, 16⟩
def ALM_ANCFG_REFRESH : Fld := ⟨0, 16⟩
def ALM_ANCFG_KEYSLOT : Fld := ⟨16, 8⟩
def ALM_ANCFG_TAGEN : Fld := ⟨24, 1⟩
def ALM_OUTmCFG_EN : Fld := ⟨0, 1⟩
def ALM_OUTmCFG_FAILSAFE : Fld := ⟨1, 1⟩
def ALM_OUTmCFG_ELIM : Fld := ⟨2, 1⟩
def ALM_OUTmCFG_ILIM : Fld := ⟨3, 5⟩
def ALM_OUTmCFG_MINON : Fld := ⟨8, 10⟩
def ALM_ANDSTj_4_PORTS : Fld := ⟨0, 4⟩
def ALM_ANDSTj_4_VALID : Fld := ⟨31, 1⟩
def ALM_ANDSTj_5_VLAN : Fld := ⟨0, 12⟩
def ALM_ANDSTj_5_PCP : Fld := ⟨12, 3⟩
def ALM_ANDSTj_5_TAGGED : Fld := ⟨15, 1⟩
def ALM_ALCkCFG_EN : Fld := ⟨0, 1⟩
def ALM_ALCkCFG_MODE : Fld := ⟨1, 2⟩
def ALM_ALCkCFG_LATCH : Fld := ⟨3, 1⟩
def ALM_ALCkCFG_PROVOK : Fld := ⟨4, 1⟩
def ALM_ALCkCFG_K : Fld := ⟨8, 8⟩
def ALM_ALCkCFG_GOOSE : Fld := ⟨16, 1⟩
def ALM_ALCkCFG_NOTICE : Fld := ⟨17, 1⟩
def ALM_ALCkCFG_HEV : Fld := ⟨18, 1⟩
def ALM_ALCkCFG_LEDGER : Fld := ⟨19, 1⟩
def ALM_ALCkCFG_GPUB : Fld := ⟨20, 3⟩
def ALM_ALCkDIN_SEL : Fld := ⟨0, 16⟩
def ALM_ALCkDIN_OPEN : Fld := ⟨16, 16⟩
def ALM_ALCkSTAT_ACTIVE : Fld := ⟨0, 1⟩
def ALM_ALCkSTAT_PINACT : Fld := ⟨1, 1⟩
def ALM_ALCkSTAT_LATCHED : Fld := ⟨2, 1⟩
def ALM_ALCkSTAT_ACKED : Fld := ⟨3, 1⟩
def ALM_ALCkSTAT_PROVONLY : Fld := ⟨4, 1⟩
def ALM_ALCkSTAT_COUNT : Fld := ⟨8, 16⟩
def AFE_CTL_RESEV : Fld := ⟨0, 1⟩
def AFE_CTL_SEQEV : Fld := ⟨1, 1⟩
def AFE_STAT_MODLOCK : Fld := ⟨0, 1⟩
def AFE_STAT_AUXBUSY : Fld := ⟨1, 1⟩
def AFE_STAT_REGRUN : Fld := ⟨2, 1⟩
def AFE_STAT_INJRUN : Fld := ⟨3, 1⟩
def AFE_STAT_INJPEND : Fld := ⟨4, 1⟩
def AFE_STAT_TRIMBUSY : Fld := ⟨5, 1⟩
def AFE_STAT_TRIMSEQ : Fld := ⟨8, 8⟩
def AFE_STAT_AUXCHAN : Fld := ⟨16, 5⟩
def AFE_ERRSTAT_CFGERR : Fld := ⟨0, 1⟩
def AFE_ERRSTAT_MODUNLOCK : Fld := ⟨1, 1⟩
def AFE_ERRSTAT_MOVL : Fld := ⟨2, 1⟩
def AFE_ERRSTAT_AUXOVR : Fld := ⟨3, 1⟩
def AFE_ERRSTAT_AUXMISS : Fld := ⟨4, 1⟩
def AFE_ERRSTAT_TRIMERR : Fld := ⟨5, 1⟩
def AFE_MCHcCFG_GAIN : Fld := ⟨0, 3⟩
def AFE_MCHcCFG_INV : Fld := ⟨3, 1⟩
def AFE_MCHSTAT_OVL : Fld := ⟨0, 8⟩
def AFE_MCHSTAT_SETTLING : Fld := ⟨8, 8⟩
def AFE_AUXCFG_AUXEN : Fld := ⟨0, 1⟩
def AFE_AUXCFG_CONT : Fld := ⟨1, 1⟩
def AFE_AUXCFG_URGENT : Fld := ⟨2, 1⟩
def AFE_AUXCFG_REGLEN : Fld := ⟨8, 5⟩
def AFE_AUXCFG_INJLEN : Fld := ⟨16, 3⟩
def AFE_AUXDATA_VALUE : Fld := ⟨0, 24⟩
def AFE_AUXDATA_CHAN : Fld := ⟨24, 5⟩
def AFE_AUXDATA_INJ : Fld := ⟨29, 1⟩
def AFE_AUXDATA_OVR : Fld := ⟨30, 1⟩
def AFE_AUXDATA_NEW : Fld := ⟨31, 1⟩
def AFE_AUXREGk_CHAN : Fld := ⟨0, 5⟩
def AFE_AUXREGk_NOTCH : Fld := ⟨5, 3⟩
def AFE_AUXREGk_ORDER : Fld := ⟨8, 2⟩
def AFE_AUXREGk_RANGE : Fld := ⟨10, 1⟩
def AFE_AUXREGk_ACQ : Fld := ⟨16, 8⟩
def AFE_AUXINJj_CHAN : Fld := ⟨0, 5⟩
def AFE_AUXINJj_NOTCH : Fld := ⟨5, 3⟩
def AFE_AUXINJj_ORDER : Fld := ⟨8, 2⟩
def AFE_AUXINJj_RANGE : Fld := ⟨10, 1⟩
def AFE_AUXINJj_ACQ : Fld := ⟨16, 8⟩
def FLT_CTL_LANEEN : Fld := ⟨0, 1⟩
def FLT_CTL_LANEEV : Fld := ⟨1, 1⟩
def FLT_CTL_DETEN : Fld := ⟨2, 1⟩
def FLT_STAT_SWAPPEND : Fld := ⟨0, 1⟩
def FLT_STAT_ABANK : Fld := ⟨1, 1⟩
def FLT_STAT_LANES : Fld := ⟨4, 4⟩
def FLT_STAT_PHRUN : Fld := ⟨8, 1⟩
def FLT_ERRSTAT_CFGERR : Fld := ⟨0, 1⟩
def FLT_ERRSTAT_SAT : Fld := ⟨1, 1⟩
def FLT_ERRSTAT_SYNC : Fld := ⟨2, 1⟩
def FLT_ERRSTAT_PHRATE : Fld := ⟨3, 1⟩
def FLT_CFG_F60 : Fld := ⟨0, 1⟩
def FLT_SYNCCFG_PINEN : Fld := ⟨0, 1⟩
def FLT_CSEL_TABLE : Fld := ⟨0, 1⟩
def FLT_CSEL_CHAN : Fld := ⟨1, 3⟩
def FLT_CSEL_INDEX : Fld := ⟨4, 12⟩
def FLT_CHcCFG_ORDER : Fld := ⟨0, 2⟩
def FLT_CHcCFG_DEC : Fld := ⟨2, 10⟩
def FLT_CHcCFG_FDEC : Fld := ⟨12, 2⟩
def FLT_CHcCFG_MODE : Fld := ⟨14, 1⟩
def FLT_CHcCFG_SPC : Fld := ⟨15, 2⟩
def FLT_CHcFLAGS_SETTLE : Fld := ⟨0, 1⟩
def FLT_CHcFLAGS_SPANBAD : Fld := ⟨1, 1⟩
def FLT_PRVkCFG_EN : Fld := ⟨0, 1⟩
def FLT_PRVkCFG_CHAN : Fld := ⟨1, 3⟩
def FLT_PRVkCFG_QTY : Fld := ⟨4, 3⟩
def FLT_PRVkCFG_UNDER : Fld := ⟨7, 1⟩
def FLT_PRVkCFG_NSET : Fld := ⟨8, 8⟩
def FLT_PRVkCFG_NREL : Fld := ⟨16, 8⟩
def FLT_PHCFG_EN : Fld := ⟨0, 1⟩
def FLT_PHCFG_SC : Fld := ⟨1, 3⟩
def FLT_PHCFG_PHCYC : Fld := ⟨4, 5⟩
def FLT_PHCFG_PHCHAN : Fld := ⟨16, 8⟩
def MTR_CTL_EN : Fld := ⟨0, 1⟩
def MTR_CTL_SAVEEN : Fld := ⟨1, 1⟩
def MTR_CTL_SAVEEV : Fld := ⟨2, 1⟩
def MTR_STAT_RUN : Fld := ⟨0, 1⟩
def MTR_STAT_SAVEBUSY : Fld := ⟨1, 1⟩
def MTR_STAT_TESTHOLD : Fld := ⟨2, 1⟩
def MTR_STAT_NOCART : Fld := ⟨3, 1⟩
def MTR_STAT_LASTSLOT : Fld := ⟨4, 1⟩
def MTR_ERRSTAT_CFGERR : Fld := ⟨0, 1⟩
def MTR_ERRSTAT_CFGMIS : Fld := ⟨1, 1⟩
def MTR_ERRSTAT_SAVEFAIL : Fld := ⟨2, 1⟩
def MTR_ERRSTAT_SAVESKIP : Fld := ⟨3, 1⟩
def MTR_ERRSTAT_PLSOVF : Fld := ⟨4, 1⟩
def MTR_ERRSTAT_RESTORE : Fld := ⟨5, 1⟩
def MTR_ERRSTAT_SKIP : Fld := ⟨6, 1⟩
def MTR_ERRSTAT_CLEARED : Fld := ⟨7, 1⟩
def MTR_CFG_WIRING : Fld := ⟨0, 2⟩
def MTR_CFG_DIRINV : Fld := ⟨2, 1⟩
def MTR_CLRCMD_CLEAR : Fld := ⟨0, 1⟩
def MTR_CLRCMD_KEY : Fld := ⟨16, 16⟩
def MTR_PLSnCFG_EN : Fld := ⟨0, 1⟩
def MTR_PLSnCFG_POL : Fld := ⟨1, 1⟩
def MTR_PLSnCFG_ELIM : Fld := ⟨2, 1⟩
def MTR_PLSnCFG_ILIM : Fld := ⟨3, 5⟩
def MTR_PLSnCFG_WIDTH : Fld := ⟨8, 8⟩
def MTR_PLSnCFG_QTY : Fld := ⟨16, 2⟩
def MTR_PLSnCFG_PHASE : Fld := ⟨18, 2⟩
def MTR_PLSnCFG_DIR : Fld := ⟨20, 1⟩
def MTR_PLSnCFG_BOTH : Fld := ⟨21, 1⟩
def CAP_CTL_EN : Fld := ⟨0, 1⟩
def CAP_CTL_TRIGEV : Fld := ⟨1, 1⟩
def CAP_CTL_STOPEV : Fld := ⟨2, 1⟩
def CAP_ERRSTAT_CFGERR : Fld := ⟨0, 1⟩
def CAP_ERRSTAT_MISSED : Fld := ⟨1, 1⟩
def CAP_ERRSTAT_ARCHFAIL : Fld := ⟨2, 1⟩
def CAP_ERRSTAT_ECC : Fld := ⟨3, 1⟩
def CAP_ERRSTAT_TRIGCLIP : Fld := ⟨4, 1⟩
def CAP_MSEL_BUF : Fld := ⟨0, 4⟩
def CAP_MSEL_UPPER : Fld := ⟨4, 1⟩
def CAP_MSEL_POINT : Fld := ⟨5, 8⟩
def CAP_BnCFG_SRC : Fld := ⟨0, 2⟩
def CAP_BnCFG_SC : Fld := ⟨2, 3⟩
def CAP_BnCFG_AUTOARM : Fld := ⟨5, 1⟩
def CAP_BnCFG_ARCH : Fld := ⟨6, 1⟩
def CAP_BnCFG_ARCHREL : Fld := ⟨7, 1⟩
def CAP_BnCFG_RED : Fld := ⟨16, 16⟩
def CAP_BnTRIG_TRIGIN : Fld := ⟨0, 3⟩
def CAP_BnTRIG_PRV : Fld := ⟨3, 4⟩
def CAP_BnTRIG_CMP : Fld := ⟨7, 1⟩
def CAP_BnTRIG_ALC : Fld := ⟨8, 1⟩
def CAP_BnTRIG_HOST : Fld := ⟨9, 1⟩
def CAP_BnTRIG_TALC : Fld := ⟨16, 6⟩
def CAP_BnREGION_OFF : Fld := ⟨0, 12⟩
def CAP_BnREGION_SIZE : Fld := ⟨16, 13⟩
def CAP_BnMASK_MCH : Fld := ⟨0, 3⟩
def CAP_BnMASK_MASKACT : Fld := ⟨3, 2⟩
def CAP_BnSTAT_STATE : Fld := ⟨0, 3⟩
def CAP_BnSTAT_RKIND : Fld := ⟨3, 2⟩
def CAP_BnSTAT_RESTARTS : Fld := ⟨8, 4⟩
def CAP_BnSTAT_STOPCAUSE : Fld := ⟨12, 4⟩
def CAP_BnSNAPk_VID : Fld := ⟨0, 20⟩
def CAP_BnSNAPk_PH : Fld := ⟨20, 5⟩
def CAP_BnSNAPk_VALID : Fld := ⟨31, 1⟩
def LAT_CTL_RUN : Fld := ⟨0, 1⟩
def LAT_CTL_SWAPEV : Fld := ⟨1, 1⟩
def LAT_STAT_LOADED : Fld := ⟨0, 1⟩
def LAT_STAT_LOADBUSY : Fld := ⟨1, 1⟩
def LAT_STAT_SWAPPEND : Fld := ⟨2, 1⟩
def LAT_STAT_ABANK : Fld := ⟨3, 1⟩
def LAT_STAT_FMTVER : Fld := ⟨4, 4⟩
def LAT_STAT_TILES : Fld := ⟨16, 9⟩
def LAT_ERRSTAT_CFGERR : Fld := ⟨0, 1⟩
def LAT_ERRSTAT_LOADERR : Fld := ⟨1, 1⟩
def LAT_ERRSTAT_TILEFAULT : Fld := ⟨2, 1⟩
def LAT_ERRSTAT_CTLERR : Fld := ⟨3, 1⟩
def LAT_LOADERR_CODE : Fld := ⟨0, 8⟩
def LAT_LOADERR_INDEX : Fld := ⟨16, 16⟩
def LAT_SCHEMA_MAJ : Fld := ⟨0, 16⟩
def LAT_SCHEMA_MIN : Fld := ⟨16, 16⟩
def LAT_KLIBVER_KLIB : Fld := ⟨0, 16⟩
def LAT_KLIBVER_IFV : Fld := ⟨16, 16⟩
def LAT_QSEL_C : Fld := ⟨0, 4⟩
def LAT_QSEL_R : Fld := ⟨4, 4⟩
def LAT_QSEL_Q : Fld := ⟨8, 2⟩
def LAT_QSTAT_HELD : Fld := ⟨0, 7⟩
def LAT_QSTAT_CONN : Fld := ⟨16, 1⟩
def LAT_QSTAT_CTRL : Fld := ⟨17, 1⟩
def LAT_TINFO_KERNEL : Fld := ⟨0, 8⟩
def LAT_TINFO_INST : Fld := ⟨8, 8⟩
def LAT_TINFO_SRAM : Fld := ⟨16, 9⟩
def LAT_TSTAT_RUN : Fld := ⟨0, 1⟩
def LAT_TSTAT_FAULT : Fld := ⟨1, 1⟩
def LAT_TSTAT_BANK : Fld := ⟨2, 1⟩
def EVC_CTL_EN : Fld := ⟨0, 1⟩
def EVC_ERRSTAT_CFGERR : Fld := ⟨0, 1⟩
def EVC_ERRSTAT_ORDER : Fld := ⟨1, 1⟩
def EVC_ERRSTAT_REROUTE : Fld := ⟨2, 1⟩
def EVC_ERRSTAT_RINGERR : Fld := ⟨3, 1⟩
def EVC_ERRSTAT_SPUR : Fld := ⟨4, 1⟩
def EVC_SRCCFG_TARGET : Fld := ⟨0, 5⟩
def EVC_SRCCFG_PRIO : Fld := ⟨5, 5⟩
def EVC_SRCCFG_KIND : Fld := ⟨10, 1⟩
def EVC_SRCCFG_EN : Fld := ⟨11, 1⟩
def EVC_TGTnCTL_EN : Fld := ⟨0, 1⟩
def EVC_TGTnCTL_FALLBACK : Fld := ⟨8, 5⟩
def EVC_TGTnCLAIM_IDX : Fld := ⟨0, 12⟩
def EVC_TGTnCLAIM_VALID : Fld := ⟨31, 1⟩
def EVC_TGTnSTACK_DEPTH : Fld := ⟨0, 5⟩
def EVC_TGTnSTACK_TOP : Fld := ⟨8, 5⟩
def EVC_TGTnSTACK_FROZEN : Fld := ⟨16, 1⟩
def TSK_CTL_EN : Fld := ⟨0, 1⟩
def TSK_STAT_READY : Fld := ⟨0, 13⟩
def TSK_STAT_DELAYED : Fld := ⟨16, 13⟩
def TSK_ERRSTAT_CFGERR : Fld := ⟨0, 1⟩
def TSK_ERRSTAT_TICKLATE : Fld := ⟨1, 1⟩
def TSK_ERRSTAT_PART : Fld := ⟨2, 1⟩
def TSK_ERRSTAT_DONEERR : Fld := ⟨3, 1⟩
def TSK_DELAY_TASK : Fld := ⟨0, 12⟩
def TSK_DELAY_TICKS : Fld := ⟨12, 20⟩
def TSK_NEXT_TASK : Fld := ⟨0, 12⟩
def TSK_NEXT_VALID : Fld := ⟨31, 1⟩
def TSK_RUNk_TASK : Fld := ⟨0, 12⟩
def TSK_RUNk_VALID : Fld := ⟨31, 1⟩
def CHD_CTL_EN : Fld := ⟨0, 1⟩
def CHD_CTL_AUTORESYNC : Fld := ⟨1, 1⟩
def CHD_CTL_PROMUNSYNC : Fld := ⟨2, 1⟩
def CHD_CTL_ROLEEV : Fld := ⟨3, 1⟩
def CHD_STAT_ROLE : Fld := ⟨0, 3⟩
def CHD_STAT_SYNCED : Fld := ⟨3, 1⟩
def CHD_STAT_PEER : Fld := ⟨4, 1⟩
def CHD_STAT_REF : Fld := ⟨5, 1⟩
def CHD_STAT_FENCED : Fld := ⟨6, 1⟩
def CHD_STAT_REDUN : Fld := ⟨7, 1⟩
def CHD_STAT_LANES : Fld := ⟨8, 2⟩
def CHD_STAT_SWPEND : Fld := ⟨10, 1⟩
def CHD_STAT_CHVER : Fld := ⟨12, 4⟩
def CHD_ERRSTAT_CFGERR : Fld := ⟨0, 1⟩
def CHD_ERRSTAT_LANEDN : Fld := ⟨1, 1⟩
def CHD_ERRSTAT_PEERLOST : Fld := ⟨2, 1⟩
def CHD_ERRSTAT_REFLOST : Fld := ⟨3, 1⟩
def CHD_ERRSTAT_DIVERGE : Fld := ⟨4, 1⟩
def CHD_ERRSTAT_SYNCLOST : Fld := ⟨5, 1⟩
def CHD_ERRSTAT_FENCED : Fld := ⟨6, 1⟩
def CHD_ERRSTAT_PROMOTED : Fld := ⟨7, 1⟩
def CHD_ERRSTAT_DEPOSED : Fld := ⟨8, 1⟩
def CHD_ERRSTAT_VERSION : Fld := ⟨9, 1⟩
def CHD_ERRSTAT_MIRRTO : Fld := ⟨10, 1⟩
def CHD_ERRSTAT_IMAGEMIS : Fld := ⟨11, 1⟩
def CHD_CFG_UNIT_ID : Fld := ⟨0, 8⟩
def CHD_CFG_PAIRED : Fld := ⟨8, 1⟩
def CHD_CFG_REFPORT : Fld := ⟨9, 1⟩
def CHD_CFG_HOME : Fld := ⟨10, 1⟩
def CHD_HBAGE_PEER : Fld := ⟨0, 16⟩
def CHD_HBAGE_REF : Fld := ⟨16, 16⟩
def CHD_PEERINFO_UNIT : Fld := ⟨0, 8⟩
def CHD_PEERINFO_MODE : Fld := ⟨8, 4⟩
def CHD_PEERINFO_HOME : Fld := ⟨12, 1⟩
def CHD_REFSTAT_ACTID : Fld := ⟨0, 8⟩
def CHD_REFSTAT_STBID : Fld := ⟨8, 8⟩
def CHD_REFSTAT_AHEARD : Fld := ⟨16, 1⟩
def CHD_REFSTAT_SHEARD : Fld := ⟨17, 1⟩
def CHD_REFSTAT_SSYNC : Fld := ⟨18, 1⟩
def CHD_REFSTAT_NOPROMO : Fld := ⟨19, 1⟩
def LDG_CTL_JEN : Fld := ⟨0, 1⟩
def LDG_CTL_HISTEN : Fld := ⟨1, 1⟩
def LDG_CTL_CAPAEN : Fld := ⟨2, 1⟩
def LDG_STAT_CSTATE : Fld := ⟨0, 3⟩
def LDG_STAT_FBUSE : Fld := ⟨3, 1⟩
def LDG_STAT_RDBUSY : Fld := ⟨4, 1⟩
def LDG_STAT_WORN : Fld := ⟨5, 1⟩
def LDG_STAT_PRESENT : Fld := ⟨6, 1⟩
def LDG_ERRSTAT_CFGERR : Fld := ⟨0, 1⟩
def LDG_ERRSTAT_AUTH : Fld := ⟨1, 1⟩
def LDG_ERRSTAT_FOREIGN : Fld := ⟨2, 1⟩
def LDG_ERRSTAT_SURPRISE : Fld := ⟨3, 1⟩
def LDG_ERRSTAT_PWRFLT : Fld := ⟨4, 1⟩
def LDG_ERRSTAT_WEAR80 : Fld := ⟨5, 1⟩
def LDG_ERRSTAT_WEAR95 : Fld := ⟨6, 1⟩
def LDG_ERRSTAT_WORN : Fld := ⟨7, 1⟩
def LDG_ERRSTAT_DROP : Fld := ⟨8, 1⟩
def LDG_ERRSTAT_FBLOST : Fld := ⟨9, 1⟩
def LDG_ERRSTAT_RDERR : Fld := ⟨10, 1⟩
def LDG_ERRSTAT_MODEL : Fld := ⟨11, 1⟩
def KEY_CTL_UPDEV : Fld := ⟨0, 1⟩
def KEY_STAT_BUSY : Fld := ⟨0, 1⟩
def KEY_STAT_IMGVALID : Fld := ⟨1, 1⟩
def KEY_ERRSTAT_CFGERR : Fld := ⟨0, 1⟩
def KEY_ERRSTAT_AUTH : Fld := ⟨1, 1⟩
def KEY_ERRSTAT_REFUSED : Fld := ⟨2, 1⟩
def KEY_ERRSTAT_IMGERR : Fld := ⟨3, 1⟩
def KEY_ERRSTAT_OTPLOW : Fld := ⟨4, 1⟩
def KEY_LASTERR_CODE : Fld := ⟨0, 8⟩
def KEY_LASTERR_ENTRY : Fld := ⟨8, 8⟩
def UPD_CTL_FWDEN : Fld := ⟨0, 1⟩
def UPD_CTL_AUTORECV : Fld := ⟨1, 1⟩
def UPD_CTL_AUTOCONF : Fld := ⟨2, 1⟩
def UPD_STAT_USTATE : Fld := ⟨0, 3⟩
def UPD_STAT_TRIAL : Fld := ⟨3, 1⟩
def UPD_STAT_SELFOK : Fld := ⟨4, 1⟩
def UPD_STAT_FALLBACK : Fld := ⟨5, 1⟩
def UPD_STAT_ABANK : Fld := ⟨6, 1⟩
def UPD_STAT_HEAD : Fld := ⟨7, 1⟩
def UPD_STAT_UPVER : Fld := ⟨8, 4⟩
def UPD_STAT_DNVER : Fld := ⟨12, 4⟩
def UPD_STAT_POS : Fld := ⟨16, 6⟩
def UPD_ERRSTAT_CFGERR : Fld := ⟨0, 1⟩
def UPD_ERRSTAT_MANIFEST : Fld := ⟨1, 1⟩
def UPD_ERRSTAT_HASHFAIL : Fld := ⟨2, 1⟩
def UPD_ERRSTAT_FLASHERR : Fld := ⟨3, 1⟩
def UPD_ERRSTAT_SESSFAIL : Fld := ⟨4, 1⟩
def UPD_ERRSTAT_FALLBACK : Fld := ⟨5, 1⟩
def UPD_ERRSTAT_VERSION : Fld := ⟨6, 1⟩
def UPD_ERRSTAT_CHAINLEN : Fld := ⟨7, 1⟩
def UPD_LASTERR_CODE : Fld := ⟨0, 8⟩
def UPD_LASTERR_BLOCK : Fld := ⟨16, 11⟩
def HIF_CTL_CMDEN : Fld := ⟨0, 1⟩
def HIF_CTL_CPLIRQ : Fld := ⟨1, 1⟩
def HIF_STAT_LINKUP : Fld := ⟨0, 1⟩
def HIF_STAT_CMDRDY : Fld := ⟨1, 1⟩
def HIF_STAT_CPLWAIT : Fld := ⟨2, 1⟩
def HIF_STAT_INPROG : Fld := ⟨8, 6⟩
def HIF_STAT_RATE : Fld := ⟨16, 3⟩
def HIF_STAT_LANES : Fld := ⟨20, 3⟩
def HIF_ERRSTAT_CFGERR : Fld := ⟨0, 1⟩
def HIF_ERRSTAT_OFFBLK : Fld := ⟨1, 1⟩
def HIF_ERRSTAT_UNMAPPED : Fld := ⟨2, 1⟩
def HIF_ERRSTAT_B2WR : Fld := ⟨3, 1⟩
def HIF_ERRSTAT_RINGERR : Fld := ⟨4, 1⟩
def HIF_ERRSTAT_VERSION : Fld := ⟨5, 1⟩
def HIF_ERRSTAT_CPLFULL : Fld := ⟨6, 1⟩
def HIF_ERRSTAT_I2CERR : Fld := ⟨7, 1⟩
def HIF_ERRSTAT_PERST : Fld := ⟨8, 1⟩
def HIF_AGREED_MAJ : Fld := ⟨8, 8⟩
def HIF_AGREED_MIN : Fld := ⟨0, 8⟩
def HIF_OFFADDRHI_HI : Fld := ⟨0, 8⟩
def HIF_OFFADDRHI_REQ : Fld := ⟨16, 4⟩
def HIF_OFFADDRHI_WRITE : Fld := ⟨20, 1⟩
def HIF_I2CCFG_EN : Fld := ⟨0, 1⟩
def NOC_ERRSTAT_CFGERR : Fld := ⟨0, 1⟩
def NOC_ERRSTAT_MAPERR : Fld := ⟨1, 1⟩
def NOC_ERRSTAT_BOUND : Fld := ⟨2, 1⟩
end F

/-- SYS register table, part 0 (R436). -/
def regsSYS0 : List RegDef := [
  ⟨0x10000000, [], 0xA69480B1, false, 0, false, [⟨⟨0, 8⟩, .ro, 0, 255⟩, ⟨⟨8, 16⟩, .ro, 0, 65535⟩, ⟨⟨24, 8⟩, .ro, 0, 255⟩]⟩,
  ⟨0x10000004, [], 0x0, false, 0, false, [⟨⟨0, 4⟩, .ro, 0, 15⟩, ⟨⟨4, 4⟩, .ro, 0, 15⟩, ⟨⟨8, 1⟩, .ro, 0, 1⟩, ⟨⟨12, 4⟩, .ro, 0, 15⟩]⟩,
  ⟨0x10000008, [], 0x0, false, 0, false, [⟨⟨0, 1⟩, .w1c, 0, 1⟩, ⟨⟨1, 1⟩, .w1c, 0, 1⟩, ⟨⟨2, 1⟩, .w1c, 0, 1⟩, ⟨⟨3, 1⟩, .w1c, 0, 1⟩, ⟨⟨4, 1⟩, .w1c, 0, 1⟩, ⟨⟨5, 1⟩, .w1c, 0, 1⟩, ⟨⟨6, 1⟩, .w1c, 0, 1⟩]⟩,
  ⟨0x1000000C, [], 0x0, false, 0, false, [⟨⟨0, 8⟩, .ro, 0, 255⟩, ⟨⟨8, 8⟩, .ro, 0, 255⟩]⟩,
  ⟨0x10000010, [], 0x3, false, 0, false, [⟨⟨0, 4⟩, .rw, 0, 15⟩]⟩,
  ⟨0x10000014, [], 0x3C, false, 0, false, [⟨⟨0, 10⟩, .rw, 0, 1000⟩]⟩,
  ⟨0x10000018, [], 0x258, false, 0, false, [⟨⟨0, 12⟩, .rw, 10, 3600⟩]⟩,
  ⟨0x10000020, [], 0x300, false, 0, true, [⟨⟨0, 2⟩, .rw, 0, 3⟩, ⟨⟨8, 1⟩, .rw, 0, 1⟩, ⟨⟨9, 1⟩, .rw, 0, 1⟩, ⟨⟨10, 1⟩, .rw, 0, 1⟩, ⟨⟨11, 1⟩, .rw, 0, 1⟩]⟩,
  ⟨0x10000024, [], 0x0, false, 0, false, [⟨⟨1, 1⟩, .ro, 0, 1⟩, ⟨⟨2, 1⟩, .ro, 0, 1⟩]⟩,
  ⟨0x10000028, [], 0x0, false, 0, false, [⟨⟨0, 32⟩, .ro, 0, 4294967295⟩]⟩,
  ⟨0x1000002C, [], 0x0, false, 0, false, [⟨⟨0, 16⟩, .ro, 0, 65535⟩]⟩,
  ⟨0x10000030, [], 0xFFFFFFFF, false, 0, true, [⟨⟨0, 32⟩, .rw, 0, 4294967295⟩]⟩,
  ⟨0x10000034, [], 0xFFFF, false, 0, true, [⟨⟨0, 16⟩, .rw, 0, 65535⟩]⟩,
  ⟨0x10000038, [], 0x0, false, 0, false, [⟨⟨0, 4⟩, .ro, 0, 15⟩]⟩,
  ⟨0x1000003C, [], 0x1, false, 0, true, [⟨⟨0, 32⟩, .ro, 0, 4294967295⟩]⟩,
  ⟨0x10000040, [], 0x0, false, 0, false, [⟨⟨0, 1⟩, .wo, 0, 1⟩, ⟨⟨16, 16⟩, .wo, 0, 65535⟩]⟩,
  ⟨0x10000044, [], 0xA, false, 0, true, [⟨⟨0, 6⟩, .rw, 1, 60⟩, ⟨⟨31, 1⟩, .rw, 0, 1⟩]⟩,
  ⟨0x10000048, [], 0x0, false, 0, false, [⟨⟨0, 32⟩, .wo, 0, 4294967295⟩]⟩,
  ⟨0x1000004C, [], 0x0, false, 0, false, [⟨⟨0, 1⟩, .wo, 0, 1⟩]⟩,
  ⟨0x10000050, [], 0x0, false, 0, false, [⟨⟨0, 1⟩, .wo, 0, 1⟩]⟩,
  ⟨0x10000054, [], 0, true, 0, false, [⟨⟨0, 7⟩, .ro, 0, 127⟩]⟩,
  ⟨0x10000100, [], 0x0, false, 0, false, [⟨⟨0, 32⟩, .rc, 0, 4294967295⟩]⟩,
  ⟨0x10000104, [], 0x0, false, 0, false, [⟨⟨0, 32⟩, .rc, 0, 4294967295⟩]⟩,
  ⟨0x10000108, [], 0x0, false, 0, false, [⟨⟨0, 32⟩, .rc, 0, 4294967295⟩]⟩]

/-- SYS register table, part 1 (R436). -/
def regsSYS1 : List RegDef := [
  ⟨0x1000010C, [], 0x0, false, 0, false, [⟨⟨0, 32⟩, .rc, 0, 4294967295⟩]⟩]

def regsSYS : List RegDef := regsSYS0 ++ regsSYS1

/-- TB register table, part 0 (R105). -/
def regsTB0 : List RegDef := [
  ⟨0x10100000, [], 0x3, false, 0, false, [⟨⟨0, 1⟩, .rw, 0, 1⟩, ⟨⟨1, 1⟩, .rw, 0, 1⟩, ⟨⟨2, 1⟩, .rw, 0, 1⟩]⟩,
  ⟨0x10100004, [], 0x0, false, 0, false, [⟨⟨0, 1⟩, .ro, 0, 1⟩, ⟨⟨1, 1⟩, .ro, 0, 1⟩, ⟨⟨2, 1⟩, .ro, 0, 1⟩, ⟨⟨3, 1⟩, .ro, 0, 1⟩]⟩,
  ⟨0x10100008, [], 0x0, false, 0, false, [⟨⟨0, 32⟩, .rw, 0, 4294967295⟩]⟩,
  ⟨0x1010000C, [], 0x4, false, 0, false, [⟨⟨0, 8⟩, .rw, 0, 255⟩]⟩,
  ⟨0x10100010, [], 0x0, false, 0, false, [⟨⟨0, 32⟩, .ro, 0, 4294967295⟩]⟩,
  ⟨0x10100014, [], 0x0, false, 0, false, [⟨⟨0, 32⟩, .ro, 0, 4294967295⟩]⟩,
  ⟨0x10100018, [], 0x0, false, 0, false, [⟨⟨0, 16⟩, .ro, 0, 65535⟩]⟩,
  ⟨0x1010001C, [], 0x0, false, 0, false, [⟨⟨0, 24⟩, .ro, 0, 16777215⟩]⟩,
  ⟨0x10100020, [], 0x0, false, 0, false, [⟨⟨0, 32⟩, .ro, 0, 4294967295⟩]⟩,
  ⟨0x10100024, [], 0x0, false, 0, false, [⟨⟨0, 32⟩, .ro, 0, 4294967295⟩]⟩,
  ⟨0x10100030, [], 0x0, false, 0, false, [⟨⟨0, 32⟩, .rw, 0, 4294967295⟩]⟩,
  ⟨0x10100034, [], 0x0, false, 0, false, [⟨⟨0, 16⟩, .rw, 0, 65535⟩]⟩,
  ⟨0x10100038, [], 0x0, false, 0, false, [⟨⟨0, 32⟩, .rw, 0, 4294967295⟩]⟩,
  ⟨0x1010003C, [], 0x0, false, 0, false, [⟨⟨0, 32⟩, .rw, 0, 4294967295⟩]⟩,
  ⟨0x10100040, [], 0x0, false, 0, false, [⟨⟨0, 1⟩, .wo, 0, 1⟩, ⟨⟨1, 1⟩, .wo, 0, 1⟩]⟩,
  ⟨0x10100044, [], 0x0, false, 0, false, [⟨⟨0, 32⟩, .rc, 0, 4294967295⟩]⟩,
  ⟨0x10100050, [], 0x25, false, 0, false, [⟨⟨0, 16⟩, .rw, 0, 65535⟩, ⟨⟨31, 1⟩, .rw, 0, 1⟩]⟩,
  ⟨0x10100054, [], 0x0, false, 0, false, [⟨⟨0, 32⟩, .rw, 0, 4294967295⟩]⟩,
  ⟨0x10100058, [], 0x0, false, 0, false, [⟨⟨0, 16⟩, .rw, 0, 65535⟩, ⟨⟨29, 1⟩, .ro, 0, 1⟩, ⟨⟨30, 1⟩, .rw, 0, 1⟩, ⟨⟨31, 1⟩, .rw, 0, 1⟩]⟩,
  ⟨0x10100060, [], 0x1F, false, 0, false, [⟨⟨0, 4⟩, .rw, 0, 15⟩, ⟨⟨4, 1⟩, .rw, 0, 1⟩, ⟨⟨5, 1⟩, .rw, 0, 1⟩]⟩,
  ⟨0x10100064, [], 0xFFFFFFFF, false, 0, false, [⟨⟨0, 32⟩, .rw, 0, 4294967295⟩]⟩,
  ⟨0x10100070, [], 0x0, false, 0, false, [⟨⟨0, 1⟩, .w1c, 0, 1⟩, ⟨⟨1, 1⟩, .w1c, 0, 1⟩, ⟨⟨2, 1⟩, .w1c, 0, 1⟩, ⟨⟨3, 1⟩, .w1c, 0, 1⟩, ⟨⟨4, 1⟩, .w1c, 0, 1⟩, ⟨⟨5, 1⟩, .w1c, 0, 1⟩, ⟨⟨6, 1⟩, .w1c, 0, 1⟩, ⟨⟨7, 1⟩, .w1c, 0, 1⟩]⟩,
  ⟨0x10100080, [], 0x0, false, 0, false, [⟨⟨0, 32⟩, .ro, 0, 4294967295⟩]⟩,
  ⟨0x10100084, [], 0x0, false, 0, false, [⟨⟨0, 32⟩, .ro, 0, 4294967295⟩]⟩]

/-- TB register table, part 1 (R105). -/
def regsTB1 : List RegDef := [
  ⟨0x10100090, [], 0x0, false, 0, false, [⟨⟨0, 1⟩, .rw, 0, 1⟩, ⟨⟨1, 3⟩, .rw, 0, 7⟩, ⟨⟨4, 1⟩, .rw, 0, 1⟩, ⟨⟨5, 1⟩, .rw, 0, 1⟩, ⟨⟨16, 16⟩, .rw, 0, 65535⟩]⟩,
  ⟨0x10100094, [], 0x0, false, 0, false, [⟨⟨0, 1⟩, .ro, 0, 1⟩, ⟨⟨8, 8⟩, .ro, 0, 255⟩]⟩,
  ⟨0x10100098, [], 0x0, false, 0, false, [⟨⟨0, 17⟩, .ro, 0, 131071⟩, ⟨⟨17, 9⟩, .ro, 0, 511⟩]⟩,
  ⟨0x1010009C, [], 0x0, false, 0, false, [⟨⟨0, 7⟩, .ro, 0, 127⟩, ⟨⟨7, 1⟩, .ro, 0, 1⟩]⟩,
  ⟨0x10100100, [(0, 32, 0x20)], 0x0, false, 0, false, [⟨⟨0, 1⟩, .rw, 0, 1⟩, ⟨⟨1, 1⟩, .rw, 0, 1⟩, ⟨⟨2, 3⟩, .rw, 0, 7⟩, ⟨⟨5, 3⟩, .rw, 0, 7⟩, ⟨⟨8, 1⟩, .rw, 0, 1⟩, ⟨⟨9, 1⟩, .rw, 0, 1⟩, ⟨⟨10, 10⟩, .rw, 0, 1023⟩]⟩,
  ⟨0x10100104, [(0, 32, 0x20)], 0x0, false, 0, false, [⟨⟨0, 32⟩, .rw, 0, 4294967295⟩]⟩,
  ⟨0x10100108, [(0, 32, 0x20)], 0x0, false, 0, false, [⟨⟨0, 16⟩, .rw, 0, 65535⟩]⟩,
  ⟨0x1010010C, [(0, 32, 0x20)], 0x0, false, 0, false, [⟨⟨0, 31⟩, .rw, 0, 2147483647⟩]⟩,
  ⟨0x10100110, [(0, 32, 0x20)], 0x0, false, 0, false, [⟨⟨0, 16⟩, .rw, 0, 65535⟩]⟩,
  ⟨0x10100114, [(0, 32, 0x20)], 0x0, false, 0, false, [⟨⟨0, 1⟩, .w1c, 0, 1⟩, ⟨⟨1, 1⟩, .w1c, 0, 1⟩, ⟨⟨2, 1⟩, .ro, 0, 1⟩]⟩,
  ⟨0x10100118, [(0, 32, 0x20)], 0x0, false, 0, false, [⟨⟨0, 32⟩, .rc, 0, 4294967295⟩]⟩,
  ⟨0x1010011C, [(0, 32, 0x20)], 0x0, false, 0, false, [⟨⟨0, 32⟩, .rc, 0, 4294967295⟩]⟩,
  ⟨0x10100500, [(0, 8, 0x10)], 0x0, false, 0, false, [⟨⟨0, 1⟩, .rw, 0, 1⟩, ⟨⟨1, 1⟩, .rw, 0, 1⟩, ⟨⟨2, 1⟩, .rw, 0, 1⟩]⟩,
  ⟨0x10100504, [(0, 8, 0x10)], 0xF4240, false, 0, false, [⟨⟨0, 32⟩, .rw, 0, 4294967295⟩]⟩,
  ⟨0x10100600, [(0, 1, 0x10)], 0x2, false, 0, false, [⟨⟨0, 1⟩, .rw, 0, 1⟩, ⟨⟨1, 2⟩, .rw, 0, 3⟩, ⟨⟨4, 3⟩, .rw, 0, 7⟩, ⟨⟨16, 16⟩, .rw, 0, 65535⟩]⟩,
  ⟨0x10100600, [(1, 1, 0x10)], 0x2, false, 0, false, [⟨⟨0, 1⟩, .rw, 0, 1⟩, ⟨⟨1, 2⟩, .rw, 0, 3⟩, ⟨⟨4, 3⟩, .rw, 0, 7⟩, ⟨⟨16, 16⟩, .rw, 0, 65535⟩]⟩,
  ⟨0x10100600, [(2, 1, 0x10)], 0x2, false, 0, false, [⟨⟨0, 1⟩, .rw, 0, 1⟩, ⟨⟨1, 2⟩, .rw, 0, 3⟩, ⟨⟨4, 3⟩, .rw, 0, 7⟩, ⟨⟨16, 16⟩, .rw, 0, 65535⟩]⟩,
  ⟨0x10100600, [(3, 1, 0x10)], 0x72, false, 0, false, [⟨⟨0, 1⟩, .rw, 0, 1⟩, ⟨⟨1, 2⟩, .rw, 0, 3⟩, ⟨⟨4, 3⟩, .rw, 0, 7⟩, ⟨⟨16, 16⟩, .rw, 0, 65535⟩]⟩,
  ⟨0x10100600, [(4, 1, 0x10)], 0x2, false, 0, false, [⟨⟨0, 1⟩, .rw, 0, 1⟩, ⟨⟨1, 2⟩, .rw, 0, 3⟩, ⟨⟨4, 3⟩, .rw, 0, 7⟩, ⟨⟨16, 16⟩, .rw, 0, 65535⟩]⟩,
  ⟨0x10100600, [(5, 1, 0x10)], 0x2, false, 0, false, [⟨⟨0, 1⟩, .rw, 0, 1⟩, ⟨⟨1, 2⟩, .rw, 0, 3⟩, ⟨⟨4, 3⟩, .rw, 0, 7⟩, ⟨⟨16, 16⟩, .rw, 0, 65535⟩]⟩,
  ⟨0x10100600, [(6, 1, 0x10)], 0x2, false, 0, false, [⟨⟨0, 1⟩, .rw, 0, 1⟩, ⟨⟨1, 2⟩, .rw, 0, 3⟩, ⟨⟨4, 3⟩, .rw, 0, 7⟩, ⟨⟨16, 16⟩, .rw, 0, 65535⟩]⟩,
  ⟨0x10100600, [(7, 1, 0x10)], 0x2, false, 0, false, [⟨⟨0, 1⟩, .rw, 0, 1⟩, ⟨⟨1, 2⟩, .rw, 0, 3⟩, ⟨⟨4, 3⟩, .rw, 0, 7⟩, ⟨⟨16, 16⟩, .rw, 0, 65535⟩]⟩,
  ⟨0x10100604, [(0, 8, 0x10)], 0x0, false, 0, false, [⟨⟨0, 32⟩, .ro, 0, 4294967295⟩]⟩,
  ⟨0x10100608, [(0, 8, 0x10)], 0x0, false, 0, false, [⟨⟨0, 7⟩, .ro, 0, 127⟩, ⟨⟨30, 1⟩, .ro, 0, 1⟩, ⟨⟨31, 1⟩, .ro, 0, 1⟩]⟩]

/-- TB register table, part 2 (R105). -/
def regsTB2 : List RegDef := [
  ⟨0x1010060C, [(0, 8, 0x10)], 0x0, false, 0, false, [⟨⟨0, 32⟩, .rc, 0, 4294967295⟩]⟩]

def regsTB : List RegDef := regsTB0 ++ regsTB1 ++ regsTB2

/-- ETH register table, part 0 (R49). -/
def regsETH0 : List RegDef := [
  ⟨0x10200000, [(0, 4, 0x1000)], 0xAC, false, 0, false, [⟨⟨0, 1⟩, .rw, 0, 1⟩, ⟨⟨1, 1⟩, .rw, 0, 1⟩, ⟨⟨2, 2⟩, .rw, 0, 3⟩, ⟨⟨4, 2⟩, .rw, 0, 3⟩, ⟨⟨6, 1⟩, .rw, 0, 1⟩, ⟨⟨7, 1⟩, .rw, 0, 1⟩, ⟨⟨8, 1⟩, .rw, 0, 1⟩]⟩,
  ⟨0x10200000, [(4, 4, 0x1000)], 0x80, false, 0, false, [⟨⟨0, 1⟩, .rw, 0, 1⟩, ⟨⟨1, 1⟩, .rw, 0, 1⟩, ⟨⟨2, 2⟩, .rw, 0, 3⟩, ⟨⟨4, 2⟩, .rw, 0, 3⟩, ⟨⟨6, 1⟩, .rw, 0, 1⟩, ⟨⟨7, 1⟩, .rw, 0, 1⟩, ⟨⟨8, 1⟩, .rw, 0, 1⟩]⟩,
  ⟨0x10200004, [(0, 8, 0x1000)], 0x0, false, 0, false, [⟨⟨0, 1⟩, .ro, 0, 1⟩, ⟨⟨1, 1⟩, .ro, 0, 1⟩, ⟨⟨2, 1⟩, .ro, 0, 1⟩, ⟨⟨3, 1⟩, .ro, 0, 1⟩, ⟨⟨4, 2⟩, .ro, 0, 3⟩]⟩,
  ⟨0x10200008, [(0, 8, 0x1000)], 0x0, false, 0, false, [⟨⟨0, 32⟩, .rw, 0, 4294967295⟩]⟩,
  ⟨0x1020000C, [(0, 8, 0x1000)], 0x0, false, 0, false, [⟨⟨0, 16⟩, .rw, 0, 65535⟩]⟩,
  ⟨0x10200010, [(0, 8, 0x1000)], 0x41A05F2, false, 0, false, [⟨⟨0, 14⟩, .rw, 64, 9216⟩, ⟨⟨16, 1⟩, .rw, 0, 1⟩, ⟨⟨17, 1⟩, .rw, 0, 1⟩, ⟨⟨18, 3⟩, .rw, 0, 7⟩, ⟨⟨24, 4⟩, .rw, 0, 15⟩]⟩,
  ⟨0x10200018, [(0, 4, 0x1000)], 0xA01, false, 0, false, [⟨⟨0, 1⟩, .rw, 0, 1⟩, ⟨⟨1, 1⟩, .rw, 0, 1⟩, ⟨⟨2, 2⟩, .rw, 0, 3⟩, ⟨⟨8, 8⟩, .rw, 1, 128⟩]⟩,
  ⟨0x10200018, [(4, 4, 0x1000)], 0x0, false, 0, false, [⟨⟨0, 1⟩, .rw, 0, 1⟩, ⟨⟨1, 1⟩, .rw, 0, 1⟩, ⟨⟨2, 2⟩, .rw, 0, 3⟩, ⟨⟨8, 8⟩, .rw, 1, 128⟩]⟩,
  ⟨0x1020001C, [(0, 8, 0x1000)], 0x0, false, 0, false, [⟨⟨0, 1⟩, .ro, 0, 1⟩, ⟨⟨1, 3⟩, .ro, 0, 7⟩]⟩,
  ⟨0x10200020, [(0, 8, 0x1000)], 0x0, false, 0, false, [⟨⟨0, 16⟩, .rw, 0, 65535⟩]⟩,
  ⟨0x10200024, [(0, 8, 0x1000)], 0x0, false, 0, false, [⟨⟨0, 16⟩, .rw, 0, 65535⟩]⟩,
  ⟨0x10200028, [(0, 8, 0x1000)], 0x0, false, 0, false, [⟨⟨0, 32⟩, .ro, 0, 4294967295⟩]⟩,
  ⟨0x1020002C, [(0, 8, 0x1000)], 0x0, false, 0, false, [⟨⟨0, 16⟩, .ro, 0, 65535⟩, ⟨⟨16, 4⟩, .ro, 0, 15⟩, ⟨⟨20, 4⟩, .ro, 0, 15⟩, ⟨⟨31, 1⟩, .ro, 0, 1⟩]⟩,
  ⟨0x10200030, [(0, 8, 0x1000)], 0x0, false, 0, false, [⟨⟨0, 1⟩, .w1c, 0, 1⟩, ⟨⟨1, 1⟩, .w1c, 0, 1⟩, ⟨⟨2, 1⟩, .w1c, 0, 1⟩, ⟨⟨3, 1⟩, .w1c, 0, 1⟩, ⟨⟨4, 1⟩, .w1c, 0, 1⟩]⟩,
  ⟨0x10200040, [(0, 8, 0x1000)], 0x0, false, 0, false, [⟨⟨0, 32⟩, .rc, 0, 4294967295⟩]⟩,
  ⟨0x10200044, [(0, 8, 0x1000)], 0x0, false, 0, false, [⟨⟨0, 32⟩, .rc, 0, 4294967295⟩]⟩,
  ⟨0x10200048, [(0, 8, 0x1000)], 0x0, false, 0, false, [⟨⟨0, 32⟩, .rc, 0, 4294967295⟩]⟩,
  ⟨0x1020004C, [(0, 8, 0x1000)], 0x0, false, 0, false, [⟨⟨0, 32⟩, .rc, 0, 4294967295⟩]⟩,
  ⟨0x10200050, [(0, 8, 0x1000)], 0x0, false, 0, false, [⟨⟨0, 32⟩, .rc, 0, 4294967295⟩]⟩,
  ⟨0x10200054, [(0, 8, 0x1000)], 0x0, false, 0, false, [⟨⟨0, 32⟩, .rc, 0, 4294967295⟩]⟩,
  ⟨0x10200058, [(0, 8, 0x1000)], 0x0, false, 0, false, [⟨⟨0, 32⟩, .rc, 0, 4294967295⟩]⟩,
  ⟨0x1020005C, [(0, 8, 0x1000)], 0x0, false, 0, false, [⟨⟨0, 32⟩, .rc, 0, 4294967295⟩]⟩,
  ⟨0x10200060, [(0, 8, 0x1000)], 0x0, false, 0, false, [⟨⟨0, 32⟩, .rc, 0, 4294967295⟩]⟩,
  ⟨0x10200064, [(0, 8, 0x1000)], 0x0, false, 0, false, [⟨⟨0, 32⟩, .rc, 0, 4294967295⟩]⟩]

/-- ETH register table, part 1 (R49). -/
def regsETH1 : List RegDef := [
  ⟨0x10200068, [(0, 8, 0x1000)], 0x0, false, 0, false, [⟨⟨0, 32⟩, .rc, 0, 4294967295⟩]⟩,
  ⟨0x1020006C, [(0, 8, 0x1000)], 0x0, false, 0, false, [⟨⟨0, 32⟩, .rc, 0, 4294967295⟩]⟩,
  ⟨0x10200100, [(0, 8, 0x1000), (0, 16, 0x8)], 0x0, false, 0, false, [⟨⟨0, 32⟩, .rw, 0, 4294967295⟩]⟩,
  ⟨0x10200104, [(0, 8, 0x1000), (0, 16, 0x8)], 0x0, false, 0, false, [⟨⟨0, 16⟩, .rw, 0, 65535⟩, ⟨⟨31, 1⟩, .rw, 0, 1⟩]⟩,
  ⟨0x10200180, [(0, 8, 0x1000), (0, 16, 0x4)], 0x0, false, 0, false, [⟨⟨0, 12⟩, .rw, 0, 4095⟩, ⟨⟨15, 1⟩, .rw, 0, 1⟩, ⟨⟨16, 12⟩, .rw, 0, 4095⟩, ⟨⟨31, 1⟩, .rw, 0, 1⟩]⟩,
  ⟨0x10280000, [], 0x0, false, 0, false, [⟨⟨0, 16⟩, .ro, 0, 65535⟩, ⟨⟨16, 16⟩, .ro, 0, 65535⟩]⟩]

def regsETH : List RegDef := regsETH0 ++ regsETH1

/-- ING register table, part 0 (R473). -/
def regsING0 : List RegDef := [
  ⟨0x10300000, [], 0x1F, false, 0, false, [⟨⟨0, 1⟩, .rw, 0, 1⟩, ⟨⟨1, 1⟩, .rw, 0, 1⟩, ⟨⟨2, 1⟩, .rw, 0, 1⟩, ⟨⟨3, 1⟩, .rw, 0, 1⟩, ⟨⟨4, 1⟩, .rw, 0, 1⟩]⟩,
  ⟨0x10300004, [], 0x0, false, 0, false, [⟨⟨0, 1⟩, .ro, 0, 1⟩, ⟨⟨16, 16⟩, .ro, 0, 65535⟩]⟩,
  ⟨0x10300008, [], 0x1269, false, 0, false, [⟨⟨0, 16⟩, .rwl, 0, 65535⟩]⟩,
  ⟨0x10300008, [(1, 3, 0x4)], 0x0, false, 0, false, [⟨⟨0, 16⟩, .rwl, 0, 65535⟩]⟩,
  ⟨0x10300018, [], 0x66, false, 0, false, [⟨⟨0, 16⟩, .rwl, 0, 65535⟩]⟩,
  ⟨0x1030001C, [], 0xB81A, false, 0, false, [⟨⟨0, 16⟩, .rwl, 0, 65535⟩]⟩,
  ⟨0x10300020, [], 0x1388, false, 0, false, [⟨⟨0, 16⟩, .rw, 1, 60000⟩]⟩,
  ⟨0x10300024, [], 0x0, false, 0, false, [⟨⟨0, 14⟩, .ro, 0, 16383⟩, ⟨⟨14, 18⟩, .ro, 0, 262143⟩]⟩,
  ⟨0x10300028, [], 0x0, false, 0, false, [⟨⟨0, 13⟩, .rw, 0, 8191⟩]⟩,
  ⟨0x1030002C, [], 0x0, false, 0, false, [⟨⟨0, 1⟩, .ro, 0, 1⟩, ⟨⟨16, 16⟩, .ro, 0, 65535⟩]⟩,
  ⟨0x10300030, [], 0x0, false, 0, false, [⟨⟨0, 1⟩, .w1c, 0, 1⟩, ⟨⟨1, 1⟩, .w1c, 0, 1⟩, ⟨⟨2, 1⟩, .w1c, 0, 1⟩, ⟨⟨3, 1⟩, .w1c, 0, 1⟩, ⟨⟨4, 1⟩, .w1c, 0, 1⟩]⟩,
  ⟨0x10300040, [], 0x0, false, 0, false, [⟨⟨0, 32⟩, .rc, 0, 4294967295⟩]⟩,
  ⟨0x10300044, [], 0x0, false, 0, false, [⟨⟨0, 32⟩, .rc, 0, 4294967295⟩]⟩,
  ⟨0x10300048, [], 0x0, false, 0, false, [⟨⟨0, 32⟩, .rc, 0, 4294967295⟩]⟩,
  ⟨0x1030004C, [], 0x0, false, 0, false, [⟨⟨0, 32⟩, .rc, 0, 4294967295⟩]⟩,
  ⟨0x10300050, [], 0x0, false, 0, false, [⟨⟨0, 32⟩, .rc, 0, 4294967295⟩]⟩,
  ⟨0x10300054, [], 0x0, false, 0, false, [⟨⟨0, 32⟩, .rc, 0, 4294967295⟩]⟩,
  ⟨0x10300058, [], 0x0, false, 0, false, [⟨⟨0, 32⟩, .rc, 0, 4294967295⟩]⟩,
  ⟨0x1030005C, [], 0x0, false, 0, false, [⟨⟨0, 32⟩, .rc, 0, 4294967295⟩]⟩,
  ⟨0x10300060, [], 0x0, false, 0, false, [⟨⟨0, 32⟩, .rc, 0, 4294967295⟩]⟩,
  ⟨0x10300064, [], 0x0, false, 0, false, [⟨⟨0, 32⟩, .rc, 0, 4294967295⟩]⟩,
  ⟨0x10300068, [], 0x0, false, 0, false, [⟨⟨0, 32⟩, .rc, 0, 4294967295⟩]⟩,
  ⟨0x1030006C, [], 0x0, false, 0, false, [⟨⟨0, 32⟩, .rc, 0, 4294967295⟩]⟩,
  ⟨0x10300070, [], 0x0, false, 0, false, [⟨⟨0, 32⟩, .rc, 0, 4294967295⟩]⟩]

/-- ING register table, part 1 (R473). -/
def regsING1 : List RegDef := [
  ⟨0x10300074, [], 0x0, false, 0, false, [⟨⟨0, 32⟩, .rc, 0, 4294967295⟩]⟩,
  ⟨0x10300078, [], 0x0, false, 0, false, [⟨⟨0, 32⟩, .rc, 0, 4294967295⟩]⟩,
  ⟨0x1030007C, [], 0x0, false, 0, false, [⟨⟨0, 32⟩, .rc, 0, 4294967295⟩]⟩,
  ⟨0x10300100, [(0, 64, 0x4)], 0x0, false, 0, false, [⟨⟨0, 32⟩, .rw, 0, 4294967295⟩]⟩,
  ⟨0x10300200, [(0, 64, 0x4)], 0x0, false, 0, false, [⟨⟨0, 8⟩, .rw, 0, 255⟩, ⟨⟨31, 1⟩, .rw, 0, 1⟩]⟩]

def regsING : List RegDef := regsING0 ++ regsING1

/-- SNAP register table, part 0 (R127). -/
def regsSNAP0 : List RegDef := [
  ⟨0x10400000, [], 0x3, false, 0, false, [⟨⟨0, 1⟩, .rw, 0, 1⟩, ⟨⟨1, 1⟩, .rw, 0, 1⟩]⟩,
  ⟨0x10400004, [], 0x0, false, 0, false, [⟨⟨0, 1⟩, .ro, 0, 1⟩, ⟨⟨1, 1⟩, .ro, 0, 1⟩, ⟨⟨16, 16⟩, .ro, 0, 65535⟩]⟩,
  ⟨0x10400008, [], 0x4E20, false, 0, false, [⟨⟨0, 20⟩, .rw, 0, 1000000⟩]⟩,
  ⟨0x1040000C, [], 0x1388, false, 0, false, [⟨⟨0, 20⟩, .rw, 0, 1000000⟩]⟩,
  ⟨0x10400010, [], 0x0, false, 20, false, [⟨⟨0, 32⟩, .rwl, 0, 4294967295⟩]⟩,
  ⟨0x10400014, [], 0x10, false, 0, false, [⟨⟨0, 8⟩, .rwl, 0, 255⟩]⟩,
  ⟨0x10400018, [], 0x800, false, 0, false, [⟨⟨0, 16⟩, .rwl, 0, 65535⟩]⟩,
  ⟨0x1040001C, [], 0x0, false, 0, false, [⟨⟨0, 23⟩, .ro, 0, 8388607⟩]⟩,
  ⟨0x10400020, [], 0x0, false, 0, false, [⟨⟨0, 1⟩, .w1c, 0, 1⟩, ⟨⟨1, 1⟩, .w1c, 0, 1⟩, ⟨⟨2, 1⟩, .w1c, 0, 1⟩, ⟨⟨3, 1⟩, .w1c, 0, 1⟩, ⟨⟨4, 1⟩, .w1c, 0, 1⟩, ⟨⟨5, 1⟩, .w1c, 0, 1⟩, ⟨⟨6, 1⟩, .w1c, 0, 1⟩, ⟨⟨7, 1⟩, .w1c, 0, 1⟩]⟩,
  ⟨0x10400024, [], 0x0, false, 0, false, [⟨⟨0, 13⟩, .rw, 0, 8191⟩]⟩,
  ⟨0x10400028, [], 0x0, false, 0, false, [⟨⟨0, 22⟩, .ro, 0, 4194303⟩, ⟨⟨31, 1⟩, .ro, 0, 1⟩]⟩,
  ⟨0x1040002C, [], 0x0, false, 0, false, [⟨⟨0, 16⟩, .ro, 0, 65535⟩, ⟨⟨16, 16⟩, .ro, 0, 65535⟩]⟩,
  ⟨0x10400030, [], 0x0, false, 0, false, [⟨⟨0, 32⟩, .rc, 0, 4294967295⟩]⟩,
  ⟨0x10400100, [(0, 8, 0x40)], 0x40000, false, 0, false, [⟨⟨0, 1⟩, .rwl, 0, 1⟩, ⟨⟨1, 8⟩, .rwl, 0, 240⟩, ⟨⟨9, 1⟩, .rw, 0, 1⟩, ⟨⟨10, 1⟩, .rw, 0, 1⟩, ⟨⟨16, 8⟩, .rw, 0, 255⟩]⟩,
  ⟨0x10400104, [(0, 8, 0x40)], 0x3E8, false, 0, false, [⟨⟨0, 21⟩, .rw, 0, 2000000⟩]⟩,
  ⟨0x10400108, [(0, 8, 0x40)], 0x4E20, false, 0, false, [⟨⟨0, 21⟩, .rw, 100, 2000000⟩]⟩,
  ⟨0x1040010C, [(0, 8, 0x40)], 0x1F4, false, 0, false, [⟨⟨0, 17⟩, .rw, 0, 100000⟩]⟩,
  ⟨0x10400110, [(0, 8, 0x40)], 0xFFBE, false, 0, false, [⟨⟨0, 16⟩, .rw, 0, 65535⟩]⟩,
  ⟨0x10400114, [(0, 8, 0x40)], 0x2000, false, 0, false, [⟨⟨0, 16⟩, .rw, 256, 65535⟩]⟩,
  ⟨0x10400118, [(0, 8, 0x40)], 0x64, false, 0, false, [⟨⟨0, 16⟩, .rw, 1, 65535⟩]⟩,
  ⟨0x1040011C, [(0, 8, 0x40)], 0x3E8, false, 0, false, [⟨⟨0, 14⟩, .rw, 1, 10000⟩]⟩,
  ⟨0x10400120, [(0, 8, 0x40)], 0x0, false, 0, false, [⟨⟨0, 21⟩, .ro, 0, 2097151⟩]⟩,
  ⟨0x10400124, [(0, 8, 0x40)], 0x0, false, 0, false, [⟨⟨0, 32⟩, .ro, 0, 4294967295⟩]⟩,
  ⟨0x10400128, [(0, 8, 0x40)], 0x0, false, 0, false, [⟨⟨0, 14⟩, .ro, 0, 16383⟩, ⟨⟨16, 14⟩, .ro, 0, 16383⟩]⟩]

/-- SNAP register table, part 1 (R127). -/
def regsSNAP1 : List RegDef := [
  ⟨0x1040012C, [(0, 8, 0x40)], 0x3, false, 0, false, [⟨⟨0, 8⟩, .rw, 1, 255⟩]⟩,
  ⟨0x10400300, [(0, 8, 0x40)], 0x0, false, 0, false, [⟨⟨0, 32⟩, .rc, 0, 4294967295⟩]⟩,
  ⟨0x10400304, [(0, 8, 0x40)], 0x0, false, 0, false, [⟨⟨0, 32⟩, .rc, 0, 4294967295⟩]⟩,
  ⟨0x10400308, [(0, 8, 0x40)], 0x0, false, 0, false, [⟨⟨0, 32⟩, .rc, 0, 4294967295⟩]⟩,
  ⟨0x1040030C, [(0, 8, 0x40)], 0x0, false, 0, false, [⟨⟨0, 32⟩, .rc, 0, 4294967295⟩]⟩,
  ⟨0x10400310, [(0, 8, 0x40)], 0x0, false, 0, false, [⟨⟨0, 32⟩, .rc, 0, 4294967295⟩]⟩,
  ⟨0x10400314, [(0, 8, 0x40)], 0x0, false, 0, false, [⟨⟨0, 32⟩, .rc, 0, 4294967295⟩]⟩,
  ⟨0x10400318, [(0, 8, 0x40)], 0x0, false, 0, false, [⟨⟨0, 32⟩, .rc, 0, 4294967295⟩]⟩,
  ⟨0x1040031C, [(0, 8, 0x40)], 0x0, false, 0, false, [⟨⟨0, 32⟩, .rc, 0, 4294967295⟩]⟩,
  ⟨0x10400320, [(0, 8, 0x40)], 0x0, false, 0, false, [⟨⟨0, 32⟩, .rc, 0, 4294967295⟩]⟩,
  ⟨0x10400324, [(0, 8, 0x40)], 0x0, false, 0, false, [⟨⟨0, 32⟩, .rc, 0, 4294967295⟩]⟩,
  ⟨0x10400600, [(0, 16, 0x20)], 0x0, false, 0, false, [⟨⟨0, 1⟩, .ro, 0, 1⟩, ⟨⟨1, 8⟩, .ro, 0, 255⟩, ⟨⟨9, 2⟩, .ro, 0, 3⟩, ⟨⟨11, 3⟩, .ro, 0, 7⟩, ⟨⟨16, 5⟩, .ro, 0, 31⟩]⟩,
  ⟨0x10400604, [(0, 16, 0x20)], 0x0, false, 0, false, [⟨⟨0, 32⟩, .ro, 0, 4294967295⟩]⟩,
  ⟨0x10400608, [(0, 16, 0x20)], 0x0, false, 0, false, [⟨⟨0, 32⟩, .ro, 0, 4294967295⟩]⟩,
  ⟨0x1040060C, [(0, 16, 0x20)], 0x0, false, 0, false, [⟨⟨0, 5⟩, .ro, 0, 31⟩]⟩,
  ⟨0x10400610, [(0, 16, 0x20)], 0x0, false, 0, false, [⟨⟨0, 16⟩, .ro, 0, 65535⟩]⟩,
  ⟨0x10400614, [(0, 16, 0x20)], 0x0, false, 0, false, [⟨⟨0, 16⟩, .rw, 0, 65535⟩]⟩,
  ⟨0x10400618, [(0, 16, 0x20)], 0x0, false, 0, false, [⟨⟨0, 32⟩, .rc, 0, 4294967295⟩]⟩,
  ⟨0x10400800, [(0, 8, 0x20)], 0x0, false, 0, false, [⟨⟨0, 28⟩, .ro, 0, 268435455⟩, ⟨⟨28, 1⟩, .ro, 0, 1⟩, ⟨⟨29, 1⟩, .ro, 0, 1⟩, ⟨⟨30, 2⟩, .ro, 0, 3⟩]⟩,
  ⟨0x10400804, [(0, 8, 0x20)], 0x0, false, 0, false, [⟨⟨0, 32⟩, .ro, 0, 4294967295⟩]⟩,
  ⟨0x10400808, [(0, 8, 0x20)], 0x0, false, 0, false, [⟨⟨0, 32⟩, .ro, 0, 4294967295⟩]⟩,
  ⟨0x1040080C, [(0, 8, 0x20)], 0x0, false, 0, false, [⟨⟨0, 32⟩, .ro, 0, 4294967295⟩]⟩,
  ⟨0x10400810, [(0, 8, 0x20)], 0x0, false, 0, false, [⟨⟨0, 14⟩, .ro, 0, 16383⟩, ⟨⟨16, 14⟩, .ro, 0, 16383⟩]⟩,
  ⟨0x10400814, [(0, 8, 0x20)], 0x0, false, 0, false, [⟨⟨0, 16⟩, .ro, 0, 65535⟩]⟩]

/-- SNAP register table, part 2 (R127). -/
def regsSNAP2 : List RegDef := [
  ⟨0x10400818, [(0, 8, 0x20)], 0x0, false, 0, false, [⟨⟨0, 32⟩, .ro, 0, 4294967295⟩]⟩,
  ⟨0x1040081C, [(0, 8, 0x20)], 0x0, false, 0, false, [⟨⟨0, 32⟩, .ro, 0, 4294967295⟩]⟩,
  ⟨0x10400034, [], 0x14, false, 0, false, [⟨⟨0, 10⟩, .rw, 0, 1000⟩]⟩,
  ⟨0x10400038, [], 0x0, false, 0, false, [⟨⟨0, 13⟩, .rw, 0, 8191⟩]⟩,
  ⟨0x1040003C, [], 0x1, false, 0, false, [⟨⟨0, 8⟩, .rw, 0, 255⟩, ⟨⟨8, 1⟩, .rw, 0, 1⟩]⟩,
  ⟨0x10400040, [], 0x12C, false, 0, false, [⟨⟨0, 16⟩, .rw, 1, 65535⟩]⟩,
  ⟨0x10400044, [], 0xE10, false, 0, false, [⟨⟨0, 16⟩, .rw, 0, 65535⟩]⟩,
  ⟨0x10400130, [(0, 8, 0x40)], 0xE666, false, 0, false, [⟨⟨0, 16⟩, .rw, 0, 65535⟩]⟩,
  ⟨0x10400134, [(0, 8, 0x40)], 0x1F4, false, 0, false, [⟨⟨0, 21⟩, .rw, 0, 2000000⟩]⟩,
  ⟨0x10400138, [(0, 8, 0x40)], 0x200C807, false, 0, false, [⟨⟨0, 1⟩, .rw, 0, 1⟩, ⟨⟨1, 1⟩, .rw, 0, 1⟩, ⟨⟨2, 1⟩, .rw, 0, 1⟩, ⟨⟨8, 12⟩, .rw, 0, 4095⟩, ⟨⟨24, 4⟩, .rw, 0, 15⟩]⟩,
  ⟨0x1040013C, [(0, 8, 0x40)], 0x0, false, 0, false, [⟨⟨0, 4⟩, .rw, 0, 8⟩, ⟨⟨4, 4⟩, .ro, 0, 15⟩, ⟨⟨8, 4⟩, .ro, 0, 15⟩, ⟨⟨12, 4⟩, .ro, 0, 15⟩, ⟨⟨16, 1⟩, .ro, 0, 1⟩]⟩,
  ⟨0x10400328, [(0, 8, 0x40)], 0x0, false, 0, false, [⟨⟨0, 32⟩, .rc, 0, 4294967295⟩]⟩,
  ⟨0x1040032C, [(0, 8, 0x40)], 0x0, false, 0, false, [⟨⟨0, 32⟩, .rc, 0, 4294967295⟩]⟩,
  ⟨0x10400330, [(0, 8, 0x40)], 0x0, false, 0, false, [⟨⟨0, 32⟩, .rc, 0, 4294967295⟩]⟩,
  ⟨0x10400334, [(0, 8, 0x40)], 0x0, false, 0, false, [⟨⟨0, 32⟩, .rc, 0, 4294967295⟩]⟩,
  ⟨0x10400338, [(0, 8, 0x40)], 0x0, false, 0, false, [⟨⟨0, 32⟩, .rc, 0, 4294967295⟩]⟩]

def regsSNAP : List RegDef := regsSNAP0 ++ regsSNAP1 ++ regsSNAP2

/-- TOPO register table, part 0 (R166). -/
def regsTOPO0 : List RegDef := [
  ⟨0x10500000, [], 0x3, false, 0, false, [⟨⟨0, 1⟩, .rw, 0, 1⟩, ⟨⟨1, 1⟩, .rw, 0, 1⟩]⟩,
  ⟨0x10500004, [], 0x0, false, 0, false, [⟨⟨0, 1⟩, .ro, 0, 1⟩, ⟨⟨1, 1⟩, .ro, 0, 1⟩, ⟨⟨2, 1⟩, .ro, 0, 1⟩, ⟨⟨3, 1⟩, .ro, 0, 1⟩]⟩,
  ⟨0x10500008, [], 0xA, false, 0, false, [⟨⟨0, 10⟩, .rwl, 1, 1000⟩]⟩,
  ⟨0x1050000C, [], 0x3E8, false, 0, false, [⟨⟨0, 16⟩, .rw, 100, 60000⟩]⟩,
  ⟨0x10500010, [], 0x0, false, 20, false, [⟨⟨0, 32⟩, .rwl, 0, 4294967295⟩]⟩,
  ⟨0x10500014, [], 0x10, false, 0, false, [⟨⟨0, 8⟩, .rwl, 0, 255⟩]⟩,
  ⟨0x10500018, [], 0x1000000, false, 20, false, [⟨⟨0, 32⟩, .rwl, 0, 4294967295⟩]⟩,
  ⟨0x1050001C, [], 0x10, false, 0, false, [⟨⟨0, 8⟩, .rwl, 0, 255⟩]⟩,
  ⟨0x10500020, [], 0x0, false, 0, false, [⟨⟨0, 1⟩, .w1c, 0, 1⟩, ⟨⟨1, 1⟩, .w1c, 0, 1⟩, ⟨⟨2, 1⟩, .w1c, 0, 1⟩, ⟨⟨3, 1⟩, .w1c, 0, 1⟩, ⟨⟨4, 1⟩, .w1c, 0, 1⟩, ⟨⟨5, 1⟩, .w1c, 0, 1⟩, ⟨⟨6, 1⟩, .w1c, 0, 1⟩]⟩,
  ⟨0x10500024, [], 0x0, false, 0, false, [⟨⟨0, 32⟩, .ro, 0, 4294967295⟩]⟩,
  ⟨0x10500028, [], 0x0, false, 0, false, [⟨⟨0, 32⟩, .ro, 0, 4294967295⟩]⟩,
  ⟨0x1050002C, [], 0x1300000, false, 0, false, [⟨⟨0, 32⟩, .ro, 0, 4294967295⟩]⟩,
  ⟨0x10500030, [], 0x0, false, 0, false, [⟨⟨0, 21⟩, .ro, 0, 2097151⟩]⟩,
  ⟨0x10500034, [], 0x0, false, 0, false, [⟨⟨0, 17⟩, .ro, 0, 131071⟩]⟩,
  ⟨0x10500038, [], 0x0, false, 0, false, [⟨⟨0, 19⟩, .ro, 0, 524287⟩]⟩,
  ⟨0x1050003C, [], 0x0, false, 0, false, [⟨⟨0, 19⟩, .ro, 0, 524287⟩]⟩,
  ⟨0x10500040, [], 0x0, false, 0, false, [⟨⟨0, 17⟩, .ro, 0, 131071⟩]⟩,
  ⟨0x10500044, [], 0x0, false, 0, false, [⟨⟨0, 32⟩, .ro, 0, 4294967295⟩]⟩,
  ⟨0x10500048, [], 0x0, false, 0, false, [⟨⟨0, 20⟩, .ro, 0, 1048575⟩]⟩,
  ⟨0x10500050, [(0, 1, 0x4)], 0x12C003C, false, 0, false, [⟨⟨0, 16⟩, .rw, 1, 65535⟩, ⟨⟨16, 16⟩, .rw, 1, 65535⟩]⟩,
  ⟨0x10500050, [(1, 1, 0x4)], 0x1E0005, false, 0, false, [⟨⟨0, 16⟩, .rw, 1, 65535⟩, ⟨⟨16, 16⟩, .rw, 1, 65535⟩]⟩,
  ⟨0x10500050, [(2, 1, 0x4)], 0xE100384, false, 0, false, [⟨⟨0, 16⟩, .rw, 1, 65535⟩, ⟨⟨16, 16⟩, .rw, 1, 65535⟩]⟩,
  ⟨0x10500050, [(3, 1, 0x4)], 0x50001, false, 0, false, [⟨⟨0, 16⟩, .rw, 1, 65535⟩, ⟨⟨16, 16⟩, .rw, 1, 65535⟩]⟩,
  ⟨0x10500060, [], 0x0, false, 0, false, [⟨⟨0, 16⟩, .rw, 0, 65535⟩]⟩]

/-- TOPO register table, part 1 (R166). -/
def regsTOPO1 : List RegDef := [
  ⟨0x10500064, [], 0x0, false, 0, false, [⟨⟨0, 16⟩, .ro, 0, 65535⟩, ⟨⟨31, 1⟩, .ro, 0, 1⟩]⟩,
  ⟨0x10500068, [], 0x0, false, 0, false, [⟨⟨0, 17⟩, .ro, 0, 131071⟩]⟩,
  ⟨0x10500100, [], 0x0, false, 0, false, [⟨⟨0, 32⟩, .rc, 0, 4294967295⟩]⟩,
  ⟨0x10500104, [], 0x0, false, 0, false, [⟨⟨0, 32⟩, .rc, 0, 4294967295⟩]⟩,
  ⟨0x10500108, [], 0x0, false, 0, false, [⟨⟨0, 32⟩, .rc, 0, 4294967295⟩]⟩,
  ⟨0x1050010C, [], 0x0, false, 0, false, [⟨⟨0, 32⟩, .rc, 0, 4294967295⟩]⟩,
  ⟨0x10500110, [], 0x0, false, 0, false, [⟨⟨0, 32⟩, .rc, 0, 4294967295⟩]⟩,
  ⟨0x10500114, [], 0x0, false, 0, false, [⟨⟨0, 32⟩, .rc, 0, 4294967295⟩]⟩,
  ⟨0x10500118, [], 0x0, false, 0, false, [⟨⟨0, 32⟩, .rc, 0, 4294967295⟩]⟩,
  ⟨0x1050011C, [], 0x0, false, 0, false, [⟨⟨0, 32⟩, .rc, 0, 4294967295⟩]⟩,
  ⟨0x10500120, [], 0x0, false, 0, false, [⟨⟨0, 32⟩, .rc, 0, 4294967295⟩]⟩]

def regsTOPO : List RegDef := regsTOPO0 ++ regsTOPO1

/-- DET register table, part 0 (R183). -/
def regsDET0 : List RegDef := [
  ⟨0x10600000, [], 0x7, false, 0, false, [⟨⟨0, 1⟩, .rw, 0, 1⟩, ⟨⟨1, 1⟩, .rw, 0, 1⟩, ⟨⟨2, 1⟩, .rw, 0, 1⟩]⟩,
  ⟨0x10600004, [], 0x0, false, 0, false, [⟨⟨0, 1⟩, .ro, 0, 1⟩, ⟨⟨1, 1⟩, .ro, 0, 1⟩, ⟨⟨16, 16⟩, .ro, 0, 65535⟩]⟩,
  ⟨0x10600008, [], 0x0, false, 0, false, [⟨⟨0, 1⟩, .w1c, 0, 1⟩, ⟨⟨1, 1⟩, .w1c, 0, 1⟩, ⟨⟨2, 1⟩, .w1c, 0, 1⟩, ⟨⟨3, 1⟩, .w1c, 0, 1⟩, ⟨⟨4, 1⟩, .w1c, 0, 1⟩]⟩,
  ⟨0x1060000C, [], 0x1400000, false, 22, false, [⟨⟨0, 32⟩, .rwl, 0, 4294967295⟩]⟩,
  ⟨0x10600010, [], 0x10, false, 0, false, [⟨⟨0, 8⟩, .rwl, 0, 255⟩]⟩,
  ⟨0x10600014, [], 0x0, false, 0, false, [⟨⟨0, 16⟩, .ro, 0, 65535⟩]⟩,
  ⟨0x10600018, [], 0x0, false, 0, false, [⟨⟨0, 21⟩, .rc, 0, 2097151⟩]⟩,
  ⟨0x10600020, [], 0x0, false, 0, false, [⟨⟨0, 2⟩, .rw, 0, 3⟩, ⟨⟨4, 16⟩, .rw, 0, 65535⟩]⟩,
  ⟨0x10600024, [(0, 4, 0x4)], 0x0, false, 0, false, [⟨⟨0, 32⟩, .rw, 0, 4294967295⟩]⟩,
  ⟨0x10600034, [], 0x0, false, 0, false, [⟨⟨0, 1⟩, .wo, 0, 1⟩, ⟨⟨1, 1⟩, .wo, 0, 1⟩]⟩,
  ⟨0x10600040, [], 0x32, false, 0, false, [⟨⟨0, 13⟩, .rw, 1, 5000⟩]⟩,
  ⟨0x10600044, [], 0x32, false, 0, false, [⟨⟨0, 11⟩, .rw, 1, 1800⟩]⟩,
  ⟨0x10600048, [], 0x6, false, 0, false, [⟨⟨0, 5⟩, .rw, 1, 16⟩]⟩,
  ⟨0x1060004C, [], 0x1F4, false, 0, false, [⟨⟨0, 11⟩, .rw, 10, 2000⟩]⟩,
  ⟨0x10600050, [], 0x10C01, false, 0, false, [⟨⟨0, 4⟩, .rw, 1, 8⟩, ⟨⟨8, 8⟩, .rw, 1, 255⟩, ⟨⟨16, 8⟩, .rw, 1, 255⟩]⟩,
  ⟨0x10600054, [], 0x80032, false, 0, false, [⟨⟨0, 7⟩, .rw, 1, 100⟩, ⟨⟨16, 16⟩, .rw, 1, 65535⟩]⟩,
  ⟨0x10600058, [], 0x640064, false, 0, false, [⟨⟨0, 12⟩, .rw, 10, 1800⟩, ⟨⟨16, 10⟩, .rw, 10, 1000⟩]⟩,
  ⟨0x1060005C, [], 0x1E3C0C, false, 0, false, [⟨⟨0, 8⟩, .rw, 1, 255⟩, ⟨⟨8, 8⟩, .rw, 1, 255⟩, ⟨⟨16, 16⟩, .rw, 1, 65535⟩]⟩,
  ⟨0x10600100, [], 0x0, false, 0, false, [⟨⟨0, 32⟩, .rc, 0, 4294967295⟩]⟩,
  ⟨0x10600104, [], 0x0, false, 0, false, [⟨⟨0, 32⟩, .rc, 0, 4294967295⟩]⟩,
  ⟨0x10600108, [], 0x0, false, 0, false, [⟨⟨0, 32⟩, .rc, 0, 4294967295⟩]⟩,
  ⟨0x1060010C, [], 0x0, false, 0, false, [⟨⟨0, 32⟩, .rc, 0, 4294967295⟩]⟩,
  ⟨0x10600110, [], 0x0, false, 0, false, [⟨⟨0, 32⟩, .rc, 0, 4294967295⟩]⟩,
  ⟨0x10600114, [], 0x0, false, 0, false, [⟨⟨0, 32⟩, .rc, 0, 4294967295⟩]⟩]

/-- DET register table, part 1 (R183). -/
def regsDET1 : List RegDef := [
  ⟨0x10600118, [], 0x0, false, 0, false, [⟨⟨0, 32⟩, .rc, 0, 4294967295⟩]⟩,
  ⟨0x1060011C, [], 0x0, false, 0, false, [⟨⟨0, 32⟩, .rc, 0, 4294967295⟩]⟩,
  ⟨0x10600120, [], 0x0, false, 0, false, [⟨⟨0, 32⟩, .rc, 0, 4294967295⟩]⟩,
  ⟨0x10600124, [], 0x0, false, 0, false, [⟨⟨0, 32⟩, .rc, 0, 4294967295⟩]⟩,
  ⟨0x10600128, [], 0x0, false, 0, false, [⟨⟨0, 32⟩, .rc, 0, 4294967295⟩]⟩,
  ⟨0x10600180, [(0, 8, 0x4)], 0x0, false, 0, false, [⟨⟨0, 1⟩, .rw, 0, 1⟩]⟩]

def regsDET : List RegDef := regsDET0 ++ regsDET1

/-- MODAL register table, part 0 (R205). -/
def regsMODAL0 : List RegDef := [
  ⟨0x10700000, [], 0xF7, false, 0, false, [⟨⟨0, 1⟩, .rw, 0, 1⟩, ⟨⟨1, 1⟩, .rw, 0, 1⟩, ⟨⟨2, 1⟩, .rw, 0, 1⟩, ⟨⟨4, 4⟩, .rw, 0, 15⟩]⟩,
  ⟨0x10700004, [], 0x0, false, 0, false, [⟨⟨0, 1⟩, .ro, 0, 1⟩, ⟨⟨1, 1⟩, .ro, 0, 1⟩, ⟨⟨2, 1⟩, .ro, 0, 1⟩, ⟨⟨16, 16⟩, .ro, 0, 65535⟩]⟩,
  ⟨0x10700008, [], 0x0, false, 0, false, [⟨⟨0, 1⟩, .w1c, 0, 1⟩, ⟨⟨1, 1⟩, .w1c, 0, 1⟩, ⟨⟨2, 1⟩, .w1c, 0, 1⟩, ⟨⟨3, 1⟩, .w1c, 0, 1⟩, ⟨⟨4, 1⟩, .w1c, 0, 1⟩, ⟨⟨5, 1⟩, .w1c, 0, 1⟩, ⟨⟨6, 1⟩, .w1c, 0, 1⟩]⟩,
  ⟨0x1070000C, [], 0x1800000, false, 22, false, [⟨⟨0, 32⟩, .rwl, 0, 4294967295⟩]⟩,
  ⟨0x10700010, [], 0x10, false, 0, false, [⟨⟨0, 8⟩, .rwl, 0, 255⟩]⟩,
  ⟨0x10700014, [], 0x0, false, 0, false, [⟨⟨0, 13⟩, .ro, 0, 8191⟩]⟩,
  ⟨0x10700018, [], 0x0, false, 0, false, [⟨⟨0, 14⟩, .ro, 0, 16383⟩]⟩,
  ⟨0x1070001C, [], 0x0, false, 0, false, [⟨⟨0, 24⟩, .rc, 0, 16777215⟩]⟩,
  ⟨0x10700020, [], 0x0, false, 0, false, [⟨⟨0, 2⟩, .rw, 0, 2⟩, ⟨⟨4, 12⟩, .rw, 0, 4095⟩]⟩,
  ⟨0x10700024, [(0, 4, 0x4)], 0x0, false, 0, false, [⟨⟨0, 32⟩, .rw, 0, 4294967295⟩]⟩,
  ⟨0x10700034, [], 0x0, false, 0, false, [⟨⟨0, 1⟩, .wo, 0, 1⟩, ⟨⟨1, 1⟩, .wo, 0, 1⟩]⟩,
  ⟨0x10700040, [], 0x1E030302, false, 0, false, [⟨⟨0, 4⟩, .rw, 1, 8⟩, ⟨⟨8, 4⟩, .rw, 1, 15⟩, ⟨⟨16, 4⟩, .rw, 1, 15⟩, ⟨⟨24, 7⟩, .rw, 1, 100⟩]⟩,
  ⟨0x10700044, [], 0x32012C, false, 0, false, [⟨⟨0, 10⟩, .rw, 1, 1000⟩, ⟨⟨16, 10⟩, .rw, 0, 1000⟩]⟩,
  ⟨0x10700048, [], 0x1404, false, 0, false, [⟨⟨0, 4⟩, .rw, 2, 15⟩, ⟨⟨8, 8⟩, .rw, 1, 255⟩]⟩,
  ⟨0x1070004C, [], 0x3006F3, false, 0, false, [⟨⟨0, 8⟩, .rw, 128, 255⟩, ⟨⟨8, 4⟩, .rw, 1, 15⟩, ⟨⟨16, 16⟩, .rw, 16, 1024⟩]⟩,
  ⟨0x10700050, [], 0x5A03, false, 0, false, [⟨⟨0, 4⟩, .rw, 0, 15⟩, ⟨⟨8, 7⟩, .rw, 50, 100⟩]⟩,
  ⟨0x10700054, [], 0x2003, false, 0, false, [⟨⟨0, 4⟩, .rw, 1, 15⟩, ⟨⟨8, 8⟩, .rw, 17, 255⟩]⟩,
  ⟨0x10700100, [], 0x0, false, 0, false, [⟨⟨0, 32⟩, .rc, 0, 4294967295⟩]⟩,
  ⟨0x10700104, [], 0x0, false, 0, false, [⟨⟨0, 32⟩, .rc, 0, 4294967295⟩]⟩,
  ⟨0x10700108, [], 0x0, false, 0, false, [⟨⟨0, 32⟩, .rc, 0, 4294967295⟩]⟩,
  ⟨0x1070010C, [], 0x0, false, 0, false, [⟨⟨0, 32⟩, .rc, 0, 4294967295⟩]⟩,
  ⟨0x10700110, [], 0x0, false, 0, false, [⟨⟨0, 32⟩, .rc, 0, 4294967295⟩]⟩,
  ⟨0x10700114, [], 0x0, false, 0, false, [⟨⟨0, 32⟩, .rc, 0, 4294967295⟩]⟩,
  ⟨0x10700118, [], 0x0, false, 0, false, [⟨⟨0, 32⟩, .rc, 0, 4294967295⟩]⟩]

/-- MODAL register table, part 1 (R205). -/
def regsMODAL1 : List RegDef := [
  ⟨0x1070011C, [], 0x0, false, 0, false, [⟨⟨0, 32⟩, .rc, 0, 4294967295⟩]⟩,
  ⟨0x10700120, [], 0x0, false, 0, false, [⟨⟨0, 32⟩, .rc, 0, 4294967295⟩]⟩,
  ⟨0x10700124, [], 0x0, false, 0, false, [⟨⟨0, 32⟩, .rc, 0, 4294967295⟩]⟩,
  ⟨0x10700128, [], 0x0, false, 0, false, [⟨⟨0, 32⟩, .rc, 0, 4294967295⟩]⟩,
  ⟨0x1070012C, [], 0x0, false, 0, false, [⟨⟨0, 32⟩, .rc, 0, 4294967295⟩]⟩,
  ⟨0x10700130, [], 0x0, false, 0, false, [⟨⟨0, 32⟩, .rc, 0, 4294967295⟩]⟩]

def regsMODAL : List RegDef := regsMODAL0 ++ regsMODAL1

/-- ALM register table, part 0 (R227). -/
def regsALM0 : List RegDef := [
  ⟨0x10800000, [], 0xD, false, 0, false, [⟨⟨0, 1⟩, .rw, 0, 1⟩, ⟨⟨1, 1⟩, .rw, 0, 1⟩, ⟨⟨2, 1⟩, .rw, 0, 1⟩, ⟨⟨3, 1⟩, .rw, 0, 1⟩]⟩,
  ⟨0x10800004, [], 0x1, false, 0, false, [⟨⟨0, 1⟩, .ro, 0, 1⟩, ⟨⟨8, 8⟩, .ro, 0, 255⟩]⟩,
  ⟨0x10800008, [], 0x0, false, 0, false, [⟨⟨0, 1⟩, .w1c, 0, 1⟩, ⟨⟨1, 1⟩, .w1c, 0, 1⟩, ⟨⟨2, 1⟩, .w1c, 0, 1⟩, ⟨⟨3, 1⟩, .w1c, 0, 1⟩, ⟨⟨4, 1⟩, .w1c, 0, 1⟩, ⟨⟨5, 1⟩, .w1c, 0, 1⟩]⟩,
  ⟨0x10800010, [], 0x0, false, 0, false, [⟨⟨0, 32⟩, .ro, 0, 4294967295⟩]⟩,
  ⟨0x10800014, [], 0x0, false, 0, false, [⟨⟨0, 32⟩, .ro, 0, 4294967295⟩]⟩,
  ⟨0x10800018, [], 0x0, false, 0, false, [⟨⟨0, 32⟩, .ro, 0, 4294967295⟩]⟩,
  ⟨0x1080001C, [], 0x0, false, 0, false, [⟨⟨0, 32⟩, .ro, 0, 4294967295⟩]⟩,
  ⟨0x10800028, [], 0x0, false, 0, false, [⟨⟨0, 16⟩, .ro, 0, 65535⟩, ⟨⟨16, 16⟩, .ro, 0, 65535⟩]⟩,
  ⟨0x1080002C, [], 0x0, false, 0, false, [⟨⟨0, 16⟩, .ro, 0, 65535⟩]⟩,
  ⟨0x10800030, [], 0x20A, false, 0, false, [⟨⟨0, 8⟩, .rw, 0, 255⟩, ⟨⟨8, 4⟩, .rw, 1, 8⟩, ⟨⟨16, 16⟩, .rw, 0, 65535⟩]⟩,
  ⟨0x10800040, [], 0x3E80001, false, 0, false, [⟨⟨0, 7⟩, .rw, 1, 100⟩, ⟨⟨16, 16⟩, .rw, 100, 60000⟩]⟩,
  ⟨0x10800044, [], 0xB81B, false, 0, false, [⟨⟨0, 16⟩, .rwl, 0, 65535⟩]⟩,
  ⟨0x10800048, [], 0x3E8, false, 0, false, [⟨⟨0, 16⟩, .rw, 0, 60000⟩, ⟨⟨16, 8⟩, .rw, 0, 255⟩, ⟨⟨24, 1⟩, .rw, 0, 1⟩]⟩,
  ⟨0x1080004C, [], 0x0, false, 0, false, [⟨⟨0, 24⟩, .ro, 0, 16777215⟩]⟩,
  ⟨0x10800060, [(0, 16, 0x4)], 0x3244, false, 0, false, [⟨⟨0, 1⟩, .rw, 0, 1⟩, ⟨⟨1, 1⟩, .rw, 0, 1⟩, ⟨⟨2, 1⟩, .rw, 0, 1⟩, ⟨⟨3, 5⟩, .rw, 1, 24⟩, ⟨⟨8, 10⟩, .rw, 0, 1000⟩]⟩,
  ⟨0x108000A0, [(0, 16, 0x8)], 0x0, false, 0, false, [⟨⟨0, 32⟩, .rw, 0, 4294967295⟩]⟩,
  ⟨0x108000A4, [(0, 16, 0x8)], 0x0, false, 0, false, [⟨⟨0, 32⟩, .rw, 0, 4294967295⟩]⟩,
  ⟨0x10800140, [(0, 8, 0x8)], 0x0, false, 0, false, [⟨⟨0, 32⟩, .ro, 0, 4294967295⟩]⟩,
  ⟨0x10800144, [(0, 8, 0x8)], 0x0, false, 0, false, [⟨⟨0, 32⟩, .ro, 0, 4294967295⟩]⟩,
  ⟨0x10800200, [(0, 8, 0x20)], 0x0, false, 0, false, [⟨⟨0, 32⟩, .rw, 0, 4294967295⟩]⟩,
  ⟨0x10800204, [(0, 8, 0x20)], 0x0, false, 0, false, [⟨⟨0, 32⟩, .rw, 0, 4294967295⟩]⟩,
  ⟨0x10800208, [(0, 8, 0x20)], 0x0, false, 0, false, [⟨⟨0, 32⟩, .rw, 0, 4294967295⟩]⟩,
  ⟨0x1080020C, [(0, 8, 0x20)], 0x0, false, 0, false, [⟨⟨0, 32⟩, .rw, 0, 4294967295⟩]⟩,
  ⟨0x10800210, [(0, 8, 0x20)], 0x0, false, 0, false, [⟨⟨0, 4⟩, .rw, 0, 15⟩, ⟨⟨31, 1⟩, .rw, 0, 1⟩]⟩]

/-- ALM register table, part 1 (R227). -/
def regsALM1 : List RegDef := [
  ⟨0x10800214, [(0, 8, 0x20)], 0x0, false, 0, false, [⟨⟨0, 12⟩, .rw, 0, 4095⟩, ⟨⟨12, 3⟩, .rw, 0, 7⟩, ⟨⟨15, 1⟩, .rw, 0, 1⟩]⟩,
  ⟨0x10800218, [(0, 8, 0x20)], 0x0, false, 0, false, [⟨⟨0, 32⟩, .rw, 0, 4294967295⟩]⟩,
  ⟨0x1080021C, [(0, 8, 0x20)], 0x0, false, 0, false, [⟨⟨0, 16⟩, .rw, 0, 65535⟩]⟩,
  ⟨0x10800400, [(0, 64, 0x10)], 0x100, false, 0, false, [⟨⟨0, 1⟩, .rw, 0, 1⟩, ⟨⟨1, 2⟩, .rw, 0, 2⟩, ⟨⟨3, 1⟩, .rw, 0, 1⟩, ⟨⟨4, 1⟩, .rw, 0, 1⟩, ⟨⟨8, 8⟩, .rw, 1, 255⟩, ⟨⟨16, 1⟩, .rw, 0, 1⟩, ⟨⟨17, 1⟩, .rw, 0, 1⟩, ⟨⟨18, 1⟩, .rw, 0, 1⟩, ⟨⟨19, 1⟩, .rw, 0, 1⟩, ⟨⟨20, 3⟩, .rw, 0, 7⟩]⟩,
  ⟨0x10800404, [(0, 64, 0x10)], 0x7F, false, 0, false, [⟨⟨0, 7⟩, .rw, 0, 127⟩, ⟨⟨8, 5⟩, .rw, 0, 31⟩]⟩,
  ⟨0x10800408, [(0, 64, 0x10)], 0x0, false, 0, false, [⟨⟨0, 16⟩, .rw, 0, 65535⟩, ⟨⟨16, 16⟩, .rw, 0, 65535⟩]⟩,
  ⟨0x1080040C, [(0, 64, 0x10)], 0x0, false, 0, false, [⟨⟨0, 1⟩, .ro, 0, 1⟩, ⟨⟨1, 1⟩, .ro, 0, 1⟩, ⟨⟨2, 1⟩, .ro, 0, 1⟩, ⟨⟨3, 1⟩, .ro, 0, 1⟩, ⟨⟨4, 1⟩, .ro, 0, 1⟩, ⟨⟨8, 16⟩, .ro, 0, 65535⟩]⟩,
  ⟨0x10800800, [(0, 64, 0x4)], 0x0, false, 0, false, [⟨⟨0, 32⟩, .rc, 0, 4294967295⟩]⟩,
  ⟨0x10800900, [], 0x0, false, 0, false, [⟨⟨0, 32⟩, .rc, 0, 4294967295⟩]⟩,
  ⟨0x10800904, [], 0x0, false, 0, false, [⟨⟨0, 32⟩, .rc, 0, 4294967295⟩]⟩,
  ⟨0x10800908, [], 0x0, false, 0, false, [⟨⟨0, 32⟩, .rc, 0, 4294967295⟩]⟩,
  ⟨0x1080090C, [], 0x0, false, 0, false, [⟨⟨0, 32⟩, .rc, 0, 4294967295⟩]⟩,
  ⟨0x10800910, [], 0x0, false, 0, false, [⟨⟨0, 32⟩, .rc, 0, 4294967295⟩]⟩,
  ⟨0x10800914, [], 0x0, false, 0, false, [⟨⟨0, 32⟩, .rc, 0, 4294967295⟩]⟩,
  ⟨0x10800918, [], 0x0, false, 0, false, [⟨⟨0, 32⟩, .rc, 0, 4294967295⟩]⟩]

def regsALM : List RegDef := regsALM0 ++ regsALM1

/-- AFE register table, part 0 (R244). -/
def regsAFE0 : List RegDef := [
  ⟨0x10900000, [], 0x0, false, 0, false, [⟨⟨0, 1⟩, .rw, 0, 1⟩, ⟨⟨1, 1⟩, .rw, 0, 1⟩]⟩,
  ⟨0x10900004, [], 0x0, false, 0, false, [⟨⟨0, 1⟩, .ro, 0, 1⟩, ⟨⟨1, 1⟩, .ro, 0, 1⟩, ⟨⟨2, 1⟩, .ro, 0, 1⟩, ⟨⟨3, 1⟩, .ro, 0, 1⟩, ⟨⟨4, 1⟩, .ro, 0, 1⟩, ⟨⟨5, 1⟩, .ro, 0, 1⟩, ⟨⟨8, 8⟩, .ro, 0, 255⟩, ⟨⟨16, 5⟩, .ro, 0, 31⟩]⟩,
  ⟨0x10900008, [], 0x0, false, 0, false, [⟨⟨0, 1⟩, .w1c, 0, 1⟩, ⟨⟨1, 1⟩, .w1c, 0, 1⟩, ⟨⟨2, 1⟩, .w1c, 0, 1⟩, ⟨⟨3, 1⟩, .w1c, 0, 1⟩, ⟨⟨4, 1⟩, .w1c, 0, 1⟩, ⟨⟨5, 1⟩, .w1c, 0, 1⟩]⟩,
  ⟨0x10900010, [], 0x0, false, 0, false, [⟨⟨0, 8⟩, .rwl, 0, 255⟩]⟩,
  ⟨0x10900020, [(0, 8, 0x4)], 0x0, false, 0, false, [⟨⟨0, 3⟩, .rwl, 0, 4⟩, ⟨⟨3, 1⟩, .rwl, 0, 1⟩]⟩,
  ⟨0x10900040, [], 0x0, false, 0, false, [⟨⟨0, 8⟩, .ro, 0, 255⟩, ⟨⟨8, 8⟩, .ro, 0, 255⟩]⟩,
  ⟨0x10900060, [(0, 8, 0x4)], 0x0, false, 0, false, [⟨⟨0, 32⟩, .rc, 0, 4294967295⟩]⟩,
  ⟨0x10900100, [], 0x10101, false, 0, false, [⟨⟨0, 1⟩, .rw, 0, 1⟩, ⟨⟨1, 1⟩, .rw, 0, 1⟩, ⟨⟨2, 1⟩, .rw, 0, 1⟩, ⟨⟨8, 5⟩, .rw, 1, 24⟩, ⟨⟨16, 3⟩, .rw, 1, 4⟩]⟩,
  ⟨0x10900104, [], 0x0, false, 0, false, [⟨⟨0, 1⟩, .wo, 0, 1⟩, ⟨⟨1, 1⟩, .wo, 0, 1⟩, ⟨⟨2, 1⟩, .wo, 0, 1⟩]⟩,
  ⟨0x10900108, [], 0x0, false, 0, false, [⟨⟨0, 24⟩, .ro, 0, 16777215⟩, ⟨⟨24, 5⟩, .ro, 0, 31⟩, ⟨⟨29, 1⟩, .ro, 0, 1⟩, ⟨⟨30, 1⟩, .rc, 0, 1⟩, ⟨⟨31, 1⟩, .rc, 0, 1⟩]⟩,
  ⟨0x1090010C, [], 0x0, false, 0, false, [⟨⟨0, 32⟩, .ro, 0, 4294967295⟩]⟩,
  ⟨0x10900110, [], 0x0, false, 0, false, [⟨⟨0, 32⟩, .ro, 0, 4294967295⟩]⟩,
  ⟨0x10900114, [], 0x0, false, 0, false, [⟨⟨0, 7⟩, .ro, 0, 127⟩]⟩,
  ⟨0x10900118, [], 0x0, false, 0, false, [⟨⟨0, 32⟩, .rc, 0, 4294967295⟩]⟩,
  ⟨0x1090011C, [], 0x0, false, 0, false, [⟨⟨0, 32⟩, .rc, 0, 4294967295⟩]⟩,
  ⟨0x10900120, [], 0x0, false, 0, false, [⟨⟨0, 32⟩, .rc, 0, 4294967295⟩]⟩,
  ⟨0x10900124, [], 0x0, false, 0, false, [⟨⟨0, 32⟩, .rc, 0, 4294967295⟩]⟩,
  ⟨0x10900140, [(0, 24, 0x4)], 0xA0000, false, 0, false, [⟨⟨0, 5⟩, .rw, 0, 26⟩, ⟨⟨5, 3⟩, .rw, 0, 7⟩, ⟨⟨8, 2⟩, .rw, 0, 2⟩, ⟨⟨10, 1⟩, .rw, 0, 1⟩, ⟨⟨16, 8⟩, .rw, 1, 255⟩]⟩,
  ⟨0x109001A0, [(0, 4, 0x4)], 0xA0000, false, 0, false, [⟨⟨0, 5⟩, .rw, 0, 26⟩, ⟨⟨5, 3⟩, .rw, 0, 7⟩, ⟨⟨8, 2⟩, .rw, 0, 2⟩, ⟨⟨10, 1⟩, .rw, 0, 1⟩, ⟨⟨16, 8⟩, .rw, 1, 255⟩]⟩,
  ⟨0x10900200, [(0, 8, 0x20), (0, 5, 0x4)], 0, true, 0, false, [⟨⟨16, 16⟩, .ro, 0, 65535⟩]⟩,
  ⟨0x10900300, [(0, 2, 0x4)], 0, true, 0, false, [⟨⟨0, 32⟩, .ro, 0, 4294967295⟩]⟩]

def regsAFE : List RegDef := regsAFE0

/-- FLT register table, part 0 (R264). -/
def regsFLT0 : List RegDef := [
  ⟨0x10A00000, [], 0x5, false, 0, false, [⟨⟨0, 1⟩, .rw, 0, 1⟩, ⟨⟨1, 1⟩, .rw, 0, 1⟩, ⟨⟨2, 1⟩, .rw, 0, 1⟩]⟩,
  ⟨0x10A00004, [], 0x0, false, 0, false, [⟨⟨0, 1⟩, .ro, 0, 1⟩, ⟨⟨1, 1⟩, .ro, 0, 1⟩, ⟨⟨4, 4⟩, .ro, 0, 15⟩, ⟨⟨8, 1⟩, .ro, 0, 1⟩]⟩,
  ⟨0x10A00008, [], 0x0, false, 0, false, [⟨⟨0, 1⟩, .w1c, 0, 1⟩, ⟨⟨1, 1⟩, .w1c, 0, 1⟩, ⟨⟨2, 1⟩, .w1c, 0, 1⟩, ⟨⟨3, 1⟩, .w1c, 0, 1⟩]⟩,
  ⟨0x10A0000C, [], 0x0, false, 0, false, [⟨⟨0, 1⟩, .rwl, 0, 1⟩]⟩,
  ⟨0x10A00010, [], 0x0, false, 0, false, [⟨⟨0, 1⟩, .wo, 0, 1⟩]⟩,
  ⟨0x10A00014, [], 0x0, false, 0, false, [⟨⟨0, 1⟩, .rw, 0, 1⟩]⟩,
  ⟨0x10A00018, [], 0x0, false, 0, false, [⟨⟨0, 32⟩, .rc, 0, 4294967295⟩]⟩,
  ⟨0x10A0001C, [], 0x0, false, 0, false, [⟨⟨0, 32⟩, .ro, 0, 4294967295⟩]⟩,
  ⟨0x10A00020, [], 0x0, false, 0, false, [⟨⟨0, 32⟩, .ro, 0, 4294967295⟩]⟩,
  ⟨0x10A00024, [], 0x0, false, 0, false, [⟨⟨0, 7⟩, .ro, 0, 127⟩]⟩,
  ⟨0x10A00028, [], 0x0, false, 0, false, [⟨⟨0, 1⟩, .rw, 0, 1⟩, ⟨⟨1, 3⟩, .rw, 0, 7⟩, ⟨⟨4, 12⟩, .rw, 0, 3071⟩]⟩,
  ⟨0x10A0002C, [], 0x0, false, 0, false, [⟨⟨0, 24⟩, .rw, 0, 16777215⟩]⟩,
  ⟨0x10A00100, [(0, 8, 0x40)], 0x12202, false, 0, false, [⟨⟨0, 2⟩, .rwl, 0, 2⟩, ⟨⟨2, 10⟩, .rwl, 8, 512⟩, ⟨⟨12, 2⟩, .rwl, 0, 2⟩, ⟨⟨14, 1⟩, .rwl, 0, 1⟩, ⟨⟨15, 2⟩, .rwl, 0, 3⟩]⟩,
  ⟨0x10A00104, [(0, 8, 0x40)], 0xBB80, false, 0, false, [⟨⟨0, 16⟩, .rwl, 100, 48000⟩]⟩,
  ⟨0x10A00108, [(0, 8, 0x40)], 0x0, false, 0, false, [⟨⟨0, 13⟩, .rw, 0, 8191⟩]⟩,
  ⟨0x10A0010C, [(0, 8, 0x40)], 0x3F800000, false, 0, false, [⟨⟨0, 32⟩, .rwl, 0, 4294967295⟩]⟩,
  ⟨0x10A00110, [(0, 8, 0x40)], 0x0, false, 0, false, [⟨⟨0, 24⟩, .ro, 0, 16777215⟩]⟩,
  ⟨0x10A00114, [(0, 8, 0x40)], 0x0, false, 0, false, [⟨⟨0, 32⟩, .ro, 0, 4294967295⟩]⟩,
  ⟨0x10A00118, [(0, 8, 0x40)], 0x0, false, 0, false, [⟨⟨0, 32⟩, .ro, 0, 4294967295⟩]⟩,
  ⟨0x10A0011C, [(0, 8, 0x40)], 0x0, false, 0, false, [⟨⟨0, 32⟩, .ro, 0, 4294967295⟩]⟩,
  ⟨0x10A00120, [(0, 8, 0x40)], 0x0, false, 0, false, [⟨⟨0, 32⟩, .ro, 0, 4294967295⟩]⟩,
  ⟨0x10A00124, [(0, 8, 0x40)], 0x0, false, 0, false, [⟨⟨0, 32⟩, .rc, 0, 4294967295⟩]⟩,
  ⟨0x10A00128, [(0, 8, 0x40)], 0x0, false, 0, false, [⟨⟨0, 32⟩, .ro, 0, 4294967295⟩]⟩,
  ⟨0x10A0012C, [(0, 8, 0x40)], 0xA, false, 0, false, [⟨⟨0, 5⟩, .rw, 4, 20⟩]⟩]

/-- FLT register table, part 1 (R264). -/
def regsFLT1 : List RegDef := [
  ⟨0x10A00130, [(0, 8, 0x40)], 0x0, false, 0, false, [⟨⟨0, 32⟩, .rc, 0, 4294967295⟩]⟩,
  ⟨0x10A00134, [(0, 8, 0x40)], 0x0, false, 0, false, [⟨⟨0, 1⟩, .ro, 0, 1⟩, ⟨⟨1, 1⟩, .ro, 0, 1⟩]⟩,
  ⟨0x10A00400, [(0, 4, 0x20)], 0x10100, false, 0, false, [⟨⟨0, 1⟩, .rw, 0, 1⟩, ⟨⟨1, 3⟩, .rw, 0, 7⟩, ⟨⟨4, 3⟩, .rw, 0, 7⟩, ⟨⟨7, 1⟩, .rw, 0, 1⟩, ⟨⟨8, 8⟩, .rw, 1, 255⟩, ⟨⟨16, 8⟩, .rw, 1, 255⟩]⟩,
  ⟨0x10A00404, [(0, 4, 0x20)], 0x0, false, 0, false, [⟨⟨0, 32⟩, .rw, 0, 4294967295⟩]⟩,
  ⟨0x10A00408, [(0, 4, 0x20)], 0x0, false, 0, false, [⟨⟨0, 32⟩, .rw, 0, 4294967295⟩]⟩,
  ⟨0x10A0040C, [(0, 4, 0x20)], 0x0, false, 0, false, [⟨⟨0, 32⟩, .ro, 0, 4294967295⟩]⟩,
  ⟨0x10A00410, [(0, 4, 0x20)], 0x0, false, 0, false, [⟨⟨0, 32⟩, .ro, 0, 4294967295⟩]⟩,
  ⟨0x10A00414, [(0, 4, 0x20)], 0x0, false, 0, false, [⟨⟨0, 7⟩, .ro, 0, 127⟩]⟩,
  ⟨0x10A00418, [(0, 4, 0x20)], 0x0, false, 0, false, [⟨⟨0, 32⟩, .rc, 0, 4294967295⟩]⟩,
  ⟨0x10A00600, [], 0xFF0050, false, 0, false, [⟨⟨0, 1⟩, .rwl, 0, 1⟩, ⟨⟨1, 3⟩, .rwl, 0, 7⟩, ⟨⟨4, 5⟩, .rwl, 2, 16⟩, ⟨⟨16, 8⟩, .rwl, 0, 255⟩]⟩,
  ⟨0x10A00604, [], 0x0, false, 0, false, [⟨⟨0, 32⟩, .rc, 0, 4294967295⟩]⟩]

def regsFLT : List RegDef := regsFLT0 ++ regsFLT1

/-- MTR register table, part 0 (R284). -/
def regsMTR0 : List RegDef := [
  ⟨0x10B00000, [], 0x3, false, 0, false, [⟨⟨0, 1⟩, .rw, 0, 1⟩, ⟨⟨1, 1⟩, .rw, 0, 1⟩, ⟨⟨2, 1⟩, .rw, 0, 1⟩]⟩,
  ⟨0x10B00004, [], 0x0, false, 0, false, [⟨⟨0, 1⟩, .ro, 0, 1⟩, ⟨⟨1, 1⟩, .ro, 0, 1⟩, ⟨⟨2, 1⟩, .ro, 0, 1⟩, ⟨⟨3, 1⟩, .ro, 0, 1⟩, ⟨⟨4, 1⟩, .ro, 0, 1⟩]⟩,
  ⟨0x10B00008, [], 0x0, false, 0, false, [⟨⟨0, 1⟩, .w1c, 0, 1⟩, ⟨⟨1, 1⟩, .w1c, 0, 1⟩, ⟨⟨2, 1⟩, .w1c, 0, 1⟩, ⟨⟨3, 1⟩, .w1c, 0, 1⟩, ⟨⟨4, 1⟩, .w1c, 0, 1⟩, ⟨⟨5, 1⟩, .w1c, 0, 1⟩, ⟨⟨6, 1⟩, .w1c, 0, 1⟩, ⟨⟨7, 1⟩, .w1c, 0, 1⟩]⟩,
  ⟨0x10B0000C, [], 0x0, false, 0, false, [⟨⟨0, 2⟩, .rwl, 0, 3⟩, ⟨⟨2, 1⟩, .rwl, 0, 1⟩]⟩,
  ⟨0x10B00010, [], 0xA, false, 0, false, [⟨⟨0, 12⟩, .rw, 1, 3600⟩]⟩,
  ⟨0x10B00014, [], 0x0, false, 0, false, [⟨⟨0, 32⟩, .ro, 0, 4294967295⟩]⟩,
  ⟨0x10B00018, [], 0x0, false, 0, false, [⟨⟨0, 24⟩, .ro, 0, 16777215⟩]⟩,
  ⟨0x10B0001C, [], 0x0, false, 0, false, [⟨⟨0, 32⟩, .rc, 0, 4294967295⟩]⟩,
  ⟨0x10B00020, [], 0x0, false, 0, false, [⟨⟨0, 1⟩, .wo, 0, 1⟩, ⟨⟨16, 16⟩, .wo, 0, 65535⟩]⟩,
  ⟨0x10B00024, [], 0x0, false, 0, false, [⟨⟨0, 32⟩, .rw, 0, 4294967295⟩]⟩,
  ⟨0x10B00028, [], 0x0, false, 0, false, [⟨⟨0, 32⟩, .ro, 0, 4294967295⟩]⟩,
  ⟨0x10B0002C, [], 0x0, false, 0, false, [⟨⟨0, 32⟩, .ro, 0, 4294967295⟩]⟩,
  ⟨0x10B00030, [], 0x0, false, 0, false, [⟨⟨0, 32⟩, .ro, 0, 4294967295⟩]⟩,
  ⟨0x10B00034, [], 0x0, false, 0, false, [⟨⟨0, 32⟩, .rc, 0, 4294967295⟩]⟩,
  ⟨0x10B00038, [], 0x0, false, 0, false, [⟨⟨0, 32⟩, .rc, 0, 4294967295⟩]⟩,
  ⟨0x10B0003C, [], 0x0, false, 0, false, [⟨⟨0, 32⟩, .rc, 0, 4294967295⟩]⟩,
  ⟨0x10B00040, [], 0x0, false, 0, false, [⟨⟨0, 32⟩, .ro, 0, 4294967295⟩]⟩,
  ⟨0x10B00044, [], 0x0, false, 0, false, [⟨⟨0, 32⟩, .ro, 0, 4294967295⟩]⟩,
  ⟨0x10B00048, [], 0x0, false, 0, false, [⟨⟨0, 32⟩, .rc, 0, 4294967295⟩]⟩,
  ⟨0x10B00080, [(0, 8, 0x4)], 0x3F800000, false, 0, false, [⟨⟨0, 32⟩, .rw, 0, 4294967295⟩]⟩,
  ⟨0x10B000A0, [(0, 8, 0x4)], 0x0, false, 0, false, [⟨⟨0, 32⟩, .rw, 0, 4294967295⟩]⟩,
  ⟨0x10B000C0, [(0, 3, 0x10)], 0x3F800000, false, 0, false, [⟨⟨0, 32⟩, .rw, 0, 4294967295⟩]⟩,
  ⟨0x10B000C4, [(0, 3, 0x10)], 0x3F800000, false, 0, false, [⟨⟨0, 32⟩, .rw, 0, 4294967295⟩]⟩,
  ⟨0x10B000C8, [(0, 3, 0x10)], 0x0, false, 0, false, [⟨⟨0, 32⟩, .rw, 0, 4294967295⟩]⟩]

/-- MTR register table, part 1 (R284). -/
def regsMTR1 : List RegDef := [
  ⟨0x10B000CC, [(0, 3, 0x10)], 0x0, false, 0, false, [⟨⟨0, 32⟩, .rw, 0, 4294967295⟩]⟩,
  ⟨0x10B00100, [(0, 4, 0x20)], 0x0, false, 0, false, [⟨⟨0, 32⟩, .ro, 0, 4294967295⟩]⟩,
  ⟨0x10B00104, [(0, 4, 0x20)], 0x0, false, 0, false, [⟨⟨0, 32⟩, .ro, 0, 4294967295⟩]⟩,
  ⟨0x10B00108, [(0, 4, 0x20)], 0x0, false, 0, false, [⟨⟨0, 32⟩, .ro, 0, 4294967295⟩]⟩,
  ⟨0x10B0010C, [(0, 4, 0x20)], 0x0, false, 0, false, [⟨⟨0, 32⟩, .ro, 0, 4294967295⟩]⟩,
  ⟨0x10B00110, [(0, 4, 0x20)], 0x0, false, 0, false, [⟨⟨0, 32⟩, .ro, 0, 4294967295⟩]⟩,
  ⟨0x10B00114, [(0, 4, 0x20)], 0x0, false, 0, false, [⟨⟨0, 32⟩, .ro, 0, 4294967295⟩]⟩,
  ⟨0x10B00118, [(0, 4, 0x20)], 0x0, false, 0, false, [⟨⟨0, 32⟩, .ro, 0, 4294967295⟩]⟩,
  ⟨0x10B0011C, [(0, 4, 0x20)], 0x0, false, 0, false, [⟨⟨0, 32⟩, .ro, 0, 4294967295⟩]⟩,
  ⟨0x10B00200, [(0, 4, 0x20)], 0xC5044, false, 0, false, [⟨⟨0, 1⟩, .rw, 0, 1⟩, ⟨⟨1, 1⟩, .rw, 0, 1⟩, ⟨⟨2, 1⟩, .rw, 0, 1⟩, ⟨⟨3, 5⟩, .rw, 1, 24⟩, ⟨⟨8, 8⟩, .rw, 1, 255⟩, ⟨⟨16, 2⟩, .rw, 0, 3⟩, ⟨⟨18, 2⟩, .rw, 0, 3⟩, ⟨⟨20, 1⟩, .rw, 0, 1⟩, ⟨⟨21, 1⟩, .rw, 0, 1⟩]⟩,
  ⟨0x10B00204, [(0, 4, 0x20)], 0x2710, false, 0, false, [⟨⟨0, 17⟩, .rw, 1, 100000⟩]⟩,
  ⟨0x10B00208, [(0, 4, 0x20)], 0x0, false, 0, false, [⟨⟨0, 32⟩, .ro, 0, 4294967295⟩]⟩,
  ⟨0x10B0020C, [(0, 4, 0x20)], 0x0, false, 0, false, [⟨⟨0, 32⟩, .rc, 0, 4294967295⟩]⟩,
  ⟨0x10B00210, [(0, 4, 0x20)], 0x0, false, 0, false, [⟨⟨0, 16⟩, .ro, 0, 65535⟩]⟩,
  ⟨0x10B00214, [(0, 4, 0x20)], 0x0, false, 0, false, [⟨⟨0, 32⟩, .rc, 0, 4294967295⟩]⟩,
  ⟨0x10B00400, [(0, 4, 0x40), (0, 3, 0x10), (0, 2, 0x8)], 0x0, false, 0, false, [⟨⟨0, 32⟩, .ro, 0, 4294967295⟩]⟩,
  ⟨0x10B00404, [(0, 4, 0x40), (0, 3, 0x10), (0, 2, 0x8)], 0x0, false, 0, false, [⟨⟨0, 32⟩, .ro, 0, 4294967295⟩]⟩]

def regsMTR : List RegDef := regsMTR0 ++ regsMTR1

/-- CAP register table, part 0 (R302). -/
def regsCAP0 : List RegDef := [
  ⟨0x10C00000, [], 0x1, false, 0, false, [⟨⟨0, 1⟩, .rw, 0, 1⟩, ⟨⟨1, 1⟩, .rw, 0, 1⟩, ⟨⟨2, 1⟩, .rw, 0, 1⟩]⟩,
  ⟨0x10C00004, [], 0x0, false, 0, false, [⟨⟨0, 16⟩, .ro, 0, 65535⟩]⟩,
  ⟨0x10C00008, [], 0x0, false, 0, false, [⟨⟨0, 1⟩, .w1c, 0, 1⟩, ⟨⟨1, 1⟩, .w1c, 0, 1⟩, ⟨⟨2, 1⟩, .w1c, 0, 1⟩, ⟨⟨3, 1⟩, .w1c, 0, 1⟩, ⟨⟨4, 1⟩, .w1c, 0, 1⟩]⟩,
  ⟨0x10C0000C, [], 0x80000000, false, 20, false, [⟨⟨0, 32⟩, .rwl, 0, 4294967295⟩]⟩,
  ⟨0x10C00010, [], 0x10, false, 0, false, [⟨⟨0, 8⟩, .rwl, 0, 255⟩]⟩,
  ⟨0x10C00014, [], 0x1000, false, 0, false, [⟨⟨0, 13⟩, .rwl, 1, 4096⟩]⟩,
  ⟨0x10C00018, [], 0x0, false, 0, false, [⟨⟨0, 16⟩, .rw, 0, 65535⟩]⟩,
  ⟨0x10C0001C, [], 0x0, false, 0, false, [⟨⟨0, 4⟩, .rw, 0, 15⟩]⟩,
  ⟨0x10C00020, [], 0x0, false, 0, false, [⟨⟨0, 32⟩, .rc, 0, 4294967295⟩]⟩,
  ⟨0x10C00024, [], 0x0, false, 0, false, [⟨⟨0, 16⟩, .wo, 0, 65535⟩]⟩,
  ⟨0x10C00028, [], 0x0, false, 0, false, [⟨⟨0, 16⟩, .wo, 0, 65535⟩]⟩,
  ⟨0x10C0002C, [], 0x0, false, 0, false, [⟨⟨0, 16⟩, .wo, 0, 65535⟩]⟩,
  ⟨0x10C00030, [], 0x0, false, 0, false, [⟨⟨0, 4⟩, .rw, 0, 15⟩, ⟨⟨4, 1⟩, .rw, 0, 1⟩, ⟨⟨5, 8⟩, .rw, 0, 255⟩]⟩,
  ⟨0x10C00034, [], 0x80000000, false, 0, false, [⟨⟨0, 32⟩, .rw, 0, 4294967295⟩]⟩,
  ⟨0x10C00100, [(0, 16, 0x40)], 0x10001, false, 0, false, [⟨⟨0, 2⟩, .rw, 0, 3⟩, ⟨⟨2, 3⟩, .rw, 0, 7⟩, ⟨⟨5, 1⟩, .rw, 0, 1⟩, ⟨⟨6, 1⟩, .rw, 0, 1⟩, ⟨⟨7, 1⟩, .rw, 0, 1⟩, ⟨⟨16, 16⟩, .rw, 1, 65535⟩]⟩,
  ⟨0x10C00104, [(0, 16, 0x40)], 0x0, false, 0, false, [⟨⟨0, 8⟩, .rw, 0, 255⟩]⟩,
  ⟨0x10C00108, [(0, 16, 0x40)], 0x0, false, 0, false, [⟨⟨0, 3⟩, .rw, 0, 7⟩, ⟨⟨3, 4⟩, .rw, 0, 15⟩, ⟨⟨7, 1⟩, .rw, 0, 1⟩, ⟨⟨8, 1⟩, .rw, 0, 1⟩, ⟨⟨9, 1⟩, .rw, 0, 1⟩, ⟨⟨16, 6⟩, .rw, 0, 63⟩]⟩,
  ⟨0x10C0010C, [(0, 16, 0x40)], 0x10000, false, 0, false, [⟨⟨0, 24⟩, .rw, 16, 16777215⟩]⟩,
  ⟨0x10C00110, [(0, 16, 0x40)], 0xC000, false, 0, false, [⟨⟨0, 24⟩, .rw, 0, 16777214⟩]⟩,
  ⟨0x10C00114, [(0, 1, 0x40)], 0x1000000, false, 0, false, [⟨⟨0, 12⟩, .rw, 0, 4095⟩, ⟨⟨16, 13⟩, .rw, 1, 4096⟩]⟩,
  ⟨0x10C00114, [(1, 1, 0x40)], 0x1000100, false, 0, false, [⟨⟨0, 12⟩, .rw, 0, 4095⟩, ⟨⟨16, 13⟩, .rw, 1, 4096⟩]⟩,
  ⟨0x10C00114, [(2, 1, 0x40)], 0x1000200, false, 0, false, [⟨⟨0, 12⟩, .rw, 0, 4095⟩, ⟨⟨16, 13⟩, .rw, 1, 4096⟩]⟩,
  ⟨0x10C00114, [(3, 1, 0x40)], 0x1000300, false, 0, false, [⟨⟨0, 12⟩, .rw, 0, 4095⟩, ⟨⟨16, 13⟩, .rw, 1, 4096⟩]⟩,
  ⟨0x10C00114, [(4, 1, 0x40)], 0x1000400, false, 0, false, [⟨⟨0, 12⟩, .rw, 0, 4095⟩, ⟨⟨16, 13⟩, .rw, 1, 4096⟩]⟩]

/-- CAP register table, part 1 (R302). -/
def regsCAP1 : List RegDef := [
  ⟨0x10C00114, [(5, 1, 0x40)], 0x1000500, false, 0, false, [⟨⟨0, 12⟩, .rw, 0, 4095⟩, ⟨⟨16, 13⟩, .rw, 1, 4096⟩]⟩,
  ⟨0x10C00114, [(6, 1, 0x40)], 0x1000600, false, 0, false, [⟨⟨0, 12⟩, .rw, 0, 4095⟩, ⟨⟨16, 13⟩, .rw, 1, 4096⟩]⟩,
  ⟨0x10C00114, [(7, 1, 0x40)], 0x1000700, false, 0, false, [⟨⟨0, 12⟩, .rw, 0, 4095⟩, ⟨⟨16, 13⟩, .rw, 1, 4096⟩]⟩,
  ⟨0x10C00114, [(8, 1, 0x40)], 0x1000800, false, 0, false, [⟨⟨0, 12⟩, .rw, 0, 4095⟩, ⟨⟨16, 13⟩, .rw, 1, 4096⟩]⟩,
  ⟨0x10C00114, [(9, 1, 0x40)], 0x1000900, false, 0, false, [⟨⟨0, 12⟩, .rw, 0, 4095⟩, ⟨⟨16, 13⟩, .rw, 1, 4096⟩]⟩,
  ⟨0x10C00114, [(10, 1, 0x40)], 0x1000A00, false, 0, false, [⟨⟨0, 12⟩, .rw, 0, 4095⟩, ⟨⟨16, 13⟩, .rw, 1, 4096⟩]⟩,
  ⟨0x10C00114, [(11, 1, 0x40)], 0x1000B00, false, 0, false, [⟨⟨0, 12⟩, .rw, 0, 4095⟩, ⟨⟨16, 13⟩, .rw, 1, 4096⟩]⟩,
  ⟨0x10C00114, [(12, 1, 0x40)], 0x1000C00, false, 0, false, [⟨⟨0, 12⟩, .rw, 0, 4095⟩, ⟨⟨16, 13⟩, .rw, 1, 4096⟩]⟩,
  ⟨0x10C00114, [(13, 1, 0x40)], 0x1000D00, false, 0, false, [⟨⟨0, 12⟩, .rw, 0, 4095⟩, ⟨⟨16, 13⟩, .rw, 1, 4096⟩]⟩,
  ⟨0x10C00114, [(14, 1, 0x40)], 0x1000E00, false, 0, false, [⟨⟨0, 12⟩, .rw, 0, 4095⟩, ⟨⟨16, 13⟩, .rw, 1, 4096⟩]⟩,
  ⟨0x10C00114, [(15, 1, 0x40)], 0x1000F00, false, 0, false, [⟨⟨0, 12⟩, .rw, 0, 4095⟩, ⟨⟨16, 13⟩, .rw, 1, 4096⟩]⟩,
  ⟨0x10C00118, [(0, 16, 0x40)], 0x0, false, 0, false, [⟨⟨0, 3⟩, .rw, 0, 7⟩, ⟨⟨3, 2⟩, .rw, 0, 3⟩]⟩,
  ⟨0x10C0011C, [(0, 16, 0x40)], 0x0, false, 0, false, [⟨⟨0, 3⟩, .ro, 0, 7⟩, ⟨⟨3, 2⟩, .ro, 0, 3⟩, ⟨⟨8, 4⟩, .ro, 0, 15⟩, ⟨⟨12, 4⟩, .ro, 0, 15⟩]⟩,
  ⟨0x10C00120, [(0, 16, 0x40)], 0x0, false, 0, false, [⟨⟨0, 24⟩, .ro, 0, 16777215⟩]⟩,
  ⟨0x10C00124, [(0, 16, 0x40)], 0x0, false, 0, false, [⟨⟨0, 32⟩, .ro, 0, 4294967295⟩]⟩,
  ⟨0x10C00128, [(0, 16, 0x40)], 0x0, false, 0, false, [⟨⟨0, 32⟩, .rc, 0, 4294967295⟩]⟩,
  ⟨0x10C0012C, [(0, 16, 0x40)], 0x0, false, 0, false, [⟨⟨0, 32⟩, .rc, 0, 4294967295⟩]⟩,
  ⟨0x10C00130, [(0, 16, 0x40)], 0x0, false, 0, false, [⟨⟨0, 32⟩, .rc, 0, 4294967295⟩]⟩,
  ⟨0x10C00134, [(0, 16, 0x40)], 0x0, false, 0, false, [⟨⟨0, 32⟩, .rc, 0, 4294967295⟩]⟩,
  ⟨0x10C00800, [(0, 16, 0x40), (0, 16, 0x4)], 0x0, false, 0, false, [⟨⟨0, 20⟩, .rw, 0, 1048575⟩, ⟨⟨20, 5⟩, .rw, 0, 31⟩, ⟨⟨31, 1⟩, .rw, 0, 1⟩]⟩]

def regsCAP : List RegDef := regsCAP0 ++ regsCAP1

/-- LAT register table, part 0 (R322). -/
def regsLAT0 : List RegDef := [
  ⟨0x10D00000, [], 0x1, false, 0, false, [⟨⟨0, 1⟩, .rw, 0, 1⟩, ⟨⟨1, 1⟩, .rw, 0, 1⟩]⟩,
  ⟨0x10D00004, [], 0x0, false, 0, false, [⟨⟨0, 1⟩, .ro, 0, 1⟩, ⟨⟨1, 1⟩, .ro, 0, 1⟩, ⟨⟨2, 1⟩, .ro, 0, 1⟩, ⟨⟨3, 1⟩, .ro, 0, 1⟩, ⟨⟨4, 4⟩, .ro, 0, 15⟩, ⟨⟨16, 9⟩, .ro, 0, 511⟩]⟩,
  ⟨0x10D00008, [], 0x0, false, 0, false, [⟨⟨0, 1⟩, .w1c, 0, 1⟩, ⟨⟨1, 1⟩, .w1c, 0, 1⟩, ⟨⟨2, 1⟩, .w1c, 0, 1⟩, ⟨⟨3, 1⟩, .w1c, 0, 1⟩]⟩,
  ⟨0x10D0000C, [], 0x0, false, 0, false, [⟨⟨0, 8⟩, .ro, 0, 255⟩, ⟨⟨16, 16⟩, .ro, 0, 65535⟩]⟩,
  ⟨0x10D00010, [], 0x0, false, 0, false, [⟨⟨0, 32⟩, .ro, 0, 4294967295⟩]⟩,
  ⟨0x10D00014, [], 0x0, false, 0, false, [⟨⟨0, 16⟩, .ro, 0, 65535⟩, ⟨⟨16, 16⟩, .ro, 0, 65535⟩]⟩,
  ⟨0x10D00018, [], 0x0, false, 0, false, [⟨⟨0, 16⟩, .ro, 0, 65535⟩, ⟨⟨16, 16⟩, .ro, 0, 65535⟩]⟩,
  ⟨0x10D00020, [(0, 4, 0x4)], 0, true, 0, false, [⟨⟨0, 32⟩, .ro, 0, 4294967295⟩]⟩,
  ⟨0x10D00030, [], 0x0, false, 0, false, [⟨⟨0, 1⟩, .wo, 0, 1⟩]⟩,
  ⟨0x10D00034, [], 0x0, false, 0, false, [⟨⟨0, 8⟩, .ro, 0, 255⟩]⟩,
  ⟨0x10D00040, [], 0x0, false, 0, false, [⟨⟨0, 4⟩, .rw, 0, 15⟩, ⟨⟨4, 4⟩, .rw, 0, 15⟩, ⟨⟨8, 2⟩, .rw, 0, 3⟩]⟩,
  ⟨0x10D00044, [], 0x0, false, 0, false, [⟨⟨0, 1⟩, .wo, 0, 1⟩]⟩,
  ⟨0x10D00048, [], 0x0, false, 0, false, [⟨⟨0, 7⟩, .ro, 0, 127⟩, ⟨⟨16, 1⟩, .ro, 0, 1⟩, ⟨⟨17, 1⟩, .ro, 0, 1⟩]⟩,
  ⟨0x10D00060, [], 0x0, false, 0, false, [⟨⟨0, 8⟩, .rw, 0, 255⟩]⟩,
  ⟨0x10D00064, [], 0x0, false, 0, false, [⟨⟨0, 8⟩, .ro, 0, 255⟩, ⟨⟨8, 8⟩, .ro, 0, 255⟩, ⟨⟨16, 9⟩, .ro, 0, 511⟩]⟩,
  ⟨0x10D00068, [], 0x0, false, 0, false, [⟨⟨0, 1⟩, .ro, 0, 1⟩, ⟨⟨1, 1⟩, .ro, 0, 1⟩, ⟨⟨2, 1⟩, .ro, 0, 1⟩]⟩,
  ⟨0x10D00100, [], 0x0, false, 0, false, [⟨⟨0, 32⟩, .rc, 0, 4294967295⟩]⟩,
  ⟨0x10D00104, [], 0x0, false, 0, false, [⟨⟨0, 32⟩, .rc, 0, 4294967295⟩]⟩,
  ⟨0x10D00108, [], 0x0, false, 0, false, [⟨⟨0, 32⟩, .rc, 0, 4294967295⟩]⟩,
  ⟨0x10D0010C, [], 0x0, false, 0, false, [⟨⟨0, 32⟩, .rc, 0, 4294967295⟩]⟩,
  ⟨0x10D00110, [], 0x0, false, 0, false, [⟨⟨0, 32⟩, .rc, 0, 4294967295⟩]⟩,
  ⟨0x10D00114, [], 0x0, false, 0, false, [⟨⟨0, 32⟩, .rc, 0, 4294967295⟩]⟩,
  ⟨0x10D00200, [(1, 10, 0x4)], 0x0, false, 0, false, [⟨⟨0, 9⟩, .ro, 0, 511⟩]⟩]

def regsLAT : List RegDef := regsLAT0

/-- EVC register table, part 0 (R344). -/
def regsEVC0 : List RegDef := [
  ⟨0x10E00000, [], 0x1, false, 0, false, [⟨⟨0, 1⟩, .rw, 0, 1⟩]⟩,
  ⟨0x10E00004, [], 0x0, false, 0, false, [⟨⟨0, 24⟩, .ro, 0, 16777215⟩]⟩,
  ⟨0x10E00008, [], 0x0, false, 0, false, [⟨⟨0, 1⟩, .w1c, 0, 1⟩, ⟨⟨1, 1⟩, .w1c, 0, 1⟩, ⟨⟨2, 1⟩, .w1c, 0, 1⟩, ⟨⟨3, 1⟩, .w1c, 0, 1⟩, ⟨⟨4, 1⟩, .w1c, 0, 1⟩]⟩,
  ⟨0x10E0000C, [], 0x0, false, 0, false, [⟨⟨0, 5⟩, .rw, 0, 23⟩]⟩,
  ⟨0x10E00010, [], 0x1F4, false, 0, false, [⟨⟨0, 16⟩, .rw, 1, 65535⟩]⟩,
  ⟨0x10E00020, [], 0x0, false, 0, false, [⟨⟨0, 12⟩, .rw, 0, 4095⟩]⟩,
  ⟨0x10E00024, [], 0x200, false, 0, false, [⟨⟨0, 5⟩, .rw, 0, 23⟩, ⟨⟨5, 5⟩, .rw, 0, 31⟩, ⟨⟨10, 1⟩, .ro, 0, 1⟩, ⟨⟨11, 1⟩, .rw, 0, 1⟩]⟩,
  ⟨0x10E00028, [], 0x0, false, 0, false, [⟨⟨0, 1⟩, .ro, 0, 1⟩]⟩,
  ⟨0x10E00030, [], 0x0, false, 0, false, [⟨⟨0, 8⟩, .wo, 0, 255⟩]⟩,
  ⟨0x10E00034, [], 0x0, false, 0, false, [⟨⟨0, 8⟩, .wo, 0, 255⟩]⟩,
  ⟨0x10E00100, [], 0x0, false, 0, false, [⟨⟨0, 32⟩, .rc, 0, 4294967295⟩]⟩,
  ⟨0x10E00104, [], 0x0, false, 0, false, [⟨⟨0, 32⟩, .rc, 0, 4294967295⟩]⟩,
  ⟨0x10E00108, [], 0x0, false, 0, false, [⟨⟨0, 32⟩, .rc, 0, 4294967295⟩]⟩,
  ⟨0x10E0010C, [], 0x0, false, 0, false, [⟨⟨0, 32⟩, .rc, 0, 4294967295⟩]⟩,
  ⟨0x10E00110, [], 0x0, false, 0, false, [⟨⟨0, 32⟩, .rc, 0, 4294967295⟩]⟩,
  ⟨0x10E01000, [(0, 1, 0x40)], 0x100, false, 0, false, [⟨⟨0, 1⟩, .rw, 0, 1⟩, ⟨⟨8, 5⟩, .rw, 0, 23⟩]⟩,
  ⟨0x10E01000, [(1, 23, 0x40)], 0x0, false, 0, false, [⟨⟨0, 1⟩, .rw, 0, 1⟩, ⟨⟨8, 5⟩, .rw, 0, 23⟩]⟩,
  ⟨0x10E01004, [(0, 24, 0x40)], 0x0, false, 4, false, [⟨⟨0, 32⟩, .rw, 0, 4294967295⟩]⟩,
  ⟨0x10E01008, [(0, 24, 0x40)], 0x0, false, 0, false, [⟨⟨0, 32⟩, .rw, 0, 4294967295⟩]⟩,
  ⟨0x10E0100C, [(0, 24, 0x40)], 0x6, false, 0, false, [⟨⟨0, 4⟩, .rw, 4, 12⟩]⟩,
  ⟨0x10E01010, [(0, 24, 0x40)], 0x0, false, 0, false, [⟨⟨0, 12⟩, .ro, 0, 4095⟩]⟩,
  ⟨0x10E01014, [(0, 24, 0x40)], 0x0, false, 0, false, [⟨⟨0, 12⟩, .ro, 0, 4095⟩]⟩,
  ⟨0x10E01018, [(0, 24, 0x40)], 0x0, false, 0, false, [⟨⟨0, 12⟩, .ro, 0, 4095⟩, ⟨⟨31, 1⟩, .ro, 0, 1⟩]⟩,
  ⟨0x10E0101C, [(0, 24, 0x40)], 0x0, false, 0, false, [⟨⟨0, 12⟩, .wo, 0, 4095⟩, ⟨⟨31, 1⟩, .wo, 0, 1⟩]⟩]

/-- EVC register table, part 1 (R344). -/
def regsEVC1 : List RegDef := [
  ⟨0x10E01020, [(0, 24, 0x40)], 0x0, false, 0, false, [⟨⟨0, 5⟩, .ro, 0, 31⟩, ⟨⟨8, 5⟩, .ro, 0, 31⟩, ⟨⟨16, 1⟩, .ro, 0, 1⟩]⟩,
  ⟨0x10E01024, [(0, 24, 0x40)], 0x0, false, 0, false, [⟨⟨0, 1⟩, .wo, 0, 1⟩]⟩]

def regsEVC : List RegDef := regsEVC0 ++ regsEVC1

/-- TSK register table, part 0 (R343). -/
def regsTSK0 : List RegDef := [
  ⟨0x10F00000, [], 0x1, false, 0, false, [⟨⟨0, 1⟩, .rw, 0, 1⟩]⟩,
  ⟨0x10F00004, [], 0x0, false, 0, false, [⟨⟨0, 13⟩, .ro, 0, 8191⟩, ⟨⟨16, 13⟩, .ro, 0, 8191⟩]⟩,
  ⟨0x10F00008, [], 0x0, false, 0, false, [⟨⟨0, 1⟩, .w1c, 0, 1⟩, ⟨⟨1, 1⟩, .w1c, 0, 1⟩, ⟨⟨2, 1⟩, .w1c, 0, 1⟩, ⟨⟨3, 1⟩, .w1c, 0, 1⟩]⟩,
  ⟨0x10F0000C, [], 0xA, false, 0, false, [⟨⟨0, 10⟩, .rw, 1, 1000⟩]⟩,
  ⟨0x10F00010, [], 0x0, false, 0, false, [⟨⟨0, 32⟩, .ro, 0, 4294967295⟩]⟩,
  ⟨0x10F00020, [], 0x0, false, 0, false, [⟨⟨0, 12⟩, .wo, 0, 4095⟩]⟩,
  ⟨0x10F00024, [], 0x0, false, 0, false, [⟨⟨0, 12⟩, .wo, 0, 4095⟩]⟩,
  ⟨0x10F00028, [], 0x0, false, 0, false, [⟨⟨0, 12⟩, .wo, 0, 4095⟩, ⟨⟨12, 20⟩, .wo, 0, 1048575⟩]⟩,
  ⟨0x10F0002C, [], 0x0, false, 0, false, [⟨⟨0, 12⟩, .ro, 0, 4095⟩, ⟨⟨31, 1⟩, .ro, 0, 1⟩]⟩,
  ⟨0x10F00030, [], 0x0, false, 0, false, [⟨⟨0, 32⟩, .ro, 0, 4294967295⟩]⟩,
  ⟨0x10F00034, [], 0x0, false, 0, false, [⟨⟨0, 8⟩, .ro, 0, 255⟩]⟩,
  ⟨0x10F00038, [], 0x0, false, 0, false, [⟨⟨0, 32⟩, .ro, 0, 4294967295⟩]⟩,
  ⟨0x10F0003C, [], 0x0, false, 0, false, [⟨⟨0, 12⟩, .wo, 0, 4095⟩]⟩,
  ⟨0x10F00040, [], 0x0, false, 0, false, [⟨⟨0, 12⟩, .wo, 0, 4095⟩]⟩,
  ⟨0x10F00050, [], 0x0, false, 0, false, [⟨⟨0, 12⟩, .rw, 0, 4095⟩]⟩,
  ⟨0x10F00054, [(0, 1, 0x4)], 0x0, false, 0, false, [⟨⟨0, 32⟩, .rw, 0, 4294967295⟩]⟩,
  ⟨0x10F00054, [(1, 1, 0x4)], 0x1F00, false, 0, false, [⟨⟨0, 32⟩, .rw, 0, 4294967295⟩]⟩,
  ⟨0x10F00054, [(2, 1, 0x4)], 0x0, false, 0, false, [⟨⟨0, 32⟩, .rw, 0, 4294967295⟩]⟩,
  ⟨0x10F00054, [(3, 1, 0x4)], 0x0, false, 0, false, [⟨⟨0, 32⟩, .rw, 0, 4294967295⟩]⟩,
  ⟨0x10F00080, [(0, 8, 0x4)], 0x0, false, 0, false, [⟨⟨0, 12⟩, .ro, 0, 4095⟩, ⟨⟨31, 1⟩, .ro, 0, 1⟩]⟩,
  ⟨0x10F00100, [], 0x0, false, 0, false, [⟨⟨0, 32⟩, .rc, 0, 4294967295⟩]⟩,
  ⟨0x10F00104, [], 0x0, false, 0, false, [⟨⟨0, 32⟩, .rc, 0, 4294967295⟩]⟩,
  ⟨0x10F00108, [], 0x0, false, 0, false, [⟨⟨0, 32⟩, .rc, 0, 4294967295⟩]⟩,
  ⟨0x10F0010C, [], 0x0, false, 0, false, [⟨⟨0, 32⟩, .rc, 0, 4294967295⟩]⟩]

/-- TSK register table, part 1 (R343). -/
def regsTSK1 : List RegDef := [
  ⟨0x10F00110, [], 0x0, false, 0, false, [⟨⟨0, 32⟩, .rc, 0, 4294967295⟩]⟩]

def regsTSK : List RegDef := regsTSK0 ++ regsTSK1

/-- CHD register table, part 0 (R370). -/
def regsCHD0 : List RegDef := [
  ⟨0x11000000, [], 0x7, false, 0, false, [⟨⟨0, 1⟩, .rw, 0, 1⟩, ⟨⟨1, 1⟩, .rw, 0, 1⟩, ⟨⟨2, 1⟩, .rw, 0, 1⟩, ⟨⟨3, 1⟩, .rw, 0, 1⟩]⟩,
  ⟨0x11000004, [], 0x0, false, 0, false, [⟨⟨0, 3⟩, .ro, 0, 7⟩, ⟨⟨3, 1⟩, .ro, 0, 1⟩, ⟨⟨4, 1⟩, .ro, 0, 1⟩, ⟨⟨5, 1⟩, .ro, 0, 1⟩, ⟨⟨6, 1⟩, .ro, 0, 1⟩, ⟨⟨7, 1⟩, .ro, 0, 1⟩, ⟨⟨8, 2⟩, .ro, 0, 3⟩, ⟨⟨10, 1⟩, .ro, 0, 1⟩, ⟨⟨12, 4⟩, .ro, 0, 15⟩]⟩,
  ⟨0x11000008, [], 0x0, false, 0, false, [⟨⟨0, 1⟩, .w1c, 0, 1⟩, ⟨⟨1, 1⟩, .w1c, 0, 1⟩, ⟨⟨2, 1⟩, .w1c, 0, 1⟩, ⟨⟨3, 1⟩, .w1c, 0, 1⟩, ⟨⟨4, 1⟩, .w1c, 0, 1⟩, ⟨⟨5, 1⟩, .w1c, 0, 1⟩, ⟨⟨6, 1⟩, .w1c, 0, 1⟩, ⟨⟨7, 1⟩, .w1c, 0, 1⟩, ⟨⟨8, 1⟩, .w1c, 0, 1⟩, ⟨⟨9, 1⟩, .w1c, 0, 1⟩, ⟨⟨10, 1⟩, .w1c, 0, 1⟩, ⟨⟨11, 1⟩, .w1c, 0, 1⟩]⟩,
  ⟨0x1100000C, [], 0x0, false, 0, false, [⟨⟨0, 8⟩, .rwl, 0, 254⟩, ⟨⟨8, 1⟩, .rwl, 0, 1⟩, ⟨⟨9, 1⟩, .rwl, 0, 1⟩, ⟨⟨10, 1⟩, .rwl, 0, 1⟩]⟩,
  ⟨0x11000010, [], 0x0, false, 0, false, [⟨⟨0, 32⟩, .ro, 0, 4294967295⟩]⟩,
  ⟨0x11000014, [], 0x5DC, false, 0, false, [⟨⟨0, 14⟩, .rw, 1000, 10000⟩]⟩,
  ⟨0x11000018, [], 0x1F4, false, 0, false, [⟨⟨0, 13⟩, .rw, 100, 5000⟩]⟩,
  ⟨0x1100001C, [], 0x0, false, 0, false, [⟨⟨0, 32⟩, .ro, 0, 4294967295⟩]⟩,
  ⟨0x11000020, [], 0xFFFFFFFF, false, 0, false, [⟨⟨0, 16⟩, .ro, 0, 65535⟩, ⟨⟨16, 16⟩, .ro, 0, 65535⟩]⟩,
  ⟨0x11000024, [], 0x0, false, 0, false, [⟨⟨0, 32⟩, .ro, 0, 4294967295⟩]⟩,
  ⟨0x11000028, [], 0x0, false, 0, false, [⟨⟨0, 32⟩, .ro, 0, 4294967295⟩]⟩,
  ⟨0x1100002C, [], 0x0, false, 0, false, [⟨⟨0, 8⟩, .ro, 0, 255⟩, ⟨⟨8, 4⟩, .ro, 0, 15⟩, ⟨⟨12, 1⟩, .ro, 0, 1⟩]⟩,
  ⟨0x11000030, [], 0x0, false, 0, false, [⟨⟨0, 8⟩, .ro, 0, 255⟩, ⟨⟨8, 8⟩, .ro, 0, 255⟩, ⟨⟨16, 1⟩, .ro, 0, 1⟩, ⟨⟨17, 1⟩, .ro, 0, 1⟩, ⟨⟨18, 1⟩, .ro, 0, 1⟩, ⟨⟨19, 1⟩, .ro, 0, 1⟩]⟩,
  ⟨0x11000040, [(0, 8, 0x4)], 0x0, false, 0, false, [⟨⟨0, 32⟩, .ro, 0, 4294967295⟩]⟩,
  ⟨0x11000100, [], 0x0, false, 0, false, [⟨⟨0, 32⟩, .rc, 0, 4294967295⟩]⟩,
  ⟨0x11000104, [], 0x0, false, 0, false, [⟨⟨0, 32⟩, .rc, 0, 4294967295⟩]⟩,
  ⟨0x11000108, [], 0x0, false, 0, false, [⟨⟨0, 32⟩, .rc, 0, 4294967295⟩]⟩,
  ⟨0x1100010C, [], 0x0, false, 0, false, [⟨⟨0, 32⟩, .rc, 0, 4294967295⟩]⟩,
  ⟨0x11000110, [], 0x0, false, 0, false, [⟨⟨0, 32⟩, .rc, 0, 4294967295⟩]⟩,
  ⟨0x11000114, [], 0x0, false, 0, false, [⟨⟨0, 32⟩, .rc, 0, 4294967295⟩]⟩,
  ⟨0x11000118, [], 0x0, false, 0, false, [⟨⟨0, 32⟩, .rc, 0, 4294967295⟩]⟩,
  ⟨0x1100011C, [], 0x0, false, 0, false, [⟨⟨0, 32⟩, .rc, 0, 4294967295⟩]⟩,
  ⟨0x11000120, [], 0x0, false, 0, false, [⟨⟨0, 32⟩, .rc, 0, 4294967295⟩]⟩,
  ⟨0x11000124, [], 0x0, false, 0, false, [⟨⟨0, 32⟩, .rc, 0, 4294967295⟩]⟩]

/-- CHD register table, part 1 (R370). -/
def regsCHD1 : List RegDef := [
  ⟨0x11000128, [], 0x0, false, 0, false, [⟨⟨0, 32⟩, .rc, 0, 4294967295⟩]⟩,
  ⟨0x1100012C, [], 0x0, false, 0, false, [⟨⟨0, 32⟩, .rc, 0, 4294967295⟩]⟩]

def regsCHD : List RegDef := regsCHD0 ++ regsCHD1

/-- LDG register table, part 0 (R391). -/
def regsLDG0 : List RegDef := [
  ⟨0x11100000, [], 0x7, false, 0, false, [⟨⟨0, 1⟩, .rw, 0, 1⟩, ⟨⟨1, 1⟩, .rw, 0, 1⟩, ⟨⟨2, 1⟩, .rw, 0, 1⟩]⟩,
  ⟨0x11100004, [], 0x0, false, 0, false, [⟨⟨0, 3⟩, .ro, 0, 7⟩, ⟨⟨3, 1⟩, .ro, 0, 1⟩, ⟨⟨4, 1⟩, .ro, 0, 1⟩, ⟨⟨5, 1⟩, .ro, 0, 1⟩, ⟨⟨6, 1⟩, .ro, 0, 1⟩]⟩,
  ⟨0x11100008, [], 0x0, false, 0, false, [⟨⟨0, 1⟩, .w1c, 0, 1⟩, ⟨⟨1, 1⟩, .w1c, 0, 1⟩, ⟨⟨2, 1⟩, .w1c, 0, 1⟩, ⟨⟨3, 1⟩, .w1c, 0, 1⟩, ⟨⟨4, 1⟩, .w1c, 0, 1⟩, ⟨⟨5, 1⟩, .w1c, 0, 1⟩, ⟨⟨6, 1⟩, .w1c, 0, 1⟩, ⟨⟨7, 1⟩, .w1c, 0, 1⟩, ⟨⟨8, 1⟩, .w1c, 0, 1⟩, ⟨⟨9, 1⟩, .w1c, 0, 1⟩, ⟨⟨10, 1⟩, .w1c, 0, 1⟩, ⟨⟨11, 1⟩, .w1c, 0, 1⟩]⟩,
  ⟨0x1110000C, [], 0x1, false, 0, false, [⟨⟨0, 8⟩, .rwl, 0, 255⟩]⟩,
  ⟨0x11100010, [], 0x0, false, 30, false, [⟨⟨0, 32⟩, .rwl, 0, 4294967295⟩]⟩,
  ⟨0x11100014, [], 0x12, false, 0, false, [⟨⟨0, 8⟩, .rwl, 0, 255⟩]⟩,
  ⟨0x11100018, [], 0x3E8, false, 0, false, [⟨⟨0, 16⟩, .rw, 0, 60000⟩]⟩,
  ⟨0x1110001C, [], 0x64, false, 0, false, [⟨⟨0, 10⟩, .rw, 1, 1000⟩]⟩,
  ⟨0x11100020, [], 0x1388, false, 0, false, [⟨⟨0, 16⟩, .rw, 100, 60000⟩]⟩,
  ⟨0x11100024, [], 0x0, false, 0, false, [⟨⟨0, 32⟩, .ro, 0, 4294967295⟩]⟩,
  ⟨0x11100028, [], 0x0, false, 0, false, [⟨⟨0, 32⟩, .ro, 0, 4294967295⟩]⟩,
  ⟨0x1110002C, [], 0x0, false, 0, false, [⟨⟨0, 32⟩, .ro, 0, 4294967295⟩]⟩,
  ⟨0x11100030, [], 0x0, false, 0, false, [⟨⟨0, 17⟩, .ro, 0, 131071⟩]⟩,
  ⟨0x11100034, [], 0x0, false, 0, false, [⟨⟨0, 14⟩, .ro, 0, 16383⟩]⟩,
  ⟨0x11100038, [], 0x0, false, 0, false, [⟨⟨0, 32⟩, .ro, 0, 4294967295⟩]⟩,
  ⟨0x11100040, [(0, 4, 0x4)], 0x0, false, 0, false, [⟨⟨0, 32⟩, .ro, 0, 4294967295⟩]⟩,
  ⟨0x11100050, [], 0x0, false, 0, false, [⟨⟨0, 16⟩, .ro, 0, 65535⟩]⟩,
  ⟨0x11100060, [], 0x0, false, 12, false, [⟨⟨0, 32⟩, .rw, 0, 4294967295⟩]⟩,
  ⟨0x11100064, [], 0x0, false, 0, false, [⟨⟨0, 6⟩, .rw, 0, 63⟩]⟩,
  ⟨0x11100068, [], 0x0, false, 12, false, [⟨⟨0, 32⟩, .rw, 0, 4294967295⟩]⟩,
  ⟨0x1110006C, [], 0x0, false, 0, false, [⟨⟨0, 8⟩, .rw, 0, 255⟩]⟩,
  ⟨0x11100070, [], 0x1, false, 0, false, [⟨⟨0, 19⟩, .rw, 1, 262144⟩]⟩,
  ⟨0x11100074, [], 0x0, false, 0, false, [⟨⟨0, 1⟩, .wo, 0, 1⟩]⟩,
  ⟨0x11100100, [], 0x0, false, 0, false, [⟨⟨0, 32⟩, .rc, 0, 4294967295⟩]⟩]

/-- LDG register table, part 1 (R391). -/
def regsLDG1 : List RegDef := [
  ⟨0x11100104, [], 0x0, false, 0, false, [⟨⟨0, 32⟩, .rc, 0, 4294967295⟩]⟩,
  ⟨0x11100108, [], 0x0, false, 0, false, [⟨⟨0, 32⟩, .rc, 0, 4294967295⟩]⟩,
  ⟨0x1110010C, [], 0x0, false, 0, false, [⟨⟨0, 32⟩, .rc, 0, 4294967295⟩]⟩,
  ⟨0x11100110, [], 0x0, false, 0, false, [⟨⟨0, 32⟩, .rc, 0, 4294967295⟩]⟩,
  ⟨0x11100114, [], 0x0, false, 0, false, [⟨⟨0, 32⟩, .rc, 0, 4294967295⟩]⟩,
  ⟨0x11100118, [], 0x0, false, 0, false, [⟨⟨0, 32⟩, .rc, 0, 4294967295⟩]⟩,
  ⟨0x1110011C, [], 0x0, false, 0, false, [⟨⟨0, 32⟩, .rc, 0, 4294967295⟩]⟩]

def regsLDG : List RegDef := regsLDG0 ++ regsLDG1

/-- KEY register table, part 0 (R405). -/
def regsKEY0 : List RegDef := [
  ⟨0x11200000, [], 0x0, false, 0, false, [⟨⟨0, 1⟩, .rw, 0, 1⟩]⟩,
  ⟨0x11200004, [], 0x0, false, 0, false, [⟨⟨0, 1⟩, .ro, 0, 1⟩, ⟨⟨1, 1⟩, .ro, 0, 1⟩]⟩,
  ⟨0x11200008, [], 0x0, false, 0, false, [⟨⟨0, 1⟩, .w1c, 0, 1⟩, ⟨⟨1, 1⟩, .w1c, 0, 1⟩, ⟨⟨2, 1⟩, .w1c, 0, 1⟩, ⟨⟨3, 1⟩, .w1c, 0, 1⟩, ⟨⟨4, 1⟩, .w1c, 0, 1⟩]⟩,
  ⟨0x1120000C, [], 0x0, false, 0, false, [⟨⟨0, 8⟩, .ro, 0, 255⟩, ⟨⟨8, 8⟩, .ro, 0, 255⟩]⟩,
  ⟨0x11200010, [(0, 4, 0x4)], 0, true, 0, false, [⟨⟨0, 32⟩, .ro, 0, 4294967295⟩]⟩,
  ⟨0x11200020, [], 0x0, false, 0, false, [⟨⟨0, 32⟩, .ro, 0, 4294967295⟩]⟩,
  ⟨0x11200024, [], 0x0, false, 0, false, [⟨⟨0, 32⟩, .ro, 0, 4294967295⟩]⟩,
  ⟨0x11200028, [], 0, true, 0, false, [⟨⟨0, 13⟩, .ro, 0, 8191⟩]⟩,
  ⟨0x11200030, [], 0x0, false, 0, false, [⟨⟨0, 8⟩, .rw, 0, 255⟩]⟩,
  ⟨0x11200034, [], 0x0, false, 0, false, [⟨⟨0, 32⟩, .ro, 0, 4294967295⟩]⟩,
  ⟨0x11200100, [], 0x0, false, 0, false, [⟨⟨0, 32⟩, .rc, 0, 4294967295⟩]⟩,
  ⟨0x11200104, [], 0x0, false, 0, false, [⟨⟨0, 32⟩, .rc, 0, 4294967295⟩]⟩]

def regsKEY : List RegDef := regsKEY0

/-- UPD register table, part 0 (R421). -/
def regsUPD0 : List RegDef := [
  ⟨0x11300000, [], 0x1, false, 0, false, [⟨⟨0, 1⟩, .rw, 0, 1⟩, ⟨⟨1, 1⟩, .rw, 0, 1⟩, ⟨⟨2, 1⟩, .rw, 0, 1⟩]⟩,
  ⟨0x11300004, [], 0x0, false, 0, false, [⟨⟨0, 3⟩, .ro, 0, 7⟩, ⟨⟨3, 1⟩, .ro, 0, 1⟩, ⟨⟨4, 1⟩, .ro, 0, 1⟩, ⟨⟨5, 1⟩, .ro, 0, 1⟩, ⟨⟨6, 1⟩, .ro, 0, 1⟩, ⟨⟨7, 1⟩, .ro, 0, 1⟩, ⟨⟨8, 4⟩, .ro, 0, 15⟩, ⟨⟨12, 4⟩, .ro, 0, 15⟩, ⟨⟨16, 6⟩, .ro, 0, 63⟩]⟩,
  ⟨0x11300008, [], 0x0, false, 0, false, [⟨⟨0, 1⟩, .w1c, 0, 1⟩, ⟨⟨1, 1⟩, .w1c, 0, 1⟩, ⟨⟨2, 1⟩, .w1c, 0, 1⟩, ⟨⟨3, 1⟩, .w1c, 0, 1⟩, ⟨⟨4, 1⟩, .w1c, 0, 1⟩, ⟨⟨5, 1⟩, .w1c, 0, 1⟩, ⟨⟨6, 1⟩, .w1c, 0, 1⟩, ⟨⟨7, 1⟩, .w1c, 0, 1⟩]⟩,
  ⟨0x1130000C, [], 0x0, false, 0, false, [⟨⟨0, 8⟩, .ro, 0, 255⟩, ⟨⟨16, 11⟩, .ro, 0, 2047⟩]⟩,
  ⟨0x11300010, [], 0x0, false, 20, false, [⟨⟨0, 32⟩, .rwl, 0, 4294967295⟩]⟩,
  ⟨0x11300014, [], 0x13, false, 0, false, [⟨⟨0, 8⟩, .rwl, 0, 255⟩]⟩,
  ⟨0x11300018, [], 0x100, false, 0, false, [⟨⟨0, 10⟩, .rwl, 128, 1023⟩]⟩,
  ⟨0x1130001C, [], 0x258, false, 0, false, [⟨⟨0, 17⟩, .rw, 60, 86400⟩]⟩,
  ⟨0x11300020, [], 0x0, false, 0, false, [⟨⟨0, 17⟩, .ro, 0, 131071⟩]⟩,
  ⟨0x11300024, [], 0x0, false, 0, false, [⟨⟨0, 32⟩, .ro, 0, 4294967295⟩]⟩,
  ⟨0x11300028, [], 0x0, false, 0, false, [⟨⟨0, 11⟩, .ro, 0, 2047⟩]⟩,
  ⟨0x1130002C, [], 0x0, false, 0, false, [⟨⟨0, 11⟩, .ro, 0, 2047⟩]⟩,
  ⟨0x11300030, [], 0x0, false, 0, false, [⟨⟨0, 11⟩, .ro, 0, 2047⟩]⟩,
  ⟨0x11300034, [], 0, true, 0, false, [⟨⟨0, 8⟩, .ro, 0, 255⟩]⟩,
  ⟨0x11300038, [], 0, true, 0, false, [⟨⟨0, 32⟩, .ro, 0, 4294967295⟩]⟩,
  ⟨0x1130003C, [], 0, true, 0, false, [⟨⟨0, 32⟩, .ro, 0, 4294967295⟩]⟩,
  ⟨0x11300040, [], 0, true, 0, false, [⟨⟨0, 32⟩, .ro, 0, 4294967295⟩]⟩,
  ⟨0x11300044, [], 0x0, false, 0, false, [⟨⟨0, 1⟩, .wo, 0, 1⟩]⟩,
  ⟨0x11300100, [], 0x0, false, 0, false, [⟨⟨0, 32⟩, .rc, 0, 4294967295⟩]⟩,
  ⟨0x11300104, [], 0x0, false, 0, false, [⟨⟨0, 32⟩, .rc, 0, 4294967295⟩]⟩,
  ⟨0x11300108, [], 0x0, false, 0, false, [⟨⟨0, 32⟩, .rc, 0, 4294967295⟩]⟩,
  ⟨0x1130010C, [], 0x0, false, 0, false, [⟨⟨0, 32⟩, .rc, 0, 4294967295⟩]⟩,
  ⟨0x11300110, [], 0x0, false, 0, false, [⟨⟨0, 32⟩, .rc, 0, 4294967295⟩]⟩,
  ⟨0x11300114, [], 0x0, false, 0, false, [⟨⟨0, 32⟩, .rc, 0, 4294967295⟩]⟩]

/-- UPD register table, part 1 (R421). -/
def regsUPD1 : List RegDef := [
  ⟨0x11300118, [], 0x0, false, 0, false, [⟨⟨0, 32⟩, .rc, 0, 4294967295⟩]⟩,
  ⟨0x1130011C, [], 0x0, false, 0, false, [⟨⟨0, 32⟩, .rc, 0, 4294967295⟩]⟩]

def regsUPD : List RegDef := regsUPD0 ++ regsUPD1

/-- HIF register table, part 0 (R450). -/
def regsHIF0 : List RegDef := [
  ⟨0x11400000, [], 0x0, false, 0, false, [⟨⟨0, 1⟩, .rw, 0, 1⟩, ⟨⟨1, 1⟩, .rw, 0, 1⟩]⟩,
  ⟨0x11400004, [], 0x0, false, 0, false, [⟨⟨0, 1⟩, .ro, 0, 1⟩, ⟨⟨1, 1⟩, .ro, 0, 1⟩, ⟨⟨2, 1⟩, .ro, 0, 1⟩, ⟨⟨8, 6⟩, .ro, 0, 63⟩, ⟨⟨16, 3⟩, .ro, 0, 7⟩, ⟨⟨20, 3⟩, .ro, 0, 7⟩]⟩,
  ⟨0x11400008, [], 0x0, false, 0, false, [⟨⟨0, 1⟩, .w1c, 0, 1⟩, ⟨⟨1, 1⟩, .w1c, 0, 1⟩, ⟨⟨2, 1⟩, .w1c, 0, 1⟩, ⟨⟨3, 1⟩, .w1c, 0, 1⟩, ⟨⟨4, 1⟩, .w1c, 0, 1⟩, ⟨⟨5, 1⟩, .w1c, 0, 1⟩, ⟨⟨6, 1⟩, .w1c, 0, 1⟩, ⟨⟨7, 1⟩, .w1c, 0, 1⟩, ⟨⟨8, 1⟩, .w1c, 0, 1⟩]⟩,
  ⟨0x1140000C, [], 0x4020300, false, 0, false, [⟨⟨24, 8⟩, .ro, 0, 255⟩, ⟨⟨16, 8⟩, .ro, 0, 255⟩, ⟨⟨8, 8⟩, .ro, 0, 255⟩, ⟨⟨0, 8⟩, .ro, 0, 255⟩]⟩,
  ⟨0x11400010, [], 0x0, false, 0, false, [⟨⟨0, 32⟩, .rw, 0, 4294967295⟩]⟩,
  ⟨0x11400014, [], 0x0, false, 0, false, [⟨⟨8, 8⟩, .ro, 0, 255⟩, ⟨⟨0, 8⟩, .ro, 0, 255⟩]⟩,
  ⟨0x11400020, [], 0x0, false, 6, false, [⟨⟨0, 32⟩, .rw, 0, 4294967295⟩]⟩,
  ⟨0x11400024, [], 0x0, false, 0, false, [⟨⟨0, 32⟩, .rw, 0, 4294967295⟩]⟩,
  ⟨0x11400028, [], 0x6, false, 0, false, [⟨⟨0, 4⟩, .rw, 4, 12⟩]⟩,
  ⟨0x1140002C, [], 0x0, false, 0, false, [⟨⟨0, 12⟩, .rw, 0, 4095⟩]⟩,
  ⟨0x11400030, [], 0x0, false, 0, false, [⟨⟨0, 12⟩, .ro, 0, 4095⟩]⟩,
  ⟨0x11400040, [], 0x0, false, 5, false, [⟨⟨0, 32⟩, .rw, 0, 4294967295⟩]⟩,
  ⟨0x11400044, [], 0x0, false, 0, false, [⟨⟨0, 32⟩, .rw, 0, 4294967295⟩]⟩,
  ⟨0x11400048, [], 0x6, false, 0, false, [⟨⟨0, 4⟩, .rw, 4, 12⟩]⟩,
  ⟨0x1140004C, [], 0x0, false, 0, false, [⟨⟨0, 12⟩, .ro, 0, 4095⟩]⟩,
  ⟨0x11400050, [], 0x0, false, 0, false, [⟨⟨0, 12⟩, .rw, 0, 4095⟩]⟩,
  ⟨0x11400060, [], 0x0, false, 0, false, [⟨⟨0, 32⟩, .ro, 0, 4294967295⟩]⟩,
  ⟨0x11400064, [], 0x0, false, 0, false, [⟨⟨0, 8⟩, .ro, 0, 255⟩, ⟨⟨16, 4⟩, .ro, 0, 15⟩, ⟨⟨20, 1⟩, .ro, 0, 1⟩]⟩,
  ⟨0x11400068, [], 0x0, false, 0, false, [⟨⟨0, 32⟩, .rc, 0, 4294967295⟩]⟩,
  ⟨0x11400070, [], 0x1, false, 0, false, [⟨⟨0, 1⟩, .rw, 0, 1⟩]⟩,
  ⟨0x11400100, [], 0x0, false, 0, false, [⟨⟨0, 32⟩, .rc, 0, 4294967295⟩]⟩,
  ⟨0x11400104, [], 0x0, false, 0, false, [⟨⟨0, 32⟩, .rc, 0, 4294967295⟩]⟩,
  ⟨0x11400108, [], 0x0, false, 0, false, [⟨⟨0, 32⟩, .rc, 0, 4294967295⟩]⟩,
  ⟨0x1140010C, [], 0x0, false, 0, false, [⟨⟨0, 32⟩, .rc, 0, 4294967295⟩]⟩]

/-- HIF register table, part 1 (R450). -/
def regsHIF1 : List RegDef := [
  ⟨0x11400110, [], 0x0, false, 0, false, [⟨⟨0, 32⟩, .rc, 0, 4294967295⟩]⟩]

def regsHIF : List RegDef := regsHIF0 ++ regsHIF1

/-- NOC register table, part 0 (R451). -/
def regsNOC0 : List RegDef := [
  ⟨0x11500000, [], 0x0, false, 0, false, [⟨⟨0, 7⟩, .ro, 0, 127⟩]⟩,
  ⟨0x11500008, [], 0x0, false, 0, false, [⟨⟨0, 1⟩, .w1c, 0, 1⟩, ⟨⟨1, 1⟩, .w1c, 0, 1⟩, ⟨⟨2, 1⟩, .w1c, 0, 1⟩]⟩,
  ⟨0x11500010, [(0, 6, 0x4)], 0x3, false, 0, false, [⟨⟨0, 3⟩, .rw, 0, 7⟩]⟩,
  ⟨0x11500010, [(6, 2, 0x4)], 0x5, false, 0, false, [⟨⟨0, 3⟩, .rw, 0, 7⟩]⟩,
  ⟨0x11500040, [], 0x0, false, 20, false, [⟨⟨0, 32⟩, .rwl, 0, 4294967295⟩]⟩,
  ⟨0x11500044, [], 0x14, false, 0, false, [⟨⟨0, 8⟩, .rwl, 0, 255⟩]⟩,
  ⟨0x11500048, [], 0x400, false, 0, false, [⟨⟨0, 13⟩, .rwl, 0, 4096⟩]⟩,
  ⟨0x11500080, [(1, 6, 0x4)], 0x0, false, 0, false, [⟨⟨0, 32⟩, .rc, 0, 4294967295⟩]⟩,
  ⟨0x115000A0, [(1, 6, 0x4)], 0x0, false, 0, false, [⟨⟨0, 32⟩, .rc, 0, 4294967295⟩]⟩,
  ⟨0x115000C0, [], 0x0, false, 0, false, [⟨⟨0, 32⟩, .rc, 0, 4294967295⟩]⟩]

def regsNOC : List RegDef := regsNOC0

/-- The register table of the block whose 1 MiB window has number `w` (R437, Table 22-1). -/
def blockTable (w : Nat) : List RegDef :=
  match w with
  | 0x100 => regsSYS
  | 0x101 => regsTB
  | 0x102 => regsETH
  | 0x103 => regsING
  | 0x104 => regsSNAP
  | 0x105 => regsTOPO
  | 0x106 => regsDET
  | 0x107 => regsMODAL
  | 0x108 => regsALM
  | 0x109 => regsAFE
  | 0x10A => regsFLT
  | 0x10B => regsMTR
  | 0x10C => regsCAP
  | 0x10D => regsLAT
  | 0x10E => regsEVC
  | 0x10F => regsTSK
  | 0x110 => regsCHD
  | 0x111 => regsLDG
  | 0x112 => regsKEY
  | 0x113 => regsUPD
  | 0x114 => regsHIF
  | 0x115 => regsNOC
  | _ => []

/-- Whether offset `o` from a row's address is one of the row's registers. -/
def dimsHit : List (Nat × Nat × Nat) → Nat → Bool
  | [], o => o == 0
  | (first, count, stride) :: ds, o =>
    first ≤ o / stride && o / stride < first + count && dimsHit ds (o % stride)

/-- Whether address `a` is a register of row `d`. -/
def RegDef.covers (d : RegDef) (a : Nat) : Bool := d.addr ≤ a && dimsHit d.dims (a - d.addr)

/-- The table row of the register at address `a`, if a register is there. -/
def findReg (a : Nat) : Option RegDef := (blockTable (a / 0x100000)).find? (·.covers a)

/-- What a register reads as before anything has written it: the reset value its table gives, or the value set at
manufacture where the table gives none (a constant of Config). -/
def resetOf (a : Nat) : BitVec 32 :=
  match findReg a with
  | some d => if d.madeAt then Config.madeValue a else BitVec.ofNat 32 d.reset
  | none => 0

end Sys2Proof.Machine
end

