-- ==== Sys2Proof/Machine/StateGrid.lean ====
section
/-!
DEFINITION. The state of the snapshot engine, the topology block, the detectors, the oscillation monitor and the alarm channels,
beside their registers and their tables in device memory.
-/
namespace Sys2Proof.Machine

/-! ### Snapshot alignment -/

/-- A slot (Table 05-1). Phasors are (real, imaginary); numbers with a fraction are binary32 bits. -/
structure Slot where
  mtime : Nat := 0
  rxtime : Nat := 0
  rxfrac : Nat := 0
  late : Bool := false
  invalid : Bool := false
  test : Bool := false
  quest : Bool := false
  unsync : Bool := false
  cfgchg : Bool := false
  ecc : Bool := false
  tq : Nat := 0
  ptq : Nat := 0
  auth : Bool := false
  port : Nat := 0
  stat : Nat := 0
  smpcnt : Nat := 0
  desc : Nat := 0
  freq : Nat := 0
  dfreq : Nat := 0
  dig : List Nat := []
  analogs : List Nat := []
  phasors : List (Nat × Nat) := []
  deriving DecidableEq, Repr

/-- What is kept of a provisional release until the final one (R130-R143). -/
structure ProvRel where
  time : Nat
  cover : Nat
  level : Nat
  epoch : Nat
  bank : Nat
  deriving DecidableEq, Repr

/-- One snapshot from its opening until its slots are freed (R106-R119). -/
structure Snapshot where
  seq : Nat
  inst : Nat
  /-- W in microseconds. -/
  win : Nat
  tc : Nat
  /-- Members by ascending VID. -/
  members : List Nat
  /-- Counted members: (VID, weight, ANCHOR) (R129). -/
  counted : List (Nat × Nat × Bool)
  /-- Slots with a frame, by VID. -/
  slots : List (Nat × Slot) := []
  /-- Slots held on chip and in spill (R119). -/
  onchip : Nat := 0
  spill : Nat := 0
  spilled : Bool := false
  noslot : Bool := false
  promoting : Bool := false
  waited : Bool := false
  prov : Option ProvRel := none
  finalAt : Option Nat := none
  /-- It was open when this unit was promoted (R143). -/
  taken : Bool := false
  deriving DecidableEq, Repr

/-- The latest release of a class, as SNAP.LASTn and the words after it show it (R126). -/
structure LastRel where
  seq : Nat
  kind : Nat
  inst : Nat
  members : Nat
  present : Nat
  cover : Nat
  rel : Nat
  flags : Nat
  deriving DecidableEq, Repr

/-- One class. -/
structure SnapClass where
  /-- Snapshots held: those not finally released, oldest first, after those that await their amend horizon. -/
  snaps : List Snapshot := []
  /-- The instant of the latest snapshot opened. -/
  lastInst : Option Nat := none
  /-- The W fixed for the snapshot opened before the next (R114). -/
  wprev : Option Nat := none
  last : Option LastRel := none
  /-- Frames seen for instants no longer held: (instant, VIDs) (R116). -/
  past : List (Nat × List Nat × List Nat) := []
  /-- TAI ns at which the relaxation timer was last restarted (R139). -/
  relaxFrom : Nat := 0
  /-- Members of the snapshot opened last (R361 kind 7). -/
  prevMembers : Option (List Nat) := none
  deriving DecidableEq, Repr

/-- What SNAP keeps of a stream. -/
structure StreamRec where
  /-- The 64 bucket counts (R114), by bucket. -/
  hist : Tab Nat := []
  missing : Nat := 0
  absent : Bool := false
  weight : Nat := 1
  anchor : Bool := false
  /-- Digital words and TEST of its latest final release present and not INVALID (R153). -/
  dig : Option (List Nat × Bool) := none
  deriving DecidableEq, Repr

/-- SNAP (R106-R145). -/
structure Snap where
  classes : Tab SnapClass := []
  streams : Tab StreamRec := []
  /-- The eight words a requester latched by a read of LASTn, by latch key * 8 + n (R126). -/
  latches : Tab (List Nat) := []
  /-- Records dropped per subscription since its latest descriptor was used, at most 255 (R124). -/
  dropped : Tab Nat := []
  deriving DecidableEq, Repr

/-! ### Topology -/

/-- A hull: configuration, NFAC kept by the device, and its two aggregate copies of 16 words (R151, R159). -/
structure Hull where
  valid : Bool := false
  f60 : Bool := false
  nfac : Nat := 0
  aggA : List Nat := []
  aggB : List Nat := []
  deriving DecidableEq, Repr

/-- One TOPO_EDIT operation: OP, target, words 1-7 (Table 07-8). -/
structure TopoOp where
  op : Nat
  target : Nat
  words : List Nat
  deriving DecidableEq, Repr

/-- An accepted batch: the tag of its command and its operations (R162); `ext` for one that the Active carried over. -/
structure TopoBatch where
  tag : Option Nat
  ops : List TopoOp
  deriving DecidableEq, Repr

/-- A committed generation: its number, its tick in TAI ns, the label of each valid facet, and of each its hull and whether it is in
service (R156, R157). -/
structure Generation where
  gen : Nat
  tick : Nat
  /-- FID to (label, HID, in service). -/
  facets : Tab (Option (Nat × Nat × Bool))
  deriving DecidableEq, Repr

/-- The working copy between two ticks (R156). -/
structure TopoWork where
  batch : Option TopoBatch
  /-- First states of edges that the batch defines: (edge, state, NS32). -/
  fresh : List (Nat × Nat × Nat)
  facets : Tab (Option (Nat × Nat × Bool))
  merges : Nat
  splits : Nat
  deriving DecidableEq, Repr

/-- An aggregation pass that is running: tref, the rows' results by facet and hull (R159). -/
structure AggPass where
  tref : Nat
  facets : List (Nat × List Nat)
  hulls : List (Nat × List Nat)
  deriving DecidableEq, Repr

/-- TOPO (R146-R166). -/
structure Topo where
  hulls : Tab Hull := []
  /-- Row maps 1-15 of the image: code of each position (R147). -/
  rowMaps : Tab (Option (List Nat)) := []
  /-- A batch accepted and not yet gathered. -/
  batch : Option TopoBatch := none
  work : Option TopoWork := none
  /-- An edge changed state, or an edit was gathered, since the working copy was last built. -/
  dirty : Bool := false
  /-- Edges that ESET has defined or replaced and that no tick has evaluated. -/
  edges : List Nat := []
  /-- Generations held, latest first, at most 256. -/
  gens : List Generation := []
  agg : Option AggPass := none
  deriving DecidableEq, Repr

/-! ### Detectors -/

/-- A parameter bank of DET or MODAL (R183, R205): parameter registers by address, table entries by table * 2^20 + index. -/
structure Bank where
  params : Tab Word := []
  entries : Tab (List Nat) := []
  deriving DecidableEq, Repr

/-- A usable stream in a run (R167): its vertex, facet, FREQ, DFREQ and, if it is angle-usable, angle in degrees and magnitude of its
voltage phasor; binary32 bits. `delta` and `d` are those of R169. -/
structure Usable where
  vid : Nat
  fid : Nat
  freq : Nat
  dfreq : Nat
  angle : Option (Nat × Nat)
  delta : Option Nat := none
  d : Option Nat := none
  deriving DecidableEq, Repr

/-- COHERE's results for one hull (R169, R170): its streams, its groups as (leader, members), the leader of main(H). -/
structure HullRun where
  hid : Nat
  streams : List Usable
  groups : List (Nat × List Nat)
  main : Option Nat
  deriving DecidableEq, Repr

/-- A release that detector runs work on. -/
structure DetRun where
  sc : Nat
  prov : Bool
  bank : Nat
  time : Nat
  snap : Snapshot
  takeover : Bool := false
  cohere : Option (List HullRun) := none
  deriving DecidableEq, Repr

/-- A raise or a clear (R178): `det` 1 ISLAND, 2 STEP, 3 SEP; `attrs` are ATTR0-ATTR4. -/
structure Verdict where
  det : Nat
  subject : Nat
  active : Bool
  cause : Nat
  restep : Bool
  alc : Nat
  attrs : List Nat
  deriving DecidableEq, Repr

/-- What a detector keeps of a subject (R175-R177): active flag, the class it is judged on, and its counts of consecutive final runs. -/
structure SubjState where
  active : Bool := false
  sc : Nat := 0
  alc : Nat := 0
  ev : Nat := 0
  quiet : Nat := 0
  nodata : Nat := 0
  deriving DecidableEq, Repr

/-- A provisional raise waiting for its final comparison (R135). -/
structure ProvRaise where
  sc : Nat
  seq : Nat
  verdict : Verdict
  /-- Bank, epoch, release time, COVER and level of the provisional run. -/
  bank : Nat
  epoch : Nat
  time : Nat
  cover : Nat
  level : Nat
  deriving DecidableEq, Repr

/-- A final release of COHERE: its SEQ and delta by VID (R169). -/
structure SeqDeltas where
  seq : Nat
  ds : List (Nat × Nat)
  deriving DecidableEq, Repr

/-- Angle, FREQ and magnitude of an angle-usable stream (R176). -/
structure AngRec where
  vid : Nat
  angle : Nat
  freq : Nat
  mag : Nat
  deriving DecidableEq, Repr

/-- The angle-usable streams of a final release (R176). -/
structure StepPrev where
  seq : Nat
  us : List AngRec
  deriving DecidableEq, Repr

/-- A facet's counts of an aggregation pass (R173). -/
structure FacetCount where
  fid : Nat
  ntrip : Nat
  nfresh : Nat
  naged : Nat
  deriving DecidableEq, Repr

/-- An aggregation pass by its tref (R173). -/
structure PassCounts where
  tref : Nat
  facets : List FacetCount
  deriving DecidableEq, Repr

/-- DET (R167-R184). -/
structure Det where
  bankA : Bank := {}
  bankB : Bank := {}
  /-- Writes that wait for the end of a bank copy (R183). -/
  held : List BankWrite := []
  runs : List DetRun := []
  /-- Per class, latest final release first, at most 16 (R169). -/
  deltas : Tab (List SeqDeltas) := []
  /-- Per class: the previous final release (R176). -/
  steps : Tab (Option StepPrev) := []
  /-- Per pair: SEQ and sep of the latest final release that evaluated it (R177). -/
  seps : Tab (Option (Nat × Nat)) := []
  /-- Subjects' state, by detector * 2^20 + subject. -/
  subjects : Tab SubjState := []
  raises : List ProvRaise := []
  /-- The latest four passes, latest first (R173). -/
  passes : List PassCounts := []
  /-- Verdict records written so far to the ring, at most 65 536 (R179). -/
  written : Nat := 0
  /-- Per class: the records that the final run of the latest SEQ wrote, with UNIT_ID, EPOCH and READY 0 (R362). -/
  vrecs : Tab (List Byte) := []
  deriving DecidableEq, Repr

/-! ### Oscillation analysis -/

/-- A valid input sample of a channel in a band (R186): its index on the class grid, the signal, and the signal unwrapped. -/
structure ModSample where
  idx : Nat
  x : Nat
  a : Nat
  deriving DecidableEq, Repr

/-- An envelope value (R197): its band sample number, none where it touches an invalid one. -/
structure ModEnv where
  k : Nat
  e : Option Nat
  deriving DecidableEq, Repr

/-- A modal channel in one band: valid samples and envelopes, latest first. -/
structure ModChan where
  samples : List ModSample := []
  envs : List ModEnv := []
  deriving DecidableEq, Repr

/-- A matched update of a track, as R193 looks back on it. -/
structure ModMatch where
  freq : Nat
  damp : Nat
  deriving DecidableEq, Repr

/-- A track slot in use (R192); `hist` holds its matched updates, latest first, at most 15. -/
structure Track where
  freq : Nat
  damp : Nat
  amp : Nat
  top : Nat
  miss : Nat
  age : Nat
  hist : List ModMatch
  deriving DecidableEq, Repr

/-- An alarm state of (group, band, kind) (R194, R198): the class it is judged on and its counts. -/
structure ModAlarm where
  active : Bool := false
  sc : Nat := 0
  alc : Nat := 0
  hit : Nat := 0
  quiet : Nat := 0
  nodata : Nat := 0
  deriving DecidableEq, Repr

/-- The window of an entering channel: band samples, oldest first. -/
structure ModCol where
  chan : Nat
  vals : List (Option Nat)
  deriving DecidableEq, Repr

/-- An update that is running (R190), with its windows and how many channels are left out; `base` holds the baselines of its 16 bins as it found them. -/
structure ModRun where
  group : Nat
  band : Nat
  sc : Nat
  u : Nat
  bank : Nat
  inst : Nat
  relAt : Nat
  cols : List ModCol
  left : Nat
  base : List (Nat × Nat)
  /-- Bins whose baseline the host has written since. -/
  wrote : List Nat := []
  deriving DecidableEq, Repr

/-- A growth hit whose verdict is not ready yet (R198). -/
structure ModGrow where
  group : Nat
  band : Nat
  sc : Nat
  chan : Nat
  bank : Nat
  inst : Nat
  k : Nat
  e : Nat
  e0 : Nat
  gth : Nat
  deriving DecidableEq, Repr

/-- MODAL (R185-R206). -/
structure Modal where
  bankA : Bank := {}
  bankB : Bank := {}
  held : List BankWrite := []
  /-- Channel by band, at channel * 4 + band. -/
  chans : Tab ModChan := []
  /-- Track slots, at (group * 4 + band) * 8 + slot. -/
  tracks : Tab (Option Track) := []
  /-- Alarm states, at (group * 4 + band) * 4 + kind - 1. -/
  alarms : Tab ModAlarm := []
  /-- Baselines and learned counts, at group * 64 + band * 16 + bin. -/
  base : Tab (Nat × Nat) := []
  /-- Instant of the latest final release, per class. -/
  lastInst : Tab (Option Nat) := []
  runs : List ModRun := []
  grows : List ModGrow := []
  /-- Whether a growth channel of (group, band) reached GTH since its latest update. -/
  grown : Tab Bool := []
  /-- Releases (class, instant) that have written verdict records not yet announced. -/
  wrote : List (Nat × Nat) := []
  /-- Reports and verdict records written so far to their rings, up to the rings' sizes. -/
  reports : Nat := 0
  written : Nat := 0
  deriving DecidableEq, Repr

/-! ### Alarm channels -/

/-- A contribution (R207): its kind code and subject, the verdict it came from, the provisional mark, the time it was counted and
whether a driver switched or was driven for it. -/
structure Contrib where
  kind : Nat
  subject : Nat
  sc : Nat := 0
  seq : Nat := 0
  takeover : Bool := false
  prov : Bool := false
  since : Nat := 0
  drove : Bool := false
  /-- Made by a provisional run in SHADOW and not confirmed: left out of the pin count (R365). -/
  noPin : Bool := false
  deriving DecidableEq, Repr

/-- A retracted contribution in the pin count until H_end (R208). -/
structure HeldContrib where
  kind : Nat
  subject : Nat
  hend : Nat
  deriving DecidableEq, Repr

/-- One channel. -/
structure AlmChan where
  /-- The latch was set by contributions that are left out of the pin count (R365). -/
  shy : Bool := false
  /-- Subjects raised on the channel and lanes asserted on it. -/
  subs : List Contrib := []
  held : List HeldContrib := []
  active : Bool := false
  pinact : Bool := false
  latched : Bool := false
  acked : Bool := false
  provonly : Bool := false
  /-- The latest change was a retraction (R218). -/
  retr : Bool := false
  /-- (kind, subject) counted at the latest evaluation. -/
  counted : List (Nat × Nat) := []
  /-- A contribution counted since the latch was set ended without a retraction (R210). -/
  kept : Bool := false
  /-- The latest H_end of those retracted since the latch was set, and until when pins read the released latch. -/
  lastHend : Nat := 0
  pinUntil : Option Nat := none
  deriving DecidableEq, Repr

/-- A pin: active, when its driver began to switch, at its current limit. -/
structure AlmPin where
  active : Bool := false
  since : Option Nat := none
  ovld : Bool := false
  deriving DecidableEq, Repr

/-- Settings of a GOOSE publication (Table 10-3) with a valid template, and where its sequence stands (R219). -/
structure Gpub where
  appid : Nat
  dst : Nat
  vlan : Nat
  pcp : Nat
  gocbRef : List Byte
  datSet : List Byte
  goID : List Byte
  confRev : Nat
  /-- Bit n: ETHn. -/
  ports : Nat
  members : List Nat
  /-- (ACTIVE, PROV, RETR) of each member in the latest frame. -/
  last : List (Bool × Bool × Bool) := []
  changed : Nat := 0
  /-- TAI ns of the next repeat, and the interval to it in ms. -/
  next : Option Nat := none
  gap : Nat := 0
  deriving DecidableEq, Repr

/-- A notice entry (R221): EVENT, its bits, kind, class, SEQ, subject, count, and the time of the change. -/
structure Notice where
  alc : Nat
  event : Nat
  prov : Bool
  latched : Bool
  acked : Bool
  takeover : Bool
  kind : Nat
  sc : Nat
  seq : Nat
  subject : Nat
  count : Nat
  time : Nat
  deriving DecidableEq, Repr

/-- ALM (R207-R227). -/
structure Alm where
  chans : Tab AlmChan := []
  pins : Tab AlmPin := []
  pubs : Tab (Option Gpub) := []
  /-- Debounced inputs, bit m of DINm. -/
  din : Nat := 0
  /-- Notice entries of the present moment, not yet sent. -/
  notes : List Notice := []
  /-- TAI ns at which the latest notice was sent. -/
  noticeAt : Nat := 0
  deriving DecidableEq, Repr

end Sys2Proof.Machine
end

