-- ==== Sys2Proof/Machine/StateMeasure.lean ====
section
/-!
DEFINITION. The state of the front end, the filter chain, metering, capture and the lattice, beside their registers.
-/
namespace Sys2Proof.Machine

/-! ### Front end -/

/-- A conversion that runs (R236-R239): its sequence and entry, channel, range, and the stamp of its start in 1/128 ns of TAI. -/
structure AuxConv where
  inj : Bool
  entry : Nat
  chan : Nat
  range : Nat
  start : Nat
  deriving DecidableEq, Repr

/-- A trim reload (R242): whether its copy has begun, and the tag of its command. -/
structure TrimJob where
  copying : Bool
  tag : Option Nat
  deriving DecidableEq, Repr

/-- AFE (R228-R244). -/
structure Afe where
  modLock : Bool := false
  /-- Whether the device has been powered up far enough to clock the modulators. -/
  clocked : Bool := false
  /-- Channels whose modulator restarts, and channels in overload, as masks. -/
  settle : Nat := 0
  ovl : Nat := 0
  conv : Option AuxConv := none
  /-- Next entry of the regular sequence while it runs; RSTOP has been asked; a start is held behind the injected sequence. -/
  regNext : Option Nat := none
  regStop : Bool := false
  regHeld : Bool := false
  /-- Next entry of the injected sequence while it runs; it is pending. -/
  injNext : Option Nat := none
  injPend : Bool := false
  trim : Option TrimJob := none
  trimSeq : Nat := 0
  /-- Triggers held during a trim copy: true for an injected one. -/
  held : List Bool := []
  /-- Start stamp of the result in AUXDATA, and the stamps latched per requester. -/
  stamp : Nat := 0
  latches : Tab Nat := []
  deriving DecidableEq, Repr

/-! ### Filter chain -/

/-- A CIC output and whether its span holds a SETTLING bit. -/
structure CicWord where
  x : Int
  settle : Bool
  deriving DecidableEq, Repr

/-- A FIR output after trim, tap 0: the time it represents in 2^-16 ns of TAI, value, flags, FIR bank. -/
structure FirOut where
  tau : Nat
  x : Int
  settle : Bool
  sat : Bool
  bank : Nat
  deriving DecidableEq, Repr

/-- A resampler output, tap 1: TAI second and number in it, instant in 2^-16 ns, value, flags. -/
structure Tap1 where
  sec : Nat
  n : Nat
  inst : Nat
  x : Int
  settle : Bool
  sat : Bool
  deriving DecidableEq, Repr

/-- A detector span being gathered (R257): its number, sum of squares, samples, extremes, SETTLE and SAT seen. -/
structure DetSpan where
  id : Nat
  sum : Nat
  n : Nat
  hi : Int
  lo : Int
  settle : Bool
  sat : Bool
  deriving DecidableEq, Repr

/-- The chain of one channel (R245-R257). -/
structure FltChan where
  /-- The polarity that the alternating bit-stream has next (R230). -/
  alt : Bool := true
  /-- Bits delivered since the latest one with SETTLING. -/
  clean : Nat := 0
  /-- CIC integrators and combs, modulo 2^80, and the decimation counters. -/
  integ : List Nat := [0, 0, 0, 0, 0]
  combs : List Nat := [0, 0, 0, 0, 0]
  cicCnt : Nat := 0
  firCnt : Nat := 0
  /-- CIC outputs, FIR outputs and tap-1 samples held, latest first. -/
  cic : List CicWord := []
  outs : List FirOut := []
  samples : List Tap1 := []
  /-- The next output instant: TAI second and number in it. -/
  next : Option (Nat × Nat) := none
  /-- Every output completed before this stamp (1/128 ns of TAI) carries SETTLE (R256, R263). -/
  settleUntil : Nat := 0
  settleNow : Bool := false
  spanBad : Bool := false
  cycle : Option DetSpan := none
  agg : Option DetSpan := none
  /-- The latest items of tap 0 and tap 1 (Table 12-2). -/
  item0 : List Byte := []
  item1 : List Byte := []
  deriving DecidableEq, Repr

/-- A privileged lane (R258-R260): asserted, and the consecutive values that count towards its next change. -/
structure Lane where
  on : Bool := false
  count : Nat := 0
  deriving DecidableEq, Repr

/-- FLT (R245-R264). -/
structure Flt where
  chans : Tab FltChan := []
  lanes : Tab Lane := []
  /-- Coefficients, at (bank * 16 + table * 8 + channel) * 4096 + index. -/
  coefs : Tab Nat := []
  abank : Nat := 0
  swapPend : Bool := false
  /-- The instant of the latest swap's boundary, in 2^-16 ns of TAI (R255). -/
  boundary : Nat := 0
  /-- MOD stamp of the latest synchronisation (R256). -/
  lastSync : Option Nat := none
  /-- Local phasor frames are being made (R262). -/
  phRun : Bool := false
  deriving DecidableEq, Repr

/-! ### Metering -/

/-- Sums over the cycles of an aggregate so far (Table 13-7), binary64. -/
structure MtrAgg where
  n : Nat := 0
  v : Nat := 0
  i : Nat := 0
  p : Nat := 0
  p1 : Nat := 0
  q1 : Nat := 0
  s : Nat := 0
  deriving DecidableEq, Repr

/-- A pulse output (R275, R276): the residual times PULSECONST in 2^-32 units, the backlog, TAI ns at which the pulse that runs began, and
that of the latest one. -/
structure PulseOut where
  res : Nat := 0
  backlog : Nat := 0
  on : Option Nat := none
  last : Option Nat := none
  deriving DecidableEq, Repr

/-- A span that is not registered (R273): mode code, TEST, POWERLOSS. -/
structure MtrGap where
  mode : Nat
  test : Bool
  ploss : Bool
  deriving DecidableEq, Repr

/-- A calibration register's old value, in force for cycles before `cyc` (R283). -/
structure MtrOld where
  addr : Nat
  cyc : Nat
  val : Nat
  deriving DecidableEq, Repr

/-- A save on its way (R278): the cycle it waits for, or the image being written, its number, slot, start in TAI ns, and whether it goes
to the cartridge. -/
inductive MtrSave where
  | wait (cyc : Nat)
  | write (image : List Byte) (seq slot start : Nat) (cart : Bool)
  deriving DecidableEq, Repr

/-- MTR (R265-R284). -/
structure Mtr where
  /-- The chains are suitable, as found on leaving CONFIGURE (R266). -/
  suited : Bool := false
  /-- Accumulators at 8 q + 2 p + d, in 2^-32 units (R270). -/
  acc : Tab Nat := []
  est : Nat := 0
  /-- Active energy of each element's latest registered cycle, magnitude in 2^-32 µWh (R271). -/
  lastE : Tab Nat := []
  /-- The latest cycle processed, and the latest registered with the TAI ns of its end. -/
  lastK : Option Nat := none
  cyc : Nat := 0
  cycEnd : Option Nat := none
  /-- A TB step has moved the cycle grid since. -/
  stepped : Bool := false
  /-- Sign of the latest e_T that was not 0: true for export. -/
  sign : Option Bool := none
  gap : Option MtrGap := none
  old : List MtrOld := []
  aggs : Tab MtrAgg := []
  pulses : Tab PulseOut := []
  save : Option MtrSave := none
  lastSlot : Nat := 0
  /-- Per requester: CYC, ESTLOST and the accumulators as latched (R272). -/
  latches : Tab (List Nat) := []
  deriving DecidableEq, Repr

/-! ### Capture -/

/-- Buffer states (Table 14-3). -/
inductive CapState where
  | idle | armed | post | stopped | archiving
  deriving DecidableEq, Repr

/-- A sample that waits for the other channels of its frame: its instant in 2^-16 ns of TAI, value, SETTLE, SAT, mask violation. -/
structure CapSample where
  inst : Nat
  val : Int
  settle : Bool
  sat : Bool
  viol : Bool
  deriving DecidableEq, Repr

/-- One channel of an interval being reduced (R288). -/
structure CapAcc1 where
  lo : Int
  hi : Int
  sum : Int
  deriving DecidableEq, Repr

/-- An interval being reduced: the instant of its first sample, samples so far, the channels, and the flag word so far. -/
structure CapAcc where
  inst : Nat
  count : Nat
  chans : List CapAcc1
  flags : Nat
  deriving DecidableEq, Repr

/-- A mark (R293): trigger time in 1/128 ns of TAI, source code, whether it is the primary, whether it restarted the count, and its
frame counted from arming, once fixed. -/
structure CapMark where
  time : Nat
  src : Nat
  primary : Bool
  restart : Bool
  frame : Option Nat := none
  deriving DecidableEq, Repr

/-- One capture buffer (R285-R296). Frames themselves are in device memory. -/
structure CapBuf where
  state : CapState := .idle
  rkind : Nat := 0
  /-- SYS.MODE code at arming. -/
  mode : Nat := 0
  modex : Bool := false
  tstep : Bool := false
  gap : Bool := false
  settle : Bool := false
  sat : Bool := false
  /-- Samples of each channel that wait, by position in the frame. -/
  queues : Tab (List CapSample) := []
  acc : Option CapAcc := none
  /-- Frames stored since arming, and the instants of those held, latest first. -/
  total : Nat := 0
  insts : List Nat := []
  marks : List CapMark := []
  trigOff : Nat := 0
  clip : Bool := false
  restarts : Nat := 0
  /-- The frame from which POST frames are counted; the trigger time that fixes it, until it is fixed. -/
  base : Option Nat := none
  baseAt : Option Nat := none
  cause : Nat := 0
  extcut : Bool := false
  /-- Released by CAP_READ while the archive write runs. -/
  relAtEnd : Bool := false
  deriving DecidableEq, Repr

/-- A trigger on its way to CAP (R290): source code, alarm channel for code 9, time in 1/128 ns of TAI, crossing count, and the buffers
that have not taken it yet, as a mask. -/
structure CapTrig where
  code : Nat
  sub : Nat
  time : Nat
  count : Nat
  bufs : Nat
  deriving DecidableEq, Repr

/-- CAP (R285-R302). -/
structure Cap where
  bufs : Tab CapBuf := []
  trigs : List CapTrig := []
  /-- Mask words, at buffer * 512 + table * 256 + point. -/
  mask : Tab Nat := []
  deriving DecidableEq, Repr

/-! ### Lattice -/

/-- A tile in use (R313): kernel, instance, bytes of SRAM used, whether it has stopped on a fault. -/
structure Tile where
  kernel : Nat
  inst : Nat
  sram : Nat
  fault : Bool := false
  deriving DecidableEq, Repr

/-- A connection (R306, R313): source and destination endpoint, and whether the destination is a control input. -/
structure Conn where
  src : Nat
  dst : Nat
  ctrl : Bool
  deriving DecidableEq, Repr

/-- A CTRL item in the holding register of a queue (R309). -/
structure CtlHold where
  chan : Nat
  time : Nat
  frac : Nat
  late : Bool
  count : Nat
  deriving DecidableEq, Repr

/-- An image load that runs (R317): its command's tag, the image as copied (none where the source holds none), and the record whose
read-back will disagree. -/
structure LoadJob where
  tag : Nat
  image : Option (List Byte)
  mismatch : Option Nat
  deriving DecidableEq, Repr

/-- LAT (R303-R322). -/
structure Lat where
  loaded : Bool := false
  job : Option LoadJob := none
  fmtver : Nat := 0
  /-- STREAMS of the TABLE record of the loaded image (R313). -/
  streamsCap : Nat := 0
  tiles : Tab (Option Tile) := []
  conns : List Conn := []
  /-- Items of each input queue, oldest first, and its holding register, at tile index * 4 + queue. -/
  queues : Tab (List Nat) := []
  holds : Tab (Option CtlHold) := []
  /-- The active bank, 0 A, 1 B; whether a swap is pending, since when, the classes that have changed, and for a swap that the Active
  carried the SEQ at which each class changes (R320). -/
  abank : Nat := 0
  swapPend : Bool := false
  swapAt : Nat := 0
  swapDone : Nat := 0
  swapSeqs : List (Nat × Nat) := []
  /-- Kernels that change banks at their own boundaries: those that have yet to (R320). -/
  late : List Nat := []
  /-- A tile that runs MTRX has stopped by its own fault since the image load (R273, R321). -/
  mtrFault : Bool := false
  deriving DecidableEq, Repr

end Sys2Proof.Machine
end

