-- ==== Sys2Proof/Machine/StateNet.lean ====
section
/-!
DEFINITION. The state of the network ports and of the ingest block, beside their registers.
-/
namespace Sys2Proof.Machine

/-- A received frame in a port's buffer: its class, VLAN ID and PCP if tagged, the bytes with the tag stripped, its length in
the buffer, and its receive stamp (R34-R36, R46). -/
structure RxFrame where
  high : Bool
  tag : Option (Nat × Nat)
  bytes : List Byte
  len : Nat
  ns : Nat
  frac : Nat
  deriving DecidableEq, Repr

/-- A frame being sent: its queue (0 EA, 1 EB, 2-5 Q0-Q3) and the data bytes sent of it. -/
structure TxProg where
  queue : Nat
  frame : TxFrame
  sent : Nat
  deriving DecidableEq, Repr

/-- A transmit stamp (R48). -/
structure TxStamp where
  ns32 : Nat
  frac : Nat
  seqId : Nat
  msgType : Nat
  deriving DecidableEq, Repr

/-- One port (R29-R50). -/
structure EthPort where
  link : Bool := false
  /-- Frames complete in the receive buffer, oldest first. -/
  rx : List RxFrame := []
  ea : List TxFrame := []
  eb : List TxFrame := []
  /-- Queues Q0-Q3. -/
  q : Tab (List TxFrame) := []
  inProg : Option TxProg := none
  /-- The preemptable frame that an express frame has cut (R41). -/
  held : Option TxProg := none
  stamps : List TxStamp := []
  active : Bool := false
  vstate : Nat := 0
  verifySent : Nat := 0
  verifyAt : Nat := 0
  /-- Frames sent, oldest first. -/
  out : List TxFrame := []
  deriving DecidableEq, Repr

/-- ETH. -/
structure Eth where
  ports : Tab EthPort := []
  deriving DecidableEq, Repr

/-! ### Ingest -/

/-- A registry entry in use (Table 03-8): its eight words without VALID and REPLACE. -/
structure RegEntry where
  vid : Nat
  sc : Nat
  fmt : Nat
  authReq : Bool
  addrChk : Bool
  paused : Bool
  keySlot : Nat
  keySlot2 : Nat
  k2Valid : Bool
  svidLen : Nat
  srcId : Nat
  udpPort : Nat
  desc : Nat
  /-- The 16 address octets as a big-endian number. -/
  addr : Nat
  deriving DecidableEq, Repr

/-- A SOURCE_REMOVE whose frames may still be in the parsers (R76). -/
structure Removal where
  tag : Nat
  vids : List Nat
  deriving DecidableEq, Repr

/-- An IP datagram whose fragments are being collected (R54). -/
structure FragSet where
  src : Nat
  ident : Nat
  /-- TAI ns of the first fragment received. -/
  first : Nat
  /-- (byte offset, payload bytes). -/
  parts : List (Nat × List Byte)
  /-- Length of the whole payload, once the last fragment is in. -/
  total : Option Nat
  deriving DecidableEq, Repr

/-- ING (R51-R77). -/
structure Ing where
  /-- The hashed table of stream entries, by slot 0-32767 (R75). -/
  streams : Tab (Option RegEntry) := []
  /-- Telemetry entries by VID. -/
  telem : Tab (Option RegEntry) := []
  /-- The last accepted SEQ of a telemetry entry, none since it was added (R67). -/
  lastSeq : Tab (Option Nat) := []
  /-- Installed format descriptors by index (R472). -/
  descs : Tab (Option Desc) := []
  removals : List Removal := []
  frags : List FragSet := []
  /-- C37.118.2 command frames sent (Table 03-1): the stream and the CMD word, oldest first. -/
  cmds : List (StreamId × Nat) := []
  deriving DecidableEq, Repr

end Sys2Proof.Machine
end

