-- ==== Sys2Proof/Machine/StatePlatform.lean ====
section
/-!
DEFINITION. The state of the platform blocks: modes and power, cores, dispatcher, event controller, redundancy, ledger, keys,
update and host interface. Registers that only hold a value are not here: they are in the register file of State.
-/
namespace Sys2Proof.Machine

/-- The twelve modes of Table 21-1. -/
inductive Mode where
  | boot | configure | settle | serve | shadow | referee | holdover | test | trial | quiesce | dormant | lockout
  deriving DecidableEq, Repr

/-- Causes of a reset (Table 21-4). -/
inductive ResetCause where
  | por | pin | sw | wdog | trial | perst
  deriving DecidableEq, Repr

/-- SYS: modes, power and start-up (R422-R436). -/
structure Sys where
  mode : Mode := .boot
  prev : Mode := .boot
  /-- The mode being entered while SYS.MODE.TRANS is 1. -/
  trans : Option Mode := none
  /-- TAI ns at which SETTLE was entered (R427). -/
  settleSince : Nat := 0
  /-- TAI ns at which SETTLE was left with no Active partner known (R428). -/
  settleLeft : Option Nat := none
  /-- The tag of a MODE_SET that has not completed (R424, R431). -/
  modeTag : Option Nat := none
  /-- The mode left for HOLDOVER (R424). -/
  holdoverFrom : Mode := .serve
  /-- The mode from which DORMANT was entered (R433). -/
  dormantFrom : Mode := .quiesce
  /-- Whether boot steps 3 and 4 are done: the other blocks answer, commands are taken (R430, R445). -/
  blocksUp : Bool := false
  /-- Writes to AON-held registers that have not arrived (R19), each register at most once. -/
  aonPend : List (AonReg × Nat) := []
  /-- What the AON logic itself holds. -/
  aonPwrreq : Nat := 0x300
  aonAlmLo : Nat := 0xFFFFFFFF
  aonAlmHi : Nat := 0xFFFF
  aonWdog : Nat := 0xA
  /-- The 32.768 kHz AON count (R436). -/
  aonCnt : Nat := 0
  /-- TAI ns at which the watchdog was last reloaded, moved on by the time spent in DORMANT; TAI ns at which DORMANT was entered. -/
  wdogFrom : Nat := 0
  dormantAt : Nat := 0
  /-- TAI ns at which the entry window to DORMANT opened (R431). -/
  windowFrom : Option Nat := none
  /-- The latch of the clockless address matcher (R432). -/
  i2cLatch : Bool := false
  /-- WAKE_N is low; it has been low since the entry window opened; AONCNT has reached AONALM since then (R432). -/
  wakeNLow : Bool := false
  wakeNHeld : Bool := false
  aonAlarmHit : Bool := false
  /-- Edge sources 0x240-0x245 latched while the NOC clock was stopped (R341). -/
  edgeLatches : List Nat := []
  /-- Accesses the completer answered in DORMANT: their count, the latest address, requester and direction (R431). -/
  dormantAccesses : Nat := 0
  dormantLast : Option (Nat × Nat × Bool) := none
  /-- Usable LPDDR5X bytes (R13). -/
  usable : Nat := 0
  /-- The latest reset was ordered, after a metering save (R280). -/
  inOrder : Bool := false
  /-- Double-bit errors met (R14). -/
  doubleErrs : Nat := 0
  deriving DecidableEq, Repr

/-- One HX64 core as the rest of the device sees it (R323-R328). -/
structure Core where
  pwrmode : Nat := 0x18
  imask : Nat := 0
  vbase : Nat := 0
  /-- The PWRMODE under which the core waits, none while it runs. -/
  waiting : Option Nat := none
  /-- The latest exception taken: its code and the address its handler starts at. -/
  excCode : Nat := 0
  excVector : Nat := 0
  /-- The refused or failing access its handler finds: the address and whether it was a write. -/
  excAddr : Nat := 0
  excWrite : Bool := false
  /-- Exceptions taken so far. -/
  excCount : Nat := 0
  /-- The dispatcher's preempt line (R332). -/
  preempt : Bool := false
  /-- No task was found at the core's latest NEXT (R331). -/
  idle : Bool := true
  deriving DecidableEq, Repr

/-- Task states (Table 16-3). -/
inductive TaskState where
  | idle | ready | delayed | running
  deriving DecidableEq, Repr

/-- A task descriptor (Table 16-8). -/
structure Task where
  entryLo : Nat := 0
  /-- ENTRYHI, PRIO, FLOW and FLOWEN as DVAL1 holds them. -/
  dval1 : Nat := 0x1F00
  cores : Nat := 0
  arg : Nat := 0
  state : TaskState := .idle
  rerun : Bool := false
  deriving DecidableEq, Repr

/-- The dispatcher (R329-R334). -/
structure Tsk where
  tasks : Tab Task := []
  /-- READY tasks of each priority level, in queue order. -/
  levels : Tab (List Nat) := []
  /-- The delay list: (task, expiry), in the order the DELAYs were taken. -/
  delays : List (Nat × Nat) := []
  /-- The task each core runs. -/
  runs : Tab (Option Nat) := []
  /-- NEXTENTLO, NEXTENTHI, NEXTARG latched per requester. -/
  nextLatch : Tab (Nat × Nat × Nat) := []
  tick : Nat := 0
  deriving DecidableEq, Repr

/-- An event record (Table 16-5) before its SEQ is known. -/
structure EvcRec where
  src : Nat
  prio : Nat
  level : Bool := false
  latched : Bool := false
  rerouted : Bool := false
  repost : Bool := false
  count : Nat := 1
  time : Nat := 0
  info : Nat := 0
  deriving DecidableEq, Repr

/-- A record in a target's ring. -/
structure RingRec where
  slot : Nat
  src : Nat
  prio : Nat
  level : Bool
  claimed : Bool := false
  completed : Bool := false
  deriving DecidableEq, Repr

/-- One event target (R336-R342). -/
structure EvcTarget where
  pend : List EvcRec := []
  /-- Records in the ring, oldest first. -/
  ring : List RingRec := []
  head : Nat := 0
  seq : Nat := 0
  /-- The priority stack, latest claim first: (ring index, PRIO). -/
  stack : List (Nat × Nat) := []
  frozen : Bool := false
  /-- TAI ns since when the target is asleep with records pending. -/
  asleepFrom : Option Nat := none
  /-- Whether its interrupt condition held when last looked at. -/
  irq : Bool := false
  deriving DecidableEq, Repr

/-- The event controller (R335-R344). -/
structure Evc where
  /-- SRCCFG of each source, as the register shows it without KIND. -/
  srccfg : Tab Nat := []
  levels : Tab Bool := []
  targets : Tab EvcTarget := []
  /-- TAI ns at which CTL.EN was last cleared: the reroute timers stand from then on (R470). -/
  stopFrom : Nat := 0
  deriving DecidableEq, Repr

/-- Roles of Table 17-4. -/
inductive Role where
  | solo | active | standby | referee
  deriving DecidableEq, Repr

/-- A message handed to a Chord lane pair or to a referee link: its destination link, type and body words. -/
structure ChdMsg where
  toReferee : Bool := false
  unitPort : Nat := 0
  type : Nat
  epoch : Nat
  /-- MSGNUM (Table 17-2). -/
  num : Nat := 0
  words : List Nat
  body : List Byte := []
  /-- The content of a DELTA, and of a STATE. -/
  delta : Option DeltaBody := none
  items : List StateItem := []
  deriving DecidableEq, Repr

/-- What a receiver knows of one peer. -/
structure Peer where
  heard : Option Nat := none
  unitId : Nat := 0
  mode : Nat := 0
  role : Nat := 0
  home : Bool := false
  synced : Bool := false
  fenced : Bool := false
  age : Nat := 0
  hbTime : Option Nat := none
  deltaSeq : Nat := 0
  epoch : Nat := 0
  paired : Bool := false
  deriving DecidableEq, Repr

/-- A digest the Standby holds and has not yet met (R359, R360). -/
structure DigestWait where
  body : DigestBody
  prov : Bool
  asked : List Nat := []
  askedAt : Nat := 0
  deriving DecidableEq, Repr

/-- CHD: redundancy (R345-R371). -/
structure Chd where
  role : Role := .solo
  synced : Bool := false
  fenced : Bool := false
  deposed : Bool := false
  lanes : Nat := 0
  version : Nat := 0
  imageMis : Bool := false
  noCommon : Bool := false
  partner : Peer := {}
  ref : Peer := {}
  /-- A referee's two units. -/
  units : Tab Peer := []
  /-- Latest MSGNUM taken, per link (0 Chord, 1 referee, 2 and 3 a referee's units). -/
  lastNum : Tab (Option Nat) := []
  txNum : Tab Nat := []
  /-- Messages sent, oldest first. -/
  tx : List ChdMsg := []
  /-- The handover instant of a pending switchover (R366), and the tag of the command that asked. -/
  handover : Option Nat := none
  switchTag : Option (Nat × Nat) := none
  /-- SYNCDONE's first SEQ per class, and whether that class's first matching DIGEST has come, until all have (R363). -/
  syncSeqs : List (Nat × Nat × Bool) := []
  /-- The latest handover instant that a SYNCED pair passed (R366). -/
  handedOver : Option Nat := none
  digests : List DigestWait := []
  /-- Staged deltas that name a later SEQ, tick or pass. -/
  staged : List DeltaBody := []
  deltaSeq : Nat := 0
  /-- Whether a state transfer has been received (R386, PEER). -/
  hadTransfer : Bool := false
  peerSettings : List Byte := []
  /-- TAI ns of the latest valid message from partner or referee (R355). -/
  validAt : Nat := 0
  /-- The Standby has echoed the pending SWITCH (R366). -/
  echoed : Bool := false
  /-- TAI ns of the latest HELLO sent on Chord and to the referee (R349). -/
  helloAt : Nat := 0
  /-- A referee's view: the port of the Active, NOPROMO (R353). -/
  actPort : Option Nat := none
  noPromo : Bool := false
  deriving DecidableEq, Repr

/-- Cartridge states (Table 18-4). -/
inductive CState where
  | absent | attaching | active | ejecting | ejected
  deriving DecidableEq, Repr

/-- A record staged in the journal buffer and not yet committed (R378-R381). -/
structure StagedRec where
  seq : Nat
  type : Nat
  key : List Byte
  time : Nat
  rep : Nat
  backref : Bool
  payload : List Byte
  /-- Offset of the record in the whole journal byte stream. -/
  start : Nat
  deriving DecidableEq, Repr

/-- LDG: the ledger (R372-R391). -/
structure Ldg where
  cstate : CState := .absent
  lcPwr : Bool := false
  ident : Option CartIdent := none
  /-- Content of the cartridge attached. -/
  cart : Mem := []
  present : Bool := false
  silent : Nat := 0
  /-- Bytes committed that the wear counter has not counted yet, and the wear counter (R372). -/
  wearRem : Nat := 0
  wear : Nat := 0
  worn : Bool := false
  /-- Stream position of the first byte not yet committed, and of the end of what is staged. -/
  committed : Nat := 0
  staged : List StagedRec := []
  stagedEnd : Nat := 0
  /-- TAI ns at which the first byte of the page being filled was staged (R380). -/
  pageFrom : Option Nat := none
  jseq : Nat := 0
  nextPage : Nat := 0
  /-- Committed records by key, for the look-back of R381: (key, SEQ, TIME), latest first. -/
  done : List (List Byte × Nat × Nat) := []
  /-- Records dropped since the last LOSS record: count and first SEQ (R380). -/
  lost : Nat := 0
  lostSeq : Nat := 0
  /-- Page numbers in the fallback ring, oldest first, and the LOSS records owed for overwritten pages, oldest first (R389):
  (records that started in the page, SEQ of the first). -/
  fbPages : List Nat := []
  fbLoss : List (Nat × Nat) := []
  /-- Records that started in each fallback page: (count, first SEQ). -/
  fbStarts : Tab (Nat × Nat) := []
  /-- The eject in progress: TAI ns at which it was taken, and its command's tag. -/
  ejectFrom : Option Nat := none
  /-- The command that waits for an attach or an eject: (code, tag, PEER, FORMAT). -/
  cmd : Option (Nat × Nat × Bool × Bool) := none
  formatted : Bool := false
  atStartup : Bool := false
  /-- Stream position after the page that holds the SEAL record of an eject in progress (R387). -/
  sealEnd : Nat := 0
  /-- A read copy in progress: source offset, destination, pages. -/
  copy : Option (Nat × Nat × Nat) := none
  /-- Host settings, as the settings area holds them. -/
  settings : List Byte := []
  /-- Image of the latest energy save, and of the capture extents' next offset. -/
  save : List Byte := []
  nextExtent : Nat := 0x3004000000
  deriving DecidableEq, Repr

/-- A key slot (Table 19-1). -/
structure KeySlot where
  material : List Byte := []
  use : Nat := 0
  alg : Nat := 0
  gen : Nat := 0
  valid : Bool := false
  deriving DecidableEq, Repr

/-- KEY: key slots (R392-R405). Slots 0 and 1 hold what the fuses give and are not listed. -/
structure Key where
  slots : Tab KeySlot := []
  /-- OTP steps the device burned beyond what the fuses showed, and C[15:0]. -/
  otp : Nat := 0
  low : Nat := 0xFFFF
  imageNo : Nat := 0
  imgValid : Bool := false
  busy : Bool := false
  lastErr : Nat := 0
  deriving DecidableEq, Repr

/-- Session states (Table 20-5). -/
inductive UState where
  | idle | manifest | transfer | storing | stored | failed
  deriving DecidableEq, Repr

/-- The control record (R407). -/
structure CtlRec where
  seq : Nat := 0
  bankB : Bool := false
  trial : Bool := false
  tried : Bool := false
  trialwin : Nat := 0
  upidA : Nat := 0
  upidB : Nat := 0
  setgen : Nat := 0
  deriving DecidableEq, Repr

/-- A relay frame sent: towards RLY0 (upstream) or RLY1, type, fields and payload. -/
structure RelayMsg where
  up : Bool
  type : Nat
  index : Nat := 0
  frag : Nat := 0
  total : Nat := 0
  words : List Nat := []
  payload : List Byte := []
  deriving DecidableEq, Repr

/-- UPD: image update (R406-R421). -/
structure Upd where
  ustate : UState := .idle
  session : Nat := 0
  head : Bool := false
  armed : Bool := false
  pos : Nat := 0
  upver : Nat := 0
  dnver : Nat := 0
  upMac : List Byte := []
  dnMac : List Byte := []
  /-- Manifest fragments held, by number; and the whole manifest when checked. -/
  frags : Tab (List Byte) := []
  manifest : List Byte := []
  /-- Fragments held of each block, its bytes when verified, and its hash failures. -/
  blockFrags : Tab (List (Nat × List Byte)) := []
  verified : List Nat := []
  /-- TAI ns at which the latest fragment of each block arrived (R412). -/
  blockAt : Tab Nat := []
  fails : Tab Nat := []
  stored : Nat := 0
  lastErr : Nat := 0
  errBlock : Nat := 0
  ctl : CtlRec := {}
  /-- TAI ns at which the trial timer reaches 0, while it runs. -/
  trialEnd : Option Nat := none
  selfok : Bool := false
  fallback : Bool := false
  secMin : Nat := 0
  flash : Mem := []
  /-- The lattice image of the bank set that start-up found in force (R430). -/
  image : List Byte := []
  /-- The settings generation kept on the cartridge until confirmation (R418). -/
  keptGen : Option Nat := none
  tx : List RelayMsg := []
  /-- A restart onto the other bank set is due (R416). -/
  restartDue : Bool := false
  deriving DecidableEq, Repr

/-- A completion (Table 22-6) that has not been written yet. -/
structure Cpl where
  code : Nat
  status : Nat
  tag : Nat
  res : List Nat := []
  deriving DecidableEq, Repr

/-- A command in progress: its code, tag, and whether its completion is to be written (R443). -/
structure InProg where
  code : Nat
  tag : Nat
  silent : Bool := false
  deriving DecidableEq, Repr

/-- HIF: host interface (R437-R450). -/
structure Hif where
  linkUp : Bool := false
  rate : Nat := 0
  lanes : Nat := 0
  inProg : List InProg := []
  /-- Completions held until the Standby reports a delta applied (R361): (DELTASEQ, completion). -/
  held : List (Nat × Cpl) := []
  /-- Completions waiting to be written, oldest first. -/
  cpls : List Cpl := []
  phase : Bool := true
  /-- MSI-X vectors sent, oldest first; the MSI-X table's words and the pending-bit array (R442). -/
  msix : List Nat := []
  msixTable : Tab Nat := []
  msixPend : Nat := 0
  /-- PCIE_PERST_N asserted while the NOC clock was stopped: source 0x211 is still to be posted (R443). -/
  perstDue : Bool := false
  /-- The I2C target's pointer. -/
  i2cPtr : Nat := 0
  /-- Words that the latest read returned, and its requester. -/
  rdata : List Nat := []
  deriving DecidableEq, Repr

end Sys2Proof.Machine
end

