-- ==== Sys2Proof/Machine/StateTime.lean ====
section
/-!
DEFINITION. The state of the time base, the tile timers, the compare channels, the time pulse outputs and the TDC, beside their
registers.
-/
namespace Sys2Proof.Machine

/-- A TDC stamp (R104): NS32, fraction in 1/128 ns, OVF. -/
structure TdcStamp where
  ns32 : Nat
  frac : Nat
  ovf : Bool
  deriving DecidableEq, Repr

/-- One TDC input (R103, R104). -/
structure Tdc where
  fifo : List TdcStamp := []
  /-- The latest stamped edge, in 1/128 ns of TAI. -/
  last : Option Nat := none
  /-- An edge was lost to a full FIFO since the latest entry stored. -/
  ovf : Bool := false
  /-- Edges seen since the latest one that DIV let through (k = 3). -/
  divCount : Nat := 0
  deriving DecidableEq, Repr

/-- A tile timer (R92, R93): its 32-bit count and 24-bit fraction as one number, the rate word, the correction still to slew, the
TJUMP indication, the armed compare target and the fires so far. -/
structure TileTimer where
  value : Nat := 0
  rate : Nat := 0
  slew : Int := 0
  tjump : Bool := false
  target : Option Nat := none
  fires : Nat := 0
  deriving DecidableEq, Repr

/-- A compare channel (R95-R98): the committed target in 1/65536 ns, modulo 2^48. -/
structure Cmp where
  target : Nat := 0
  deriving DecidableEq, Repr

/-- A time pulse output (R102). -/
structure Tpo where
  active : Bool := false
  /-- TAI ns at which an active pulse ends. -/
  endsAt : Option Nat := none
  deriving DecidableEq, Repr

/-- TB (R78-R105). -/
structure Tb where
  /-- The increment in force, in 2^-24 ns per tick. -/
  incr : Nat := 4 * 2 ^ 24
  /-- What STEPCMD asked for, while STEPPEND is 1: true for SET, false for ADJ. -/
  step : Option Bool := none
  /-- A step was applied since the latest echo (R91). -/
  stepSinceEcho : Bool := false
  /-- Per requester: seconds, fraction and the high word of the 64-bit count (R80). -/
  latches : Tab (Nat × Nat × Nat) := []
  cmp : Tab Cmp := []
  tpo : Tab Tpo := []
  tdc : Tab Tdc := []
  tiles : Tab TileTimer := []
  /-- The latest good IRIG-B frame: its UTC second. -/
  irigPrev : Option Nat := none
  /-- Whether the best master clock algorithm has made the device master (R85). -/
  ptpMaster : Bool := false
  /-- TAI ns at which holdover began, and the error E0 at the last update, in ns (R88). -/
  holdFrom : Option Nat := none
  /-- TAI ns since which the servo's error estimate, as HOLDERR shows it, has been below 100 ns (R87). -/
  lowSince : Option Nat := none
  deriving DecidableEq, Repr

end Sys2Proof.Machine
end

