-- ==== Sys2Proof/Machine/State.lean ====
section
/-!
DEFINITION. The state of the block, what stops a step, and the state after a power-on reset.
-/
namespace Sys2Proof.Machine

/-- Why a step stops with a fault. -/
inductive Fault where
  /-- Every command but the power-on reset raises this once a supply has fallen below its operating minimum: from then on the
  spec calls the device's behaviour undefined (R435). Safe: the model stops where the device may do anything. -/
  | supplyFailed
  deriving DecidableEq, Repr

/-- Why a command has no meaning. -/
inductive Refusal where
  /-- Raised by an arm of exec whose command has no meaning yet. Safe: the model stops where the device goes on. -/
  | notModelled (mnemonic : String)
  deriving DecidableEq, Repr

/-- The state. Registers that only hold a value are in `regs`, by address; what the blocks hold beside their registers is in the
parts; `pending` is the queue of commands that wait, first in, first out. -/
structure State where
  regs : Tab Word := []
  /-- Device memory by 40-bit address: system SRAM, vertex store, tile SRAM, alignment SRAM, LPDDR5X (R12). -/
  devMem : Mem := []
  /-- Host memory by 64-bit address, as far as the host has given it to the device (R441). -/
  hostMem : Mem := []
  /-- Device time: TAI in units of 2^-24 ns (R9, R78). -/
  now : Nat := 0
  sys : Sys := {}
  tb : Tb := {}
  eth : Eth := {}
  ing : Ing := {}
  snap : Snap := {}
  topo : Topo := {}
  det : Det := {}
  modal : Modal := {}
  alm : Alm := {}
  afe : Afe := {}
  flt : Flt := {}
  mtr : Mtr := {}
  cap : Cap := {}
  lat : Lat := {}
  cores : Tab Core := []
  tsk : Tsk := {}
  evc : Evc := {}
  chd : Chd := {}
  ldg : Ldg := {}
  key : Key := {}
  upd : Upd := {}
  hif : Hif := {}
  /-- False once a supply has fallen below its operating minimum (R435). -/
  supplyOk : Bool := true
  /-- The model's own counter, from which free values are drawn (notes/assumptions/3). -/
  free : Nat := 0
  pending : List Instr := []
  deriving DecidableEq, Repr

/-- The machine right after a power-on reset (R434): every register at its reset value, nothing listed in any memory, BOOT. -/
def State.reset : State := {}

end Sys2Proof.Machine
end

