-- ==== Sys2Proof/Machine/Flags.lean ====
section
/-!
DEFINITION. Registers by address, counters, sticky error bits and the event records they post: the shared operations that every
block's meaning uses.
-/
namespace Sys2Proof.Machine

/-! ### Registers -/

/-- What the register file holds at an address. -/
def State.reg (s : State) (a : Nat) : Word := tget resetOf s.regs a

/-- The register at an address given a value, whatever its access type. -/
def State.setReg (s : State) (a : Nat) (v : Word) : State := { s with regs := tput resetOf s.regs a v }

/-- A field of a word. -/
def Fld.of (f : Fld) (v : Word) : Nat := bitsOf v.toNat f.lo f.width

/-- A word with one field replaced. -/
def Fld.into (f : Fld) (v : Word) (x : Nat) : Word :=
  let mask := (2 ^ f.width - 1) * 2 ^ f.lo
  BitVec.ofNat 32 ((v.toNat - (v.toNat &&& mask)) + x % 2 ^ f.width * 2 ^ f.lo)

/-- A field of a register. -/
def State.fld (s : State) (a : Nat) (f : Fld) : Nat := f.of (s.reg a)

/-- A one-bit field of a register. -/
def State.flag (s : State) (a : Nat) (f : Fld) : Bool := s.fld a f == 1

/-- A register with one field given a value. -/
def State.setFld (s : State) (a : Nat) (f : Fld) (x : Nat) : State := s.setReg a (f.into (s.reg a) x)

/-- The whole register as a number. -/
def State.val (s : State) (a : Nat) : Nat := (s.reg a).toNat

/-- A register given a number. -/
def State.setVal (s : State) (a n : Nat) : State := s.setReg a (BitVec.ofNat 32 n)

/-- 64 bits held in two registers. -/
def State.val64 (s : State) (lo hi : Nat) : Nat := s.val lo + s.val hi * 2 ^ 32

/-- A counter raised by `n`, saturating at 0xFFFF_FFFF (R49 and its like of every block). -/
def State.bumpBy (s : State) (a n : Nat) : State := s.setVal a (min (s.val a + n) 0xFFFFFFFF)

/-- A counter raised by 1. -/
def State.bump (s : State) (a : Nat) : State := s.bumpBy a 1

/-! ### Time -/

/-- TAI nanoseconds now (R9). -/
def State.ns (s : State) : Nat := s.now / 2 ^ 24

/-- NS32: the low 32 bits of the nanoseconds (R9). -/
def State.ns32 (s : State) : Nat := s.ns % 2 ^ 32

/-- Device time moved forward to TAI nanosecond `t`; it never moves back. -/
def State.advanceNs (s : State) (t : Nat) : State := { s with now := max s.now (t * 2 ^ 24) }

/-- A free value: the model's counter read and advanced. -/
def State.draw (s : State) : Nat × State := (s.free, { s with free := s.free + 1 })

/-! ### The event controller: making pending records (R335, R338, R341, R342, R470) -/

/-- A source's configuration as SRCCFG shows it; the fault sources always post, to EVC.FAULTTGT (Table 16-4, Table 16-10). -/
def State.srcCfg (s : State) (src : Nat) : Nat :=
  let v := tget (fun _ => 0x200) s.evc.srccfg src
  if 0xFE0 ≤ src && src ≤ 0xFE3 then
    s.val Reg.EVC_FAULTTGT % 32 + bitsOf v 5 5 * 32 + 0x800
  else v

/-- Whether a source is a level source: 0x800-0x8FF are, every other is edge (R335). -/
def isLevelSrc (src : Nat) : Bool := 0x800 ≤ src && src ≤ 0x8FF

def State.target (s : State) (n : Nat) : EvcTarget := tget (fun _ => {}) s.evc.targets n

def State.setTarget (s : State) (n : Nat) (t : EvcTarget) : State :=
  { s with evc := { s.evc with targets := tput (fun _ => {}) s.evc.targets n t } }

def State.core (s : State) (k : Nat) : Core := tget (fun _ => {}) s.cores k

def State.setCore (s : State) (k : Nat) (c : Core) : State := { s with cores := tput (fun _ => {}) s.cores k c }

/-- Whether a core is in STOP or OFF (R328). -/
def Core.stopped (c : Core) : Bool :=
  match c.waiting with
  | some m => m % 4 == 1 || m % 4 == 2
  | none => false

/-- Whether a target is asleep (R342). -/
def State.asleep (s : State) (n : Nat) : Bool :=
  !s.flag (Reg.EVC_TGTnCTL n) F.EVC_TGTnCTL_EN ||
    (if n < 8 then (s.core n).stopped else !s.hif.linkUp)

/-- The asleep timer of a target looked at again: it runs while the target is asleep with records pending (R342). -/
def State.refreshSleep (s : State) (n : Nat) : State :=
  let t := s.target n
  let from_ := match t.asleepFrom with
    | some x => some x
    | none => some s.ns
  s.setTarget n { t with asleepFrom := if s.asleep n && !t.pend.isEmpty then from_ else none }

/-- A pending record added to a target; the asleep timer starts with the first record (R342). -/
def State.addPend (s : State) (n : Nat) (r : EvcRec) : State :=
  let t := s.target n
  (s.setTarget n { t with pend := t.pend ++ [r] }).refreshSleep n

/-- The target that holds a pending record of a source, if one does. -/
def State.pendingAt (s : State) (src : Nat) : Option Nat :=
  (List.range 24).find? (fun n => (s.target n).pend.any (·.src == src))

/-- The first record of the source changed. -/
def mergeInto (src : Nat) (info : Nat) : List EvcRec → List EvcRec
  | [] => []
  | r :: rs => if r.src = src then { r with count := min (r.count + 1) 0xFFFF, info := info } :: rs else r :: mergeInto src info rs

/-- An event of a source becomes a pending record or is merged into one; a source with EN 0 drops it (R338, R344, R470). -/
def State.pendEvent (s : State) (src info : Nat) (latched repost : Bool) : State :=
  let cfg := s.srcCfg src
  if bitAt cfg 11 = 0 then s
  else
    match s.pendingAt src with
    | some n =>
      let t := s.target n
      (s.setTarget n { t with pend := mergeInto src info t.pend }).bump Reg.EVC_MERGEDCNT
    | none =>
      s.addPend (bitsOf cfg 0 5)
        { src := src, prio := bitsOf cfg 5 5, level := isLevelSrc src, latched := latched, repost := repost,
          time := s.ns32, info := info % 2 ^ 32 }

/-- An edge of a source reaches EVC. While the NOC clock is stopped only sources 0x240-0x245 fire, into latches (R341). -/
def State.event (s : State) (src info : Nat) : State :=
  if s.sys.mode = .dormant then
    if 0x240 ≤ src && src ≤ 0x245 && !s.sys.edgeLatches.contains src then
      { s with sys := { s.sys with edgeLatches := s.sys.edgeLatches ++ [src] } }
    else s
  else s.pendEvent src info false false

/-! ### Sticky error bits -/

/-- An ERRSTAT register and the event source of its bit 0 (Table 16-4). -/
structure ErrReg where
  addr : Nat
  src : Nat
  /-- The bit that CFGERR is: 0 but in TB and ING. -/
  cfg : Nat := 0

namespace E
def SYS : ErrReg := ⟨Reg.SYS_ERRSTAT, 0x000, 0⟩
def TB : ErrReg := ⟨Reg.TB_ERRSTAT, 0x040, 3⟩
def ETH (n : Nat) : ErrReg := ⟨Reg.ETH_PnERRSTAT n, 0x060 + 8 * n, 0⟩
def ING : ErrReg := ⟨Reg.ING_ERRSTAT, 0x0A0, 4⟩
def SNAP : ErrReg := ⟨Reg.SNAP_ERRSTAT, 0x0B0, 0⟩
def TOPO : ErrReg := ⟨Reg.TOPO_ERRSTAT, 0x0D0, 0⟩
def DET : ErrReg := ⟨Reg.DET_ERRSTAT, 0x0E0, 0⟩
def MODAL : ErrReg := ⟨Reg.MODAL_ERRSTAT, 0x0F0, 0⟩
def ALM : ErrReg := ⟨Reg.ALM_ERRSTAT, 0x140, 0⟩
def AFE : ErrReg := ⟨Reg.AFE_ERRSTAT, 0x048, 0⟩
def FLT : ErrReg := ⟨Reg.FLT_ERRSTAT, 0x050, 0⟩
def MTR : ErrReg := ⟨Reg.MTR_ERRSTAT, 0x160, 0⟩
def CAP : ErrReg := ⟨Reg.CAP_ERRSTAT, 0x170, 0⟩
def LAT : ErrReg := ⟨Reg.LAT_ERRSTAT, 0x180, 0⟩
def TSK : ErrReg := ⟨Reg.TSK_ERRSTAT, 0x190, 0⟩
def EVC : ErrReg := ⟨Reg.EVC_ERRSTAT, 0x230, 0⟩
def CHD : ErrReg := ⟨Reg.CHD_ERRSTAT, 0x1A0, 0⟩
def LDG : ErrReg := ⟨Reg.LDG_ERRSTAT, 0x1C0, 0⟩
def KEY : ErrReg := ⟨Reg.KEY_ERRSTAT, 0x1E0, 0⟩
def UPD : ErrReg := ⟨Reg.UPD_ERRSTAT, 0x1F0, 0⟩
def HIF : ErrReg := ⟨Reg.HIF_ERRSTAT, 0x200, 0⟩
def NOC : ErrReg := ⟨Reg.NOC_ERRSTAT, 0x220, 0⟩
end E

/-- A sticky bit set, with the edge of its source, whether or not the bit already reads 1 (R335). -/
def State.raiseInfo (s : State) (e : ErrReg) (bit info : Nat) : State :=
  (s.setVal e.addr (s.val e.addr ||| 2 ^ bit)).event (e.src + bit) info

/-- A sticky bit set, INFO 0. -/
def State.raise (s : State) (e : ErrReg) (bit : Nat) : State := s.raiseInfo e bit 0

/-- CFGERR set. -/
def State.cfgErr (s : State) (e : ErrReg) : State := s.raise e e.cfg

end Sys2Proof.Machine
end

