-- ==== Sys2Proof/Machine/Ops.lean ====
section
/-!
DEFINITION. The shared operations: the address map, the ledger's record offer and page commit, host commands and their completions,
interrupts and ring records, core exceptions.
-/
namespace Sys2Proof.Machine

/-! ### Running a command -/

/-- A meaning on a device whose supplies hold; once one has failed, the spec calls the behaviour undefined (R435). -/
def State.live (s : State) (f : State → State) : Host.Outcome State Fault Refusal :=
  if s.supplyOk then .next (f s) else .fault .supplyFailed

/-- As `live`, at device time TAI nanosecond `t`. -/
def State.liveAt (s : State) (t : Nat) (f : State → State) : Host.Outcome State Fault Refusal :=
  s.live (fun s => f (s.advanceNs t))

/-! ### Modes as numbers -/

/-- Codes of Table 21-1. -/
def Mode.code : Mode → Nat
  | .boot => 0 | .configure => 1 | .settle => 2 | .serve => 3 | .shadow => 4 | .referee => 5 | .holdover => 6
  | .test => 7 | .trial => 8 | .quiesce => 9 | .dormant => 0xA | .lockout => 0xB

/-- The mode of a code; 0xC-0xF are reserved. -/
def modeOf : Nat → Option Mode
  | 0 => some .boot | 1 => some .configure | 2 => some .settle | 3 => some .serve | 4 => some .shadow
  | 5 => some .referee | 6 => some .holdover | 7 => some .test | 8 => some .trial | 9 => some .quiesce
  | 0xA => some .dormant | 0xB => some .lockout | _ => none

/-- Modes in which snapshots are opened and released (Table 21-1). -/
def Mode.released : Mode → Bool
  | .settle => true | .serve => true | .shadow => true | .holdover => true | .test => true | .trial => true | _ => false

/-- Modes in which the unit serves (R352). -/
def Mode.serving : Mode → Bool
  | .serve => true | .trial => true | .holdover => true | _ => false

/-- Modes in which the whole lattice runs (Table 21-1). -/
def Mode.lattice : Mode → Bool := Mode.released

/-- CHD.CFG.UNIT_ID. -/
def State.unitId (s : State) : Nat := s.fld Reg.CHD_CFG F.CHD_CFG_UNIT_ID

/-- The epoch in force. -/
def State.epoch (s : State) : Nat := s.val Reg.CHD_EPOCH

/-! ### Messages to the partner and the referee (R347-R349, R361) -/

/-- The number of the link a message leaves by: 0 Chord, 1 the referee, 2 and 3 a referee's units. -/
def linkNo (toReferee : Bool) (unitPort : Nat) : Nat := if toReferee then 1 else if unitPort = 0 then 0 else 1 + unitPort

/-- A message sent on a link, with the link's next MSGNUM. -/
def State.chdSend (s : State) (m : ChdMsg) : State :=
  if !s.flag Reg.CHD_CTL F.CHD_CTL_EN then s else
  let l := linkNo m.toReferee m.unitPort
  let n := (tget (fun _ => 0) s.chd.txNum l + 1) % 2 ^ 32
  { s with chd := { s.chd with
    txNum := tput (fun _ => 0) s.chd.txNum l n
    tx := s.chd.tx ++ [{ m with num := n, epoch := s.epoch }] } }

/-- A change of policy state: the Active of a pair sends it as a DELTA under the next DELTASEQ (R361). -/
def State.sendDelta (s : State) (b : DeltaBody) : State :=
  if s.chd.role = .active && s.chd.partner.paired && s.flag Reg.CHD_CTL F.CHD_CTL_EN then
    let q := (s.chd.deltaSeq + 1) % 2 ^ 32
    (({ s with chd := { s.chd with deltaSeq := q } }).bump Reg.CHD_DELTAS).chdSend { type := 7, epoch := 0, words := [q], delta := some b }
  else s

/-- A double-bit error met at an address that the spec does not give: its INFO is a free value. -/
def State.doubleBitAnywhere (s : State) : State :=
  let s1 : State := { s with free := s.free + 1, sys := { s.sys with doubleErrs := s.sys.doubleErrs + 1 } }
  s1.event 0xFE2 (Config.freeNat s.free % 2 ^ 32)

/-- A double-bit error met at an address: counted, and posted to the fault target (R14). -/
def State.doubleBit (s : State) (a : Nat) : State :=
  ({ s with sys := { s.sys with doubleErrs := s.sys.doubleErrs + 1 } }).event 0xFE2 (a % 2 ^ 32)

/-! ### The address map (R12, R437, Table 22-1) -/

/-- The regions of the core address map: name, base, size. LPDDR5X reaches as far as its usable capacity (R13). -/
inductive Region where
  | bootRom | sysSram | regWindow | vertexStore | tileSram | alignSram | lpddr | unmapped
  deriving DecidableEq, Repr

def State.region (s : State) (a : Nat) : Region :=
  if a < 0x40000 then .bootRom
  else if 0x1000000 ≤ a && a < 0x1400000 then .sysSram
  else if 0x10000000 ≤ a && a < 0x11600000 then .regWindow
  else if 0x200000000 ≤ a && a < 0x208000000 then .vertexStore
  else if 0x400000000 ≤ a && a < 0x404000000 then .tileSram
  else if 0x500000000 ≤ a && a < 0x501000000 then .alignSram
  else if 0x1000000000 ≤ a && a < 0x1000000000 + s.sys.usable then .lpddr
  else .unmapped

/-- Whether `n` bytes from `a` lie in memory that a ring or a table may use. -/
def State.inMemory (s : State) (a n : Nat) : Bool :=
  match s.region a with
  | .sysSram => s.region (a + n - 1) == .sysSram
  | .lpddr => s.region (a + n - 1) == .lpddr
  | .vertexStore => s.region (a + n - 1) == .vertexStore
  | .alignSram => s.region (a + n - 1) == .alignSram
  | .tileSram => s.region (a + n - 1) == .tileSram
  | _ => false

def State.devBytes (s : State) (a n : Nat) : List Byte := s.devMem.bytes a n

def State.putDev (s : State) (a : Nat) (l : List Byte) : State := { s with devMem := s.devMem.putBytes a l }

def State.hostBytes (s : State) (a n : Nat) : List Byte := s.hostMem.bytes a n

def State.putHost (s : State) (a : Nat) (l : List Byte) : State := { s with hostMem := s.hostMem.putBytes a l }

/-! ### The ledger: offering a record (R378-R381, R389) -/

/-- Bytes of a record on the journal stream: header, payload, back-reference and trailer (R378). -/
def StagedRec.size (r : StagedRec) : Nat := 24 + r.payload.length

/-- The coalescing key: TYPE and the first 8 bytes of the payload, padded with zeros (R381). -/
def recKey (type : Nat) (payload : List Byte) : List Byte :=
  leBytes 2 type ++ (payload.take 8 ++ List.replicate (8 - (payload.take 8).length) 0)

/-- A payload padded to a multiple of 8 bytes. -/
def pad8 (l : List Byte) : List Byte := l ++ List.replicate ((8 - l.length % 8) % 8) 0

/-- Little-endian words of a payload. -/
def words (l : List Nat) : List Byte := (l.map (leBytes 4)).flatten

/-- Whether `n` more bytes fit in the 64 KiB journal buffer (R380). -/
def Ldg.fits (l : Ldg) (n : Nat) : Bool := l.stagedEnd + n - l.committed ≤ 65536

/-- A record staged at the end of the stream: SEQ and RECORDS advance; a back-reference is no part of the key (R380, R381). -/
def State.stage (s : State) (type : Nat) (payload : List Byte) (backref : Bool) : State :=
  let l := s.ldg
  let r : StagedRec :=
    { seq := l.jseq, type := type, key := recKey type (if backref then payload.take (payload.length - 8) else payload), time := s.ns
      rep := 1, backref := backref, payload := payload, start := l.stagedEnd }
  let from_ := match l.pageFrom with
    | some x => some x
    | none => some s.ns
  ({ s with ldg := { l with
      staged := l.staged ++ [r]
      stagedEnd := l.stagedEnd + r.size
      jseq := (l.jseq + 1) % 2 ^ 32
      pageFrom := from_ } }).bump Reg.LDG_RECORDS

/-- A LOSS record for each overwritten page, as far as space allows (R389). -/
def State.stageFbLoss : List (Nat × Nat) → State → State
  | [], s => s
  | (n, q) :: rest, s =>
    if s.ldg.fits 40 then
      State.stageFbLoss rest (({ s with ldg := { s.ldg with fbLoss := rest } }).stage 0x1801 (words [n, q, 1, 1]) false)
    else s

/-- The LOSS records that are owed, staged before any other record when space allows (R380, R389). -/
def State.stageLoss (s : State) : State :=
  let s1 := State.stageFbLoss s.ldg.fbLoss s
  if s1.ldg.lost ≠ 0 && s1.ldg.fits 40 then
    ({ s1 with ldg := { s1.ldg with lost := 0 } }).stage 0x1801 (words [s1.ldg.lost, s1.ldg.lostSeq, 0, 0]) false
  else s1

/-- The latest staged record with a key raised by one occurrence. -/
def repeatLast (key : List Byte) : List StagedRec → List StagedRec
  | [] => []
  | r :: rs => if rs.any (·.key == key) then r :: repeatLast key rs
      else if r.key = key then { r with rep := min (r.rep + 1) 0xFFFFFF } :: rs else r :: repeatLast key rs

/-- A ledger record is offered: coalesced with a staged one, given a back-reference, made anew, or dropped (R380, R381). -/
def State.offer (s0 : State) (type : Nat) (payload0 : List Byte) : State :=
  if !s0.flag Reg.LDG_CTL F.LDG_CTL_JEN then s0
  else
    let s := s0.stageLoss
    let payload := pad8 payload0
    let key := recKey type payload
    let win := s.val Reg.LDG_COALWIN % 65536 * 1000000
    let near := fun (t : Nat) => win ≠ 0 && s.ns ≤ t + win
    let place := fun (p : List Byte) (b : Bool) =>
      if s.ldg.fits (24 + p.length) then s.stage type p b
      else
        let l := s.ldg
        (({ s with ldg := { l with
            lost := l.lost + 1
            lostSeq := if l.lost = 0 then l.jseq else l.lostSeq } }).bump Reg.LDG_DROPPED).raise E.LDG 8
    match s.ldg.staged.reverse.find? (·.key == key) with
    | some r =>
      if near r.time then
        ({ s with ldg := { s.ldg with staged := repeatLast key s.ldg.staged } }).bump Reg.LDG_COALESCED
      else place payload false
    | none =>
      match s.ldg.done.find? (·.1 == key) with
      | some (_, q, t) => if near t then place (payload ++ words [q, 0]) true else place payload false
      | none => place payload false

/-! ### The ledger: committing pages (R379, R380, R389) -/

/-- The bytes of a record (Table 18-3). -/
def StagedRec.bytes (r : StagedRec) : List Byte :=
  let body := words [16 + r.payload.length + r.type * 2 ^ 16 + (if r.backref then 2 ^ 31 else 0), r.seq]
    ++ leBytes 8 r.time ++ r.payload ++ leBytes 4 r.rep
  body ++ leBytes 4 (crc32c body ^^^ 0xA65EA1ED)

/-- The stream bytes from `a`, `n` of them, of records laid out by their start positions; gaps are padding. -/
def streamBytes (rs : List StagedRec) (a n : Nat) : List Byte :=
  let m : Mem := rs.foldl (fun m r => Mem.putBytes m r.start r.bytes) []
  m.bytes a n

/-- A journal page: header of R379 and 4 080 stream bytes. -/
def pageBytes (pageNo a : Nat) (rs : List StagedRec) : List Byte :=
  let st := streamBytes rs a 4080
  let first := match rs.find? (fun r => a ≤ r.start && r.start < a + 4080) with
    | some r => 16 + r.start - a
    | none => 0xFFFF
  let hd := words [0xA6D1 + first * 2 ^ 16] ++ leBytes 8 pageNo
  hd ++ leBytes 4 (crc32c (hd ++ st)) ++ st

/-- LDG.FBBASE. -/
def State.fbBase (s : State) : Nat := s.val64 Reg.LDG_FBBASELO Reg.LDG_FBBASEHI

/-- UPD.STAGEBASE. -/
def State.stageBase (s : State) : Nat := s.val64 Reg.UPD_STAGEBASELO Reg.UPD_STAGEBASEHI

/-- Bytes written to the cartridge raise the wear counter by 1 for every 10^9 (R372), and wear thresholds act (R376). -/
def State.wearReport (s : State) (before after : Nat) (atAttach : Bool) : State :=
  [(8000, 5), (9500, 6), (10000, 7)].foldl (fun s (p : Nat × Nat) =>
    let pct := fun w => w * 10000 / 240000
    if p.1 ≤ pct after && (atAttach || pct before < p.1) then
      let s1 := (s.raise E.LDG p.2).offer 0x1804 (words [p.1 + (if atAttach then 2 ^ 16 else 0), after])
      let s2 := s1.event 0x1D1 0
      if p.1 = 10000 then { s2 with ldg := { s2.ldg with worn := true } } else s2
    else s) s

def State.wearBy (s : State) (n : Nat) : State :=
  let r := s.ldg.wearRem + n
  let w := s.ldg.wear + r / 1000000000
  ({ s with ldg := { s.ldg with wearRem := r % 1000000000, wear := w } }).wearReport s.ldg.wear w false

/-- Whether the page that starts at the committed position goes to the cartridge: while ACTIVE, and in EJECTING up to the
seal (R387, R389). -/
def Ldg.toCart (l : Ldg) : Bool := l.cstate == .active || (l.cstate == .ejecting && l.committed < l.sealEnd)

/-- One page is committed to the cartridge's journal ring or to the fallback ring, padded if it is not full. -/
def State.commitOne (s : State) : State :=
  let l := s.ldg
  if l.stagedEnd ≤ l.committed then s
  else
    let page := pageBytes l.nextPage l.committed l.staged
    let fin := l.committed + 4080
    let gone := l.staged.filter (fun r => r.start + r.size ≤ fin)
    let left := l.staged.filter (fun r => fin < r.start + r.size)
    let starts := l.staged.filter (fun r => l.committed ≤ r.start && r.start < fin)
    let l1 : Ldg := { l with
      staged := left
      committed := fin
      stagedEnd := max l.stagedEnd fin
      nextPage := l.nextPage + 1
      pageFrom := left.head?.map (·.time)
      done := (gone.reverse.map (fun r => (r.key, r.seq, r.time))) ++
        l.done.filter (fun d => !gone.any (·.key == d.1)) }
    let s1 := ((({ s with ldg := l1 }).bump Reg.LDG_PAGES).setVal Reg.LDG_JPAGELO (l.nextPage % 2 ^ 32)).setVal
      Reg.LDG_JPAGEHI (l.nextPage / 2 ^ 32)
    if l.toCart then
      ({ s1 with ldg := { l1 with cart := l1.cart.putBytes (0x4000000 + l.nextPage % 8388608 * 4096) page } }).wearBy 4096
    else
      let s2 := s1.putDev (s1.fbBase + l.nextPage % 1048576 * 4096) page
      let info := (starts.length, (starts.head?.map (·.seq)).getD 0)
      let l2 : Ldg := { l1 with
        fbPages := l1.fbPages ++ [l.nextPage]
        fbStarts := tput (fun _ => (0, 0)) l1.fbStarts l.nextPage info }
      if 1048576 < l2.fbPages.length then
        let old := l2.fbPages.headD 0
        (({ s2 with ldg := { l2 with
            fbPages := l2.fbPages.drop 1
            fbStarts := terase l2.fbStarts old
            fbLoss := l2.fbLoss ++ [tget (fun _ => (0, 0)) l2.fbStarts old] } }).bump Reg.LDG_FBLOST).raise E.LDG 9
      else { s2 with ldg := l2 }

/-- A page is committed; with space back, the LOSS records owed are staged (R380, R389). -/
def State.commitPage (s : State) : State :=
  let s1 := s.commitOne
  if s.flag Reg.LDG_CTL F.LDG_CTL_JEN then s1.stageLoss else s1

/-- Pages committed one after another up to a stream position; 17 pages hold the whole buffer. -/
def State.commitPages (fin : Nat) : Nat → State → State
  | 0, s => s
  | n + 1, s => if fin ≤ s.ldg.committed then s else State.commitPages fin n s.commitPage

/-- A flush: every staged page is committed at once, the last one padded (R380). -/
def State.flushJournal (s : State) : State := State.commitPages s.ldg.stagedEnd 17 s

/-! ### Interrupts of event targets, and MSI-X (R339, R442) -/

/-- MSI-X vector `v` sent, or made pending while its table entry is masked. -/
def State.sendMsix (s : State) (v : Nat) : State :=
  let ctl := tget (fun i => if i % 4 = 3 then 1 else 0) s.hif.msixTable (4 * v + 3)
  if ctl % 2 = 1 then { s with hif := { s.hif with msixPend := s.hif.msixPend ||| 2 ^ v } }
  else { s with hif := { s.hif with msix := s.hif.msix ++ [v] } }

/-- A ring record may be claimed: unclaimed, and its PRIO strictly below the top of the stack, or the stack empty. -/
def EvcTarget.claimable (t : EvcTarget) (r : RingRec) : Bool :=
  !r.claimed && (match t.stack with
    | [] => true
    | (_, p) :: _ => r.prio < p)

/-- The condition under which a target's interrupt is asserted (R339). -/
def EvcTarget.irqNow (t : EvcTarget) : Bool :=
  !t.frozen && t.stack.length < 16 && t.ring.any t.claimable

/-- A target's interrupt condition looked at again; a host target's message goes out when it becomes true, and after a
completion while it is still true. -/
def State.refreshIrq (s : State) (n : Nat) (completed : Bool) : State :=
  let t := s.target n
  let now := t.irqNow
  let s1 := s.setTarget n { t with irq := now }
  if 8 ≤ n && now && (completed || !t.irq) then s1.sendMsix (n - 8) else s1

/-- The claimable record of lowest PRIO, ties to the oldest. -/
def bestClaim (t : EvcTarget) : Option RingRec :=
  t.ring.foldl (fun best r =>
    if t.claimable r then
      (match best with
        | none => some r
        | some b => if r.prio < b.prio then some r else some b)
    else best) none

/-! ### Core exceptions (R325-R328) -/

/-- A core takes an exception: its handler starts at VBASE + code * 0x80 (R325). An asynchronous one masks both asynchronous
bits until the handler clears them (R326; notes/assumptions/12). -/
def State.takeExc (s : State) (k code addr : Nat) (write : Bool) : State :=
  let c := s.core k
  s.setCore k { c with
    excCode := code
    excVector := c.vbase + code * 0x80
    excAddr := addr
    excWrite := write
    excCount := c.excCount + 1
    imask := if code = 6 || code = 7 then c.imask ||| 0xC0 else c.imask }

/-- The lowest asynchronous exception that is due and not masked: 6 event, 7 preempt. -/
def State.asyncDue (s : State) (k : Nat) : Option Nat :=
  let c := s.core k
  if (s.target k).irqNow && bitAt c.imask 6 = 0 then some 6
  else if c.preempt && bitAt c.imask 7 = 0 then some 7
  else none

/-! ### Host commands (R423, R445-R448) -/

/-- Completion statuses (Table 22-6). -/
inductive Status where
  | ok | busy | state | arg | auth | version | range | nospace | absent | timeout
  deriving DecidableEq, Repr

def Status.code : Status → Nat
  | .ok => 0 | .busy => 1 | .state => 2 | .arg => 3 | .auth => 4 | .version => 5 | .range => 6 | .nospace => 7
  | .absent => 8 | .timeout => 9

/-- The command with the tag leaves the list of commands in progress. -/
def dropProg (code tag : Nat) : List InProg → List InProg
  | [] => []
  | p :: ps => if p.code = code && p.tag = tag then ps else p :: dropProg code tag ps

/-- A refusal with STATE: a ledger record of TYPE 0x2101, SYS.REFUSALS, SYS.ERRSTAT.REFUSED (R423). -/
def State.refuseState (s : State) (code tag : Nat) : State :=
  ((s.offer 0x2101 (words [code + s.sys.mode.code * 2 ^ 16, tag, 0, 0])).bump Reg.SYS_REFUSALS).raise E.SYS 1

/-- A command completes: its completion waits to be written, unless the host interface was reset meanwhile (R443). -/
def State.complete (s : State) (code tag : Nat) (st : Status) (res : List Nat) : State :=
  let silent := s.hif.inProg.any (fun p => p.code == code && p.tag == tag && p.silent)
  let s1 := if st = .state then s.refuseState code tag else s
  let h := s1.hif
  { s1 with hif := { h with
    inProg := dropProg code tag h.inProg
    cpls := if silent then h.cpls else h.cpls ++ [{ code := code, status := st.code, tag := tag, res := res }] } }

/-- Whether completions of commands that produced a delta are held: an Active unit with a SYNCED Standby (R361). -/
def State.holds (s : State) : Bool := s.chd.role == .active && s.chd.partner.synced && s.chd.partner.paired

/-- A command that produced deltas completes, held until the Standby reports the latest of them applied (R361). -/
def State.completeDelta (s : State) (code tag : Nat) (st : Status) (res : List Nat) : State :=
  if s.holds then
    let silent := s.hif.inProg.any (fun p => p.code == code && p.tag == tag && p.silent)
    if silent then s.complete code tag st res
    else { s with hif := { s.hif with
      held := s.hif.held ++ [(s.chd.deltaSeq, { code := code, status := st.code, tag := tag, res := res })] } }
  else s.complete code tag st res

/-- The earliest interface version that accepts a command with its flags, as major * 256 + minor (Table 22-7). -/
def cmdSince (code : Nat) (h : CmdHdr) : Nat :=
  if code = 0x0702 && (h.peer || h.format) then 0x402
  else if code = 0x0903 || code = 0x0A02 || code = 0x0B01 then 0x400
  else 0x300

/-- Whether every flag set is one the command takes (Table 22-5). -/
def flagsOk (code : Nat) (h : CmdHdr) : Bool :=
  (!h.force || code == 0x0902 || code == 0x0A01 || code == 0x0A02) &&
  (!h.keep || code == 0x0602) && (!h.peer || code == 0x0702) && (!h.format || code == 0x0702)

/-- The agreed interface version, major * 256 + minor (R448). -/
def State.agreed (s : State) : Nat := s.val Reg.HIF_AGREED % 65536

/-- What a command's own rules decide: a status with results, or nothing yet while it runs. -/
abbrev CmdBody := State → State × Option (Status × List Nat)

/-- A host command is started: the checks of R446 in their order, then the command's own rules. -/
def State.hostCmd (s : State) (code : Nat) (h : CmdHdr) (argsOk legal : Bool) (delta : Bool) (body : CmdBody) : State :=
  let s0 := { s with hif := { s.hif with inProg := s.hif.inProg ++ [{ code := code, tag := h.tag }] } }
  if !flagsOk code h || !argsOk then s0.complete code h.tag .arg []
  else if s.agreed < cmdSince code h then s0.complete code h.tag .version []
  else if !legal then s0.complete code h.tag .state []
  else
    match body s0 with
    | (s1, some (st, res)) =>
      if delta && st = .ok then s1.completeDelta code h.tag st res else s1.complete code h.tag st res
    | (s1, none) => s1

/-! ### Kernels that change banks at their own boundaries (R320) -/

/-- A kernel that changes banks at its own boundary has met one that began at `start`. -/
def State.kernelBoundary (s : State) (kernel start : Nat) : State :=
  if s.lat.late.contains kernel && s.lat.swapAt ≤ start then
    { s with lat := { s.lat with late := s.lat.late.filter (· != kernel) } }
  else s

/-- A transition of SYS.MODE: PREV, TRANSITIONS, source 0x010 and the ledger record of TYPE 0x2102 (R426). The record of an entry to
DORMANT is made before the clocks stop. -/
def State.setMode (s : State) (m : Mode) (cause : Nat) : State :=
  let info := m.code + s.sys.mode.code * 16 + cause * 256
  let enter := fun (x : State) => { x with sys := { x.sys with prev := s.sys.mode, mode := m, trans := none } }
  let note := fun (x : State) => ((x.bump Reg.SYS_TRANSITIONS).event 0x010 info).offer 0x2102 (words [info, x.epoch] ++ leBytes 8 x.ns)
  if m = .dormant then enter (note s) else note (enter s)

end Sys2Proof.Machine
end

