-- ==== Sys2Proof/Machine/Operands.lean ====
section
/-!
DEFINITION. The operand forms of register access: who may access what, blocks that are off, access types, field ranges.
-/
namespace Sys2Proof.Machine

/-- Requester numbers as HIF.OFFADDRHI and the latches have them: 0-7 core, 8 host, 9 I2C (Table 22-9). -/
def reqCode : Requester → Nat
  | .core k => k
  | .host => 8
  | .i2c => 9

/-- The latch a requester uses; I2C accesses count as host accesses (R80, R449). -/
def latchKey : Requester → Nat
  | .core k => k
  | _ => 8

/-- Whether the register window, or the LPDDR5X aperture, at an address is off (Table 22-4). -/
def State.isOff (s : State) (a : Nat) : Bool :=
  match s.sys.mode with
  | .dormant => true
  | .boot => !s.sys.blocksUp && a / 0x100000 != 0x100 &&
      !(s.region a == .bootRom || s.region a == .sysSram || s.region a == .unmapped)
  | .quiesce => a / 0x100000 == 0x10D
  | .referee => a / 0x100000 == 0x10D || a / 0x100000 == 0x109 || a / 0x100000 == 0x10A || s.region a == .lpddr
  | _ => false

/-- An access answered for a block that is off (R444). In DORMANT the completer keeps count and address, and HIF takes them on
wake (R431). -/
def State.offAccess (s : State) (req : Requester) (a : Nat) (write : Bool) : State :=
  if s.sys.mode = .dormant then
    { s with sys := { s.sys with
      dormantAccesses := s.sys.dormantAccesses + 1
      dormantLast := some (a, reqCode req, write) } }
  else
    ((((s.raise E.HIF 1).bump Reg.HIF_OFFCNT).setVal Reg.HIF_OFFADDRLO (a % 2 ^ 32)).setVal Reg.HIF_OFFADDRHI
      (a / 2 ^ 32 % 256 + reqCode req * 2 ^ 16 + (if write then 2 ^ 20 else 0))).event 0xFE0 (a % 2 ^ 32)

/-- What a customer-partition core may write (R323): `v` is the word written. TB channels 24-31 are let through, since R99
discards such writes without an exception. -/
def partWrite (a v : Nat) : Bool :=
  (0x10100100 ≤ a && a < 0x10100500) ||
  (0x10F00020 ≤ a && a ≤ 0x10F00028) || a == 0x10F0003C || a == 0x10F00040 ||
  (0x10F00050 ≤ a && a ≤ 0x10F00060) ||
  (0x10E01180 ≤ a && a < 0x10E01200) ||
  ((a == 0x10E00030 || a == 0x10E00034) && 0x80 ≤ v % 256)

/-- The customer window of LPDDR5X (R451). -/
def State.inCustomer (s : State) (a : Nat) : Bool :=
  (0x1380000 ≤ a && a < 0x1400000) ||
  (let b := s.val64 Reg.NOC_CPWINBASELO Reg.NOC_CPWINBASEHI
   b ≤ a && a < b + s.val Reg.NOC_CPWINSIZE * 0x100000)

/-- Whether a core may make an access (R323). -/
def State.mayAccess (s : State) (k a v : Nat) (write : Bool) : Bool :=
  k < 6 || (match s.region a with
    | .regWindow => if write then partWrite a v else true
    | .sysSram => s.inCustomer a
    | .lpddr => s.inCustomer a
    | _ => false)

/-- A refused access: exception 0x03 in the core that made it, and source 0xFE3 (R323). -/
def State.accessFault (s : State) (k a : Nat) (write : Bool) : State :=
  (s.takeExc k 3 a write).event 0xFE3 (a % 2 ^ 32)

/-- A write of a register, with the checks every requester's write meets before the register's own rules. -/
def State.writeBy (s : State) (req : Requester) (a v : Nat) (eff : State → State) : State :=
  match req with
  | .core k =>
    if !s.mayAccess k a v true then s.accessFault k a true
    else if s.isOff a then s.offAccess req a true
    else eff s
  | _ => if s.isOff a then s.offAccess req a true else eff s

/-- The words a read returns, for the requester that made it. -/
def State.answer (s : State) (ws : List Nat) : State := { s with hif := { s.hif with rdata := ws } }

/-- A read of a register, with the checks every requester's read meets; `eff` gives what is read. -/
def State.readBy (s : State) (req : Requester) (a : Nat) (eff : State → State) : State :=
  match req with
  | .core k =>
    if !s.mayAccess k a 0 false then (s.accessFault k a false).answer [0]
    else if s.isOff a then (s.offAccess req a false).answer [0xBADC0FF0]
    else eff s
  | _ => if s.isOff a then (s.offAccess req a false).answer [0xBADC0FF0] else eff s

/-! ### Access types and ranges -/

/-- One field merged into an old word under its access type (R7); fields of type RWL take the value only in CONFIGURE. -/
def FieldDef.merge (f : FieldDef) (configure : Bool) (old new acc : Word) : Word :=
  let x := f.fld.of new
  let o := f.fld.of old
  match f.acc with
  | .rw => f.fld.into acc x
  | .rwl => if configure then f.fld.into acc x else acc
  | .w1c => f.fld.into acc (o &&& (2 ^ f.fld.width - 1 - x))
  | .w1s => f.fld.into acc (o ||| x)
  | .ro => acc
  | .wo => acc
  | .rc => acc

/-- The word a write leaves: each field by its access type, everything else as it was (R6, R7). -/
def RegDef.merge (d : RegDef) (configure : Bool) (old new : Word) : Word :=
  d.fields.foldl (fun acc f => f.merge configure old new acc) old

/-- Whether a field that the write would change is given a value inside its range. -/
def FieldDef.inRange (f : FieldDef) (configure : Bool) (new : Word) : Bool :=
  match f.acc with
  | .rw => f.min ≤ f.fld.of new && f.fld.of new ≤ f.max
  | .rwl => !configure || (f.min ≤ f.fld.of new && f.fld.of new ≤ f.max)
  | _ => true

/-- Whether every field is given a value inside its range and a base is aligned as its table says. -/
def RegDef.inRange (d : RegDef) (configure : Bool) (new : Word) : Bool :=
  d.fields.all (·.inRange configure new) &&
    ((!configure && d.fields.all (·.acc == .rwl)) || new.toNat % 2 ^ d.alignLog == 0)

/-- The reserved and out-of-range-proof form of a write: fields out of range keep their old value (R50's rule). -/
def RegDef.mergeKeeping (d : RegDef) (configure : Bool) (old new : Word) : Word :=
  d.fields.foldl (fun acc f => if f.inRange configure new then f.merge configure old new acc else acc) old

/-- Whether the device is in CONFIGURE, where RWL registers may be written (R7). -/
def State.configure (s : State) : Bool := s.sys.mode == .configure

/-- A plain register written: discarded with CFGERR when a value is out of its range, else merged by access type. -/
def State.plainWrite (s : State) (e : ErrReg) (a v : Nat) : State :=
  match findReg a with
  | none => s
  | some d =>
    let new := BitVec.ofNat 32 v
    if d.inRange s.configure new then s.setReg a (d.merge s.configure (s.reg a) new) else s.cfgErr e

end Sys2Proof.Machine
end

