-- ==== Sys2Proof/Machine/FrontEnd.lean ====
section
/-!
DEFINITION. The front end: modulators and their PLL, the auxiliary converter's sequences and data register, factory trim (R228-R244).
-/
namespace Sys2Proof.Machine

/-! ### Main modulators (R228-R232) -/

/-- Bit `c` of a mask set. -/
def maskSet (m c : Nat) : Nat := m ||| 2 ^ c

/-- Bit `c` of a mask cleared. -/
def maskClear (m c : Nat) : Nat := m - m / 2 ^ c % 2 * 2 ^ c

def State.chEnabled (s : State) (c : Nat) : Bool := bitAt (s.val Reg.AFE_MCHEN) c == 1

/-- Whether a channel delivers the alternating bit-stream with SETTLING (R230, R231). -/
def State.settling (s : State) (c : Nat) : Bool := !s.chEnabled c || !s.afe.modLock || bitAt s.afe.settle c == 1

/-- AFE.MCHSTAT: OVL now, and SETTLING; SETTLING reads 0 until the modulators are first clocked. -/
def State.mchstat (s : State) : Nat :=
  s.afe.ovl % 256 + (if s.afe.clocked then
    ((List.range 8).map (fun c => if s.settling c then 2 ^ (8 + c) else 0)).sum else 0)

/-- Every enabled modulator restarts (R231). -/
def State.restartModulators (s : State) : State :=
  { s with afe := { s.afe with settle := s.afe.settle ||| s.val Reg.AFE_MCHEN % 256, ovl := 0 } }

/-- In REFEREE and DORMANT the MOD clock is gated (R243). -/
def State.modGated (s : State) : Bool := s.sys.mode == .referee || s.sys.mode == .dormant

/-! ### The auxiliary converter's sequences (R237, R238) -/

def State.auxWord (s : State) (inj : Bool) (k : Nat) : Nat := if inj then s.val (Reg.AFE_AUXINJj k) else s.val (Reg.AFE_AUXREGk k)

/-- A conversion starts on the MOD edge stamped `x` (R239). -/
def State.auxStart (s : State) (inj : Bool) (k x : Nat) : State :=
  let w := s.auxWord inj k
  { s with afe := { s.afe with
    conv := some { inj := inj, entry := k, chan := w % 32, range := bitAt w 10, start := x } } }

/-- With no conversion running, what the sequences and pending triggers start next. An injected sequence that is pending starts
once the regular one is idle or between passes, or with URGENT at the end of any conversion. -/
def State.auxGo (s : State) (x : Nat) : State :=
  let a := s.afe
  if a.conv.isSome || !a.modLock || s.modGated then s
  else
    match a.injNext with
    | some j => s.auxStart true j x
    | none =>
      if a.injPend && (s.flag Reg.AFE_AUXCFG F.AFE_AUXCFG_URGENT || a.regNext.getD 0 == 0) then
        ({ s with afe := { a with injPend := false, injNext := some 0 } }).auxStart true 0 x
      else
        match a.regNext with
        | some k => s.auxStart false k x
        | none =>
          if a.regHeld then ({ s with afe := { a with regHeld := false, regNext := some 0 } }).auxStart false 0 x
          else s

/-- Triggers ignored: counted, with AUXMISS. -/
def State.auxMiss (s : State) (inj : Bool) (n : Nat) : State :=
  if n = 0 then s
  else (s.bumpBy (if inj then Reg.AFE_AUXINJMISS else Reg.AFE_AUXREGMISS) n).raise E.AFE 4

/-- A trigger of the regular or the injected sequence, with its crossing count (Table 11-5). -/
def State.auxTrigger (s : State) (inj : Bool) (count x : Nat) : State :=
  let a := s.afe
  let copying := (a.trim.map (·.copying)).getD false
  if s.modGated then s
  else if !s.flag Reg.AFE_AUXCFG F.AFE_AUXCFG_AUXEN then s.auxMiss inj count
  else if copying then ({ s with afe := { a with held := a.held ++ [inj] } }).auxMiss inj (count - 1)
  else if inj then
    if a.injNext.isSome || a.injPend then s.auxMiss true count
    else (({ s with afe := { a with injPend := true } }).auxMiss true (count - 1)).auxGo x
  else if a.regNext.isSome then s.auxMiss false count
  else if a.injNext.isSome || a.injPend then
    if a.regHeld then s.auxMiss false count
    else ({ s with afe := { a with regHeld := true } }).auxMiss false (count - 1)
  else (({ s with afe := { a with regNext := some 0 } }).auxMiss false (count - 1)).auxGo x

/-- RSTOP: the regular sequence ends when the conversion in progress ends. -/
def State.auxStop (s : State) : State :=
  if s.afe.regNext.isNone then s
  else if s.afe.conv.isSome then { s with afe := { s.afe with regStop := true } }
  else { s with afe := { s.afe with regNext := none, regStop := false } }

/-- AUXCMD written: with both start bits the injected sequence comes first. -/
def State.writeAuxcmd (s : State) (v x : Nat) : State :=
  let s1 := if bitAt v 1 = 1 then s.auxTrigger true 1 x else s
  let s2 := if bitAt v 0 = 1 then s1.auxTrigger false 1 x else s1
  if bitAt v 2 = 1 then s2.auxStop else s2

/-! ### Trim reload (R242) -/

/-- The reload's copy begins once no injected sequence runs or is pending. -/
def State.trimGo (s : State) : State :=
  match s.afe.trim with
  | some j =>
    if s.afe.injNext.isSome || s.afe.injPend then s
    else { s with afe := { s.afe with trim := some { j with copying := true } } }
  | none => s

/-- A reload asked for. -/
def State.trimRequest (s : State) (tag : Option Nat) : State :=
  ({ s with afe := { s.afe with trim := some { copying := false, tag := tag } } }).trimGo

def trimBody (tag : Nat) : CmdBody := fun s =>
  if s.afe.trim.isSome then (s, some (.busy, [])) else (s.trimRequest (some tag), none)

/-- TRIM_RELOAD: not legal in BOOT, REFEREE, DORMANT and LOCKOUT. -/
def State.trimReload (s : State) (h : CmdHdr) : State :=
  s.hostCmd 0x0B01 h true (s.sys.mode != .boot && s.sys.mode != .referee && s.sys.mode != .dormant && s.sys.mode != .lockout)
    false (trimBody h.tag)

/-- SYS.TRIMRELOAD written; a reload in progress is not asked for again. -/
def State.writeTrimreload (s : State) (v : Nat) : State :=
  if bitAt v 0 = 1 && s.afe.trim.isNone then s.trimRequest none else s

/-- Addresses of the trim registers: MTRIMcg and ATRIMr. -/
def trimAddrs : List Nat :=
  ((List.range 8).map (fun c => (List.range 5).map (fun g => Reg.AFE_MTRIMcg c g))).flatten ++ [Reg.AFE_ATRIMr 0, Reg.AFE_ATRIMr 1]

/-- The fuse words copied; one that fails its check leaves `old` of its register in place. -/
def State.copyTrim (s : State) (failed : List Nat) (old : Nat → Word) : State :=
  let s1 := trimAddrs.foldl (fun s a => s.setReg a (if failed.contains a then old a else Config.madeValue a)) s
  if failed.any trimAddrs.contains then s1.raise E.AFE 5 else s1

/-- The copy ends: new trim in force, TRIMSEQ, completion, and the triggers that were held. -/
def State.trimEnd (s : State) (failed : List Nat) (x : Nat) : State :=
  match s.afe.trim with
  | none => s
  | some j =>
    if !j.copying then s
    else
      let s1 := s.copyTrim failed s.reg
      let held := s1.afe.held
      let s2 := { s1 with afe := { s1.afe with trim := none, trimSeq := (s1.afe.trimSeq + 1) % 256, held := [] } }
      let s3 := match j.tag with
        | some tag => s2.complete 0x0B01 tag .ok []
        | none => s2
      let s4 := (held.filter (·)).foldl (fun s _ => s.auxTrigger true 1 x) s3
      (held.filter (fun b => !b)).foldl (fun s _ => s.auxTrigger false 1 x) s4

/-! ### Results (R234, R240, R241) -/

/-- VALUE of an input at `vin` picovolts: round(Vin / span * 2^24), ties to even, limited. -/
def auxValue (range : Nat) (vin : Int) : Nat :=
  let span : Nat := if range = 0 then 2500000000000 else 625000000000
  if vin < 0 then 0 else min (divRne (vin.toNat * 2 ^ 24) span) 0xFFFFFF

/-- Channels 24-26 always use RANGE 0. -/
def auxRange (chan range : Nat) : Nat := if 24 ≤ chan then 0 else range

/-- A result goes to AUXDATA with its start stamp. -/
def State.auxResult (s : State) (c : AuxConv) (vin : Int) : State :=
  let old := s.val Reg.AFE_AUXDATA
  let ovr := bitAt old 31
  let v := auxValue (auxRange c.chan c.range) vin
  let inj := if c.inj then 1 else 0
  let s1 := { s with afe := { s.afe with stamp := c.start } }
  let s2 := (s1.setVal Reg.AFE_AUXDATA (v + c.chan * 2 ^ 24 + inj * 2 ^ 29 + ovr * 2 ^ 30 + 2 ^ 31)).bump Reg.AFE_AUXCONV
  let s3 := if ovr = 1 then (s2.bump Reg.AFE_AUXOVRCNT).raise E.AFE 3 else s2
  if s3.flag Reg.AFE_CTL F.AFE_CTL_RESEV then s3.event 0x04E (c.chan + inj * 32 + ovr * 64) else s3

/-- The sequence record, when SEQEV asks for it. -/
def State.auxSeqEnd (s : State) (info : Nat) : State :=
  if s.flag Reg.AFE_CTL F.AFE_CTL_SEQEV then s.event 0x04F info else s

/-- Where the sequences stand after an entry: the injected one, or the regular one, whose pass ends with its last entry. -/
def State.auxAdvance (s : State) (c : AuxConv) : State :=
  let cfg := s.val Reg.AFE_AUXCFG
  if c.inj then
    if c.entry + 1 < bitsOf cfg 16 3 then { s with afe := { s.afe with injNext := some (c.entry + 1) } }
    else ({ s with afe := { s.afe with injNext := none } }).auxSeqEnd 1
  else if c.entry + 1 < bitsOf cfg 8 5 then { s with afe := { s.afe with regNext := some (c.entry + 1) } }
  else ({ s with afe := { s.afe with regNext := if bitAt cfg 1 = 1 then some 0 else none } }).auxSeqEnd 0

/-- RSTOP takes effect when the conversion in progress has ended. -/
def State.auxStopped (s : State) : State :=
  if s.afe.regStop then { s with afe := { s.afe with regStop := false, regNext := none } } else s

/-- A conversion ends: its result, the end of its sequence, and the next conversion. -/
def State.auxEnd (s : State) (vin : Int) (x : Nat) : State :=
  match s.afe.conv with
  | none => s
  | some c =>
    let s1 := ({ s with afe := { s.afe with conv := none } }).auxResult c vin
    ((s1.auxAdvance c).auxStopped.trimGo).auxGo x

/-- AUXDATA read: the result, with NEW and OVR cleared and the stamp latched for the requester. -/
def State.readAuxdata (s : State) (req : Requester) : State :=
  let v := s.val Reg.AFE_AUXDATA
  let s1 := { s with afe := { s.afe with latches := tput (fun _ => 0) s.afe.latches (latchKey req) s.afe.stamp } }
  (s1.setVal Reg.AFE_AUXDATA (v % 2 ^ 30)).answer [v]

/-- The stamp a requester has latched, in 1/128 ns of TAI. -/
def State.auxLatch (s : State) (req : Requester) : Nat := tget (fun _ => 0) s.afe.latches (latchKey req)

/-- AFE.STAT. -/
def State.afeStat (s : State) : Nat :=
  let a := s.afe
  let b := fun (x : Bool) (i : Nat) => if x then 2 ^ i else 0
  b a.modLock 0 + b a.conv.isSome 1 + b a.regNext.isSome 2 + b a.injNext.isSome 3 + b a.injPend 4 + b a.trim.isSome 5 +
    a.trimSeq % 256 * 2 ^ 8 + (a.conv.map (·.chan)).getD 0 * 2 ^ 16

/-! ### Clock gating (R230, R243) -/

/-- A conversion in progress is abandoned: no result, and its sequence goes on with the entry after it. -/
def State.auxAbandon (s : State) : State :=
  match s.afe.conv with
  | none => s
  | some c => (((({ s with afe := { s.afe with conv := none } }).auxAdvance c).auxStopped).trimGo)

/-- Entry to REFEREE or DORMANT: conversion abandoned, sequences idle, pending triggers dropped. -/
def State.afeGate (s : State) : State :=
  ({ s with afe := { s.afe with
    conv := none, regNext := none, regStop := false, regHeld := false, injNext := none, injPend := false, held := [] } }).trimGo

def State.modUnlock (s : State) : State :=
  ({ s with afe := { s.afe with modLock := false } }.restartModulators.auxAbandon).raise E.AFE 1

/-! ### Register writes (R231, R244) -/

/-- MCHEN written: a channel newly enabled restarts its modulator. -/
def State.writeMchen (s : State) (v : Nat) : State :=
  let old := s.val Reg.AFE_MCHEN % 256
  let s1 := s.plainWrite E.AFE Reg.AFE_MCHEN v
  let new := s1.val Reg.AFE_MCHEN % 256
  { s1 with afe := { s1.afe with settle := (s1.afe.settle ||| (new - (new &&& old))) &&& new, ovl := s1.afe.ovl &&& new } }

/-- AUXCFG written: refused while a conversion runs. -/
def State.writeAuxcfg (s : State) (v : Nat) : State :=
  if s.afe.conv.isSome then s.cfgErr E.AFE else s.plainWrite E.AFE Reg.AFE_AUXCFG v

/-! ### Commands -/

def execModPllUnlock (t : Nat) (s : State) : Host.Outcome State Fault Refusal :=
  s.liveAt t (fun s => if s.afe.modLock then s.modUnlock else s)

def State.modRelock (s : State) (x : Nat) : State :=
  ({ s with afe := { s.afe with modLock := true, clocked := true } }.restartModulators).auxGo x

def execModulatorOverload (t ch : Nat) (s : State) : Host.Outcome State Fault Refusal :=
  s.liveAt t (fun s =>
    if 8 ≤ ch || s.settling ch || bitAt s.afe.ovl ch = 1 then s
    else (({ s with afe := { s.afe with ovl := maskSet s.afe.ovl ch, settle := maskSet s.afe.settle ch } }).bump
      (Reg.AFE_MCHcOVLCNT ch)).raise E.AFE 2)

/-- The restart is over: SETTLING clears, and OVL of the overload that caused it. -/
def execModulatorSettled (t ch : Nat) (s : State) : Host.Outcome State Fault Refusal :=
  s.liveAt t (fun s =>
    if 8 ≤ ch || !s.afe.modLock then s
    else { s with afe := { s.afe with settle := maskClear s.afe.settle ch, ovl := maskClear s.afe.ovl ch } })

def stampOf (t frac : Nat) : Nat := t * 128 + frac % 128

def execRstart (req : Requester) (t frac : Nat) (s : State) : Host.Outcome State Fault Refusal :=
  s.liveAt t (fun s => s.writeBy req Reg.AFE_AUXCMD 1 (fun s => s.writeAuxcmd 1 (stampOf t frac)))

def execIstart (req : Requester) (t frac : Nat) (s : State) : Host.Outcome State Fault Refusal :=
  s.liveAt t (fun s => s.writeBy req Reg.AFE_AUXCMD 2 (fun s => s.writeAuxcmd 2 (stampOf t frac)))

def execRstop (req : Requester) (t : Nat) (s : State) : Host.Outcome State Fault Refusal :=
  s.liveAt t (fun s => s.writeBy req Reg.AFE_AUXCMD 4 (fun s => s.writeAuxcmd 4 (stampOf t 0)))

def execAuxConversionEnd (t frac : Nat) (vin : Int) (s : State) : Host.Outcome State Fault Refusal :=
  s.liveAt t (fun s => s.auxEnd vin (stampOf t frac))

def execAuxdataRead (req : Requester) (s : State) : Host.Outcome State Fault Refusal :=
  s.live (fun s => s.readBy req Reg.AFE_AUXDATA (fun s => s.readAuxdata req))

def execTrimReload (src : TrimSrc) (s : State) : Host.Outcome State Fault Refusal :=
  s.live (fun s =>
    match src with
    | .command h => s.trimReload h
    | .write req v => s.writeBy req Reg.SYS_TRIMRELOAD v (fun s => s.writeTrimreload v))

def execTrimCopyEnd (t frac : Nat) (failed : List Nat) (s : State) : Host.Outcome State Fault Refusal :=
  s.liveAt t (fun s => s.trimEnd failed (stampOf t frac))

end Sys2Proof.Machine
end

