-- ==== Sys2Proof/Machine/Chain.lean ====
section
/-!
DEFINITION. What the filter chain's registers say: orders, decimations, rates, output instants and delay of a channel (R245-R252).
-/
namespace Sys2Proof.Machine

/-- A 32-bit word as a signed number. -/
def sgn32 (v : Nat) : Int := if 2 ^ 31 ≤ v % 2 ^ 32 then (v % 2 ^ 32 : Nat) - 2 ^ 32 else (v % 2 ^ 32 : Nat)

/-- A signed number as a 32-bit word. -/
def word32 (x : Int) : Nat := (x % 2 ^ 32).toNat

/-- The nearest integer to n / d, halves to even (R248). -/
def ratRne (n : Int) (d : Nat) : Int := if 0 ≤ n then (divRne n.toNat d : Int) else -(divRne (-n).toNat d : Int)

/-- Nominal MODCLK frequency in Hz (R230). -/
def modHz : Nat := 24576000

def State.chCfg (s : State) (c : Nat) : Nat := s.val (Reg.FLT_CHcCFG c)

/-- CIC order N. -/
def cicN (cfg : Nat) : Nat := 3 + bitsOf cfg 0 2

/-- CIC decimation R. -/
def cicR (cfg : Nat) : Nat := bitsOf cfg 2 10

/-- FIR decimation. -/
def firD (cfg : Nat) : Nat := 2 ^ bitsOf cfg 12 2

def isFixed (cfg : Nat) : Bool := bitAt cfg 14 == 1

/-- Samples per nominal cycle. -/
def spcOf (cfg : Nat) : Nat := 64 * 2 ^ bitsOf cfg 15 2

/-- MOD cycles per tap-0 sample; the tap-0 rate is MODCLK over this. -/
def tap0Div (cfg : Nat) : Nat := cicR cfg * firD cfg

/-- f_nom. -/
def State.fltNom (s : State) : Nat := if s.flag Reg.FLT_CFG F.FLT_CFG_F60 then 60 else 50

/-- F_out of a channel in Hz (R249). -/
def State.fOut (s : State) (c : Nat) : Nat :=
  if isFixed (s.chCfg c) then s.val (Reg.FLT_CHcFIX c) % 65536 else spcOf (s.chCfg c) * s.fltNom

/-- The signed 13 bits of PTRIM. -/
def ptrimOf (v : Nat) : Int := if 4096 ≤ v % 8192 then (v % 8192 : Nat) - 8192 else (v % 8192 : Nat)

def State.ptrim (s : State) (c : Nat) : Int := ptrimOf (s.val (Reg.FLT_CHcPTRIM c))

/-- D of a channel in ns (R252). -/
def State.chLat (s : State) (c : Nat) : Nat :=
  let cfg := s.chCfg c
  let cycles2 := cicN cfg * (cicR cfg - 1) + 63 * cicR cfg + 26 * cicR cfg * firD cfg
  let f := s.fOut c
  -- D = cycles2 / (2 modHz) s + PTRIM / (1024 F_out) s + 1000 ns
  divRne (cycles2 * 1000000000 * 1024 * f + (s.ptrim c).toNat * 1000000000 * 2 * modHz + 1000 * 2 * modHz * 1024 * f)
    (2 * modHz * 1024 * f)

/-- Output instant n of TAI second `sec` at rate `f`, in 2^-16 ns (R249). -/
def outInst (f sec n : Nat) : Nat := sec * 1000000000 * 65536 + divRne (n * 1000000000 * 65536) f

/-- The output instant after (second, n). -/
def nextOut (f sec n : Nat) : Nat × Nat := if f ≤ n + 1 then (sec + 1, 0) else (sec, n + 1)

/-- The first output instant at or after a time in 2^-16 ns, as (second, n). -/
def firstOut (f x : Nat) : Nat × Nat :=
  let sec := x / (1000000000 * 65536)
  let r := x % (1000000000 * 65536)
  let n := r * f / (1000000000 * 65536)
  if x ≤ outInst f sec n then (sec, n)
  else if x ≤ outInst f sec (n + 1) && n + 1 < f then (sec, n + 1)
  else if n + 2 < f then (sec, n + 2)
  else (sec + 1, 0)

end Sys2Proof.Machine
end

