-- ==== Sys2Proof/Machine/Ledger.lean ====
section
/-!
DEFINITION. The ledger cartridge: R372-R391, R475; and the key slots' image that it carries (R404).
-/
namespace Sys2Proof.Machine

/-- A key slot; slots 0 and 1 hold what the fuses give (R394). -/
def State.slot (s : State) (k : Nat) : KeySlot :=
  if k < 2 then { material := Config.fuseKey k, use := 3, alg := 2, gen := 0, valid := true }
  else tget (fun _ => {}) s.key.slots k

/-- The attribute word of a slot (Table 19-1). -/
def KeySlot.attr (k : KeySlot) : Nat :=
  k.use + k.alg * 4 + k.gen * 256 + (if k.valid then 2 ^ 31 else 0)

/-- The device ID: four words from the fuses (R394). -/
def State.deviceId (s : State) : Nat :=
  (s.val (Reg.KEY_DEVIDk 0)) + s.val (Reg.KEY_DEVIDk 1) * 2 ^ 32 + s.val (Reg.KEY_DEVIDk 2) * 2 ^ 64
    + s.val (Reg.KEY_DEVIDk 3) * 2 ^ 96

/-- Key material as 32 bytes. -/
def KeySlot.bytes32 (k : KeySlot) : List Byte := (k.material ++ List.replicate 32 0).take 32

/-- The key of a slot, of the length its algorithm has. -/
def KeySlot.key (k : KeySlot) : List Byte := if k.alg = 0 then k.bytes32.take 16 else k.bytes32

/-- The valid mark of R377 over some bytes. -/
def validMark (l : List Byte) : List Byte := words [0, crc32c l ^^^ 0xA65EA1ED]

/-- The key image as the slots stand (R404). -/
def State.keyImage (s : State) : List Byte :=
  let head := words [0xA6B7 + 2 ^ 16, s.key.imageNo, s.key.low, 0] ++ leBytes 16 s.deviceId ++ List.replicate 32 0
  let attrs := ((List.range 256).map (fun k => leBytes 4 (s.slot k).attr)).flatten
  let mats := ((List.range 254).map (fun k => (s.slot (k + 2)).bytes32)).flatten
  let body := head ++ attrs ++ mats
  let full := body ++ List.replicate (0x2FF8 - body.length) 0
  full ++ validMark full

/-- The image's position among the 85 of the key area, used in turn (R404). -/
def keyImageAt (imageNo : Nat) : Nat := 0x100000 + imageNo % 85 * 12288

/-- LDG.STAT.CSTATE codes. -/
def CState.code : CState → Nat
  | .absent => 0 | .attaching => 1 | .active => 2 | .ejecting => 3 | .ejected => 4

/-- A change of cartridge state posts source 0x1D0 (R385). -/
def State.setCState (s : State) (c : CState) : State :=
  ({ s with ldg := { s.ldg with cstate := c } }).event 0x1D0 c.code

/-- The command that waits on the cartridge completes. -/
def State.completeLedger (s : State) (st : Status) : State :=
  match s.ldg.cmd with
  | some (code, tag, _, _) => ({ s with ldg := { s.ldg with cmd := none } }).complete code tag st []
  | none => s

/-- LC_PWR switched. A settings generation kept for a fallback is lost with the cartridge (R418, R421). -/
def State.lcPwr (s : State) (on : Bool) : State :=
  { s with ldg := { s.ldg with lcPwr := on }, upd := { s.upd with keptGen := if on then s.upd.keptGen else none } }

/-- An attach that fails: power off, ABSENT, the command completes (Table 18-4). -/
def State.failAttach (s : State) (st : Status) : State :=
  ((({ s with ldg := { s.ldg with ident := none, atStartup := false } }).lcPwr false).setCState .absent).completeLedger st

/-- An attach begins: LC_PWR on, the identity is read next (Table 18-4). -/
def State.beginAttach (s : State) : State :=
  (({ s with ldg := { s.ldg with ident := none, formatted := false } }).lcPwr true).setCState .attaching

/-- What the device must get from the cartridge: R = HMAC-SHA256(Kc, C || cartridge ID), none when slot AUTHSLOT is unfit (R373). -/
def State.expectedAnswer (s : State) (cid : Nat) : Option (List Byte) :=
  let k := s.slot (s.val Reg.LDG_CFG % 256)
  if k.valid && k.use == 3 && k.alg == 2 then
    let idb := beBytes 16 cid
    let kc := hmacSha256 k.bytes32 ([0x4C, 0x43] ++ idb)
    some (hmacSha256 kc (Config.challenge s.now (s.val Reg.LDG_ATTACHES) ++ idb))
  else none

/-- The identity mirror: owner, cartridge ID, format time, page number of the last seal (R374; the offsets are the model's,
notes/assumptions/14). -/
def mirrorBytes (owner cid time sealPage : Nat) : List Byte :=
  leBytes 16 owner ++ leBytes 16 cid ++ leBytes 8 time ++ leBytes 8 sealPage

/-! ### Replay (R382) -/

/-- A page's number if it is a valid journal page: MAGIC and header CRC good. -/
def pageValid (magic : Nat) (p : List Byte) : Option Nat :=
  if leAt p 0 2 = magic && leAt p 12 4 = crc32c (p.take 12 ++ p.drop 16) then some (leAt p 4 8) else none

/-- The ring slots of the journal that hold anything, from the content's keys (rising). -/
def usedSlots : Mem → List Nat
  | [] => []
  | (k, _) :: r =>
    let rest := usedSlots r
    if 0x4000000 ≤ k && k < 0x804000000 then
      let i := (k - 0x4000000) / 4096
      if rest.head? = some i then rest else i :: rest
    else rest

/-- Walk back from page `p` while the pages before it are valid and contiguous. -/
def walkBack (good : List Nat) : Nat → Nat → Nat
  | 0, p => p
  | n + 1, p => if p ≠ 0 && good.contains (p - 1) then walkBack good n (p - 1) else p

/-- Records parsed from a stream position: SEQs delivered, invalid records counted, and where parsing stopped. -/
def parseRecs (st : List Byte) : Nat → Nat → List Nat × Bool
  | 0, _ => ([], false)
  | n + 1, i =>
    let len := leAt st i 2
    if st.length < i + 16 || len = 0 then ([], false)
    else if len < 16 || 4096 < len || len % 8 ≠ 0 then ([], true)
    else if st.length < i + len + 8 then ([], false)
    else
      let body := sliceOf st i (len + 4)
      if leAt st (i + len + 4) 4 = crc32c body ^^^ 0xA65EA1ED then
        let (q, bad) := parseRecs st n (i + len + 8)
        (leAt st (i + 4) 4 :: q, bad)
      else ([], true)

/-- Replay of the journal: JSEQ, the next page number and the invalid records counted (R382). -/
def State.replay (s : State) : State :=
  let cart := s.ldg.cart
  let pages := (usedSlots cart).filterMap (fun i =>
    let p := cart.bytes (0x4000000 + i * 4096) 4096
    match pageValid 0xA6D1 p with
    | some n => if n % 8388608 = i then some (n, p) else none
    | none => none)
  let nums := pages.map (·.1)
  match nums.foldl (fun (m : Option Nat) n => match m with
      | none => some n
      | some x => some (max x n)) none with
  | none => s
  | some p =>
    let start := walkBack nums pages.length p
    let run := (List.range (p - start + 1)).map (fun k => ((pages.find? (·.1 == start + k)).map (·.2)).getD [])
    let stream := (run.map (·.drop 16)).flatten
    let firsts := (List.range run.length).filterMap (fun k =>
      let f := leAt (run.getD k []) 2 2
      if f = 0xFFFF then none else some (k * 4080 + (f - 16)))
    let res := firsts.map (fun i => parseRecs stream 512 i)
    let bad := (res.filter (·.2)).length
    let top := (res.map (·.1)).flatten.foldl max 0
    ({ s with ldg := { s.ldg with
        jseq := (top + 1) % 2 ^ 32, nextPage := p + 1,
        committed := (p + 1) * 4080, stagedEnd := (p + 1) * 4080, staged := [], done := [] } }).bumpBy Reg.LDG_INVALIDREC bad

/-! ### Attaching -/

/-- The identity is read in ATTACHING: no answer, another model, authentication, the mirror's owner, formatting (R373, R385). -/
def State.readIdentity (s : State) (resp : Option CartIdent) : State :=
  match resp with
  | none => s.failAttach .absent
  | some c =>
    if c.model ≠ 0x0256 then (s.raise E.LDG 11).failAttach .version
    else if s.expectedAnswer c.cid ≠ some c.answer then
      ((s.raise E.LDG 1).bump Reg.LDG_AUTHFAIL).failAttach .auth
    else
      let format := match s.ldg.cmd with
        | some (_, _, _, f) => f
        | none => false
      if c.owner.isSome && c.owner ≠ some s.deviceId && !format then (s.raise E.LDG 2).failAttach .arg
      else
        let blank := c.owner.isNone || format
        let content : Mem :=
          if blank then Mem.putBytes [] 0 (mirrorBytes s.deviceId c.cid s.ns 0) else c.content
        let s1 := { s with ldg := { s.ldg with
          ident := some c, cart := content, formatted := blank, wear := c.wear, worn := false } }
        let s2 := (((s1.setVal (Reg.LDG_CIDk 0) (c.cid % 2 ^ 32)).setVal (Reg.LDG_CIDk 1) (c.cid / 2 ^ 32 % 2 ^ 32)).setVal
          (Reg.LDG_CIDk 2) (c.cid / 2 ^ 64 % 2 ^ 32)).setVal (Reg.LDG_CIDk 3) (c.cid / 2 ^ 96 % 2 ^ 32)
        let s3 := s2.setVal Reg.LDG_MODEL c.model
        let s4 := s3.wearReport 0 c.wear true
        if s4.ldg.atStartup && !blank then s4.replay else s4

/-- The settings that re-seeding writes: the unit's own, or with PEER those of its last state transfer (R386). -/
def State.seedSettings (s : State) : List Byte :=
  match s.ldg.cmd with
  | some (_, _, true, _) => s.chd.peerSettings
  | _ => s.ldg.settings

/-- Whether a number `a` is later than `b` under serial comparison modulo 2^32. -/
def serialAfter (a b : Nat) : Bool := 0 < (a + 2 ^ 32 - b) % 2 ^ 32 && (a + 2 ^ 32 - b) % 2 ^ 32 < 2 ^ 31

/-- A save page: the image, zeros, the valid mark (R377). -/
def savePage (image : List Byte) : List Byte :=
  let l := image ++ List.replicate (4088 - image.length) 0
  l ++ validMark l

/-- The address of an energy save slot on the cartridge (Table 18-1). -/
def saveSlotAt (slot : Nat) : Nat := if slot = 0 then 0x200000 else 0x300000

/-- The image in a page of a save slot, if MAGIC, VERSION, CRC and the valid mark are good: its SAVESEQ and bytes (R280, R377). -/
def saveImageAt (cart : Mem) (slot page : Nat) : Option (Nat × List Byte) :=
  let p := cart.bytes (saveSlotAt slot + page * 4096) 4096
  let im := p.take 456
  if leAt im 0 2 == 0xA6E5 && leAt im 2 1 == 1 && leAt im 0x1C0 4 == crc32c (im.take 0x1C0) && p.drop 4088 == validMark (p.take 4088)
  then some (leAt im 4 4, im) else none

/-- The latest valid save of a slot: its page, SAVESEQ and image (R377). -/
def latestSave (cart : Mem) (slot : Nat) : Option (Nat × Nat × List Byte) :=
  (List.range 256).foldl (fun (best : Option (Nat × Nat × List Byte)) page =>
    match saveImageAt cart slot page, best with
    | some (q, im), none => some (page, q, im)
    | some (q, im), some (_, b, _) => if serialAfter q b then some (page, q, im) else best
    | none, _ => best) none

/-- Where the next save to a slot goes: the page after its latest valid one, wrapping after page 255 (R377). -/
def nextSaveAt (cart : Mem) (slot : Nat) : Nat :=
  saveSlotAt slot + (match latestSave cart slot with
    | some (page, _) => (page + 1) % 256 * 4096
    | none => 0)

/-- A save being written to the cartridge fails: SAVEFAIL, and its slot keeps no valid save (R278, R283). -/
def State.loseSave (s : State) : State :=
  match s.mtr.save with
  | some (.write _ _ slot _ true) =>
    let a := saveSlotAt slot
    ({ s with mtr := { s.mtr with save := none }, ldg := { s.ldg with
      cart := s.ldg.cart.filter (fun c => c.1 < a || a + 0x100000 ≤ c.1) } }).raise E.MTR 2
  | _ => s

/-- The ATTACH record's payload (R475). -/
def State.attachPayload (s : State) (c : CartIdent) : List Byte :=
  let peer := match s.ldg.cmd with
    | some (_, _, p, _) => p
    | none => false
  leBytes 16 c.cid ++ words [c.model + (if s.ldg.formatted then 2 ^ 16 else 0) + (if peer then 2 ^ 17 else 0)
    + (if s.ldg.atStartup then 2 ^ 18 else 0), s.ldg.wear] ++ leBytes 8 (if s.ldg.formatted then 0 else c.sealPage)

/-- Re-seeding in its order: keys, save slots, settings, fallback pages; then ACTIVE, with the ATTACH record (R386, R475). -/
def State.reseed (s : State) : State :=
  match s.ldg.cstate, s.ldg.ident with
  | .attaching, some c =>
    let l := s.ldg
    let c1 := l.cart.putBytes (keyImageAt s.key.imageNo) s.keyImage
    let c2 := if l.save.isEmpty then c1
      else (c1.putBytes (nextSaveAt c1 0) (savePage l.save)).putBytes (nextSaveAt c1 1) (savePage l.save)
    let c3 := c2.putBytes 0x400000 s.seedSettings
    let c4 := l.fbPages.foldl (fun m p =>
      Mem.putBytes m (0x4000000 + p % 8388608 * 4096) (s.devBytes (s.fbBase + p % 1048576 * 4096) 4096)) c3
    let bytes := 12288 + (if l.save.isEmpty then 0 else 8192) + s.seedSettings.length + 4096 * l.fbPages.length
    let s1 := ({ s with ldg := { l with cart := c4, fbPages := [], fbStarts := [] } }).wearBy bytes
    let s2 := (s1.bump Reg.LDG_ATTACHES).setCState .active
    let s3 := s2.offer 0x1803 (s2.attachPayload c)
    let s4 := { s3 with key := { s3.key with imgValid := true }, ldg := { s3.ldg with atStartup := false } }
    s4.completeLedger .ok
  | _, _ => s

/-! ### Leaving -/

/-- Surprise removal, from ACTIVE or in EJECTING (R385, R387, R390). -/
def State.surprise (s : State) : State :=
  let ej := s.ldg.cstate == .ejecting
  let s1 := (((s.raise E.LDG 3).loseSave).lcPwr false).setCState .absent
  let s2 := { s1 with ldg := { s1.ldg with ident := none, sealEnd := 0, ejectFrom := none, copy := none } }
  if ej then s2.completeLedger .absent else s2

/-- A flush of the journal. A cartridge without power refuses the write (R380, R385). -/
def State.flush (s : State) : State :=
  (if s.ldg.toCart && !s.ldg.lcPwr then s.surprise else s).flushJournal

/-- The seal: its record staged as the last of the flush, which pads its page (R380, R387). -/
def State.stageSeal (s : State) : State :=
  let l := s.ldg
  let lastSeq := (l.jseq + 2 ^ 32 - 1) % 2 ^ 32
  let endPos := l.stagedEnd + 40
  let page := l.nextPage + (endPos - 1 - l.committed) / 4080
  let s1 := s.stage 0x1802 (leBytes 4 lastSeq ++ leBytes 8 page ++ leBytes 4 0) false
  let fin := l.committed + ((endPos - l.committed + 4079) / 4080) * 4080
  { s1 with ldg := { s1.ldg with stagedEnd := fin, sealEnd := fin } }

/-- A poll of the identity element: PRESENT, and removal after 3 silent polls (R475, R385). -/
def State.poll (s : State) (answered : Bool) : State :=
  let l := s.ldg
  if answered then
    let s1 := { s with ldg := { l with silent := 0, present := true } }
    if l.present then s1 else s1.event 0x1D3 1
  else
    let n := l.silent + 1
    let s1 := { s with ldg := { l with silent := min n 3 } }
    if n < 3 then s1
    else
      let s2 := if l.present then ({ s1 with ldg := { s1.ldg with present := false } }).event 0x1D3 0 else s1
      match l.cstate with
      | .active => s2.surprise
      | .ejecting => s2.surprise
      | .ejected => ({ s2 with ldg := { s2.ldg with ident := none } }).setCState .absent
      | .absent => s2
      | .attaching => s2

/-! ### The commands -/

/-- Modes in which LEDGER_EJECT, LEDGER_ACCEPT and KEY_UPDATE are legal: all but BOOT and DORMANT (R388, R402). -/
def State.notBootDormant (s : State) : Bool := s.sys.mode != .boot && s.sys.mode != .dormant

/-- LEDGER_ACCEPT's own rules (R385, R386, R388). -/
def acceptBody (h : CmdHdr) : CmdBody := fun s =>
  match s.ldg.cstate with
  | .attaching => (s, some (.busy, []))
  | .ejecting => (s, some (.busy, []))
  | .active => (s, some (.state, []))
  | _ =>
    if h.peer && !s.chd.hadTransfer then (s, some (.arg, []))
    else (({ s with ldg := { s.ldg with cmd := some (0x0702, h.tag, h.peer, h.format) } }).beginAttach, none)

def State.ledgerAccept (s : State) (h : CmdHdr) : State :=
  s.hostCmd 0x0702 h true s.notBootDormant false (acceptBody h)

/-- LEDGER_ACCEPT (R385, R388). -/
def execLedgerAccept (h : CmdHdr) (s : State) : Host.Outcome State Fault Refusal :=
  s.live (fun s => s.ledgerAccept h)

/-- LEDGER_EJECT's own rules: a save being written is abandoned, the seal staged (R387, R388). -/
def ejectBody (h : CmdHdr) : CmdBody := fun s =>
  match s.ldg.cstate with
  | .attaching => (s, some (.busy, []))
  | .ejecting => (s, some (.busy, []))
  | .absent => (s, some (.absent, []))
  | .ejected => (s, some (.absent, []))
  | .active =>
    let s0 := s.loseSave
    let s1 := { s0 with ldg := { s0.ldg with cmd := some (0x0701, h.tag, false, false), ejectFrom := some s0.ns } }
    ((s1.stageSeal).setCState .ejecting, none)

def State.ledgerEject (s : State) (h : CmdHdr) : State :=
  s.hostCmd 0x0701 h true s.notBootDormant false (ejectBody h)

/-- LEDGER_EJECT (R387, R388). -/
def execLedgerEject (h : CmdHdr) (s : State) : Host.Outcome State Fault Refusal :=
  s.live (fun s => s.ledgerEject h)

/-- A poll of the identity element; none is made in DORMANT (R475). -/
def execIdentityPoll (t : Nat) (answered : Bool) (s : State) : Host.Outcome State Fault Refusal :=
  s.liveAt t (fun s => if s.sys.mode = .dormant then s else s.poll answered)

/-- The identity is read in ATTACHING (R373, R385). -/
def execIdentityRead (t : Nat) (resp : Option CartIdent) (s : State) : Host.Outcome State Fault Refusal :=
  s.liveAt t (fun s => if s.ldg.cstate = .attaching && s.ldg.ident.isNone then s.readIdentity resp else s)

/-- Re-seeding completes (R386). -/
def execReseedComplete (t : Nat) (s : State) : Host.Outcome State Fault Refusal :=
  s.liveAt t (fun s => s.reseed)

/-- The seal committed: the mirror takes its page number, LC_PWR goes off. A cartridge without power refuses the page (R385, R387). -/
def State.sealed (s : State) : State :=
  let s1 := s.flushJournal
  let page := s1.ldg.nextPage - 1
  let cid := (s1.ldg.ident.map (·.cid)).getD 0
  let s2 := { s1 with ldg := { s1.ldg with
    cart := s1.ldg.cart.putBytes 0 (mirrorBytes s1.deviceId cid s1.ns page)
    sealEnd := 0, ejectFrom := none } }
  ((s2.lcPwr false).setCState .ejected).completeLedger .ok

def execSealCommitted (t : Nat) (s : State) : Host.Outcome State Fault Refusal :=
  s.liveAt t (fun s => if s.ldg.cstate ≠ .ejecting then s else if s.ldg.lcPwr then s.sealed else s.surprise)

/-- EJECT_T passes before the seal: power is cut, staged pages go to the fallback ring (R387). -/
def execEjectTExpiry (t : Nat) (s : State) : Host.Outcome State Fault Refusal :=
  s.liveAt t (fun s =>
    match s.ldg.cstate, s.ldg.ejectFrom with
    | .ejecting, some x =>
      if x + s.val Reg.LDG_EJECT_T % 65536 * 1000000 ≤ s.ns then
        ((({ s with ldg := { s.ldg with sealEnd := 0, ejectFrom := none } }).lcPwr false).setCState .ejected).completeLedger
          .timeout
      else s
    | _, _ => s)

/-- LC_PWR at its current limit for 1 ms: switched off, PWRFLT; an attach in progress ends (R385). -/
def execLcPwrOvercurrent (t : Nat) (s : State) : Host.Outcome State Fault Refusal :=
  s.liveAt t (fun s =>
    if !s.ldg.lcPwr then s
    else
      let s1 := (s.lcPwr false).raise E.LDG 4
      if s1.ldg.cstate = .attaching then s1.failAttach .absent else s1)

/-- A ledger record is offered (R381). -/
def execRecordOffer (type : Nat) (payload : List Byte) (s : State) : Host.Outcome State Fault Refusal :=
  s.live (fun s => s.offer type payload)

/-- COMMIT_T after the page's first byte was staged, the page is committed (R380). -/
def execCommitTExpiry (t : Nat) (s : State) : Host.Outcome State Fault Refusal :=
  s.liveAt t (fun s =>
    match s.ldg.pageFrom with
    | some x =>
      if s.ns < x + s.val Reg.LDG_COMMIT_T % 1024 * 1000000 then s
      else if s.ldg.toCart && !s.ldg.lcPwr then s.surprise
      else s.commitPage
    | none => s)

/-- A full page, or a page of an eject's flush, is committed; a cartridge that refuses the write is a surprise removal (R380, R385). -/
def execPageCommit (t : Nat) (refused : Bool) (s : State) : Host.Outcome State Fault Refusal :=
  s.liveAt t (fun s =>
    if s.ldg.stagedEnd < s.ldg.committed + 4080 then s
    else if s.ldg.toCart && (refused || !s.ldg.lcPwr) then s.surprise
    else s.commitPage)

/-- LDG.RDCMD written: START begins a copy; CFGERR while one runs or outside ACTIVE (R391). -/
def State.writeRdcmd (s : State) (v : Nat) : State :=
  if bitAt v 0 = 0 then s
  else if s.ldg.copy.isSome || s.ldg.cstate ≠ .active then s.cfgErr E.LDG
  else { s with ldg := { s.ldg with
    copy := some (s.val64 Reg.LDG_RDSRCLO Reg.LDG_RDSRCHI, s.val64 Reg.LDG_RDDSTLO Reg.LDG_RDDSTHI,
      s.val Reg.LDG_RDLEN % 2 ^ 19) } }

def execRdcmd (req : Requester) (value : Nat) (s : State) : Host.Outcome State Fault Refusal :=
  s.live (fun s => s.writeBy req Reg.LDG_RDCMD value (fun s => s.writeRdcmd value))

/-- Whether a page of the journal or history area is invalid (R379). -/
def badPage (cart : Mem) (a : Nat) : Bool :=
  if 0x4000000 ≤ a && a < 0x804000000 then (pageValid 0xA6D1 (cart.bytes a 4096)).isNone
  else if 0x804000000 ≤ a && a < 0x3004000000 then (pageValid 0xA6D2 (cart.bytes a 4096)).isNone
  else false

/-- Pages copied one after another. -/
def copyPages (cart : Mem) : Nat → Nat → Nat → Mem → Mem
  | 0, _, _, m => m
  | n + 1, src, dst, m => copyPages cart n (src + 4096) (dst + 4096) (m.putBytes dst (cart.bytes src 4096))

/-- A read copy completes: the pages are in LPDDR5X, source 0x1D2 is posted; RDERR when a page was invalid (R391). -/
def execReadCopyDone (s : State) : Host.Outcome State Fault Refusal :=
  s.live (fun s =>
    match s.ldg.copy with
    | none => s
    | some (src, dst, n) =>
      let bad := (List.range n).any (fun i => badPage s.ldg.cart (src + 4096 * i))
      let s1 := { s with devMem := copyPages s.ldg.cart n src dst s.devMem, ldg := { s.ldg with copy := none } }
      let s2 := if bad then s1.raise E.LDG 10 else s1
      s2.event 0x1D2 0)

end Sys2Proof.Machine
end

