-- ==== Sys2Proof/Machine/Capture.lean ====
section
/-!
DEFINITION. The capture engine: arming, frames and reduction, triggers and marks, mask tests, records, archive (R285-R302).
-/
namespace Sys2Proof.Machine

def State.buf (s : State) (b : Nat) : CapBuf := tget (fun _ => {}) s.cap.bufs b

def State.setBuf (s : State) (b : Nat) (x : CapBuf) : State :=
  { s with cap := { s.cap with bufs := tput (fun _ => {}) s.cap.bufs b x } }

def CapState.code : CapState → Nat
  | .idle => 0 | .armed => 1 | .post => 2 | .stopped => 3 | .archiving => 4

def CapState.running : CapState → Bool
  | .armed => true | .post => true | _ => false

def CapState.held : CapState → Bool
  | .stopped => true | .archiving => true | _ => false

/-! ### Configuration of a buffer (R285-R288) -/

def State.capSrc (s : State) (b : Nat) : Nat := s.fld (Reg.CAP_BnCFG b) F.CAP_BnCFG_SRC

def State.capRed (s : State) (b : Nat) : Nat := s.fld (Reg.CAP_BnCFG b) F.CAP_BnCFG_RED

def State.capDepth (s : State) (b : Nat) : Nat := s.val (Reg.CAP_BnDEPTH b) % 2 ^ 24

def State.capPost (s : State) (b : Nat) : Nat := s.val (Reg.CAP_BnPOST b) % 2 ^ 24

/-- Main channels of a SRC 0 or 1 buffer, ascending. -/
def State.capChans (s : State) (b : Nat) : List Nat :=
  (List.range 8).filter (fun c => bitAt (s.val (Reg.CAP_BnCHAN b)) c == 1)

/-- Entries of a SRC 2 buffer, ascending: the words of BnSNAPk with VALID set. -/
def State.capSnaps (s : State) (b : Nat) : List Nat :=
  ((List.range 16).map (fun k => s.val (Reg.CAP_BnSNAPk b k))).filter (fun w => bitAt w 31 == 1)

def State.capNch (s : State) (b : Nat) : Nat := if s.capSrc b = 2 then (s.capSnaps b).length else (s.capChans b).length

/-- The reduction kind for a mode: 0 raw, 1 minimum and maximum, 2 averaging. -/
def State.capKind (s : State) (b : Nat) : Nat :=
  if s.capRed b ≤ 1 || s.capSrc b = 2 then 0
  else match s.sys.mode with
    | .serve => 1 | .shadow => 1 | .trial => 1 | _ => 2

/-- Bytes of a frame. -/
def State.frameB (s : State) (b kind : Nat) : Nat :=
  4 + (if s.capSrc b = 2 || kind = 1 then 8 else 4) * s.capNch b

/-- A buffer's part of the region: offset and size in bytes. -/
def State.capPart (s : State) (b : Nat) : Nat × Nat :=
  let w := s.val (Reg.CAP_BnREGION b)
  (w % 4096 * 0x100000, bitsOf w 16 13 * 0x100000)

/-- Address of a buffer's record header in LPDDR5X. -/
def State.capAddr (s : State) (b : Nat) : Nat := s.val64 Reg.CAP_BASELO Reg.CAP_BASEHI + (s.capPart b).1

def partsMeet (p q : Nat × Nat) : Bool := p.1 < q.1 + q.2 && q.1 < p.1 + p.2

/-- Frame rate of a SRC 1 or 2 buffer before reduction, in Hz. -/
def State.capRate (s : State) (b : Nat) : Nat :=
  if s.capSrc b = 2 then s.fld (Reg.SNAP_SCnCFG (s.fld (Reg.CAP_BnCFG b) F.CAP_BnCFG_SC)) F.SNAP_SCnCFG_RATE
  else s.fOut ((s.capChans b).headD 0)

/-- The nominal sample period of a buffer in 2^-16 ns; that of tap 0 from nominal MODCLK. -/
def State.capPeriod (s : State) (b : Nat) : Nat :=
  if s.capSrc b = 0 then divRne (tap0Div (s.chCfg ((s.capChans b).headD 0)) * 1000000000 * 65536) modHz
  else divRne (1000000000 * 65536) (s.capRate b)

/-- All of a list agree on a value. -/
def allSame (f : Nat → Nat) : List Nat → Bool
  | [] => true
  | c :: cs => cs.all (fun d => f d == f c)

/-- The conditions of R286 on a buffer's source. -/
def State.capSourceOk (s : State) (b : Nat) : Bool :=
  let cs := s.capChans b
  match s.capSrc b with
  | 0 => !cs.isEmpty && cs.all s.chEnabled && allSame (fun c => tap0Div (s.chCfg c)) cs
  | 1 => !cs.isEmpty && cs.all s.chEnabled && allSame (fun c => if isFixed (s.chCfg c) then 1 else 0) cs && allSame s.fOut cs
  | 2 => s.flag (Reg.SNAP_SCnCFG (s.fld (Reg.CAP_BnCFG b) F.CAP_BnCFG_SC)) F.SNAP_SCnCFG_EN && s.capRed b == 1 &&
      !(s.capSnaps b).isEmpty
  | _ => false

def State.maskAct (s : State) (b : Nat) : Nat := s.fld (Reg.CAP_BnMASK b) F.CAP_BnMASK_MASKACT

def State.maskCh (s : State) (b : Nat) : Nat := s.fld (Reg.CAP_BnMASK b) F.CAP_BnMASK_MCH

/-- The conditions of R295 on a buffer's mask test. -/
def State.capMaskOk (s : State) (b : Nat) : Bool :=
  s.maskAct b == 0 || (s.capSrc b == 1 && (s.capChans b).contains (s.maskCh b) && !isFixed (s.chCfg (s.maskCh b)))

/-- Whether a buffer may be armed together with the others of a mask (R285, R286, R295, R297). -/
def State.capArmOk (s : State) (b mask : Nat) : Bool :=
  let p := s.capPart b
  s.capSourceOk b && s.capMaskOk b && 16 ≤ s.capDepth b && s.capPost b < s.capDepth b &&
    384 + s.capDepth b * s.frameB b (s.capKind b) ≤ p.2 &&
    p.1 + p.2 ≤ s.val Reg.CAP_SIZE % 8192 * 0x100000 &&
    (List.range 16).all (fun o => o == b || !partsMeet p (s.capPart o) ||
      ((s.buf o).state == .idle && bitAt mask o == 0))

/-! ### The record (R296) -/

/-- Frames held, and the frame number of the oldest. -/
def State.capFill (s : State) (b : Nat) : Nat := min (s.buf b).total (s.capDepth b)

def State.capOldest (s : State) (b : Nat) : Nat := (s.buf b).total - s.capFill b

def State.capRecLen (s : State) (b : Nat) : Nat :=
  if (s.buf b).state.held then 384 + s.capFill b * s.frameB b (s.buf b).rkind else 0

/-- The frame that a trigger time falls to, among instants latest first with `n` the number of the latest: its number, whether it
was clipped to the oldest, and its offset to the frame after it in 2^-32, if there is one (R292). -/
def trigFrame (t128 n : Nat) (insts : List Nat) : Nat × Bool × Option Nat :=
  match insts.findIdx? (fun i => i ≤ t128 * 512) with
  | none => (n + 1 - insts.length, true, some 0)
  | some k =>
    let off := if k = 0 then none
      else
        let tk := insts.getD k 0
        let tn := insts.getD (k - 1) 0
        some (min (divRne ((t128 * 512 - tk) * 2 ^ 32) (tn - tk)) 0xFFFFFFFF)
    (n - k, false, off)

/-- PERIOD of the header. The mean over one frame is no number: a free value (notes/assumptions/3). -/
def State.capPeriodField (s : State) (b : Nat) : Nat :=
  let x := s.buf b
  if s.capSrc b = 0 then
    if x.insts.length < 2 then Config.freeNat s.free % 2 ^ 64
    else divRne (x.insts.headD 0 - x.insts.getLastD 0) (x.insts.length - 1)
  else divRne (1000000000 * 65536 * (if s.capSrc b = 2 then 1 else s.capRed b)) (s.capRate b)

/-- Bytes of mark m. -/
def markBytes (oldest : Nat) (m : CapMark) : List Byte :=
  let fr := match m.frame with
    | some f => if f < oldest then 0xFFFFFF else (f - oldest) % 2 ^ 24
    | none => 0xFFFFFF
  let p := if m.primary then 2 ^ 16 else 0
  let r := if m.restart then 2 ^ 17 else 0
  leBytes 8 (m.time / 128) ++ words [m.time % 128 + m.src * 2 ^ 8 + p + r, fr]

/-- The 384 bytes of the header of a stopped buffer. -/
def State.capHeader (s : State) (b rstart : Nat) : List Byte :=
  let x := s.buf b
  let bt := fun (c : Bool) (i : Nat) => if c then 2 ^ i else 0
  let prim := x.marks.head?
  let oldest := s.capOldest b
  let idx := match prim with
    | some m => m.frame.getD oldest - oldest
    | none => 0
  let chs := if s.capSrc b = 2 then (s.capSnaps b).map (fun w => w % 2 ^ 25) else s.capChans b
  words [0xA6CA + 2 ^ 16 + b * 2 ^ 20 + s.capSrc b * 2 ^ 24 + x.rkind * 2 ^ 26,
    x.cause + bt prim.isNone 4 + bt x.extcut 5 + bt x.clip 6 + bt x.modex 7 + bt x.settle 8 + bt x.sat 9 + bt x.gap 10 +
      bt x.tstep 11 + x.restarts % 16 * 2 ^ 12 + x.marks.length * 2 ^ 16 + s.capNch b * 2 ^ 24,
    s.capRed b + s.frameB b x.rkind * 2 ^ 16, s.capFill b, rstart, idx] ++
    leBytes 8 (x.insts.getLastD 0 / 65536) ++ leBytes 8 (s.capPeriodField b) ++
    leBytes 8 ((prim.map (·.time)).getD 0 / 128) ++
    words [(prim.map (fun m => m.time % 128 + m.src * 2 ^ 8)).getD 0, x.trigOff, s.unitId + x.mode * 2 ^ 8, s.epoch] ++
    words (chs ++ List.replicate (16 - chs.length) 0) ++
    ((x.marks.map (markBytes oldest)).flatten ++ List.replicate (256 - 16 * x.marks.length) 0)

/-- Ring index of the oldest frame. -/
def State.capRstart (s : State) (b : Nat) : Nat := s.capOldest b % (max 1 (s.capDepth b))

/-- The frames in time order. -/
def State.capFrames (s : State) (b : Nat) : List Byte :=
  let fb := s.frameB b (s.buf b).rkind
  let d := max 1 (s.capDepth b)
  ((List.range (s.capFill b)).map (fun i => s.devBytes (s.capAddr b + 384 + (s.capRstart b + i) % d * fb) fb)).flatten

/-- A record as it is copied: the header with the frames in time order from index 0. -/
def State.capRecord (s : State) (b : Nat) : List Byte :=
  let h := s.devBytes (s.capAddr b) 384
  h.take 16 ++ words [0] ++ h.drop 20 ++ s.capFrames b

/-! ### Stopping, releasing, arming -/

def State.acquires (s : State) : Bool := s.sys.mode.released

/-- Whether archive requests are taken: a cartridge accepted, not worn, with capture archiving enabled (R300, R376, R389). -/
def State.archiveOk (s : State) : Bool :=
  s.ldg.cstate == .active && !s.ldg.worn && s.flag Reg.LDG_CTL F.LDG_CTL_CAPAEN

/-- A trigger frame not fixed when the buffer stops is the last stored frame not later than its time; the offset to a frame that was
never stored is a free value. -/
def CapBuf.settleMarks (x : CapBuf) (free : Nat) : CapBuf :=
  let fix := fun (m : CapMark) =>
    if m.frame.isSome then m else { m with frame := some (trigFrame m.time (x.total - 1) x.insts).1 }
  let open_ := match x.marks.head? with
    | some m => m.frame.isNone
    | none => false
  { x with marks := x.marks.map fix, trigOff := if open_ then Config.freeNat free % 2 ^ 32 else x.trigOff }

/-- The buffer stops with a cause: header written, STOPPED or ARCHIVING, stop record (R289, R300). -/
def State.capHalt (s : State) (b cause : Nat) : State :=
  let x := (s.buf b).settleMarks s.free
  let s0 := { s with free := s.free + 1 }
  let s1 := s0.setBuf b { x with state := .stopped, cause := cause, acc := none, queues := [], baseAt := none }
  let s2 := s1.putDev (s1.capAddr b) (s1.capHeader b (s1.capRstart b))
  let s3 := if s2.flag Reg.CAP_CTL F.CAP_CTL_STOPEV then s2.event 0x179 (b + cause * 16) else s2
  if !s3.flag (Reg.CAP_BnCFG b) F.CAP_BnCFG_ARCH then s3
  else if s3.archiveOk then s3.setBuf b { s3.buf b with state := .archiving }
  else s3.raise E.CAP 2

/-- A running buffer stopped by mask, host or mode. -/
def State.capStopIf (s : State) (b cause : Nat) : State := if (s.buf b).state.running then s.capHalt b cause else s

/-- A buffer armed: its ring emptied. With CTL.EN 0 an armed buffer stops at once. -/
def State.capArm1 (s : State) (b : Nat) : State :=
  let s1 := s.setBuf b { state := .armed, rkind := s.capKind b, mode := s.sys.mode.code }
  if s1.flag Reg.CAP_CTL F.CAP_CTL_EN then s1 else s1.capHalt b 3

/-- A held buffer released: IDLE, or ARMED again. -/
def State.capFree (s : State) (b : Nat) : State :=
  if s.flag (Reg.CAP_BnCFG b) F.CAP_BnCFG_AUTOARM && s.acquires then s.capArm1 b else s.setBuf b {}

/-- A release asked for by CAP_READ or CAP.RELEASE; while the archive write runs it waits for the end. -/
def State.capLet (s : State) (b : Nat) : State :=
  match (s.buf b).state with
  | .stopped => s.capFree b
  | .archiving => s.setBuf b { s.buf b with relAtEnd := true }
  | _ => s

/-! ### Frames (R287, R288, R292, R293) -/

/-- Marks and the count's base looked at again after a frame was stored. -/
def CapBuf.resolve (x : CapBuf) : CapBuf × Bool :=
  let n := x.total - 1
  let last := x.insts.headD 0
  let due := fun (t : Nat) => t * 512 < last
  let fix := fun (m : CapMark) =>
    if m.frame.isNone && due m.time then { m with frame := some (trigFrame m.time n x.insts).1 } else m
  let prim := match x.marks.head? with
    | some m => if m.frame.isNone && due m.time then some (trigFrame m.time n x.insts) else none
    | none => none
  let x1 := { x with marks := x.marks.map fix }
  let x2 := match prim with
    | some (_, clip, off) => { x1 with clip := clip, trigOff := off.getD 0 }
    | none => x1
  let x3 := match x2.baseAt with
    | some t => if due t then { x2 with base := some (trigFrame t n x2.insts).1, baseAt := none } else x2
    | none => x2
  (x3, match prim with
    | some (_, clip, _) => clip
    | none => false)

/-- Whether a buffer in POST is full: the frame the count ends at, or the limit of R293. Second: it ended at the limit. -/
def State.capFull (s : State) (b : Nat) : Bool × Bool :=
  let x := s.buf b
  let n := x.total - 1
  let atLimit := match x.marks.head? with
    | some m => match m.frame with
      | some f => f + s.capDepth b - 1 ≤ n
      | none => false
    | none => false
  let done := match x.base with
    | some f => x.baseAt.isNone && f + s.capPost b ≤ n
    | none => false
  (x.state == .post && (done || atLimit), atLimit && !done)

/-- What follows a frame or a trigger: marks fixed, and the buffer stopped when it is full. -/
def State.capCheck (s : State) (b : Nat) : State :=
  if (s.buf b).total = 0 then s
  else
    let (x, clipped) := (s.buf b).resolve
    let s1 := s.setBuf b x
    let s2 := if clipped then s1.raise E.CAP 4 else s1
    let (full, cut) := s2.capFull b
    if full then (s2.setBuf b { s2.buf b with extcut := cut }).capHalt b 1 else s2

/-- One frame stored in the ring. -/
def State.capStore (s : State) (b inst flags : Nat) (ws : List Nat) : State :=
  let x := s.buf b
  let d := max 1 (s.capDepth b)
  let s1 := s.putDev (s.capAddr b + 384 + x.total % d * s.frameB b x.rkind) (words (flags :: ws))
  let src2 := s.capSrc b = 2
  (s1.setBuf b { x with
    total := x.total + 1
    insts := (inst :: x.insts).take d
    settle := x.settle || (!src2 && flags % 256 != 0)
    sat := x.sat || (!src2 && flags / 256 % 256 != 0)
    gap := x.gap || (src2 && flags % 65536 != 0) }).capCheck b

/-- The flag word of one frame of samples. -/
def sampleFlags (l : List CapSample) : Nat :=
  let bits := fun (f : CapSample → Bool) => ((l.zipIdx).map (fun p => if f p.1 then 2 ^ p.2 else 0)).sum
  bits (·.settle) + bits (·.sat) * 2 ^ 8 + (if l.any (·.viol) then 2 ^ 16 else 0)

/-- The words an interval leaves in its frame. -/
def accWords (kind count : Nat) (l : List CapAcc1) : List Nat :=
  if kind = 1 then (l.map (fun a => [word32 a.lo, word32 a.hi])).flatten
  else l.map (fun a => word32 (ratRne a.sum count))

/-- A frame of the channels' samples reaches the buffer: stored raw, or taken into the interval. A violation with MASKACT 3 stops the
buffer at the frame that holds it. -/
def State.capFrame (s : State) (b : Nat) (l : List CapSample) : State :=
  let x := s.buf b
  let inst := (l.head?.map (·.inst)).getD 0
  let flags := sampleFlags l
  let stopAt := fun (s1 : State) (fl : Nat) => if bitAt fl 16 = 1 && s.maskAct b = 3 then s1.capStopIf b 2 else s1
  if x.rkind = 0 then stopAt (s.capStore b inst flags (l.map (fun p => word32 p.val))) flags
  else
    let acc := match x.acc with
      | some a => { a with
          count := a.count + 1
          chans := (a.chans.zip l).map (fun p => { lo := min p.1.lo p.2.val, hi := max p.1.hi p.2.val, sum := p.1.sum + p.2.val })
          flags := a.flags ||| flags }
      | none => { inst := inst, count := 1, chans := l.map (fun p => { lo := p.val, hi := p.val, sum := p.val }), flags := flags }
    if acc.count < s.capRed b then s.setBuf b { x with acc := some acc }
    else
      stopAt ((s.setBuf b { x with acc := none }).capStore b acc.inst acc.flags (accWords x.rkind acc.count acc.chans)) acc.flags

/-- Samples matched across the channels by instant: heads more than half a period older than the newest head are dropped. -/
def matchHeads (n half : Nat) : Nat → Tab (List CapSample) → Tab (List CapSample)
  | 0, q => q
  | k + 1, q =>
    let heads := (List.range n).filterMap (fun i => (tget (fun _ => []) q i).head?)
    let newest := heads.foldl (fun m p => max m p.inst) 0
    matchHeads n half k (q.map (fun p => (p.1, p.2.dropWhile (fun e => e.inst + half < newest))))

/-- A sample of channel `i` of the frame's channels joins the queues; a whole frame is taken out when every channel has one. -/
def State.capJoin (s : State) (b i : Nat) (p : CapSample) : State :=
  let x := s.buf b
  let n := s.capNch b
  let q := matchHeads n (s.capPeriod b / 2) 3 (tput (fun _ => []) x.queues i (tget (fun _ => []) x.queues i ++ [p]))
  let heads := (List.range n).filterMap (fun j => (tget (fun _ => []) q j).head?)
  if heads.length = n then
    let rest := (List.range n).foldl (fun m j => tput (fun _ => []) m j ((tget (fun _ => []) m j).drop 1)) q
    (s.setBuf b { x with queues := rest }).capFrame b heads
  else s.setBuf b { x with queues := q }

/-! ### Mask tests (R295) -/

/-- A mask word at buffer * 512 + table * 256 + point. -/
def maskReset (k : Nat) : Nat := if k / 256 % 2 = 0 then 0x80000000 else 0x7FFFFFFF

def State.maskWord (s : State) (b upper i : Nat) : Int := sgn32 (tget maskReset s.cap.mask (b * 512 + upper * 256 + i))

/-- Whether a tap-1 sample at position `n` of its cycle violates the mask. -/
def State.violates (s : State) (b n : Nat) (val : Int) : Bool :=
  let i := 256 * n / spcOf (s.chCfg (s.maskCh b))
  val < s.maskWord b 0 i || s.maskWord b 1 i < val

/-- Whether a buffer has selected a trigger. -/
def State.capSelected (s : State) (b : Nat) (g : CapTrig) : Bool :=
  let w := s.val (Reg.CAP_BnTRIG b)
  match g.code with
  | 8 => bitAt w 7 == 1
  | 9 => bitAt w 8 == 1 && bitsOf w 16 6 == g.sub
  | 10 => bitAt w 9 == 1
  | 11 => s.maskAct b == 2
  | k => 1 ≤ k && k ≤ 7 && bitAt w (k - 1) == 1

/-- A trigger set on its way to those buffers of a mask that have selected it. -/
def State.capSend (s : State) (code sub time count bufs : Nat) : State :=
  let g : CapTrig := { code := code, sub := sub, time := time, count := count, bufs := bufs }
  let m := ((List.range 16).map (fun b => if bitAt bufs b = 1 && s.capSelected b g then 2 ^ b else 0)).sum
  if m = 0 then s else { s with cap := { s.cap with trigs := s.cap.trigs ++ [{ g with bufs := m }] } }

/-- A sample of a main channel reaches one buffer; `pos` is its number in its TAI second. -/
def State.capSample1 (s : State) (b tap c pos : Nat) (p : CapSample) : State :=
  if !(s.buf b).state.running || s.capSrc b ≠ tap || bitAt (s.val (Reg.CAP_BnCHAN b)) c = 0 then s
  else
    let test := tap = 1 && s.maskAct b ≠ 0 && s.maskCh b = c && !p.settle
    let viol := test && s.violates b (pos % spcOf (s.chCfg c)) p.val
    let s0 := s.kernelBoundary 10 s.ns
    let s1 := if viol then s0.bump (Reg.CAP_BnVIOL b) else s0
    let s2 := if viol && s.maskAct b = 2 then s1.capSend 11 0 (p.inst / 512) 1 (2 ^ b) else s1
    s2.capJoin b ((s.capChans b).findIdx (· == c)) { p with viol := viol }

/-- A sample of a main channel reaches the engine. -/
def State.capSample (s : State) (tap c pos inst : Nat) (val : Int) (settle sat : Bool) : State :=
  (List.range 16).foldl (fun s b =>
    s.capSample1 b tap c pos { inst := inst, val := val, settle := settle, sat := sat, viol := false }) s

/-! ### Phasors of final releases (R286, R287) -/

/-- The two words of one entry, and whether it is missing. -/
def snapWords (x : Snapshot) (w : Nat) : List Nat × Bool :=
  let vid := w % 2 ^ 20
  let i := bitsOf w 20 5
  match x.slots.find? (·.1 == vid) with
  | some (_, f) =>
    if f.invalid || f.phasors.length ≤ i then ([fmt32.nan, fmt32.nan], true)
    else ([(f.phasors.getD i (0, 0)).1, (f.phasors.getD i (0, 0)).2], false)
  | none => ([fmt32.nan, fmt32.nan], true)

/-- Whether a running SRC 2 buffer takes releases of class `n`. -/
def State.capTakes (s : State) (b n : Nat) : Bool :=
  (s.buf b).state.running && s.capSrc b == 2 && s.fld (Reg.CAP_BnCFG b) F.CAP_BnCFG_SC == n

/-- A final release of class `n` reaches the engine. -/
def State.capFinal (s : State) (n : Nat) (x : Snapshot) : State :=
  (List.range 16).foldl (fun s b =>
    if s.capTakes b n then
      let es := (s.capSnaps b).map (snapWords x)
      (s.kernelBoundary 10 s.ns).capStore b (x.inst * 65536) ((es.zipIdx).map (fun p => if p.1.2 then 2 ^ p.2 else 0)).sum (es.map (·.1)).flatten
    else s) s

/-- A snapshot of class `n` discarded unreleased: a gap. -/
def State.capDiscard (s : State) (n : Nat) : State :=
  (List.range 16).foldl (fun s b => if s.capTakes b n then s.setBuf b { s.buf b with gap := true } else s) s

/-! ### Triggers (R290-R294) -/

/-- A trigger accepted: counted, and reported when CTL.TRIGEV asks for it. -/
def State.capAccept (s : State) (b code : Nat) : State :=
  let s1 := s.bump (Reg.CAP_BnTRIGS b)
  if s1.flag Reg.CAP_CTL F.CAP_CTL_TRIGEV then s1.event 0x178 (b + code * 2 ^ 8) else s1

/-- One trigger taken by one buffer. -/
def State.capTake1 (s0 : State) (b : Nat) (g : CapTrig) : State :=
  if !s0.capSelected b g then s0
  else
    let s := if g.code = 8 then s0.bumpBy Reg.CAP_MERGED (g.count - 1) else s0
    let x := s.buf b
    match x.state with
    | .idle => s
    | .armed =>
      let m : CapMark := { time := g.time, src := g.code, primary := true, restart := false }
      ((s.setBuf b { x with state := .post, marks := [m], baseAt := some g.time }).capAccept b g.code).capCheck b
    | .post =>
      let again := bitAt (s.val Reg.CAP_RETRIG_EXT) b == 1 && x.restarts < s.val Reg.CAP_RETRIG_MAX % 16
      let m : CapMark := { time := g.time, src := g.code, primary := false, restart := again }
      let s1 := if x.marks.length < 16 then s else s.bump (Reg.CAP_BnMARKOVF b)
      let x1 := { x with marks := if x.marks.length < 16 then x.marks ++ [m] else x.marks }
      let x2 := if again then { x1 with restarts := x1.restarts + 1, baseAt := some g.time } else x1
      ((s1.setBuf b x2).capAccept b g.code).capCheck b
    | _ => (s.bump (Reg.CAP_BnMISSED b)).raise E.CAP 1

/-- A trigger put in its place by time, then by source code. -/
def insertTrig (g : CapTrig) : List CapTrig → List CapTrig
  | [] => [g]
  | h :: r => if g.time < h.time || (g.time = h.time && g.code < h.code) then g :: h :: r else h :: insertTrig g r

/-- The triggers on their way to a buffer, taken in the same NOC cycle. -/
def State.capTake (s : State) (b : Nat) : State :=
  let mine := s.cap.trigs.filter (fun g => bitAt g.bufs b == 1)
  let rest := (s.cap.trigs.map (fun g => { g with bufs := maskClear g.bufs b })).filter (fun g => g.bufs != 0)
  (mine.foldr insertTrig []).foldl (fun s g => s.capTake1 b g) { s with cap := { s.cap with trigs := rest } }

def execCaptureTrigger (t buf : Nat) (s : State) : Host.Outcome State Fault Refusal :=
  s.liveAt t (fun s => if 16 ≤ buf then s else s.capTake buf)

/-- HOSTTRIG written. -/
def State.writeHosttrig (s : State) (v x : Nat) : State :=
  if v % 65536 = 0 then s else s.capSend 10 0 x 1 (v % 65536)

def execHosttrig (req : Requester) (value t frac : Nat) (s : State) : Host.Outcome State Fault Refusal :=
  s.liveAt t (fun s => s.writeBy req Reg.CAP_HOSTTRIG value (fun s => s.writeHosttrig value (stampOf t frac)))

/-! ### Commands (R297, R298) -/

def maskBufs (mask : Nat) : List Nat := (List.range 16).filter (fun b => bitAt mask b == 1)

def capArmBody (mask : Nat) : CmdBody := fun s =>
  let bs := maskBufs mask
  if bs.isEmpty || bs.any (fun b => !s.capArmOk b mask) then (s, some (.arg, []))
  else if bs.any (fun b => (s.buf b).state != .idle) then (s, some (.busy, []))
  else (bs.foldl State.capArm1 s, some (.ok, []))

def State.capArm (s : State) (h : CmdHdr) (mask : Nat) : State :=
  s.hostCmd 0x0601 h (mask < 65536) s.acquires false (capArmBody mask)

def execCapArm (h : CmdHdr) (mask : Nat) (s : State) : Host.Outcome State Fault Refusal := s.live (fun s => s.capArm h mask)

def capReadBody (h : CmdHdr) (b addr size : Nat) (ecc : Bool) : CmdBody := fun s =>
  let n := s.capRecLen b
  if addr % 8 ≠ 0 then (s, some (.arg, []))
  else if !(s.buf b).state.held then (s, some (.absent, []))
  else if size < n then (s, some (.nospace, [n]))
  else
    let s1 := if ecc then (s.doubleBit (s.capAddr b)).raise E.CAP 3 else s
    let s2 := s1.putHost addr (s1.capRecord b)
    (if h.keep then s2 else s2.capLet b, some (.ok, [n]))

def State.capRead (s : State) (h : CmdHdr) (b addr size : Nat) (ecc : Bool) : State :=
  s.hostCmd 0x0602 h (b < 16) s.notBootDormant false (capReadBody h b addr size ecc)

def execCapRead (h : CmdHdr) (buf addr size : Nat) (ecc : Bool) (s : State) : Host.Outcome State Fault Refusal :=
  s.live (fun s => s.capRead h buf addr size ecc)

def State.writeCapStop (s : State) (v : Nat) : State := (maskBufs v).foldl (fun s b => s.capStopIf b 3) s

def execCapStop (req : Requester) (value : Nat) (s : State) : Host.Outcome State Fault Refusal :=
  s.live (fun s => s.writeBy req Reg.CAP_STOP value (fun s => s.writeCapStop value))

def State.writeCapRelease (s : State) (v : Nat) : State := (maskBufs v).foldl State.capLet s

def execCapRelease (req : Requester) (value : Nat) (s : State) : Host.Outcome State Fault Refusal :=
  s.live (fun s => s.writeBy req Reg.CAP_RELEASE value (fun s => s.writeCapRelease value))

/-! ### Mask tables -/

/-- MSEL moved to the next point of the table it selects. -/
def State.nextPoint (s : State) : State :=
  s.setFld Reg.CAP_MSEL F.CAP_MSEL_POINT ((s.fld Reg.CAP_MSEL F.CAP_MSEL_POINT + 1) % 256)

def State.maskKey (s : State) : Nat :=
  let v := s.val Reg.CAP_MSEL
  v % 16 * 512 + bitAt v 4 * 256 + bitsOf v 5 8

/-- MVAL written: refused while the buffer is not IDLE. -/
def State.writeMval (s : State) (v : Nat) : State :=
  if (s.buf (s.val Reg.CAP_MSEL % 16)).state ≠ .idle then s.cfgErr E.CAP
  else ({ s with cap := { s.cap with mask := tput maskReset s.cap.mask s.maskKey (v % 2 ^ 32) } }).nextPoint

def State.readMval (s : State) : State :=
  s.nextPoint.answer [tget maskReset s.cap.mask s.maskKey]

def execMaskAccess (req : Requester) (write : Option Nat) (s : State) : Host.Outcome State Fault Refusal :=
  s.live (fun s =>
    match write with
    | some v => s.writeBy req Reg.CAP_MVAL v (fun s => s.writeMval v)
    | none => s.readBy req Reg.CAP_MVAL State.readMval)

/-! ### The archive (R300, R383, R384) -/

/-- Payload of the TYPE 0x0C40 record. -/
def State.archivePayload (s : State) (b at_ len pages : Nat) : List Byte :=
  let x := s.buf b
  leBytes 8 at_ ++ words [len, pages] ++ leBytes 8 ((x.marks.head?.map (·.time)).getD 0 / 128) ++
    words [b + x.cause * 2 ^ 8 + s.unitId * 2 ^ 16] ++ (s.devBytes (s.capAddr b + 0x3C) 4)

/-- The extent header page. -/
def extentHeader (len pages crc seq : Nat) : List Byte :=
  let l := words [0xA6CE, len, pages, crc, seq] ++ List.replicate (4088 - 20) 0
  l ++ validMark l

/-- The extent written: data pages, journal record, header page with the record's SEQ (a LOSS record that is owed is staged before it). It lies at the next offset, or at the start of the area. -/
def State.putExtent (s : State) (b : Nat) : State :=
  let rec_ := s.capRecord b
  let len := rec_.length
  let data := rec_ ++ List.replicate ((4096 - len % 4096) % 4096) 0
  let pages := 1 + data.length / 4096
  let at_ := if s.ldg.nextExtent + pages * 4096 ≤ 0x4000000000 then s.ldg.nextExtent else 0x3004000000
  let seq := s.stageLoss.ldg.jseq
  let s1 := { s with ldg := { s.ldg with
    cart := s.ldg.cart.putBytes (at_ + 4096) data, nextExtent := at_ + pages * 4096 } }
  let s2 := s1.offer 0x0C40 (s1.archivePayload b at_ len pages)
  let s3 := { s2 with ldg := { s2.ldg with cart := s2.ldg.cart.putBytes at_ (extentHeader len pages (crc32c data) seq) } }
  s3.wearBy (pages * 4096)

/-- The archive write of a buffer ends; a page write that the cartridge refuses is its surprise removal (R300, R385). -/
def State.archiveEnd (s : State) (b : Nat) (refused : Bool) : State :=
  if (s.buf b).state ≠ .archiving then s
  else
    let ok := !refused && s.ldg.lcPwr && s.ldg.cstate == .active
    let s1 := if ok then s.putExtent b
      else if s.ldg.cstate = .active then (s.raise E.CAP 2).surprise else s.raise E.CAP 2
    let x := s1.buf b
    if x.relAtEnd || (ok && s1.flag (Reg.CAP_BnCFG b) F.CAP_BnCFG_ARCHREL) then s1.capFree b
    else s1.setBuf b { x with state := .stopped }

def execArchiveWriteEnd (t buf : Nat) (refused : Bool) (s : State) : Host.Outcome State Fault Refusal :=
  s.liveAt t (fun s => if 16 ≤ buf then s else s.archiveEnd buf refused)

/-! ### Modes, steps, images (R288, R301) -/

/-- Every buffer looked at. -/
def State.eachBuf (s : State) (f : State → Nat → State) : State := (List.range 16).foldl f s

/-- After a change of mode: running buffers stop where nothing is acquired, and note a change of reduction group. -/
def State.capMode (s : State) : State :=
  s.eachBuf (fun s b =>
    let x := s.buf b
    if !x.state.running then s
    else if !s.acquires then s.capHalt b 4
    else
      let armedLow := x.mode == 3 || x.mode == 4 || x.mode == 8
      let nowLow := s.sys.mode == .serve || s.sys.mode == .shadow || s.sys.mode == .trial
      if armedLow != nowLow && s.capSrc b ≠ 2 && 1 < s.capRed b then s.setBuf b { x with modex := true } else s)

/-- A TB step falls within the records of running buffers. -/
def State.capTimeStep (s : State) : State :=
  s.eachBuf (fun s b => if (s.buf b).state.running then s.setBuf b { s.buf b with tstep := true } else s)

/-- A lattice image load: held records outside the region are lost. -/
def State.capImage (s : State) : State :=
  s.eachBuf (fun s b =>
    let p := s.capPart b
    if (s.buf b).state.held && s.val Reg.CAP_SIZE % 8192 * 0x100000 < p.1 + p.2 then s.setBuf b {} else s)

/-! ### Registers (R301, R302) -/

/-- CTL written: with EN 0, running buffers stop with cause 3. -/
def State.writeCapCtl (s : State) (v : Nat) : State :=
  let s1 := s.plainWrite E.CAP Reg.CAP_CTL v
  if s1.flag Reg.CAP_CTL F.CAP_CTL_EN then s1 else s1.eachBuf (fun s b => s.capStopIf b 3)

/-- A configuration register of buffer `b` written: refused while the buffer is not IDLE. -/
def State.writeCapBuf (s : State) (b a v : Nat) : State :=
  if (s.buf b).state ≠ .idle then s.cfgErr E.CAP else s.plainWrite E.CAP a v

/-- CAP.STAT. -/
def State.capStat (s : State) : Nat :=
  ((List.range 16).map (fun b => if (s.buf b).state = .idle then 0 else 2 ^ b)).sum

/-- CAP.BnSTAT. -/
def State.capBufStat (s : State) (b : Nat) : Nat :=
  let x := s.buf b
  x.state.code + x.rkind * 2 ^ 3 + x.restarts % 16 * 2 ^ 8 + x.cause * 2 ^ 12

end Sys2Proof.Machine
end

