-- ==== Sys2Proof/Machine/Keys.lean ====
section
/-!
DEFINITION. Key slots and the Key Update Message: R392-R405.
-/
namespace Sys2Proof.Machine

/-- Steps burned in the key OTP bank of 4 096: what the fuses show at start, and the steps the device took since (R399). -/
def State.burned (s : State) : Nat := 4096 - min 4096 (s.val Reg.KEY_OTPLEFT % 8192) + s.key.otp

/-- The stored counter C: steps burned in the OTP bank above, C[15:0] below (R399). -/
def State.keyCounter (s : State) : Nat := s.burned * 65536 + s.key.low

/-- Permitted combinations of USE and ALG (R393). -/
def attrOk (use alg : Nat) : Bool :=
  match use with
  | 0 => alg < 3
  | 1 => alg < 3
  | 2 => alg < 2
  | _ => alg == 2

/-- Ku, Kw: HMAC-SHA256(K0, label || DEVID) (R398). -/
def State.deriveK0 (s : State) (label : List Byte) (devid : List Byte) : List Byte :=
  hmacSha256 (s.slot 0).bytes32 (label ++ devid)

/-- Whether WRAPSLOT names a fit slot: 0, or a VALID WRAP slot with an AES key (R398). -/
def State.wrapFit (s : State) (w : Nat) : Bool :=
  w == 0 || (w ≠ 1 && (let k := s.slot w; k.valid && k.use == 2 && k.alg < 2))

def State.wrapKey (s : State) (w : Nat) (devid : List Byte) : List Byte :=
  if w = 0 then s.deriveK0 [0x4B, 0x57] devid else (s.slot w).key

/-- One entry of a message. -/
structure KeyEntry where
  slot : Nat
  op : Nat
  attr : Nat
  zeros : Bool
  wkey : List Byte
  deriving DecidableEq, Repr

def keyEntry (m : List Byte) (i : Nat) : KeyEntry :=
  let b := 32 + 48 * i
  { slot := leAt m b 1, op := leAt m (b + 1) 1, attr := leAt m (b + 2) 1,
    zeros := (sliceOf m (b + 3) 5).all (· == 0), wkey := sliceOf m (b + 8) 40 }

/-- What is wrong with entry `i` under code 0x08: slot 0, 1 or one named before, or OP or ATTR reserved or not permitted. -/
def entryBad (es : List KeyEntry) (i : Nat) : Bool :=
  let e := es.getD i ⟨0, 0, 0, true, []⟩
  e.slot < 2 || (es.take i).any (·.slot == e.slot) || !(e.op == 1 || e.op == 2) || 16 ≤ e.attr ||
    !attrOk (e.attr % 4) (e.attr / 4 % 4)

/-- The material a SET entry carries, none when its key wrap or its AES-128 upper half fails (code 0x09). -/
def entryKey (wk : List Byte) (e : KeyEntry) : Option (List Byte) :=
  match aesUnwrap wk e.wkey with
  | some k => if e.attr / 4 % 4 = 0 && !(k.drop 16).all (· == 0) then none else some k
  | none => none

/-- A failed check of Table 19-4: its code, status and entry index. -/
structure KeyFail where
  code : Nat
  status : Status
  entry : Nat := 0

/-- The checks of Table 19-4 in their order; none when the message passes. -/
def State.keyCheck (s : State) (m : List Byte) (len : Nat) : Option KeyFail :=
  let n := leAt m 3 1
  let es := (List.range n).map (keyEntry m)
  let dev := sliceOf m 4 16
  let c := beAt m 20 8
  let w := leAt m 28 1
  let zerosBad := !(sliceOf m 29 3).all (· == 0) || es.any (fun e => !e.zeros)
  if beAt m 0 2 ≠ 0xA6B5 || n = 0 || 8 < n || len ≠ 64 + 48 * n || zerosBad then some ⟨1, .arg, 0⟩
  else if leAt m 2 1 ≠ 1 then some ⟨2, .version, 0⟩
  else if beNat dev ≠ s.deviceId then some ⟨3, .auth, 0⟩
  else if sliceOf m (32 + 48 * n) 32 ≠ hmacSha256 (s.deriveK0 [0x4B, 0x55] dev) (m.take (32 + 48 * n)) then
    some ⟨4, .auth, 0⟩
  else if c ≤ s.keyCounter then some ⟨5, .auth, 0⟩
  else if s.burned + 16 < c / 65536 || 4096 < c / 65536 then some ⟨6, .range, 0⟩
  else if !s.wrapFit w then some ⟨7, .arg, 0⟩
  else
    match (List.range n).find? (entryBad es) with
    | some i => some ⟨8, .arg, i⟩
    | none =>
      let wk := s.wrapKey w dev
      match (List.range n).find? (fun i =>
          let e := es.getD i ⟨0, 0, 0, true, []⟩
          e.op == 1 && (entryKey wk e).isNone) with
      | some i => some ⟨9, .arg, i⟩
      | none => none

/-- One entry takes effect: SET or ERASE, GEN incremented (R401). -/
def State.applyEntry (s : State) (wk : List Byte) (e : KeyEntry) : State :=
  let k := s.slot e.slot
  let g := (k.gen + 1) % 65536
  let k1 : KeySlot :=
    if e.op = 1 then
      { material := (entryKey wk e).getD [], use := e.attr % 4, alg := e.attr / 4 % 4, gen := g, valid := true }
    else { material := [], use := k.use, alg := k.alg, gen := g, valid := false }
  { s with key := { s.key with slots := tput (fun _ => {}) s.key.slots e.slot k1 } }

/-- Step 1 of a message that passed every check: the OTP bank stepped to its counter (R401). -/
def State.stepOtp (s : State) (m : List Byte) : State :=
  let c := beAt m 20 8
  let s1 := { s with key := { s.key with otp := s.key.otp + (c / 65536 - s.burned) } }
  if s.burned < c / 65536 && 4032 < c / 65536 then s1.raise E.KEY 4 else s1

/-- The steps after it: slots and counter changed in one cycle, the new image committed to the cartridge (R401). -/
def State.applyMessage (s : State) (m : List Byte) : State :=
  let n := leAt m 3 1
  let es := (List.range n).map (keyEntry m)
  let c := beAt m 20 8
  let wk := s.wrapKey (leAt m 28 1) (sliceOf m 4 16)
  let s1 := es.foldl (fun s e => s.applyEntry wk e) s
  let s2 := { s1 with key := { s1.key with
    low := c % 65536, imageNo := (s1.key.imageNo + 1) % 2 ^ 32, imgValid := true } }
  let s3 := { s2 with ldg := { s2.ldg with cart := s2.ldg.cart.putBytes (keyImageAt s2.key.imageNo) s2.keyImage } }
  let s4 := (s3.wearBy 12288).bump Reg.KEY_UPDATES
  if s4.flag Reg.KEY_CTL F.KEY_CTL_UPDEV then
    s4.event 0x1E8 (n + (es.headD ⟨0, 0, 0, true, []⟩).slot * 256)
  else s4

/-- KEY_UPDATE's own rules: BUSY, ABSENT, the checks of Table 19-4, then the update. A cartridge without power refuses the image's pages:
ABSENT, an OTP step taken stands (R385, R400-R402). -/
def keyUpdateBody (addr len : Nat) : CmdBody := fun s =>
  if s.key.busy then (s, some (.busy, [s.key.lastErr]))
  else if s.ldg.cstate ≠ .active then (s, some (.absent, [s.key.lastErr]))
  else
    let m := s.hostBytes addr len
    match s.keyCheck m len with
    | some f =>
      let code := f.code + f.entry * 256
      let s1 := ({ s with key := { s.key with lastErr := code } }).bump Reg.KEY_REFUSALS
      (s1.raise E.KEY (if f.status = .auth then 1 else 2), some (f.status, [code]))
    | none =>
      let s1 := s.stepOtp m
      if s1.ldg.lcPwr then (s1.applyMessage m, some (.ok, [s.key.lastErr]))
      else (s1.surprise, some (.absent, [s.key.lastErr]))

def State.keyUpdate (s : State) (h : CmdHdr) (addr len : Nat) : State :=
  s.hostCmd 0x0801 h true s.notBootDormant false (keyUpdateBody addr len)

/-- KEY_UPDATE (R400-R402). -/
def execKeyUpdate (h : CmdHdr) (addr len : Nat) (s : State) : Host.Outcome State Fault Refusal :=
  s.live (fun s => s.keyUpdate h addr len)

/-! ### The key image at start-up (R404) -/

/-- The valid image of highest number for this device among the 85 positions. -/
def State.bestKeyImage (s : State) : Option (Nat × List Byte) :=
  (List.range 85).foldl (fun (best : Option (Nat × List Byte)) i =>
    let m := s.ldg.cart.bytes (0x100000 + i * 12288) 12288
    if leAt m 0 2 = 0xA6B7 && leAt m 0x10 16 = s.deviceId && sliceOf m 0x2FF8 8 = validMark (m.take 0x2FF8) then
      let n := leAt m 4 4
      match best with
      | none => some (n, m)
      | some (b, _) => if serialAfter n b then some (n, m) else best
    else best) none

/-- Slots 2-255 restored from the cartridge at start-up, or IMGERR and C[15:0] taken as 0xFFFF (R399, R404). -/
def State.restoreKeys (s : State) : State :=
  match s.bestKeyImage with
  | some (n, m) =>
    let slots := (List.range 254).foldl (fun t i =>
      let k := i + 2
      let a := leAt m (0x40 + 4 * k) 4
      tput (fun _ => ({} : KeySlot)) t k
        { material := sliceOf m (0x440 + 32 * i) 32, use := a % 4, alg := a / 4 % 4, gen := a / 256 % 65536,
          valid := bitAt a 31 = 1 }) []
    { s with key := { s.key with slots := slots, low := leAt m 8 4 % 65536, imageNo := n, imgValid := true } }
  | none =>
    ({ s with key := { s.key with slots := [], low := 0xFFFF, imgValid := false } }).raise E.KEY 3

end Sys2Proof.Machine
end

