-- ==== Sys2Proof/Machine/Ports.lean ====
section
/-!
DEFINITION. Network ports and frame handling: R29-R50.
-/
namespace Sys2Proof.Machine

def State.port (s : State) (n : Nat) : EthPort := tget (fun _ => {}) s.eth.ports n

def State.setPort (s : State) (n : Nat) (p : EthPort) : State :=
  { s with eth := { s.eth with ports := tput (fun _ => {}) s.eth.ports n p } }

/-- Receive buffer bytes of a port (Table 02-1). -/
def rxBuffer (n : Nat) : Nat := if n < 4 then 524288 else if n < 6 then 131072 else 262144

def State.portEn (s : State) (n : Nat) : Bool := s.flag (Reg.ETH_PnCTL n) F.ETH_PnCTL_EN

/-! ### Receiving -/

/-- The six octets of a destination as the MAC registers hold them: octets 0-1 and octets 2-5. -/
def macHi (l : List Byte) : Nat := beAt l 0 2
def macLo (l : List Byte) : Nat := beAt l 2 4

/-- The address filter (R33). -/
def State.addrOk (s : State) (n : Nat) (b : List Byte) : Bool :=
  let hi := macHi b
  let lo := macLo b
  let multicast := bitAt hi 8 = 1
  let broadcast := hi == 0xFFFF && lo == 0xFFFFFFFF
  (hi == s.val (Reg.ETH_PnMACHI n) % 65536 && lo == s.val (Reg.ETH_PnMACLO n)) ||
  (List.range 16).any (fun k => s.flag (Reg.ETH_PnMCHIk n k) F.ETH_PnMCHIk_VALID &&
    s.fld (Reg.ETH_PnMCHIk n k) F.ETH_PnMCHIk_OCT == hi && s.val (Reg.ETH_PnMCLOk n k) == lo) ||
  (multicast && !broadcast && s.flag (Reg.ETH_PnCTL n) F.ETH_PnCTL_ALLMC) ||
  (broadcast && s.flag (Reg.ETH_PnCTL n) F.ETH_PnCTL_BCAST) ||
  s.flag (Reg.ETH_PnCTL n) F.ETH_PnCTL_PROMISC ||
  (hi == 0x011B && lo == 0x19000000) || (hi == 0x0180 && lo == 0xC200000E)

/-- Whether a value is a VLAN tag's TPID (R34). -/
def isTpid (x : Nat) : Bool := x == 0x8100 || x == 0x88A8

/-- The tag of a frame: (VLAN ID, PCP), its bytes with the tag stripped; none when it carries two or more tags (R34). -/
def untag (b : List Byte) : Option (Option (Nat × Nat) × List Byte) :=
  if isTpid (beAt b 12 2) then
    if isTpid (beAt b 16 2) then none
    else
      let tci := beAt b 14 2
      some (some (tci % 4096, tci / 8192), b.take 12 ++ b.drop 16)
  else some (none, b)

/-- The VLAN filter (R34). A priority-tagged frame has VLAN ID 0. -/
def State.vlanOk (s : State) (n : Nat) (tag : Option (Nat × Nat)) : Bool :=
  if !s.flag (Reg.ETH_PnRXCFG n) F.ETH_PnRXCFG_VLFILT then true
  else
    let untagged := s.flag (Reg.ETH_PnRXCFG n) F.ETH_PnRXCFG_UNTAG
    match tag with
    | none => untagged
    | some (vid, _) =>
      if vid = 0 then untagged
      else (List.range 16).any (fun k =>
        (s.flag (Reg.ETH_PnVLFk n k) F.ETH_PnVLFk_VALA && s.fld (Reg.ETH_PnVLFk n k) F.ETH_PnVLFk_VIDA == vid) ||
        (s.flag (Reg.ETH_PnVLFk n k) F.ETH_PnVLFk_VALB && s.fld (Reg.ETH_PnVLFk n k) F.ETH_PnVLFk_VIDB == vid))

/-- UDP destination port of an untagged IPv4 or IPv6 frame, if it is a first fragment carrying UDP. -/
def udpPort (b : List Byte) : Option Nat :=
  if beAt b 12 2 = 0x0800 then
    if leAt b 23 1 = 17 && beAt b 20 2 % 8192 = 0 then some (beAt b (14 + leAt b 14 1 % 16 * 4 + 2) 2) else none
  else if beAt b 12 2 = 0x86DD then
    if leAt b 20 1 = 17 then some (beAt b 56 2) else none
  else none

/-- Whether a frame is classed high (R35). -/
def State.isHigh (s : State) (n : Nat) (tag : Option (Nat × Nat)) (b : List Byte) : Bool :=
  let hipcp := s.fld (Reg.ETH_PnRXCFG n) F.ETH_PnRXCFG_HIPCP
  beAt b 12 2 == 0x88F7 || udpPort b == some 319 || udpPort b == some 320 ||
  (match tag with
    | some (_, pcp) => hipcp ≤ pcp
    | none => hipcp == 0)

/-- A PAUSE frame: MAC control, opcode 1. -/
def isPause (b : List Byte) : Bool := beAt b 12 2 == 0x8808 && beAt b 14 2 == 1

/-- Bytes held in a receive buffer. -/
def EthPort.used (p : EthPort) : Nat := (p.rx.map (·.len)).sum

/-- A frame ends at a port: the discards of R32 in the order reassembly, FCS, length, PAUSE, filters, buffer space (R30-R38), else it is
kept whole with its stamp (R44, R46). -/
def State.receive (s : State) (n ns frac : Nat) (f : RxIn) : State :=
  let len := f.bytes.length + 4
  if f.aborted then s.bump (Reg.ETH_PnRXLEN n)
  else if !s.portEn n || !(s.port n).link then s
  else if !f.smdOk then s.bump (Reg.ETH_PnRXSMD n)
  else if !f.fcsOk then s.bump (Reg.ETH_PnRXFCS n)
  else if len < 64 || s.fld (Reg.ETH_PnRXCFG n) F.ETH_PnRXCFG_MAXLEN < len then s.bump (Reg.ETH_PnRXLEN n)
  else if isPause f.bytes then s.bump (Reg.ETH_PnRXPAUSE n)
  else
    match untag f.bytes with
    | none => s.bump (Reg.ETH_PnRXFILT n)
    | some (tag, b) =>
      if !s.addrOk n f.bytes || !s.vlanOk n tag then s.bump (Reg.ETH_PnRXFILT n)
      else
        let p := s.port n
        let high := s.isHigh n tag b
        let room := if high then rxBuffer n
          else rxBuffer n - s.fld (Reg.ETH_PnRXCFG n) F.ETH_PnRXCFG_HIRES * 16384
        if room < p.used + len then
          (s.bump (if high then Reg.ETH_PnRXOVFH n else Reg.ETH_PnRXOVFN n)).raise (E.ETH n) 4
        else
          let stamp := 16 * ns + frac - s.val (Reg.ETH_PnTSLATRX n) % 65536
          (s.setPort n { p with rx := p.rx ++ [{ high := high, tag := tag, bytes := b, len := len,
                                                 ns := stamp / 16, frac := stamp % 16 }] }).bump (Reg.ETH_PnRXOK n)

/-- FRAME_RECEIVED (R32-R38, R44). -/
def execFrameReceived (port ns frac : Nat) (frame : RxIn) (s : State) : Host.Outcome State Fault Refusal :=
  s.liveAt ns (fun s => s.receive port ns frac frame)

/-! ### Transmitting -/

/-- The next frame the MAC serves: EA, EB, the frame that was cut, then Q0-Q3 (R39, R41). -/
def EthPort.pickNext (p : EthPort) : Option (TxProg × EthPort) :=
  match p.ea, p.eb, p.held with
  | f :: r, _, _ => some (⟨0, f, 0⟩, { p with ea := r })
  | [], f :: r, _ => some (⟨1, f, 0⟩, { p with eb := r })
  | [], [], some h => some (h, { p with held := none })
  | [], [], none =>
    match (List.range 4).find? (fun i => !(tget (fun _ => []) p.q i).isEmpty) with
    | none => none
    | some i =>
      match tget (fun _ => []) p.q i with
      | [] => none
      | f :: r => some (⟨i + 2, f, 0⟩, { p with q := tput (fun _ => []) p.q i r })

/-- An idle MAC starts the next frame while the port is enabled and its link is up. -/
def State.startTx (s : State) (n : Nat) : State :=
  let p := s.port n
  if p.inProg.isSome || !p.link || !s.portEn n then s
  else
    match p.pickNext with
    | none => s
    | some (x, p1) => s.setPort n { p1 with inProg := some x }

/-- A frame handed to a queue: 0 EA, 1 EB, 2-5 Q0-Q3. On ports 4-7 EA is absent; an EA frame longer than 512 bytes is discarded
and counted (R39, R43). -/
def State.send (s : State) (n queue : Nat) (f : TxFrame) : State :=
  let p := s.port n
  match queue with
  | 0 =>
    if 4 ≤ n || 512 < f.bytes.length + 4 then s.bump (Reg.ETH_PnTXDROPE n)
    else (s.setPort n { p with ea := p.ea ++ [f] }).startTx n
  | 1 => (s.setPort n { p with eb := p.eb ++ [f] }).startTx n
  | q => (s.setPort n { p with q := tmod (fun _ => []) p.q (q - 2) (· ++ [f]) }).startTx n

/-- Whether an express frame may cut the preemptable frame in progress (R41). -/
def State.mayPreempt (s : State) (n : Nat) (x : TxProg) (sent : Nat) : Bool :=
  (s.port n).active && 2 ≤ x.queue &&
    (1 + s.fld (Reg.ETH_PnPREEMPT n) F.ETH_PnPREEMPT_ADDFRAG) * 64 ≤ sent &&
    64 ≤ x.frame.bytes.length + 4 - sent

/-- An express frame becomes ready: it cuts the preemptable frame at the next multiple of 8 data bytes, or waits (R41). -/
def State.expressReady (s : State) (n : Nat) (eb : Bool) (f : TxFrame) (sent : Nat) : State :=
  match (s.port n).inProg with
  | some x =>
    let at_ := max x.sent sent
    let s1 := s.send n (if eb then 1 else 0) f
    let p1 := s1.port n
    if s.mayPreempt n x at_ && p1 ≠ s.port n && n < 4 then
      ((s1.setPort n { p1 with inProg := none, held := some { x with sent := (at_ + 7) / 8 * 8 } }).bump
        (Reg.ETH_PnTXFRAG n)).startTx n
    else s1.setPort n { p1 with inProg := some { x with sent := at_ } }
  | none => s.send n (if eb then 1 else 0) f

/-- EXPRESS_FRAME_READY (R41). -/
def execExpressFrameReady (port : Nat) (eb : Bool) (frame : TxFrame) (sent : Nat) (s : State) :
    Host.Outcome State Fault Refusal :=
  s.live (fun s => s.expressReady port eb frame sent)

/-- originTimestamp: 48 bits of seconds, 32 bits of nanoseconds, big-endian. -/
def originTs (ns : Nat) : List Byte := beBytes 6 (ns / 1000000000) ++ beBytes 4 (ns % 1000000000)

/-- Bytes of a list replaced from position `i`. -/
def patch (l : List Byte) (i : Nat) (r : List Byte) : List Byte := l.take i ++ r ++ l.drop (i + r.length)

/-- A one-step Sync as it leaves: the transmit time in originTimestamp, the UDP checksum 0 (R47). -/
def oneStepFrame (f : TxFrame) (p : PtpTx) (ns : Nat) : TxFrame :=
  let b := patch f.bytes p.tsAt (originTs ns)
  { f with bytes := match p.udpSumAt with
      | some i => patch b i [0, 0]
      | none => b }

/-- The frame in progress has left: TXOK, its stamp (R44, R47, R48), and the next frame starts. -/
def State.transmitted (s : State) (n ns frac : Nat) : State :=
  let p := s.port n
  match p.inProg with
  | none => s
  | some x =>
    let stamp := 16 * ns + frac + s.val (Reg.ETH_PnTSLATTX n) % 65536
    let out := match x.frame.ptp with
      | some pt => if pt.oneStep && pt.msgType = 0 then oneStepFrame x.frame pt (stamp / 16) else x.frame
      | none => x.frame
    let s1 : State := (s.setPort n { p with inProg := none, out := p.out ++ [out] }).bump (Reg.ETH_PnTXOK n)
    let s2 : State := match x.queue, x.frame.ptp with
      | 1, some pt =>
        if pt.oneStep then s1
        else if 64 ≤ p.stamps.length then s1.raise (E.ETH n) 1
        else
          let e : TxStamp := { ns32 := stamp / 16 % 2 ^ 32, frac := stamp % 16, seqId := pt.seqId, msgType := pt.msgType }
          let p1 : EthPort := { s1.port n with stamps := p.stamps ++ [e] }
          s1.setPort n p1
      | _, _ => s1
    s2.startTx n

/-- FRAME_TRANSMITTED (R48). -/
def execFrameTransmitted (port ns frac : Nat) (s : State) : Host.Outcome State Fault Refusal :=
  s.liveAt ns (fun s => s.transmitted port ns frac)

/-- PnTXTSHI as read: the oldest entry with VALID, or 0 (Table 02-10). -/
def stampHi : List TxStamp → Nat
  | [] => 0
  | t :: _ => t.seqId % 65536 + t.frac % 16 * 2 ^ 16 + t.msgType % 16 * 2 ^ 20 + 2 ^ 31

/-- PnTXTSLO as read. -/
def stampLo : List TxStamp → Nat
  | [] => 0
  | t :: _ => t.ns32

/-- PnTXTSHI read: the oldest entry removed (R48). -/
def State.readTxStamp (s : State) (n : Nat) : State :=
  let p := s.port n
  (s.setPort n { p with stamps := p.stamps.drop 1 }).answer [stampHi p.stamps]

/-- TX_STAMP_READ (R48). -/
def execTxStampRead (req : Requester) (port : Nat) (s : State) : Host.Outcome State Fault Refusal :=
  s.live (fun s => s.readBy req (Reg.ETH_PnTXTSHI port) (fun s => s.readTxStamp port))

/-! ### Links and preemption -/

/-- PnPREEMPTSTAT follows ACTIVE and VSTATE (Table 02-9). -/
def State.setVerify (s : State) (n : Nat) (active : Bool) (vstate : Nat) : State :=
  (s.setPort n { s.port n with active := active, vstate := vstate }).setVal (Reg.ETH_PnPREEMPTSTAT n)
    ((if active then 1 else 0) + vstate * 2)

/-- Preemption starts on a link that is up: verification, or active at once with VDIS, or inactive with PEN clear (R40). -/
def State.beginVerify (s : State) (n : Nat) : State :=
  if 4 ≤ n then s
  else if !s.flag (Reg.ETH_PnPREEMPT n) F.ETH_PnPREEMPT_PEN then s.setVerify n false 0
  else if s.flag (Reg.ETH_PnPREEMPT n) F.ETH_PnPREEMPT_VDIS then s.setVerify n (s.port n).link 0
  else if !(s.port n).link then s.setVerify n false 1
  else
    let s1 := s.setVerify n false 2
    s1.setPort n { s1.port n with verifySent := 1, verifyAt := s.ns }

/-- LINK_UP (R40): PnSTAT, LINKCHG, verification. -/
def execLinkUp (t port status : Nat) (s : State) : Host.Outcome State Fault Refusal :=
  s.liveAt t (fun s =>
    let s1 := (s.setPort port { s.port port with link := true }).setVal (Reg.ETH_PnSTAT port) (status % 64 ||| 1)
    ((s1.raise (E.ETH port) 2).beginVerify port).startTx port)

/-- Link down: EA and EB discarded and counted, those of EA in ALM.PUBDROP too (R225), a frame in reception discarded, Q0-Q3 kept (R38, R43). A preemptable frame that
was in progress is kept at the head of its queue. -/
def State.linkLost (s : State) (n : Nat) (receiving : Bool) : State :=
  let p := s.port n
  let back := fun (x : Option TxProg) (q : Tab (List TxFrame)) => match x with
    | some y => if 2 ≤ y.queue then tmod (fun _ => []) q (y.queue - 2) (y.frame :: ·) else q
    | none => q
  let expr := match p.inProg with
    | some y => if y.queue < 2 then 1 else 0
    | none => 0
  let s1 := s.setPort n { p with link := false, ea := [], eb := [], inProg := none, held := none,
                                 q := back p.held (back p.inProg p.q) }
  let pubs := p.ea.length + (match p.inProg with
    | some y => if y.queue = 0 then 1 else 0
    | none => 0)
  let s2 := (s1.bumpBy (Reg.ETH_PnTXDROPE n) (p.ea.length + p.eb.length + expr)).bump (Reg.ETH_PnLINKDN n)
  let s2a := if pubs = 0 then s2 else (s2.bumpBy Reg.ALM_PUBDROP pubs).raise E.ALM 4
  let s3 := (s2a.setVal (Reg.ETH_PnSTAT n) 0).raise (E.ETH n) 2
  let s4 := if receiving then s3.bump (Reg.ETH_PnRXLEN n) else s3
  s4.beginVerify n

/-- LINK_DOWN (R38, R43). -/
def execLinkDown (t port : Nat) (receiving : Bool) (s : State) : Host.Outcome State Fault Refusal :=
  s.liveAt t (fun s => if (s.port port).link then s.linkLost port receiving else s)

/-- VERIFY_T passes with no respond mPacket: a further verify mPacket, or failure after the third (R40). -/
def execVerifyTExpiry (t port : Nat) (s : State) : Host.Outcome State Fault Refusal :=
  s.liveAt t (fun s =>
    let p := s.port port
    if p.vstate ≠ 2 || s.ns < p.verifyAt + s.fld (Reg.ETH_PnPREEMPT port) F.ETH_PnPREEMPT_VERIFY_T * 1000000 then s
    else if p.verifySent < 3 then s.setPort port { p with verifySent := p.verifySent + 1, verifyAt := s.ns }
    else (s.setVerify port false 4).raise (E.ETH port) 3)

/-- The partner's respond mPacket: preemption becomes active (R40). -/
def execRespondMpacketReceived (port : Nat) (s : State) : Host.Outcome State Fault Refusal :=
  s.live (fun s => if (s.port port).vstate = 2 then s.setVerify port true 3 else s)

/-- PnPREEMPT written; on ports 4-7 writes are discarded (R49). Setting PEN while the link is up starts verification (R40). -/
def State.writePreempt (s : State) (n v : Nat) : State :=
  if 4 ≤ n then s
  else
    match findReg (Reg.ETH_PnPREEMPT n) with
    | none => s
    | some d =>
      let new := BitVec.ofNat 32 v
      let old := s.reg (Reg.ETH_PnPREEMPT n)
      let s1 := s.setReg (Reg.ETH_PnPREEMPT n) (d.mergeKeeping false old new)
      let s2 := if d.inRange false new then s1 else s1.cfgErr (E.ETH n)
      if F.ETH_PnPREEMPT_PEN.of new ≠ F.ETH_PnPREEMPT_PEN.of old || F.ETH_PnPREEMPT_VDIS.of new ≠ F.ETH_PnPREEMPT_VDIS.of old ||
          (F.ETH_PnPREEMPT_PEN.of new = 1 && (s.port n).vstate = 4) then
        s2.beginVerify n
      else s2

/-- PREEMPT_WRITE (R40). -/
def execPreemptWrite (req : Requester) (t port value : Nat) (s : State) : Host.Outcome State Fault Refusal :=
  s.liveAt t (fun s => s.writeBy req (Reg.ETH_PnPREEMPT port) value (fun s => s.writePreempt port value))

/-! ### PnCTL -/

/-- Whether a SPEED value is allowed on a port (R50). -/
def speedOk (n sp : Nat) : Bool := if n < 4 then 2 ≤ sp else if n < 6 then sp < 2 else sp == 0

/-- Whether SPEED and FEC are allowed together (R50). -/
def pairOk (sp fec : Nat) : Bool := if sp = 3 then fec < 3 else if sp = 2 then fec < 2 else fec == 0

/-- The word a PnCTL write leaves, and whether a field was refused (R50). LOOP is accepted only in TEST. -/
def ctlAfter (n : Nat) (test : Bool) (old new : Word) : Word × Bool :=
  let en := F.ETH_PnCTL_EN.of old = 1
  let get := fun (f : Fld) (w : Word) => f.of w
  let sp0 := get F.ETH_PnCTL_SPEED old
  let fec0 := get F.ETH_PnCTL_FEC old
  let lp0 := get F.ETH_PnCTL_LOOP old
  let sp := get F.ETH_PnCTL_SPEED new
  let fec := get F.ETH_PnCTL_FEC new
  let lp := get F.ETH_PnCTL_LOOP new
  let chg := sp ≠ sp0 || fec ≠ fec0 || lp ≠ lp0
  let sp1 := if en || !speedOk n sp then sp0 else sp
  let fec1 := if en || fec = 3 then fec0 else fec
  let lp1 := if en || (lp = 1 && lp0 = 0 && !test) then lp0 else lp
  let pair := pairOk sp1 fec1
  let sp2 := if pair then sp1 else sp0
  let fec2 := if pair then fec1 else fec0
  let bad := (en && chg) || !speedOk n sp || fec = 3 || (lp = 1 && lp0 = 0 && !test) || !pair
  let w := F.ETH_PnCTL_LOOP.into (F.ETH_PnCTL_FEC.into (F.ETH_PnCTL_SPEED.into
    (BitVec.ofNat 32 (new.toNat % 512)) sp2) fec2) lp1
  (w, bad)

/-- Clearing EN: a frame in reception discarded and counted, all six queues discarded (R38, R43). -/
def State.disablePort (s : State) (n : Nat) (receiving : Bool) : State :=
  let p := s.port n
  let s1 := s.setPort n { p with ea := [], eb := [], q := [], inProg := none, held := none }
  if receiving then s1.bump (Reg.ETH_PnRXLEN n) else s1

/-- PnCTL written (R38, R43, R50). -/
def State.writePortCtl (s : State) (n v : Nat) (receiving : Bool) : State :=
  let old := s.reg (Reg.ETH_PnCTL n)
  let (w, bad) := ctlAfter n (s.sys.mode == .test) old (BitVec.ofNat 32 v)
  let s1 := s.setReg (Reg.ETH_PnCTL n) w
  let s2 := if bad then s1.cfgErr (E.ETH n) else s1
  if F.ETH_PnCTL_EN.of old = 1 && F.ETH_PnCTL_EN.of w = 0 then s2.disablePort n receiving else s2.startTx n

/-- PORT_CTL_WRITE (R50). -/
def execPortCtlWrite (req : Requester) (port value : Nat) (receiving : Bool) (s : State) :
    Host.Outcome State Fault Refusal :=
  s.live (fun s => s.writeBy req (Reg.ETH_PnCTL port) value (fun s => s.writePortCtl port value receiving))

end Sys2Proof.Machine
end

