-- ==== Sys2Proof/Machine/Time.lean ====
section
/-!
DEFINITION. Time base: increment, steps, latched reads, leap seconds, sources, echo and tile timers, compare channels, pulses,
TDC reads (R78-R105). What a step and a firing do to other blocks is in TimeEvents.
-/
namespace Sys2Proof.Machine

/-! ### Registers of time as numbers -/

/-- A signed number of `w` bits. -/
def signed (w v : Nat) : Int := if 2 ^ (w - 1) ≤ v % 2 ^ w then (v % 2 ^ w : Nat) - (2 : Int) ^ w else (v % 2 ^ w : Nat)

/-- TAI seconds now (R78). -/
def State.taiSec (s : State) : Nat := s.ns / 1000000000

/-- TB.LEAPSLO and LEAPSHI: the TAI second of the change. -/
def State.leapSec (s : State) : Nat := s.val Reg.TB_LEAPSLO + s.val Reg.TB_LEAPSHI % 65536 * 2 ^ 32

/-- TAI - UTC as TB.UTCOFF holds it, used whether or not VALID is 1. -/
def State.utcOff (s : State) : Int := signed 16 (s.val Reg.TB_UTCOFF % 65536)

/-- The offset before the last applied change (R83). -/
def State.utcOffBefore (s : State) : Int :=
  if bitAt (s.val Reg.TB_LEAPSHI) 30 = 0 then s.utcOff - 1 else s.utcOff + 1

/-- The TAI time in ns of a UTC time given as whole seconds and ns within the second (R83). -/
def State.utcToTai (s : State) (sec nsec : Nat) : Nat :=
  let p := (sec : Int) + s.utcOffBefore
  let off := if bitAt (s.val Reg.TB_LEAPSHI) 29 = 1 && p < (s.leapSec : Int) then s.utcOffBefore else s.utcOff
  (((sec : Int) + off) * 1000000000 + nsec).toNat

/-- The UTC time of a TAI time, both in ns (R83). -/
def State.taiToUtc (s : State) (tai : Nat) : Nat :=
  let off := if bitAt (s.val Reg.TB_LEAPSHI) 29 = 1 && tai / 1000000000 < s.leapSec then s.utcOffBefore else s.utcOff
  ((tai : Int) - off * 1000000000).toNat

/-! ### Increment and steps (R79, R81) -/

/-- INCRI written: the commit is pending until the next tick. -/
def State.writeIncri (s : State) (v : Nat) : State :=
  (s.setVal Reg.TB_INCRI (v % 256)).setFld Reg.TB_STAT F.TB_STAT_INCRPEND 1

/-- INCRI_WRITE (R79). -/
def execIncriWrite (req : Requester) (value : Nat) (s : State) : Host.Outcome State Fault Refusal :=
  s.live (fun s => s.writeBy req Reg.TB_INCRI value (fun s => s.writeIncri value))

/-- The words written, as a number in 2^-32 ns per tick. -/
def State.incrWords (s : State) : Nat := s.val Reg.TB_INCRI % 256 * 2 ^ 32 + s.val Reg.TB_INCRF

/-- Whether an increment is within 3.998-4.002 ns. -/
def incrOk (v : Nat) : Bool := 3998 * 2 ^ 32 ≤ v * 1000 && v * 1000 ≤ 4002 * 2 ^ 32

/-- The pending increment takes effect, or is refused with INCRRNG; INCRF[7:0] has no effect. -/
def State.commitIncr (s : State) : State :=
  if s.flag Reg.TB_STAT F.TB_STAT_INCRPEND then
    let s1 := s.setFld Reg.TB_STAT F.TB_STAT_INCRPEND 0
    if incrOk s.incrWords then { s1 with tb := { s1.tb with incr := s.incrWords / 256 } } else s1.raise E.TB 0
  else s

/-- STEPCMD written (R81). A word with neither bit asks for nothing. -/
def State.writeStepcmd (s : State) (v : Nat) : State :=
  let set := bitAt v 0 = 1
  let adj := bitAt v 1 = 1
  if !set && !adj then s
  else if (set && adj) || s.tb.step.isSome || (set && 1000000000 ≤ s.val Reg.TB_SETNS) then s.cfgErr E.TB
  else ({ s with tb := { s.tb with step := some set } }).setFld Reg.TB_STAT F.TB_STAT_STEPPEND 1

/-- STEPCMD (R81). -/
def execStepcmd (req : Requester) (value : Nat) (s : State) : Host.Outcome State Fault Refusal :=
  s.live (fun s => s.writeBy req Reg.TB_STEPCMD value (fun s => s.writeStepcmd value))

/-- The time after the next tick: the increment added, or SET, or ADJ (R78, R81); 48 bits of seconds wrap. -/
def State.nowAfterTick (s : State) : Nat :=
  let base := s.now + s.tb.incr
  let t : Int := match s.tb.step with
    | none => base
    | some true => ((s.val Reg.TB_SETSLO + s.val Reg.TB_SETSHI % 65536 * 2 ^ 32) * 1000000000 + s.val Reg.TB_SETNS : Nat) * (2 : Int) ^ 24
    | some false => (base : Int) + signed 32 (s.val Reg.TB_ADJNS) * 2 ^ 24
  t.toNat % (2 ^ 48 * 1000000000 * 2 ^ 24)

/-! ### Latched reads (R80) -/

/-- A read of NOWNS or NOW64LO: the rest of the same instant is latched for the requester. -/
def State.readNow (s : State) (req : Requester) (count64 : Bool) : State :=
  let (sec, sub, hi) := tget (fun _ => (0, 0, 0)) s.tb.latches (latchKey req)
  let l := if count64 then (sec, sub, s.ns / 2 ^ 32 % 2 ^ 32) else (s.taiSec, s.now % 2 ^ 24, hi)
  ({ s with tb := { s.tb with latches := tput (fun _ => (0, 0, 0)) s.tb.latches (latchKey req) l } }).answer
    [if count64 then s.ns32 else s.ns % 1000000000]

/-- NOW_READ (R80). -/
def execNowRead (req : Requester) (count64 : Bool) (s : State) : Host.Outcome State Fault Refusal :=
  s.live (fun s => s.readBy req (if count64 then Reg.TB_NOW64LO else Reg.TB_NOWNS) (fun s => s.readNow req count64))

/-! ### Leap seconds, sources (R83-R90) -/

/-- The pending change's second has arrived: UTCOFF changes, PENDING clears, APPLIED sets (R83). -/
def State.applyLeap (s : State) : State :=
  if s.flag Reg.TB_LEAPSHI F.TB_LEAPSHI_PENDING && s.leapSec ≤ s.taiSec then
    let hi := s.val Reg.TB_LEAPSHI
    let off := if bitAt hi 30 = 0 then s.utcOff + 1 else s.utcOff - 1
    let w := (off % 65536).toNat
    (s.setVal Reg.TB_UTCOFF (s.val Reg.TB_UTCOFF / 65536 * 65536 + w)).setVal Reg.TB_LEAPSHI (hi - 2 ^ 31 - bitAt hi 29 * 2 ^ 29 + 2 ^ 29)
  else s

/-- LEAP_SECOND_APPLY (R83). -/
def execLeapSecondApply (t : Nat) (s : State) : Host.Outcome State Fault Refusal := s.liveAt t State.applyLeap

/-- LEAPSHI written: setting PENDING clears APPLIED (R83). -/
def State.writeLeapshi (s : State) (v : Nat) : State :=
  let applied := if bitAt v 31 = 1 then 0 else bitAt (s.val Reg.TB_LEAPSHI) 29
  s.setVal Reg.TB_LEAPSHI (v % 65536 + applied * 2 ^ 29 + bitAt v 30 * 2 ^ 30 + bitAt v 31 * 2 ^ 31)

/-- Firmware schedules a change of the offset. -/
def State.scheduleLeap (s : State) (at_ : Nat) (delete : Bool) : State :=
  (s.setVal Reg.TB_LEAPSLO (at_ % 2 ^ 32)).writeLeapshi (at_ / 2 ^ 32 % 65536 + (if delete then 2 ^ 30 else 0) + 2 ^ 31)

/-- The servo writes an increment that it chooses; the spec does not give the value, only its range (R79, R84). -/
def State.servo (s : State) : State :=
  let (d, s1) := s.draw
  let lo := 3998 * 2 ^ 32 / 1000 + 1
  let span := 4002 * 2 ^ 32 / 1000 - lo + 1
  let v := lo + Config.freeNat d % span
  (s1.setVal Reg.TB_INCRF (v % 2 ^ 32)).writeIncri (v / 2 ^ 32)

/-- A PTP message on the active port: an Announce settles master or slave and brings the UTC offset and the leap flags; any
other message runs the servo (R83, R85). A message on another port or of another profile is ignored. -/
def State.ptp (s : State) (m : PtpMsg) : State :=
  if !m.onActive then s
  else if m.announce then
    let master := m.ownBest && !m.slaveOnly
    let s1 : State := { s with tb := { s.tb with ptpMaster := master } }
    if master then s1
    else
      let s2 := match m.utcOffset with
        | some o => s1.setVal Reg.TB_UTCOFF (o % 65536 + 2 ^ 31)
        | none => s1
      if m.leap61 then s2.scheduleLeap m.leapAt false
      else if m.leap59 then s2.scheduleLeap m.leapAt true else s2
  else if s.tb.ptpMaster then s else s.servo

/-- PTP_MESSAGE (R85). -/
def execPtpMessage (t : Nat) (msg : PtpMsg) (s : State) : Host.Outcome State Fault Refusal := s.liveAt t (fun s => s.ptp msg)

/-- IRIGSTAT and its copy in STAT: consecutive good frames, LOCK from the second on. -/
def State.setIrig (s : State) (n : Nat) : State :=
  let lock := if 2 ≤ n then 1 else 0
  (s.setVal Reg.TB_IRIGSTAT (lock + min n 255 * 256)).setFld Reg.TB_STAT F.TB_STAT_IRIGLOCK lock

/-- A decoded frame (R86). -/
def State.irig (s : State) (f : IrigFrame) : State :=
  if !s.flag Reg.TB_IRIGCFG F.TB_IRIGCFG_EN then s
  else if !f.good then (({ s with tb := { s.tb with irigPrev := none } }).setIrig 0).raise E.TB 5
  else
    let follows := s.tb.irigPrev == some (f.utc - 1) && 1 ≤ f.utc
    let n := if follows then s.val Reg.TB_IRIGSTAT / 256 % 256 + 1 else 1
    let s1 := ({ s with tb := { s.tb with irigPrev := some f.utc } }).setIrig n
    let s2 := (s1.setVal Reg.TB_IRIGTOD (f.sod % 2 ^ 17 + f.doy % 512 * 2 ^ 17)).setVal Reg.TB_IRIGYR
      (match f.year with
        | some y => y % 128 + 128
        | none => 0)
    match f.leap with
    | some (at_, del) => if 2 ≤ n && s.flag Reg.TB_IRIGCFG F.TB_IRIGCFG_X1344 then s2.scheduleLeap at_ del else s2
    | none => s2

/-- IRIG_FRAME (R86). -/
def execIrigFrame (t : Nat) (frame : IrigFrame) (s : State) : Host.Outcome State Fault Refusal :=
  s.liveAt t (fun s => s.irig frame)

/-- The IEEE C37.118.2 time quality code that covers an error in ns (notes/assumptions/20). -/
def tqCode (e : Nat) : Nat :=
  match [1, 10, 100, 1000, 10000, 100000, 1000000, 10000000, 100000000, 1000000000, 10000000000].findIdx? (e ≤ ·) with
  | some i => i + 1
  | none => 15

/-- E(t) = E0 + |y| t + |D| t^2 / 2 + |k| DT t in ns, rounded up (R88). -/
def holdError (e : HoldEst) (dt : Nat) : Nat :=
  e.e0 + ((e.y + e.kdt) * dt * 2 * 10 ^ 15 + e.d * dt * dt + 2 * 10 ^ 30 - 1) / (2 * 10 ^ 30)

/-- HOLDERR written: the servo's error estimate (R87, R88). -/
def State.writeHolderr (s : State) (v : Nat) : State :=
  let from_ := if 100 ≤ v then none
    else match s.tb.lowSince with
      | some t => some t
      | none => some s.ns
  ({ s with tb := { s.tb with lowSince := from_ } }).setVal Reg.TB_HOLDERR v

/-- Lock: the error estimate has stayed below 100 ns for 10 s (R87). -/
def State.servoLocked (s : State) : Bool :=
  match s.tb.lowSince with
  | some t => t + 10000000000 ≤ s.ns
  | none => false

/-- In holdover firmware writes E(t), HOLD, UNSYNC once E(t) exceeds 1 us, and the time quality code (R88). -/
def State.holdUpdate (s : State) (e : HoldEst) : State :=
  match s.tb.holdFrom with
  | none => s
  | some from_ =>
    let err := holdError e (s.ns - from_)
    let s1 := s.writeHolderr (min err 0xFFFFFFFF)
    let unsync := if 1000 < err then 1 else s.fld Reg.TB_TQ F.TB_TQ_UNSYNC
    s1.setVal Reg.TB_TQ (tqCode err + unsync * 16 + 32)

/-- TB_PLL_UNLOCK (R90). -/
def execTbPllUnlock (t : Nat) (s : State) : Host.Outcome State Fault Refusal :=
  s.liveAt t (fun s =>
    let s1 := (s.raise E.TB 6).setFld Reg.TB_STAT F.TB_STAT_PLLLOCK 0
    (s1.setFld Reg.TB_TQ F.TB_TQ_UNSYNC 1).setFld Reg.TB_TQ F.TB_TQ_TQCODE 15)

/-- TB_PLL_LOCK (R90). -/
def execTbPllLock (t : Nat) (s : State) : Host.Outcome State Fault Refusal :=
  s.liveAt t (fun s => s.setFld Reg.TB_STAT F.TB_STAT_PLLLOCK 1)

/-! ### Time echo and tile timers (R91-R93) -/

def State.tileTimer (s : State) (n : Nat) : TileTimer := tget (fun _ => {}) s.tb.tiles n

def State.setTileTimer (s : State) (n : Nat) (x : TileTimer) : State :=
  { s with tb := { s.tb with tiles := tput (fun _ => {}) s.tb.tiles n x } }

/-- What a timer moves in `n` LAT cycles while it slews: 1.0 ns a cycle until a positive correction is level, no advance until
a negative one is (R92); and the correction that is left. -/
def TileTimer.moved (x : TileTimer) (n : Nat) : Nat × Int :=
  if 0 < x.slew then
    let gain := min x.slew.toNat (n * (2 ^ 24 - x.rate))
    (n * x.rate + gain, x.slew - gain)
  else
    let loss := min (-x.slew).toNat (n * x.rate)
    (n * x.rate - loss, x.slew + loss)

/-- A timer after `n` LAT cycles; a compare fires once if the integer part reaches its target (R93). -/
def TileTimer.run (x : TileTimer) (n : Nat) : TileTimer :=
  let (d, left) := x.moved n
  let v := x.value + d
  let hit := match x.target with
    | some t => decide ((t + 2 ^ 32 - x.value / 2 ^ 24 - 1) % 2 ^ 32 < v / 2 ^ 24 - x.value / 2 ^ 24)
    | none => false
  { x with
    value := v % 2 ^ 56
    slew := left
    target := if hit then none else x.target
    fires := if hit then x.fires + 1 else x.fires }

/-- A timer at an echo: it slews when STEP is clear and the correction is within 256 ns, else loads (R92). -/
def TileTimer.echo (x : TileTimer) (ns32 rate : Nat) (step : Bool) : TileTimer :=
  let c := signed 56 (ns32 * 2 ^ 24 + 2 ^ 56 - x.value)
  if !step && c.natAbs ≤ 256 * 2 ^ 24 then { x with rate := rate, slew := c }
  else { x with rate := rate, slew := 0, value := ns32 * 2 ^ 24, tjump := true }

/-- The echo of a millisecond boundary to all 256 tiles (R91). -/
def State.echo (s : State) (cycles : Nat) : State :=
  if s.flag Reg.TB_CTL F.TB_CTL_ECHOEN && s.ns % 1000000 = 0 then
    let rate := 2 ^ 24 * 1000000 / cycles
    let s1 := (s.setVal Reg.TB_ECHOLO (s.ns % 2 ^ 32)).setVal Reg.TB_ECHOHI (s.ns / 2 ^ 32)
    let s2 := (List.range 256).foldl (fun s n =>
      s.setTileTimer n (((s.tileTimer n).run cycles).echo s.ns32 rate s.tb.stepSinceEcho)) s1
    { s2 with tb := { s2.tb with stepSinceEcho := false } }
  else s

/-- TIME_ECHO (R91). -/
def execTimeEcho (t cycles : Nat) (s : State) : Host.Outcome State Fault Refusal := s.liveAt t (fun s => s.echo cycles)

/-- TILE_COMPARE_FIRE (R93). -/
def execTileCompareFire (tile target cycles : Nat) (s : State) : Host.Outcome State Fault Refusal :=
  s.live (fun s => s.setTileTimer tile ({ s.tileTimer tile with target := some (target % 2 ^ 32) }.run cycles))

/-! ### Compare channels: configuration (R95-R99) -/

def State.cmpTarget (s : State) (n : Nat) : Nat := (tget (fun _ => {}) s.tb.cmp n : Cmp).target

def State.setCmpTarget (s : State) (n t : Nat) : State :=
  { s with tb := { s.tb with cmp := tput (fun _ => {}) s.tb.cmp n { target := t % 2 ^ 48 } } }

/-- Whether a write by this requester to channel `n` is discarded: channels 24-31 are resident firmware's (R99). -/
def notOwner (req : Requester) (n : Nat) : Bool :=
  24 ≤ n && (match req with
    | .core k => 6 ≤ k
    | _ => true)

/-- A write to a channel's registers: discarded with OWNER where the requester does not own the channel. -/
def State.cmpWrite (s : State) (req : Requester) (n : Nat) (eff : State → State) : State :=
  if notOwner req n then s.raise E.TB 2 else eff s

/-- CMPnTGT written: the target is committed with CMPnTGTF and armed when EN is 1 (R95). -/
def State.writeCmpTgt (s : State) (n v : Nat) : State :=
  let s1 := (s.setVal (Reg.TB_CMPnTGT n) (v % 2 ^ 32)).setCmpTarget n (v * 65536 + s.val (Reg.TB_CMPnTGTF n) % 65536)
  if s.flag (Reg.TB_CMPnCTL n) F.TB_CMPnCTL_EN then s1.setFld (Reg.TB_CMPnSTAT n) F.TB_CMPnSTAT_ARMED 1 else s1

/-- CMP_TARGET_WRITE (R95). -/
def execCmpTargetWrite (req : Requester) (ch value : Nat) (s : State) : Host.Outcome State Fault Refusal :=
  s.live (fun s => s.writeBy req (Reg.TB_CMPnTGT ch) value (fun s => s.cmpWrite req ch (fun s => s.writeCmpTgt ch value)))

/-- Whether a period is within 100-2 147 483 647 ns. -/
def perOk (p : Nat) : Bool := 100 ≤ p && p ≤ 2147483647

/-- Whether CMPnCTL may take a value: the action and its ARG exist, and a periodic channel has a period (R97, R100). -/
def State.cmpCtlOk (s : State) (n v : Nat) : Bool :=
  let act := bitsOf v 2 3
  let arg := bitsOf v 10 10
  act ≤ 5 && (act != 5 || n == 31) && (act != 3 || arg ≤ 15) &&
    (bitAt v 0 == 0 || bitAt v 1 == 0 || perOk (s.val (Reg.TB_CMPnPER n)))

/-- CMPnCTL written: a change of EN arms or disarms (R95, R98). -/
def State.writeCmpCtl (s : State) (n v : Nat) : State :=
  if !s.cmpCtlOk n v then s.cfgErr E.TB
  else
    let was := s.fld (Reg.TB_CMPnCTL n) F.TB_CMPnCTL_EN
    let s1 := s.setVal (Reg.TB_CMPnCTL n) (v % 2 ^ 20)
    if bitAt v 0 = was then s1 else s1.setFld (Reg.TB_CMPnSTAT n) F.TB_CMPnSTAT_ARMED (bitAt v 0)

/-- CMP_CTL_WRITE (R98, R100). -/
def execCmpCtlWrite (req : Requester) (ch value : Nat) (s : State) : Host.Outcome State Fault Refusal :=
  s.live (fun s => s.writeBy req (Reg.TB_CMPnCTL ch) value (fun s => s.cmpWrite req ch (fun s => s.writeCmpCtl ch value)))

/-! ### Time pulse outputs (R102) -/

def State.tpo (s : State) (m : Nat) : Tpo := tget (fun _ => {}) s.tb.tpo m

def State.setTpo (s : State) (m : Nat) (x : Tpo) : State :=
  { s with tb := { s.tb with tpo := tput (fun _ => {}) s.tb.tpo m x } }

/-- A firing drives an output: a pulse that ends WIDTH after this firing, or an inversion; ignored while the outputs are not
driven, or under SYNCGATE while time is unsynchronised. -/
def State.fireTpo (s : State) (m : Nat) : State :=
  let cfg := s.val (Reg.TB_TPOmCFG m)
  if !s.flag Reg.TB_CTL F.TB_CTL_TPOEN || (bitAt cfg 2 = 1 && s.flag Reg.TB_TQ F.TB_TQ_UNSYNC) then s
  else if bitAt cfg 1 = 1 then s.setTpo m { active := !(s.tpo m).active }
  else s.setTpo m { active := true, endsAt := some (s.ns + s.val (Reg.TB_TPOmWIDTH m)) }

/-- TPO_PULSE_END (R102). -/
def execTpoPulseEnd (t output : Nat) (s : State) : Host.Outcome State Fault Refusal :=
  s.liveAt t (fun s =>
    match (s.tpo output).endsAt with
    | some e => if e ≤ s.ns then s.setTpo output {} else s
    | none => s)

/-- TB.CTL written: with TPOEN clear every output is held at its inactive level (R102). -/
def State.writeTbCtl (s : State) (v : Nat) : State :=
  let s1 := s.setVal Reg.TB_CTL (v % 8)
  if bitAt v 2 = 0 then { s1 with tb := { s1.tb with tpo := [] } } else s1

/-! ### TDC reads (R104) -/

def State.tdc (s : State) (k : Nat) : Tdc := tget (fun _ => {}) s.tb.tdc k

def State.setTdc (s : State) (k : Nat) (x : Tdc) : State :=
  { s with tb := { s.tb with tdc := tput (fun _ => {}) s.tb.tdc k x } }

/-- TDCkHI as read. -/
def tdcHi : List TdcStamp → Nat
  | [] => 0
  | e :: _ => e.frac % 128 + (if e.ovf then 2 ^ 30 else 0) + 2 ^ 31

/-- TDCkLO as read. -/
def tdcLo : List TdcStamp → Nat
  | [] => 0
  | e :: _ => e.ns32

/-- TDCkHI read: the oldest entry removed, if there is one. -/
def State.readTdc (s : State) (k : Nat) : State :=
  let x := s.tdc k
  (s.setTdc k { x with fifo := x.fifo.drop 1 }).answer [tdcHi x.fifo]

/-- TDC_STAMP_READ (R104). -/
def execTdcStampRead (req : Requester) (input : Nat) (s : State) : Host.Outcome State Fault Refusal :=
  s.live (fun s => s.readBy req (Reg.TB_TDCkHI input) (fun s => s.readTdc input))

end Sys2Proof.Machine
end

