-- ==== Sys2Proof/Machine/Trig.lean ====
section
/-!
DEFINITION. Sine, cosine, arctangent and logarithm in fixed point of 320 fraction bits: exact enough that the one rounding to
binary32 that follows is the rounding of the true value.
-/
namespace Sys2Proof.Machine

/-- Fixed-point one. -/
def fxOne : Int := 2 ^ 320

/-- Pi in fixed point. -/
def fxPi : Int := 6710401180212168915155840974220003240804194089427148950727106424351713218671805380099500388914039

/-- The natural logarithm of 2 in fixed point. -/
def fxLn2 : Int := 1480553391661173448385607439722553250922680800745876974795605978609098082859138712941075737848984

/-- A product in fixed point. -/
def fxMul (a b : Int) : Int := a * b / fxOne

/-- A rational in fixed point. -/
def fxOf (num : Int) (den : Nat) : Int := num * fxOne / (den : Int)

/-- The terms of the cosine or sine series from term number `k` on: each is the one before times -r^2 / ((k + 1)(k + 2)). -/
def trigSeries (r2 : Int) : Nat → Int → Int → Int
  | 0, _, _ => 0
  | n + 1, k, t => t + trigSeries r2 n (k + 2) (-(fxMul t r2) / ((k + 1) * (k + 2)))

/-- Sine and cosine of an angle in radians. -/
def fxSinCos (x : Int) : Int × Int :=
  let q := (2 * x + fxPi / 2) / fxPi
  let r := x - q * fxPi / 2
  let r2 := fxMul r r
  let c := trigSeries r2 48 0 fxOne
  let s := trigSeries r2 48 1 r
  match (q % 4).toNat with
  | 0 => (s, c)
  | 1 => (c, -s)
  | 2 => (-s, -c)
  | _ => (-c, s)

/-- The arctangent series. -/
def atanSeries (t2 : Int) : Nat → Int → Int → Int
  | 0, _, _ => 0
  | n + 1, k, t => t / k + atanSeries t2 n (k + 2) (-(fxMul t t2))

/-- A square root in fixed point. -/
def fxSqrt (x : Int) : Int := isqrt (x.toNat * 2 ^ 320)

/-- tan(a / 2) from tan a. -/
def halfTan (t : Int) : Int := t * fxOne / (fxOne + fxSqrt (fxOne + fxMul t t))

/-- Arctangent of a value in 0 to 1. -/
def fxAtan01 (t : Int) : Int :=
  let h := halfTan (halfTan t)
  4 * atanSeries (fxMul h h) 80 1 h

/-- The angle of (x, y) in radians, in (-pi, pi]; 0 for the origin. -/
def fxAtan2 (y x : Int) : Int :=
  if x = 0 && y = 0 then 0
  else
    let ax := (x.natAbs : Int)
    let ay := (y.natAbs : Int)
    let a := if ay ≤ ax then fxAtan01 (ay * fxOne / ax) else fxPi / 2 - fxAtan01 (ax * fxOne / ay)
    let b := if x < 0 then fxPi - a else a
    if y < 0 then -b else b

/-- The series of 2 artanh z. -/
def lnSeries (z2 : Int) : Nat → Int → Int → Int
  | 0, _, _ => 0
  | n + 1, k, t => 2 * t / k + lnSeries z2 n (k + 2) (fxMul t z2)

/-- The natural logarithm of num / den, both above 0. -/
def fxLn (num den : Nat) : Int :=
  let e : Int := (Nat.log2 num : Int) - Nat.log2 den
  let n : Nat := if e < 0 then num * 2 ^ (-e).toNat else num
  let d : Nat := if e < 0 then den else den * 2 ^ e.toNat
  let z := ((n : Int) - d) * fxOne / ((n : Int) + d)
  e * fxLn2 + lnSeries (fxMul z z) 110 1 z

/-- The exponential series from term number `k` on. -/
def expSeries (r : Int) : Nat → Int → Int → Int
  | 0, _, _ => 0
  | n + 1, k, t => t + expSeries r n (k + 1) (fxMul t r / (k + 1))

/-- e^x as binary32. -/
def fxExp32 (x : Int) : Nat :=
  let q := x / fxLn2
  let m := expSeries (x - q * fxLn2) 80 0 fxOne
  if 200 < q then fmt32.infBits
  else if q < -300 then 0
  else if 0 ≤ q then fmt32.ofRat (m * 2 ^ q.toNat) (2 ^ 320) else fmt32.ofRat m (2 ^ (320 + (-q).toNat))

/-- A fixed-point value as binary32. -/
def fxTo32 (x : Int) : Nat := fmt32.ofRat x (2 ^ 320)

end Sys2Proof.Machine
end

