-- ==== Sys2Proof/Machine/Snap.lean ====
section
/-!
DEFINITION. Snapshot alignment: instants, members, learning, windows, opening, placement, slots, records and subscriptions, and the
settings of provisional release (R106-R145). The releases themselves are in Release.
-/
namespace Sys2Proof.Machine

/-! ### Parts of the state -/

def State.sc (s : State) (n : Nat) : SnapClass := tget (fun _ => {}) s.snap.classes n

def State.setSc (s : State) (n : Nat) (c : SnapClass) : State :=
  { s with snap := { s.snap with classes := tput (fun _ => {}) s.snap.classes n c } }

def State.stream (s : State) (v : Nat) : StreamRec := tget (fun _ => {}) s.snap.streams v

def State.setStream (s : State) (v : Nat) (r : StreamRec) : State :=
  { s with snap := { s.snap with streams := tput (fun _ => {}) s.snap.streams v r } }

/-- The snapshot of an instant replaced. -/
def replaceSnap (x : Snapshot) : List Snapshot → List Snapshot
  | [] => []
  | y :: ys => if y.inst = x.inst then x :: ys else y :: replaceSnap x ys

def State.putSnap (s : State) (n : Nat) (x : Snapshot) : State :=
  s.setSc n { s.sc n with snaps := replaceSnap x (s.sc n).snaps }

def SnapClass.at_ (c : SnapClass) (inst : Nat) : Option Snapshot := c.snaps.find? (·.inst == inst)

/-! ### Instants (R106, R107) -/

def State.rate (s : State) (n : Nat) : Nat := s.fld (Reg.SNAP_SCnCFG n) F.SNAP_SCnCFG_RATE

def State.scEn (s : State) (n : Nat) : Bool := s.flag (Reg.SNAP_SCnCFG n) F.SNAP_SCnCFG_EN

/-- I(S, k). -/
def instantOf (rate sec k : Nat) : Nat := sec * 1000000000 + divRne (k * 1000000000) rate

/-- (S, k) with k brought below RATE. -/
def normInst (rate sec k : Nat) : Nat × Nat := if rate ≤ k then (sec + 1, k - rate) else (sec, k)

/-- SEQ of I(S, k). -/
def seqOf (rate sec k : Nat) : Nat := (sec * rate + k) % 2 ^ 32

/-- The instant nearest a time, as (S, k); the earlier one of two that are equally near. -/
def nearest (rate t : Nat) : Nat × Nat :=
  let sec := t / 1000000000
  let k := t % 1000000000 * rate / 1000000000
  let dist := fun (c : Nat × Nat) => (t : Int) - instantOf rate c.1 c.2
  let cands := (if k = 0 then [] else [(sec, k - 1)]) ++ [(sec, k), normInst rate sec (k + 1)]
  cands.foldl (fun b c => if (dist c).natAbs < (dist b).natAbs then c else b) (sec, k)

/-- The latest instant not later than a time, as (S, k). -/
def latestInst (rate t : Nat) : Nat × Nat :=
  let sec := t / 1000000000
  let k := t % 1000000000 * rate / 1000000000
  let c := normInst rate sec (k + 1)
  if instantOf rate c.1 c.2 ≤ t then c
  else if instantOf rate sec k ≤ t then (sec, k)
  else if k = 0 then (sec - 1, rate - 1) else (sec, k - 1)

/-! ### Members (R108) -/

/-- Entries of the stream table. -/
def State.streamEntries (s : State) : List RegEntry := s.ing.streams.filterMap (·.2)

def State.descAt (s : State) (i : Nat) : Option Desc := tget (fun _ => none) s.ing.descs i

/-- The class of the local vertex, while the local phasor is enabled (R261). -/
def State.localClass (s : State) : Option Nat :=
  if s.flag Reg.FLT_PHCFG F.FLT_PHCFG_EN then some (s.fld Reg.FLT_PHCFG F.FLT_PHCFG_SC) else none

/-- A VID put into a rising list. -/
def insertVid (v : Nat) : List Nat → List Nat
  | [] => [v]
  | w :: r => if v < w then v :: w :: r else if v = w then w :: r else w :: insertVid v r

/-- Members of a class now. -/
def State.membersOf (s : State) (n : Nat) : List Nat :=
  let vs := ((s.streamEntries.filter (fun e => e.sc == n && !e.paused && (s.descAt e.desc).isSome)).map (·.vid)).foldl
    (fun l v => insertVid v l) []
  if s.localClass = some n then insertVid 0x1FFF vs else vs

/-! ### Latency learning and the window (R114, R115) -/

def StreamRec.count (r : StreamRec) (b : Nat) : Nat := tget (fun _ => 0) r.hist b

def StreamRec.total (r : StreamRec) : Nat := (r.hist.map (·.2)).sum

/-- The bucket of a latency in 1/16 ns: the number of edges E(1)-E(63) at or below it, E(b) = 50 us * 2^(b/4). -/
def bucketOf (lat : Int) : Nat :=
  ((List.range 63).filter (fun i => 0 < lat && 800000 ^ 4 * 2 ^ (i + 1) ≤ lat.toNat ^ 4)).length

/-- One latency learned by a stream of class `n`; at LDECAY every count is halved. -/
def State.learn (s : State) (n v : Nat) (lat : Int) : State :=
  if s.flag Reg.SNAP_CTL F.SNAP_CTL_LEARN then
    let r := s.stream v
    let h := tmod (fun _ => 0) r.hist (bucketOf lat) (fun c => min (c + 1) 65535)
    let r1 : StreamRec := { r with hist := h }
    let r2 : StreamRec := if s.val (Reg.SNAP_SCnLDECAY n) ≤ r1.total then
      { r with hist := tputAll (fun _ => 0) [] (h.map (fun p => (p.1, p.2 / 2))) } else r1
    s.setStream v r2
  else s

/-- E(b) in units of 2^-64 us. -/
def edgeFx (b : Nat) : Nat := isqrt (isqrt (50 ^ 4 * 2 ^ b * 2 ^ 256))

/-- q(s) in whole us (R114). -/
def StreamRec.quantile (r : StreamRec) (lq : Nat) : Nat :=
  let goal := r.total * lq
  let rec go : Nat → Nat → Nat → Nat
    | 0, _, _ => 0
    | f + 1, b, cum =>
      let c := r.count b
      if goal ≤ (cum + c) * 65536 then
        if b = 63 then divRne (edgeFx 63) (2 ^ 64)
        else
          let lo := if b = 0 then 0 else edgeFx b
          let span := edgeFx (b + 1) - lo
          if c = 0 then divRne lo (2 ^ 64)
          else divRne (lo * (c * 65536) + span * (goal - cum * 65536)) (2 ^ 64 * (c * 65536))
      else go f (b + 1) (cum + c)
  go 64 0 0

/-- A number put into a falling list. -/
def insertDesc (v : Nat) : List Nat → List Nat
  | [] => [v]
  | w :: r => if w ≤ v then v :: w :: r else w :: insertDesc v r

/-- The learned members' quantiles, largest first. -/
def State.learnedQ (s : State) (n : Nat) (members : List Nat) : List Nat :=
  let lq := s.val (Reg.SNAP_SCnLQ n) % 65536
  ((members.filter (fun v => 64 ≤ (s.stream v).total)).map (fun v => (s.stream v).quantile lq)).foldl
    (fun l q => insertDesc q l) []

/-- W of the snapshot that opens next, in us (R114). -/
def State.window (s : State) (n : Nat) (members : List Nat) : Nat :=
  let wmax := s.val (Reg.SNAP_SCnWMAX n)
  let wmin := s.val (Reg.SNAP_SCnWMIN n)
  let q := s.learnedQ n members
  let stragn := s.fld (Reg.SNAP_SCnCFG n) F.SNAP_SCnCFG_STRAGN
  let raw := if q.length ≤ stragn then wmax else q.getD stragn 0 + s.val (Reg.SNAP_SCnMARGIN n)
  let target := min (max raw wmin) wmax
  let wprev := ((s.sc n).wprev).getD wmax
  let w := if wprev ≤ target then target else max target (wprev - s.val (Reg.SNAP_SCnDECSTEP n))
  min w wmax

/-! ### Slot places (R119) -/

/-- Slots of the on-chip pool. -/
def poolSlots : Nat := 38912

/-- Slots the spill region holds. -/
def State.spillSlots (s : State) : Nat := s.val Reg.SNAP_SPILLSIZE % 65536 * 0x100000 / 384

def State.allSnaps (s : State) : List Snapshot := ((List.range 8).map (fun n => (s.sc n).snaps)).flatten

/-- Slots in spill now. -/
def State.spillUse (s : State) : Nat := (s.allSnaps.map (·.spill)).sum

/-- The head of a class: its oldest snapshot not finally released. -/
def SnapClass.head (c : SnapClass) : Option Snapshot := c.snaps.find? (fun x => x.finalAt.isNone)

/-- Reserved for heads: the member count of every enabled class. -/
def State.reserve (s : State) : Nat :=
  ((List.range 8).map (fun n => if s.scEn n then (s.membersOf n).length else 0)).sum

/-- Whether a snapshot is its class's head. -/
def State.isHead (s : State) (n : Nat) (x : Snapshot) : Bool :=
  match (s.sc n).head with
  | some h => h.inst == x.inst
  | none => false

/-- On-chip slots free for snapshots that are not heads. -/
def State.poolFree (s : State) : Nat :=
  let used := ((List.range 8).map (fun n =>
    (((s.sc n).snaps.filter (fun x => !s.isHead n x)).map (·.onchip)).sum)).sum
  poolSlots - s.reserve - used

/-- Slots of snapshots that await only their amend horizon moved to spill, oldest first, until `need` slots are free. -/
def State.spillAmended (s : State) (need : Nat) : State :=
  let cands := (((List.range 8).map (fun n => (((s.sc n).snaps.filter (fun x => x.finalAt.isSome)).map (fun x => (n, x))))).flatten).foldl
    (fun (l : List (Nat × Snapshot)) p =>
      let before := l.takeWhile (fun q => q.2.inst ≤ p.2.inst)
      before ++ [p] ++ l.drop before.length) []
  cands.foldl (fun s (p : Nat × Snapshot) =>
    if need ≤ s.poolFree then s
    else
      let k := min p.2.onchip (s.spillSlots - s.spillUse)
      s.putSnap p.1 { p.2 with onchip := p.2.onchip - k, spill := p.2.spill + k, spilled := p.2.spilled || k != 0 }) s

/-- The oldest amend-pending snapshot with slots loses its amend tracking. -/
def State.dropAmend (s : State) : State :=
  let cands := ((List.range 8).map (fun n => (((s.sc n).snaps.filter (fun x => x.finalAt.isSome)).map (fun x => (n, x))))).flatten
  match cands with
  | [] => s
  | c :: cs =>
    let o := cs.foldl (fun (b : Nat × Snapshot) p => if p.2.inst < b.2.inst then p else b) c
    s.setSc o.1 { s.sc o.1 with
      snaps := (s.sc o.1).snaps.filter (fun x => x.inst != o.2.inst)
      past := (o.2.inst, o.2.members, o.2.slots.map (·.1)) :: (s.sc o.1).past }

/-- SPILL is set the first time that slots go to spill. -/
def State.noteSpill (s0 s : State) : State := if s0.spillUse = 0 && s.spillUse ≠ 0 then s.raise E.SNAP 1 else s

/-- The slots of an opening snapshot: a head takes the reserve; another takes the pool, then spill; then amend tracking is
dropped, oldest first, while that frees slots (R119). Answers how many lie on chip and in spill. -/
def State.takeSlots (s : State) (head : Bool) (need : Nat) : Nat → State × Nat × Nat
  | 0 =>
    if head then (s, need, 0)
    else
      let s1 := s.spillAmended need
      let on := min need s1.poolFree
      (s1, on, min (need - on) (s1.spillSlots - s1.spillUse))
  | f + 1 =>
    if head then (s, need, 0)
    else
      let s1 := s.spillAmended need
      let on := min need s1.poolFree
      let sp := min (need - on) (s1.spillSlots - s1.spillUse)
      if on + sp < need && s1.allSnaps.any (fun x => x.finalAt.isSome) then (s1.dropAmend).takeSlots head need f
      else (s1, on, sp)

/-! ### Opening (R110) -/

/-- Whether snapshots are being opened: a mode that aligns, and CTL.EN (Table 05-7, Table 21-1). -/
def State.snapRunning (s : State) : Bool := s.sys.mode.released && s.flag Reg.SNAP_CTL F.SNAP_CTL_EN

/-- The counted members of a member list now: weight above 0 and not absent (R129). -/
def State.countedOf (s : State) (ms : List Nat) : List (Nat × Nat × Bool) :=
  (ms.filter (fun v => (s.stream v).weight != 0 && !(s.stream v).absent)).map
    (fun v => (v, (s.stream v).weight, (s.stream v).anchor))

/-- Whether a 32-bit sequence number lies at or after another. -/
def seqFrom (a b : Nat) : Bool := (a + 2 ^ 32 - b) % 2 ^ 32 < 2 ^ 31

/-- Whether a member-set change that the Active named is due at a SEQ of a class (R361 kind 7). -/
def membersDue (n seq : Nat) (d : DeltaBody) : Bool :=
  match d with
  | .members m q => m == n && seqFrom seq q
  | _ => false

/-- The members of a snapshot that opens: a SYNCED Standby changes them at the SEQ that the Active names. -/
def State.openMembers (s : State) (n seq : Nat) : List Nat :=
  let now := s.membersOf n
  if s.chd.role = .standby && s.chd.synced && !s.chd.staged.any (membersDue n seq) then ((s.sc n).prevMembers).getD now else now

/-- A snapshot opens for I(S, k): members, window, close time, slots; the Active names the first SEQ with a new member set (R361). -/
def State.openSnap (s0 : State) (n sec k : Nat) : State :=
  let rate := s0.rate n
  let inst := instantOf rate sec k
  let ms := s0.openMembers n (seqOf rate sec k)
  let keep := s0.chd.staged.filter (fun d => !membersDue n (seqOf rate sec k) d)
  let s : State := { s0 with chd := { s0.chd with staged := keep } }
  let w := s.window n ms
  let head := ((s.sc n).head).isNone
  let (s1, on, sp) := s.takeSlots head ms.length 64
  let x : Snapshot :=
    { seq := seqOf rate sec k, inst := inst, win := w, tc := inst + w * 1000, members := ms, counted := s.countedOf ms,
      onchip := on, spill := sp, spilled := sp != 0 }
  let c := s1.sc n
  let s2 := s1.setSc n { c with snaps := c.snaps ++ [x], lastInst := some inst, wprev := some w, prevMembers := some ms }
  let changed := match c.prevMembers with
    | some old => old != ms
    | none => false
  let s3 := if changed then s2.sendDelta (.members n x.seq) else s2
  s.noteSpill (s3.setVal (Reg.SNAP_SCnWCUR n) w)

/-- Whether an instant is later than every snapshot opened so far. -/
def SnapClass.isNew (c : SnapClass) (inst : Nat) : Bool :=
  match c.lastInst with
  | some l => l < inst
  | none => true

/-- SNAPSHOT_OPEN (R110): at a nominal instant, unless its first frame has opened it. -/
def execSnapshotOpen (t sc : Nat) (s : State) : Host.Outcome State Fault Refusal :=
  s.liveAt t (fun s =>
    if s.snapRunning && s.scEn sc && s.rate sc != 0 then
      let (sec, k) := latestInst (s.rate sc) s.ns
      if (s.sc sc).isNew (instantOf (s.rate sc) sec k) then s.openSnap sc sec k else s
    else s)

/-! ### Placement (R109, R111, R116, R117) -/

/-- The amend horizon: T_c + AMENDH with AMEND 1, T_c with AMEND 0. -/
def State.horizon (s : State) (n : Nat) (x : Snapshot) : Nat :=
  if s.flag (Reg.SNAP_SCnCFG n) F.SNAP_SCnCFG_AMEND then x.tc + s.val (Reg.SNAP_SCnAMENDH n) % 16384 * 1000000 else x.tc

/-- A frame placed in its snapshot: kept, late, stale, a duplicate, or without a slot. -/
def State.placeIn (s : State) (n v : Nat) (x : Snapshot) (f : Slot) : State :=
  if !x.members.contains v then s.bump (Reg.SNAP_SCnNOTMEMB n)
  else if x.slots.any (·.1 == v) then s.bump (Reg.SNAP_SCnDUP n)
  else
    let late := x.finalAt.isSome
    let s1 := if late then s.bump (Reg.SNAP_SCnLATE n) else s
    if late && s.horizon n x ≤ s.ns then s1.bump (Reg.SNAP_SCnSTALE n)
    else if x.onchip + x.spill ≤ x.members.findIdx (· == v) then
      (s1.putSnap n { x with noslot := true }).raise E.SNAP 2
    else s1.putSnap n { x with slots := x.slots ++ [(v, { f with late := late })] }

/-- A frame for an instant whose snapshot is no longer held. -/
def State.placePast (s : State) (n v inst : Nat) : State :=
  match (s.sc n).past.find? (·.1 == inst) with
  | some (_, ms, seen) =>
    if !ms.contains v then s.bump (Reg.SNAP_SCnNOTMEMB n)
    else if seen.contains v then s.bump (Reg.SNAP_SCnDUP n)
    else
      let c := s.sc n
      let s1 := s.setSc n { c with past := c.past.map (fun p => if p.1 = inst then (p.1, p.2.1, v :: p.2.2) else p) }
      (s1.bump (Reg.SNAP_SCnLATE n)).bump (Reg.SNAP_SCnSTALE n)
  | none => s.bump (Reg.SNAP_SCnSTALE n)

/-- FRAME_PLACE: a parsed stream frame of vertex `v` reaches SNAP. A class that opens no snapshots takes no frame. -/
def State.placeFrame (s : State) (n v : Nat) (f : Slot) : State :=
  if !s.snapRunning || !s.scEn n || s.rate n = 0 then s
  else
    let (sec, k) := nearest (s.rate n) f.mtime
    let inst := instantOf (s.rate n) sec k
    if s.val Reg.SNAP_MATCHTOL < ((f.mtime : Int) - inst).natAbs then s.bump (Reg.SNAP_SCnOFFGRID n)
    else if s.ns + s.val Reg.SNAP_FUTURE * 1000 < f.mtime then s.bump (Reg.SNAP_SCnEARLY n)
    else
      let s1 := s.learn n v (16 * (f.rxtime : Int) + f.rxfrac - 16 * f.mtime)
      match (s1.sc n).at_ inst with
      | some x => s1.placeIn n v x f
      | none =>
        if (s1.sc n).isNew inst then
          let s2 := s1.openSnap n sec k
          match (s2.sc n).at_ inst with
          | some x => s2.placeIn n v x f
          | none => s2
        else s1.placePast n v inst

/-! ### Slots and digests as bytes (R120, R358) -/

/-- A list padded with zeros to `n` entries. -/
def padTo (n : Nat) (l : List Nat) : List Nat := (l ++ List.replicate n 0).take n

/-- One bit as a number. -/
def bit (b : Bool) (i : Nat) : Nat := if b then 2 ^ i else 0

/-- The 384 bytes of a present slot (Table 05-1). -/
def Slot.bytes (f : Slot) (vid : Nat) : List Byte :=
  leBytes 8 f.mtime ++ leBytes 8 f.rxtime ++
  words [1 + bit f.late 1 + bit f.invalid 2 + bit f.test 3 + bit f.quest 4 + bit f.unsync 5 + bit f.cfgchg 6 + bit f.ecc 7
      + f.rxfrac % 16 * 2 ^ 8 + f.tq % 16 * 2 ^ 12 + f.ptq % 8 * 2 ^ 16 + bit f.auth 19 + f.port % 8 * 2 ^ 20,
    f.stat % 2 ^ 16 + f.smpcnt % 2 ^ 16 * 2 ^ 16,
    vid % 2 ^ 20 + f.phasors.length % 64 * 2 ^ 20 + f.analogs.length % 32 * 2 ^ 26,
    f.dig.length % 8 + f.desc % 2 ^ 13 * 2 ^ 16, f.freq, f.dfreq] ++
  ((padTo 4 f.dig).map (leBytes 2)).flatten ++ words (padTo 16 f.analogs) ++
  words (padTo 64 ((f.phasors.map (fun p => [p.1, p.2])).flatten)) ++ List.replicate 16 0

/-- The bytes of a missing slot: every field 0 but VID. -/
def missingSlot (vid : Nat) : List Byte := List.replicate 24 0 ++ words [vid % 2 ^ 20] ++ List.replicate 356 0

/-- FHASH of a slot: RXTIME, RXFRAC and PORT count as 0. -/
def Slot.fhash (f : Slot) (vid : Nat) : Nat :=
  beNat ((sha256 (Slot.bytes { f with rxtime := 0, rxfrac := 0, port := 0 } vid)).take 8)

/-- The presence bitmap in 64-bit words. -/
def presence (members : List Nat) (slots : List (Nat × Slot)) : List Nat :=
  (List.range ((members.length + 63) / 64)).map (fun j =>
    ((List.range 64).map (fun i =>
      match members[64 * j + i]? with
      | some v => if slots.any (·.1 == v) then 2 ^ i else 0
      | none => 0)).sum)

/-- The slots present, in member order. -/
def Snapshot.present (x : Snapshot) : List (Nat × Slot) :=
  x.members.filterMap (fun v => x.slots.find? (·.1 == v))

/-- DIG of a digest body (Table 17-5), over the bytes as sent. -/
def digestOf (seq sc : Nat) (members : List Nat) (slots : List (Nat × Slot)) (hashes : List Nat) : Nat :=
  beNat ((sha256 (beBytes 4 seq ++ [BitVec.ofNat 8 sc, 0] ++ beBytes 2 members.length ++
    ((presence members slots).map (beBytes 8)).flatten ++ (hashes.map (beBytes 8)).flatten)).take 8)

/-- DIG of a snapshot as it stands. -/
def Snapshot.dig (x : Snapshot) (n : Nat) : Nat :=
  let p := x.present
  digestOf x.seq n x.members x.slots (p.map (fun q => q.2.fhash q.1))

/-- A snapshot with the frames that its final release admitted, without those that came late: what its digest is over. -/
def Snapshot.admitted (x : Snapshot) : Snapshot := { x with slots := x.slots.filter (fun p => !p.2.late) }

/-- COVER of a snapshot now (R129). -/
def Snapshot.cover (x : Snapshot) : Nat :=
  let all := (x.counted.map (·.2.1)).sum
  let here := ((x.counted.filter (fun c => x.slots.any (·.1 == c.1))).map (·.2.1)).sum
  if all = 0 then 0 else 65535 * here / all

/-! ### Records (R123-R126) -/

/-- A release as its record shows it. -/
structure Release where
  sc : Nat
  kind : Nat
  time : Nat
  bank : Nat
  snap : Snapshot
  deriving DecidableEq, Repr

/-- Header word 0x28: quality, mode and bank marks (Table 05-3). -/
def State.relFlags (s : State) (r : Release) : Nat :=
  s.val Reg.TB_TQ % 64 + bit (s.sys.mode == .settle) 6 + bit (s.sys.mode == .test) 7 + bit r.snap.spilled 8 + bit r.snap.noslot 9 +
    r.bank * 2 ^ 10 + s.unitId * 2 ^ 16

/-- What follows the header in a form. -/
def Release.tail (r : Release) (form : Nat) : List Byte :=
  let x := r.snap
  let map := ((presence x.members x.slots).map (leBytes 8)).flatten
  match form with
  | 0 => []
  | 1 => map
  | 2 => map ++ (x.present.map (fun p => p.2.bytes p.1)).flatten
  | _ => map ++ (x.members.map (fun v =>
      match x.slots.find? (·.1 == v) with
      | some p => p.2.bytes v
      | none => missingSlot v)).flatten

/-- A snapshot record (Table 05-3). -/
def State.snapRecord (s : State) (r : Release) (form : Nat) : List Byte :=
  let x := r.snap
  let t := r.tail form
  words [0xA65C + 2 ^ 16 + r.sc * 2 ^ 20 + r.kind * 2 ^ 24 + form * 2 ^ 26, x.seq] ++ leBytes 8 x.inst ++ words [x.win, 0] ++
    leBytes 8 r.time ++
    words [x.members.length % 2 ^ 14 + x.slots.length % 2 ^ 14 * 2 ^ 16,
      (x.slots.filter (fun p => p.2.late)).length % 2 ^ 14 + x.cover * 2 ^ 16, s.relFlags r, s.epoch, 64 + t.length,
      x.admitted.dig r.sc % 2 ^ 32] ++ leBytes 8 0 ++ t

/-- One subscription takes a record: written to the next descriptor's buffer, or dropped for lack of a descriptor (R124, R125). -/
def State.toSub (s : State) (k : Nat) (r : Release) : State :=
  let ctl := s.val (Reg.SNAP_SUBkCTL k)
  let kinds := bitsOf ctl 11 3
  if bitAt ctl 0 = 0 || bitAt (bitsOf ctl 1 8) r.sc = 0 || bitAt kinds (r.kind - 1) = 0 then s
  else
    let size := 2 ^ (s.val (Reg.SNAP_SUBkSIZE k) % 32)
    let head := s.val (Reg.SNAP_SUBkHEAD k) % 65536
    let tail := s.val (Reg.SNAP_SUBkTAIL k) % 65536
    let d := s.val64 (Reg.SNAP_SUBkBASELO k) (Reg.SNAP_SUBkBASEHI k) + head % size * 16
    let own := leNat (s.hostBytes (d + 12) 4) % 2
    if head = tail || own = 0 then
      let n := tget (fun _ => 0) s.snap.dropped k
      (({ s with snap := { s.snap with dropped := tput (fun _ => 0) s.snap.dropped k (min (n + 1) 255) } }).bump
        (Reg.SNAP_SUBkDROP k)).raise E.SNAP 4
    else
      let rec_ := s.snapRecord r (bitsOf ctl 9 2)
      let buf := leNat (s.hostBytes d 8)
      let cap := leNat (s.hostBytes (d + 8) 4)
      let n := min cap rec_.length
      let s1 := s.putHost buf (rec_.take n)
      let s2 := s1.putHost (d + 8) (words [n, bit (cap < rec_.length) 1 + r.kind * 4 +
        tget (fun _ => 0) s.snap.dropped k * 2 ^ 8 + r.snap.seq % 2 ^ 16 * 2 ^ 16])
      let s3 := s2.setVal (Reg.SNAP_SUBkHEAD k) ((head + 1) % size)
      ({ s3 with snap := { s3.snap with dropped := tput (fun _ => 0) s3.snap.dropped k 0 } }).event (0x0C0 + k) head

/-- A release goes to every subscription that asked for it. -/
def State.toSubs (s : State) (r : Release) : State := (List.range 16).foldl (fun s k => s.toSub k r) s

/-- The latest provisional or final release of the class (R126). -/
def State.setLast (s : State) (r : Release) : State :=
  let l : LastRel :=
    { seq := r.snap.seq, kind := r.kind, inst := r.snap.inst, members := r.snap.members.length, present := r.snap.slots.length,
      cover := r.snap.cover, rel := r.time % 2 ^ 32, flags := s.relFlags r }
  s.setSc r.sc { s.sc r.sc with last := some l }

/-- A read of LASTn (R126). -/
def State.readLast (s : State) (req : Requester) (n : Nat) : State :=
  let key := latchKey req * 8 + n
  let old := tget (fun _ => padTo 8 []) s.snap.latches key
  let ws := match (s.sc n).last with
    | none => padTo 8 []
    | some l =>
      let (sec, k) := latestInst (s.rate n) s.ns
      let ready := l.seq == seqOf (s.rate n) sec k
      let reread := old.getD 0 0 / 2 ^ 30 == l.kind && old.getD 1 0 == l.seq
      [l.seq % 2 ^ 28 + bit ready 28 + bit reread 29 + l.kind * 2 ^ 30, l.seq, l.inst % 2 ^ 32, l.inst / 2 ^ 32,
        l.members + l.present * 2 ^ 16, l.cover, l.rel, l.flags]
  ({ s with snap := { s.snap with latches := tput (fun _ => padTo 8 []) s.snap.latches key ws } }).answer [ws.getD 0 0]

/-- LAST_READ (R126). -/
def execLastRead (req : Requester) (sc : Nat) (s : State) : Host.Outcome State Fault Refusal :=
  s.live (fun s => s.readBy req (Reg.SNAP_LASTn sc) (fun s => s.readLast req sc))

/-! ### Freeing and promotion (R117-R119) -/

/-- A snapshot's slots are freed; what it saw is remembered for duplicates. -/
def State.freeSnap (s : State) (n : Nat) (x : Snapshot) : State :=
  let c := s.sc n
  s.setSc n { c with
    snaps := c.snaps.filter (fun y => y.inst != x.inst)
    past := (x.inst, x.members, x.slots.map (·.1)) :: c.past }

/-- PROMOTION_COMPLETE (R119). -/
def execPromotionComplete (t sc : Nat) (s : State) : Host.Outcome State Fault Refusal :=
  s.liveAt t (fun s =>
    match (s.sc sc).head with
    | some x => if x.promoting then s.putSnap sc { x with promoting := false, onchip := x.onchip + x.spill, spill := 0 } else s
    | none => s)

/-! ### Subscriptions (R122) -/

/-- Modes in which subscriptions are made and ended. -/
def Mode.subs : Mode → Bool
  | .configure => true | .settle => true | .serve => true | .shadow => true | .trial => true | .holdover => true
  | .test => true | .quiesce => true | _ => false

/-- SNAP_SUBSCRIBE's own rules: base, size, class mask, form, kind mask, queue. -/
def subBody (base size classes form kinds queue : Nat) : CmdBody := fun s =>
  match (List.range 16).find? (fun k => bitAt (s.val (Reg.SNAP_SUBkCTL k)) 0 = 0) with
  | none => (s, some (.nospace, []))
  | some k =>
    if size < 16 || 65536 < size || 2 ^ Nat.log2 size ≠ size then (s, some (.range, []))
    else if classes % 256 = 0 || kinds % 8 = 0 || 3 < form || queue < 8 || 23 < queue then (s, some (.arg, []))
    else
      let s1 := ((s.setVal (Reg.SNAP_SUBkCTL k) (1 + classes % 256 * 2 + form * 2 ^ 9 + kinds % 8 * 2 ^ 11 + queue * 2 ^ 16)).setVal
        (Reg.SNAP_SUBkBASELO k) (base % 2 ^ 32)).setVal (Reg.SNAP_SUBkBASEHI k) (base / 2 ^ 32)
      let s2 := ((s1.setVal (Reg.SNAP_SUBkSIZE k) (Nat.log2 size)).setVal (Reg.SNAP_SUBkHEAD k) 0).setVal (Reg.SNAP_SUBkTAIL k) 0
      let cfg := tget (fun _ => 0x200) s2.evc.srccfg (0x0C0 + k)
      let cfg1 := cfg / 32 * 32 % 2048 + queue + 0x800
      let s3 : State := { s2 with
        evc := { s2.evc with srccfg := tput (fun _ => 0x200) s2.evc.srccfg (0x0C0 + k) cfg1 }
        snap := { s2.snap with dropped := tput (fun _ => 0) s2.snap.dropped k 0 } }
      (s3, some (.ok, [k]))

def State.subscribe (s : State) (h : CmdHdr) (base size classes form kinds queue : Nat) : State :=
  s.hostCmd 0x0301 h true s.sys.mode.subs false (subBody base size classes form kinds queue)

/-- SNAP_SUBSCRIBE (R122). -/
def execSnapSubscribe (h : CmdHdr) (base size classes form kinds queue : Nat) (s : State) :
    Host.Outcome State Fault Refusal :=
  s.live (fun s => s.subscribe h base size classes form kinds queue)

/-- SNAP_UNSUBSCRIBE's own rules. Records are written whole in one step, so none is in progress. -/
def unsubBody (k : Nat) : CmdBody := fun s =>
  if 15 < k || bitAt (s.val (Reg.SNAP_SUBkCTL k)) 0 = 0 then (s, some (.absent, []))
  else (s.setVal (Reg.SNAP_SUBkCTL k) (s.val (Reg.SNAP_SUBkCTL k) - 1), some (.ok, []))

def State.unsubscribe (s : State) (h : CmdHdr) (k : Nat) : State := s.hostCmd 0x0302 h true s.sys.mode.subs false (unsubBody k)

/-- SNAP_UNSUBSCRIBE (R122). -/
def execSnapUnsubscribe (h : CmdHdr) (index : Nat) (s : State) : Host.Outcome State Fault Refusal :=
  s.live (fun s => s.unsubscribe h index)

/-! ### Weights, levels and debts (R129, R139, R141) -/

/-- PWVAL as read: the weight of the stream PWSEL names. -/
def State.pwval (s : State) : Nat :=
  let r := s.stream (s.val Reg.SNAP_PWSEL % 8192)
  r.weight % 256 + bit r.anchor 8

/-- PWVAL written. -/
def State.writePwval (s : State) (v : Nat) : State :=
  let vid := s.val Reg.SNAP_PWSEL % 8192
  (s.setStream vid { s.stream vid with weight := v % 256, anchor := bitAt v 8 == 1 }).sendDelta
    (.weight vid (v % 256) (bitAt v 8 == 1))

/-- WEIGHT_WRITE (R129). -/
def execWeightWrite (req : Requester) (value : Nat) (s : State) : Host.Outcome State Fault Refusal :=
  s.live (fun s => s.writeBy req Reg.SNAP_PWVAL value (fun s => s.writePwval value))

/-- PSTATE of a class: level and the debts of ISLAND, STEP and SEP, SUSP at level 8. -/
def State.setPstate (s : State) (n level di ds dp : Nat) : State :=
  s.setVal (Reg.SNAP_SCnPSTATE n) (level + di * 16 + ds * 256 + dp * 4096 + (if level = 8 then 2 ^ 16 else 0))

def State.plevel (s : State) (n : Nat) : Nat := s.val (Reg.SNAP_SCnPSTATE n) % 16

/-- A debt: 0 ISLAND, 1 STEP, 2 SEP. -/
def State.debt (s : State) (n d : Nat) : Nat := bitsOf (s.val (Reg.SNAP_SCnPSTATE n)) (4 + 4 * d) 4

/-- A change of L: the ledger record of TYPE 0x0614, SUSPEND on reaching 8, the relaxation timer restarted, the delta. -/
def State.changeLevel (s : State) (n det new : Nat) (di ds dp : Nat) : State :=
  let old := s.plevel n
  let s1 := (s.setPstate n new di ds dp).setSc n { s.sc n with relaxFrom := s.ns }
  let s2 := if old = new then s1
    else
      let s3 := s1.offer 0x0614 (words [n + det * 8 + old * 2 ^ 8 + new * 2 ^ 12 + s.unitId * 2 ^ 16, s.epoch, 0, 0])
      if new = 8 then s3.raise E.SNAP 7 else s3
  s2.sendDelta (.level n new di ds dp)

/-- LEVEL written: L set, debts cleared, relaxation restarted; a level above 8 is refused. -/
def State.writeLevel (s : State) (n v : Nat) : State :=
  if 8 < v % 16 then s.cfgErr E.SNAP else s.changeLevel n 0 (v % 16) 0 0 0

/-- LEVEL_WRITE (R141). -/
def execLevelWrite (req : Requester) (sc value : Nat) (s : State) : Host.Outcome State Fault Refusal :=
  s.live (fun s => s.writeBy req (Reg.SNAP_SCnPSTATE sc) value (fun s => s.writeLevel sc value))

/-- LEVEL_RELAX (R139): L falls by 1 when PRELAX seconds have passed since the timer was restarted. -/
def execLevelRelax (t sc : Nat) (s : State) : Host.Outcome State Fault Refusal :=
  s.liveAt t (fun s =>
    let pr := s.val Reg.SNAP_PRELAX % 65536
    let l := s.plevel sc
    if pr = 0 || l = 0 || s.ns < (s.sc sc).relaxFrom + pr * 1000000000 then s
    else s.changeLevel sc 0 (l - 1) (s.debt sc 0) (s.debt sc 1) (s.debt sc 2))

/-- DEBT_LEAK (R139): each non-zero debt of every class falls by 1 at a multiple of PRBLEAK seconds of TB time. -/
def execDebtLeak (t : Nat) (s : State) : Host.Outcome State Fault Refusal :=
  s.liveAt t (fun s =>
    if s.taiSec % (s.val Reg.SNAP_PRBLEAK % 65536) ≠ 0 then s
    else (List.range 8).foldl (fun s n =>
      if s.debt n 0 + s.debt n 1 + s.debt n 2 = 0 then s
      else
        let l := s.plevel n
        (s.setPstate n l (s.debt n 0 - 1) (s.debt n 1 - 1) (s.debt n 2 - 1)).sendDelta
          (.level n l (s.debt n 0 - 1) (s.debt n 1 - 1) (s.debt n 2 - 1))) s)

/-! ### Views (Table 05-6) -/

/-- STAT as read: RUNNING while the engine runs for an enabled class. -/
def State.snapStat (s : State) : Nat :=
  bit (s.snapRunning && (List.range 8).any s.scEn) 0 + bit (s.spillUse != 0) 1 + min s.poolFree 65535 * 2 ^ 16

/-- LQVAL as read. -/
def State.lqval (s : State) : Nat :=
  let v := s.val Reg.SNAP_LQSEL % 8192
  let r := s.stream v
  let n := ((s.streamEntries.find? (·.vid == v)).map (·.sc)).getD 0
  r.quantile (s.val (Reg.SNAP_SCnLQ n) % 65536) % 2 ^ 22 + bit (64 ≤ r.total) 31

/-- LQWT as read. -/
def State.lqwt (s : State) : Nat :=
  let r := s.stream (s.val Reg.SNAP_LQSEL % 8192)
  r.total % 65536 + min r.missing 65535 * 2 ^ 16

/-- SCnMEMB as read: members, learned members. -/
def State.memb (s : State) (n : Nat) : Nat :=
  let ms := s.membersOf n
  ms.length % 2 ^ 14 + (s.learnedQ n ms).length % 2 ^ 14 * 2 ^ 16

end Sys2Proof.Machine
end

