-- ==== Sys2Proof/Machine/Publish.lean ====
section
/-!
DEFINITION. What leaves by the publishers: GOOSE frames and Alarm Notice Datagrams (R217-R224). The encodings of IEC 61850-8-1 and of
UDP over IP are PRESUMED (notes/assumptions/21).
-/
namespace Sys2Proof.Machine

def State.chan (s : State) (k : Nat) : AlmChan := tget (fun _ => {}) s.alm.chans k

def State.setChan (s : State) (k : Nat) (c : AlmChan) : State :=
  { s with alm := { s.alm with chans := tput (fun _ => {}) s.alm.chans k c } }

def State.pub (s : State) (j : Nat) : Option Gpub := tget (fun _ => none) s.alm.pubs j

def State.setPub (s : State) (j : Nat) (g : Gpub) : State :=
  { s with alm := { s.alm with pubs := tput (fun _ => none) s.alm.pubs j (some g) } }

/-- Modes in which publications are sent (Table 10-2). -/
def Mode.publishes : Mode → Bool
  | .serve => true | .trial => true | .holdover => true | .test => true | _ => false

/-- Outputs muted (R215): by the mode, or because the unit is fenced. -/
def State.almMuted (s : State) : Bool := !s.sys.mode.publishes || s.chd.fenced

/-- ACTIVE of the 64 channels. -/
def State.actMask (s : State) : Nat := ((List.range 64).map (fun k => bit (s.chan k).active k)).sum

/-- PINACT of the 64 channels. -/
def State.pinactMask (s : State) : Nat := ((List.range 64).map (fun k => bit (s.chan k).pinact k)).sum

/-- A frame handed to EA by a publisher; one that the port discards counts in PUBDROP too (R219, R225). -/
def State.pubSend (s : State) (n : Nat) (b : List Byte) : State :=
  if 4 ≤ n || !(s.port n).link || !s.portEn n || 512 < b.length + 4 then
    ((s.bump (Reg.ETH_PnTXDROPE n)).bump Reg.ALM_PUBDROP).raise E.ALM 4
  else s.send n 0 { bytes := b }

/-! ### GOOSE (R217-R219) -/

/-- A BER length. -/
def berLen (n : Nat) : List Byte :=
  if n < 128 then leBytes 1 n else if n < 256 then 0x81 :: leBytes 1 n else 0x82 :: beBytes 2 n

/-- A BER element. -/
def ber (tag : Nat) (l : List Byte) : List Byte := leBytes 1 tag ++ berLen l.length ++ l

/-- Octets that an unsigned number below 2^32 takes as a BER integer. -/
def berSize (v : Nat) : Nat := if v < 0x80 then 1 else if v < 0x8000 then 2 else if v < 0x800000 then 3 else if v < 0x80000000 then 4 else 5

def berUint (tag v : Nat) : List Byte := ber tag (beBytes (berSize v) v)

def berBool (tag : Nat) (b : Bool) : List Byte := ber tag [if b then 1 else 0]

/-- A 16-bit BITSTRING of which bit i is element i. -/
def berMask (l : List Bool) : List Byte :=
  let v := ((List.range 16).map (fun i => bit (l.getD i false) (15 - i))).sum
  ber 0x84 (0 :: beBytes 2 v)

/-- q: validity good or invalid, detailQual.inaccurate, test. -/
def berQuality (valid inaccurate test : Bool) : List Byte :=
  ber 0x84 [3, if valid then 0 else 0x40, (if inaccurate then 0x40 else 0) + (if test then 0x10 else 0)]

/-- A UtcTime of a TAI time (R218): ClockNotSynchronized from UNSYNC and while UTCOFF.VALID is 0. -/
def State.utcTime (s : State) (tai : Nat) : List Byte :=
  let u := s.taiToUtc tai
  let valid := s.flag Reg.TB_UTCOFF F.TB_UTCOFF_VALID
  let q := bit valid 7 + bit (s.flag Reg.TB_TQ F.TB_TQ_UNSYNC || !valid) 5 +
    Config.timeAccuracy (s.fld Reg.TB_TQ F.TB_TQ_TQCODE) % 32
  beBytes 4 (u / 1000000000) ++ beBytes 3 (u % 1000000000 * 2 ^ 24 / 1000000000) ++ leBytes 1 q

/-- The dataset of a publication: ACTIVE, PROV and RETR of each member whose GOOSE and GPUB name the publication (R218). -/
def State.pubData (s : State) (j : Nat) (g : Gpub) : List (Bool × Bool × Bool) :=
  g.members.map (fun k =>
    let c := s.chan k
    if s.flag (Reg.ALM_ALCkCFG k) F.ALM_ALCkCFG_GOOSE && s.fld (Reg.ALM_ALCkCFG k) F.ALM_ALCkCFG_GPUB == j then
      (c.active, c.provonly, c.retr)
    else (false, false, false))

/-- The allData of a publication. -/
def State.gooseData (s : State) (data : List (Bool × Bool × Bool)) (valid : Bool) : List Byte :=
  let q := berQuality valid (s.sys.mode == .holdover) (s.sys.mode == .test)
  (data.map (fun d => berBool 0x83 (valid && d.1) ++ q)).flatten ++ berMask (data.map (·.2.1)) ++ berMask (data.map (·.2.2)) ++
    berUint 0x86 s.unitId ++ berUint 0x86 s.epoch

/-- A GOOSE frame on port `n`. -/
def State.gooseFrame (s : State) (n st sq : Nat) (g : Gpub) (valid : Bool) : List Byte :=
  let sim := s.sys.mode == .test
  let pdu := ber 0x61 (ber 0x80 g.gocbRef ++ berUint 0x81 (2 * g.gap) ++ ber 0x82 g.datSet ++ ber 0x83 g.goID ++
    ber 0x84 (s.utcTime g.changed) ++ berUint 0x85 st ++ berUint 0x86 sq ++ berBool 0x87 sim ++ berUint 0x88 g.confRev ++
    berBool 0x89 false ++ berUint 0x8A (2 * g.members.length + 4) ++ ber 0xAB (s.gooseData g.last valid))
  beBytes 6 g.dst ++ beBytes 2 (s.val (Reg.ETH_PnMACHI n) % 65536) ++ beBytes 4 (s.val (Reg.ETH_PnMACLO n)) ++ beBytes 2 0x8100 ++
    beBytes 2 (g.pcp % 8 * 8192 + g.vlan % 4096) ++ beBytes 2 0x88B8 ++ beBytes 2 g.appid ++ beBytes 2 (8 + pdu.length) ++
    beBytes 2 (if sim then 0x8000 else 0) ++ beBytes 2 0 ++ pdu

/-- The frame of a publication on each of its ports, with the sequence numbers its registers show (R219, R224). -/
def State.gooseOut (s : State) (j st sq : Nat) (g : Gpub) (valid : Bool) : State :=
  let s1 := ((s.setPub j g).setVal (Reg.ALM_GPjST j) st).setVal (Reg.ALM_GPjSQ j) sq
  let s2 := (List.range 4).foldl (fun (s : State) n =>
    if bitAt g.ports n = 1 then (s.bump Reg.ALM_GOOSETX).pubSend n (s.gooseFrame n st sq g valid) else s) s1
  s2.sendDelta (.publish [(j, st, sq)] (s2.val Reg.ALM_ANSEQ))

/-- A publication's state changes: stNum raised, sqNum 0, a frame at once (R219). -/
def State.pubChange (s : State) (j : Nat) (g : Gpub) (valid : Bool) : State :=
  let gap := s.fld Reg.ALM_GINT F.ALM_GINT_MIN
  let g1 : Gpub := { g with
    last := s.pubData j g
    changed := s.ns
    gap := gap
    next := if valid then some (s.ns + gap * 1000000) else none }
  s.gooseOut j ((s.val (Reg.ALM_GPjST j) + 1) % 2 ^ 32) 0 g1 valid

/-- Whether GOOSE publications are sent now. -/
def State.publishing (s : State) : Bool := !s.almMuted && s.flag Reg.ALM_CTL F.ALM_CTL_GOOSEEN

/-- Every publication whose dataset has changed sends (R219). -/
def State.pubSweep (s : State) : State :=
  if !s.publishing then s
  else (List.range 8).foldl (fun (s : State) j =>
    match s.pub j with
    | some g => if s.pubData j g = g.last then s else s.pubChange j g true
    | none => s) s

/-- Every publication sends with stNum + 1: unmuted, or muted with a last frame that is invalid (R224, R225). -/
def State.pubAll (s : State) (valid : Bool) : State :=
  if !s.flag Reg.ALM_CTL F.ALM_CTL_GOOSEEN then s
  else (List.range 8).foldl (fun (s : State) j =>
    match s.pub j with
    | some g => s.pubChange j g valid
    | none => s) s

/-- GOOSE_REPEAT (R219). -/
def execGooseRepeat (t publication : Nat) (s : State) : Host.Outcome State Fault Refusal :=
  s.liveAt t (fun s =>
    match s.pub publication with
    | some g =>
      match g.next with
      | some x =>
        if !s.publishing || s.ns < x then s
        else
          let gap := min (2 * g.gap) (s.fld Reg.ALM_GINT F.ALM_GINT_MAX)
          let g1 : Gpub := { g with
            gap := gap
            next := some (s.ns + gap * 1000000) }
          s.gooseOut publication (s.val (Reg.ALM_GPjST publication)) ((s.val (Reg.ALM_GPjSQ publication) + 1) % 2 ^ 32) g1 true
      | none => s
    | none => s)

/-! ### Alarm Notice Datagrams (R220-R224) -/

/-- The byte of EVENT and its bits (Table 10-5). -/
def Notice.flags (e : Notice) : Nat := e.event % 16 + bit e.prov 4 + bit e.latched 5 + bit e.acked 6 + bit e.takeover 7

/-- An entry on the wire, or as the device stores it. -/
def Notice.bytes (e : Notice) (wire : Bool) : List Byte :=
  let b := fun n v => if wire then beBytes n v else leBytes n v
  leBytes 1 e.alc ++ leBytes 1 e.flags ++ leBytes 1 e.kind ++ leBytes 1 e.sc ++ b 4 e.seq ++ b 4 e.subject ++
    b 2 (min e.count 0xFFFF) ++ [0, 0]

/-- The header and entries of a notice (R220). `kind`: 0 entries, 1 REFRESH, 2 MUTED. -/
def State.noticeBytes (s : State) (es : List Notice) (kind time : Nat) (tag : Bool) : List Byte :=
  let flags := bit tag 7 + bit (s.sys.mode == .test) 6 + bit (s.flag Reg.TB_TQ F.TB_TQ_HOLD) 5 +
    bit (s.flag Reg.TB_TQ F.TB_TQ_UNSYNC) 4 + bit (kind == 1) 3 + bit (kind == 2) 2
  leBytes 1 0xA7 ++ leBytes 1 1 ++ leBytes 1 flags ++ leBytes 1 es.length ++ leBytes 1 s.unitId ++
    beBytes 3 (s.val Reg.ALM_ANSEQ) ++ beBytes 4 s.epoch ++ beBytes 8 time ++ beBytes 8 s.actMask ++
    leBytes 1 (s.fld Reg.TB_TQ F.TB_TQ_TQCODE) ++ [0, 0, 0] ++ (es.map (·.bytes true)).flatten

/-- Whether a key slot may make the tag of a notice (R223): VALID, ENCRYPT, AES-128 or AES-256. -/
def KeySlot.signs (k : KeySlot) : Bool := k.valid && k.use == 0 && k.alg < 2

/-- The 16 address octets of a destination, as a big-endian number. -/
def State.andstAddr (s : State) (j : Nat) : Nat :=
  beNat ((List.range 4).map (fun w => leBytes 4 (s.val (Reg.ALM_ANDSTj_0 j + 4 * w)))).flatten

/-- The UDP datagram to destination `j` in a frame on port `n`. -/
def State.noticeFrame (s : State) (n j : Nat) (payload : List Byte) : List Byte :=
  let addr := s.andstAddr j
  let v6 := addr / 2 ^ 32 != 0xFFFF
  let port := s.val Reg.ALM_ANPORT % 65536
  let own := Config.ownIp n v6
  let w := if v6 then 16 else 4
  let head := beBytes 2 port ++ beBytes 2 port ++ beBytes 2 (8 + payload.length)
  let pseudo := beBytes w own ++ beBytes w addr ++
    (if v6 then beBytes 4 (8 + payload.length) ++ beBytes 4 17 else beBytes 2 17 ++ beBytes 2 (8 + payload.length))
  let c := 0xFFFF - inetFold (inetSum (pseudo ++ head ++ payload))
  let udp := head ++ beBytes 2 (if c = 0 then 0xFFFF else c) ++ payload
  let ttl := Config.ipTtl % 256
  let ip4 := beBytes 2 0x4500 ++ beBytes 2 (20 + udp.length) ++ beBytes 2 0 ++ beBytes 2 0x4000 ++ leBytes 1 ttl ++ leBytes 1 17
  let addrs := beBytes w own ++ beBytes w addr
  let ip := if v6 then beBytes 4 0x60000000 ++ beBytes 2 udp.length ++ leBytes 1 17 ++ leBytes 1 ttl ++ addrs
    else ip4 ++ beBytes 2 (0xFFFF - inetFold (inetSum (ip4 ++ [0, 0] ++ addrs))) ++ addrs
  let w5 := s.val (Reg.ALM_ANDSTj_5 j)
  beBytes 2 (s.val (Reg.ALM_ANDSTj_7 j) % 65536) ++ beBytes 4 (s.val (Reg.ALM_ANDSTj_6 j)) ++
    beBytes 2 (s.val (Reg.ETH_PnMACHI n) % 65536) ++ beBytes 4 (s.val (Reg.ETH_PnMACLO n)) ++
    (if bitAt w5 15 = 1 then beBytes 2 0x8100 ++ beBytes 2 (bitsOf w5 12 3 * 8192 + w5 % 4096) else []) ++
    beBytes 2 (if v6 then 0x86DD else 0x0800) ++ ip ++ udp

/-- A notice sent to every valid destination on its ports; without a usable key for its tag it is not sent (R222, R223). -/
def State.sendNotice (s : State) (es : List Notice) (kind time : Nat) : State :=
  let tag := s.flag Reg.ALM_ANCFG F.ALM_ANCFG_TAGEN
  let key := s.slot (s.fld Reg.ALM_ANCFG F.ALM_ANCFG_KEYSLOT)
  if tag && !key.signs then s.raise E.ALM 3
  else
    let b := s.noticeBytes es kind time tag
    let p := if tag then b ++ aesGmac key.key (sliceOf b 4 12) b else b
    let s1 := (List.range 8).foldl (fun (s : State) j =>
      if !s.flag (Reg.ALM_ANDSTj_4 j) F.ALM_ANDSTj_4_VALID then s
      else (List.range 4).foldl (fun (s : State) n =>
        if bitAt (s.val (Reg.ALM_ANDSTj_4 j)) n = 1 then s.pubSend n (s.noticeFrame n j p) else s) (s.bump Reg.ALM_ANTX)) s
    let s2 := s1.setVal Reg.ALM_ANSEQ ((s.val Reg.ALM_ANSEQ + 1) % 2 ^ 24)
    ({ s2 with alm := { s2.alm with noticeAt := s.ns } }).sendDelta (.publish [] (s2.val Reg.ALM_ANSEQ))

/-- Entries sent in datagrams of up to 16, in order of occurrence (R222). -/
def State.sendEntries : Nat → List Notice → State → State
  | 0, _, s => s
  | n + 1, es, s =>
    if es.isEmpty then s
    else State.sendEntries n (es.drop 16) (s.sendNotice (es.take 16) 0 ((es.take 16).foldl (fun m e => max m e.time) 0))

/-- Notices are sent now. -/
def State.noticing (s : State) : Bool := !s.almMuted && s.flag Reg.ALM_CTL F.ALM_CTL_ANEN

/-- Publications and notices that the present changes cause: GOOSE frames first (R222). -/
def State.publish (s : State) : State :=
  let s1 := s.pubSweep
  let es := s1.alm.notes
  let s2 : State := { s1 with alm := { s1.alm with notes := [] } }
  if s2.noticing then State.sendEntries es.length es s2 else s2

/-- NOTICE_REFRESH (R222). -/
def execNoticeRefresh (t : Nat) (s : State) : Host.Outcome State Fault Refusal :=
  s.liveAt t (fun s =>
    let r := s.fld Reg.ALM_ANCFG F.ALM_ANCFG_REFRESH
    if s.noticing && r ≠ 0 && s.alm.noticeAt + r * 1000000 ≤ s.ns then s.sendNotice [] 1 s.ns else s)

end Sys2Proof.Machine
end

