-- ==== Sys2Proof/Machine/Alarm.lean ====
section
/-!
DEFINITION. Alarm channels, pins and contact inputs (R207-R216, R225, R226).
-/
namespace Sys2Proof.Machine

/-! ### Pins (R212-R215) -/

def State.pin (s : State) (m : Nat) : AlmPin := tget (fun _ => {}) s.alm.pins m

def State.setPin (s : State) (m : Nat) (p : AlmPin) : State :=
  { s with alm := { s.alm with pins := tput (fun _ => {}) s.alm.pins m p } }

/-- Pins muted (Table 10-2). -/
def State.pinsOff (s : State) : Bool := s.almMuted || (s.sys.mode == .test && !s.flag Reg.ALM_CTL F.ALM_CTL_TESTPIN)

/-- The driver follows its pin. -/
def State.driverOn (s : State) (m : Nat) : Bool := s.flag (Reg.ALM_OUTmCFG m) F.ALM_OUTmCFG_EN && !s.pinsOff

/-- Channels that a pin selects. -/
def State.outSel (s : State) (m : Nat) : Nat := s.val (Reg.ALM_OUTmSELLO m) + s.val (Reg.ALM_OUTmSELHI m) * 2 ^ 32

/-- Whether the driver of a pin conducts (R213). -/
def State.conductsPin (s : State) (m : Nat) : Bool :=
  s.driverOn m && ((s.pin m).active != s.flag (Reg.ALM_OUTmCFG m) F.ALM_OUTmCFG_FAILSAFE)

/-- A pin looked at again (R212): MINON counts from the moment its driver began to switch. -/
def State.updPin (s : State) (m : Nat) : State :=
  let p := s.pin m
  let on := s.driverOn m
  let want := s.outSel m &&& s.pinactMask ≠ 0
  let minon := s.fld (Reg.ALM_OUTmCFG m) F.ALM_OUTmCFG_MINON * 1000000
  let since := if !on then none else match p.active, p.since with
    | true, some x => some x
    | _, _ => some s.ns
  let p1 : AlmPin :=
    if want then { p with active := true, since := since }
    else match on, p.active, p.since with
      | true, true, some x => if s.ns < x + minon then p else { p with active := false, since := none }
      | _, _, _ => { p with active := false, since := none }
  let s1 := s.setPin m p1
  if s1.conductsPin m then s1 else s1.setPin m { p1 with ovld := false }

def State.updPins (s : State) : State := (List.range 16).foldl State.updPin s

/-- MINON_EXPIRY (R212). -/
def execMinonExpiry (t pin : Nat) (s : State) : Host.Outcome State Fault Refusal :=
  s.liveAt t (fun s => if pin < 16 then s.updPin pin else s)

/-- OVERLOAD_DETECT (R214). -/
def execOverloadDetect (t pin : Nat) (s : State) : Host.Outcome State Fault Refusal :=
  s.liveAt t (fun s =>
    if pin < 16 && s.conductsPin pin && !(s.pin pin).ovld then
      ((s.setPin pin { s.pin pin with ovld := true }).raise E.ALM 1).bump Reg.ALM_OVLDEV
    else s)

/-- OUTSTAT as read: pins active, and those at their limit now. -/
def State.outstat (s : State) : Nat :=
  ((List.range 16).map (fun m => bit (s.pin m).active m + bit (s.pin m).ovld (16 + m))).sum

/-! ### Contributions and conditions (R207-R209) -/

/-- The SRC bit of a kind (Table 10-1). -/
def srcBit (kind : Nat) : Nat := if kind ≤ 7 then kind - 1 else kind

/-- A kind that a channel's SRC selects. -/
def State.takes (s : State) (k kind : Nat) : Bool := bitAt (s.val (Reg.ALM_ALCkSRC k)) (srcBit kind) == 1

/-- A contact input contributes to a channel at its level. -/
def State.dinIn (s : State) (k m : Nat) : Bool :=
  let w := s.val (Reg.ALM_ALCkDIN k)
  bitAt w m == 1 && (bitAt s.alm.din m != bitAt w (16 + m))

/-- The contributions in the published count (R208). -/
def State.published (s : State) (k : Nat) : List Contrib :=
  if !s.flag (Reg.ALM_ALCkCFG k) F.ALM_ALCkCFG_EN then []
  else
    let provok := s.flag (Reg.ALM_ALCkCFG k) F.ALM_ALCkCFG_PROVOK
    (s.chan k).subs.filter (fun c => s.takes k c.kind && (!c.prov || provok)) ++
      (if s.takes k 12 then ((List.range 16).filter (s.dinIn k)).map (fun m => { kind := 12, subject := m, since := s.ns }) else [])

/-- The condition of a channel over the kinds of its contributions (R209). -/
def State.condition (s : State) (k : Nat) (kinds : List Nat) : Bool :=
  match s.fld (Reg.ALM_ALCkCFG k) F.ALM_ALCkCFG_MODE with
  | 0 => 1 ≤ kinds.length
  | 1 => [1, 2, 3, 4, 5, 6, 7, 8, 9, 10, 11, 12].all (fun x => !s.takes k x || kinds.contains x)
  | _ => s.fld (Reg.ALM_ALCkCFG k) F.ALM_ALCkCFG_K ≤ kinds.length

/-- What a channel is told: a raise, a clear, a confirmation, or a retraction with or without its hold. -/
inductive AlmOp where
  | add | drop | confirm | retract (hold : Bool)
  deriving DecidableEq, Repr

structure AlmChange where
  chan : Nat
  op : AlmOp
  c : Contrib
  deriving DecidableEq, Repr

def Contrib.same (a b : Contrib) : Bool := a.kind == b.kind && a.subject == b.subject

/-- H_end of a contribution (R136): from when its driver began to switch; 0 if no pin was driven. -/
def State.hend (s : State) (c : Contrib) : Nat := if c.drove then c.since + s.val Reg.SNAP_PHOLD % 1024 * 1000000 else 0

/-- A change taken into the sets of its channel (R207, R208, R136). -/
def State.almTake (s : State) (x : AlmChange) : State :=
  let ch := s.chan x.chan
  let others := ch.subs.filter (fun c => !c.same x.c)
  match x.op with
  | .add =>
    if x.c.kind ≤ 7 && !s.takes x.chan x.c.kind then (s.bump Reg.ALM_IGNORED).raise E.ALM 5
    else if ch.subs.any x.c.same then s
    else
      let drove := (List.range 16).any (fun m => s.driverOn m && bitAt (s.outSel m) x.chan == 1)
      let c : Contrib := { x.c with since := s.ns, drove := drove, noPin := x.c.prov && s.sys.mode == .shadow }
      s.setChan x.chan { ch with
        subs := ch.subs ++ [c]
        held := ch.held.filter (fun h => !(h.kind == c.kind && h.subject == c.subject)) }
  | .drop =>
    if x.c.kind ≤ 7 && !s.takes x.chan x.c.kind && !x.c.prov && !ch.subs.any x.c.same then (s.bump Reg.ALM_IGNORED).raise E.ALM 5
    else s.setChan x.chan { ch with subs := others }
  | .confirm => s.setChan x.chan { ch with subs := ch.subs.map (fun c => if c.same x.c then { c with prov := false, noPin := false } else c) }
  | .retract hold =>
    let held := (ch.subs.filter x.c.same).filterMap (fun c =>
      if hold && s.ns < s.hend c then some ({ kind := c.kind, subject := c.subject, hend := s.hend c } : HeldContrib) else none)
    s.setChan x.chan { ch with
      subs := others
      held := ch.held ++ held }

/-! ### Events of a channel (R221, R222) -/

/-- An event: an entry for the next notice, the channel's EVC record, a ledger record, each where the channel selects it. -/
def State.almEvent (s : State) (k event count : Nat) (c : Option Contrib) : State :=
  let ch := s.chan k
  let cfg := s.val (Reg.ALM_ALCkCFG k)
  let e : Notice :=
    { alc := k, event := event, prov := (c.map (·.prov)).getD false, latched := ch.latched, acked := ch.acked,
      takeover := (c.map (·.takeover)).getD false, kind := (c.map (·.kind)).getD 0, sc := (c.map (·.sc)).getD 0,
      seq := (c.map (·.seq)).getD 0, subject := (c.map (·.subject)).getD 0, count := count, time := s.ns }
  let s1 : State := if bitAt cfg 17 = 1 then { s with alm := { s.alm with notes := s.alm.notes ++ [e] } } else s
  let s2 := if bitAt cfg 18 = 1 then s1.event (0x100 + k) (k + event * 2 ^ 8 + bit e.prov 12 + min count 0xFFFF * 2 ^ 16) else s1
  if bitAt cfg 19 = 1 then s2.offer 0x0A10 (leBytes 8 s.ns ++ words [s.epoch, s.unitId] ++ e.bytes false) else s2

/-- A channel evaluated after the changes of one moment (R209, R210): its state, and the events in order of occurrence; becoming
active is a capture trigger (R290). -/
def State.evalChan (s : State) (k : Nat) (xs : List AlmChange) : State :=
  if !s.flag Reg.ALM_CTL F.ALM_CTL_EN then s
  else
    let ch := s.chan k
    let en := s.flag (Reg.ALM_ALCkCFG k) F.ALM_ALCkCFG_EN
    let cs := s.published k
    let keys := cs.map (fun c => (c.kind, c.subject))
    let was := fun (c : Contrib) => ch.counted.contains (c.kind, c.subject)
    let rets := (xs.filter (fun x => x.op == .retract true || x.op == .retract false)).filter (fun x => was x.c)
    let confs := xs.filter (fun x => x.op == .confirm && was x.c)
    let lost := ch.counted.filter (fun p => !keys.contains p)
    let normal := lost.any (fun p => !rets.any (fun x => x.c.kind == p.1 && x.c.subject == p.2))
    let cond := en && s.condition k (cs.map (·.kind))
    let held := ch.held.filter (fun h => s.ns < h.hend)
    let pinCond := en && s.condition k ((cs.filter (fun c => !c.noPin)).map (·.kind) ++ (held.filter (fun h => s.takes k h.kind)).map (·.kind))
    let kept := ch.latched && (ch.kept || normal)
    let hend := held.foldl (fun m h => max m h.hend) ch.lastHend
    let gone := !rets.isEmpty && keys.isEmpty && !kept
    let latched := ch.latched && en && !(ch.acked && !cond) && !gone
    let active := cond || latched
    let sets := s.flag (Reg.ALM_ALCkCFG k) F.ALM_ALCkCFG_LATCH && !ch.active && active
    let until_ := if !en then none
      else if ch.latched && gone then (if s.ns < hend then some hend else none)
      else match ch.pinUntil with
        | some x => if s.ns < x then some x else none
        | none => none
    let shy := if sets then !pinCond else ch.shy && !pinCond
    let prov := active && !cs.isEmpty && cs.all (·.prov)
    let ch1 : AlmChan := { ch with
      held := held
      active := active
      pinact := pinCond || ((latched || sets) && !shy) || until_.isSome
      shy := shy
      latched := latched || sets
      acked := ch.acked && active
      provonly := prov
      retr := if !rets.isEmpty then true else if active != ch.active || prov != ch.provonly || !confs.isEmpty then false else ch.retr
      counted := keys
      kept := if sets then false else kept
      lastHend := if sets then 0 else hend
      pinUntil := until_ }
    let n := cs.length
    let s1 := s.setChan k ch1
    let s2 := rets.foldl (fun (s : State) x => (s.bump Reg.ALM_RETRACTED).almEvent k 3 n (some x.c)) s1
    let s3 := confs.foldl (fun (s : State) x => s.almEvent k 5 n (some { x.c with prov := true })) s2
    if !ch.active && active then
      let named := match cs.find? (fun c => !was c) with
        | some c => some c
        | none => cs.head?
      ((s3.bump (Reg.ALM_ALCkRAISES k)).almEvent k 1 n named).capSend 9 k (s.now / 2 ^ 17) 1 0xFFFF
    else if ch.active && !active then s3.almEvent k 2 n none
    else s3

/-- The changes of one moment: taken, each channel they touch evaluated once, then pins and publications (R209, R222). -/
def State.alarms (s : State) (xs : List AlmChange) : State :=
  let s1 := xs.foldl State.almTake s
  let s2 := ((List.range 64).filter (fun k => xs.any (·.chan == k))).foldl
    (fun (s : State) k => s.evalChan k (xs.filter (·.chan == k))) s1
  s2.updPins.publish

/-- Every channel evaluated again. -/
def State.almAll (s : State) : State := ((List.range 64).foldl (fun (s : State) k => s.evalChan k []) s).updPins.publish

/-- PIN_HOLD_EXPIRY (R136): the channel looked at again once H_end has passed. -/
def execPinHoldExpiry (t channel : Nat) (s : State) : Host.Outcome State Fault Refusal :=
  s.liveAt t (fun s => if channel < 64 then ((s.evalChan channel []).updPins).publish else s)

/-! ### Muting (R215, R225) -/

/-- What is sent when outputs become muted, while they are still unmuted. -/
def State.sayMuted (s : State) : State :=
  let s1 := s.pubAll false
  if s1.flag Reg.ALM_CTL F.ALM_CTL_ANEN then s1.sendNotice [] 2 s.ns else s1

/-- Outputs follow the channels again: pins, each publication with stNum + 1, a notice that carries STATE. -/
def State.sayUnmuted (s : State) : State :=
  let s1 := s.updPins.pubAll true
  if s1.flag Reg.ALM_CTL F.ALM_CTL_ANEN then s1.sendNotice [] 1 s.ns else s1

/-- A change that may mute or unmute the outputs, with what it makes them send. -/
def State.withMuting (s : State) (f : State → State) : State :=
  let s1 := f s
  if !s.almMuted && s1.almMuted then (f s.sayMuted).updPins
  else if s.almMuted && !s1.almMuted then s1.sayUnmuted
  else s1.updPins

/-! ### Acknowledgement (R211) -/

/-- One channel acknowledged. -/
def State.ackChan (s : State) (k : Nat) : State :=
  let ch := s.chan k
  let s1 := (s.setChan k { ch with acked := true }).bump Reg.ALM_ACKS
  (s1.almEvent k 4 (s1.published k).length none).evalChan k []

/-- The SEQ that a channel delta names: the next of class 0 (R361). -/
def State.seqNamed (s : State) : Nat := match (s.sc 0).last with
  | some l => (l.seq + 1) % 2 ^ 32
  | none => 0

/-- ALM_ACK's own rules, which come after the checks of R446. -/
def ackBody (mask : Nat) : CmdBody := fun s =>
  if mask % 2 ^ 64 = 0 then (s, some (.arg, []))
  else
    let ks := (List.range 64).filter (fun k => bitAt mask k = 1 && (s.chan k).active)
    let s1 := ((ks.foldl State.ackChan s).updPins).publish
    let s2 := if ks.isEmpty then s1
      else s1.sendDelta (.almAck (ks.map (fun k => (k, (s1.chan k).latched, (s1.chan k).acked))) s1.seqNamed)
    let m := (ks.map (fun k => 2 ^ k)).sum
    (s2, some (.ok, [m % 2 ^ 32, m / 2 ^ 32]))

/-- Modes in which ALM_ACK is legal. -/
def Mode.acks : Mode → Bool
  | .shadow => false | .boot => false | .configure => false | .referee => false | .dormant => false | _ => true

def State.almAck (s : State) (h : CmdHdr) (mask : Nat) : State :=
  s.hostCmd 0x0501 h true s.sys.mode.acks true (ackBody mask)

/-- ALM_ACK (R211). -/
def execAlmAck (h : CmdHdr) (mask : Nat) (s : State) : Host.Outcome State Fault Refusal :=
  s.live (fun s => s.almAck h mask)

/-! ### Configuration and inputs -/

def alcAddr (k : Nat) : AlcReg → Nat
  | .cfg => Reg.ALM_ALCkCFG k
  | .src => Reg.ALM_ALCkSRC k
  | .din => Reg.ALM_ALCkDIN k

/-- A write of a channel's configuration (R225-R227): refused in SHADOW and out of range, else carried to the Standby and the channel
evaluated again. EN 0 drops the latch and the acknowledgement. -/
def State.writeAlc (s : State) (k : Nat) (r : AlcReg) (v : Nat) : State :=
  match findReg (alcAddr k r) with
  | none => s
  | some d =>
    if s.sys.mode = .shadow || !d.inRange s.configure (BitVec.ofNat 32 v) || (r = .cfg && bitsOf v 1 2 = 3) then s.cfgErr E.ALM
    else
      let a := alcAddr k r
      let s1 := s.setReg a (d.merge s.configure (s.reg a) (BitVec.ofNat 32 v))
      ((s1.evalChan k []).updPins.publish).sendDelta (.almReg a (s1.val a) s1.seqNamed)

/-- ALC_CONFIG_WRITE (R225). -/
def execAlcConfigWrite (req : Requester) (channel : Nat) (reg : AlcReg) (value : Nat) (s : State) :
    Host.Outcome State Fault Refusal :=
  s.live (fun s => s.writeBy req (alcAddr channel reg) value (fun s => if channel < 64 then s.writeAlc channel reg value else s))

/-- DIN_CHANGE (R216): an enabled input. -/
def execDinChange (t input : Nat) (closed : Bool) (s : State) : Host.Outcome State Fault Refusal :=
  s.liveAt t (fun s =>
    if 16 ≤ input || bitAt (s.val Reg.ALM_DINCFG) (16 + input) = 0 || (bitAt s.alm.din input == 1) == closed then s
    else
      let s1 : State := { s with alm := { s.alm with din := s.alm.din ^^^ 2 ^ input } }
      (s1.event (0x150 + input) (input + bit closed 4)).almAll)

/-- DINCFG written: a disabled input reads 0 (R216). -/
def State.writeDincfg (s : State) (v : Nat) : State :=
  let s1 := s.plainWrite E.ALM Reg.ALM_DINCFG v
  ({ s1 with alm := { s1.alm with din := s1.alm.din &&& s1.val Reg.ALM_DINCFG / 65536 } }).almAll

/-! ### Views and the image load -/

/-- ALCkSTAT as read. -/
def State.alcStat (s : State) (k : Nat) : Nat :=
  let c := s.chan k
  bit c.active 0 + bit c.pinact 1 + bit c.latched 2 + bit c.acked 3 + bit c.provonly 4 + min c.counted.length 0xFFFF * 2 ^ 8

/-- ALM.STAT as read. -/
def State.almStat (s : State) : Nat :=
  bit s.almMuted 0 + ((List.range 8).map (fun j => bit (s.pub j).isSome (8 + j))).sum

/-- A lattice image load clears detector contributions, latches and acknowledgements without records (R225). -/
def State.almClear (s : State) : State :=
  let s1 := (List.range 64).foldl (fun (s : State) k =>
    let subs := (s.chan k).subs.filter (fun c => 7 < c.kind)
    let s2 := s.setChan k { ({} : AlmChan) with subs := subs }
    let cs := s2.published k
    let on := s.flag Reg.ALM_CTL F.ALM_CTL_EN && s.flag (Reg.ALM_ALCkCFG k) F.ALM_ALCkCFG_EN && s2.condition k (cs.map (·.kind))
    s2.setChan k { ({} : AlmChan) with
      subs := subs
      active := on
      pinact := on
      counted := cs.map (fun c => (c.kind, c.subject)) }) s
  s1.updPins

end Sys2Proof.Machine
end

