-- ==== Sys2Proof/Machine/Vertex.lean ====
section
/-!
DEFINITION. The vertex store: rows, row maps and the atomic row writes (R146-R149).
-/
namespace Sys2Proof.Machine

/-- Address of a row (R146). -/
def rowAddr (vid : Nat) : Nat := 0x200000000 + vid * 128

/-- `n` bytes of a row at an offset. -/
def State.rowLe (s : State) (vid off n : Nat) : Nat := leNat (s.devBytes (rowAddr vid + off) n)

def State.putRow (s : State) (vid off n v : Nat) : State := s.putDev (rowAddr vid + off) (leBytes n v)

def State.rowFid (s : State) (vid : Nat) : Nat := s.rowLe vid 0 2
def State.rowWord0 (s : State) (vid : Nat) : Nat := s.rowLe vid 0 4
def State.rowMap (s : State) (vid : Nat) : Nat := bitsOf (s.rowWord0 vid) 16 4
def State.rowAgep (s : State) (vid : Nat) : Nat := bitsOf (s.rowWord0 vid) 20 2
def State.rowInsvc (s : State) (vid : Nat) : Bool := bitAt (s.rowWord0 vid) 22 == 1
def State.rowAge (s : State) (vid : Nat) : Nat := bitsOf (s.rowWord0 vid) 24 2
def State.rowEcc (s : State) (vid : Nat) : Bool := bitAt (s.rowWord0 vid) 26 == 1

/-- Rows with a byte that is not 0, by rising VID. -/
def State.rowsListed (s : State) : List Nat :=
  (s.devMem.filter (fun c => 0x200000000 ≤ c.1 && c.1 < 0x208000000)).foldr (fun c l =>
    let v := (c.1 - 0x200000000) / 128
    if l.head? = some v then l else v :: l) []

/-- Row map 0 (Table 07-2), in force where the image defines no other map 0. -/
def rowMap0 : List Nat := [0x001, 0x013, 0x033, 0x03B, 0x050, 0x051, 0x052, 0x060, 0x061, 0x070]

/-- A row map, if it is defined. -/
def State.mapOf (s : State) (m : Nat) : Option (List Nat) :=
  if m = 0 then some rowMap0 else tget (fun _ => none) s.topo.rowMaps m

/-- The position that a row's map assigns to a code. -/
def State.posOf (s : State) (vid code : Nat) : Option Nat :=
  match s.mapOf (s.rowMap vid) with
  | some l => if code = 0 then none else (l.take 10).findIdx? (· == code)
  | none => none

/-- One point to write: position, VALUE, QUALITY, CODE, QUALIFIER. -/
structure Point where
  pos : Nat
  value : Nat
  quality : Nat
  code : Nat
  qual : Nat
  deriving DecidableEq, Repr

def State.rowDt (s : State) (vid i : Nat) : Nat := s.rowLe vid (0x18 + 2 * i) 2

/-- A difference in 10 ms, rounded down. -/
def ticks10 (ns : Nat) : Nat := ns / 10000000

/-- Points of one update, of time `t`, written to a row in one atomic write (R148, R149). -/
def State.writeRow (s : State) (vid t heard : Nat) (ps : List Point) : State :=
  let last := s.rowLe vid 8 8
  let grow := if last ≤ t then ticks10 (t - last) else 0
  let own := if last ≤ t then 0 else min (ticks10 (last - t)) 0xFFFF
  let dts := (List.range 10).map (fun i =>
    if ps.any (·.pos == i) then own else min (s.rowDt vid i + grow) 0xFFFF)
  let s1 := (s.putRow vid 8 8 (max last t)).putRow vid 0x10 8 heard
  let s2 := (s1.putDev (rowAddr vid + 0x18) ((dts.map (leBytes 2)).flatten)).putRow vid 0x2C 2 (s.rowLe vid 0x2C 2 + 1)
  ps.foldl (fun s p => (s.putRow vid (0x30 + 8 * p.pos) 4 p.value).putRow vid (0x34 + 8 * p.pos) 4
    (p.quality + p.code * 16 + p.qual % 65536 * 2 ^ 16)) s2

/-- STREAM_ROW_WRITE (R149): a present member's row at a final release. -/
def State.writeStreamRow (s : State) (vid inst : Nat) (f : Slot) : State :=
  let q := if f.test then 4 else if f.quest then 1 else 0
  let ps := ([(0x001, f.freq), (0x002, f.dfreq)]).filterMap (fun (c : Nat × Nat) =>
    (s.posOf vid c.1).map (fun i => ({ pos := i, value := c.2, quality := q, code := c.1, qual := 0 } : Point)))
  s.writeRow vid inst f.rxtime ps

end Sys2Proof.Machine
end

