-- ==== Sys2Proof/Machine/Ingest.lean ====
section
/-!
DEFINITION. Stream formats and the source registry: recognition, the three parsers, the firmware path, descriptors, registry commands
(R51-R77).
-/
namespace Sys2Proof.Machine

/-! ### Datagrams (R51, R52) -/

/-- An IP datagram, or a fragment of one, carrying UDP. `simple` when the hardware parsers handle its headers. -/
structure Datagram where
  v6 : Bool
  src : Nat
  dst : Nat
  ident : Nat
  offset : Nat
  more : Bool
  headOk : Bool
  simple : Bool
  /-- What follows the IP headers. -/
  body : List Byte
  deriving DecidableEq, Repr

/-- The extension headers of an IPv6 datagram, from next header `nh` at position `i`: position of the payload, its protocol, and
identification, offset and more-flag of a fragment header. -/
def ipv6Walk (b : List Byte) : Nat → Nat → Nat → Nat × Nat × Option (Nat × Nat × Bool)
  | 0, i, nh => (i, nh, none)
  | f + 1, i, nh =>
    if nh = 44 then
      let (j, p, _) := ipv6Walk b f (i + 8) (leAt b i 1)
      let w := beAt b (i + 2) 2
      (j, p, some (beAt b (i + 4) 4, w / 8 * 8, w % 2 == 1))
    else if nh = 0 || nh = 43 || nh = 60 then ipv6Walk b f (i + 8 + leAt b (i + 1) 1 * 8) (leAt b i 1)
    else (i, nh, none)

/-- An IPv4 address as ::ffff:a.b.c.d (Table 03-8). -/
def mapped4 (a : Nat) : Nat := 0xFFFF * 2 ^ 32 + a

/-- The datagram in a frame whose tag is stripped, if it is IPv4 or IPv6 carrying UDP. -/
def datagramOf (b : List Byte) : Option Datagram :=
  let ip := b.drop 14
  if beAt b 12 2 = 0x0800 then
    let ihl := leAt ip 0 1 % 16 * 4
    let frag := beAt ip 6 2
    if leAt ip 9 1 ≠ 17 || leAt ip 0 1 / 16 ≠ 4 then none
    else some
      { v6 := false, src := mapped4 (beAt ip 12 4), dst := mapped4 (beAt ip 16 4), ident := beAt ip 4 2,
        offset := frag % 8192 * 8, more := bitAt frag 13 == 1, headOk := inetFold (inetSum (ip.take ihl)) == 0xFFFF,
        simple := ihl == 20 && frag % 16384 == 0, body := (ip.take (beAt ip 2 2)).drop ihl }
  else if beAt b 12 2 = 0x86DD then
    let (i, nh, fr) := ipv6Walk ip 8 40 (leAt ip 6 1)
    if nh ≠ 17 then none
    else
      let (id, off, more) := fr.getD (0, 0, false)
      some
        { v6 := true, src := beAt ip 8 16, dst := beAt ip 24 16, ident := id, offset := off, more := more, headOk := true,
          simple := leAt ip 6 1 == 17, body := (ip.take (40 + beAt ip 4 2)).drop i }
  else none

/-- Whether a datagram is a fragment. -/
def Datagram.fragment (d : Datagram) : Bool := d.more || d.offset != 0

/-- The UDP destination port of a whole datagram. -/
def Datagram.port (d : Datagram) : Nat := beAt d.body 2 2

/-- The UDP payload. -/
def Datagram.payload (d : Datagram) : List Byte := (d.body.take (beAt d.body 4 2)).drop 8

/-- Whether the UDP checksum is right: over the pseudo-header and the datagram; 0 means none in IPv4 and is wrong in IPv6. -/
def Datagram.sumOk (d : Datagram) : Bool :=
  let n := beAt d.body 4 2
  if beAt d.body 6 2 = 0 then !d.v6
  else
    let addrs := if d.v6 then beBytes 16 d.src ++ beBytes 16 d.dst else beBytes 4 d.src ++ beBytes 4 d.dst
    let pseudo := addrs ++ (if d.v6 then beBytes 4 n ++ beBytes 4 17 else beBytes 2 17 ++ beBytes 2 n)
    inetFold (inetSum (pseudo ++ d.body.take n)) == 0xFFFF

/-- The protocols of the parsers. -/
inductive Proto where
  | c37 | rsv | vtd
  deriving DecidableEq, Repr

/-- The protocol whose port a destination port is, while it is enabled (R51). -/
def State.protoOf (s : State) (port : Nat) : Option Proto :=
  let on := fun (f : Fld) => s.flag Reg.ING_CTL f
  if port = 0 then none
  else if on F.ING_CTL_C37EN && (List.range 4).any (fun k => s.val (Reg.ING_C37PORT0 + 4 * k) % 65536 == port) then some .c37
  else if on F.ING_CTL_RSVEN && s.val Reg.ING_RSVPORT % 65536 == port then some .rsv
  else if on F.ING_CTL_VTDEN && s.val Reg.ING_VTDPORT % 65536 == port then some .vtd
  else none

/-- The next frame of a port: high class first, oldest first (R37). -/
def EthPort.nextRx (p : EthPort) : Option RxFrame :=
  match p.rx.find? (·.high) with
  | some f => some f
  | none => p.rx.head?

/-- The port's next frame taken from its buffer. -/
def State.takeRx (s : State) (n : Nat) : State :=
  let p := s.port n
  match p.nextRx with
  | none => s
  | some f => s.setPort n { p with rx := p.rx.erase f }

/-- Whether a SYNC word is that of a data frame the parsers take (R55). -/
def isC37Data (pl : List Byte) : Bool := beAt pl 0 2 == 0xAA01 || beAt pl 0 2 == 0xAA02

/-- The hardware parser that takes a frame of ETH0-ETH3, if one does (R51, R52, R55). -/
def State.hwProto (s : State) (n : Nat) (f : RxFrame) : Option (Proto × Datagram) :=
  match datagramOf f.bytes with
  | none => none
  | some d =>
    if 4 ≤ n || !s.flag Reg.ING_CTL F.ING_CTL_EN || !d.simple || d.fragment then none
    else
      match s.protoOf d.port with
      | none => none
      | some p => if 2048 < d.payload.length || (p == .c37 && !isC37Data d.payload) then none else some (p, d)

/-- The receive stamp that goes with a frame: port, TAI ns, fraction. -/
structure RxStamp where
  port : Nat
  ns : Nat
  frac : Nat
  deriving DecidableEq, Repr

/-- The parser of a protocol takes a port's next frame, if it is one for it: a bad checksum is counted in CSUM, else `f`. -/
def State.parse (s : State) (n : Nat) (p : Proto) (f : State → Datagram → RxStamp → State) : State :=
  match (s.port n).nextRx with
  | none => s
  | some fr =>
    match s.hwProto n fr with
    | none => s
    | some (q, d) =>
      if q ≠ p then s
      else
        let s1 := s.takeRx n
        if !d.headOk || !d.sumOk then s1.bump Reg.ING_CSUM else f s1 d ⟨n, fr.ns, fr.frac⟩

/-! ### Registry lookups (R74) -/

def RegEntry.stream (e : RegEntry) : StreamId :=
  ⟨e.fmt, e.addr, e.udpPort, if e.fmt < 2 then e.srcId % 65536 else e.srcId⟩

/-- A stream entry by its whole key. -/
def State.entryOf (s : State) (fmt addr port srcId : Nat) : Option RegEntry :=
  s.streamEntries.find? (fun e => e.fmt == fmt && e.addr == addr && e.udpPort == port && e.srcId == srcId)

def State.entriesOf (s : State) (st : StreamId) : List RegEntry := s.streamEntries.filter (fun e => e.stream == st)

/-- A double-bit error in a registry entry: the frame is discarded, CACHEERR set (Table 03-11, R14). -/
def State.cacheErr (s : State) : State := s.doubleBitAnywhere.raise E.ING 3

/-! ### C37.118.2 (R55-R60) -/

/-- Bytes of a block under its descriptor. -/
def pmuSize (d : PmuDesc) : Nat :=
  2 + d.phasors.length * (if bitAt d.format 1 = 1 then 8 else 4) + 2 * (if bitAt d.format 3 = 1 then 4 else 2) +
    d.analogs.length * (if bitAt d.format 2 = 1 then 4 else 2) + 2 * d.ndig

/-- FRAMESIZE that a descriptor implies. -/
def descSize (d : Desc) : Nat := 16 + (d.pmus.map pmuSize).sum

/-- A complex value (re, im) / den turned by an angle in radians and rounded to binary32. -/
def rotate (re im : Int) (den : Nat) (angle : Int) : Nat × Nat :=
  let (sn, cs) := fxSinCos angle
  (fmt32.ofRat (re * cs - im * sn) (den * 2 ^ 320), fmt32.ofRat (re * sn + im * cs) (den * 2 ^ 320))

/-- The binary32 constant 1.0. -/
def f32One : Nat := 0x3F800000

/-- A phasor at position `i` of a frame (Table 03-2). Floating-point parts that are not finite pass unchanged when there is nothing
to apply, and give NaN otherwise. -/
def phasorAt (b : List Byte) (i format : Nat) (c : PhConv) : Nat × Nat :=
  let (mn, md) := fmt32.toRat c.mag
  let (an, ad) := fmt32.toRat c.angle
  if bitAt format 1 = 0 then
    let x := beAt b i 2
    let y := beAt b (i + 2) 2
    let num := (c.unit % 2 ^ 24 : Int) * mn
    let den := 100000 * md
    if bitAt format 0 = 0 then rotate (signed 16 x * num) (signed 16 y * num) den (fxOf an ad)
    else rotate ((x : Int) * num) 0 den (fxOf (signed 16 y * ad + an * 10000) (10000 * ad))
  else
    let x := beAt b i 4
    let y := beAt b (i + 4) 4
    let fin := fmt32.isFin x && fmt32.isFin y
    let (xn, xd) := fmt32.toRat x
    let (yn, yd) := fmt32.toRat y
    if bitAt format 0 = 0 then
      if c.mag = f32One && c.angle % 2 ^ 31 = 0 then (x, y)
      else if !fin then (fmt32.nan, fmt32.nan)
      else rotate (xn * yd * mn) (yn * xd * mn) (xd * yd * md) (fxOf an ad)
    else if !fin then (fmt32.nan, fmt32.nan)
    else rotate (xn * mn) 0 (xd * md) (fxOf (yn * ad + an * yd) (yd * ad))

/-- A signed 16-bit number times a binary32 factor, as binary32. -/
def scaled (v factor : Nat) : Nat :=
  let (n, d) := fmt32.toRat factor
  fmt32.ofRat (signed 16 v * n) d

/-- The values of one block that starts at position `i` (Table 03-2). -/
def blockSlot (b : List Byte) (i : Nat) (d : PmuDesc) : Slot :=
  let pw := if bitAt d.format 1 = 1 then 8 else 4
  let fw := if bitAt d.format 3 = 1 then 4 else 2
  let aw := if bitAt d.format 2 = 1 then 4 else 2
  let iF := i + 2 + d.phasors.length * pw
  let iA := iF + 2 * fw
  let iD := iA + d.analogs.length * aw
  let freq := if fw = 4 then beAt b iF 4
    else fmt32.ofRat ((d.fnom : Int) * 1000 + signed 16 (beAt b iF 2)) 1000
  let dfreq := if fw = 4 then beAt b (iF + 4) 4 else fmt32.ofRat (signed 16 (beAt b (iF + 2) 2)) 100
  { freq := freq
    dfreq := dfreq
    dig := ((List.range d.ndig).map (fun k => beAt b (iD + 2 * k) 2)).take 4
    analogs := ((d.analogs.zipIdx).map (fun (a : Nat × Nat) =>
      if aw = 4 then beAt b (iA + 4 * a.2) 4 else scaled (beAt b (iA + 2 * a.2) 2) a.1)).take 16
    phasors := ((d.phasors.zipIdx).map (fun (c : PhConv × Nat) => phasorAt b (i + 2 + c.2 * pw) d.format c.1)).take 32 }

/-- The marks of a STAT word put on a slot (R58); `v2011` for 2011 frames. -/
def Slot.withStat (f : Slot) (st : Nat) (v2011 : Bool) : Slot :=
  { f with
    stat := st
    invalid := bitsOf st 14 2 == 3
    test := bitsOf st 14 2 == 2
    quest := bitsOf st 14 2 == 1
    unsync := bitAt st 13 == 1
    cfgchg := bitAt st 10 == 1
    ptq := if v2011 then bitsOf st 6 3 else 0 }

/-- The blocks of a frame one by one (R59): each dropped and counted, or placed. Answers whether one was kept. -/
def State.c37Blocks (s : State) (fmt addr port idcode : Nat) (b : List Byte) (mtime tq desc : Nat) (st : RxStamp) :
    List PmuDesc → Nat → Nat → State × Bool
  | [], _, _ => (s, false)
  | d :: ds, k, i =>
    let w := beAt b i 2
    let (s1, kept) := match s.entryOf fmt addr port (idcode + k * 65536) with
      | none => (s.bump Reg.ING_UNREG, false)
      | some e =>
        if e.paused then (s.bump Reg.ING_PAUSED, false)
        else if e.authReq then (s.bump Reg.ING_NOTAG, false)
        else
          let s0 := if bitAt w 10 = 1 then s.raise E.ING 0 else s
          let f := { (blockSlot b i d).withStat w (beAt b 0 2 == 0xAA02) with
            mtime := mtime
            rxtime := st.ns
            rxfrac := st.frac
            tq := tq
            port := st.port
            desc := desc }
          (s0.placeFrame e.sc e.vid f, true)
    let (s2, more) := State.c37Blocks s1 fmt addr port idcode b mtime tq desc st ds (k + 1) (i + pmuSize d)
    (s2, kept || more)

/-- A data frame through the checks of R55 in their order, then its time (R57), then its blocks. -/
def State.c37 (s : State) (fmt addr port : Nat) (b : List Byte) (st : RxStamp) (hw : Bool) : State :=
  let size := beAt b 2 2
  if b.length < 4 || b.length < size || size < 16 then s.bump Reg.ING_SIZEERR
  else if beAt b (size - 2) 2 ≠ crcCcitt (b.take (size - 2)) then s.bump Reg.ING_CRC
  else
    let idcode := beAt b 4 2
    match s.entriesOf ⟨fmt, addr, port, idcode⟩ with
    | [] => s.bump Reg.ING_UNREG
    | e :: _ =>
      match s.descAt e.desc with
      | none => s.bump Reg.ING_PAUSED
      | some d =>
        if size ≠ descSize d then s.bump Reg.ING_SIZEERR
        else
          let fs := beAt b 10 4
          if d.timeBase ≤ fs % 2 ^ 24 then s.bump Reg.ING_TIME
          else
            let mtime := s.utcToTai (beAt b 6 4) (divRne (fs % 2 ^ 24 * 1000000000) d.timeBase)
            let (s1, kept) := s.c37Blocks fmt addr port idcode b mtime (bitsOf fs 24 4) e.desc st d.pmus 0 14
            if kept && hw then s1.bump Reg.ING_PARSEOK else s1

/-! ### R-SV (R61-R63) -/

/-- The slot bound to a key ID, if one is. -/
def State.kidSlot (s : State) (kid : Nat) : Option Nat :=
  match (List.range 64).find? (fun k => bitAt (s.val (Reg.ING_KIDSLOTk k)) 31 = 1 && s.val (Reg.ING_KIDMAPk k) = kid) with
  | some k => some (s.val (Reg.ING_KIDSLOTk k) % 256)
  | none => none

/-- Whether a slot may verify a tag: VALID, DECRYPT, an algorithm of the kind asked for (R73). -/
def KeySlot.verifies (k : KeySlot) (hmac : Bool) : Bool := k.valid && k.use == 1 && (if hmac then k.alg == 2 else k.alg < 2)

/-- Whether an SPDU's tag passes with the slot bound to its key ID: HMAC-SHA256 cut to 80, 128 or 256 bits, AES-GMAC with a tag of
64 or 128 bits (R61). -/
def State.spduTagOk (s : State) (p : Spdu) : Bool :=
  match s.kidSlot p.keyId with
  | none => false
  | some i =>
    let k := s.slot i
    let n := p.tag.length
    if p.sig = 1 then k.verifies true && (n == 10 || n == 16 || n == 32) && (hmacSha256 k.key p.covered).take n == p.tag
    else k.verifies false && (n == 8 || n == 16) && (aesGmac k.key p.iv p.covered).take n == p.tag

/-- Bytes of a dataset member. -/
def memberSize : RsvMember → Nat
  | .timestamp => 8
  | _ => 4

/-- The first Timestamp of a dataset as (seconds, ns). -/
def rsvStamp (b : List Byte) : List RsvMember → Nat → Option (Nat × Nat)
  | [], _ => none
  | .timestamp :: _, i => some (beAt b i 4, divRne (beAt b (i + 4) 3 * 1000000000) (2 ^ 24))
  | m :: ms, i => rsvStamp b ms (i + memberSize m)

/-- A number put at a place of a list, zeros before it where it was shorter. -/
def putAt (l : List Nat) (i v : Nat) : List Nat := (padTo (max l.length (i + 1)) l).set i v

/-- One value put where its dataset member goes. -/
def Slot.putPos (f : Slot) (v : Nat) : SlotPos → Slot
  | .none => f
  | .freq => { f with freq := v }
  | .dfreq => { f with dfreq := v }
  | .analog i => if i < 16 then { f with analogs := putAt f.analogs i v } else f
  | .phRe i =>
    if i < 32 then
      let l := f.phasors ++ List.replicate (i + 1 - f.phasors.length) (0, 0)
      { f with phasors := l.set i (v, (l.getD i (0, 0)).2) }
    else f
  | .phIm i =>
    if i < 32 then
      let l := f.phasors ++ List.replicate (i + 1 - f.phasors.length) (0, 0)
      { f with phasors := l.set i ((l.getD i (0, 0)).1, v) }
    else f

/-- The values of a dataset. -/
def rsvSlot (b : List Byte) : List RsvMember → Nat → Slot → Slot
  | [], _, f => f
  | m :: ms, i, f =>
    let f1 := match m with
      | .float32 p => f.putPos (beAt b i 4) p
      | .int32 sc p =>
        let (n, d) := fmt32.toRat sc
        f.putPos (fmt32.ofRat (signed 32 (beAt b i 4) * n) d) p
      | _ => f
    rsvSlot b ms (i + memberSize m) f1

/-- One ASDU (R62): dropped and counted under the first check it fails, in the counters' order, or placed. -/
def State.asdu (s : State) (addr port : Nat) (p : Spdu) (a : Asdu) (st : RxStamp) : State × Bool :=
  match s.entryOf 2 addr port (crc32c a.svid) with
  | none => (s.bump Reg.ING_UNREG, false)
  | some e =>
    let d := s.descAt e.desc
    let bad := match d with
      | some d => a.data.length != (d.members.map memberSize).sum
      | none => false
    let time := match d with
      | some d => (match rsvStamp a.data d.members 0 with
          | some t => some t
          | none => a.refrTm)
      | none => some (0, 0)
    if bad then (s.bump Reg.ING_SIZEERR, false)
    else
      match time with
      | none => (s.bump Reg.ING_TIME, false)
      | some (sec, nsec) =>
        if p.sig = 0 && e.authReq then (s.bump Reg.ING_NOTAG, false)
        else if p.sig ≠ 0 && !s.spduTagOk p then ((s.bump Reg.ING_TAGFAIL).raise E.ING 2, false)
        else
          match d with
          | none => (s.bump Reg.ING_PAUSED, false)
          | some d =>
            if e.paused then (s.bump Reg.ING_PAUSED, false)
            else
              let changed := a.confRev ≠ d.confRev
              let s1 := if changed then s.raise E.ING 0 else s
              let f := { rsvSlot a.data d.members 0 {} with
                mtime := s.utcToTai sec nsec
                rxtime := st.ns
                rxfrac := st.frac
                unsync := a.smpSynch == 0
                cfgchg := changed
                auth := p.sig != 0
                port := st.port
                smpcnt := a.smpCnt
                desc := e.desc }
              (s1.placeFrame e.sc e.vid f, true)

/-- An SPDU: its length, its kind, then its ASDUs, at most 8. -/
def State.rsv (s : State) (addr port : Nat) (p : Spdu) (st : RxStamp) (hw : Bool) : State :=
  if !p.lengthOk || 8 < p.asdus.length then s.bump Reg.ING_SIZEERR
  else if p.encrypted then s.bump Reg.ING_VERS
  else
    let (s1, kept) := p.asdus.foldl (fun (r : State × Bool) a =>
      let (s', k) := r.1.asdu addr port p a st
      (s', r.2 || k)) (s, false)
    if kept && hw then s1.bump Reg.ING_PARSEOK else s1

/-! ### VTD (R64-R73) -/

/-- TIME of a version 1 datagram: its 32-bit seconds extended to the nearest to device time, its milliseconds (R66). -/
def State.vtdTime1 (s : State) (sec32 ms : Nat) : Nat :=
  let d : Nat := (sec32 + 2 ^ 32 - s.taiSec % 2 ^ 32) % 2 ^ 32
  let sec : Int := if d < 2 ^ 31 then (s.taiSec : Int) + (d : Int) else (s.taiSec : Int) + (d : Int) - 2 ^ 32
  sec.toNat * 1000000000 + ms * 1000000

/-- What a tag check gives: passed with KEYSLOT, with KEYSLOT2, or failed (Table 03-7). -/
inductive TagResult where
  | first | second | failed
  deriving DecidableEq, Repr

/-- The tag of a datagram checked with an entry's slots (R71, R72). -/
def State.vtdTag (s : State) (e : RegEntry) (b : List Byte) (len : Nat) : TagResult :=
  let ok := fun i => (s.slot i).verifies false && aesGmac (s.slot i).key (sliceOf b 4 12) (b.take len) == sliceOf b len 16
  if ok e.keySlot then .first else if e.k2Valid && ok e.keySlot2 then .second else .failed

/-- QUALITY as stored: 6-15 as 3; TEST turns 0 and 1 into 4 (R70). -/
def vtdQuality (q : Nat) (test : Bool) : Nat :=
  let q1 := if 6 ≤ q then 3 else q
  if test && q1 < 2 then 4 else q1

/-- The entries of a datagram: points by position, later ones over earlier ones, and how many have no position (R68). -/
def State.vtdPoints (s : State) (vid : Nat) (b : List Byte) (test : Bool) : Nat → Nat → List Point × Nat
  | 0, _ => ([], 0)
  | n + 1, i =>
    let w := beAt b i 2
    let (ps, miss) := s.vtdPoints vid b test n (i + 8)
    match s.posOf vid (w / 16) with
    | none => (ps, miss + 1)
    | some p =>
      if ps.any (·.pos == p) then (ps, miss)
      else ({ pos := p, value := beAt b (i + 4) 4, quality := vtdQuality (w % 16) test, code := w / 16,
              qual := beAt b (i + 2) 2 } :: ps, miss)

/-- Whether every entry's code is not 0. -/
def codesOk (b : List Byte) (n : Nat) : Bool := (List.range n).all (fun k => beAt b (16 + 8 * k) 2 / 16 != 0)

/-- A datagram accepted: SEQ, gaps, and its points or its heartbeat written in one row write (R67, R68, R148). -/
def State.vtdApply (s : State) (vid seq flags time nent : Nat) (b : List Byte) (gap : Nat) (st : RxStamp) : State :=
  let s1 := { s with ing := { s.ing with lastSeq := tput (fun _ => none) s.ing.lastSeq vid (some seq) } }
  let s2 := s1.bumpBy Reg.ING_VTDGAP gap
  if bitAt flags 3 = 1 then s2.putRow vid 0x10 8 st.ns
  else
    let (ps, miss) := s2.vtdPoints vid b (bitAt flags 4 == 1) nent 16
    (s2.bumpBy Reg.ING_UNMAPPED miss).writeRow vid time st.ns ps

/-- A datagram through the checks of R66 in their order. -/
def State.vtd (s : State) (addr : Nat) (b : List Byte) (st : RxStamp) (hw : Bool) : State :=
  let ver := leAt b 1 1
  let flags := leAt b 2 1
  let nent := leAt b 3 1
  let hb := bitAt flags 3 = 1
  let tagged := bitAt flags 7 = 1
  let vid := beAt b 4 4 / 4096
  let seq := beAt b 4 4 % 4096
  let len := 16 + 8 * nent
  if leAt b 0 1 ≠ 0xA6 || ver = 0 || 2 < ver || flags % 8 ≠ 0 || (ver = 1 && (bitsOf flags 5 2 ≠ 0 || !s.flag Reg.ING_CTL F.ING_CTL_VTD1EN)) then
    s.bump Reg.ING_VERS
  else if b.length ≠ len + (if tagged then 16 else 0) || (nent = 0 && !hb) || 64 < nent || (hb && nent ≠ 0) || !codesOk b nent then
    s.bump Reg.ING_SIZEERR
  else
    match (if vid < 0x2000 then none else tget (fun _ => none) s.ing.telem vid) with
    | none => s.bump Reg.ING_UNREG
    | some (e : RegEntry) =>
      let ms := beAt b 12 3
      let time := if ver = 1 then s.vtdTime1 (beAt b 8 4) ms else beAt b 8 8
      if (ver = 1 && 999 < ms) || s.ns + s.val Reg.ING_VTDSKEW % 65536 * 1000000 < time then s.bump Reg.ING_TIME
      else if e.addrChk && e.addr ≠ addr then s.bump Reg.ING_ADDR
      else if e.paused then s.bump Reg.ING_PAUSED
      else if !tagged && e.authReq then s.bump Reg.ING_NOTAG
      else
        let r := if tagged then s.vtdTag e b len else .first
        if r = .failed then (s.bump Reg.ING_TAGFAIL).raise E.ING 2
        else
          let s1 := if r = .second then s.bump Reg.ING_KEY2 else s
          let resync := bitAt flags 6 = 1
          match tget (fun _ => none) s1.ing.lastSeq vid with
          | none => (if hw then s1.bump Reg.ING_PARSEOK else s1).vtdApply vid seq flags time nent b 0 st
          | some last =>
            let d := (seq + 4096 - last) % 4096
            if !resync && (d = 0 || 2048 ≤ d) then s1.bump Reg.ING_SEQ
            else (if hw then s1.bump Reg.ING_PARSEOK else s1).vtdApply vid seq flags time nent b (if resync then 0 else d - 1) st

/-- VTD_DATAGRAM (R66). -/
def execVtdDatagram (t port : Nat) (ecc : Bool) (s : State) : Host.Outcome State Fault Refusal :=
  s.liveAt t (fun s => s.parse port .vtd (fun s d st => if ecc then s.cacheErr else s.vtd d.src d.payload st true))

/-! ### The firmware path (R52, R54) -/

/-- A whole datagram on the firmware path: the checks the hardware makes, by its port's protocol. A C37.118.2 frame that is no data
frame goes no further here: CONFIGURATION_FRAME is what follows a configuration frame. -/
def State.fwDatagram (s : State) (d : Datagram) (st : RxStamp) (spdu : Option Spdu) : State :=
  if !d.headOk || !d.sumOk then s.bump Reg.ING_CSUM
  else
    match s.protoOf d.port with
    | some .c37 => if isC37Data d.payload then s.c37 0 d.src d.port d.payload st false else s
    | some .vtd => s.vtd d.src d.payload st false
    | some .rsv => (match spdu with
        | some p => s.rsv d.src d.port p st false
        | none => s)
    | none => s

/-- Whether fragments cover bytes 0 to `n` without a hole. -/
def covered (parts : List (Nat × List Byte)) (n : Nat) : Bool :=
  let reach := (List.range parts.length).foldl (fun r _ =>
    parts.foldl (fun r p => if p.1 ≤ r then max r (p.1 + p.2.length) else r) r) 0
  n ≤ reach

/-- The payload that fragments make. -/
def joinParts (parts : List (Nat × List Byte)) (n : Nat) : List Byte :=
  (parts.foldl (fun (m : Mem) p => m.putBytes p.1 p.2) []).bytes 0 n

/-- A fragment taken in; a datagram that is complete is parsed with the stamp of this fragment (R54). -/
def State.fragment (s : State) (d : Datagram) (st : RxStamp) (spdu : Option Spdu) : State :=
  let old : FragSet := (s.ing.frags.find? (fun f => f.src == d.src && f.ident == d.ident)).getD
    { src := d.src, ident := d.ident, first := s.ns, parts := [], total := none }
  let total := if d.more then old.total else some (d.offset + d.body.length)
  let f : FragSet := { old with
    parts := old.parts ++ [(d.offset, d.body)]
    total := total }
  let rest := s.ing.frags.filter (fun g => !(g.src == d.src && g.ident == d.ident))
  match total with
  | some n =>
    if covered f.parts n then
      ({ s with ing := { s.ing with frags := rest } }).fwDatagram { d with offset := 0, more := false, body := joinParts f.parts n } st spdu
    else { s with ing := { s.ing with frags := rest ++ [f] } }
  | none => { s with ing := { s.ing with frags := rest ++ [f] } }

/-- A frame on the firmware path: counted in FWPATH when it belongs to a stream port or may (a fragment), then parsed. -/
def State.fwFrame (s : State) (n : Nat) (spdu : Option Spdu) : State :=
  match (s.port n).nextRx with
  | none => s
  | some fr =>
    let left := match s.hwProto n fr, spdu with
      | some (.rsv, _), some p => p.encrypted || !p.sampled
      | some _, _ => false
      | none, _ => true
    if !left then s
    else
      let s1 := s.takeRx n
      match datagramOf fr.bytes with
      | none => s1
      | some d =>
        if 4 ≤ n then s1
        else if d.fragment then (s1.bump Reg.ING_FWPATH).fragment d ⟨n, fr.ns, fr.frac⟩ spdu
        else if (s1.protoOf d.port).isSome then (s1.bump Reg.ING_FWPATH).fwDatagram d ⟨n, fr.ns, fr.frac⟩ spdu
        else s1

/-- FRAGMENT_TIMEOUT (R54). -/
def execFragmentTimeout (t : Nat) (s : State) : Host.Outcome State Fault Refusal :=
  s.liveAt t (fun s =>
    let late := s.ing.frags.filter (fun f => f.first + 1000000000 ≤ s.ns)
    ({ s with ing := { s.ing with frags := s.ing.frags.filter (fun f => !(f.first + 1000000000 ≤ s.ns)) } }).bumpBy
      Reg.ING_SIZEERR late.length)

/-! ### Descriptors (R60, R472) -/

/-- An entry of the stream table replaced in its slot. -/
def State.mapStreams (s : State) (f : RegEntry → RegEntry) : State :=
  { s with ing := { s.ing with streams := s.ing.streams.map (fun p => (p.1, p.2.map f)) } }

/-- RATE_CHANGE_PAUSE (R60): entries of the stream whose class has another nominal rate, or whose rate is outside 1-240, are paused. -/
def State.rateRule (s : State) (st : StreamId) (d : Desc) : State :=
  let bad := fun (e : RegEntry) => e.stream == st && !d.rsv && (d.rate < 1 || 240 < d.rate || (s.rate e.sc : Int) ≠ d.rate)
  let hit := (s.streamEntries.filter (fun e => bad e && !e.paused)).length
  let s1 := s.mapStreams (fun e => if bad e then { e with paused := true } else e)
  (List.range hit).foldl (fun s _ => s.raise E.ING 1) s1

/-- A descriptor installed at the index that the stream's entries name; a stream without entries has none. -/
def State.install (s : State) (st : StreamId) (d : Desc) : State :=
  match s.entriesOf st with
  | [] => s
  | e :: _ =>
    ({ s with ing := { s.ing with descs := tput (fun _ => none) s.ing.descs e.desc (some d) } }).rateRule st d

/-- CONFIGURATION_FRAME (R472). -/
def execConfigurationFrame (t : Nat) (stream : StreamId) (desc : Desc) (s : State) : Host.Outcome State Fault Refusal :=
  s.liveAt t (fun s => s.install stream desc)

/-- DSTAT as read. -/
def State.dstat (s : State) : Nat :=
  match s.descAt (s.val Reg.ING_DSEL % 8192) with
  | none => 0
  | some d => 1 + (if d.rsv then 0 else d.rate.toNat % 65536 * 65536)

/-- A key ID bound: in the entry that holds it, else in the first that is not VALID; with none free nothing is bound. -/
def State.bindKid (s : State) (kid slot : Nat) : State :=
  let valid := fun k => bitAt (s.val (Reg.ING_KIDSLOTk k)) 31 = 1
  let place := match (List.range 64).find? (fun k => valid k && s.val (Reg.ING_KIDMAPk k) = kid) with
    | some k => some k
    | none => (List.range 64).find? (fun k => !valid k)
  match place with
  | none => s
  | some k => (s.setVal (Reg.ING_KIDMAPk k) kid).setVal (Reg.ING_KIDSLOTk k) (slot % 256 + 2 ^ 31)

/-- GDOI_KEY_BIND (R63). -/
def execGdoiKeyBind (keyId slot : Nat) (s : State) : Host.Outcome State Fault Refusal := s.live (fun s => s.bindKid keyId slot)

/-! ### Registry commands (R74-R77) -/

/-- The entry that eight words spell (Table 03-8): VALID and REPLACE apart. -/
def entryOfWords (w : List Nat) : RegEntry :=
  let g := fun i => w.getD i 0
  { vid := g 0 % 2 ^ 20
    sc := bitsOf (g 0) 20 3
    fmt := bitsOf (g 0) 23 3
    authReq := bitAt (g 0) 26 == 1
    addrChk := bitAt (g 0) 27 == 1
    paused := bitAt (g 0) 28 == 1
    keySlot := bitsOf (g 1) 0 8
    keySlot2 := bitsOf (g 1) 8 8
    k2Valid := bitAt (g 1) 16 == 1
    svidLen := bitsOf (g 1) 24 8
    srcId := g 2 % 2 ^ 32
    udpPort := g 3 % 65536
    desc := bitsOf (g 3) 16 13
    addr := beNat (words ((w.drop 4).take 4)) }

/-- Whether the reserved fields of an entry's words are 0 (R74, R446). -/
def entryClear (w : List Nat) : Bool :=
  bitAt (w.getD 0 0) 30 == 0 && bitsOf (w.getD 1 0) 17 7 == 0 && bitsOf (w.getD 3 0) 29 3 == 0

/-- Whether two entries have the same stream key. -/
def RegEntry.sameKey (a b : RegEntry) : Bool :=
  a.fmt == b.fmt && a.addr == b.addr && a.udpPort == b.udpPort && a.srcId == b.srcId

/-- Whether a VID lies in the range of a format, 0x1FFF being the local vertex. -/
def vidOk (fmt vid : Nat) : Bool := if fmt = 3 then 0x2000 ≤ vid else fmt < 3 && vid < 0x1FFF

/-- Whether the slots a VTD entry names have a use and an algorithm that fit (R73, R75). -/
def State.entrySlotsOk (s : State) (e : RegEntry) : Bool :=
  let fit := fun i => (s.slot i).use == 1 && (s.slot i).alg < 2
  e.fmt ≠ 3 || (((!e.authReq && e.keySlot == 0) || fit e.keySlot) && (!e.k2Valid || fit e.keySlot2))

/-- ARG of SOURCE_ADD for a stream entry (R75). -/
def State.streamArg (s : State) (e : RegEntry) (replace : Bool) : Bool :=
  let es := s.streamEntries
  let rated := match s.descAt e.desc with
    | some d => !d.rsv && (s.rate e.sc : Int) ≠ d.rate
    | none => false
  es.any (fun x => x.vid == e.vid && !x.sameKey e) ||
  es.any (fun x => x.sameKey e && x ≠ e && !replace) ||
  (e.fmt == 2 && es.any (fun x => x.fmt == 2 && x.addr == e.addr && x.srcId == e.srcId && x.svidLen == e.svidLen && x.vid ≠ e.vid)) ||
  es.any (fun x => !x.sameKey e && (decide (x.stream = e.stream) != (x.desc == e.desc)) && (x.stream = e.stream || x.desc == e.desc)) ||
  (es.any (fun x => x.stream == e.stream) && rated)

/-- The slot that a stream key takes: the one it has, else the first free among the 64 from its hash slot (R75). -/
def State.freeSlot (s : State) (e : RegEntry) : Option Nat :=
  let h := Config.streamHash e.fmt e.addr e.udpPort e.srcId % 32768
  let at_ := fun i => tget (fun _ => none) s.ing.streams ((h + i) % 32768)
  match (List.range 64).find? (fun i => match at_ i with
    | some x => x.sameKey e
    | none => false) with
  | some i => some ((h + i) % 32768)
  | none => ((List.range 64).find? (fun i => (at_ i).isNone)).map (fun i => (h + i) % 32768)

/-- A stream's histogram and miss count cleared (R115). -/
def State.freshStream (s : State) (v : Nat) : State :=
  s.setStream v { s.stream v with hist := [], missing := 0, absent := false, dig := none }

/-- The configuration of a stream requested (Table 03-1); whether CFG-2 or CFG-3 the spec leaves to the stream. -/
def State.request (s : State) (st : StreamId) : State :=
  let (d, s1) := s.draw
  let c := if Config.freeNat d % 2 = 0 then 0x0005 else 0x0006
  { s1 with ing := { s1.ing with cmds := s1.ing.cmds ++ (if st.fmt = 1 then [(st, 2)] else []) ++ [(st, c)] } }

/-- A descriptor that no valid entry names is freed (R472). -/
def State.freeDesc (s : State) (i : Nat) : State :=
  if s.streamEntries.any (·.desc == i) then s
  else { s with ing := { s.ing with descs := tput (fun _ => none) s.ing.descs i none } }

/-- A stream entry stored. -/
def State.addStream (s : State) (slot : Nat) (e : RegEntry) : State :=
  let old := tget (fun _ => none) s.ing.streams slot
  let s1 : State := { s with ing := { s.ing with streams := tput (fun _ => none) s.ing.streams slot (some e) } }
  let s2 := match old with
    | some x => (if x.vid = e.vid then s1 else (s1.freshStream x.vid).freshStream e.vid).freeDesc x.desc
    | none => s1.freshStream e.vid
  if (s.descAt e.desc).isNone && e.fmt < 2 then s2.request e.stream else s2

/-- VIDs `v` to `v + n - 1`. -/
def vidRange (v n : Nat) : List Nat := (List.range n).map (v + ·)

/-- REGCNT as the tables stand. -/
def State.regcnt (s : State) : Nat :=
  s.streamEntries.length % 2 ^ 14 + min ((s.ing.telem.filter (fun p => p.2.isSome)).length) (2 ^ 18 - 1) * 2 ^ 14

/-- SOURCE_ADD's own rules (R75): RANGE, ARG, NOSPACE, else OK. -/
def addBody (w : List Nat) (count : Nat) : CmdBody := fun s =>
  let e := entryOfWords w
  let replace := bitAt (w.getD 0 0) 29 = 1
  let last := e.vid + count - 1
  let telem := fun v => tget (fun _ => none) s.ing.telem v
  if count = 0 || 65536 < count || 0xFFFFF < last || s.val Reg.TOPO_VCAP ≤ last then (s, some (.range, [0]))
  else if (1 < count && e.fmt ≠ 3) || !vidOk e.fmt e.vid || !s.entrySlotsOk e then (s, some (.arg, [0]))
  else if e.fmt = 3 then
    let vs := vidRange e.vid count
    let same := fun v => telem v == some { e with vid := v }
    if !replace && vs.any (fun v => (telem v).isSome && !same v) then (s, some (.arg, [0]))
    else
      let new := vs.filter (fun v => !same v)
      let s1 := new.foldl (fun (s : State) v =>
        let fresh := (tget (fun _ => none) s.ing.telem v).isNone
        { s with ing := { s.ing with
          telem := tput (fun _ => none) s.ing.telem v (some { e with vid := v })
          lastSeq := if fresh then tput (fun _ => none) s.ing.lastSeq v none else s.ing.lastSeq } }) s
      (s1.sendDelta (.sources true (words w) count), some (.ok, [new.length]))
  else if s.streamArg e replace then (s, some (.arg, [0]))
  else if s.streamEntries.contains e then (s.sendDelta (.sources true (words w) count), some (.ok, [0]))
  else
    let has := s.streamEntries.any (fun x => x.sameKey e)
    match s.freeSlot e with
    | none => (s, some (.nospace, [0]))
    | some i =>
      if !has && s.lat.streamsCap ≤ s.streamEntries.length then (s, some (.nospace, [0]))
      else ((s.addStream i e).sendDelta (.sources true (words w) count), some (.ok, [1]))

/-- Modes in which the registry and the topology are edited (R77, R163). -/
def Mode.edits : Mode → Bool
  | .configure => true | .settle => true | .serve => true | .trial => true | .holdover => true | .test => true | _ => false

def State.sourceAdd (s : State) (h : CmdHdr) (w : List Nat) (count : Nat) : State :=
  s.hostCmd 0x0311 h (entryClear w) s.sys.mode.edits true (addBody w count)

/-- SOURCE_ADD (R75). -/
def execSourceAdd (h : CmdHdr) (entry : List Nat) (count : Nat) (s : State) : Host.Outcome State Fault Refusal :=
  s.live (fun s => s.sourceAdd h entry count)

/-- A stream entry removed; its histogram goes with it, and a TCP stream is told to stop. -/
def State.dropStream (s : State) (e : RegEntry) : State :=
  let keep := s.ing.streams.filter (fun p => match p.2 with
    | some x => !x.sameKey e
    | none => false)
  let s1 := ({ s with ing := { s.ing with streams := keep } }).freshStream e.vid
  let s2 : State := if e.fmt = 1 && !s1.streamEntries.any (fun x => x.stream == e.stream) then
    { s1 with ing := { s1.ing with cmds := s1.ing.cmds ++ [(e.stream, 1)] } } else s1
  s2.freeDesc e.desc

/-- SOURCE_REMOVE's own rules (R76): the entries leave the registry now, the completion waits until the parsers have drained. -/
def removeBody (tag : Nat) (w : List Nat) (count : Nat) : CmdBody := fun s =>
  let e := entryOfWords w
  let last := e.vid + count - 1
  if count = 0 || 65536 < count || 0xFFFFF < last || s.val Reg.TOPO_VCAP ≤ last then (s, some (.range, [0]))
  else if (1 < count && e.fmt ≠ 3) || !vidOk e.fmt e.vid then (s, some (.arg, [0]))
  else
    let gone := if e.fmt = 3 then (vidRange e.vid count).filter (fun v => (tget (fun _ => none) s.ing.telem v).isSome)
      else (s.streamEntries.filter (fun x => x.sameKey e)).map (·.vid)
    if gone.isEmpty then (s, some (.absent, [0]))
    else
      let s1 := if e.fmt = 3 then
          gone.foldl (fun (s : State) v => { s with ing := { s.ing with
            telem := tput (fun _ => none) s.ing.telem v none
            lastSeq := tput (fun _ => none) s.ing.lastSeq v none } }) s
        else (s.streamEntries.filter (fun x => x.sameKey e)).foldl State.dropStream s
      let s2 : State := { s1 with ing := { s1.ing with removals := s1.ing.removals ++ [{ tag := tag, vids := gone }] } }
      ((s2.setFld Reg.ING_STAT F.ING_STAT_BUSY 1).sendDelta (.sources false (words w) count), none)

def State.sourceRemove (s : State) (h : CmdHdr) (w : List Nat) (count : Nat) : State :=
  s.hostCmd 0x0312 h (entryClear w) s.sys.mode.edits true (removeBody h.tag w count)

/-- SOURCE_REMOVE (R76). -/
def execSourceRemove (h : CmdHdr) (entry : List Nat) (count : Nat) (s : State) : Host.Outcome State Fault Refusal :=
  s.live (fun s => s.sourceRemove h entry count)

/-- The completion of a SOURCE_REMOVE whose frames have left the parsers. -/
def State.drained (s : State) (tag : Nat) : State :=
  match s.ing.removals.find? (·.tag == tag) with
  | none => s
  | some r =>
    let rest := s.ing.removals.filter (fun x => x.tag != tag)
    let s1 : State := { s with ing := { s.ing with removals := rest } }
    (s1.setFld Reg.ING_STAT F.ING_STAT_BUSY (if rest.isEmpty then 0 else 1)).completeDelta 0x0312 tag .ok [r.vids.length]

/-- SOURCE_REMOVE_DRAINED (R76). -/
def execSourceRemoveDrained (t tag : Nat) (s : State) : Host.Outcome State Fault Refusal := s.liveAt t (fun s => s.drained tag)

end Sys2Proof.Machine
end

