-- ==== Sys2Proof/Machine/Topology.lean ====
section
/-!
DEFINITION. Topology: facets, hulls and edges, components and generations, ageing and aggregation, TOPO_EDIT (R150-R166).
-/
namespace Sys2Proof.Machine

/-! ### Tables in device memory (R150-R152) -/

def State.facBase (s : State) : Nat := s.val64 Reg.TOPO_FACBASELO Reg.TOPO_FACBASEHI
def State.edgeBase (s : State) : Nat := s.val64 Reg.TOPO_EDGEBASELO Reg.TOPO_EDGEBASEHI

/-- Indices below `cap` of a table of entries of `stride` bytes at `base` that have a byte which is not 0. -/
def State.listedAt (s : State) (base stride cap : Nat) : List Nat :=
  (s.devMem.filter (fun c => base ≤ c.1 && c.1 < base + cap * stride)).foldr (fun c l =>
    let v := (c.1 - base) / stride
    if l.head? = some v then l else v :: l) []

def State.facWord (s : State) (f i : Nat) : Nat := leNat (s.devBytes (s.facBase + f * 16 + 4 * i) 4)
def State.putFac (s : State) (f i v : Nat) : State := s.putDev (s.facBase + f * 16 + 4 * i) (leBytes 4 v)
def State.facValid (s : State) (f : Nat) : Bool := bitAt (s.facWord f 0) 8 == 1
def State.facInsvc (s : State) (f : Nat) : Bool := bitAt (s.facWord f 0) 9 == 1
def State.facNoagg (s : State) (f : Nat) : Bool := bitAt (s.facWord f 0) 10 == 1
def State.facHid (s : State) (f : Nat) : Nat := s.facWord f 0 % 64

/-- Valid facets by rising FID. -/
def State.facets (s : State) : List Nat := (s.listedAt s.facBase 16 (s.val Reg.TOPO_FCAP)).filter s.facValid

def State.edgeWord (s : State) (e i : Nat) : Nat := leNat (s.devBytes (s.edgeBase + e * 16 + 4 * i) 4)
def State.putEdge (s : State) (e i v : Nat) : State := s.putDev (s.edgeBase + e * 16 + 4 * i) (leBytes 4 v)
def State.edgeValid (s : State) (e : Nat) : Bool := bitAt (s.edgeWord e 1) 28 == 1
def State.edgeSrc (s : State) (e : Nat) : Nat := bitsOf (s.edgeWord e 1) 24 3
def State.edgeState (s : State) (e : Nat) : Nat := bitsOf (s.edgeWord e 1) 29 2
def State.edgeA (s : State) (e : Nat) : Nat := s.edgeWord e 0 % 65536
def State.edgeB (s : State) (e : Nat) : Nat := s.edgeWord e 0 / 65536

/-- Valid edges by rising index. -/
def State.edgeList (s : State) : List Nat := (s.listedAt s.edgeBase 16 (s.val Reg.TOPO_ECAP)).filter s.edgeValid

/-- STATE of an edge, and CHGTICK, written. -/
def State.putEdgeState (s : State) (e st ns32 : Nat) : State :=
  let w := s.edgeWord e 1
  (s.putEdge e 1 (w - bitsOf w 29 2 * 2 ^ 29 + st * 2 ^ 29)).putEdge e 3 ns32

def State.hull (s : State) (h : Nat) : Hull := tget (fun _ => {}) s.topo.hulls h

def State.setHull (s : State) (h : Nat) (x : Hull) : State :=
  { s with topo := { s.topo with hulls := tput (fun _ => {}) s.topo.hulls h x } }

/-! ### Ages (R158) -/

/-- AGED and STALE of a row's profile, in ns. -/
def State.profile (s : State) (vid : Nat) : Nat × Nat :=
  let w := s.val (Reg.TOPO_AGEPk (s.rowAgep vid))
  (w % 65536 * 1000000000, w / 65536 * 1000000000)

/-- The age of a row at a reference time: 0 fresh, 1 aged, 2 stale, 3 never heard. -/
def State.ageAt (s : State) (vid t : Nat) : Nat :=
  let heard := s.rowLe vid 0x10 8
  let (aged, stale) := s.profile vid
  if heard = 0 then 3 else if stale < t - heard then 2 else if aged < t - heard then 1 else 0

/-- Whether the point in position `i` of a row is current at `t`. -/
def State.currentAt (s : State) (vid i t : Nat) : Bool :=
  let dt := s.rowDt vid i
  dt != 0xFFFF && ((t : Int) - s.rowLe vid 8 8 + dt * 10000000 ≤ (s.profile vid).2)

/-! ### Edge status (R153) -/

/-- Whether binary32 bits are +0 or -0. -/
def f32Zero (x : Nat) : Bool := x % 2 ^ 31 == 0

/-- The status of an edge evaluated now: 0 open, 1 closed, 2 unknown. -/
def State.edgeNow (s : State) (e : Nat) : Nat :=
  let w1 := s.edgeWord e 1
  let w2 := s.edgeWord e 2
  let v := w1 % 2 ^ 20
  match s.edgeSrc e with
  | 0 => 1
  | 1 => 0
  | 2 =>
    let p := bitsOf w1 20 4
    let m := s.rowLe v (0x34 + 8 * p) 4
    let x := s.rowLe v (0x30 + 8 * p) 4
    let q := m % 16
    let code := bitsOf m 4 12
    let one := x == f32One
    if code = 0 || (w2 % 65536 ≠ 0xFFFF && m / 65536 ≠ w2 % 65536) || (code = 0x070 && !f32Zero x && !one) || q = 3 || q = 5 ||
        (q = 4 && s.sys.mode ≠ .test) || fmt32.isNan x || 2 ≤ s.ageAt v s.ns || !s.rowInsvc v || s.rowEcc v then 2
    else if f32Zero x then 0 else 1
  | 3 =>
    let r := s.stream v
    (match r.dig with
      | none => 2
      | some (ws, test) =>
        if r.absent || (test && s.sys.mode ≠ .test) || ws.length ≤ bitsOf w2 16 2 then 2
        else if bitAt (ws.getD (bitsOf w2 16 2) 0) (bitsOf w2 18 4) = bitAt w2 22 then 1 else 0)
  | 4 => bitAt w1 31
  | _ => 2

/-- Whether an edge in a state conducts. -/
def State.conducts (s : State) (e st : Nat) : Bool := st == 1 || (st == 2 && bitAt (s.edgeWord e 1) 27 == 1)

/-! ### Components (R155) -/

/-- Label, hull and service of each valid facet. -/
abbrev FacetMap := Tab (Option (Nat × Nat × Bool))

def facetAt (m : FacetMap) (f : Nat) : Option (Nat × Nat × Bool) := tget (fun _ => none) m f

/-- Two components joined: the lower label is kept. -/
def joinLabels (m : FacetMap) (a b : Nat) : FacetMap :=
  match facetAt m a, facetAt m b with
  | some (la, _, true), some (lb, _, true) =>
    let lo := min la lb
    let hi := max la lb
    m.map (fun p => (p.1, p.2.map (fun x => if x.1 = hi then (lo, x.2) else x)))
  | _, _ => m

/-- The labelling of the facets by the edges' states. -/
def State.label (s : State) : FacetMap :=
  let m0 : FacetMap := s.facets.map (fun f => (f, some (f, s.facHid f, s.facInsvc f)))
  s.edgeList.foldl (fun m e => if s.conducts e (s.edgeState e) then joinLabels m (s.edgeA e) (s.edgeB e) else m) m0

/-- Distinct values of a list. -/
def distinct (l : List Nat) : List Nat := l.foldl (fun r x => if r.contains x then r else r ++ [x]) []

/-- Labels of a map. -/
def labelsOf (m : FacetMap) : List Nat := distinct (m.filterMap (fun p => p.2.map (·.1)))

/-- How many more labels the facets of one label of `a` have in `b`, over all labels of `a`. -/
def spread (a b : FacetMap) : Nat :=
  ((labelsOf a).map (fun l =>
    (distinct ((a.filter (fun p => (p.2.map (·.1)) == some l)).filterMap (fun p => (facetAt b p.1).map (·.1)))).length - 1)).sum

/-- The latest generation's facets. -/
def State.genFacets (s : State) : FacetMap := (s.topo.gens.head?.map (·.facets)).getD []

/-- The generation committed at the latest tick at or before a time; when none so old is held, the oldest one, and whether so. -/
def State.genAt (s : State) (t : Nat) : FacetMap × Bool :=
  match s.topo.gens.find? (fun g => g.tick ≤ t) with
  | some g => (g.facets, false)
  | none =>
    match s.topo.gens.getLast? with
    | some g => (g.facets, 256 ≤ s.topo.gens.length)
    | none => ([], false)

/-! ### TOPO_EDIT (R161-R163) -/

def TopoOp.word (o : TopoOp) (i : Nat) : Nat := o.words.getD (i - 1) 0

/-- A row set by VSET. -/
def State.vset (s : State) (v : Nat) (o : TopoOp) : State :=
  let w := o.word 1
  let old := s.rowWord0 v
  let new := w % 2 ^ 23 + bit (v < 0x2000) 23 + bitsOf old 24 2 * 2 ^ 24
  let s1 := (s.putRow v 0 4 new).putRow v 4 4 (o.word 2)
  if bitsOf w 16 4 = bitsOf old 16 4 then s1
  else ((s1.putRow v 8 8 0).putDev (rowAddr v + 0x18) (List.replicate 20 0)).putDev (rowAddr v + 0x30) (List.replicate 80 0)

/-- One operation applied to the tables. -/
def State.applyOp (s : State) (o : TopoOp) : State :=
  let k := o.target
  match o.op with
  | 1 => s.vset k o
  | 2 => ((s.putFac k 0 (o.word 1 % 2 ^ 11)).putFac k 2 (o.word 3)).putFac k 3 0
  | 3 => s.putDev (s.facBase + k * 16) (List.replicate 16 0)
  | 4 => s.setHull k { s.hull k with valid := bitAt (o.word 1) 0 == 1, f60 := bitAt (o.word 1) 1 == 1 }
  | 5 => s.setHull k { s.hull k with valid := false, f60 := false, nfac := 0 }
  | 6 => ((s.putEdge k 0 (o.word 1)).putEdge k 1 (o.word 2 - bitsOf (o.word 2) 29 2 * 2 ^ 29)).putEdge k 2 (o.word 3 % 2 ^ 23)
  | 7 => s.putDev (s.edgeBase + k * 16) (List.replicate 16 0)
  | _ => s.putEdge k 1 (s.edgeWord k 1 % 2 ^ 31 + o.word 1 % 2 * 2 ^ 31)

/-- A whole batch applied. -/
def State.applyOps (s : State) (ops : List TopoOp) : State := ops.foldl State.applyOp s

/-- The latest operation of a batch that sets, moves or deletes an entry: kind 1 row, 2 facet, 4 hull, 6 edge. -/
def touched (ops : List TopoOp) (kind id : Nat) : Option Nat :=
  (((ops.zipIdx).filter (fun (p : TopoOp × Nat) => p.1.target == id && (match p.1.op with
    | 1 => kind == 1
    | 2 => kind == 2
    | 3 => kind == 2
    | 4 => kind == 4
    | 5 => kind == 4
    | 6 => kind == 6
    | 7 => kind == 6
    | _ => false))).getLast?).map (·.2)

/-- The later of two operations. -/
def laterOp : Option Nat → Option Nat → Option Nat
  | some a, some b => some (max a b)
  | some a, none => some a
  | none, b => b

/-- The operations to which a fault of the result between several entries is charged (R162): `r` is the state that would result. -/
def chargedOps (r : State) (ops : List TopoOp) : List Nat :=
  let vcap := r.val Reg.TOPO_VCAP
  let rows := r.rowsListed.filter (· < vcap)
  let facs := distinct ((ops.filter (fun o => o.op = 2 || o.op = 3)).map (·.target))
  let rowFaults := rows.filterMap (fun v =>
    if r.facValid (r.rowFid v) then none else laterOp (touched ops 1 v) (touched ops 2 (r.rowFid v)))
  let zeroRows := if facs.contains 0 && !r.facValid 0 && rows.length < vcap then (touched ops 2 0).toList else []
  let edgeFaults := r.edgeList.filterMap (fun e =>
    let bad := fun f => if r.facValid f then none else laterOp (touched ops 6 e) (touched ops 2 f)
    laterOp (bad (r.edgeA e)) (bad (r.edgeB e)))
  let facFaults := r.facets.filterMap (fun f =>
    if (r.hull (r.facHid f)).valid then none else laterOp (touched ops 2 f) (touched ops 4 (r.facHid f)))
  rowFaults ++ zeroRows ++ edgeFaults ++ facFaults

/-- The status of one operation: `s` is the state before it, `charged` the operations at fault for the result. -/
def State.opStatus (s : State) (o : TopoOp) (i : Nat) (charged : List Nat) : Option Status :=
  let k := o.target
  let w2 := o.word 2
  let vnom := o.word 3
  let range : Bool := match o.op with
    | 1 => s.val Reg.TOPO_VCAP ≤ k || s.val Reg.TOPO_FCAP ≤ o.word 1 % 65536
    | 2 => s.val Reg.TOPO_FCAP ≤ k
    | 3 => s.val Reg.TOPO_FCAP ≤ k
    | 4 => 64 ≤ k
    | 5 => 64 ≤ k
    | 6 => s.val Reg.TOPO_ECAP ≤ k || s.val Reg.TOPO_FCAP ≤ o.word 1 % 65536 || s.val Reg.TOPO_FCAP ≤ bitsOf (o.word 1) 16 16 ||
        ((bitsOf w2 24 3 == 2 || bitsOf w2 24 3 == 3) && s.val Reg.TOPO_VCAP ≤ w2 % 2 ^ 20)
    | 7 => s.val Reg.TOPO_ECAP ≤ k
    | 8 => s.val Reg.TOPO_ECAP ≤ k
    | _ => false
  let arg : Bool := match o.op with
    | 1 => (s.mapOf (bitsOf (o.word 1) 16 4)).isNone
    | 2 => !fmt32.isFin vnom || 2 ^ 31 < vnom
    | 3 => false
    | 4 => false
    | 5 => false
    | 6 => 5 ≤ bitsOf w2 24 3 || o.word 1 % 65536 == o.word 1 / 65536 || (bitsOf w2 24 3 == 2 && 10 ≤ bitsOf w2 20 4)
    | 7 => false
    | 8 => s.edgeValid k && s.edgeSrc k != 4
    | _ => true
  let absent : Bool := match o.op with
    | 3 => !s.facValid k
    | 5 => !(s.hull k).valid
    | 7 => !s.edgeValid k
    | 8 => !s.edgeValid k
    | _ => false
  if range then some .range else if arg || charged.contains i then some .arg else if absent then some .absent else none

/-- The first operation that fails a check, with its status and index. -/
def firstFault (charged : List Nat) : List TopoOp → Nat → State → Option (Status × Nat)
  | [], _, _ => none
  | o :: os, i, s =>
    match s.opStatus o i charged with
    | some st => some (st, i)
    | none => firstFault charged os (i + 1) (s.applyOp o)

/-- The operations in a list of 32-byte entries. -/
def topoOps (l : List Byte) : Nat → List TopoOp
  | 0 => []
  | n + 1 =>
    let w := leAt l 0 4
    { op := w % 256, target := w / 256, words := (List.range 7).map (fun i => leAt l (4 + 4 * i) 4) } :: topoOps (l.drop 32) n

/-- TOPO_EDIT's own rules (R162): an accepted batch waits for the next tick and completes at its commit. -/
def editBody (tag addr count : Nat) : CmdBody := fun s =>
  if s.topo.batch.isSome || (s.topo.work.bind (·.batch)).isSome then (s, some (.busy, [0]))
  else if count = 0 || 4096 < count then (s, some (.range, [0]))
  else
    let bytes := s.hostBytes addr (32 * count)
    let ops := topoOps bytes count
    match firstFault (chargedOps (s.applyOps ops) ops) ops 0 s with
    | some (st, i) => (s, some (st, [i]))
    | none =>
      let s1 : State := { s with topo := { s.topo with batch := some { tag := some tag, ops := ops } } }
      ((s1.setFld Reg.TOPO_STAT F.TOPO_STAT_EDITBUSY 1).sendDelta (.topoBatch bytes), none)

def State.topoEdit (s : State) (h : CmdHdr) (addr count : Nat) : State :=
  s.hostCmd 0x0401 h true s.sys.mode.edits true (editBody h.tag addr count)

/-- TOPO_EDIT (R162). -/
def execTopoEdit (h : CmdHdr) (addr count : Nat) (s : State) : Host.Outcome State Fault Refusal :=
  s.live (fun s => s.topoEdit h addr count)

/-! ### Ticks (R153-R157) -/

/-- NVERT of the facets and NFAC of the hulls as the rows and facets stand. -/
def State.recount (s : State) : State :=
  let vcap := s.val Reg.TOPO_VCAP
  let rows := s.rowsListed.filter (· < vcap)
  let s1 := s.facets.foldl (fun s f =>
    let n := (rows.filter (fun v => s.rowFid v == f)).length + (if f = 0 then vcap - rows.length else 0)
    s.putFac f 1 (n % 2 ^ 20)) s
  (List.range 64).foldl (fun s h =>
    let x := s.hull h
    s.setHull h { x with nfac := if x.valid then (s.facets.filter (fun f => s.facHid f == h)).length else 0 }) s1

/-- One edge evaluated at a tick on the state that a gathered batch would give: STATE, CHGTICK, EDGECHG, EDGEUNK. An edge that a
batch defines has its first state from here, uncounted. -/
def State.evalEdge (s trial : State) (fresh : Bool) (e : Nat) : State :=
  let new := trial.edgeNow e
  let s1 := if new = 2 && (fresh || s.edgeState e ≠ 2) then s.raise E.TOPO 6 else s
  if fresh then s1
  else if new = s.edgeState e then s1
  else
    let s2 := (s1.putEdgeState e new s.ns32).bump Reg.TOPO_EDGECHG
    { s2 with topo := { s2.topo with dirty := true } }

/-- Edges that a batch defines or replaces and does not delete afterwards. -/
def freshEdges (trial : State) (ops : List TopoOp) : List Nat :=
  (distinct ((ops.filter (fun o => o.op = 6)).map (·.target))).filter trial.edgeValid

/-- The edges whose states a Standby takes from the Active for this tick (R361 kind 9). -/
def State.stagedEdges (s : State) : List (Nat × Nat) :=
  (s.chd.staged.filterMap (fun d => match d with
    | .edges tick l => if tick = s.ns then some l else none
    | _ => none)).flatten

/-- Whether a SYNCED Standby follows the Active's ticks. -/
def State.follows (s : State) : Bool := s.sys.mode == .shadow && s.chd.synced

/-- TTICK in ns. -/
def State.topoPeriod (s : State) : Nat := s.val Reg.TOPO_TTICK % 1024 * 1000000

/-- Changes gathered at a tick, told to the Standby with the tick at which they are committed: edge states evaluated, a batch taken, and the working copy built if anything changed (R156). -/
def State.gather (s : State) : State :=
  let batch := s.topo.batch
  let ops := (batch.map (·.ops)).getD []
  let trial := s.applyOps ops
  let fresh := freshEdges trial ops
  let s1 := s.edgeList.foldl (fun s e => if trial.edgeValid e then s.evalEdge trial (fresh.contains e) e else s) s
  let s2 := (fresh.filter (fun e => !s.edgeValid e)).foldl (fun s e => s.evalEdge trial true e) s1
  let before := s.edgeList.map s.edgeState
  let changed := (s.edgeList.zip before).filterMap (fun (p : Nat × Nat) =>
    if s2.edgeState p.1 = p.2 then none else some (p.1, s2.edgeState p.1))
  let firsts := fresh.map (fun e => (e, trial.edgeNow e, s.ns32))
  let next := s.ns + s.topoPeriod
  let told := changed ++ firsts.map (fun p => (p.1, p.2.1))
  let s2a := if told.isEmpty then s2 else s2.sendDelta (.edges next told)
  let s3 := if batch.isSome then s2a.sendDelta (.topoCommit next) else s2a
  if batch.isNone && !s3.topo.dirty then s3
  else
    let t2 := firsts.foldl (fun (t : State) p => t.putEdgeState p.1 p.2.1 p.2.2) (s3.applyOps ops)
    let m := t2.label
    let splits := spread s3.genFacets m
    let w : TopoWork := { batch := batch, fresh := firsts, facets := m, merges := spread m s3.genFacets, splits := splits }
    let s4 : State := { s3 with topo := { s3.topo with work := some w, batch := none, dirty := false } }
    s4.setFld Reg.TOPO_STAT F.TOPO_STAT_SPLITBUSY (if splits = 0 then 0 else 1)

/-- The working copy committed as generation G + 1; a gathered batch reaches the tables and its command completes (R156, R162). -/
def State.commitWork (s : State) (w : TopoWork) : State :=
  let ops := (w.batch.map (·.ops)).getD []
  let s1 := w.fresh.foldl (fun (t : State) p => t.putEdgeState p.1 p.2.1 p.2.2) (s.applyOps ops)
  let s2 := if w.batch.isSome then s1.recount else s1
  let gen := (s2.val Reg.TOPO_GEN + 1) % 2 ^ 32
  let g : Generation := { gen := gen, tick := s.ns, facets := w.facets }
  let s3 : State := { s2 with topo := { s2.topo with work := none, gens := (g :: s2.topo.gens).take 256 } }
  let s4 := ((((s3.setVal Reg.TOPO_GEN gen).setVal Reg.TOPO_GENTICK s.ns32).setVal Reg.TOPO_NCOMP (labelsOf w.facets).length).setVal
    Reg.TOPO_ECOUNT s3.edgeList.length).bump Reg.TOPO_COMMITS
  let s5 := ((s4.bumpBy Reg.TOPO_MERGES w.merges).bumpBy Reg.TOPO_SPLITS w.splits).bumpBy Reg.TOPO_EDITOPS ops.length
  match w.batch with
  | none => s5
  | some b =>
    let s6 := s5.setFld Reg.TOPO_STAT F.TOPO_STAT_EDITBUSY 0
    match b.tag with
    | some tag => s6.completeDelta 0x0401 tag .ok [gen]
    | none => s6

/-- Staged deltas that name a tick now past are gone. -/
def State.dropTicks (s : State) : State :=
  let keep := s.chd.staged.filter (fun d => match d with
    | .edges tick _ => s.ns < tick
    | .topoCommit tick => s.ns < tick
    | _ => true)
  { s with chd := { s.chd with staged := keep } }

/-- A tick of a SYNCED Standby: the Active's edge states, and its batch at the tick it names (R361 kinds 8, 9). -/
def State.followTick (s : State) : State :=
  let es := s.stagedEdges
  let due := s.chd.staged.any (fun d => d == .topoCommit s.ns)
  let batch := if due then s.topo.batch else none
  let s1 := s.dropTicks
  let s2 : State := { s1 with topo := { s1.topo with batch := if due then none else s1.topo.batch } }
  if es.isEmpty && batch.isNone then s2
  else
    let ops := (batch.map (·.ops)).getD []
    let trial := s2.applyOps ops
    let fresh := freshEdges trial ops
    let s3 := es.foldl (fun (s : State) p =>
      let s4 := if p.2 = 2 then s.raise E.TOPO 6 else s
      if fresh.contains p.1 then s4 else s4.bump Reg.TOPO_EDGECHG) s2
    let firsts := es.map (fun p => (p.1, p.2, (s.ns - s.topoPeriod) % 2 ^ 32))
    let m := (firsts.foldl (fun (t : State) p => t.putEdgeState p.1 p.2.1 p.2.2) trial).label
    s3.commitWork { batch := batch, fresh := firsts, facets := m, merges := spread m s3.genFacets, splits := spread s3.genFacets m }

/-- A tick: the working copy of the tick before is committed unless its split recomputation still runs, then changes are
gathered (R156). -/
def State.topoTick (s : State) : State :=
  match s.topo.work with
  | none => s.gather
  | some w =>
    if s.flag Reg.TOPO_STAT F.TOPO_STAT_SPLITBUSY then
      let s1 := s.edgeList.foldl (fun (t : State) e => t.evalEdge s false e) s
      (s1.bump Reg.TOPO_GENLAG).raise E.TOPO 1
    else (s.commitWork w).gather

/-- Modes in which topology ticks are taken: all in which the block has its clock and commands may reach it. -/
def Mode.topo : Mode → Bool
  | .boot => false | .dormant => false | .referee => false | _ => true

/-- TOPOLOGY_TICK (R156). -/
def execTopologyTick (t : Nat) (s : State) : Host.Outcome State Fault Refusal :=
  s.liveAt t (fun s =>
    if !s.sys.mode.topo || !s.flag Reg.TOPO_CTL F.TOPO_CTL_EN || s.ns % s.topoPeriod ≠ 0 then s
    else if s.follows then s.followTick else s.dropTicks.topoTick)

/-- SPLIT_RECOMPUTE_DONE (R156). -/
def execSplitRecomputeDone (t : Nat) (s : State) : Host.Outcome State Fault Refusal :=
  s.liveAt t (fun s => s.setFld Reg.TOPO_STAT F.TOPO_STAT_SPLITBUSY 0)

/-! ### Aggregation (R159) -/

/-- Whether the lattice runs: a mode with a running lattice, and in TEST only while CTL.RUN is 1. -/
def State.latRuns (s : State) : Bool :=
  s.sys.mode.lattice && (s.sys.mode != .test || s.flag Reg.LAT_CTL F.LAT_CTL_RUN)

/-- The value of a code in a row, when its point is current at `t`, of QUALITY 0-2 and finite. -/
def State.pointOf (s : State) (vid t code : Nat) : Option Nat :=
  match (List.range 10).find? (fun i => bitsOf (s.rowLe vid (0x34 + 8 * i) 4) 4 12 == code) with
  | none => none
  | some i =>
    let x := s.rowLe vid (0x30 + 8 * i) 4
    if s.rowLe vid (0x34 + 8 * i) 4 % 16 < 3 && s.currentAt vid i t && fmt32.isFin x then some x else none

/-- What one fresh or aged row contributes. -/
structure RowPart where
  aged : Bool
  rated : Nat
  p : Option Nat
  q : Option Nat
  f : Option Nat
  vmin : Option Nat
  vmax : Option Nat
  edis : Option Nat
  echg : Option Nat
  trip : Bool
  ride : Bool
  deriving DecidableEq, Repr

/-- A fold of the values that are there. -/
def foldSome (op : Nat → Nat → Nat) (l : List (Option Nat)) : Option Nat :=
  l.foldl (fun acc x => match acc, x with
    | some a, some b => some (op a b)
    | none, b => b
    | a, none => a) none

def f32min (a b : Nat) : Nat := if fmt32.lt b a then b else a
def f32max (a b : Nat) : Nat := if fmt32.lt a b then b else a

/-- A point of `c`, or else the fold of those of the three codes from `d` on. -/
def State.phases (s : State) (vid t c d : Nat) (op : Nat → Nat → Nat) : Option Nat :=
  match s.pointOf vid t c with
  | some x => some x
  | none => foldSome op [s.pointOf vid t d, s.pointOf vid t (d + 1), s.pointOf vid t (d + 2)]

def State.rowPart (s : State) (vid t age : Nat) : RowPart :=
  let vnom := s.facWord (s.rowFid vid) 2
  let pu := fun (x : Option Nat) => if f32Zero vnom then none else x.map (fun v => fmt32.div v vnom)
  { aged := age == 1
    rated := s.rowLe vid 4 4
    p := s.phases vid t 0x033 0x030 fmt32.add
    q := s.phases vid t 0x03B 0x038 fmt32.add
    f := s.pointOf vid t 0x001
    vmin := pu (s.phases vid t 0x013 0x010 f32min)
    vmax := pu (s.phases vid t 0x013 0x010 f32max)
    edis := s.pointOf vid t 0x052
    echg := s.pointOf vid t 0x051
    trip := s.pointOf vid t 0x060 == some f32One
    ride := match s.pointOf vid t 0x061 with
      | some x => !f32Zero x
      | none => false }

/-- A sum in order, 0 without contributors. -/
def sum32 (l : List (Option Nat)) : Nat := (foldSome fmt32.add l).getD 0

/-- FMEAN: weighted by RATED, unweighted if every contributor has RATED 0. -/
def fmean (l : List RowPart) : Nat :=
  let c := l.filterMap (fun r => r.f.map (fun f => (f, r.rated)))
  if c.isEmpty then fmt32.nan
  else if c.all (fun x => f32Zero x.2) then
    fmt32.div (sum32 (c.map (fun x => some x.1))) (fmt32.ofInt c.length)
  else fmt32.div (sum32 (c.map (fun x => some (fmt32.mul x.1 x.2)))) (sum32 (c.map (fun x => some x.2)))

/-- The 16 words of an aggregate record (Table 07-7). -/
def aggWords (pass nvert comp : Nat) (l : List RowPart) : List Nat :=
  let nan := fun (x : Option Nat) => x.getD fmt32.nan
  [pass, nvert % 2 ^ 20, (l.filter (fun r => !r.aged)).length % 2 ^ 20, (l.filter (·.aged)).length % 2 ^ 20,
    sum32 (l.map (·.p)), sum32 (l.map (·.q)), fmean l, nan (foldSome f32min (l.map (·.f))), nan (foldSome f32max (l.map (·.f))),
    nan (foldSome f32min (l.map (·.vmin))), nan (foldSome f32max (l.map (·.vmax))), sum32 (l.map (·.edis)), sum32 (l.map (·.echg)),
    (l.filter (·.trip)).length % 2 ^ 20, (l.filter (·.ride)).length % 2 ^ 20, comp % 2 ^ 16 + bit l.isEmpty 16]

/-- One row read by a pass: its AGE written back, its ECC bit set on a double-bit error. Answers its age. -/
def State.readRow (s : State) (ecc : List Nat) (t v : Nat) : State × Nat :=
  let bad := ecc.contains v
  let age := if bad || s.rowEcc v then 2 else s.ageAt v t
  let w := s.rowWord0 v
  let s1 := s.putRow v 0 4 (w - bitsOf w 24 2 * 2 ^ 24 + age * 2 ^ 24 + (if bad && bitAt w 26 = 0 then 2 ^ 26 else 0))
  if bad then (((s1.doubleBit (rowAddr v)).bump Reg.TOPO_ROWECC).raiseInfo E.TOPO 4 v, age) else (s1, age)

/-- Rows read one after another: (VID, FID, age) of those read. -/
def State.readRows (s : State) (ecc : List Nat) (t : Nat) : List Nat → State × List (Nat × Nat × Nat)
  | [] => (s, [])
  | v :: vs =>
    let (s1, age) := s.readRow ecc t v
    let (s2, l) := s1.readRows ecc t vs
    (s2, (v, s.rowFid v, age) :: l)

/-- A pass: membership from the generation at `tref`, rows read, aggregates built; they are written when the pass completes. -/
def State.startPass (s : State) (ecc : List Nat) : State :=
  let tref := s.ns
  let m := (s.genAt tref).1
  let takes := fun f => match facetAt m f with
    | some (_, _, insvc) => insvc && !s.facNoagg f
    | none => false
  let vids := s.rowsListed.filter (fun v => v < s.val Reg.TOPO_VCAP && s.rowInsvc v && takes (s.rowFid v))
  let (s1, rows) := s.readRows ecc tref vids
  let pass := tref / 1000000 / (s.val Reg.TOPO_AGGINT % 65536) % 2 ^ 32
  let parts := fun (l : List (Nat × Nat × Nat)) =>
    (l.filter (fun r => r.2.2 < 2)).map (fun r => s1.rowPart r.1 tref r.2.2)
  let count := fun (l : List (Nat × Nat × Nat)) => (l.filter (fun r => r.2.2 < 3)).length
  let facs := (m.filterMap (fun p => if takes p.1 then some p.1 else none)).map (fun f =>
    let l := rows.filter (fun r => r.2.1 == f)
    (f, aggWords pass (count l) (((facetAt m f).map (·.1)).getD 0) (parts l)))
  let hulls := ((List.range 64).filter (fun h => (s.hull h).valid)).map (fun h =>
    let fs := m.filterMap (fun p => match p.2 with
      | some (_, hid, _) => if hid = h then some p.1 else none
      | none => none)
    let l := (fs.map (fun f => rows.filter (fun r => r.2.1 == f))).flatten
    (h, aggWords pass (count l) (distinct (fs.filterMap (fun f => (facetAt m f).map (·.1)))).length (parts l)))
  let s2 : State := { s1 with topo := { s1.topo with agg := some { tref := tref, facets := facs, hulls := hulls } } }
  (s2.setFld Reg.TOPO_STAT F.TOPO_STAT_AGGBUSY 1).kernelBoundary 7 s.ns

/-- AGGREGATION_PASS (R159). -/
def execAggregationPass (t : Nat) (eccRows : List Nat) (s : State) : Host.Outcome State Fault Refusal :=
  s.liveAt t (fun s =>
    if !s.flag Reg.TOPO_CTL F.TOPO_CTL_AGGEN || !s.latRuns || s.ns % (s.val Reg.TOPO_AGGINT % 65536 * 1000000) ≠ 0 then s
    else if s.topo.agg.isSome then (s.bump Reg.TOPO_AGGOVR).raise E.TOPO 3
    else s.startPass eccRows)

/-- The pass that runs is abandoned (R159). -/
def State.abandonPass (s : State) : State :=
  ({ s with topo := { s.topo with agg := none } }).setFld Reg.TOPO_STAT F.TOPO_STAT_AGGBUSY 0

/-- AGGREGATION_PASS_COMPLETE (R159): the copy that is not current is written and becomes current. -/
def State.endPass (s : State) (p : AggPass) : State :=
  let c := 1 - s.fld Reg.TOPO_STAT F.TOPO_STAT_AGGCUR
  let s1 := p.facets.foldl (fun (s : State) x => s.putDev (s.facBase + 0x100000 + c * 0x400000 + x.1 * 64) (words x.2)) s
  let s2 := p.hulls.foldl (fun (s : State) x =>
    s.setHull x.1 (if c = 0 then { s.hull x.1 with aggA := x.2 } else { s.hull x.1 with aggB := x.2 })) s1
  let pass := p.tref / 1000000 / (s.val Reg.TOPO_AGGINT % 65536) % 2 ^ 32
  let s3 := ((s2.abandonPass.setFld Reg.TOPO_STAT F.TOPO_STAT_AGGCUR c).setVal Reg.TOPO_AGGPASS pass).setVal Reg.TOPO_AGGTIME
    ((s.ns - p.tref) / 1000 % 2 ^ 20)
  let counts := p.facets.map (fun x => (x.1, x.2.getD 13 0, x.2.getD 2 0, x.2.getD 3 0))
  let pc : PassCounts :=
    { tref := p.tref, facets := counts.map (fun c => { fid := c.1, ntrip := c.2.1, nfresh := c.2.2.1, naged := c.2.2.2 }) }
  let s4 := if s.follows then s3 else { s3 with det := { s3.det with passes := (pc :: s3.det.passes).take 4 } }
  (s4.event 0x0D8 (pass % 65536)).sendDelta (.facetCounts p.tref counts)

def execAggregationPassComplete (t : Nat) (s : State) : Host.Outcome State Fault Refusal :=
  s.liveAt t (fun s =>
    match s.topo.agg with
    | none => s
    | some p => if s.latRuns then s.endPass p else s.abandonPass)

/-! ### Views (Table 07-10) -/

/-- CVAL as read. -/
def State.cval (s : State) : Nat :=
  match facetAt s.genFacets (s.val Reg.TOPO_CSEL % 65536) with
  | some (l, _, _) => l % 65536 + 2 ^ 31
  | none => 0

/-- CSIZE as read. -/
def State.csize (s : State) : Nat :=
  match facetAt s.genFacets (s.val Reg.TOPO_CSEL % 65536) with
  | some (l, _, _) => (s.genFacets.filter (fun p => (p.2.map (·.1)) == some l)).length
  | none => 0

/-- An AGEPk value is allowed: AGED from 1 up to STALE (R166). -/
def agepOk (v : Nat) : Bool := 1 ≤ v % 65536 && v % 65536 ≤ v / 65536

end Sys2Proof.Machine
end

