-- ==== Sys2Proof/Machine/Detect.lean ====
section
/-!
DEFINITION. The detector kernels: parameter banks, COHERE, and what ISLAND, STEP and SEP decide in a run (R167-R184). What verdicts
do to channels and records is in Verdicts.
-/
namespace Sys2Proof.Machine

/-! ### Banks (R183, R184) -/

def State.detBank (s : State) (b : Nat) : Bank := if b = 0 then s.det.bankA else s.det.bankB

def Bank.param (b : Bank) (a : Nat) : Nat := (tget resetOf b.params a).toNat

def Bank.fld (b : Bank) (a : Nat) (f : Fld) : Nat := f.of (tget resetOf b.params a)

/-- Tables of DET: 0 facet, 1 hull, 2 pair, 3 stream. -/
def Bank.entry (b : Bank) (table index : Nat) : List Nat := tget (fun _ => [0, 0, 0, 0]) b.entries (table * 2 ^ 20 + index)

/-- Indices of a table whose entries are not all 0, rising. -/
def Bank.listed (b : Bank) (table : Nat) : List Nat :=
  (b.entries.filter (fun p => p.1 / 2 ^ 20 == table)).map (fun p => p.1 % 2 ^ 20)

/-- A write taken by a bank. -/
def Bank.take (b : Bank) : BankWrite → Bank
  | .param a v => { b with params := tput resetOf b.params a (BitVec.ofNat 32 v) }
  | .entry t i ws => { b with entries := tput (fun _ => [0, 0, 0, 0]) b.entries (t * 2 ^ 20 + i) ws }

/-- DET's inactive bank takes a write. -/
def State.detInactive (s : State) (w : BankWrite) : State :=
  if s.lat.abank = 0 then { s with det := { s.det with bankB := s.det.bankB.take w } }
  else { s with det := { s.det with bankA := s.det.bankA.take w } }

/-- A write to the inactive bank: held while the bank copy runs, else taken and carried to the Standby (R183, R361). -/
def State.detWrite (s : State) (w : BankWrite) : State :=
  if s.flag Reg.DET_STAT F.DET_STAT_TBUSY then { s with det := { s.det with held := s.det.held ++ [w] } }
  else (s.detInactive w).sendDelta (.bank false w)

/-- A parameter register written (offsets 0x040-0x05C). -/
def State.writeDetParam (s : State) (a v : Nat) : State :=
  match findReg a with
  | none => s
  | some d =>
    if s.sys.mode = .shadow || !d.inRange false (BitVec.ofNat 32 v) then s.cfgErr E.DET
    else s.detWrite (.param a (d.merge false 0 (BitVec.ofNat 32 v)).toNat)

/-- The entry words that TVAL holds. -/
def State.tvals (s : State) (base : Nat) : List Nat := (List.range 4).map (fun j => s.val (base + 4 * j))

/-- Rows of a DET table. -/
def detTableSize : Nat → Nat
  | 0 => 65536
  | 1 => 64
  | 2 => 4096
  | _ => 8192

/-- The bits of an entry that its table defines (Table 08-7). -/
def detEntry (table : Nat) (w : List Nat) : List Nat :=
  let g := fun i => w.getD i 0
  match table with
  | 0 => [g 0 % 2 ^ 9, 0, 0, 0]
  | 1 => [g 0 % 2 ^ 20, g 1 % 2 ^ 14, 0, 0]
  | 2 => [g 0, bitsOf (g 1) 0 12 + bitsOf (g 1) 16 12 * 2 ^ 16, bitsOf (g 2) 0 16 + bitsOf (g 2) 16 12 * 2 ^ 16,
      bitsOf (g 3) 0 6 + bitAt (g 3) 31 * 2 ^ 31]
  | _ => [bitsOf (g 0) 0 9 + bitsOf (g 0) 16 6 * 2 ^ 16, 0, 0, 0]

/-- A TCMD WRITE (R184). -/
def State.detTcmdWrite (s : State) : State :=
  let t := s.val Reg.DET_TSEL % 4
  let i := bitsOf (s.val Reg.DET_TSEL) 4 16
  let w := detEntry t (s.tvals (Reg.DET_TVALj 0))
  let hi := bitsOf (w.getD 1 0) 0 12
  let lo := bitsOf (w.getD 1 0) 16 12
  if s.sys.mode = .shadow then s.cfgErr E.DET
  else if detTableSize t ≤ i || (t = 2 && (w.getD 0 0 % 65536 = w.getD 0 0 / 65536 || hi ≤ lo)) then s.raise E.DET 4
  else if t = 2 && (hi = 0 || 1800 < hi) then s.cfgErr E.DET
  else s.detWrite (.entry t i w)

/-- DET_TCMD_WRITE (R184). -/
def execDetTcmdWrite (req : Requester) (s : State) : Host.Outcome State Fault Refusal :=
  s.live (fun s => s.writeBy req Reg.DET_TCMD 1 State.detTcmdWrite)

/-- Four words put in TVAL. -/
def State.putTvals (s : State) (w : List Nat) : State :=
  (List.range 4).foldl (fun s j => s.setVal (Reg.DET_TVALj j) (w.getD j 0)) s

/-- A TCMD READ: the entry of the active bank goes to TVAL; in SHADOW it is refused like any TCMD write. -/
def State.detTcmdRead (s : State) : State :=
  if s.sys.mode = .shadow then s.cfgErr E.DET
  else
    let t := s.val Reg.DET_TSEL % 4
    s.putTvals ((s.detBank s.lat.abank).entry t (bitsOf (s.val Reg.DET_TSEL) 4 16))

/-- DET_TCMD_READ (R183). -/
def execDetTcmdRead (req : Requester) (s : State) : Host.Outcome State Fault Refusal :=
  s.live (fun s => s.writeBy req Reg.DET_TCMD 2 State.detTcmdRead)

/-! ### binary32 helpers (R168) -/

def f32sub := fmt32.sub
def f32le (a b : Nat) : Bool := fmt32.le a b

/-- wrap180: the value plus 360k that lies in (-180, 180]. -/
def wrap180 (x : Nat) : Nat :=
  if !fmt32.isFin x then fmt32.nan
  else
    let (n, d) := fmt32.toRat x
    let k : Int := -((n - 180 * (d : Int) + 360 * (d : Int) - 1) / (360 * (d : Int)))
    if k = 0 then x else fmt32.ofRat (n + 360 * k * (d : Int)) d

/-- An angle in degrees from a vector. -/
def atan2Deg (im re : Nat) : Nat :=
  let (a, b) := fmt32.toRat im
  let (c, d) := fmt32.toRat re
  fmt32.ofRat (180 * fxAtan2 (a * d) (c * b)) fxPi.toNat

/-- The magnitude of a vector. -/
def mag32 (re im : Nat) : Nat := fmt32.sqrt (fmt32.add (fmt32.mul re re) (fmt32.mul im im))

/-- Values in rising order. -/
def insert32 (x : Nat) : List Nat → List Nat
  | [] => [x]
  | y :: ys => if fmt32.lt x y then x :: y :: ys else y :: insert32 x ys

/-- The median; NaN of an empty list. -/
def median32 (l : List Nat) : Nat :=
  let s := l.foldl (fun r x => insert32 x r) []
  let n := s.length
  if n = 0 then fmt32.nan
  else if n % 2 = 1 then s.getD (n / 2) 0
  else fmt32.mul (fmt32.add (s.getD (n / 2 - 1) 0) (s.getD (n / 2) 0)) 0x3F000000

/-! ### COHERE (R167, R169, R170) -/

/-- A hull's settings in a bank. -/
def Bank.hullHen (b : Bank) (h : Nat) : Bool := bitAt ((b.entry 1 h).getD 0 0) 19 == 1
def Bank.hullClass (b : Bank) (h : Nat) : Nat := bitsOf ((b.entry 1 h).getD 0 0) 16 3
def Bank.refFid (b : Bank) (h : Nat) : Nat := (b.entry 1 h).getD 0 0 % 65536

/-- Nominal frequency of a hull in Hz. -/
def State.fnom (s : State) (h : Nat) : Nat := if (s.hull h).f60 then 60 else 50

/-- A member of a snapshot as a usable stream of hull `h`, if it is one (R167). -/
def State.usable (s : State) (b : Bank) (m : FacetMap) (h v : Nat) (f : Slot) : Option Usable :=
  let fid := s.rowFid v
  let inHull := match facetAt m fid with
    | some (_, hid, insvc) => insvc && hid == h
    | none => false
  let band := fmt32.ofRat (b.fld Reg.DET_FBAND ⟨0, 11⟩) 100
  if f.invalid || (f.test && s.sys.mode ≠ .test) || !inHull || !fmt32.isFin f.freq ||
      !f32le (fmt32.abs (f32sub f.freq (fmt32.ofInt (s.fnom h)))) band then none
  else
    let e := (b.entry 3 v).getD 0 0
    let (re, im) := f.phasors.getD (e % 32) (0, 0)
    let ang := bitAt e 5 = 1 && !f.unsync && e % 32 < f.phasors.length && fmt32.isFin re && fmt32.isFin im &&
      !(f32Zero re && f32Zero im)
    some { vid := v, fid := fid, freq := f.freq, dfreq := f.dfreq,
           angle := if ang then some (atan2Deg im re, mag32 re im) else none }

/-- delta of a stream in the final release `k` earlier than SEQ. -/
def State.deltaBefore (s : State) (n seq k v : Nat) : Option Nat :=
  match (tget (fun _ => []) s.det.deltas n).find? (fun p => (p.seq + k) % 2 ^ 32 == seq) with
  | some p => (p.ds.find? (·.1 == v)).map (·.2)
  | none => none

/-- Whether a stream joins a group by its leader. -/
def joins (cf cd : Nat) (a leader : Usable) : Bool :=
  f32le (fmt32.abs (f32sub a.freq leader.freq)) cf &&
    (match a.d, leader.d with
      | some x, some y => f32le (fmt32.abs (f32sub x y)) cd
      | _, _ => true)

/-- Leader clustering in ascending VID. -/
def cluster (cf cd : Nat) (us : List Usable) : List (Usable × List Nat) :=
  us.foldl (fun (gs : List (Usable × List Nat)) u =>
    match gs.findIdx? (fun g => joins cf cd u g.1) with
    | some i => gs.modify i (fun g => (g.1, g.2 ++ [u.vid]))
    | none => gs ++ [(u, [u.vid])]) []

/-- The group with most streams, ties to the lower leader. -/
def biggest (gs : List (Nat × List Nat)) : Option Nat :=
  (gs.foldl (fun (b : Option (Nat × Nat)) g =>
    match b with
    | none => some (g.1, g.2.length)
    | some (l, n) => if n < g.2.length || (n = g.2.length && g.1 < l) then some (g.1, g.2.length) else some (l, n)) none).map (·.1)

/-- One hull of a run. -/
def State.cohereHull (s : State) (r : DetRun) (b : Bank) (m : FacetMap) (h : Nat) : HullRun × Bool :=
  let us := r.snap.present.filterMap (fun p => s.usable b m h p.1 p.2)
  let refs := us.filter (fun u => u.angle.isSome)
  let hw := (b.entry 1 h).getD 1 0
  let named := if bitAt hw 13 = 1 then refs.find? (fun u => u.vid == hw % 8192) else none
  let ref := match named with
    | some u => some u
    | none => refs.find? (fun u => u.fid == b.refFid h)
  let cwin := b.fld Reg.DET_CWIN ⟨0, 5⟩
  let us1 := us.map (fun u =>
    let delta := match ref, u.angle with
      | some x, some (a, _) => x.angle.map (fun y => wrap180 (f32sub a y.1))
      | _, _ => none
    let d := match delta, s.deltaBefore r.sc r.snap.seq cwin u.vid with
      | some x, some y => some (wrap180 (f32sub x y))
      | _, _ => none
    { u with
      delta := delta
      d := d })
  let gs := (cluster (fmt32.ofRat (b.fld Reg.DET_CFTOL ⟨0, 13⟩) 1000) (fmt32.ofRat (b.fld Reg.DET_CDTOL ⟨0, 11⟩) 10) us1).map
    (fun g => (g.1.vid, g.2))
  let main := match ref with
    | some x => (gs.find? (fun g => g.2.contains x.vid)).map (·.1)
    | none => biggest gs
  ({ hid := h, streams := us1, groups := gs, main := main }, ref.isNone)

/-- The hulls of a class in a bank. -/
def State.classHulls (s : State) (b : Bank) (n : Nat) : List Nat :=
  (List.range 64).filter (fun h => (s.hull h).valid && b.hullHen h && b.hullClass h == n)

/-- The histories of a class dropped (R182). -/
def State.dropHistory (s : State) (n : Nat) : State :=
  { s with det := { s.det with
    deltas := tput (fun _ => []) s.det.deltas n []
    steps := tput (fun _ => none) s.det.steps n none } }

/-- Histories dropped when a final release does not follow the one before it by one (R182). -/
def State.checkSeq (s : State) (n seq : Nat) : State :=
  match tget (fun _ => []) s.det.deltas n with
  | [] => s
  | p :: _ => if (p.seq + 1) % 2 ^ 32 = seq then s else s.dropHistory n

/-- COHERE done for a run (R169-R171); a final run's deltas join the history. -/
def State.cohere (s0 : State) (r : DetRun) : State × List HullRun :=
  let s := if r.prov then s0 else s0.checkSeq r.sc r.snap.seq
  let b := s.detBank r.bank
  let (m, old) := s.genAt r.snap.inst
  let hs := (s.classHulls b r.sc).map (s.cohereHull r b m)
  let s1 := hs.foldl (fun (s : State) h => if h.2 then (s.bump Reg.DET_NOREF).raise E.DET 2 else s) s
  let s2 := if old then s1.raise E.TOPO 2 else s1
  let ds := (hs.map (fun h => h.1.streams.filterMap (fun u => u.delta.map (fun d => (u.vid, d))))).flatten
  let s3 := if r.prov then s2
    else { s2 with det := { s2.det with
      deltas := tput (fun _ => []) s2.det.deltas r.sc (({ seq := r.snap.seq, ds := ds } :: tget (fun _ => []) s2.det.deltas r.sc).take 16) } }
  (s3, hs.map (·.1))

/-- The first run of a class and kind whose COHERE is still to come changed by `f`. -/
def modRun (n : Nat) (prov : Bool) (f : DetRun → DetRun) : List DetRun → List DetRun
  | [] => []
  | r :: rs => if r.sc = n && r.prov = prov && r.cohere.isNone then f r :: rs else r :: modRun n prov f rs

/-- COHERE_COMPLETE (R171). -/
def execCohereComplete (t sc : Nat) (prov : Bool) (s : State) : Host.Outcome State Fault Refusal :=
  s.liveAt t (fun s =>
    match s.det.runs.find? (fun r => r.sc == sc && r.prov == prov && r.cohere.isNone) with
    | none => s
    | some r =>
      let (s1, hs) := s.cohere r
      { s1 with det := { s1.det with runs := modRun sc prov (fun r => { r with cohere := some hs }) s1.det.runs } })

/-! ### ISLAND (R172-R175) -/

def State.subj (s : State) (det x : Nat) : SubjState := tget (fun _ => {}) s.det.subjects (det * 2 ^ 20 + x)

def State.setSubj (s : State) (det x : Nat) (j : SubjState) : State :=
  { s with det := { s.det with subjects := tput (fun _ => {}) s.det.subjects (det * 2 ^ 20 + x) j } }

/-- What a run decides of one subject: its state after a final run, and a verdict. -/
structure Decision where
  det : Nat
  subject : Nat
  next : SubjState
  verdict : Option Verdict
  nodata : Bool
  deriving DecidableEq, Repr

/-- NTRIP, NFRESH and NAGED of a facet from the pass of R173; none when that pass is not held. -/
def State.passCounts (s : State) (inst fid : Nat) : Option (Nat × Nat × Nat) :=
  let a := s.val Reg.TOPO_AGGINT % 65536 * 1000000
  let tref := inst / a * a - a
  (s.det.passes.find? (·.tref == tref)).map (fun p =>
    ((p.facets.find? (·.fid == fid)).map (fun c => (c.ntrip, c.nfresh, c.naged))).getD (0, 0, 0))

/-- One facet judged on a run (R172-R175). -/
def State.island (s : State) (r : DetRun) (b : Bank) (m : FacetMap) (h : HullRun) (f : Nat) : Decision :=
  let e := (b.entry 0 f).getD 0 0
  let mode := bitsOf e 1 2
  let alc := bitsOf e 3 6
  let lab := fun x => (facetAt m x).map (·.1)
  let t := match lab f, lab (b.refFid h.hid) with
    | some x, some y => x != y
    | _, _ => false
  let u := h.streams.filter (fun u => u.fid == f)
  let obs := b.fld Reg.DET_ICFG ⟨16, 8⟩ ≤ u.length
  let mainSet := ((h.groups.find? (fun g => some g.1 == h.main)).map (·.2)).getD []
  let el := obs && u.length < 2 * (u.filter (fun x => !mainSet.contains x.vid)).length
  let (ntrip, nfresh, naged) := (s.passCounts r.snap.inst f).getD (0, 0, 0)
  let n := nfresh + naged
  let vok := (s.passCounts r.snap.inst f).isSome && b.fld Reg.DET_VTRIP ⟨16, 16⟩ ≤ n
  let v := vok && b.fld Reg.DET_VTRIP ⟨0, 7⟩ * n ≤ 100 * ntrip
  let nodata := mode ≠ 2 && !obs && !vok
  let ev := match mode with
    | 0 => t && (el || (!obs && v))
    | 1 => el || (!obs && v)
    | 2 => t
    | _ => t || el || v
  let j := s.subj 1 f
  let ff := median32 (u.map (·.freq))
  let fm := median32 ((h.streams.filter (fun x => mainSet.contains x.vid)).map (·.freq))
  let lead := (biggest (h.groups.map (fun g => (g.1, g.2.filter (fun x => u.any (·.vid == x)))))).getD 0
  let attrs := [(lab f).getD 0 + bit t 16 + bit el 17 + bit v 18 + bit obs 19, ff, f32sub ff fm, median32 (u.map (·.dfreq)),
    (if u.isEmpty then 0 else lead % 2 ^ 13) + u.length % 2 ^ 16 * 2 ^ 16]
  let mk := fun (act : Bool) (cause : Nat) =>
    some ({ det := 1, subject := f, active := act, cause := cause, restep := false, alc := alc, attrs := attrs } : Verdict)
  let clr := b.fld Reg.DET_CLRCFG ⟨8, 8⟩
  if nodata then
    let nd := j.nodata + 1
    let c := j.active && clr ≤ nd
    { det := 1, subject := f, next := { j with active := j.active && !c, sc := r.sc, alc := alc, nodata := nd },
      verdict := if c then mk false 2 else none, nodata := true }
  else if ev then
    let up := !j.active && b.fld Reg.DET_ICFG ⟨0, 4⟩ ≤ j.ev + 1
    { det := 1, subject := f, next := { active := j.active || up, sc := r.sc, alc := alc, ev := j.ev + 1, quiet := 0, nodata := 0 },
      verdict := if up then mk true 0 else none, nodata := false }
  else
    let c := j.active && b.fld Reg.DET_ICFG ⟨8, 8⟩ ≤ j.quiet + 1
    { det := 1, subject := f, next := { active := j.active && !c, sc := r.sc, alc := alc, ev := 0, quiet := j.quiet + 1, nodata := 0 },
      verdict := if c then mk false 1 else none, nodata := false }

/-- A verdict cleared because its hull's class or enable changed (R182). -/
def orphan (s : State) (det x : Nat) (attrs : List Nat) : Decision :=
  let j := s.subj det x
  { det := det, subject := x, next := { j with active := false, ev := 0, quiet := 0, nodata := 0 }, nodata := false,
    verdict := some { det := det, subject := x, active := false, cause := 2, restep := false, alc := j.alc, attrs := attrs } }

/-- Active subjects of a detector judged on a class. -/
def State.activeOn (s : State) (det n : Nat) : List Nat :=
  (s.det.subjects.filter (fun p => p.1 / 2 ^ 20 == det && p.2.active && p.2.sc == n)).map (fun p => p.1 % 2 ^ 20)

/-- ISLAND on a run, facets ascending. -/
def State.islandRun (s : State) (r : DetRun) (b : Bank) (m : FacetMap) (hs : List HullRun) : List Decision :=
  let fs := (b.listed 0).filter (fun f => bitAt ((b.entry 0 f).getD 0 0) 0 == 1)
  let judged := fs.filterMap (fun f =>
    match facetAt m f with
    | some (_, hid, true) => (hs.find? (fun h => h.hid == hid)).map (fun h => s.island r b m h f)
    | _ => none)
  let lost := if r.prov then []
    else (s.activeOn 1 r.sc).filter (fun f => match facetAt m f with
      | some (_, hid, _) => !(b.hullHen hid && b.hullClass hid == r.sc)
      | none => false)
  judged ++ lost.map (fun f => orphan s 1 f [((facetAt m f).map (·.1)).getD 0, fmt32.nan, fmt32.nan, fmt32.nan, 0])

/-! ### STEP (R176) -/

/-- The period 1 / RATE. -/
def State.period (s : State) (n : Nat) : Nat := fmt32.div f32One (fmt32.ofInt (s.rate n))

/-- Angle-usable streams of a run's snapshot, by any hull of its class, or of any class for STEP (R167 read with R176). -/
def State.angleUsable (s : State) (r : DetRun) (b : Bank) (m : FacetMap) : List Usable :=
  r.snap.present.filterMap (fun p =>
    match facetAt m (s.rowFid p.1) with
    | some (_, hid, true) =>
      if (s.hull hid).valid && b.hullHen hid && b.hullClass hid == r.sc then
        (s.usable b m hid p.1 p.2).bind (fun u => if u.angle.isSome then some u else none)
      else none
    | _ => none)

/-- One stream examined, or counted as a run without a step (R176). -/
def State.step1 (s : State) (r : DetRun) (b : Bank) (us : List Usable) (v : Nat) : Decision :=
  let e := (b.entry 3 v).getD 0 0
  let j := s.subj 2 v
  let alc := bitsOf e 16 6
  let prev : Option AngRec := match tget (fun _ => none) s.det.steps r.sc with
    | some p => if (p.seq + 1) % 2 ^ 32 = r.snap.seq then p.us.find? (·.vid == v) else none
    | none => none
  let seen := match us.find? (·.vid == v), prev with
    | some u, some p => u.angle.map (fun a => (u, a, p))
    | _, _ => none
  let hold := b.fld Reg.DET_CLRCFG ⟨16, 16⟩
  let quietRun := fun (attrs : List Nat) =>
    let c := j.active && hold ≤ j.quiet + 1
    ({ det := 2, subject := v, next := { j with active := j.active && !c, sc := r.sc, quiet := j.quiet + 1 }, nodata := false,
       verdict := if c then some { det := 2, subject := v, active := false, cause := 1, restep := false, alc := j.alc, attrs := attrs }
         else none } : Decision)
  match seen with
  | none => quietRun [fmt32.nan, fmt32.nan, fmt32.nan, fmt32.nan, 0]
  | some (u, (th, mg), p) =>
    let hid := s.facHid u.fid
    let mean := fmt32.div (fmt32.add u.freq p.freq) 0x40000000
    let dev := f32sub mean (fmt32.ofInt (s.fnom hid))
    let pred := fmt32.add p.angle (fmt32.mul (fmt32.mul (fmt32.ofInt 360) dev) (s.period r.sc))
    let jump := wrap180 (f32sub th pred)
    let vnom := s.facWord u.fid 2
    let dv := if f32Zero vnom then fmt32.nan else fmt32.div (f32sub mg p.mag) vnom
    let pj := bitAt e 7 = 1 && f32le (fmt32.ofRat (b.fld Reg.DET_STEPCFG ⟨0, 12⟩) 10) (fmt32.abs jump)
    let vs := bitAt e 8 = 1 && f32le (fmt32.ofRat (b.fld Reg.DET_STEPCFG ⟨16, 10⟩) 1000) (fmt32.abs dv)
    let attrs := [jump, dv, th, u.freq, bit pj 0 + bit vs 1]
    if pj || vs then
      { det := 2, subject := v, next := { j with active := true, sc := r.sc, alc := alc, quiet := 0 }, nodata := false,
        verdict := some { det := 2, subject := v, active := true, cause := 0, restep := j.active, alc := alc, attrs := attrs } }
    else quietRun attrs

/-- STEP on a run, streams ascending: those with STEPEN among the members, and those still active on the class. -/
def State.stepRun (s : State) (r : DetRun) (b : Bank) (us : List Usable) : List Decision :=
  if bitAt (s.val (Reg.DET_SCnDET r.sc)) 0 = 0 then []
  else
    let vs := (s.activeOn 2 r.sc).foldl (fun l v => insertVid v l)
      (r.snap.members.filter (fun v => bitAt ((b.entry 3 v).getD 0 0) 6 == 1))
    vs.map (s.step1 r b us)

/-! ### SEP (R177) -/

/-- cos and sin of an angle in degrees, binary32. -/
def cosSinDeg (x : Nat) : Nat × Nat :=
  let (n, d) := fmt32.toRat x
  let (sn, cs) := fxSinCos (n * fxPi / (180 * (d : Int)))
  (fxTo32 cs, fxTo32 sn)

/-- phi of a facet. -/
def facetPhi (us : List Usable) : Nat :=
  let l := us.filterMap (fun u => u.angle.map (fun a => cosSinDeg a.1))
  atan2Deg (sum32 (l.map (fun p => some p.2))) (sum32 (l.map (fun p => some p.1)))

/-- One pair judged on a run; with it its sep when it was evaluated. -/
def State.sep1 (s : State) (r : DetRun) (b : Bank) (m : FacetMap) (us : List Usable) (p : Nat) : Decision × Option Nat :=
  let e := b.entry 2 p
  let fa := e.getD 0 0 % 65536
  let fb := e.getD 0 0 / 65536
  let alc := bitsOf (e.getD 3 0) 0 6
  let ua := us.filter (fun u => u.fid == fa)
  let ub := us.filter (fun u => u.fid == fb)
  let need := b.fld Reg.DET_ICFG ⟨16, 8⟩
  let sameClass := match facetAt m fb with
    | some (_, hid, _) => b.hullClass hid == r.sc
    | none => false
  let j := s.subj 3 p
  if !sameClass || ua.length < need || ub.length < need then
    let nd := j.nodata + 1
    let c := j.active && b.fld Reg.DET_CLRCFG ⟨8, 8⟩ ≤ nd
    let attrs := [fmt32.nan, fmt32.nan, fa + fb * 65536, ua.length + ub.length * 65536, 0]
    let v : Verdict := { det := 3, subject := p, active := false, cause := 2, restep := false, alc := j.alc, attrs := attrs }
    ({ det := 3, subject := p, next := { j with active := j.active && !c, sc := r.sc, quiet := 0, nodata := nd }, nodata := true,
       verdict := if c then some v else none }, none)
  else
    let sep := wrap180 (f32sub (facetPhi ub) (facetPhi ua))
    let prev := match tget (fun _ => none) s.det.seps p with
      | some (q, x) => if (q + 1) % 2 ^ 32 = r.snap.seq then some x else none
      | none => none
    let rate := prev.map (fun x => fmt32.mul (wrap180 (f32sub sep x)) (fmt32.ofInt (s.rate r.sc)))
    let tenth := fun (x : Nat) => fmt32.ofRat x 10
    let asep := fmt32.abs sep
    let angleRule := f32le (tenth (bitsOf (e.getD 1 0) 0 12)) asep
    let srate := bitsOf (e.getD 2 0) 0 16
    let rateRule := match rate with
      | some x => srate ≠ 0 && f32le (tenth (bitsOf (e.getD 2 0) 16 12)) asep && f32le (tenth srate) (fmt32.abs x) &&
          !f32Zero x && !f32Zero sep && x / 2 ^ 31 == sep / 2 ^ 31
      | none => false
    let hi := angleRule || rateRule
    let low := f32le asep (tenth (bitsOf (e.getD 1 0) 16 12))
    let q := if low then j.quiet + 1 else 0
    let c := j.active && low && b.fld Reg.DET_CLRCFG ⟨0, 8⟩ ≤ q
    let up := !j.active && hi
    let attrs := [sep, rate.getD fmt32.nan, fa + fb * 65536, ua.length + ub.length * 65536, bit angleRule 0 + bit rateRule 1]
    let mk := fun (act : Bool) (cause : Nat) =>
      some ({ det := 3, subject := p, active := act, cause := cause, restep := false, alc := alc, attrs := attrs } : Verdict)
    let nx : SubjState := { active := (j.active && !c) || up, sc := r.sc, alc := alc, ev := 0, quiet := q, nodata := 0 }
    ({ det := 3, subject := p, next := nx,
       verdict := if up then mk true 0 else if c then mk false 1 else none, nodata := false }, some sep)

/-- SEP on a run, pairs ascending: the decisions, and the sep of each pair evaluated. -/
def State.sepRun (s : State) (r : DetRun) (b : Bank) (m : FacetMap) (us : List Usable) : List (Decision × Option Nat) :=
  let cls := fun p => match facetAt m ((b.entry 2 p).getD 0 0 % 65536) with
    | some (_, hid, _) => if b.hullHen hid then some (b.hullClass hid) else none
    | none => none
  let ps := (b.listed 2).filter (fun p => bitAt ((b.entry 2 p).getD 3 0) 31 == 1 && cls p == some r.sc)
  let lost := if r.prov then [] else (s.activeOn 3 r.sc).filter (fun p => bitAt ((b.entry 2 p).getD 3 0) 31 == 1 && cls p != some r.sc)
  ps.map (s.sep1 r b m us) ++ lost.map (fun p =>
    (orphan s 3 p [fmt32.nan, fmt32.nan, (b.entry 2 p).getD 0 0, 0, 0], none))

/-! ### A whole run -/

/-- Whether a detector (1 ISLAND, 2 STEP, 3 SEP) runs on a release: CTL, and on a provisional one SCnPCFG (R132). -/
def State.detOn (s : State) (det : Nat) (r : DetRun) : Bool :=
  bitAt (s.val Reg.DET_CTL) (det - 1) == 1 && (!r.prov || bitAt (s.val (Reg.SNAP_SCnPCFG r.sc)) (det - 1) == 1)

/-- What a run decides, in order of detector and subject, and the sep of the pairs evaluated. -/
def State.runDecisions (s : State) (r : DetRun) : List Decision × List (Nat × Nat) :=
  let b := s.detBank r.bank
  let m := (s.genAt r.snap.inst).1
  let us := s.angleUsable r b m
  let isl := if s.detOn 1 r then s.islandRun r b m (r.cohere.getD []) else []
  let stp := if s.detOn 2 r then s.stepRun r b us else []
  let sep := if s.detOn 3 r then s.sepRun r b m us else []
  (isl ++ stp ++ sep.map (·.1), sep.filterMap (fun x => x.2.map (fun y => (x.1.subject, y))))

/-- A final run's states kept: subjects, the previous values of STEP and SEP (R133). -/
def State.keepRun (s : State) (r : DetRun) (ds : List Decision) (seps : List (Nat × Nat)) : State :=
  let b := s.detBank r.bank
  let us := s.angleUsable r b (s.genAt r.snap.inst).1
  let s1 := ds.foldl (fun (s : State) d => s.setSubj d.det d.subject d.next) s
  let prev := us.filterMap (fun u => u.angle.map (fun a => ({ vid := u.vid, angle := a.1, freq := u.freq, mag := a.2 } : AngRec)))
  { s1 with det := { s1.det with
    steps := tput (fun _ => none) s1.det.steps r.sc (some { seq := r.snap.seq, us := prev })
    seps := seps.foldl (fun t p => tput (fun _ => none) t p.1 (some (r.snap.seq, p.2))) s1.det.seps } }

end Sys2Proof.Machine
end

