-- ==== Sys2Proof/Machine/Dispatcher.lean ====
section
/-!
DEFINITION. The dispatcher: R329-R334, R343.
-/
namespace Sys2Proof.Machine

def State.task (s : State) (n : Nat) : Task := tget (fun _ => {}) s.tsk.tasks n

def State.setTask (s : State) (n : Nat) (t : Task) : State :=
  { s with tsk := { s.tsk with tasks := tput (fun _ => {}) s.tsk.tasks n t } }

def Task.prio (t : Task) : Nat := bitsOf t.dval1 8 5

/-- The atomic flow a task belongs to. -/
def Task.flow (t : Task) : Option Nat := if bitAt t.dval1 24 = 1 then some (bitsOf t.dval1 16 8) else none

def State.level (s : State) (p : Nat) : List Nat := tget (fun _ => []) s.tsk.levels p

def State.setLevel (s : State) (p : Nat) (l : List Nat) : State :=
  { s with tsk := { s.tsk with levels := tput (fun _ => []) s.tsk.levels p l } }

/-- The task a core runs. -/
def State.runOf (s : State) (k : Nat) : Option Nat := tget (fun _ => none) s.tsk.runs k

def State.setRun (s : State) (k : Nat) (t : Option Nat) : State :=
  { s with tsk := { s.tsk with runs := tput (fun _ => none) s.tsk.runs k t } }

/-- A flow is busy while one of its tasks is RUNNING (R331). -/
def State.flowBusy (s : State) (t : Task) : Bool :=
  match t.flow with
  | none => false
  | some f => (List.range 8).any (fun k => match s.runOf k with
      | some n => (s.task n).flow == some f
      | none => false)

/-- Whether task `n` belongs to the customer partition (R329). -/
def custTask (n : Nat) : Bool := 3584 ≤ n

/-- Whether a requester may act on a task: customer cores on customer tasks only (R329). -/
def taskAllowed (req : Requester) (n : Nat) : Bool :=
  match req with
  | .core k => if 6 ≤ k then custTask n else true
  | _ => true

/-- The preempt line that a newly READY task asserts (R332): an idle core that may run it, else the core that runs the task of
lowest priority among them, if that priority is strictly lower. -/
def State.preemptFor (s : State) (n : Nat) : State :=
  if !s.flag Reg.TSK_CTL F.TSK_CTL_EN then s
  else
    let t := s.task n
    let may := (List.range 8).filter (fun k => bitAt t.cores k = 1)
    let pick :=
      match may.find? (fun k => (s.core k).idle || (s.runOf k).isNone) with
      | some k => some k
      | none =>
        (may.foldl (fun (best : Option (Nat × Nat)) k =>
          let p := match s.runOf k with
            | some m => (s.task m).prio
            | none => 0
          match best with
          | none => if t.prio < p then some (k, p) else none
          | some (_, bp) => if bp < p then some (k, p) else best) none).map (·.1)
    match pick with
    | none => s
    | some k =>
      if (s.core k).preempt then s
      else (s.setCore k { s.core k with preempt := true }).bump Reg.TSK_PREEMPTS

/-- A core's preempt line is cleared by its next NEXT, YIELD or DONE (R332). -/
def State.clearPreempt (s : State) (k : Nat) : State := s.setCore k { s.core k with preempt := false }

/-- A task becomes READY at the tail of its level, or at its head. -/
def State.makeReady (s : State) (n : Nat) (atHead : Bool) : State :=
  let t := s.task n
  let l := s.level t.prio
  ((s.setTask n { t with state := .ready }).setLevel t.prio (if atHead then n :: l else l ++ [n])).preemptFor n

/-- A task leaves the ready level and the delay list. -/
def State.unqueue (s : State) (n : Nat) : State :=
  let t := s.task n
  let s1 := s.setLevel t.prio ((s.level t.prio).filter (· ≠ n))
  { s1 with tsk := { s1.tsk with delays := s1.tsk.delays.filter (·.1 ≠ n) } }

/-- TSK.READY (Table 16-3). -/
def State.tskReady (s : State) (n : Nat) : State :=
  let t := s.task n
  match t.state with
  | .idle => s.makeReady n false
  | .running => s.setTask n { t with rerun := true }
  | .ready => s
  | .delayed => s

/-- TSK.DELAY: the delay list, at expiry TICK + count. A count of 0 is outside the field's range. -/
def State.tskDelay (s : State) (n count : Nat) : State :=
  if count = 0 then s.cfgErr E.TSK
  else
    let t := s.task n
    match t.state with
    | .idle =>
      let s1 := s.setTask n { t with state := .delayed }
      { s1 with tsk := { s1.tsk with delays := s1.tsk.delays ++ [(n, (s1.tsk.tick + count) % 2 ^ 32)] } }
    | .running => s
    | .ready => s
    | .delayed => s

/-- TSK.CANCEL (Table 16-3). -/
def State.tskCancel (s : State) (n : Nat) : State :=
  let t := s.task n
  match t.state with
  | .idle => s
  | .running => s.setTask n { t with rerun := false }
  | .ready => (s.unqueue n).setTask n { t with state := .idle }
  | .delayed => (s.unqueue n).setTask n { t with state := .idle }

/-- The core a requester is, if it is one. -/
def reqCore : Requester → Option Nat
  | .core k => some k
  | _ => none

/-- TSK.DONE and TSK.YIELD need the core that runs the task (R330); `cancelled` when a CANCEL of the same cycle wins. -/
def State.tskDone (s : State) (req : Requester) (n : Nat) (yield cancelled : Bool) : State :=
  match reqCore req with
  | none => s.raise E.TSK 3
  | some k =>
    if s.runOf k ≠ some n then s.raise E.TSK 3
    else
      let t := s.task n
      let s1 := (s.setRun k none).clearPreempt k
      if yield then (s1.makeReady n true)
      else if t.rerun && !cancelled then (s1.setTask n { t with rerun := false }).makeReady n false
      else s1.setTask n { t with state := .idle, rerun := false }

/-- READY tasks in the order NEXT looks at them: ascending priority number, then queue order (R331). -/
def State.readyOrder (s : State) : List Nat := ((List.range 32).map s.level).flatten

/-- TSK.NEXT: the word read, and the task bound to the requesting core (R331). -/
def State.tskNext (s : State) (req : Requester) : State :=
  match reqCore req with
  | none => s.answer [0]
  | some k =>
    let s0 := s.clearPreempt k
    let order := s0.readyOrder.filter (fun n => bitAt (s0.task n).cores k = 1)
    match (if s0.flag Reg.TSK_CTL F.TSK_CTL_EN then order.find? (fun n => !s0.flowBusy (s0.task n)) else none) with
    | none =>
      let passed := if s0.flag Reg.TSK_CTL F.TSK_CTL_EN then order.length else 0
      ((s0.setCore k { s0.core k with idle := true }).bumpBy Reg.TSK_FLOWWAIT passed).answer [0]
    | some n =>
      let t := s0.task n
      let passed := (order.takeWhile (· ≠ n)).length
      let s1 := ((s0.unqueue n).setTask n { t with state := .running }).setRun k (some n)
      let s2 := s1.setCore k { s1.core k with idle := false }
      let s3 := { s2 with tsk := { s2.tsk with
        nextLatch := tput (fun _ => (0, 0, 0)) s2.tsk.nextLatch (latchKey req) (t.entryLo, bitsOf t.dval1 0 8, t.arg) } }
      ((s3.bump Reg.TSK_DISPATCHED).bumpBy Reg.TSK_FLOWWAIT passed).answer [n + 2 ^ 31]

/-- Whether an expiry is reached by the tick: signed difference on 32 bits (R334). -/
def reached (tick expiry : Nat) : Bool := (tick + 2 ^ 32 - expiry) % 2 ^ 32 < 2 ^ 31

/-- Expired delays in expiry order, equal expiries in the order their DELAY was taken. -/
def State.expired (s : State) : List (Nat × Nat) :=
  let due := s.tsk.delays.filter (fun d => reached s.tsk.tick d.2)
  due.foldl (fun acc d =>
    acc.takeWhile (fun x => reached d.2 x.2) ++ [d] ++ acc.dropWhile (fun x => reached d.2 x.2)) []

/-- TICK advances by `n` in one cycle and releases every task whose expiry it passes (R334). -/
def State.tskTick (s : State) (n : Nat) : State :=
  if n = 0 then s
  else
    let s1 := { s with tsk := { s.tsk with tick := (s.tsk.tick + n) % 2 ^ 32 } }
    let s2 := if 1 < n then (s1.bumpBy Reg.TSK_TICKLATE (n - 1)).raise E.TSK 1 else s1
    s2.expired.foldl (fun s d =>
      ({ s with tsk := { s.tsk with delays := s.tsk.delays.filter (·.1 ≠ d.1) } }).makeReady d.1 false) s2

/-- The task number of a TSK operation, checked against the partition (R329). -/
def State.onTask (s : State) (req : Requester) (v : Nat) (f : Nat → State → State) : State :=
  let n := v % 4096
  if taskAllowed req n then f n s else s.raise E.TSK 2

/-- One operation of a NOC cycle (R333), by its step: 2 READY and DELAY, 4 DONE and YIELD, 5 NEXT. -/
def State.tskOp (s : State) (step cancelled : Nat) (o : TskOp) : State :=
  match o with
  | .ready req v => if step = 2 then s.onTask req v (fun n s => s.tskReady n) else s
  | .delay req v => if step = 2 then s.onTask req v (fun n s => s.tskDelay n (v / 4096)) else s
  | .done req v => if step = 4 then s.onTask req v (fun n s => s.tskDone req n false (n == cancelled)) else s
  | .yield req v => if step = 4 then s.onTask req v (fun n s => s.tskDone req n true false) else s
  | .next req => if step = 5 then s.tskNext req else s

/-- NEXTs of one cycle come in ascending core number (R333). -/
def nextFirst (os : List TskOp) : List TskOp :=
  ((List.range 8).map (fun k => os.filter (fun o => o == .next (.core k)))).flatten ++
    os.filter (fun o => match o with
      | .next (.core k) => 8 ≤ k
      | .next _ => true
      | _ => false)

/-! ### The commands -/

/-- TSK.READY written (R330, R332). -/
def execReady (req : Requester) (value : Nat) (s : State) : Host.Outcome State Fault Refusal :=
  s.live (fun s => s.writeBy req Reg.TSK_READY value (fun s => s.onTask req value (fun n s => s.tskReady n)))

/-- TSK.DELAY written (R330, R334). -/
def execDelay (req : Requester) (value : Nat) (s : State) : Host.Outcome State Fault Refusal :=
  s.live (fun s => s.writeBy req Reg.TSK_DELAY value (fun s => s.onTask req value (fun n s => s.tskDelay n (value / 4096 % 2 ^ 20))))

/-- Whether the task would be dispatched or queued again but for the CANCEL: it became READY in this cycle (R333). -/
def State.cancelRaces (s0 s1 : State) (n : Nat) (others : List TskOp) : Bool :=
  ((s0.task n).state ≠ .ready && (s1.task n).state == .ready) ||
  ((s0.task n).state == .idle && (s1.task n).state == .delayed) ||
  ((s1.task n).state == .running && (s1.task n).rerun && others.any (fun o => match o with
    | .done _ v => v % 4096 == n
    | _ => false))

/-- TSK.CANCEL written, with whatever else its NOC cycle brings, in the order of R333: expiries, READY and DELAY, CANCEL, DONE and
YIELD, NEXT. -/
def execCancel (req : Requester) (value ticks : Nat) (others : List TskOp) (s : State) :
    Host.Outcome State Fault Refusal :=
  s.live (fun s => s.writeBy req Reg.TSK_CANCEL value (fun s0 =>
    let s1 := others.foldl (fun s o => s.tskOp 2 4096 o) (s0.tskTick ticks)
    let n := value % 4096
    let s2 := s1.onTask req value (fun n s => s.tskCancel n)
    let s3 := if taskAllowed req n && s0.cancelRaces s1 n others then s2.bump Reg.TSK_RACECNT else s2
    let s4 := others.foldl (fun s o => s.tskOp 4 n o) s3
    (nextFirst others).foldl (fun s o => s.tskOp 5 4096 o) s4))

/-- TSK.NEXT read (R331). -/
def execNext (req : Requester) (s : State) : Host.Outcome State Fault Refusal :=
  s.live (fun s => s.readBy req Reg.TSK_NEXT (fun s => s.tskNext req))

/-- TSK.DONE written (R330). -/
def execDone (req : Requester) (value : Nat) (s : State) : Host.Outcome State Fault Refusal :=
  s.live (fun s => s.writeBy req Reg.TSK_DONE value (fun s => s.onTask req value (fun n s => s.tskDone req n false false)))

/-- TSK.YIELD written (R330). -/
def execYield (req : Requester) (value : Nat) (s : State) : Host.Outcome State Fault Refusal :=
  s.live (fun s => s.writeBy req Reg.TSK_YIELD value (fun s => s.onTask req value (fun n s => s.tskDone req n true false)))

/-- A dispatcher tick (R334). -/
def execDispatcherTick (count : Nat) (s : State) : Host.Outcome State Fault Refusal :=
  s.live (fun s => s.tskTick count)

/-! ### Descriptors -/

/-- A DVALj word as the register shows it (Table 16-8). -/
def State.dval (s : State) (j : Nat) : Nat :=
  let t := s.task (s.val Reg.TSK_DSEL % 4096)
  match j with
  | 0 => t.entryLo
  | 1 => t.dval1
  | 2 =>
    let st := match t.state with
      | .idle => 0 | .ready => 1 | .delayed => 2 | .running => 3
    t.cores + st * 256 + (if t.rerun then 2048 else 0)
  | _ => t.arg

/-- A DVALj write: only while the task is IDLE; CORES 0 is refused; a descriptor, flow or core set of the other partition sets
PART (R329, Table 16-8). -/
def State.writeDval (s : State) (req : Requester) (j v : Nat) : State :=
  let n := s.val Reg.TSK_DSEL % 4096
  let t := s.task n
  if !taskAllowed req n then s.raise E.TSK 2
  else if t.state ≠ .idle then s.cfgErr E.TSK
  else
    match j with
    | 0 => s.setTask n { t with entryLo := v }
    | 1 =>
      let flow := bitsOf v 16 8
      if bitAt v 24 = 1 && (if custTask n then flow < 224 else 224 ≤ flow) then s.raise E.TSK 2
      else s.setTask n { t with dval1 := bitsOf v 0 13 + flow * 2 ^ 16 + bitAt v 24 * 2 ^ 24 }
    | 2 =>
      let c := v % 256
      if c = 0 then s.cfgErr E.TSK
      else if custTask n then (if c % 64 ≠ 0 then s.raise E.TSK 2 else s.setTask n { t with cores := c })
      else if 64 ≤ c then s.raise E.TSK 2
      else s.setTask n { t with cores := c }
    | _ => s.setTask n { t with arg := v }

end Sys2Proof.Machine
end

