-- ==== Sys2Proof/Machine/Events.lean ====
section
/-!
DEFINITION. The event controller: posting, claiming, completing, levels, rerouting (R335-R342, R470), and the cores' exceptions
and waits (R323-R328).
-/
namespace Sys2Proof.Machine

/-- The pending record of highest priority, ties to the lower SRC (R336). -/
def bestPend (l : List EvcRec) : Option EvcRec :=
  l.foldl (fun best r => match best with
    | none => some r
    | some b => if r.prio < b.prio || (r.prio == b.prio && r.src < b.src) then some r else some b) none

/-- The 16 bytes of a record (Table 16-5). -/
def EvcRec.bytes (r : EvcRec) (seq : Nat) : List Byte :=
  let b2n := fun (b : Bool) => if b then 1 else 0
  leBytes 8 (r.src + r.prio * 2 ^ 12 + b2n r.level * 2 ^ 17 + b2n (1 < r.count) * 2 ^ 18 + b2n r.latched * 2 ^ 19
    + b2n r.rerouted * 2 ^ 20 + b2n r.repost * 2 ^ 21 + seq % 65536 * 2 ^ 32 + r.count * 2 ^ 48)
  ++ leBytes 8 (r.time + r.info * 2 ^ 32)

/-- Ring slots of a target. -/
def State.ringSize (s : State) (n : Nat) : Nat := 2 ^ (s.val (Reg.EVC_TGTnSIZE n) % 16)

/-- TGTnBASE. -/
def State.ringBase (s : State) (n : Nat) : Nat := s.val64 (Reg.EVC_TGTnBASELO n) (Reg.EVC_TGTnBASEHI n)

/-- Whether the write of a ring slot fails: a host write when the host answers so, a core ring at an unmapped address or in
memory that is off (R336). -/
def State.ringFails (s : State) (n a : Nat) (writeFails : Bool) : Bool :=
  if 8 ≤ n then writeFails
  else s.isOff a || !(s.region a == .sysSram || s.region a == .lpddr) || !s.inMemory a 16

/-- Records of a target move to its fallback with REROUTED; a REROUTED record is never moved again (R342). -/
def State.reroute (s : State) (n : Nat) : State :=
  let t := s.target n
  let go := t.pend.filter (fun r => !r.rerouted)
  let stay := t.pend.filter (·.rerouted)
  let fb := s.fld (Reg.EVC_TGTnCTL n) F.EVC_TGTnCTL_FALLBACK
  if go.isEmpty then s
  else
    let s1 := s.setTarget n { t with pend := stay, asleepFrom := if stay.isEmpty then none else t.asleepFrom }
    let s2 := go.foldl (fun s r => s.addPend fb { r with rerouted := true }) s1
    (s2.bumpBy Reg.EVC_REROUTES go.length).raise E.EVC 2

/-- A pending record is written to its target's ring (R336): not while EVC.CTL.EN is 0, the target asleep, or the ring full. A write
that fails leaves the record pending, clears EN and sends the target's records to its fallback. -/
def State.postRecord (s : State) (n : Nat) (writeFails : Bool) : State :=
  let t := s.target n
  if !s.flag Reg.EVC_CTL F.EVC_CTL_EN || s.asleep n || s.ringSize n ≤ t.ring.length then s
  else
    match bestPend t.pend with
    | none => s
    | some r =>
      let slot := t.head
      let a := s.ringBase n + 16 * slot
      if s.ringFails n a writeFails then
        let s1 := (s.setFld (Reg.EVC_TGTnCTL n) F.EVC_TGTnCTL_EN 0).raise E.EVC 3
        (if 8 ≤ n then s1.raise E.HIF 4 else s1).reroute n
      else
        let bytes := r.bytes t.seq
        let s1 := if 8 ≤ n then s.putHost a bytes else s.putDev a bytes
        let t1 : EvcTarget := { t with
          pend := t.pend.filter (fun x => x.src ≠ r.src)
          ring := t.ring ++ [{ slot := slot, src := r.src, prio := r.prio, level := r.level }]
          head := (slot + 1) % s.ringSize n
          seq := (t.seq + 1) % 65536 }
        (((s1.setTarget n t1).setVal (Reg.EVC_TGTnHEAD n) t1.head).bump Reg.EVC_POSTED).refreshIrq n false

/-- The level of a source now: software levels (R335). -/
def State.levelNow (s : State) (src : Nat) : Bool := tget (fun _ => false) s.evc.levels src

/-- Whether a record of a source is posted and not completed. -/
def State.postedRec (s : State) (src : Nat) : Bool :=
  (List.range 24).any (fun n => (s.target n).ring.any (fun r => r.src == src && !r.completed))

/-- A level source asserted: a record when none of it is pending or posted (R340). -/
def State.assertLevel (s : State) (src : Nat) (repost : Bool) : State :=
  if (s.pendingAt src).isSome || s.postedRec src then s else s.pendEvent src 0 false repost

/-- Completed records at the ring's oldest end free their slots (R339). -/
def State.freeRing (s : State) (n : Nat) : State :=
  let t := s.target n
  let ring := t.ring.dropWhile (·.completed)
  let tail := match ring with
    | r :: _ => r.slot
    | [] => t.head
  (s.setTarget n { t with ring := ring }).setVal (Reg.EVC_TGTnTAIL n) tail

/-- A record completed: its slot marked; a level still asserted is posted again with REPOST (R340). -/
def State.completeRec (s : State) (n slot : Nat) : State :=
  let t := s.target n
  let hit := t.ring.find? (fun r => r.slot == slot && r.claimed && !r.completed)
  let ring := t.ring.map (fun r => if r.slot = slot && r.claimed then { r with completed := true } else r)
  let s1 := (s.setTarget n { t with ring := ring }).freeRing n
  match hit with
  | some r => if r.level && s1.levelNow r.src then s1.assertLevel r.src true else s1
  | none => s1

/-! ### The commands -/

/-- A source's event reaches EVC (R335, R338, R341); a level source becomes asserted. -/
def execEventEdge (src info : Nat) (s : State) : Host.Outcome State Fault Refusal :=
  s.live (fun s => if isLevelSrc src then
      (let s1 := { s with evc := { s.evc with levels := tput (fun _ => false) s.evc.levels src true } }
       s1.assertLevel src false)
    else s.event src info)

/-- A pending record is posted (R336). -/
def execRecordPost (target : Nat) (writeFails : Bool) (s : State) : Host.Outcome State Fault Refusal :=
  s.live (fun s => s.postRecord target writeFails)

/-- A claim: the claimable record of lowest PRIO, its PRIO pushed (R339). -/
def State.claimOf (s : State) (n : Nat) : State :=
  let t := s.target n
  if t.frozen || 16 ≤ t.stack.length then s.answer [0]
  else
    match bestClaim t with
    | none => s.answer [0]
    | some r =>
      let t1 : EvcTarget := { t with
        stack := (r.slot, r.prio) :: t.stack
        ring := t.ring.map (fun x => if x.slot = r.slot then { x with claimed := true } else x) }
      ((s.setTarget n t1).refreshIrq n false).answer [r.slot + 2 ^ 31]

/-- TGTnCLAIM read (R339). -/
def execClaim (req : Requester) (target : Nat) (s : State) : Host.Outcome State Fault Refusal :=
  s.live (fun s => s.readBy req (Reg.EVC_TGTnCLAIM target) (fun s => s.claimOf target))

/-- An order fault freezes the stack and posts source 0xFE1 (R339). -/
def State.orderFault (s : State) (n idx : Nat) (t : EvcTarget) : State :=
  (((s.setTarget n { t with frozen := true, irq := false }).event 0xFE1
    (n + t.stack.length % 16 * 256 + idx * 2 ^ 16)).raise E.EVC 1).bump Reg.EVC_ORDERFLT

/-- A completion, or an order fault (R339). -/
def State.doneOf (s : State) (n v : Nat) : State :=
  let t := s.target n
  let idx := v % 4096
  if t.frozen then s
  else
    match t.stack with
    | (top, _) :: rest =>
      if top = idx then
        let s1 := if bitAt v 31 = 1 then (s.bump Reg.EVC_SPURIOUS).raise E.EVC 4 else s
        ((s1.setTarget n { s1.target n with stack := rest }).completeRec n idx).refreshIrq n true
      else s.orderFault n idx t
    | [] => s.orderFault n idx t

/-- TGTnDONE written (R339, R340). -/
def execTgtDone (req : Requester) (target value : Nat) (s : State) : Host.Outcome State Fault Refusal :=
  s.live (fun s => s.writeBy req (Reg.EVC_TGTnDONE target) value (fun s => s.doneOf target value))

/-- TGTnRESET: the stack emptied and unfrozen, every claimed record completed (R339). -/
def State.resetStack (s : State) (n : Nat) : State :=
  let t := s.target n
  let claimed := (t.ring.filter (fun r => r.claimed && !r.completed)).map (·.slot)
  let s1 := s.setTarget n { t with stack := [], frozen := false }
  (claimed.foldl (fun s slot => s.completeRec n slot) s1).refreshIrq n true

/-- TGTnRESET written (R339). -/
def execTgtReset (req : Requester) (target value : Nat) (s : State) : Host.Outcome State Fault Refusal :=
  s.live (fun s => s.writeBy req (Reg.EVC_TGTnRESET target) value
    (fun s => if bitAt value 0 = 1 then s.resetStack target else s))

/-- A software level asserted (R335, R340). -/
def State.writeSwset (s : State) (v : Nat) : State :=
  let src := 0x800 + v % 256
  let s1 := { s with evc := { s.evc with levels := tput (fun _ => false) s.evc.levels src true } }
  s1.assertLevel src false

/-- EVC.SWSET written. -/
def execSwset (req : Requester) (value : Nat) (s : State) : Host.Outcome State Fault Refusal :=
  s.live (fun s => s.writeBy req Reg.EVC_SWSET value (fun s => s.writeSwset value))

/-- A software level de-asserted; a record already made stands (R340, R470). -/
def State.writeSwclr (s : State) (v : Nat) : State :=
  { s with evc := { s.evc with levels := tput (fun _ => false) s.evc.levels (0x800 + v % 256) false } }

/-- EVC.SWCLR written. -/
def execSwclr (req : Requester) (value : Nat) (s : State) : Host.Outcome State Fault Refusal :=
  s.live (fun s => s.writeBy req Reg.EVC_SWCLR value (fun s => s.writeSwclr value))

/-- Whether a target's reroute time has come: asleep with pending records for REROUTE_T (R342, R470). -/
def State.rerouteDue (s : State) (n : Nat) : Bool :=
  s.flag Reg.EVC_CTL F.EVC_CTL_EN && s.asleep n && (s.sys.mode != .dormant) &&
  (match (s.target n).asleepFrom with
    | some x => x + s.val Reg.EVC_REROUTE_T % 65536 * 1000 ≤ s.ns
    | none => false)

/-- REROUTE_T passes (R342). -/
def execRerouteExpiry (t target : Nat) (s : State) : Host.Outcome State Fault Refusal :=
  s.liveAt t (fun s => if s.rerouteDue target then s.reroute target else s)

/-! ### SRCCFG -/

/-- SRCCFG of the source in SRCSEL, as read: KIND by the source (Table 16-10). -/
def State.srccfgView (s : State) : Nat :=
  let src := s.val Reg.EVC_SRCSEL % 4096
  s.srcCfg src + (if isLevelSrc src then 1024 else 0)

/-- A pending record of the source given the new target and PRIO; a ring record keeps its own (R338). -/
def State.retarget (s : State) (src tgt prio : Nat) : State :=
  match s.pendingAt src with
  | none => s
  | some n =>
    match (s.target n).pend.find? (·.src == src) with
    | none => s
    | some r =>
      let t := s.target n
      let left := t.pend.filter (fun x => x.src ≠ src)
      let s1 := s.setTarget n { t with pend := left, asleepFrom := if left.isEmpty then none else t.asleepFrom }
      s1.addPend tgt { r with prio := prio }

/-- A write of SRCCFG (R338, Table 16-10): TARGET out of range sets CFGERR; the fault sources keep TARGET and EN; a level source
enabled while asserted posts a record at once. -/
def State.writeSrccfg (s : State) (v : Nat) : State :=
  let src := s.val Reg.EVC_SRCSEL % 4096
  let fault := 0xFE0 ≤ src && src ≤ 0xFE3
  if 24 ≤ v % 32 && !fault then s.cfgErr E.EVC
  else
    let keep := bitsOf v 0 10 + bitAt v 11 * 2048
    let s1 := { s with evc := { s.evc with srccfg := tput (fun _ => 0x200) s.evc.srccfg src keep } }
    let cfg := s1.srcCfg src
    let s2 := s1.retarget src (bitsOf cfg 0 5) (bitsOf cfg 5 5)
    if isLevelSrc src && s2.levelNow src && bitAt v 11 = 1 then s2.assertLevel src false else s2

/-! ### Cores -/

/-- A customer-partition core makes an access it may not make (R323); an access it may make has no effect here. -/
def execAccessFault (core addr : Nat) (write : Bool) (s : State) : Host.Outcome State Fault Refusal :=
  s.live (fun s => if 6 ≤ core && core < 8 && !s.mayAccess core addr 0 write then
      (let s1 := s.accessFault core addr write
       if write then s1 else s1.answer [0])
    else s)

/-- A core read meets a double-bit error, with the fault record of R14; or an access an unmapped address (R324, R325, R437). -/
def execBusError (core addr : Nat) (ecc : Bool) (s : State) : Host.Outcome State Fault Refusal :=
  s.live (fun s =>
    if ecc then (s.doubleBit addr).takeExc core 2 addr false
    else if s.region addr = .unmapped then s.takeExc core 2 addr false
    else s)

/-- Whether the wake lines that PWRMODE enables are asserted: the core's EVC line, or for a core in STOP or OFF a record pending
for it (R342), and its preempt line (R328). -/
def State.wakeLine (s : State) (k pwrmode : Nat) : Bool :=
  (bitAt pwrmode 3 = 1 &&
    ((s.target k).irqNow || (pwrmode % 4 ≠ 0 && !(s.target k).pend.isEmpty))) ||
  (bitAt pwrmode 4 = 1 && (s.core k).preempt)

/-- A misaligned access where alignment is required (R325). -/
def execAlignmentException (core : Nat) (s : State) : Host.Outcome State Fault Refusal :=
  s.live (fun s => s.takeExc core 4 0 false)

/-- An undefined or privileged encoding (R325). -/
def execIllegalInstruction (core : Nat) (s : State) : Host.Outcome State Fault Refusal :=
  s.live (fun s => s.takeExc core 5 0 false)

/-- CORE.IMASK written; a condition that was masked and is due is then taken, the lowest code first (R325, R326). -/
def execImaskWrite (core value : Nat) (s : State) : Host.Outcome State Fault Refusal :=
  s.live (fun s =>
    let s1 := s.setCore core { s.core core with imask := value % 2 ^ 32 }
    match s1.asyncDue core with
    | some code => s1.takeExc core code 0 false
    | none => s1)

end Sys2Proof.Machine
end

