-- ==== Sys2Proof/Machine/Filter.lean ====
section
/-!
DEFINITION. The filter chain: CIC, FIR, trim, resampler, detectors, privileged lanes, coefficient banks, synchronisation, the local
phasor (R245-R264).
-/
namespace Sys2Proof.Machine

def State.fltChan (s : State) (c : Nat) : FltChan := tget (fun _ => {}) s.flt.chans c

def State.setFltChan (s : State) (c : Nat) (x : FltChan) : State :=
  { s with flt := { s.flt with chans := tput (fun _ => {}) s.flt.chans c x } }

/-! ### Arithmetic (R246-R248) -/

/-- Saturation to 32 bits signed, and whether it took place. -/
def sat32 (x : Int) : Int × Bool :=
  if 2147483647 < x then (2147483647, true) else if x < -2147483648 then (-2147483648, true) else (x, false)

/-- B of the CIC: ceil(N log2 R). -/
def cicShift (n r : Nat) : Nat := Nat.log2 (r ^ n - 1) + 1

/-- An 80-bit word as a signed number. -/
def sgn80 (v : Nat) : Int := if 2 ^ 79 ≤ v then (v : Int) - 2 ^ 80 else v

/-- Integrators: each adds the one before it. -/
def integrate (x : Nat) : List Nat → List Nat
  | [] => []
  | a :: r => (a + x) % 2 ^ 80 :: integrate ((a + x) % 2 ^ 80) r

/-- Combs: each gives the difference of its input to the one before; the last difference and the new stores. -/
def comb (x : Nat) : List Nat → Nat × List Nat
  | [] => (x, [])
  | a :: r => let (y, st) := comb ((x + 2 ^ 80 - a) % 2 ^ 80) r; (y, x :: st)

/-- A coefficient: FIR table 0, resampler table 1; the reset content is the reference bank. -/
def State.coef (s : State) (bank table c i : Nat) : Nat :=
  tget (fun k => Config.refCoef (k / 32768 % 2) (k % 4096) % 2 ^ 24) s.flt.coefs ((bank * 16 + table * 8 + c) * 4096 + i)

/-- A 24-bit coefficient as a signed number. -/
def sgn24 (v : Nat) : Int := if 2 ^ 23 ≤ v % 2 ^ 24 then (v % 2 ^ 24 : Nat) - 2 ^ 24 else (v % 2 ^ 24 : Nat)

/-- The sum of the FIR's products, tap 0 with the latest word. -/
def firSum (f : Nat → Int) : Nat → List CicWord → Int
  | _, [] => 0
  | i, w :: r => f i * w.x + firSum f (i + 1) r

/-- Trim of a FIR output: y = x (1 + GAINDEV 2^-20) - OFFSET 2^15, rounded once (R247). -/
def trimmed (x : Int) (trim : Nat) : Int :=
  let g : Int := sgn32 (trim % 65536 * 65536) / 65536
  let o : Int := sgn32 (trim / 65536 % 65536 * 65536) / 65536
  ratRne (x * (2 ^ 20 + g) - o * 2 ^ 35) (2 ^ 20)

/-! ### Lanes (R258-R260) -/

def State.lane (s : State) (k : Nat) : Lane := tget (fun _ => {}) s.flt.lanes k

def State.setLane (s : State) (k : Nat) (x : Lane) : State :=
  { s with flt := { s.flt with lanes := tput (fun _ => {}) s.flt.lanes k x } }

/-- A threshold word as its quantity compares it: signed for a tap-1 sample, else unsigned. -/
def thrOf (qty v : Nat) : Int := if qty = 0 then sgn32 v else (v : Int)

/-- REL lies on the back side of THR (R259). -/
def laneOk (cfg thr rel : Nat) : Bool :=
  let q := bitsOf cfg 4 3
  if bitAt cfg 7 = 1 then thrOf q thr ≤ thrOf q rel else thrOf q rel ≤ thrOf q thr

/-- A lane changes state: its contribution on every channel that selects it, and its record. -/
def State.laneChange (s : State) (k : Nat) (on : Bool) : State :=
  let c : Contrib := { kind := 8 + k, subject := k }
  let s1 := s.alarms ((List.range 64).map (fun a => { chan := a, op := if on then .add else .drop, c := c }))
  if s1.flag Reg.FLT_CTL F.FLT_CTL_LANEEV then s1.event (0x058 + k) (k + (if on then 4 else 0)) else s1

/-- A new value of a lane's quantity, complete at stamp `e`. -/
def State.laneStep (s : State) (k : Nat) (v : Int) (settle : Bool) (e : Nat) : State :=
  let cfg := s.val (Reg.FLT_PRVkCFG k)
  let q := bitsOf cfg 4 3
  let thr := thrOf q (s.val (Reg.FLT_PRVkTHR k))
  let rel := thrOf q (s.val (Reg.FLT_PRVkREL k))
  let x := s.lane k
  let beyond := if bitAt cfg 7 = 1 then v < thr else thr < v
  let back := if bitAt cfg 7 = 1 then rel < v else v < rel
  if settle then s.setLane k { x with count := 0 }
  else if !x.on then
    if !beyond then s.setLane k { x with count := 0 }
    else if x.count + 1 < bitsOf cfg 8 8 then s.setLane k { x with count := x.count + 1 }
    else
      let s1 := ((((s.setLane k { on := true, count := 0 }).setVal (Reg.FLT_PRVkTSLO k) (e / 128 % 2 ^ 32)).setVal
        (Reg.FLT_PRVkTSHI k) (e / 128 / 2 ^ 32 % 2 ^ 32)).setVal (Reg.FLT_PRVkTSFR k) (e % 128)).bump (Reg.FLT_PRVkCNT k)
      (s1.capSend (4 + k) 0 e 1 0xFFFF).laneChange k true
  else if !back then s.setLane k { x with count := 0 }
  else if x.count + 1 < bitsOf cfg 16 8 then s.setLane k { x with count := x.count + 1 }
  else (s.setLane k { on := false, count := 0 }).laneChange k false

/-- A new value of quantity `qty` of channel `c` given to the lanes that take it. -/
def State.laneValue (s : State) (c qty : Nat) (v : Int) (settle : Bool) (e : Nat) : State :=
  if !s.flag Reg.FLT_CTL F.FLT_CTL_LANEEN then s
  else
    (List.range 4).foldl (fun s k =>
      let cfg := s.val (Reg.FLT_PRVkCFG k)
      if bitAt cfg 0 = 1 && bitsOf cfg 1 3 = c && bitsOf cfg 4 3 = qty then s.laneStep k v settle e else s) s

/-! ### Detectors (R257) -/

/-- √(sum / n), rounded half to even. -/
def rmsOf (sum n : Nat) : Nat :=
  let r := isqrt (sum / n)
  let m := (2 * r + 1) * (2 * r + 1) * n
  if 4 * sum < m then r else if m < 4 * sum then r + 1 else if r % 2 = 0 then r else r + 1

/-- A sample added to its span. -/
def DetSpan.add (d : DetSpan) (p : Tap1) : DetSpan :=
  { d with
    sum := d.sum + p.x.natAbs * p.x.natAbs
    n := d.n + 1
    hi := max d.hi p.x
    lo := min d.lo p.x
    settle := d.settle || p.settle
    sat := d.sat || p.sat }

def DetSpan.first (id : Nat) (p : Tap1) : DetSpan :=
  { id := id, sum := p.x.natAbs * p.x.natAbs, n := 1, hi := p.x, lo := p.x, settle := p.settle, sat := p.sat }

def DetSpan.bad (d : DetSpan) : Bool := d.settle || d.sat

/-- A cycle that has ended: its RMS and extremes, SPANBAD, and the lanes on its RMS. -/
def State.cycleEnd (s : State) (c e : Nat) (d : DetSpan) : State :=
  let r := rmsOf d.sum d.n
  let s1 := ((s.setVal (Reg.FLT_CHcRMSC c) r).setVal (Reg.FLT_CHcPKMAX c) (word32 d.hi)).setVal (Reg.FLT_CHcPKMIN c) (word32 d.lo)
  (s1.setFltChan c { s1.fltChan c with spanBad := d.bad, cycle := none }).laneValue c 3 r d.settle e

/-- An aggregate that has ended. -/
def State.aggEnd (s : State) (c : Nat) (d : DetSpan) : State :=
  let s1 := s.setVal (Reg.FLT_CHcRMSA c) (rmsOf d.sum d.n)
  s1.setFltChan c { s1.fltChan c with spanBad := d.bad, agg := none }

/-- A span continued by a sample, or begun. -/
def spanWith (d : Option DetSpan) (id : Nat) (p : Tap1) : DetSpan :=
  match d with
  | some x => if x.id = id then x.add p else DetSpan.first id p
  | none => DetSpan.first id p

/-- A tap-1 sample taken by the detectors: spans that ended before it close first. -/
def State.detectSample (s : State) (c e : Nat) (p : Tap1) : State :=
  if !s.flag Reg.FLT_CTL F.FLT_CTL_DETEN then s
  else
    let f := s.fOut c
    let cyc := p.sec * s.fltNom + p.n * s.fltNom / f
    let agg := p.sec * 5 + p.n * 5 / f
    let s1 := match (s.fltChan c).cycle with
      | some d => if d.id = cyc then s else s.cycleEnd c e d
      | none => s
    let s2 := match (s1.fltChan c).agg with
      | some d => if d.id = agg then s1 else s1.aggEnd c d
      | none => s1
    let x := s2.fltChan c
    let a := p.x.natAbs
    let dk := s2.val (Reg.FLT_CHcENVCFG c) % 32
    let env := max a (divRne (s2.val (Reg.FLT_CHcENV c) * (2 ^ dk - 1)) (2 ^ dk))
    let s3 := s2.setFltChan c { x with cycle := some (spanWith x.cycle cyc p), agg := some (spanWith x.agg agg p) }
    let s4 := (s3.setVal (Reg.FLT_CHcPKHOLD c) (max a (s3.val (Reg.FLT_CHcPKHOLD c)))).setVal (Reg.FLT_CHcENV c) env
    s4.laneValue c 4 env p.settle e

/-! ### Items (R254) -/

/-- The 16-byte item of a sample. -/
def itemBytes (inst : Nat) (x : Int) (c tap : Nat) (settle sat : Bool) (bank : Nat) (mix : Bool) : List Byte :=
  let b := fun (v : Bool) (i : Nat) => if v then 2 ^ i else 0
  leBytes 8 (inst / 65536) ++ words [word32 x, inst % 65536 + c * 2 ^ 16 + tap * 2 ^ 19 + b settle 20 + b sat 21 + bank * 2 ^ 22 + b mix 23]

/-- A saturated sample counted (R248). -/
def State.satCount (s : State) (c : Nat) (sat : Bool) : State := if sat then (s.bump (Reg.FLT_CHcSAT c)).raise E.FLT 1 else s

/-! ### The resampler (R249, R250) -/

/-- The sum of the resampler's products over the span, oldest of 24 with coefficient 0; `f` has 16 fraction bits. -/
def resampleSum (h : Nat → Nat → Int) (p f : Nat) : Nat → List Int → Int
  | _, [] => 0
  | k, x :: r => x * ((65536 - (f : Int)) * h p k + (f : Int) * h (p + 1) k) + resampleSum h p f (k + 1) r

/-- h(p, k): h(128, k) is h(0, k - 1), and 0 before the first. -/
def State.resCoef (s : State) (bank c p k : Nat) : Int :=
  if p = 128 then (if k = 0 then 0 else sgn24 (s.coef bank 1 c (k - 1))) else sgn24 (s.coef bank 1 c (p * 24 + k))

/-- The 24 FIR outputs of the span whose centre lies at position `k` (latest first), oldest first; none where the history is empty. -/
def spanAt (outs : List FirOut) (k : Nat) : List (Option FirOut) :=
  (List.range 24).map (fun i => outs[k + 11 - i]?)

/-- The tap-1 sample of the next instant, with whether its span mixes FIR banks; complete at stamp `e`. -/
def State.resample (s : State) (c e sec n : Nat) : Tap1 × Nat × Bool :=
  let x := s.fltChan c
  let f := s.fOut c
  let inst := outInst f sec n
  -- t' in 2^-16 ns, times F_out
  let tp : Int := (inst * f : Nat) + s.ptrim c * 64000000000
  let k := match (x.outs.drop 12).findIdx? (fun o => ((o.tau * f : Nat) : Int) ≤ tp) with
    | some i => i + 12
    | none => x.outs.length - 1
  let lo := (x.outs[k]?.map (·.tau)).getD 0 * f
  let hi := (x.outs[k - 1]?.map (·.tau)).getD 0 * f
  let num := (tp - lo).toNat * 128
  let den := max 1 (hi - lo)
  let p := min 127 (num / den)
  let fr := divRne ((num - p * den) * 65536) den
  let span := spanAt x.outs k
  let bank := if s.flt.boundary ≤ inst then s.flt.abank else 1 - s.flt.abank
  let y := ratRne (resampleSum (s.resCoef bank c) p fr 0 (span.map (fun o => (o.map (·.x)).getD 0))) (2 ^ 38)
  let (v, sat) := sat32 y
  let settle := span.any (fun o => (o.map (·.settle)).getD true) || e < x.settleUntil
  let banks := span.filterMap (fun o => o.map (·.bank))
  ({ sec := sec, n := n, inst := inst, x := v, settle := settle, sat := sat }, bank, banks.contains 0 && banks.contains 1)

/-- A tap-1 sample goes to its consumers. -/
def State.tap1 (s : State) (c e : Nat) (p : Tap1) (bank : Nat) (mix : Bool) : State :=
  let x := s.fltChan c
  let keep := if isFixed (s.chCfg c) then 0 else 17 * spcOf (s.chCfg c) + 16
  let s1 := s.setFltChan c { x with
    samples := (p :: x.samples).take keep
    next := some (nextOut (s.fOut c) p.sec p.n)
    settleNow := p.settle
    item1 := itemBytes p.inst p.x c 1 p.settle p.sat bank mix }
  let s2 := (s1.satCount c p.sat).detectSample c e p
  let s3 := (s2.laneValue c 0 p.x p.settle e).laneValue c 1 p.x.natAbs p.settle e
  s3.capSample 1 c p.n p.inst p.x p.settle p.sat

/-- Output instants evaluated while the FIR outputs they need are there, and the instant itself is past. -/
def State.emit (c e : Nat) : Nat → State → State
  | 0, s => s
  | k + 1, s =>
    let x := s.fltChan c
    match x.next, x.outs[11]? with
    | some (sec, n), some o =>
      let f := s.fOut c
      let inst := outInst f sec n
      let tp : Int := (inst * f : Nat) + s.ptrim c * 64000000000
      if max tp ((inst * f : Nat) : Int) < ((o.tau * f : Nat) : Int) && 12 < x.outs.length then
        let (p, bank, mix) := s.resample c e sec n
        State.emit c e k (s.tap1 c e p bank mix)
      else s
    | _, _ => s

/-! ### CIC and FIR (R246, R247) -/

/-- The first output instant whose evaluation time is not before the first FIR output. -/
def State.firstNext (s : State) (c tau : Nat) : Nat × Nat :=
  let f := s.fOut c
  let t : Int := (tau : Int) - s.ptrim c * 64000000000 / f
  firstOut f t.toNat

/-- A FIR output complete at stamp `e`: trimmed, given its time, handed on, and the resampler run. -/
def State.firOut (s : State) (c e period : Nat) : State :=
  let x := s.fltChan c
  let cfg := s.chCfg c
  let bank := s.flt.abank
  let (v, s1) := sat32 (ratRne (firSum (fun i => sgn24 (s.coef bank 0 c i)) 0 x.cic) (2 ^ 22))
  let (y, s2) := sat32 (trimmed v (s.val (Reg.AFE_MTRIMcg c (s.fld (Reg.AFE_MCHcCFG c) F.AFE_MCHcCFG_GAIN))))
  let delay := divRne ((cicN cfg * (cicR cfg - 1) + 63 * cicR cfg) * period) 2
  let tau := e * 512 - delay
  let o : FirOut := { tau := tau, x := y, settle := x.cic.any (·.settle) || x.cic.length < 64, sat := s1 || s2, bank := bank }
  let next := match x.next with
    | some q => some q
    | none => some (s.firstNext c tau)
  let st1 := s.setFltChan c { x with
    outs := (o :: x.outs).take 100
    next := next
    item0 := itemBytes tau y c 0 o.settle o.sat bank false }
  let st2 := (st1.satCount c o.sat).laneValue c 2 y.natAbs o.settle e
  State.emit c e 160 (st2.capSample 0 c 0 tau y o.settle o.sat)

/-- One modulator bit, on the MOD edge stamped `e`. -/
def State.modBit (s : State) (c e period : Nat) (b : Bool) : State :=
  let x := s.fltChan c
  let cfg := s.chCfg c
  let nn := cicN cfg
  let settling := s.settling c
  let inv := s.flag (Reg.AFE_MCHcCFG c) F.AFE_MCHcCFG_INV
  let bit := (if settling then x.alt else b) != inv
  let integ := integrate (if bit then 2 ^ 30 else 2 ^ 80 - 2 ^ 30) x.integ
  let clean := if settling then 0 else x.clean + 1
  let x1 := { x with integ := integ, alt := !x.alt, clean := clean }
  if x.cicCnt + 1 < cicR cfg then s.setFltChan c { x1 with cicCnt := x.cicCnt + 1 }
  else
    let (d, st) := comb (integ.getD (nn - 1) 0) (x.combs.take nn)
    let (v, _) := sat32 (ratRne (sgn80 d) (2 ^ cicShift nn (cicR cfg)))
    let w : CicWord := { x := v, settle := clean < nn * (cicR cfg - 1) + 1 }
    let x2 := { x1 with cicCnt := 0, combs := st ++ x.combs.drop nn, cic := (w :: x.cic).take 64 }
    if x.firCnt + 1 < firD cfg then s.setFltChan c { x2 with firCnt := x.firCnt + 1 }
    else (s.setFltChan c { x2 with firCnt := 0 }).firOut c e period

/-- Bits one after another; the edge of a bit with `n` bits after it lies n periods before the last one. -/
def State.modBits (c stamp period : Nat) : List Bool → State → State
  | [], s => s
  | b :: r, s => State.modBits c stamp period r (s.modBit c (stamp - divRne (r.length * period) 512) period b)

/-- FILTER_SAMPLE. While the MOD clock is gated no bit is delivered. -/
def execFilterSample (ch : Nat) (bits : List Bool) (stamp period : Nat) (s : State) : Host.Outcome State Fault Refusal :=
  s.liveAt (stamp / 128) (fun s =>
    if 8 ≤ ch || s.modGated then s else State.modBits ch stamp period bits s)

/-! ### Banks (R255) -/

def State.writeBankcmd (s : State) (v : Nat) : State :=
  if bitAt v 0 = 0 then s
  else if s.flt.swapPend then s.cfgErr E.FLT
  else { s with flt := { s.flt with swapPend := true } }

def execSwap (req : Requester) (value : Nat) (s : State) : Host.Outcome State Fault Refusal :=
  s.live (fun s => s.writeBy req Reg.FLT_BANKCMD value (fun s => s.writeBankcmd value))

/-- The swap takes effect at an output boundary of channel 0. -/
def State.swapBanks (s : State) : State :=
  let f := s.fOut 0
  let (sec, n) := firstOut f (s.ns * 65536)
  { s with flt := { s.flt with abank := 1 - s.flt.abank, swapPend := false, boundary := outInst f sec n } }

def execFltBankSwapApply (t : Nat) (s : State) : Host.Outcome State Fault Refusal :=
  s.liveAt t (fun s => if s.flt.swapPend && !s.modGated then s.swapBanks else s)

/-- Position of the coefficient that CSEL selects in the inactive banks. -/
def State.coefKey (s : State) : Nat :=
  let v := s.val Reg.FLT_CSEL
  ((1 - s.flt.abank) * 16 + bitAt v 0 * 8 + bitsOf v 1 3) * 4096 + bitsOf v 4 12

/-- CSEL moved to the next coefficient of its table, from the last one to the first. -/
def State.nextCoef (s : State) : State :=
  let v := s.val Reg.FLT_CSEL
  let n := if bitAt v 0 = 0 then 64 else 3072
  s.setFld Reg.FLT_CSEL F.FLT_CSEL_INDEX (if n ≤ bitsOf v 4 12 + 1 then 0 else bitsOf v 4 12 + 1)

/-- A coefficient of a bank written. -/
def State.putCoef (s : State) (bank table c i v : Nat) : State :=
  let dflt := fun k => Config.refCoef (k / 32768 % 2) (k % 4096) % 2 ^ 24
  let coefs := tput dflt s.flt.coefs ((bank * 16 + table * 8 + c) * 4096 + i) (v % 2 ^ 24)
  { s with flt := { s.flt with coefs := coefs } }

def State.writeCval (s : State) (v : Nat) : State :=
  if s.flt.swapPend then s.cfgErr E.FLT
  else
    let w := s.val Reg.FLT_CSEL
    (s.putCoef (1 - s.flt.abank) (bitAt w 0) (bitsOf w 1 3) (bitsOf w 4 12) v).nextCoef

def State.readCval (s : State) : State :=
  let w := s.val Reg.FLT_CSEL
  s.nextCoef.answer [s.coef (1 - s.flt.abank) (bitAt w 0) (bitsOf w 1 3) (bitsOf w 4 12)]

def execCoefficientAccess (req : Requester) (write : Option Nat) (s : State) : Host.Outcome State Fault Refusal :=
  s.live (fun s =>
    match write with
    | some v => s.writeBy req Reg.FLT_CVAL v (fun s => s.writeCval v)
    | none => s.readBy req Reg.FLT_CVAL State.readCval)

/-- CSEL written: a FIR index runs to 63, a resampler index to 3 071. -/
def State.writeCsel (s : State) (v : Nat) : State :=
  if (bitAt v 0 = 0 && 64 ≤ bitsOf v 4 12) || 3072 ≤ bitsOf v 4 12 then s.cfgErr E.FLT else s.plainWrite E.FLT Reg.FLT_CSEL v

/-! ### Phase trim, synchronisation (R251, R256) -/

/-- PTRIM stays within 64 input periods of the resampler. -/
def State.ptrimOk (s : State) (c v : Nat) : Bool :=
  -2048 ≤ ptrimOf v && ptrimOf v ≤ 2047 && (ptrimOf v).natAbs * modHz ≤ 65536 * tap0Div (s.chCfg c) * s.fOut c

def State.writePtrim (s : State) (c v : Nat) : State :=
  if s.ptrimOk c v then s.plainWrite E.FLT (Reg.FLT_CHcPTRIM c) v else s.cfgErr E.FLT

def execPtrimWrite (req : Requester) (ch value : Nat) (s : State) : Host.Outcome State Fault Refusal :=
  s.live (fun s => s.writeBy req (Reg.FLT_CHcPTRIM ch) value (fun s => if ch < 8 then s.writePtrim ch value else s))

/-- A resampler history cleared: its words are 0, and outputs carry SETTLE for CHcLAT after `e`. -/
def State.clearHistory (s : State) (c e : Nat) : State :=
  let x := s.fltChan c
  s.setFltChan c { x with outs := x.outs.map (fun o => { o with x := 0 }), settleUntil := e + s.chLat c * 128 }

/-- A synchronisation on the MOD edge stamped `e`. -/
def State.sync (s : State) (e : Nat) : State :=
  let s1 := (List.range 8).foldl (fun s c =>
    if s.chEnabled c then (s.setFltChan c { s.fltChan c with cicCnt := 0, firCnt := 0 }).clearHistory c e else s) s
  let s2 := (((s1.setVal Reg.FLT_SYNCTSLO (e / 128 % 2 ^ 32)).setVal Reg.FLT_SYNCTSHI (e / 128 / 2 ^ 32 % 2 ^ 32)).setVal
    Reg.FLT_SYNCTSFR (e % 128)).bump Reg.FLT_SYNCCNT
  let s3 := s2.raise E.FLT 2
  { s3 with flt := { s3.flt with lastSync := some e } }

/-- A synchronisation asked for; requests of one MOD cycle give one, and with the MOD clock gated or unlocked there is no edge. -/
def State.syncAsked (s : State) (e : Nat) : State :=
  if s.modGated || !s.afe.modLock || s.flt.lastSync = some e then s else s.sync e

def execDecsync (src : Option Requester) (t frac : Nat) (s : State) : Host.Outcome State Fault Refusal :=
  s.liveAt t (fun s =>
    match src with
    | none => if s.flag Reg.FLT_SYNCCFG F.FLT_SYNCCFG_PINEN then s.syncAsked (stampOf t frac) else s
    | some req => s.writeBy req Reg.SYS_CMD 1 (fun s => s.syncAsked (stampOf t frac)))

/-! ### Relock, time steps, gating, images (R263) -/

/-- Relock: modulators restart, resampler histories are cleared. -/
def execModPllRelock (t frac : Nat) (s : State) : Host.Outcome State Fault Refusal :=
  s.liveAt t (fun s =>
    if s.afe.modLock then s
    else (List.range 8).foldl (fun s c => s.clearHistory c (stampOf t frac)) (s.modRelock (stampOf t frac)))

/-- A TB step: histories are emptied and instants follow the new time. -/
def State.fltTimeStep (s : State) : State :=
  (List.range 8).foldl (fun s c =>
    if s.fltChan c = {} then s
    else s.setFltChan c { s.fltChan c with outs := [], next := none, settleUntil := s.now / 2 ^ 17 + s.chLat c * 128 }) s

/-- The chains stop and their contents are lost. -/
def State.fltStop (s : State) : State := { s with flt := { s.flt with chans := [] } }

/-- A lattice image load: histories and detectors are cleared, lanes restart their counts. -/
def State.fltClear (s : State) : State :=
  let s1 := s.fltStop
  let s2 := (List.range 8).foldl (fun s c =>
    (((((s.setVal (Reg.FLT_CHcRMSC c) 0).setVal (Reg.FLT_CHcRMSA c) 0).setVal (Reg.FLT_CHcPKMAX c) 0).setVal
      (Reg.FLT_CHcPKMIN c) 0).setVal (Reg.FLT_CHcPKHOLD c) 0).setVal (Reg.FLT_CHcENV c) 0) s1
  { s2 with flt := { s2.flt with lanes := s2.flt.lanes.map (fun p => (p.1, { p.2 with count := 0 })) } }

/-! ### The local phasor (R261, R262) -/

/-- Class rates of Table 12-5. -/
def phRates (nom : Nat) : List Nat := if nom = 50 then [10, 25, 50] else [10, 12, 15, 20, 30, 60]

def State.phChans (s : State) : List Nat := (List.range 8).filter (fun c => bitAt (s.fld Reg.FLT_PHCFG F.FLT_PHCFG_PHCHAN) c == 1)

/-- Whether local phasor frames can be made: class enabled, rate in the table, selected channels in locked mode. -/
def State.phPossible (s : State) : Bool :=
  let n := s.fld Reg.FLT_PHCFG F.FLT_PHCFG_SC
  s.scEn n && (phRates s.fltNom).contains (s.rate n) && s.phChans.all (fun c => !isFixed (s.chCfg c))

/-- Leaving CONFIGURE: whether frames are made, and PHRATE when the local phasor is enabled and they cannot be. -/
def State.phCheck (s : State) : State :=
  let en := s.flag Reg.FLT_PHCFG F.FLT_PHCFG_EN
  let s1 := { s with flt := { s.flt with phRun := en && s.phPossible } }
  if en && !s.phPossible then s1.raise E.FLT 3 else s1

/-- The samples of a channel whose instants fall in [a, b), in 2^-16 ns, oldest first. -/
def State.windowOf (s : State) (c a b : Nat) : List Tap1 :=
  ((s.fltChan c).samples.filter (fun p => a ≤ p.inst && p.inst < b)).reverse

/-- (1/3)(A + aB + a²C) of three binary32 phasors, each part rounded once. -/
def posSeq (a b c : Nat × Nat) : Nat × Nat :=
  let fx := fun (x : Nat) => let (n, d) := fmt32.toRat x; fxOf n d
  let h := fxSqrt (3 * fxOne) / 2
  let (ar, ai) := (fx a.1, fx a.2)
  let (br, bi) := (fx b.1, fx b.2)
  let (cr, ci) := (fx c.1, fx c.2)
  let re := ar - (br + cr) / 2 + fxMul h (ci - bi)
  let im := ai - (bi + ci) / 2 + fxMul h (br - cr)
  (fmt32.ofRat re (3 * 2 ^ 320), fmt32.ofRat im (3 * 2 ^ 320))

/-- The local slot for an instant, if every selected channel has its whole window, free of SETTLE. -/
def State.localSlot (s : State) (inst : Nat) : Option Slot :=
  let cyc := s.fld Reg.FLT_PHCFG F.FLT_PHCFG_PHCYC
  let half := divRne (cyc * 1000000000 * 65536) (2 * s.fltNom)
  let cs := s.phChans
  let win := fun c => s.windowOf c (inst * 65536 - half) (inst * 65536 + half)
  let vals := fun c => (win c).map (·.x)
  if cs.any (fun c => (win c).length != cyc * spcOf (s.chCfg c) || (win c).any (·.settle)) then none
  else
    let ph := fun c => Config.phasorEst (s.val (Reg.FLT_CHcSCALE c)) s.fltNom (spcOf (s.chCfg c)) (vals c)
    let v3 := [0, 1, 2].all cs.contains
    let i3 := [4, 5, 6].all cs.contains
    let fc := if v3 then [0, 1, 2] else cs.take 1
    let fd := Config.freqEst s.fltNom (spcOf (s.chCfg (fc.headD 0))) (fc.map vals)
    let tq := s.val Reg.TB_TQ
    let seqs := (if v3 then [posSeq (ph 0) (ph 1) (ph 2)] else []) ++ (if i3 then [posSeq (ph 4) (ph 5) (ph 6)] else [])
    let quest := cs.any (fun c => (win c).any (·.sat))
    some { mtime := inst, rxtime := s.ns, rxfrac := s.now / 2 ^ 20 % 16, port := 7, unsync := bitAt tq 4 = 1,
           tq := tq % 16, quest := quest, freq := fd.1, dfreq := fd.2, phasors := cs.map ph ++ seqs }

def State.placeLocal (s : State) (inst : Nat) : State :=
  match s.localSlot inst with
  | some f =>
    let half := s.fld Reg.FLT_PHCFG F.FLT_PHCFG_PHCYC * 1000000000 / (2 * s.fltNom)
    ((s.placeFrame (s.fld Reg.FLT_PHCFG F.FLT_PHCFG_SC) 0x1FFF f).bump Reg.FLT_PHCNT).kernelBoundary 8 (inst - half)
  | none => s

/-! ### Registers (R259, R264) -/

/-- A lane's configuration or threshold written: refused if REL would not lie on the back side of THR. -/
def State.writeLane (s : State) (k a v : Nat) : State :=
  let get := fun r => if a = r then v else s.val r
  let cfg := get (Reg.FLT_PRVkCFG k)
  if 5 ≤ bitsOf cfg 4 3 || !laneOk cfg (get (Reg.FLT_PRVkTHR k)) (get (Reg.FLT_PRVkREL k)) then s.cfgErr E.FLT
  else s.plainWrite E.FLT a v

/-- CHcCFG or CHcFIX written: refused where the tap-1 rate would exceed the tap-0 rate; the chain starts anew. -/
def State.writeChain (s : State) (c a v : Nat) : State :=
  if !s.configure then s.plainWrite E.FLT a v
  else
    let cfg := if a = Reg.FLT_CHcCFG c then v else s.chCfg c
    let fix := if a = Reg.FLT_CHcFIX c then v % 65536 else s.val (Reg.FLT_CHcFIX c) % 65536
    let f := if isFixed cfg then fix else spcOf cfg * s.fltNom
    if cfg % 4 = 3 || bitsOf cfg 12 2 = 3 || modHz < f * tap0Div cfg then s.cfgErr E.FLT
    else (s.plainWrite E.FLT a v).setFltChan c {}

/-- FLT.CFG written: output instants follow the new f_nom. -/
def State.writeFltCfg (s : State) (v : Nat) : State :=
  let s1 := s.plainWrite E.FLT Reg.FLT_CFG v
  if s1.fltNom = s.fltNom then s1 else s1.fltStop

/-- FLT.STAT. -/
def State.fltStat (s : State) : Nat :=
  (if s.flt.swapPend then 1 else 0) + s.flt.abank % 2 * 2 + ((List.range 4).map (fun k => if (s.lane k).on then 2 ^ (4 + k) else 0)).sum +
    (if s.flt.phRun then 2 ^ 8 else 0)

/-- FLT.CHcFLAGS. -/
def State.fltFlags (s : State) (c : Nat) : Nat :=
  (if (s.fltChan c).settleNow then 1 else 0) + (if (s.fltChan c).spanBad then 2 else 0)

end Sys2Proof.Machine
end

