-- ==== Sys2Proof/Machine/Meter.lean ====
section
/-!
DEFINITION. Metering: cycles, accumulators, pulse outputs, saves (R265-R284).
-/
namespace Sys2Proof.Machine

/-! ### Elements (R265, R266) -/

/-- Elements in use: (index, voltage channel, current channel). -/
def State.mtrElems (s : State) : List (Nat × Nat × Nat) :=
  match s.fld Reg.MTR_CFG F.MTR_CFG_WIRING with
  | 0 => [(0, 0, 4), (1, 1, 5), (2, 2, 6)]
  | 1 => [(0, 0, 4), (2, 2, 6)]
  | _ => [(0, 0, 4)]

def State.mtrChans (s : State) : List Nat := (s.mtrElems.map (fun e => [e.2.1, e.2.2])).flatten

/-- A channel fit for metering: enabled, in locked mode, with the SPC of channel V1. -/
def State.mtrFit (s : State) (c : Nat) : Bool :=
  s.chEnabled c && !isFixed (s.chCfg c) && spcOf (s.chCfg c) == spcOf (s.chCfg 0)

/-- Leaving CONFIGURE: whether the chains suit metering, else CFGMIS. -/
def State.mtrCheck (s : State) : State :=
  let ok := s.mtrChans.all s.mtrFit
  let s1 := { s with mtr := { s.mtr with suited := ok } }
  if ok then s1 else s1.raise E.MTR 1

/-- Modes in which metering runs (R273). -/
def Mode.meters : Mode → Bool
  | .settle => true | .serve => true | .shadow => true | .holdover => true | .trial => true | .quiesce => true
  | .lockout => true | .test => true | _ => false

/-- STAT.RUN. -/
def State.mtrRun (s : State) : Bool :=
  s.mtr.suited && s.flag Reg.MTR_CTL F.MTR_CTL_EN && s.sys.mode.meters && !s.lat.mtrFault

/-- Whether the accumulators take what a cycle holds. -/
def State.mtrRegs (s : State) : Bool := s.mtrRun && s.sys.mode != .test

/-- A span that is not registered begins, once something has been registered (R273). -/
def State.mtrSpan (s : State) : State :=
  if s.mtrRegs || s.mtr.gap.isSome || s.mtr.cycEnd.isNone then s
  else
    let g : MtrGap := { mode := s.sys.mode.code, test := s.sys.mode == .test, ploss := false }
    { s with mtr := { s.mtr with gap := some g } }

/-! ### The per-cycle computation (R267, R268) -/

/-- A signed integer as binary64. -/
def f64i (x : Int) : Nat := fmt64.ofInt x

def fmax64 (a b : Nat) : Nat := if fmt64.lt a b then b else a

/-- The value of a calibration register in force for a cycle: that before a write made during or after it (R283). -/
def State.mtrParam (s : State) (a cyc : Nat) : Nat :=
  match s.mtr.old.find? (fun o => o.addr == a && cyc < o.cyc) with
  | some o => o.val
  | none => s.val a

/-- The samples of a cycle of channel `c`, oldest first. -/
def State.cycleSamples (s : State) (c cyc : Nat) : List Tap1 :=
  let spc := spcOf (s.chCfg c)
  ((s.fltChan c).samples.filter (fun p => p.sec * s.fltNom + p.n / spc == cyc)).reverse

def sumSq (l : List Tap1) : Int := (l.map (fun p => p.x * p.x)).sum

/-- sv or si: SCALE * GAIN / 2^30. -/
def State.mtrScale (s : State) (c cyc : Nat) : Nat :=
  fmt64.div (fmt64.mul (f32to64 (s.val (Reg.FLT_CHcSCALE c))) (f32to64 (s.mtrParam (Reg.MTR_CHcGAIN c) cyc))) (f64i (2 ^ 30))

/-- √(max(sum(x²) / SPC * scale² - OFF, 0)). -/
def State.mtrRms (s : State) (c cyc : Nat) : Nat :=
  let sc := s.mtrScale c cyc
  let m := fmt64.mul (fmt64.div (f64i (sumSq (s.cycleSamples c cyc))) (f64i (spcOf (s.chCfg c)))) (fmt64.mul sc sc)
  fmt64.sqrt (fmax64 (fmt64.sub m (f32to64 (s.mtrParam (Reg.MTR_CHcOFF c) cyc))) 0)

/-- The samples of cycles k - 1, k and k + 1. -/
def State.windowSamples (s : State) (c cyc : Nat) : List Int :=
  ((s.cycleSamples c (cyc - 1)) ++ (s.cycleSamples c cyc) ++ (s.cycleSamples c (cyc + 1))).map (·.x)

/-- f_m, limited to f_nom ± 15 %. -/
def State.mtrFm (s : State) (cyc : Nat) : Nat :=
  let nom := s.fltNom
  let lo := fmt64.ofRat (nom * 85 : Nat) 100
  let hi := fmt64.ofRat (nom * 115 : Nat) 100
  let f := Config.meterFreq nom (spcOf (s.chCfg 0)) (s.windowSamples 0 cyc)
  if fmt64.lt f lo then lo else if fmt64.lt hi f then hi else f

/-- What one element gives for a cycle: e, p1, q1 and s in J, with RMS values. -/
structure ElemCycle where
  p : Nat
  e : Nat
  p1 : Nat
  q1 : Nat
  s : Nat
  vm : Nat
  im : Nat
  deriving DecidableEq, Repr

/-- T_cyc. -/
def State.tcyc (s : State) : Nat := fmt64.div (f64i 1) (f64i s.fltNom)

/-- An element's cycle. -/
def State.elemCycle (s : State) (p v i cyc fm : Nat) : ElemCycle :=
  let spc := spcOf (s.chCfg v)
  let sv := s.mtrScale v cyc
  let si0 := s.mtrScale i cyc
  let si := if s.flag Reg.MTR_CFG F.MTR_CFG_DIRINV then fmt64.neg si0 else si0
  let tc := s.tcyc
  let tout := fmt64.div (f64i 1) (f64i (spc * s.fltNom : Nat))
  let vi := (((s.cycleSamples v cyc).zip (s.cycleSamples i cyc)).map (fun q => q.1.x * q.2.x)).sum
  let e0 := fmt64.mul (fmt64.mul (fmt64.mul (f64i vi) sv) si) tout
  let vm := s.mtrRms v cyc
  let im := s.mtrRms i cyc
  let ph := fun (c sc : Nat) =>
    let r := Config.meterPhasor fm spc (s.windowSamples c cyc)
    (fmt64.mul r.1 sc, fmt64.mul r.2 sc)
  let (vr, vj) := ph v sv
  let (ir, ij) := ph i si
  let p10 := fmt64.mul (fmt64.add (fmt64.mul vr ir) (fmt64.mul vj ij)) tc
  let q10 := fmt64.mul (fmt64.sub (fmt64.mul vj ir) (fmt64.mul vr ij)) tc
  let pg := f32to64 (s.mtrParam (Reg.MTR_PpPGAIN p) cyc)
  let po := fmt64.mul (f32to64 (s.mtrParam (Reg.MTR_PpPOFF p) cyc)) tc
  let qg := f32to64 (s.mtrParam (Reg.MTR_PpQGAIN p) cyc)
  let qo := fmt64.mul (f32to64 (s.mtrParam (Reg.MTR_PpQOFF p) cyc)) tc
  let e := fmt64.sub (fmt64.mul e0 pg) po
  let p1 := fmt64.sub (fmt64.mul p10 pg) po
  let q1 := fmt64.sub (fmt64.mul q10 qg) qo
  let sx := fmt64.mul (fmt64.mul vm im) tc
  if fmt64.lt sx (fmt64.mul (f32to64 (s.mtrParam Reg.MTR_CREEP cyc)) tc) then
    { p := p, e := 0, p1 := 0, q1 := 0, s := 0, vm := vm, im := im }
  else { p := p, e := e, p1 := p1, q1 := q1, s := sx, vm := vm, im := im }

/-- The totals over the elements in use, in their order. -/
def totalOf (l : List ElemCycle) : ElemCycle :=
  l.foldl (fun t x =>
    { t with e := fmt64.add t.e x.e, p1 := fmt64.add t.p1 x.p1, q1 := fmt64.add t.q1 x.q1, s := fmt64.add t.s x.s })
    { p := 3, e := 0, p1 := 0, q1 := 0, s := 0, vm := 0, im := 0 }

/-! ### Accumulators (R269, R270) -/

def isNeg64 (x : Nat) : Bool := fmt64.lt x 0

/-- The magnitude of joules in µWh (or µvarh, µVAh) of 2^-32, rounded half to even. -/
def units32 (x : Nat) : Nat :=
  let (n, d) := fmt64.toRat x
  divRne (n.natAbs * 2500 * 2 ^ 32) (d * 9)

def State.mtrAcc (s : State) (a : Nat) : Nat := tget (fun _ => 0) s.mtr.acc a

/-- The four amounts of an element with the accumulators they go to, a = 8 q + 2 p + d. -/
def ElemCycle.amounts (x : ElemCycle) : List (Nat × Nat) :=
  let side := fun (q v : Nat) (neg : Bool) => (8 * q + 2 * x.p + (if neg then 1 else 0), units32 v)
  [side 0 x.e (isNeg64 x.e), side 1 x.p1 (isNeg64 x.p1), side 2 x.q1 (isNeg64 x.q1), side 3 x.s (isNeg64 x.e)]

/-- Amounts added to the accumulators, modulo 2^64 units. -/
def State.accumulate (s : State) (l : List (Nat × Nat)) : State :=
  let acc := l.foldl (fun m (x : Nat × Nat) => tput (fun _ => 0) m x.1 ((tget (fun _ => 0) m x.1 + x.2) % 2 ^ 96)) s.mtr.acc
  { s with mtr := { s.mtr with acc := acc } }

/-! ### Pulse outputs (R275-R277) -/

def State.pulse (s : State) (n : Nat) : PulseOut := tget (fun _ => {}) s.mtr.pulses n

def State.setPulse (s : State) (n : Nat) (x : PulseOut) : State :=
  { s with mtr := { s.mtr with pulses := tput (fun _ => {}) s.mtr.pulses n x } }

/-- Whether a pulse output's driver is on. -/
def State.pulseDriven (s : State) (n : Nat) : Bool :=
  s.flag (Reg.MTR_PLSnCFG n) F.MTR_PLSnCFG_EN && s.mtrRun && s.sys.mode != .quiesce && s.sys.mode != .lockout

/-- Whether the pin conducts. -/
def State.pulsePin (s : State) (n : Nat) : Bool :=
  s.pulseDriven n && ((s.pulse n).on.isSome != s.flag (Reg.MTR_PLSnCFG n) F.MTR_PLSnCFG_POL)

def State.pulseConst (s : State) (n : Nat) : Nat := s.val (Reg.MTR_PLSnCONST n) % 2 ^ 17

/-- Pulses that fall due join the backlog, which holds 65 535; with the driver off they are dropped. -/
def State.duePulses (s : State) (n k : Nat) : State :=
  if k = 0 then s
  else if !s.pulseDriven n then s.bumpBy (Reg.MTR_PLSnDROP n) k
  else
    let x := s.pulse n
    let room := 65535 - x.backlog
    let s1 := s.setPulse n { x with backlog := x.backlog + min k room }
    if k ≤ room then s1 else (s1.bumpBy (Reg.MTR_PLSnDROP n) (k - room)).raise E.MTR 4

/-- An output takes its share of a cycle's amounts. -/
def State.pulseTake (s : State) (n : Nat) (l : List (Nat × Nat)) : State :=
  let cfg := s.val (Reg.MTR_PLSnCFG n)
  let a := 8 * bitsOf cfg 16 2 + 2 * bitsOf cfg 18 2
  let mine := l.filter (fun x => if bitAt cfg 21 = 1 then x.1 / 2 == a / 2 else x.1 == a + bitAt cfg 20)
  let x := s.pulse n
  let res := x.res + (mine.map (·.2)).sum * s.pulseConst n
  let q := 1000000000 * 2 ^ 32
  (s.setPulse n { x with res := res % q }).duePulses n (res / q)

/-- PULSE_START: a pulse begins; one that falls due while the driver is off is dropped. -/
def State.pulseStart (s : State) (n : Nat) : State :=
  let x := s.pulse n
  let width := s.fld (Reg.MTR_PLSnCFG n) F.MTR_PLSnCFG_WIDTH * 1000000
  let rested := match x.last with
    | some t => t + 2 * width ≤ s.ns
    | none => true
  if x.backlog = 0 || x.on.isSome then s
  else if !s.pulseDriven n then (s.setPulse n { x with backlog := x.backlog - 1 }).bump (Reg.MTR_PLSnDROP n)
  else if !rested then s
  else (s.setPulse n { x with backlog := x.backlog - 1, on := some s.ns, last := some s.ns }).bump (Reg.MTR_PLSnCNT n)

def execPulseStart (t output : Nat) (s : State) : Host.Outcome State Fault Refusal :=
  s.liveAt t (fun s => if output < 4 then s.pulseStart output else s)

/-- PULSE_END: the output returns inactive once WIDTH ms have passed. -/
def execPulseEnd (t output : Nat) (s : State) : Host.Outcome State Fault Refusal :=
  s.liveAt t (fun s =>
    match (s.pulse output).on with
    | some x =>
      if output < 4 && x + s.fld (Reg.MTR_PLSnCFG output) F.MTR_PLSnCFG_WIDTH * 1000000 ≤ s.ns then
        s.setPulse output { s.pulse output with on := none }
      else s
    | none => s)

/-! ### Saves (R278-R281) -/

/-- TAI ns at which a cycle ends. -/
def State.cycleEndNs (s : State) (cyc : Nat) : Nat := (cyc + 1) * 1000000000 / s.fltNom

/-- The 456 bytes of a save image. -/
def State.saveImage (s : State) (seq : Nat) : List Byte :=
  let fr := fun a => s.mtrAcc a % 2 ^ 32
  let c := max 1
  let body := words [0xA6E5 + 2 ^ 16, seq] ++ leBytes 8 (s.mtr.cycEnd.getD 0) ++ leBytes 8 s.mtr.cyc ++
    words [s.val Reg.MTR_CFG % 8, 0] ++ ((List.range 32).map (fun a => leBytes 8 (s.mtrAcc a / 2 ^ 32))).flatten ++
    words ((List.range 32).map fr) ++
    words ((List.range 4).map (fun n => (s.pulse n).res / (c (s.pulseConst n) * 2 ^ 32))) ++
    ((List.range 4).map (fun n => leBytes 2 (s.pulse n).backlog)).flatten ++ leBytes 8 s.mtr.est
  body ++ words [crc32c body, 0]

/-- A save begun: the image of now, to the slot that does not hold the latest save. -/
def State.saveBegin (s : State) : State :=
  let seq := (s.val Reg.MTR_SAVESEQ + 1) % 2 ^ 32
  let w : MtrSave := .write (s.saveImage seq) seq (1 - s.mtr.lastSlot) s.ns (s.ldg.cstate == .active)
  { s with mtr := { s.mtr with save := some w } }

/-- A save write ends. Without a cartridge the image is kept with the fallback ring; a page write that a cartridge refuses fails the save
and is its surprise removal (R278, R385). -/
def State.saveEnd (s : State) (refused : Bool) : State :=
  match s.mtr.save with
  | some (.write image seq slot start cart) =>
    if cart && (refused || !s.ldg.lcPwr || s.ldg.cstate != .active) then
      if s.ldg.cstate = .active then s.surprise else s.loseSave
    else
      let s2 : State := { s with mtr := { s.mtr with save := none }, ldg := { s.ldg with save := image } }
      let s3 : State :=
        if cart then ({ s2 with
          ldg := { s2.ldg with cart := s2.ldg.cart.putBytes (nextSaveAt s2.ldg.cart slot) (savePage image) }
          mtr := { s2.mtr with lastSlot := slot } }).wearBy 4096
        else s2
      let s4 := (s3.setVal Reg.MTR_SAVESEQ seq).setVal Reg.MTR_SAVETIME (min ((s3.ns - start) / 1000) 0xFFFFFF)
      if s4.flag Reg.MTR_CTL F.MTR_CTL_SAVEEV then s4.event 0x168 (seq % 65536) else s4
  | _ => s

def execSaveWriteComplete (t : Nat) (refused : Bool) (s : State) : Host.Outcome State Fault Refusal :=
  s.liveAt t (fun s => s.saveEnd refused)

/-- A save instant: skipped while a save is still being written; the image waits for the last cycle that ended by then. -/
def State.saveInstant (s : State) : State :=
  let every := s.val Reg.MTR_SAVEINT % 4096 * 1000000000
  if !s.flag Reg.MTR_CTL F.MTR_CTL_SAVEEN || s.ns % every != 0 then s
  else if s.mtr.save.isSome then (s.bump Reg.MTR_SAVESKIP).raise E.MTR 3
  else
    let k := s.ns * s.fltNom / 1000000000 - 1
    let done := match s.mtr.lastK with
      | some j => k ≤ j
      | none => true
    if done || !s.mtrRun then s.saveBegin else { s with mtr := { s.mtr with save := some (.wait k) } }

def execSaveInstant (t : Nat) (s : State) : Host.Outcome State Fault Refusal := s.liveAt t State.saveInstant

/-- The save that firmware takes before CONFIGURE, DORMANT and any reset it orders (R274): written at once. -/
def State.meterSaveNow (s : State) : State := (({ s with mtr := { s.mtr with save := none } }).saveBegin).saveEnd false

/-- A save that waits for a cycle, begun once it has registered, or before a later one does. -/
def State.saveDue (s : State) (k : Nat) (before : Bool) : State :=
  match s.mtr.save with
  | some (.wait j) => if (if before then j < k else j ≤ k) then s.saveBegin else s
  | _ => s

/-! ### Registering a cycle (R267-R273) -/

/-- Whether the element's samples of the cycle are whole and free of SETTLE. -/
def State.elemClean (s : State) (e : Nat × Nat × Nat) (cyc : Nat) : Bool :=
  !((s.cycleSamples e.2.1 cyc).any (·.settle) || (s.cycleSamples e.2.2 cyc).any (·.settle))

def State.mtrAgg (s : State) (p : Nat) : MtrAgg := tget (fun _ => {}) s.mtr.aggs p

def State.setMtrAgg (s : State) (p : Nat) (x : MtrAgg) : State :=
  { s with mtr := { s.mtr with aggs := tput (fun _ => {}) s.mtr.aggs p x } }

/-- A cycle's values added to an element's aggregate. -/
def State.aggAdd (s : State) (x : ElemCycle) : State :=
  let g := s.mtrAgg x.p
  let w := fun v => fmt64.div v s.tcyc
  s.setMtrAgg x.p { n := g.n + 1, v := fmt64.add g.v x.vm, i := fmt64.add g.i x.im, p := fmt64.add g.p (w x.e),
                    p1 := fmt64.add g.p1 (w x.p1), q1 := fmt64.add g.q1 (w x.q1), s := fmt64.add g.s (w x.s) }

/-- The registers of an element at the end of an aggregate: means over its cycles. -/
def State.aggShow (s : State) (endNs p : Nat) : State :=
  let g := s.mtrAgg p
  if g.n = 0 then s
  else
    let m := fun v => fmt64.div v (f64i g.n)
    let pf := if (m g.s) % 2 ^ 63 = 0 then 0 else fmt64.div (m g.p) (m g.s)
    let s1 := ((s.setVal (Reg.MTR_PpVRMS p) (f64to32 (m g.v))).setVal (Reg.MTR_PpIRMS p) (f64to32 (m g.i))).setVal
      (Reg.MTR_PpP p) (f64to32 (m g.p))
    let s2 := ((s1.setVal (Reg.MTR_PpP1 p) (f64to32 (m g.p1))).setVal (Reg.MTR_PpQ1 p) (f64to32 (m g.q1))).setVal
      (Reg.MTR_PpS p) (f64to32 (m g.s))
    ((s2.setVal (Reg.MTR_PpPF p) (f64to32 pf)).setVal (Reg.MTR_PpAGG p) (endNs % 2 ^ 32)).setMtrAgg p {}

/-- RMS of VN and IN, 0 unless they meet the conditions of R266. -/
def State.neutral (s : State) (c cyc : Nat) : Nat := if s.mtrFit c then s.mtrRms c cyc else 0

/-- Skipped elements counted, with the estimate of what they did not register (R271). -/
def State.skipElems (s : State) (es : List (Nat × Nat × Nat)) : State :=
  es.foldl (fun s e =>
    let last := tget (fun _ => 0) s.mtr.lastE e.1
    let s1 := (s.bump Reg.MTR_SKIPCYC).raise E.MTR 6
    { s1 with mtr := { s1.mtr with est := (s1.mtr.est + divRne last (2 ^ 32)) % 2 ^ 64 } }) s

/-- A span that ends with a registered cycle: its record (R273). -/
def State.gapEnd (s : State) (cyc : Nat) : State :=
  match s.mtr.gap, s.mtr.cycEnd with
  | some g, some from_ =>
    let to_ := cyc * 1000000000 / s.fltNom
    let s1 := { s with mtr := { s.mtr with gap := none } }
    (s1.bump Reg.MTR_GAPCNT).offer 0x0D21 (leBytes 8 from_ ++ leBytes 8 to_ ++
      words [g.mode + (if g.test then 16 else 0) + (if g.ploss then 32 else 0), 0])
  | _, _ => s

/-- The sign of e_T followed: a change between registered cycles is counted (R269). -/
def State.followSign (s : State) (e : Nat) : State :=
  if e % 2 ^ 63 = 0 then s
  else
    let neg := isNeg64 e
    let s1 := { s with mtr := { s.mtr with sign := some neg } }
    if s.mtr.sign = some (!neg) then s1.bump Reg.MTR_REVCNT else s1

/-- Accumulators and what goes with them. -/
def State.registerCycle (s : State) (cyc : Nat) (clean : List ElemCycle) (t : ElemCycle) : State :=
  let lastE := clean.foldl (fun m x => tput (fun _ => 0) m x.p (units32 x.e)) s.mtr.lastE
  let s1 := ((s.gapEnd cyc).accumulate ((clean ++ [t]).map ElemCycle.amounts).flatten).followSign t.e
  { s1 with mtr := { s1.mtr with lastE := lastE, cyc := cyc, cycEnd := some (s1.cycleEndNs cyc) } }

/-- A cycle whose samples are held registers. -/
def State.meterCycle (s0 : State) (cyc : Nat) : State :=
  let s := (s0.saveDue cyc true).kernelBoundary 9 (cyc * 1000000000 / s0.fltNom)
  let (ok, skip) := s.mtrElems.partition (fun e => s.elemClean e cyc)
  let fm := s.mtrFm cyc
  let clean := ok.map (fun e => s.elemCycle e.1 e.2.1 e.2.2 cyc fm)
  let t := { totalOf clean with vm := s.neutral 3 cyc, im := s.neutral 7 cyc }
  let amounts := ((clean ++ [t]).map ElemCycle.amounts).flatten
  let sat := s.mtrChans.any (fun c => (s.cycleSamples c cyc).any (·.sat)) && skip.isEmpty
  let s1 := (s.skipElems skip).setVal Reg.MTR_FREQ (f64to32 fm)
  let s2 := if sat then s1.bump Reg.MTR_SATCYC else s1
  let s3 := if s2.mtrRegs then s2.registerCycle cyc clean t else s2
  let s4 := (List.range 4).foldl (fun s n => s.pulseTake n amounts) s3
  let s5 := (clean ++ [t]).foldl State.aggAdd s4
  let last := (cyc + 1) * 5 % s5.fltNom = 0
  let s6 := if last then (List.range 4).foldl (fun s p => s.aggShow (s5.cycleEndNs cyc) p) s5 else s5
  let old := s6.mtr.old.filter (fun o => cyc + 1 < o.cyc)
  ({ s6 with mtr := { s6.mtr with lastK := some cyc, stepped := false, old := old } }).saveDue cyc false

/-- Whether cycle `cyc` of a channel and the one after it are complete. -/
def State.cycleDone (s : State) (c cyc : Nat) : Bool :=
  let spc := spcOf (s.chCfg c)
  (s.cycleSamples c cyc).length == spc &&
    ((s.cycleSamples c (cyc + 1)).length == spc || (s.fltChan c).samples.any (fun p => cyc + 1 < p.sec * s.fltNom + p.n / spc))

/-- METER_CYCLE_REGISTER: a cycle registers once it and the next one are complete, each cycle once. -/
def execMeterCycleRegister (t cyc : Nat) (s : State) : Host.Outcome State Fault Refusal :=
  s.liveAt t (fun s =>
    let fresh := match s.mtr.lastK with
      | some k => k < cyc || s.mtr.stepped
      | none => true
    if s.mtrRun && fresh && s.mtrChans.all (fun c => s.cycleDone c cyc) then s.meterCycle cyc else s)

/-- The cycles whose samples are held and that have not been registered, lowest first. -/
def State.openCycles (s : State) : List Nat :=
  let spc := spcOf (s.chCfg 0)
  let ks := ((s.fltChan 0).samples.map (fun p => p.sec * s.fltNom + p.n / spc)).eraseDups.reverse
  match s.mtr.lastK with
  | some k => ks.filter (fun j => k < j)
  | none => ks.drop 1

/-- A TB step: the cycle in progress closes with the samples held, and cycles follow the new time (R283). -/
def State.mtrTimeStep (s : State) : State :=
  let s1 := if s.mtrRun then s.openCycles.foldl State.meterCycle s else s
  let s2 := (List.range 8).foldl (fun s c =>
    if s.fltChan c = {} then s else s.setFltChan c { s.fltChan c with samples := [] }) s1
  { s2 with mtr := { s2.mtr with stepped := true } }

/-! ### Reads, clearing, configuration -/

/-- CYCLO read: cycle number, ESTLOST and every accumulator latched for the requester (R272). -/
def State.readCyclo (s : State) (req : Requester) : State :=
  let l := s.mtr.cyc :: s.mtr.est :: (List.range 32).map (fun a => s.mtrAcc a / 2 ^ 32)
  ({ s with mtr := { s.mtr with latches := tput (fun _ => []) s.mtr.latches (latchKey req) l } }).answer [s.mtr.cyc % 2 ^ 32]

/-- A value a requester has latched: 0 the cycle number, 1 ESTLOST, 2 + a accumulator a. -/
def State.mtrLatch (s : State) (req : Requester) (i : Nat) : Nat := (tget (fun _ => []) s.mtr.latches (latchKey req)).getD i 0

def execCycloRead (req : Requester) (s : State) : Host.Outcome State Fault Refusal :=
  s.live (fun s => s.readBy req Reg.MTR_CYCLO (fun s => s.readCyclo req))

/-- CLRCMD written: accepted in CONFIGURE with its key. -/
def State.writeClrcmd (s : State) (v : Nat) : State :=
  if s.sys.mode = .configure && bitAt v 0 = 1 && v / 65536 % 65536 = 0x4D54 then
    let s1 := s.offer 0x0D20 (s.saveImage (s.val Reg.MTR_SAVESEQ))
    let pulses := s1.mtr.pulses.map (fun p => (p.1, { p.2 with res := 0, backlog := 0 }))
    ({ s1 with mtr := { s1.mtr with acc := [], est := 0, pulses := pulses } }).raise E.MTR 7
  else s.cfgErr E.MTR

def execClrcmd (req : Requester) (value : Nat) (s : State) : Host.Outcome State Fault Refusal :=
  s.live (fun s => s.writeBy req Reg.MTR_CLRCMD value (fun s => s.writeClrcmd value))

/-- A gain lies in 0.5-2.0. -/
def gainOk (v : Nat) : Bool := fmt32.le 0x3F000000 v && fmt32.le v 0x40000000

/-- An offset or CREEP is finite and not negative. -/
def offOk (v : Nat) : Bool := fmt32.isFin v && !fmt32.lt v 0

/-- A calibration register written: in force from the first cycle that begins after the write. -/
def State.writeCal (s : State) (a v : Nat) (gain : Bool) : State :=
  if !(if gain then gainOk v else offOk v) then s.cfgErr E.MTR
  else
    let next := s.ns * s.fltNom / 1000000000 + 1
    let o : MtrOld := { addr := a, cyc := next, val := s.val a }
    ({ s with mtr := { s.mtr with old := s.mtr.old ++ [o] } }).setVal a v

/-- PLSnCFG or PLSnCONST written: a change of what is counted clears residual and backlog. -/
def State.writePulse (s : State) (n a v : Nat) : State :=
  let s1 := s.plainWrite E.MTR a v
  let what := fun (s : State) => (bitsOf (s.val (Reg.MTR_PLSnCFG n)) 16 6)
  let refused := match findReg a with
    | some d => !d.inRange s.configure (BitVec.ofNat 32 v)
    | none => true
  if !refused && (a == Reg.MTR_PLSnCONST n || what s1 != what s) then
    s1.setPulse n { s1.pulse n with res := 0, backlog := 0 }
  else s1

/-- CTL written: with EN 0 a span begins that is not registered. -/
def State.writeMtrCtl (s : State) (v : Nat) : State := (s.plainWrite E.MTR Reg.MTR_CTL v).mtrSpan

/-- MTR.STAT. -/
def State.mtrStat (s : State) : Nat :=
  let b := fun (x : Bool) (i : Nat) => if x then 2 ^ i else 0
  b s.mtrRun 0 + b s.mtr.save.isSome 1 + b (s.mtrRun && s.sys.mode == .test) 2 + b (s.ldg.cstate != .active) 3 +
    s.mtr.lastSlot % 2 * 2 ^ 4

/-- PLSnRES as read. -/
def State.pulseRes (s : State) (n : Nat) : Nat := (s.pulse n).res / (max 1 (s.pulseConst n) * 2 ^ 32)

/-! ### Start-up (R280) -/

/-- The latest valid save of a slot: its number and bytes. -/
def State.slotImage (s : State) (slot : Nat) : Option (Nat × List Byte) :=
  (latestSave s.ldg.cart slot).map (fun p => (p.2.1, p.2.2))

/-- The image restored. -/
def State.restoreSave (s : State) (slot seq : Nat) (im : List Byte) (ploss : Bool) : State :=
  let acc := tputAll (fun _ => 0) [] ((List.range 32).map (fun a => (a, leAt im (0x20 + 8 * a) 8 * 2 ^ 32 + leAt im (0x120 + 4 * a) 4)))
  let pulses := tputAll (fun _ => {}) [] ((List.range 4).map (fun n =>
    (n, ({ res := leAt im (0x1A0 + 4 * n) 4 * s.pulseConst n * 2 ^ 32, backlog := leAt im (0x1B0 + 2 * n) 2 } : PulseOut))))
  let g : MtrGap := { mode := Mode.code .boot, test := false, ploss := ploss }
  let m : Mtr := { s.mtr with
    acc := acc, pulses := pulses, est := leAt im 0x1B8 8, cyc := leAt im 0x10 8, cycEnd := some (leAt im 8 8), lastSlot := slot, gap := some g }
  let s1 := ({ s with mtr := m, ldg := { s.ldg with save := im } }).setVal Reg.MTR_SAVESEQ seq
  if leAt im 0x18 1 % 8 = s1.val Reg.MTR_CFG % 8 then s1 else s1.raise E.MTR 1

/-- Start-up: the valid image with the later SAVESEQ, or none. -/
def State.meterRestore (s : State) (ploss : Bool) : State :=
  match s.slotImage 0, s.slotImage 1 with
  | some (a, x), some (b, y) => if serialAfter b a then s.restoreSave 1 b y ploss else s.restoreSave 0 a x ploss
  | some (a, x), none => s.restoreSave 0 a x ploss
  | none, some (b, y) => s.restoreSave 1 b y ploss
  | none, none => (s.raise E.MTR 5).offer 0x0D22 []

end Sys2Proof.Machine
end

