-- ==== Sys2Proof/Machine/Modal.lean ====
section
/-!
DEFINITION. The modal engine: channels, band samples, updates, tracks, alarm states, baselines, the growth path (R185-R206).
-/
namespace Sys2Proof.Machine

/-! ### Banks and tables (R205, R206) -/

def State.modBank (s : State) (b : Nat) : Bank := if b = 0 then s.modal.bankA else s.modal.bankB

/-- MODAL's inactive bank takes a write. -/
def State.modInactive (s : State) (w : BankWrite) : State :=
  if s.lat.abank = 0 then { s with modal := { s.modal with bankB := s.modal.bankB.take w } }
  else { s with modal := { s.modal with bankA := s.modal.bankA.take w } }

def State.modWrite (s : State) (w : BankWrite) : State :=
  if s.flag Reg.MODAL_STAT F.MODAL_STAT_TBUSY then { s with modal := { s.modal with held := s.modal.held ++ [w] } }
  else (s.modInactive w).sendDelta (.bank true w)

/-- A parameter register written (offsets 0x040-0x054). -/
def State.writeModParam (s : State) (a v : Nat) : State :=
  match findReg a with
  | none => s
  | some d =>
    if s.sys.mode = .shadow || !d.inRange false (BitVec.ofNat 32 v) then s.cfgErr E.MODAL
    else s.modWrite (.param a (d.merge false 0 (BitVec.ofNat 32 v)).toNat)

/-- A baseline: (b, learned count), by group * 64 + band * 16 + bin. -/
def State.baseline (s : State) (i : Nat) : Nat × Nat := tget (fun _ => (0, 0)) s.modal.base i

def State.setBaseline (s : State) (i : Nat) (x : Nat × Nat) : State :=
  { s with modal := { s.modal with base := tput (fun _ => (0, 0)) s.modal.base i x } }

/-- The host writes a baseline: an update that runs keeps what it found, and does not learn over the write (R204). -/
def State.hostBaseline (s : State) (i b n : Nat) : State :=
  let s1 := s.setBaseline i (b, n)
  { s1 with modal := { s1.modal with
    runs := s1.modal.runs.map (fun r =>
      if r.group * 4 + r.band = i / 16 then { r with wrote := (i % 16) :: r.wrote } else r) } }

/-- The bits of an entry that its table defines (Table 09-12). -/
def modEntry (table : Nat) (w : List Nat) : List Nat :=
  let g := fun i => w.getD i 0
  match table with
  | 0 => [g 0 % 2 ^ 29, bitsOf (g 1) 0 5 + bitsOf (g 1) 8 6 * 2 ^ 8 + bitsOf (g 1) 16 5 * 2 ^ 16, g 2,
      bitsOf (g 3) 0 13 + bitsOf (g 3) 16 5 * 2 ^ 16]
  | 1 => [bitsOf (g 0) 0 12 + bitsOf (g 0) 16 12 * 2 ^ 16,
      bitsOf (g 1) 0 6 + bitsOf (g 1) 8 6 * 2 ^ 8 + bitsOf (g 1) 16 6 * 2 ^ 16 + bitsOf (g 1) 24 6 * 2 ^ 24, g 2, g 3]
  | _ => [g 0, g 1 % 2 ^ 16, 0, 0]

/-- Fields of a channel entry. -/
def chEn (e : List Nat) : Bool := bitAt (e.getD 0 0) 23 == 1
def chKind (e : List Nat) : Nat := bitsOf (e.getD 0 0) 20 3
def chGroup (e : List Nat) : Nat := bitsOf (e.getD 1 0) 8 6
def chBand (e : List Nat) (b : Nat) : Bool := bitAt (e.getD 1 0) (16 + b) == 1

/-- Fields of a group entry. -/
def grClass (e : List Nat) : Nat := bitsOf (e.getD 0 0) 16 3
def grOn (e : List Nat) : Bool := bitAt (e.getD 0 0) 19 == 1
def grBand (e : List Nat) (b : Nat) : Bool := bitAt (e.getD 0 0) (20 + b) == 1
/-- Kinds 1-4. -/
def grKind (e : List Nat) (k : Nat) : Bool := bitAt (e.getD 0 0) (23 + k) == 1
def grLine (e : List Nat) (k : Nat) : Nat := bitsOf (e.getD 1 0) (8 * (k - 1)) 6

/-- Enabled channels of a group in a bank, rising. -/
def Bank.groupChans (b : Bank) (g : Nat) : List Nat :=
  (b.listed 0).filter (fun c => chEn (b.entry 0 c) && chGroup (b.entry 0 c) == g)

/-- The bank that TCMD writes go to. -/
def State.modTarget (s : State) : Bank := s.modBank (1 - s.lat.abank)

/-- Whether a TCMD WRITE is refused (R206). -/
def State.modRefused (s : State) (t i : Nat) (w : List Nat) : Bool :=
  let b := s.modTarget
  match t with
  | 0 => chKind w == 7 || (chKind w == 6 && 15 < bitsOf (w.getD 0 0) 24 5) || 0x1FFF < w.getD 0 0 % 2 ^ 20 ||
      (chEn w && 256 ≤ ((b.groupChans (chGroup w)).filter (· ≠ i)).length)
  | 1 => 64 ≤ i || chGroup (b.entry 0 (w.getD 0 0 % 4096)) != i
  | 2 => false
  | _ => true

/-- A TCMD WRITE (R205, R206). -/
def State.modTcmdWrite (s : State) : State :=
  let t := s.val Reg.MODAL_TSEL % 4
  let i := bitsOf (s.val Reg.MODAL_TSEL) 4 12
  let w := modEntry t (s.tvals (Reg.MODAL_TVALj 0))
  if s.sys.mode = .shadow then s.cfgErr E.MODAL
  else if s.modRefused t i w then s.raise E.MODAL 1
  else if t = 2 then
    (s.hostBaseline i (w.getD 0 0) (w.getD 1 0)).sendDelta (.baseline 0 [(i, w.getD 0 0, w.getD 1 0)])
  else s.modWrite (.entry t i w)

/-- MODAL_TCMD_WRITE (R206). -/
def execModalTcmdWrite (req : Requester) (s : State) : Host.Outcome State Fault Refusal :=
  s.live (fun s => s.writeBy req Reg.MODAL_TCMD 1 State.modTcmdWrite)

/-- Words shown in the TVAL registers of MODAL. -/
def State.putModTvals (s : State) (w : List Nat) : State :=
  (List.range 4).foldl (fun s j => s.setVal (Reg.MODAL_TVALj j) (w.getD j 0)) s

/-- A TCMD READ: the entry of the active bank, or the baseline, goes to TVAL (R205). -/
def State.modTcmdRead (s : State) : State :=
  let t := s.val Reg.MODAL_TSEL % 4
  let i := bitsOf (s.val Reg.MODAL_TSEL) 4 12
  if t = 2 then s.putModTvals [(s.baseline i).1, (s.baseline i).2, 0, 0]
  else s.putModTvals ((s.modBank s.lat.abank).entry t i)

/-- MODAL_TCMD_READ (R205). -/
def execModalTcmdRead (req : Requester) (s : State) : Host.Outcome State Fault Refusal :=
  s.live (fun s => s.writeBy req Reg.MODAL_TCMD 2 State.modTcmdRead)

/-! ### Bands (R188) -/

/-- Rmin, window in s, update interval in ns, lower and upper edge in 1/100 Hz (Table 09-2). -/
def bandRmin (b : Nat) : Nat := [1, 5, 25, 100].getD b 1
def bandWindow (b : Nat) : Nat := [1200, 120, 30, 6].getD b 6
def bandInterval (b : Nat) : Nat := [60000000000, 5000000000, 1000000000, 250000000].getD b 1
def bandLow (b : Nat) : Nat := [1, 10, 100, 500].getD b 1
def bandHigh (b : Nat) : Nat := [10, 100, 500, 4500].getD b 1

/-- D of a band at a class rate. -/
def bandD (rate b : Nat) : Nat := rate / bandRmin b

/-- Filter delay in input samples. -/
def bandDelay (d : Nat) : Nat := if 1 < d then 4 * d else 0

/-- The index of an instant on its class grid. -/
def gridIdx (rate inst : Nat) : Nat := (inst * rate + 500000000) / 1000000000

/-- The latest band sample whose instant is at most `u` ns. -/
def lastBand (rate d u : Nat) : Nat := u * rate / (1000000000 * d)

/-- Band samples in one period of the lower edge. -/
def bandPeriod (rate d b : Nat) : Nat := (rate * 100 + d * bandLow b - 1) / (d * bandLow b)

/-! ### Input samples (R185, R186, R189) -/

def State.mchan (s : State) (c b : Nat) : ModChan := tget (fun _ => {}) s.modal.chans (c * 4 + b)

def State.setMchan (s : State) (c b : Nat) (m : ModChan) : State :=
  { s with modal := { s.modal with chans := tput (fun _ => {}) s.modal.chans (c * 4 + b) m } }

/-- A slot that a channel may use. -/
def State.modSlot (s : State) (x : Snapshot) (v : Nat) (sync : Bool) : Option Slot :=
  match x.present.find? (·.1 == v) with
  | some (_, f) => if f.invalid || (f.test && s.sys.mode ≠ .test) || (sync && f.unsync) then none else some f
  | none => none

/-- A phasor of a slot. -/
def Slot.phasor (f : Slot) (i : Nat) : Option (Nat × Nat) := if i < f.phasors.length then some (f.phasors.getD i (0, 0)) else none

/-- The input sample of a channel (Table 09-1). -/
def State.modInput (s : State) (x : Snapshot) (e : List Nat) : Option Nat :=
  let kind := chKind e
  let ph := bitsOf (e.getD 0 0) 24 5
  let ph2 := e.getD 1 0 % 32
  let vid := e.getD 0 0 % 2 ^ 20
  let v : Option Nat := match s.modSlot x vid (kind == 3) with
    | none => none
    | some f =>
      match kind with
      | 0 => some f.freq
      | 1 => some f.dfreq
      | 2 => (f.phasor ph).map (fun p => mag32 p.1 p.2)
      | 3 =>
        match f.phasor ph, s.modSlot x (e.getD 3 0 % 8192) true with
        | some p, some g => (g.phasor (bitsOf (e.getD 3 0) 16 5)).map (fun q => f32sub (atan2Deg p.2 p.1) (atan2Deg q.2 q.1))
        | _, _ => none
      | 6 => if ph < f.analogs.length then some (f.analogs.getD ph 0) else none
      | _ =>
        match f.phasor ph, f.phasor ph2 with
        | some (vr, vi), some (ir, ii) =>
          let z := if kind = 4 then fmt32.add (fmt32.mul vr ir) (fmt32.mul vi ii) else f32sub (fmt32.mul vi ir) (fmt32.mul vr ii)
          some (fmt32.div (fmt32.mul (fmt32.ofInt 3) z) (fmt32.ofInt 1000000))
        | _, _ => none
  v.bind (fun y => if fmt32.isFin y then some y else none)

/-- GAPMAX in input samples. -/
def Bank.gapMax (b : Bank) (d : Nat) : Nat := b.fld Reg.MODAL_GAPCFG F.MODAL_GAPCFG_GAPMAX * d

/-- A valid sample joins a channel's history in a band; kind 3 is unwrapped over filled gaps (R186). -/
def ModChan.push (m : ModChan) (idx x gap keep : Nat) (angle : Bool) : ModChan :=
  let a := match m.samples with
    | p :: _ => if angle && idx ≤ p.idx + 1 + gap then fmt32.add p.a (wrap180 (f32sub x p.x)) else x
    | [] => x
  { m with samples := { idx := idx, x := x, a := a } :: m.samples.takeWhile (fun p => idx ≤ p.idx + keep) }

/-- The input sample at an index, or the one that replaces it, as things stand at index `cur` (R189). -/
def sampleAt (cur gap idx : Nat) (next : Option Nat) : List ModSample → Option Nat
  | [] => none
  | p :: r =>
    if idx < p.idx then sampleAt cur gap idx (some p.idx) r
    else if p.idx = idx then some p.a
    else
      let missing := (match next with
        | some n => n - 1
        | none => cur) - p.idx
      if missing ≤ gap then some p.a else none

/-- A band sample: its filter's inputs all valid, or none (R188, R189). -/
def ModChan.band (m : ModChan) (cur gap d k : Nat) : Option Nat :=
  if d ≤ 1 then sampleAt cur gap k none m.samples
  else
    let l := (List.range (8 * d + 1)).map (fun i => if k * d + i < 4 * d then none else sampleAt cur gap (k * d + i - 4 * d) none m.samples)
    if l.all (·.isSome) then some (Config.bandFilter d (l.filterMap id)) else none

/-! ### binary32 sums (R168) -/

/-- A sum from the first on. -/
def sumOf32 (l : List Nat) : Nat := match l with
  | [] => 0
  | x :: r => r.foldl fmt32.add x

def mean32 (l : List Nat) : Nat := fmt32.div (sumOf32 l) (fmt32.ofInt l.length)

def rms32 (l : List Nat) : Nat := fmt32.sqrt (mean32 (l.map (fun x => fmt32.mul x x)))

/-! ### What a final release feeds (R188-R190, R197) -/

/-- The envelope of a channel at band sample `k` (R197). -/
def ModChan.envelope (m : ModChan) (cur gap d k rate b : Nat) : Option Nat :=
  let n := bandWindow b * rate / d
  let p := bandPeriod rate d b
  let win := (List.range n).filterMap (fun i => if k < i then none else m.band cur gap d (k - i))
  let last := (List.range p).map (fun i => if k < i then none else m.band cur gap d (k - i))
  if last.all (·.isSome) then
    let mean := mean32 win.reverse
    some (fmt32.mul 0x3FB504F3 (rms32 ((last.filterMap id).reverse.map (fun v => f32sub v mean))))
  else none

/-- A channel fed in one band, with its envelope and whether that is a growth hit: (channel, band, k, e, e before) (R197). -/
def State.feedBand (s : State) (bk : Bank) (rate idx : Nat) (x : Option Nat) (c b : Nat) : State × Option (Nat × Nat × Nat × Option Nat) :=
  let e := bk.entry 0 c
  let d := bandD rate b
  let gap := bk.gapMax d
  let keep := bandWindow b * rate + 64 * d
  let m := match x with
    | some v => (s.mchan c b).push idx v gap keep (chKind e == 3)
    | none => s.mchan c b
  if bitAt (e.getD 1 0) 20 = 0 || b = 0 || idx % d ≠ 0 || idx < bandDelay d then (s.setMchan c b m, none)
  else
    let k := (idx - bandDelay d) / d
    let span := bk.fld Reg.MODAL_GROWCFG F.MODAL_GROWCFG_GSPAN * bandPeriod rate d b
    let env := m.envelope idx gap d k rate b
    let before := (m.envs.find? (fun v => v.k + span == k)).bind (·.e)
    let m1 : ModChan := { m with envs := { k := k, e := env } :: m.envs.takeWhile (fun v => k ≤ v.k + span + 1) }
    (s.setMchan c b m1, env.map (fun v => (k, c, v, before)))

/-- Whether a channel's envelope is a growth hit (R197). -/
def Bank.growth (bk : Bank) (c e : Nat) (before : Option Nat) : Bool :=
  let gth := (bk.entry 0 c).getD 2 0
  match before with
  | some e0 => f32le gth e &&
      f32le (fmt32.mul (fmt32.ofRat (bk.fld Reg.MODAL_GROWCFG F.MODAL_GROWCFG_GRATIO) 16) e0) e
  | none => false

/-- An alarm state: kinds 1-4. -/
def State.mAlarm (s : State) (g b k : Nat) : ModAlarm := tget (fun _ => {}) s.modal.alarms ((g * 4 + b) * 4 + k - 1)

def State.setMAlarm (s : State) (g b k : Nat) (a : ModAlarm) : State :=
  { s with modal := { s.modal with alarms := tput (fun _ => {}) s.modal.alarms ((g * 4 + b) * 4 + k - 1) a } }

/-- A group's bands that it analyses now. -/
def State.analyses (s : State) (e : List Nat) (b : Nat) : Bool :=
  grOn e && grBand e b && bitAt (s.val Reg.MODAL_CTL) (4 + b) == 1

/-- One group and band at a release: its channels fed and its growth test (R197, R198). -/
def State.feedGroup (s : State) (bk : Bank) (bank n rate idx : Nat) (x : Snapshot) (g b : Nat) : State :=
  let ge := bk.entry 1 g
  let chans := (bk.groupChans g).filter (fun c => chBand (bk.entry 0 c) b)
  let (s1, envs) := chans.foldl (fun (p : State × List (Nat × Nat × Nat × Option Nat)) c =>
    let r := p.1.feedBand bk rate idx (s.modInput x (bk.entry 0 c)) c b
    (r.1, p.2 ++ r.2.toList)) (s, [])
  let tests := s.flag Reg.MODAL_CTL F.MODAL_CTL_EN && s.flag Reg.MODAL_CTL F.MODAL_CTL_FASTEN && s.analyses ge b && grKind ge 4
  let big := envs.any (fun v => f32le ((bk.entry 0 v.2.1).getD 2 0) v.2.2.1)
  let s2 : State := if big then { s1 with modal := { s1.modal with grown := tput (fun _ => false) s1.modal.grown (g * 4 + b) true } } else s1
  let hits := if tests then envs.filter (fun v => bk.growth v.2.1 v.2.2.1 v.2.2.2) else []
  let s3 := s2.bumpBy Reg.MODAL_GROWHITS hits.length
  match hits.head? with
  | some (k, c, e, e0) =>
    if (s3.mAlarm g b 4).active || s3.modal.grows.any (fun w => w.group == g && w.band == b) then s3
    else
      let w : ModGrow := { group := g, band := b, sc := n, chan := c, bank := bank, inst := x.inst, k := k, e := e, e0 := e0.getD 0,
                           gth := (bk.entry 0 c).getD 2 0 }
      { s3 with modal := { s3.modal with grows := s3.modal.grows ++ [w] } }
  | none => s3

/-- The windows of an update: those that enter, and how many do not (R190). -/
def State.modWindows (s : State) (bk : Bank) (rate idx u g b : Nat) : List ModCol × Nat :=
  let d := bandD rate b
  let hi := lastBand rate d u
  let lo := if u < bandWindow b * 1000000000 then 0 else lastBand rate d (u - bandWindow b * 1000000000)
  let n := hi - lo
  let pct := bk.fld Reg.MODAL_GAPCFG F.MODAL_GAPCFG_VALIDPCT
  let cols := ((bk.groupChans g).filter (fun c => chBand (bk.entry 0 c) b)).map (fun c =>
    ({ chan := c, vals := (List.range n).map (fun i => (s.mchan c b).band idx (bk.gapMax d) d (lo + 1 + i)) } : ModCol))
  let ok := cols.filter (fun w => 0 < n && pct * n ≤ 100 * (w.vals.filter (·.isSome)).length)
  (ok, cols.length - ok.length)

/-- The updates of a group and band that a release makes (R190): the first runs, those that fall due meanwhile are skipped. -/
def State.dueUpdate (s : State) (bk : Bank) (bank n rate idx : Nat) (x : Snapshot) (g b : Nat) : State :=
  if !s.analyses (bk.entry 1 g) b || !s.flag Reg.MODAL_CTL F.MODAL_CTL_EN then s
  else if rate < bandRmin b then s.raise E.MODAL 5
  else
    let d := bandD rate b
    let iv := bandInterval b
    let upTo := fun (i : Nat) => (i * rate - bandDelay d * 1000000000) / (iv * rate)
    let hi := upTo x.inst
    let lo := match tget (fun _ => none) s.modal.lastInst n with
      | some p => upTo p
      | none => hi - 1
    let busy := s.modal.runs.any (fun r => r.group == g && r.band == b)
    let skipped := if busy then hi - lo else hi - lo - 1
    let s1 := if skipped = 0 then s else (s.bumpBy Reg.MODAL_UPDOVR skipped).raise E.MODAL 4
    if hi ≤ lo || busy then s1
    else
      let u := (lo + 1) * iv
      let (cols, left) := s1.modWindows bk rate idx u g b
      let r : ModRun := { group := g, band := b, sc := n, u := u, bank := bank, inst := x.inst, relAt := s.ns, cols := cols, left := left,
                          base := (List.range 16).map (fun i => s1.baseline (g * 64 + b * 16 + i)) }
      { s1 with modal := { s1.modal with runs := s1.modal.runs ++ [r] } }

/-- Envelope histories of a class's channels dropped (R204). -/
def State.dropEnvelopes (s : State) (bk : Bank) (n : Nat) : State :=
  ((bk.listed 0).filter (fun c => grClass (bk.entry 1 (chGroup (bk.entry 0 c))) == n)).foldl (fun (s : State) c =>
    (List.range 4).foldl (fun (s : State) b => s.setMchan c b { s.mchan c b with envs := [] }) s) s

/-- A final release of a class reaches MODAL (R185-R190, R197). -/
def State.modalRelease (s0 : State) (n bank : Nat) (x : Snapshot) : State :=
  let bk := s0.modBank bank
  let rate := s0.rate n
  let idx := gridIdx rate x.inst
  let follows := match tget (fun _ => none) s0.modal.lastInst n with
    | some p => gridIdx rate p + 1 == idx
    | none => false
  let s := if follows then s0 else s0.dropEnvelopes bk n
  let groups := (bk.listed 1).filter (fun g => grClass (bk.entry 1 g) == n)
  let fed := groups.foldl (fun (s : State) g => (List.range 4).foldl (fun (s : State) b =>
    if rate < bandRmin b then s else s.feedGroup bk bank n rate idx x g b) s) s
  let due := groups.foldl (fun (s : State) g => (List.range 4).foldl (fun (s : State) b => s.dueUpdate bk bank n rate idx x g b) s) fed
  { due with modal := { due.modal with lastInst := tput (fun _ => none) due.modal.lastInst n (some x.inst) } }

/-- A class's bank changes: channels whose entry changes restart their history (R204). -/
def State.modalSwap (s : State) (n bank : Nat) : State :=
  let new := s.modBank bank
  let old := s.modBank (1 - bank)
  let of_ := fun (b : Bank) => (b.listed 0).filter (fun c => grClass (b.entry 1 (chGroup (b.entry 0 c))) == n)
  ((of_ new ++ of_ old).filter (fun c => new.entry 0 c != old.entry 0 c)).foldl (fun (s : State) c =>
    (List.range 4).foldl (fun (s : State) b => s.setMchan c b {}) s) s

/-! ### Estimation (R191) -/

/-- An estimated mode. -/
structure ModEst where
  freq : Nat
  damp : Nat
  amp : Nat
  energy : Nat
  /-- Residues by column. -/
  res : List (Nat × Nat)
  deriving DecidableEq, Repr

/-- A column without its mean, divided by its RMS, and the RMS. -/
def normCol (l : List (Option Nat)) : List (Option Nat) × Nat :=
  let mean := mean32 (l.filterMap id)
  let c := l.map (fun v => v.map (fun x => f32sub x mean))
  let r := rms32 (c.filterMap id)
  (c.map (fun v => v.map (fun x => fmt32.div x r)), r)

/-- A pole and its residues as an estimate, if its frequency lies in the band. -/
def modEst (rate d b ref rms : Nat) (dt : Int × Nat) (p : (Nat × Nat) × List (Nat × Nat)) : Option ModEst :=
  let (re, im) := p.1
  if !fmt32.isFin re || !fmt32.isFin im || (f32Zero re && f32Zero im) then none
  else
    let (a, q) := fmt32.toRat re
    let (c, e) := fmt32.toRat im
    let br := fmt32.ofRat rate d
    -- ln|z| = ln(|z|^2) / 2
    let n2 := (a * e) * (a * e) + (c * q) * (c * q)
    let lnm := fxTo32 (fxLn n2.toNat ((q * e) * (q * e)) / 2)
    let arg := fxTo32 (fxAtan2 (c * q) (a * e))
    let sre := fmt32.mul lnm br
    let sim := fmt32.mul arg br
    let f := fmt32.div sim (fxTo32 (2 * fxPi))
    let mag := mag32 sre sim
    if !fmt32.lt 0 sim || !f32le (fmt32.ofRat (bandLow b) 100) f || !f32le f (fmt32.ofRat (bandHigh b) 100) then none
    else
      let (n, m) := fmt32.toRat (fmt32.mul sre (fmt32.ofRat dt.1 dt.2))
      let rr := p.2.getD ref (0, 0)
      let amp := fmt32.mul (fmt32.mul (fmt32.mul 0x40000000 (mag32 rr.1 rr.2)) rms) (fxExp32 (fxOf n m))
      some { freq := f, damp := fmt32.div (fmt32.mul (fmt32.ofInt (-100)) sre) mag, amp := amp, res := p.2,
             energy := sumOf32 (p.2.map (fun r => fmt32.add (fmt32.mul r.1 r.1) (fmt32.mul r.2 r.2))) }

/-- Estimates by descending energy, ties to lower f. -/
def insertEst (x : ModEst) : List ModEst → List ModEst
  | [] => [x]
  | y :: ys => if fmt32.lt y.energy x.energy || (x.energy == y.energy && fmt32.lt x.freq y.freq) then x :: y :: ys else y :: insertEst x ys

/-- The estimates of an update: its eight modes of largest energy. -/
def estimates (rate b u ref : Nat) (cols : List ModCol) : List ModEst :=
  let d := bandD rate b
  let ns := cols.map (fun c => normCol c.vals)
  let last := lastBand rate d u
  let dt : Int × Nat := ((u * rate : Nat) - (last * d * 1000000000 : Nat), 1000000000 * rate)
  let es := (Config.modalFit (ns.map (·.1))).filterMap (modEst rate d b ref (ns.getD ref ([], 0)).2 dt)
  (es.foldl (fun l x => insertEst x l) []).take 8

/-! ### Tracks (R192, R193) -/

def trackKey (g b slot : Nat) : Nat := (g * 4 + b) * 8 + slot

def State.track (s : State) (g b slot : Nat) : Option Track := tget (fun _ => none) s.modal.tracks (trackKey g b slot)

def State.setTrack (s : State) (g b slot : Nat) (t : Option Track) : State :=
  { s with modal := { s.modal with tracks := tput (fun _ => none) s.modal.tracks (trackKey g b slot) t } }

/-- A slot matched by an estimate. -/
structure ModHit where
  slot : Nat
  est : ModEst
  new : Bool
  deriving DecidableEq, Repr

/-- The slot that takes an estimate (R192). -/
def slotFor (tol : Nat) (ts : List (Option Track)) (hits : List ModHit) (e : ModEst) : Option (Nat × Bool) :=
  let near := (List.range 8).filterMap (fun i =>
    match ts.getD i none with
    | some t =>
      let df := fmt32.abs (f32sub t.freq e.freq)
      if hits.any (·.slot == i) || !f32le df (fmt32.mul (fmt32.ofRat tol 1000) t.freq) then none else some (i, df)
    | none => none)
  match near.foldl (fun (m : Option (Nat × Nat)) p => match m with
      | some q => if fmt32.lt p.2 q.2 then some p else some q
      | none => some p) none with
  | some p => some (p.1, false)
  | none =>
    ((List.range 8).find? (fun i => (ts.getD i none).isNone && !hits.any (·.slot == i))).map (fun i => (i, true))

/-- Estimates matched in descending energy. -/
def matchEsts (tol : Nat) (ts : List (Option Track)) (es : List ModEst) : List ModHit :=
  es.foldl (fun hs e => match slotFor tol ts hs e with
    | some (i, new) => hs ++ [{ slot := i, est := e, new := new }]
    | none => hs) []

/-- The columns of a shape by descending magnitude, ties to the lower channel: (channel, magnitude, angle) relative. -/
def insertShape (x : Nat × Nat × Nat) : List (Nat × Nat × Nat) → List (Nat × Nat × Nat)
  | [] => [x]
  | y :: ys => if fmt32.lt y.2.1 x.2.1 then x :: y :: ys else y :: insertShape x ys

/-- The shape of a mode (R191). -/
def shapeOf (ref : Nat) (chans : List Nat) (e : ModEst) : List (Nat × Nat × Nat) :=
  let mags := e.res.map (fun r => mag32 r.1 r.2)
  let top := mags.foldl f32max 0
  let angs := e.res.map (fun r => atan2Deg r.2 r.1)
  let ra := angs.getD ref 0
  ((List.range chans.length).map (fun i =>
    (chans.getD i 0, fmt32.div (mags.getD i 0) top, wrap180 (f32sub (angs.getD i 0) ra)))).foldl (fun l x => insertShape x l) []

/-- Whether a track is forced (R193). -/
def Bank.forced (bk : Bank) (t : Track) : Bool :=
  let n := bk.fld Reg.MODAL_FORCFG F.MODAL_FORCFG_FUPD
  let h := t.hist.take n
  let hi := h.foldl (fun m x => f32max m x.freq) t.freq
  let lo := h.foldl (fun m x => f32min m x.freq) t.freq
  n ≤ h.length && h.all (fun x => fmt32.lt (fmt32.abs x.damp) (fmt32.ofRat (bk.fld Reg.MODAL_DAMPCFG F.MODAL_DAMPCFG_FDAMP) 100)) &&
    f32le (f32sub hi lo) (fmt32.mul (fmt32.ofRat (bk.fld Reg.MODAL_FORCFG F.MODAL_FORCFG_FSPREAD) 10000) t.freq)

/-- The bin of a frequency. -/
def binOf (b f : Nat) : Nat :=
  let (n, d) := fmt32.toRat f
  if n ≤ 0 then 0
  else
    let x := fxLn (n.toNat * 100) (d * bandLow b)
    let w := fxLn (bandHigh b) (bandLow b)
    min (16 * x / w).toNat 15

/-- AMPFLOOR and AMPMIN of a group. -/
def ampFloor (ge : List Nat) : Nat := ge.getD 2 0
def ampMin (ge : List Nat) : Nat := ge.getD 3 0

def Bank.bmult (bk : Bank) : Nat := fmt32.ofRat (bk.fld Reg.MODAL_BASECFG F.MODAL_BASECFG_BMULT) 16

/-- THR of a track with baseline `b` (R195). -/
def Bank.thr (bk : Bank) (ge : List Nat) (b : Nat) : Nat := f32max (ampFloor ge) (fmt32.mul bk.bmult b)

/-! ### Verdict records (R203) -/

/-- What a modal verdict record carries beyond its subject. -/
structure ModVerdict where
  group : Nat
  band : Nat
  kind : Nat
  active : Bool
  cause : Nat
  slot : Nat
  alc : Nat
  num : Nat
  freq : Nat
  damp : Nat
  amp : Nat
  thr : Nat
  base : Nat
  chan : Nat
  deriving DecidableEq, Repr

/-- The 64 bytes of a record. -/
def ModVerdict.bytes (v : ModVerdict) (bank unit epoch inst ready : Nat) : List Byte :=
  words [v.kind + bit v.active 3 + bank * 2 ^ 4 + v.cause * 2 ^ 5 + 2 ^ 7 + v.band * 2 ^ 8 + v.group * 2 ^ 10 + v.slot * 2 ^ 16 +
    v.alc % 64 * 2 ^ 20, unit, epoch, v.num % 2 ^ 32] ++ leBytes 8 inst ++ leBytes 8 ready ++
    words [v.freq, v.damp, v.amp, v.thr, v.base, v.chan % 4096, 0, 0]

def State.modRing (s : State) : Nat := s.val64 Reg.MODAL_RBASELO Reg.MODAL_RBASEHI

/-- A verdict record written; it also joins what VHASH covers (R203, R362). -/
def State.modRecord (s : State) (sc bank inst : Nat) (v : ModVerdict) : State :=
  let i := s.val Reg.MODAL_VRHEAD % 16384
  let s1 := s.putDev (s.modRing + 0x200000 + 64 * i) (v.bytes bank s.unitId s.epoch inst s.ns)
  let s2 := s1.setVal Reg.MODAL_VRHEAD ((i + 1) % 16384)
  let s3 := if s2.modal.written < 16384 then s2 else (s2.bump Reg.MODAL_VRWRAP).raise E.MODAL 3
  let s4 := s3.bump (if v.active then Reg.MODAL_RAISES else Reg.MODAL_CLEARS)
  let rel := (sc, inst)
  { s4 with
    modal := { s4.modal with
      written := min (s4.modal.written + 1) 16384
      wrote := if s4.modal.wrote.contains rel then s4.modal.wrote else s4.modal.wrote ++ [rel] }
    det := { s4.det with vrecs := tmod (fun _ => []) s4.det.vrecs sc (· ++ v.bytes bank 0 0 inst 0) } }

/-- The subject of a modal verdict. -/
def modSubject (g b k : Nat) : Nat := g * 16 + b * 4 + k - 1

/-- The change a modal verdict makes to its channel: kinds 4-7 of Table 10-1. -/
def ModVerdict.change (v : ModVerdict) (sc : Nat) : AlmChange :=
  { chan := v.alc, op := if v.active then .add else .drop
    c := { kind := 3 + v.kind, subject := modSubject v.group v.band v.kind, sc := sc, seq := v.num % 2 ^ 32 } }

/-- A clear's record: what it carries of a track the spec does not say; free values (notes/assumptions/22). -/
def State.clearRecord (s : State) (g b k cause alc num : Nat) : State × ModVerdict :=
  let f := fun i => Config.freeNat (s.free + i)
  ({ s with free := s.free + 7 },
   { group := g, band := b, kind := k, active := false, cause := cause, slot := f 0 % 8, alc := alc, num := num, freq := f 1 % 2 ^ 32,
     damp := f 2 % 2 ^ 32, amp := f 3 % 2 ^ 32, thr := f 4 % 2 ^ 32, base := f 5 % 2 ^ 32, chan := f 6 % 4096 })

/-- Verdicts written and sent to their channels together. -/
def State.modVerdicts (s : State) (sc bank inst : Nat) (vs : List ModVerdict) : State :=
  if vs.isEmpty then s
  else (vs.foldl (fun (s : State) v => s.modRecord sc bank inst v) s).alarms (vs.map (·.change sc))

/-- The EVC records of a release once its last update and growth verdict are ready (R201, R203). -/
def State.modAnnounce (s : State) (sc inst : Nat) (report : Bool) : State :=
  let more := s.modal.runs.any (fun r => r.sc == sc && r.inst == inst)
  let grows := s.modal.grows.any (fun r => r.sc == sc && r.inst == inst)
  let s1 := if report && !more then s.event 0x0F8 (s.val Reg.MODAL_MRHEAD % 8192) else s
  if !more && !grows && s1.modal.wrote.contains (sc, inst) then
    let s2 := s1.event 0x0F9 (s1.val Reg.MODAL_VRHEAD % 16384)
    { s2 with modal := { s2.modal with wrote := s2.modal.wrote.filter (· ≠ (sc, inst)) } }
  else s1

/-! ### Alarm states (R194, R198) -/

/-- What an update says of one kind's state: its next state and whether it raises or clears with a cause. -/
def stepAlarm (a : ModAlarm) (mconf mclr : Nat) (nodata hit growth : Bool) : ModAlarm × Option (Bool × Nat) :=
  if nodata then
    if a.active && mclr ≤ a.nodata + 1 then ({ a with active := false, nodata := 0, hit := 0, quiet := 0 }, some (false, 2))
    else ({ a with nodata := a.nodata + 1 }, none)
  else if hit then
    let up := !a.active && !growth && mconf ≤ a.hit + 1
    ({ a with active := a.active || up, hit := a.hit + 1, quiet := 0, nodata := 0 }, if up then some (true, 0) else none)
  else
    let c := a.active && mclr ≤ a.quiet + 1
    ({ a with active := a.active && !c, hit := 0, quiet := a.quiet + 1, nodata := 0 }, if c then some (false, 1) else none)

/-- Alarm states that stand on a class whose group is no longer enabled on it (R204). -/
def State.modOrphans (s : State) (bk : Bank) (sc : Nat) : List (Nat × Nat × Nat) :=
  (s.modal.alarms.filter (fun p => p.2.active && p.2.sc == sc)).filterMap (fun p =>
    let g := p.1 / 16
    let ge := bk.entry 1 g
    if grOn ge && grClass ge == sc && grKind ge (p.1 % 4 + 1) then none else some (g, p.1 / 4 % 4, p.1 % 4 + 1))

/-! ### An update is ready (R190-R203) -/

/-- A track as an update leaves it: matched, unmatched, or freed. -/
def nextTrack (drop : Nat) (hits : List ModHit) (tops : List (Nat × Nat)) (i : Nat) (t : Option Track) : Option Track :=
  match hits.find? (·.slot == i), t with
  | some h, old =>
    let m : ModMatch := { freq := h.est.freq, damp := h.est.damp }
    let top := ((tops.find? (·.1 == i)).map (·.2)).getD 0
    match (if h.new then none else old) with
    | some o => some { freq := h.est.freq, damp := h.est.damp, amp := h.est.amp, top := top, miss := 0, age := o.age + 1,
                       hist := (m :: o.hist).take 15 }
    | none => some { freq := h.est.freq, damp := h.est.damp, amp := h.est.amp, top := top, miss := 0, age := 1, hist := [m] }
  | none, some o => if drop ≤ o.miss + 1 then none else some { o with miss := o.miss + 1 }
  | none, none => none

/-- Which conditions a matched track meets: damping, amplitude, forced (R193). -/
def Bank.conditions (bk : Bank) (ge : List Nat) (t : Track) (base : Nat) : List Bool :=
  let forced := bk.forced t
  [!forced && fmt32.lt t.damp (fmt32.ofRat (bk.fld Reg.MODAL_DAMPCFG F.MODAL_DAMPCFG_DAMPLO) 100) && f32le (ampMin ge) t.amp,
   f32le (bk.thr ge base) t.amp, forced && f32le (ampFloor ge) t.amp]

/-- The report of an update (R201). -/
def modReport (r : ModRun) (unit epoch ready : Nat) (partl refsub nodata : Bool) (bk : Bank) (hits : List ModHit)
    (ts : List (Option Track)) : List Byte :=
  let ge := bk.entry 1 r.group
  let entry := fun (i : Nat) => match ts.getD i none with
    | none => List.replicate 28 (0 : Byte)
    | some t =>
      let base := (r.base.getD (binOf r.band t.freq) (0, 0)).1
      let h := hits.find? (·.slot == i)
      let c := if h.isSome then bk.conditions ge t base else [false, false, false]
      words [t.freq, t.damp, t.amp, base, bk.thr ge base,
        1 + bit (bk.forced t) 1 + bit ((h.map (·.new)).getD false) 2 + bit (c.getD 0 false) 3 + bit (c.getD 1 false) 4 +
          bit (c.getD 2 false) 5 + min t.miss 255 * 2 ^ 8 + min t.age 255 * 2 ^ 16, t.top % 4096]
  words [0xA60D + r.band * 2 ^ 16 + r.group * 2 ^ 18 + r.sc * 2 ^ 24 + r.bank * 2 ^ 27 + bit partl 28 + bit refsub 29 + bit nodata 30,
    r.u / bandInterval r.band % 2 ^ 32, epoch, unit + (ts.filter (·.isSome)).length * 2 ^ 8 + r.cols.length * 2 ^ 12] ++
    leBytes 8 r.u ++ leBytes 8 ready ++ ((List.range 8).map entry).flatten

/-- The report written to its ring. -/
def State.putReport (s : State) (b : List Byte) : State :=
  let i := s.val Reg.MODAL_MRHEAD % 8192
  let s1 := (s.putDev (s.modRing + 256 * i) b).setVal Reg.MODAL_MRHEAD ((i + 1) % 8192)
  let s2 := if s1.modal.reports < 8192 then s1 else (s1.bump Reg.MODAL_MRWRAP).raise E.MODAL 2
  { s2 with modal := { s2.modal with reports := min (s2.modal.reports + 1) 8192 } }

/-- The shape entry of a matched slot (R202). -/
def shapeBytes (upd : Nat) (sh : List (Nat × Nat × Nat)) : List Byte :=
  let l := sh.take 32
  let b := words [upd % 2 ^ 32, l.length, 0, 0] ++ (l.map (fun x => words [x.1, x.2.1, x.2.2])).flatten
  b ++ List.replicate (512 - b.length) 0

/-- One bin's baseline after an update (R196): `a` the largest AMP seen in it. -/
def Bank.learn (bk : Bank) (ge : List Nat) (a : Nat) (x : Nat × Nat) : Nat × Nat :=
  let bq := fmt32.ofRat (bk.fld Reg.MODAL_BASECFG F.MODAL_BASECFG_BQ) 256
  let st := fmt32.mul (fmt32.ofRat 1 (2 ^ bk.fld Reg.MODAL_BASECFG F.MODAL_BASECFG_BSTEP)) (f32max x.1 (fmt32.div (ampFloor ge) bk.bmult))
  (if fmt32.lt x.1 a then fmt32.add x.1 (fmt32.mul st bq)
   else f32max 0 (f32sub x.1 (fmt32.mul st (f32sub f32One bq))), min (x.2 + 1) 65535)

/-- Baselines of a group and band learn (R196). -/
def State.learnBases (s : State) (r : ModRun) (bk : Bank) (amps : List (Nat × Nat)) : State :=
  let ge := bk.entry 1 r.group
  let es := ((List.range 16).filter (fun i => !r.wrote.contains i)).map (fun i =>
    let a := (amps.filter (·.1 == i)).foldl (fun m x => f32max m x.2) 0
    let x := bk.learn ge a (r.base.getD i (0, 0))
    (r.group * 64 + r.band * 16 + i, x.1, x.2))
  (es.foldl (fun (s : State) e => s.setBaseline e.1 (e.2.1, e.2.2)) s).sendDelta (.baseline (r.u / bandInterval r.band % 2 ^ 32) es)

/-- The matched track of largest AMP that meets a kind's condition, ties to the lower slot. -/
def biggestHit (l : List (Nat × Track × Nat)) : Option (Nat × Track × Nat) :=
  l.foldl (fun m x => match m with
    | some y => if fmt32.lt y.2.1.amp x.2.1.amp then some x else some y
    | none => some x) none

/-- The verdicts of an update for one kind, 1-3, or 4 for growth clears. -/
def State.updAlarm (s : State) (r : ModRun) (bk : Bank) (nodata : Bool) (met : List (Nat × Track × Nat)) (k : Nat) :
    State × List ModVerdict :=
  let ge := bk.entry 1 r.group
  if !grKind ge k then (s, [])
  else
    let mconf := bk.fld Reg.MODAL_MCFG F.MODAL_MCFG_MCONF
    let mclr := bk.fld Reg.MODAL_MCFG F.MODAL_MCFG_MCLR
    let a := s.mAlarm r.group r.band k
    let hit := if k = 4 then tget (fun _ => false) s.modal.grown (r.group * 4 + r.band) else !met.isEmpty
    let (a1, out) := stepAlarm a mconf mclr nodata hit (k == 4)
    let upd := r.u / bandInterval r.band % 2 ^ 32
    match out with
    | none => (s.setMAlarm r.group r.band k a1, [])
    | some (true, _) =>
      let (slot, t, base) := (biggestHit met).getD (0, ⟨0, 0, 0, 0, 0, 0, []⟩, 0)
      let alc := grLine ge k
      (s.setMAlarm r.group r.band k { a1 with sc := r.sc, alc := alc },
        [{ group := r.group, band := r.band, kind := k, active := true, cause := 0, slot := slot, alc := alc, num := upd, freq := t.freq,
           damp := t.damp, amp := t.amp, thr := bk.thr ge base, base := base, chan := t.top }])
    | some (false, cause) =>
      let (s1, v) := (s.setMAlarm r.group r.band k a1).clearRecord r.group r.band k cause a.alc upd
      (s1, [v])

/-- The reference column of an update, and whether it is a substitute (R187). -/
def refCol (refch : Nat) (cols : List ModCol) : Nat × Bool :=
  match cols.findIdx? (·.chan == refch) with
  | some i => (i, false)
  | none => (0, !cols.isEmpty)

/-- An update that is ready. -/
def State.modReady (s0 : State) (r : ModRun) : State :=
  let bk := s0.modBank r.bank
  let ge := bk.entry 1 r.group
  let g := r.group
  let b := r.band
  let rate := s0.rate r.sc
  let nodata := r.cols.isEmpty
  let partl := !nodata && r.left ≠ 0
  let (ref, refsub) := refCol (ge.getD 0 0 % 4096) r.cols
  let rest := s0.modal.runs.filter (fun x => !(x.group == g && x.band == b))
  let s1 : State := { s0 with modal := { s0.modal with runs := rest } }
  let s2 := ((((s1.bump Reg.MODAL_UPDATES).bumpBy Reg.MODAL_PARTIAL (if partl then 1 else 0)).bumpBy Reg.MODAL_NODATAUPD
    (if nodata then 1 else 0)).bumpBy Reg.MODAL_EXCLUDED r.left)
  let s3 := if refsub then (s2.bump Reg.MODAL_NOREF).raise E.MODAL 6 else s2
  let es := if nodata then [] else estimates rate b r.u ref r.cols
  let old := (List.range 8).map (fun i => s3.track g b i)
  let hits := if nodata then [] else matchEsts (bk.fld Reg.MODAL_MCFG F.MODAL_MCFG_TRACKTOL) old es
  let chans := r.cols.map (·.chan)
  let shapes := hits.map (fun h => (h.slot, shapeOf ref chans h.est))
  let tops := shapes.map (fun p => (p.1, (p.2.head?.map (·.1)).getD 0))
  let new := if nodata then old
    else (List.range 8).map (fun i => nextTrack (bk.fld Reg.MODAL_MCFG F.MODAL_MCFG_TRKDROP) hits tops i (old.getD i none))
  let s4 := (List.range 8).foldl (fun (s : State) i => s.setTrack g b i (new.getD i none)) s3
  let freed := ((List.range 8).filter (fun i => (old.getD i none).isSome && (new.getD i none).isNone)).length
  let s5 := (s4.bumpBy Reg.MODAL_TRACKNEW (hits.filter (·.new)).length).bumpBy Reg.MODAL_TRACKDROP freed
  let matched := (List.range 8).filterMap (fun i => if hits.any (·.slot == i) then (new.getD i none).map (fun t =>
    (i, t, (r.base.getD (binOf b t.freq) (0, 0)).1)) else none)
  let met := fun (k : Nat) => matched.filter (fun m => (bk.conditions ge m.2.1 m.2.2).getD (k - 1) false)
  let (s6, vs) := [1, 2, 3, 4].foldl (fun (p : State × List ModVerdict) k =>
    let q := p.1.updAlarm r bk nodata (met k) k
    (q.1, p.2 ++ q.2)) (s5, [])
  let (s7, lost) := (s6.modOrphans bk r.sc).foldl (fun (p : State × List ModVerdict) o =>
    let a := p.1.mAlarm o.1 o.2.1 o.2.2
    let q := (p.1.setMAlarm o.1 o.2.1 o.2.2 { a with active := false, hit := 0, quiet := 0, nodata := 0 }).clearRecord o.1 o.2.1 o.2.2 2
      a.alc (r.u / bandInterval b % 2 ^ 32)
    (q.1, p.2 ++ [q.2])) (s6, [])
  let quiet := [1, 2, 3, 4].all (fun k => !(s7.mAlarm g b k).active)
  let learns := !nodata && !partl && s7.flag Reg.MODAL_CTL F.MODAL_CTL_LEARN && s7.sys.mode ≠ .test && s7.sys.mode ≠ .shadow && quiet
  let s8 := if learns then s7.learnBases r bk (matched.map (fun m => (binOf b m.2.1.freq, m.2.1.amp))) else s7
  let s9 := s8.putReport (modReport r s8.unitId s8.epoch s8.ns partl refsub nodata bk hits new)
  let s10 := shapes.foldl (fun (s : State) p =>
    s.putDev (s.modRing + 0x300000 + trackKey g b p.1 * 512) (shapeBytes (r.u / bandInterval b) p.2)) s9
  let s11 : State := { s10 with modal := { s10.modal with grown := tput (fun _ => false) s10.modal.grown (g * 4 + b) false } }
  let took := (s11.ns - r.relAt) / 1000 % 2 ^ 24
  let s12 := if s11.val Reg.MODAL_UPDMAX < took then s11.setVal Reg.MODAL_UPDMAX took else s11
  (s12.modVerdicts r.sc r.bank r.inst (vs ++ lost)).modAnnounce r.sc r.inst true

/-- MODAL_UPDATE_READY (R190). -/
def execModalUpdateReady (t group band : Nat) (s : State) : Host.Outcome State Fault Refusal :=
  s.liveAt t (fun s => match s.modal.runs.find? (fun r => r.group == group && r.band == band) with
    | some r => s.modReady r
    | none => s)

/-- A growth verdict (R198, R203). -/
def State.growthReady (s : State) (w : ModGrow) : State :=
  let ge := (s.modBank w.bank).entry 1 w.group
  let alc := grLine ge 4
  let rest := s.modal.grows.filter (fun x => !(x.group == w.group && x.band == w.band))
  let s1 : State := { s with modal := { s.modal with grows := rest } }
  let s2 := s1.setMAlarm w.group w.band 4 { active := true, sc := w.sc, alc := alc }
  let v : ModVerdict := { group := w.group, band := w.band, kind := 4, active := true, cause := 0, slot := 0, alc := alc, num := w.k,
                          freq := 0, damp := 0, amp := w.e, thr := w.gth, base := w.e0, chan := w.chan }
  (s2.modVerdicts w.sc w.bank w.inst [v]).modAnnounce w.sc w.inst false

/-- GROWTH_HIT (R198). -/
def execGrowthHit (t group band : Nat) (s : State) : Host.Outcome State Fault Refusal :=
  s.liveAt t (fun s => match s.modal.grows.find? (fun w => w.group == group && w.band == band) with
    | some w => s.growthReady w
    | none => s)

/-- A lattice image load clears tracks, states, histories and baselines (R204). -/
def State.modalClear (s : State) : State :=
  { s with modal := { s.modal with
    chans := []
    tracks := []
    alarms := []
    base := []
    lastInst := []
    runs := []
    grows := []
    grown := []
    wrote := [] } }

/-- KVER of DET.STAT and MODAL.STAT: the library version of the image loaded. -/
def State.kver (s : State) : Nat := s.val Reg.LAT_KLIBVER % 65536

/-- MODAL.STAT as read. -/
def State.modStat (s : State) : Nat :=
  s.lat.abank % 2 + bit (s.flag Reg.MODAL_STAT F.MODAL_STAT_TBUSY) 1 + bit (!s.modal.runs.isEmpty) 2 + s.kver * 2 ^ 16

end Sys2Proof.Machine
end

