-- ==== Sys2Proof/Machine/Verdicts.lean ====
section
/-!
DEFINITION. Verdicts that are ready: records, alarm channels, the comparison of provisional and final runs, retractions, the budget
(R133-R143, R173, R178, R179, R183), and the end of a bank copy.
-/
namespace Sys2Proof.Machine

/-! ### Records (R179) -/

/-- Marks of a verdict record: PROV, CONFIRMED, TAKEOVER. -/
structure VerdictMarks where
  prov : Bool
  confirmed : Bool
  takeover : Bool
  deriving DecidableEq, Repr

/-- The 64 bytes of a verdict record (Table 08-2). -/
def Verdict.bytes (v : Verdict) (r : DetRun) (k : VerdictMarks) (unit epoch ready : Nat) : List Byte :=
  words [v.det + bit v.active 2 + bit k.prov 3 + bit k.confirmed 4 + bit k.takeover 5 + r.bank * 2 ^ 6 + bit v.restep 7 +
    r.sc * 2 ^ 8 + v.cause * 2 ^ 11 + 2 ^ 13 + v.alc % 64 * 2 ^ 16 + unit * 2 ^ 24, r.snap.seq, v.subject, epoch] ++
    leBytes 8 r.snap.inst ++ leBytes 8 ready ++ words (padTo 5 v.attrs ++ [0, 0, 0])

/-- The counter of a verdict. -/
def Verdict.counter (v : Verdict) : Nat :=
  match v.det, v.active with
  | 1, true => Reg.DET_ISLRAISE
  | 1, false => Reg.DET_ISLCLEAR
  | 2, true => Reg.DET_STEPRAISE
  | 2, false => Reg.DET_STEPCLEAR
  | _, true => Reg.DET_SEPRAISE
  | _, false => Reg.DET_SEPCLEAR

/-- A record written to the ring. -/
def State.putVerdict (s : State) (r : DetRun) (v : Verdict) (k : VerdictMarks) : State :=
  let i := s.val Reg.DET_VRHEAD % 65536
  let s1 := s.putDev (s.val64 Reg.DET_VRBASELO Reg.DET_VRBASEHI + 64 * i) (v.bytes r k s.unitId s.epoch s.ns)
  let s2 := (s1.setVal Reg.DET_VRHEAD ((i + 1) % 65536)).bump v.counter
  let s3 := if s2.det.written < 65536 then s2 else (s2.bump Reg.DET_VRWRAP).raise E.DET 1
  { s3 with det := { s3.det with written := min (s3.det.written + 1) 65536 } }

/-- A verdict's contribution to its channel. -/
def Verdict.contrib (v : Verdict) (r : DetRun) (k : VerdictMarks) : Contrib :=
  { kind := v.det, subject := v.subject, sc := r.sc, seq := r.snap.seq, takeover := k.takeover, prov := k.prov }

/-! ### Outcomes (R135-R140) -/

/-- Codes: 1 RETRACT, 2 LATERAISE, 3 REVISED, 4 DISCARD. -/
structure Outcome4 where
  code : Nat
  sc : Nat
  seq : Nat
  det : Nat
  subject : Nat
  bankchg : Bool
  counted : Bool
  takeover : Bool
  level : Nat
  provTime : Nat
  finalTime : Nat
  provEpoch : Nat
  pcover : Nat
  fcover : Nat
  hend : Nat
  deriving DecidableEq, Repr

/-- The 48-byte payload of an outcome record (Table 06-1). -/
def Outcome4.bytes (o : Outcome4) (unit epoch : Nat) : List Byte :=
  words [o.seq, o.sc + o.det * 2 ^ 3 + o.code * 2 ^ 5 + bit o.bankchg 8 + bit o.counted 9 + bit o.takeover 10 + o.level % 16 * 2 ^ 12 +
    unit * 2 ^ 16, o.subject, epoch] ++ leBytes 8 o.provTime ++ leBytes 8 o.finalTime ++
    words [o.provEpoch, o.pcover + o.fcover * 2 ^ 16] ++ leBytes 8 o.hend

/-- An outcome: its ledger record of TYPE 0x0610-0x0613 and its counter. -/
def State.outcome (s : State) (o : Outcome4) : State :=
  let s1 := s.offer (0x060F + o.code) (o.bytes s.unitId s.epoch)
  match o.code with
  | 1 => s1.bump (Reg.SNAP_SCnRETRACT o.sc)
  | 2 => s1.bump (Reg.SNAP_SCnLATERAISE o.sc)
  | 3 => s1.bump (Reg.SNAP_SCnREVISED o.sc)
  | _ => s1

/-- H_end of a raise in its channel (R136). -/
def State.hendOf (s : State) (v : Verdict) : Nat :=
  ((((s.chan v.alc).subs.find? (fun c => c.kind == v.det && c.subject == v.subject)).map s.hend).getD 0)

/-- What a final run's comparison says of one provisional raise (R135). -/
def State.provOutcome (s : State) (r : DetRun) (fs : List Verdict) (p : ProvRaise) : Option Outcome4 :=
  let takeover := p.epoch ≠ s.epoch
  let bankchg := p.bank ≠ r.bank
  let o : Outcome4 := { code := 1, sc := r.sc, seq := p.seq, det := p.verdict.det, subject := p.verdict.subject, bankchg := bankchg,
                        counted := !bankchg && !takeover, takeover := takeover, level := p.level, provTime := p.time,
                        finalTime := r.time, provEpoch := p.epoch, pcover := p.cover, fcover := r.snap.cover,
                        hend := if takeover then 0 else s.hendOf p.verdict }
  match fs.find? (fun v => v.det == p.verdict.det && v.subject == p.verdict.subject) with
  | none => some o
  | some v => if v.attrs = p.verdict.attrs then none else some { o with code := 3, counted := false }

/-- A final raise without a provisional one, on a snapshot that had a provisional release: LATERAISE (R135). -/
def State.lateOutcome (s : State) (r : DetRun) (pr : ProvRel) (v : Verdict) : Outcome4 :=
  { code := 2, sc := r.sc, seq := r.snap.seq, det := v.det, subject := v.subject, bankchg := pr.bank ≠ r.bank, counted := false,
    takeover := pr.epoch ≠ s.epoch, level := pr.level, provTime := 0, finalTime := r.time, provEpoch := pr.epoch, pcover := pr.cover,
    fcover := r.snap.cover, hend := s.hendOf v }

/-- The debt of a detector raised by a snapshot with counted retractions, and the tightening that follows (R139). -/
def State.charge (s : State) (n det : Nat) : State :=
  let d := s.debt n (det - 1) + 1
  if s.fld (Reg.SNAP_SCnPCFG n) F.SNAP_SCnPCFG_PRBMAX < d && s.plevel n < 8 then
    ((s.changeLevel n det (s.plevel n + 1) 0 0 0).raise E.SNAP 6).bump (Reg.SNAP_SCnTIGHTEN n)
  else
    let v := fun (k : Nat) => if k + 1 = det then min d 15 else s.debt n k
    ((s.setPstate n (s.plevel n) (v 0) (v 1) (v 2)).setSc n { s.sc n with relaxFrom := s.ns }).sendDelta
      (.level n (s.plevel n) (v 0) (v 1) (v 2))

/-! ### Runs -/

/-- The longest time from a release to its last verdict. -/
def State.noteRun (s : State) (r : DetRun) : State :=
  let took := (s.ns - r.time) / 1000 % 2 ^ 21
  if s.val Reg.DET_RUNMAX < took then s.setVal Reg.DET_RUNMAX took else s

/-- A run's nodata evaluations counted, and a pass that is not held (R173). -/
def State.noteData (s : State) (r : DetRun) (ds : List Decision) : State :=
  let s1 := s.bumpBy Reg.DET_NODATA (ds.filter (·.nodata)).length
  if ds.any (fun d => d.det == 1) && (s.passCounts r.snap.inst 0).isNone then s1.raise E.DET 3 else s1

/-- The EVC record at the end of a run that wrote records. -/
def State.ringEvent (s : State) (wrote : Bool) : State := if wrote then s.event 0x0E8 (s.val Reg.DET_VRHEAD % 65536) else s

/-- The verdicts of a provisional run: raises only; its states are discarded (R133, R134). -/
def State.provVerdicts (s : State) (r : DetRun) (ds : List Decision) : State :=
  let vs := (ds.filterMap (·.verdict)).filter (fun v => v.active && !v.restep)
  let k : VerdictMarks := { prov := true, confirmed := false, takeover := false }
  let s1 := vs.foldl (fun (s : State) v => s.putVerdict r v k) (s.bump Reg.DET_PROVRUNS)
  let level := (r.snap.prov.map (·.level)).getD 0
  let ps := vs.map (fun v => ({ sc := r.sc, seq := r.snap.seq, verdict := v, bank := r.bank, epoch := s.epoch, time := r.time,
                                cover := (r.snap.prov.map (·.cover)).getD 0, level := level } : ProvRaise))
  let s2 : State := { s1 with det := { s1.det with raises := s1.det.raises ++ ps } }
  (s2.alarms (vs.map (fun v => { chan := v.alc, op := .add, c := v.contrib r k }))).ringEvent (!vs.isEmpty)

/-- What a final verdict tells its channel, after the provisional raise of its subject if there was one. -/
def finalChanges (r : DetRun) (ps : List ProvRaise) (takeover : Bool) (v : Verdict) : List AlmChange :=
  let k : VerdictMarks := { prov := false, confirmed := false, takeover := takeover }
  let c := v.contrib r k
  if !v.active then [{ chan := v.alc, op := .drop, c := c }]
  else
    match ps.find? (fun p => p.verdict.det == v.det && p.verdict.subject == v.subject) with
    | some p =>
      if p.verdict.alc = v.alc then [{ chan := v.alc, op := .confirm, c := c }, { chan := v.alc, op := .add, c := c }]
      else [{ chan := p.verdict.alc, op := .drop, c := { c with prov := true } }, { chan := v.alc, op := .add, c := c }]
    | none => [{ chan := v.alc, op := .add, c := c }]

/-- The verdicts of a final run, the comparison with the provisional run, and the states kept (R133-R140, R178). -/
def State.finalVerdicts (s : State) (r : DetRun) (ds : List Decision) (seps : List (Nat × Nat)) : State :=
  let vs := ds.filterMap (·.verdict)
  let fs := vs.filter (fun v => v.active && !v.restep)
  let ps := s.det.raises.filter (fun p => p.sc == r.sc && p.seq == r.snap.seq)
  let isP := fun (v : Verdict) => v.active && !v.restep && ps.any (fun p => p.verdict.det == v.det && p.verdict.subject == v.subject)
  let takeover := r.takeover || ps.any (fun p => p.epoch ≠ s.epoch)
  let outs := ps.filterMap (s.provOutcome r fs) ++ (match r.snap.prov with
    | some pr => (fs.filter (fun v => !isP v)).map (s.lateOutcome r pr)
    | none => [])
  let s1 := s.bump Reg.DET_RUNS
  let mark := fun (v : Verdict) => ({ prov := false, confirmed := isP v, takeover := takeover } : VerdictMarks)
  let s2 := vs.foldl (fun (s : State) v => s.putVerdict r v (mark v)) s1
  let recs := (vs.map (fun v => v.bytes r (mark v) 0 0 0)).flatten
  let gone := ps.filter (fun p => !fs.any (fun v => v.det == p.verdict.det && v.subject == p.verdict.subject))
  let k : VerdictMarks := { prov := true, confirmed := false, takeover := takeover }
  let xs := gone.map (fun p => ({ chan := p.verdict.alc, op := .retract true, c := p.verdict.contrib r k } : AlmChange)) ++
    (vs.map (finalChanges r ps takeover)).flatten
  let s3 := outs.foldl State.outcome s2
  let s4 := s3.alarms xs
  let s5 := [1, 2, 3].foldl (fun (s : State) d =>
    if outs.any (fun o => o.code == 1 && o.counted && o.det == d) then s.charge r.sc d else s) s4
  let s6 : State := { s5 with det := { s5.det with
    raises := s5.det.raises.filter (fun p => !(p.sc == r.sc && p.seq == r.snap.seq))
    vrecs := tput (fun _ => []) s5.det.vrecs r.sc recs } }
  (s6.keepRun r ds seps).ringEvent (!vs.isEmpty)

/-- The first run of a list that matches, taken out. -/
def dropRun (n : Nat) : List DetRun → List DetRun
  | [] => []
  | r :: rs => if r.sc = n then rs else r :: dropRun n rs

/-- The class's oldest run is ready. -/
def State.verdictsReady (s : State) (r : DetRun) : State :=
  let (ds, seps) := s.runDecisions r
  let s1 : State := { s with det := { s.det with runs := dropRun r.sc s.det.runs } }
  let s2 := s1.noteData r ds
  (if r.prov then s2.provVerdicts r ds else s2.finalVerdicts r ds seps).noteRun r

/-- Whether a run has what it waits for: ISLAND and SEP wait for COHERE, a final run for the provisional run before it (R171). -/
def State.runReady (s : State) (r : DetRun) : Bool := r.cohere.isSome || (!s.detOn 1 r && !s.detOn 3 r)

/-- VERDICT_READY (R178). -/
def execVerdictReady (t sc : Nat) (prov : Bool) (s : State) : Host.Outcome State Fault Refusal :=
  s.liveAt t (fun s =>
    match s.det.runs.find? (fun r => r.sc == sc) with
    | none => s
    | some r => if r.prov = prov && s.runReady r then s.verdictsReady r else s)

/-- The provisional raises of discarded snapshots of a class (R142): outcome DISCARD, withdrawn at once without the hold. -/
def State.discardRaises (s : State) (n : Nat) (seqs : List Nat) : State :=
  let ps := s.det.raises.filter (fun p => p.sc == n && seqs.contains p.seq)
  let s1 := ps.foldl (fun (s : State) p => s.outcome
    { code := 4, sc := n, seq := p.seq, det := p.verdict.det, subject := p.verdict.subject, bankchg := false, counted := false,
      takeover := p.epoch ≠ s.epoch, level := p.level, provTime := p.time, finalTime := s.ns, provEpoch := p.epoch, pcover := p.cover,
      fcover := 0, hend := 0 }) s
  let s2 : State := { s1 with det := { s1.det with
    raises := s1.det.raises.filter (fun p => !(p.sc == n && seqs.contains p.seq))
    runs := s1.det.runs.filter (fun r => !(r.sc == n && r.prov && seqs.contains r.snap.seq)) } }
  if ps.isEmpty then s2
  else s2.alarms (ps.map (fun p => { chan := p.verdict.alc, op := .retract false
                                     c := { kind := p.verdict.det, subject := p.verdict.subject, sc := n, seq := p.seq, prov := true } }))

/-! ### Bank copies (R183, R205) -/

/-- DET's bank copy complete: the inactive bank equals the active one, and the held writes are taken. -/
def State.detCopied (s : State) : State :=
  let s1 : State := { s with det := if s.lat.abank = 0 then { s.det with bankB := s.det.bankA, held := [] }
                                    else { s.det with bankA := s.det.bankB, held := [] } }
  s.det.held.foldl State.detWrite (s1.setFld Reg.DET_STAT F.DET_STAT_TBUSY 0)

/-- MODAL's bank copy complete. -/
def State.modCopied (s : State) : State :=
  let s1 : State := { s with modal := if s.lat.abank = 0 then { s.modal with bankB := s.modal.bankA, held := [] }
                                      else { s.modal with bankA := s.modal.bankB, held := [] } }
  s.modal.held.foldl State.modWrite (s1.setFld Reg.MODAL_STAT F.MODAL_STAT_TBUSY 0)

/-- BANK_COPY_COMPLETE (R183, R205). -/
def execBankCopyComplete (t : Nat) (modal : Bool) (s : State) : Host.Outcome State Fault Refusal :=
  s.liveAt t (fun s =>
    if modal then (if s.flag Reg.MODAL_STAT F.MODAL_STAT_TBUSY then s.modCopied else s)
    else (if s.flag Reg.DET_STAT F.DET_STAT_TBUSY then s.detCopied else s))

/-- A lattice image load clears all detector state and histories, without clear records (R182). -/
def State.detClear (s : State) : State :=
  { s with det := { s.det with
    runs := []
    deltas := []
    steps := []
    seps := []
    subjects := []
    raises := []
    passes := []
    vrecs := [] } }

end Sys2Proof.Machine
end

