-- ==== Sys2Proof/Machine/Lattice.lean ====
section
/-!
DEFINITION. The lattice in service: input queues and control items, bank swaps, tiles as their registers show them (R303-R309, R320-R322).
-/
namespace Sys2Proof.Machine

/-! ### Tiles and queues (R303-R308) -/

def State.tile (s : State) (i : Nat) : Option Tile := tget (fun _ => none) s.lat.tiles i

/-- The endpoint code of input queue `q` (tile index * 4 + queue). -/
def inputEnd (q : Nat) : Nat := q / 4 % 16 * 2048 + q / 64 * 128 + q % 4

/-- The connection whose consumer is an input queue. -/
def State.connOf (s : State) (q : Nat) : Option Conn := s.lat.conns.find? (fun c => c.dst == inputEnd q)

def State.queue (s : State) (q : Nat) : List Nat := tget (fun _ => []) s.lat.queues q

def State.setQueue (s : State) (q : Nat) (l : List Nat) : State :=
  { s with lat := { s.lat with queues := tput (fun _ => []) s.lat.queues q l } }

/-- Whether the tiles run: the lattice runs, or QUIESCE and LOCKOUT for MTRX tiles (R273). -/
def State.tileRuns (s : State) (i : Nat) : Bool :=
  match s.tile i with
  | some t => !t.fault && (s.latRuns || (t.kernel == 9 && (s.sys.mode == .quiesce || s.sys.mode == .lockout)))
  | none => false

/-- The input queue that QSEL names. -/
def State.qsel (s : State) : Nat :=
  let v := s.val Reg.LAT_QSEL
  (bitsOf v 4 4 * 16 + v % 16) * 4 + bitsOf v 8 2

/-- QCMD.FLUSH: the connection of the selected queue is emptied. -/
def State.writeQcmd (s : State) (v : Nat) : State :=
  if bitAt v 0 = 1 then (s.setQueue s.qsel []).bump Reg.LAT_FLUSHES else s

def execFlush (req : Requester) (value : Nat) (s : State) : Host.Outcome State Fault Refusal :=
  s.live (fun s => s.writeBy req Reg.LAT_QCMD value (fun s => s.writeQcmd value))

/-- What running tiles take from their queues in one TB tick: 5 LAT cycles, one item of each queue a cycle. -/
def State.drainQueues (s : State) : State :=
  s.lat.queues.foldl (fun s p => if s.tileRuns (p.1 / 4) then s.setQueue p.1 (p.2.drop 5) else s) s

/-! ### Control items (R309) -/

/-- The 128 bits of a CTRL item (Table 15-2). -/
def CtlHold.item (h : CtlHold) : Nat :=
  5 * 2 ^ 124 + h.chan * 2 ^ 119 + h.time % 2 ^ 64 * 2 ^ 48 + h.frac % 2 ^ 16 * 2 ^ 32 + (if h.late then 2 ^ 31 else 0) +
    min h.count 0xFFFF

def State.ctlHold (s : State) (q : Nat) : Option CtlHold := tget (fun _ => none) s.lat.holds q

def State.setCtlHold (s : State) (q : Nat) (h : Option CtlHold) : State :=
  { s with lat := { s.lat with holds := tput (fun _ => none) s.lat.holds q h } }

/-- A compare firing with ACTION 4: its item goes to the holding register of its queue, merged with one that waits there; a queue that
is no control input takes none. -/
def State.ctlFire (s : State) (q : Nat) (h : CtlHold) : State :=
  if ((s.connOf q).map (·.ctrl)).getD false then
    match s.ctlHold q with
    | some w => s.setCtlHold q (some { w with count := min (w.count + h.count) 0xFFFF })
    | none => s.setCtlHold q (some h)
  else s.raise E.LAT 3

/-- The item held for a queue enters it; it stays held while the queue is full. -/
def State.ctlEnter (s : State) (q : Nat) (waited : Bool) : State :=
  match s.ctlHold q with
  | none => s
  | some h =>
    let full := 64 ≤ (s.queue q).length
    let s1 := if waited || full then s.bump Reg.LAT_CTLLATE else s
    if full then s1 else (s1.setCtlHold q none).setQueue q (s1.queue q ++ [h.item])

def execCtrlItemEnqueue (t queue : Nat) (waited : Bool) (s : State) : Host.Outcome State Fault Refusal :=
  s.liveAt t (fun s => if queue < 1024 then s.ctlEnter queue waited else s)

/-! ### Bank swaps (R320) -/

/-- Whether a class has changed banks in the swap that is pending. -/
def State.scSwapped (s : State) (n : Nat) : Bool := bitAt s.lat.swapDone n == 1 || !s.scEn n

/-- The bank of a class. -/
def State.scBank (s : State) (n : Nat) : Nat :=
  if s.lat.swapPend && s.scSwapped n then 1 - s.lat.abank else s.lat.abank

/-- The bank that TSTAT shows for a tile: a kernel that has yet to change shows the bank it had at the request. -/
def State.tileBank (s : State) (kernel : Nat) : Nat :=
  let other := kernel = 7 || kernel = 8 || kernel = 9 || kernel = 10
  if other then
    (if s.lat.swapPend != s.lat.late.contains kernel then 1 - s.lat.abank else s.lat.abank)
  else s.lat.abank

/-- The swap ends: ABANK changes, the copies of R183 and R205 begin, the record is posted. -/
def State.swapFinish (s : State) : State :=
  let s1 := { s with lat := { s.lat with abank := 1 - s.lat.abank, swapPend := false, swapSeqs := [] } }
  let s2 := ((s1.setFld Reg.DET_STAT F.DET_STAT_TBUSY 1).setFld Reg.MODAL_STAT F.MODAL_STAT_TBUSY 1).bump Reg.LAT_SWAPS
  if s2.flag Reg.LAT_CTL F.LAT_CTL_SWAPEV then s2.event 0x188 0 else s2

/-- The swap ends once every enabled class has changed. -/
def State.swapCheck (s : State) : State :=
  if s.lat.swapPend && (List.range 8).all s.scSwapped then s.swapFinish else s

/-- A class changes banks. -/
def State.swapClass (s : State) (n : Nat) : State :=
  if !s.lat.swapPend || s.scSwapped n then s
  else
    let s1 := { s with lat := { s.lat with swapDone := maskSet s.lat.swapDone n } }
    (s1.modalSwap n (1 - s1.lat.abank)).swapCheck

/-- A release of a class with a SEQ: the first one after the request changes the class's bank; in SHADOW, the one that the Active
named. -/
def State.swapAtRelease (s : State) (n seq : Nat) : State :=
  match s.lat.swapSeqs.find? (·.1 == n) with
  | some (_, q) => if (seq + 2 ^ 32 - q) % 2 ^ 32 < 2 ^ 31 then s.swapClass n else s
  | none => s.swapClass n

/-- The SEQ of the next release of a class. -/
def State.nextSeq (s : State) (n : Nat) : Nat :=
  match (s.sc n).head with
  | some x => x.seq
  | none => match (s.sc n).last with
    | some l => (l.seq + 1) % 2 ^ 32
    | none => 0

/-- A swap begins. In CONFIGURE it takes effect at once for all tiles. -/
def State.swapBegin (s : State) (seqs : List (Nat × Nat)) : State :=
  let off := ((List.range 8).map (fun n => if s.scEn n then 0 else 2 ^ n)).sum
  let s1 := { s with lat := { s.lat with
    swapPend := true, swapAt := s.ns, swapDone := off, swapSeqs := seqs, late := [7, 8, 9, 10] } }
  if s.sys.mode = .configure then
    let s2 := (List.range 8).foldl (fun s n => s.modalSwap n (1 - s.lat.abank)) s1
    ({ s2 with lat := { s2.lat with swapDone := 0xFF, late := [] } }).swapFinish
  else s1.swapCheck

/-- SWAPCMD written. The Active names to the Standby the SEQ at which each enabled class changes. -/
def State.writeSwapcmd (s : State) (v : Nat) : State :=
  if bitAt v 0 = 0 then s
  else if s.sys.mode = .shadow || s.lat.swapPend then s.cfgErr E.LAT
  else
    let seqs := ((List.range 8).filter s.scEn).map (fun n => (n, s.nextSeq n))
    (s.sendDelta (.swap seqs)).swapBegin []

def execLatticeSwap (req : Requester) (value : Nat) (s : State) : Host.Outcome State Fault Refusal :=
  s.live (fun s => s.writeBy req Reg.LAT_SWAPCMD value (fun s => s.writeSwapcmd value))

def execSwapClassTimeout (t sc : Nat) (s : State) : Host.Outcome State Fault Refusal :=
  s.liveAt t (fun s => if sc < 8 && s.lat.swapPend && s.lat.swapAt + 2000000000 ≤ s.ns then s.swapClass sc else s)

/-! ### Tile faults (R321) -/

/-- A tile stops on a fault. -/
def State.stopTile (s : State) (i : Nat) (x : Tile) : State :=
  let s1 := { s with lat := { s.lat with
    tiles := tput (fun _ => none) s.lat.tiles i (some { x with fault := true })
    mtrFault := s.lat.mtrFault || x.kernel == 9 } }
  (((s1.bump Reg.LAT_TILEFAULTS).raise E.LAT 2).event 0x189 i).mtrSpan

/-! ### Registers (R322) -/

/-- CTL written: RUN 0 is refused outside TEST. -/
def State.writeLatCtl (s : State) (v : Nat) : State :=
  if bitAt v 0 = 0 && s.sys.mode != .test then s.cfgErr E.LAT
  else
    let s1 := s.plainWrite E.LAT Reg.LAT_CTL v
    if s1.latRuns then s1 else s1.abandonPass

/-- LAT.STAT. -/
def State.latStat (s : State) : Nat :=
  let b := fun (x : Bool) (i : Nat) => if x then 2 ^ i else 0
  b s.lat.loaded 0 + b s.lat.job.isSome 1 + b s.lat.swapPend 2 + s.lat.abank % 2 * 8 + s.lat.fmtver % 16 * 16 +
    s.lat.tiles.length * 2 ^ 16

/-- LAT.QSTAT. -/
def State.qstat (s : State) : Nat :=
  let c := s.connOf s.qsel
  (s.queue s.qsel).length + (if c.isSome then 2 ^ 16 else 0) + (if (c.map (·.ctrl)).getD false then 2 ^ 17 else 0)

/-- LAT.TINFO. -/
def State.tinfo (s : State) : Nat :=
  match s.tile (s.val Reg.LAT_TSEL % 256) with
  | some t => t.kernel + t.inst % 256 * 2 ^ 8 + (t.sram + 1023) / 1024 * 2 ^ 16
  | none => 0

/-- LAT.TSTAT. -/
def State.tstat (s : State) : Nat :=
  let i := s.val Reg.LAT_TSEL % 256
  match s.tile i with
  | some t => (if s.tileRuns i then 1 else 0) + (if t.fault then 2 else 0) + s.tileBank t.kernel % 2 * 4
  | none => 0

end Sys2Proof.Machine
end

