-- ==== Sys2Proof/Machine/Release.lean ====
section
/-!
DEFINITION. Releases: final, provisional and amended releases of snapshots, the digests that the Active of a pair sends with them and
the Standby follows, and what is discarded (R110-R121, R130-R137, R142, R143, R358-R363).
-/
namespace Sys2Proof.Machine

/-! ### Digests (R358, R362) -/

/-- VHASH: the first 8 bytes of SHA-256 over the verdict records of the class's previous final runs. -/
def State.vhash (s : State) (n : Nat) : Nat := beNat ((sha256 (tget (fun _ => []) s.det.vrecs n)).take 8)

/-- The body of DIGEST and PROVDIG (Table 17-5). -/
def digestBytes (x : Snapshot) (n vhash : Nat) : List Byte :=
  beBytes 4 x.seq ++ [BitVec.ofNat 8 n, 0] ++ beBytes 2 x.members.length ++ beBytes 8 vhash ++ beBytes 8 (x.dig n) ++
    ((presence x.members x.slots).map (beBytes 8)).flatten ++ (x.present.map (fun q => beBytes 8 (q.2.fhash q.1))).flatten

/-- At a release the Active of a pair tells the Standby the set it admitted; PROVDIG only in protocol version 2. -/
def State.sendDigest (s : State) (n : Nat) (x : Snapshot) (prov : Bool) : State :=
  if s.chd.role != .active || !s.chd.partner.paired || (prov && s.chd.version != 2) || !s.flag Reg.CHD_CTL F.CHD_CTL_EN then s
  else
    let vh := if prov then 0 else s.vhash n
    let s1 := (s.bump Reg.CHD_DIGESTS).chdSend { type := if prov then 4 else 3, epoch := 0, words := [], body := digestBytes x n vh }
    if prov then s1 else s1.setVal (Reg.CHD_DIGSEQn n) x.seq

/-- SYNC is lost: SYNCLOST, and SYNCREQ when AUTORESYNC is 1 (R351). Digests that wait are dropped. -/
def State.loseSync (s : State) : State :=
  let c := s.chd
  let s1 : State := { s with chd := { c with synced := false, digests := [], syncSeqs := [], handedOver := none } }
  if !c.synced then s1
  else
    let s2 := s1.raise E.CHD 5
    if s2.flag Reg.CHD_CTL F.CHD_CTL_AUTORESYNC && c.role = .standby then s2.chdSend { type := 8, epoch := 0, words := [] } else s2

/-- The final digest held for a snapshot of class `n`, or the provisional one. -/
def State.digestOf? (s : State) (n seq : Nat) (prov : Bool) : Option DigestWait :=
  s.chd.digests.find? (fun d => d.body.sc == n && d.body.seq == seq && d.prov == prov)

/-- Whether a snapshot is released on the partner's digests instead of its own window: a SYNCED Standby, a class from the SEQ that
SYNCDONE named, a snapshot before the handover instant at the new Active, or one whose digest a promoted unit holds (R359, R363,
R365, R366). -/
def State.followsDigest (s : State) (n : Nat) (x : Snapshot) : Bool :=
  (s.digestOf? n x.seq false).isSome ||
  (match s.chd.handedOver with
    | some h => if x.inst < h then s.chd.role == .active else s.chd.role == .standby && s.chd.synced
    | none => s.chd.role == .standby &&
        (s.chd.synced || s.chd.syncSeqs.any (fun q => q.1 == n && seqFrom x.seq q.2.1)))

/-- The VID and FHASH of each member that a digest names as present; a member index that this unit's snapshot lacks gives none. -/
def namedBy (x : Snapshot) (d : DigestBody) : List (Nat × Option Nat × Nat) :=
  d.fhash.map (fun p => (p.1, x.members[p.1]?, p.2))

/-- Member indices of a digest for which the snapshot holds no slot with the FHASH named. -/
def unmatched (x : Snapshot) (d : DigestBody) : List Nat :=
  (namedBy x d).filterMap (fun p =>
    match p.2.1 with
    | none => some p.1
    | some v => match x.slots.find? (·.1 == v) with
      | some q => if q.2.fhash v = p.2.2 then none else some p.1
      | none => some p.1)

/-- The slots of a snapshot that a digest admits. -/
def admittedBy (x : Snapshot) (d : DigestBody) : List (Nat × Slot) :=
  let ok := (namedBy x d).filterMap (fun p => p.2.1.map (fun v => (v, p.2.2)))
  x.slots.filter (fun q => ok.any (fun p => p.1 == q.1 && p.2 == q.2.fhash q.1))

/-- At a followed final release the Standby compares VHASH with its own; the first one of each class that SYNCDONE named makes it
SYNCED (R362, R363). -/
def State.checkVhash (s : State) (n : Nat) (d : DigestBody) : State :=
  let own := s.vhash n
  if d.vhash ≠ own then
    (((s.raise E.CHD 4).bump Reg.CHD_DIVERGES).offer 0x1711
      (words [n, d.seq] ++ leBytes 8 d.vhash ++ leBytes 8 own)).loseSync
  else if s.chd.synced || s.chd.syncSeqs = [] || s.chd.imageMis then s
  else
    let q := s.chd.syncSeqs.map (fun p => if p.1 = n then (p.1, p.2.1, true) else p)
    if q.all (·.2.2) then
      ({ s with chd := { s.chd with syncSeqs := [], synced := true } }).event 0x1B1 0
    else { s with chd := { s.chd with syncSeqs := q } }

/-! ### Final release (R111-R113, R117, R119, R121) -/

/-- Slots that read with a double-bit error at release: INVALID and ECC (R121). -/
def Snapshot.markEcc (x : Snapshot) (ecc : List Nat) : Snapshot :=
  { x with slots := x.slots.map (fun p => if ecc.contains p.1 then (p.1, { p.2 with invalid := true, ecc := true }) else p) }

/-- A member at a final release: present, or missing, and absent once it has been missing MISSN times in a row (R112, R113). -/
def State.noteMember (s : State) (n : Nat) (x : Snapshot) (v : Nat) : State :=
  let r := s.stream v
  match x.slots.find? (·.1 == v) with
  | some (_, f) =>
    let dig := if f.invalid then r.dig else some (f.dig, f.test)
    let s1 := s.setStream v { r with missing := 0, absent := false, dig := dig }
    if f.invalid then s1 else s1.writeStreamRow v x.inst f
  | none =>
    let m := r.missing + 1
    let gone := !r.absent && s.val (Reg.SNAP_SCnMISSN n) % 256 ≤ m
    let s1 := (s.setStream v { r with missing := m, absent := r.absent || gone }).bump (Reg.SNAP_SCnMISSING n)
    if gone then s1.raiseInfo E.SNAP 3 v else s1

/-- After a final release the next snapshot is head: its spilled slots are promoted. -/
def State.promoteHead (s : State) (n : Nat) : State :=
  match (s.sc n).head with
  | some x => if x.spill = 0 then s else s.putSnap n { x with promoting := true }
  | none => s

/-- A snapshot finally released, with the slots it then holds. -/
def State.releaseFinal (s : State) (n : Nat) (x0 : Snapshot) (ecc : List Nat) : State :=
  let hit := x0.slots.any (fun p => ecc.contains p.1)
  let s0 := if hit then s.doubleBitAnywhere else s
  let x : Snapshot := { x0.markEcc ecc with finalAt := some s.ns }
  let s1 := (s0.putSnap n x).swapAtRelease n x.seq
  let bank := s1.scBank n
  let s2 := x.members.foldl (fun s v => s.noteMember n x v) s1
  let r : Release := { sc := n, kind := 2, time := s.ns, bank := bank, snap := x }
  let s3 := (((s2.bump (Reg.SNAP_SCnRELEASED n)).setVal (Reg.SNAP_SCnSEQ n) x.seq).toSubs r).setLast r
  let run : DetRun := { sc := n, prov := false, bank := bank, time := s.ns, snap := x
                        takeover := x.taken && s.flag (Reg.SNAP_SCnCFG n) F.SNAP_SCnCFG_PROV }
  let s4 : State := { s3 with det := { s3.det with runs := s3.det.runs ++ [run] } }
  let s5 : State := ((s4.modalRelease n bank x).capFinal n x).sendDigest n x false
  let s6 : State := if s5.horizon n x ≤ s5.ns then s5.freeSnap n x else s5
  s6.promoteHead n

/-- A release that its class's head must wait for: PROMOWAIT once (R119). -/
def State.waitPromotion (s : State) (n : Nat) (x : Snapshot) : State :=
  if x.waited then s
  else ((s.putSnap n { x with waited := true }).bump (Reg.SNAP_SCnPROMOWAIT n)).raise E.SNAP 5

/-! ### Provisional release (R130-R132, R137) -/

/-- The conditions of R130 for the head of a class, but for the mode. -/
def State.provOk (s : State) (n : Nat) (x : Snapshot) : Bool :=
  let pcfg := Reg.SNAP_SCnPCFG n
  let l := s.plevel n
  let pmin := s.val (Reg.SNAP_SCnPMIN n)
  let pcov := s.val (Reg.SNAP_SCnPCOV n) % 65536
  let guard := s.fld pcfg F.SNAP_SCnPCFG_PGUARD * 1000
  let from_ := x.inst + (pmin + l * (x.win - pmin) / 8) * 1000
  s.flag (Reg.SNAP_SCnCFG n) F.SNAP_SCnCFG_PROV && l < 8 && x.prov.isNone && !x.taken &&
    from_ ≤ s.ns && s.ns + guard < x.tc && pmin * 1000 + guard < x.win * 1000 &&
    x.counted.all (fun c => !c.2.2 || x.slots.any (·.1 == c.1)) &&
    pcov + l * (65535 - pcov) / 8 ≤ x.cover

/-- A provisional release of a snapshot on a set of slots. -/
def State.releaseProv (s : State) (n : Nat) (x : Snapshot) (slots : List (Nat × Slot)) : State :=
  let s1 := s.swapAtRelease n x.seq
  let bank := s1.scBank n
  let y : Snapshot := { x with slots := slots }
  let p : ProvRel := { time := s.ns, cover := y.cover, level := s.plevel n, epoch := s.epoch, bank := bank }
  let z : Snapshot := { y with prov := some p }
  let s2 := s1.putSnap n { x with prov := some p }
  let r : Release := { sc := n, kind := 1, time := s.ns, bank := bank, snap := z }
  let s3 := ((s2.bump (Reg.SNAP_SCnPROV n)).toSubs r).setLast r
  let run : DetRun := { sc := n, prov := true, bank := bank, time := s.ns, snap := z }
  let pcfg := Reg.SNAP_SCnPCFG n
  let any := s.flag pcfg F.SNAP_SCnPCFG_ISLAND || s.flag pcfg F.SNAP_SCnPCFG_STEP || s.flag pcfg F.SNAP_SCnPCFG_SEP
  let s4 := if any then { s3 with det := { s3.det with runs := s3.det.runs ++ [run] } } else s3
  s4.sendDigest n z true

/-- Modes of condition 2 of R130. -/
def Mode.provisional : Mode → Bool
  | .serve => true | .trial => true | .holdover => true | .test => true | _ => false

/-! ### Following digests (R359, R360, R365) -/

def State.dropDigest (s : State) (n seq : Nat) (prov : Bool) : State :=
  { s with chd := { s.chd with
    digests := s.chd.digests.filter (fun d => !(d.body.sc == n && d.body.seq == seq && d.prov == prov)) } }

/-- A followed release has taken place. -/
def State.followed (s : State) (n seq : Nat) (prov : Bool) : State :=
  let s1 := (s.dropDigest n seq prov).bump Reg.CHD_DIGESTS
  if prov then s1 else (s1.dropDigest n seq true).setVal (Reg.CHD_DIGSEQn n) seq

/-- The head of a class released provisionally on its PROVDIG; `force` when MIRWAIT has passed. -/
def State.followProv (s : State) (n : Nat) (x : Snapshot) (force : Bool) : State :=
  match s.digestOf? n x.seq true with
  | some d =>
    if x.prov.isSome || s.sys.mode != .shadow || s.chd.version != 2 || (!force && unmatched x d.body != []) then s
    else (s.releaseProv n x (admittedBy x d.body)).followed n x.seq true
  | none => s

/-- The head of a class released finally on its DIGEST; `force` when MIRWAIT has passed. -/
def State.followFinal (s : State) (n : Nat) (x : Snapshot) (force : Bool) (ecc : List Nat) : State :=
  match s.digestOf? n x.seq false with
  | some d =>
    if !force && unmatched x d.body != [] then s
    else if x.promoting then s.waitPromotion n x
    else
      let s1 := s.checkVhash n d.body
      (s1.releaseFinal n { x with slots := admittedBy x d.body } ecc).followed n x.seq false
  | none => s

/-- What a class can release on the digests held, oldest snapshot first. -/
def State.followClass (s : State) (n : Nat) (ecc : List Nat) : Nat → State
  | 0 => s
  | f + 1 =>
    match (s.sc n).head with
    | none => s
    | some x =>
      if !s.snapRunning || !s.scEn n || !s.followsDigest n x then s
      else
        let s1 := s.followProv n x false
        match (s1.sc n).head with
        | none => s1
        | some y =>
          let s2 := s1.followFinal n y false ecc
          match (s2.sc n).head with
          | some z => if z.inst = y.inst then s2 else s2.followClass n ecc f
          | none => s2

/-- Every class releases what the digests held allow. -/
def State.followDigests (s : State) : State :=
  if s.chd.digests.isEmpty then s
  else (List.range 8).foldl (fun s n => s.followClass n [] (s.sc n).snaps.length) s

/-! ### The events -/

/-- FINAL_RELEASE (R111): the head of a class whose T_c has passed; a snapshot that follows digests is released on its digest. -/
def execFinalRelease (t sc : Nat) (eccSlots : List Nat) (s : State) : Host.Outcome State Fault Refusal :=
  s.liveAt t (fun s =>
    if !s.snapRunning || !s.scEn sc then s
    else
      match (s.sc sc).head with
      | none => s
      | some x =>
        if s.followsDigest sc x then s.followClass sc eccSlots 1
        else if s.ns < x.tc then s
        else if x.promoting then s.waitPromotion sc x
        else s.releaseFinal sc x eccSlots)

/-- PROVISIONAL_RELEASE (R130): the conditions judged for the head of a class. -/
def execProvisionalRelease (t sc : Nat) (s : State) : Host.Outcome State Fault Refusal :=
  s.liveAt t (fun s =>
    if !s.snapRunning || !s.scEn sc then s
    else
      match (s.sc sc).head with
      | none => s
      | some x =>
        if s.followsDigest sc x || s.sys.mode == .shadow then s.followProv sc x false
        else if s.sys.mode.provisional && s.provOk sc x then s.releaseProv sc x x.slots
        else s)

/-- AMEND_HORIZON (R117): the oldest snapshot whose horizon has passed is released as amended if it gained late frames. -/
def execAmendHorizon (t sc : Nat) (s : State) : Host.Outcome State Fault Refusal :=
  s.liveAt t (fun s =>
    match (s.sc sc).snaps.find? (fun x => x.finalAt.isSome && s.horizon sc x ≤ s.ns) with
    | none => s
    | some x =>
      if s.snapRunning && x.slots.any (fun p => p.2.late) then
        let s1 := s.toSubs { sc := sc, kind := 3, time := s.ns, bank := s.scBank sc, snap := x }
        (s1.bump (Reg.SNAP_SCnAMENDED sc)).freeSnap sc x
      else s.freeSnap sc x)

/-! ### Discards (R121, R142) -/

/-- The open snapshots of a class are discarded unreleased. -/
def State.discardClass (s : State) (n : Nat) : State :=
  let c := s.sc n
  let gone := (c.snaps.filter (fun x => x.finalAt.isNone)).map (·.seq)
  if gone.isEmpty then s
  else
    let s1 := s.setSc n { c with snaps := c.snaps.filter (fun x => x.finalAt.isSome), wprev := none }
    (s1.discardRaises n gone).capDiscard n

/-- Every class's open snapshots discarded. -/
def State.discardAll (s : State) : State :=
  let s1 := (List.range 8).foldl State.discardClass s
  { s1 with chd := { s1.chd with digests := [] } }

/-- A time step: open snapshots are discarded and counted; opening resumes at the first instant after the new time. -/
def State.discardAtStep (s : State) : State :=
  let open_ := (s.allSnaps.filter (fun x => x.finalAt.isNone)).length
  let s1 := s.discardAll.bumpBy Reg.SNAP_STEPDISC open_
  (List.range 8).foldl (fun s n =>
    if (s.sc n).lastInst.isSome then s.setSc n { s.sc n with lastInst := some s.ns, past := [] } else s) s1

end Sys2Proof.Machine
end

