-- ==== Sys2Proof/Machine/TimeEvents.lean ====
section
/-!
DEFINITION. What happens at ticks of the time base: increments and steps, compare firings, TDC edges (R79, R81, R95-R104).
-/
namespace Sys2Proof.Machine

/-! ### The tick (R78, R79, R81) -/

/-- What an applied step does to the other blocks, at the new time (R81, R121, R263, R283). -/
def State.stepped (s : State) : State :=
  let s1 := { s with tb := { s.tb with step := none, stepSinceEcho := true } }
  let s2 := ((s1.setFld Reg.TB_STAT F.TB_STAT_STEPPEND 0).bump Reg.TB_STEPCNT).raise E.TB 1
  s2.discardAtStep.capTimeStep.fltTimeStep

/-- A moment of TAI carried over a step of `d` ns, for a timer that counts the time since it. -/
def carried (d : Int) (x : Nat) : Nat := ((x : Int) + d).toNat

def Peer.carry (p : Peer) (d : Int) : Peer := { p with heard := p.heard.map (carried d), hbTime := p.hbTime.map (carried d) }

/-- Timers that count elapsed time run on over a step of the time base. -/
def State.shiftTimers (s : State) (d : Int) : State :=
  let c := carried d
  let y := { s.sys with
    settleSince := c s.sys.settleSince, windowFrom := s.sys.windowFrom.map c, settleLeft := s.sys.settleLeft.map c, wdogFrom := c s.sys.wdogFrom }
  let b := { s.tb with holdFrom := s.tb.holdFrom.map c, lowSince := s.tb.lowSince.map c }
  let u := { s.upd with
    trialEnd := s.upd.trialEnd.map c, blockAt := s.upd.blockAt.map (fun (p : Nat × Nat) => (p.1, c p.2)) }
  let h := { s.chd with
    digests := s.chd.digests.map (fun (x : DigestWait) => { x with askedAt := c x.askedAt })
    validAt := c s.chd.validAt, helloAt := c s.chd.helloAt, partner := s.chd.partner.carry d, ref := s.chd.ref.carry d
    units := s.chd.units.map (fun (p : Nat × Peer) => (p.1, p.2.carry d)) }
  let l := { s.ldg with pageFrom := s.ldg.pageFrom.map c, ejectFrom := s.ldg.ejectFrom.map c }
  let e := { s.evc with stopFrom := c s.evc.stopFrom }
  let a := { s.alm with
    noticeAt := c s.alm.noticeAt
    pins := s.alm.pins.map (fun (p : Nat × AlmPin) => (p.1, { p.2 with since := p.2.since.map c }))
    pubs := s.alm.pubs.map (fun (p : Nat × Option Gpub) => (p.1, p.2.map (fun g => { g with next := g.next.map c }))) }
  let n := { s.snap with classes := s.snap.classes.map (fun (p : Nat × SnapClass) => (p.1, { p.2 with relaxFrom := c p.2.relaxFrom })) }
  let m := { s.mtr with
    pulses := s.mtr.pulses.map (fun (p : Nat × PulseOut) => (p.1, { p.2 with on := p.2.on.map c, last := p.2.last.map c })) }
  let t := { s.eth with ports := s.eth.ports.map (fun (p : Nat × EthPort) => (p.1, { p.2 with verifyAt := c p.2.verifyAt })) }
  let s1 : State := { s with
    sys := y, tb := b, upd := u, chd := h, ldg := l, evc := e, alm := a, snap := n, mtr := m, eth := t
    lat := { s.lat with swapAt := c s.lat.swapAt } }
  (List.range 24).foldl (fun s n =>
    let t := s.target n
    match t.asleepFrom with
    | some x => s.setTarget n { t with asleepFrom := some (c x) }
    | none => s) s1

/-- One TB tick: time advances or steps, then a pending increment is committed for the ticks that follow. -/
def State.tbTick (s : State) : State :=
  let t := s.nowAfterTick
  if s.tb.step.isSome then
    let s1 := s.mtrTimeStep
    ((({ s1 with now := t }).shiftTimers ((t / 2 ^ 24 : Nat) - ((s.now + s.tb.incr) / 2 ^ 24 : Nat))).stepped).commitIncr
  else ({ s with now := t }).commitIncr

/-- INCREMENT_COMMIT (R79). -/
def execIncrementCommit (s : State) : Host.Outcome State Fault Refusal :=
  s.live (fun s => if s.flag Reg.TB_STAT F.TB_STAT_INCRPEND then s.tbTick else s)

/-- STEP_APPLY (R81). -/
def execStepApply (s : State) : Host.Outcome State Fault Refusal :=
  s.live (fun s => if s.tb.step.isSome then s.tbTick else s)

/-! ### Compare firings (R95-R101) -/

/-- A firing: its channel and whether it was late. -/
structure Firing where
  chan : Nat
  late : Bool
  deriving DecidableEq, Repr

/-- now - target as a signed number in 2^-16 ns (R95). -/
def State.cmpDiff (s : State) (target : Nat) : Int := signed 48 (s.now / 2 ^ 8 % 2 ^ 48 + 2 ^ 48 - target % 2 ^ 48)

/-- Channels that fire at this tick. -/
def State.dueCmps (s : State) : List Nat :=
  (List.range 32).filter (fun n => s.flag (Reg.TB_CMPnSTAT n) F.TB_CMPnSTAT_ARMED && 0 ≤ s.cmpDiff (s.cmpTarget n))

/-- One channel fires: its counters and status, and the target of a periodic one (R97). -/
def State.fireCmp (s : State) (n : Nat) : State × Firing :=
  let d := s.cmpDiff (s.cmpTarget n)
  let s1 := (s.bump (Reg.TB_CMPnCNT n)).setFld (Reg.TB_CMPnSTAT n) F.TB_CMPnSTAT_FIRED 1
  let periodic := s.flag (Reg.TB_CMPnCTL n) F.TB_CMPnCTL_PERIODIC
  let per := s.val (Reg.TB_CMPnPER n) * 65536 + s.val (Reg.TB_CMPnPERF n) % 65536
  let skip := if periodic then d.toNat / per else 0
  let late := 8 * 65536 ≤ d || skip ≠ 0
  let s2 := if periodic then
      let tgt := (s.cmpTarget n + (skip + 1) * per) % 2 ^ 48
      (((s1.setCmpTarget n tgt).setVal (Reg.TB_CMPnTGT n) (tgt / 65536)).setVal (Reg.TB_CMPnTGTF n) (tgt % 65536)).bumpBy (Reg.TB_CMPnSKIP n) skip
    else s1.setFld (Reg.TB_CMPnSTAT n) F.TB_CMPnSTAT_ARMED 0
  let s3 := if late then (s2.setFld (Reg.TB_CMPnSTAT n) F.TB_CMPnSTAT_LATE 1).raise E.TB 7 else s2
  (s3, { chan := n, late := late })

/-- The firings of a tick, one channel after another. -/
def fireAll : List Nat → State → State × List Firing
  | [], s => (s, [])
  | n :: ns, s =>
    let (s1, f) := s.fireCmp n
    let (s2, fs) := fireAll ns s1
    (s2, f :: fs)

/-- ACTION and ARG of a channel. -/
def State.cmpAction (s : State) (n : Nat) : Nat × Nat :=
  (s.fld (Reg.TB_CMPnCTL n) F.TB_CMPnCTL_ACTION, s.fld (Reg.TB_CMPnCTL n) F.TB_CMPnCTL_ARG)

/-- The tile input queue that ARG names: tile index * 4 + queue. -/
def argQueue (arg : Nat) : Nat := (arg % 16 * 16 + bitsOf arg 4 4) * 4 + bitsOf arg 8 2

/-- Firings of one action and target delivered as one crossing count (R101). -/
def State.deliver (s : State) (act arg : Nat) (fs : List Firing) : State :=
  match fs with
  | [] => s
  | f :: _ =>
    match act with
    | 1 => s.auxTrigger false fs.length (s.now / 2 ^ 17)
    | 2 => s.auxTrigger true fs.length (s.now / 2 ^ 17)
    | 3 => s.capSend 8 0 (s.now / 2 ^ 17) fs.length (2 ^ (arg % 16))
    | 4 => s.ctlFire (argQueue arg)
        { chan := f.chan, time := s.ns, frac := s.now / 2 ^ 8 % 2 ^ 16, late := fs.any (·.late), count := fs.length }
    | 5 => s.tskTick fs.length
    | _ => s

/-- The targets of an action among firings, each once; actions 1, 2 and 5 have one target. -/
def State.argsOf (s : State) (act : Nat) (fs : List Firing) : List Nat :=
  ((fs.filter (fun f => (s.cmpAction f.chan).1 == act)).map (fun f =>
    if act = 3 || act = 4 then (s.cmpAction f.chan).2 else 0)).eraseDups

/-- What the firings of a tick do: actions, injected starts first; pulse outputs; event records. -/
def State.deliverAll (s : State) (fs : List Firing) : State :=
  let s1 := [2, 1, 3, 4, 5].foldl (fun s0 act =>
    (s.argsOf act fs).foldl (fun s' arg => s'.deliver act arg (fs.filter (fun f =>
      let x := s.cmpAction f.chan
      x.1 == act && (x.2 == arg || !(act == 3 || act == 4))))) s0) s
  fs.foldl (fun s f =>
    let ctl := Reg.TB_CMPnCTL f.chan
    let s2 := if s.flag ctl F.TB_CMPnCTL_TPOEN then s.fireTpo (s.fld ctl F.TB_CMPnCTL_TPO) else s
    if s2.flag ctl F.TB_CMPnCTL_EVCEN then s2.event (0x020 + f.chan) 0 else s2) s1

/-- The armed channels evaluated at a tick. -/
def State.compare (s : State) : State :=
  let (s1, fs) := fireAll s.dueCmps s
  s1.deliverAll fs

/-- COMPARE_FIRE (R97). -/
def execCompareFire (t frac : Nat) (s : State) : Host.Outcome State Fault Refusal :=
  s.live (fun s => ({ s with now := max s.now (t * 2 ^ 24 + frac % 2 ^ 24) }).compare)

/-! ### TDC edges (R103, R104) -/

/-- Whether an input's EDGE selects an edge. -/
def edgeTaken (edge : Nat) (rising : Bool) : Bool := if rising then edge % 2 == 1 else edge / 2 % 2 == 1

/-- An edge that reaches an enabled input: the divider, the 16 ns rule, the FIFO. -/
def State.stampEdge (s : State) (k x : Nat) : State :=
  let cfg := s.val (Reg.TB_TDCkCFG k)
  let d := s.tdc k
  let n := if k = 3 then 10 ^ bitsOf cfg 4 3 else 1
  if d.divCount + 1 < n then s.setTdc k { d with divCount := d.divCount + 1 }
  else
    let d1 : Tdc := { d with divCount := 0 }
    let close : Bool := match d.last with
      | some l => decide (x < l + 16 * 128)
      | none => false
    if close then (s.setTdc k d1).bump (Reg.TB_TDCkDROP k)
    else if 16 ≤ d.fifo.length then ((s.setTdc k { d1 with ovf := true }).bump (Reg.TB_TDCkDROP k)).raise E.TB 4
    else
      let y := (x : Int) - signed 16 (cfg / 2 ^ 16) * 16
      let e : TdcStamp := { ns32 := (y / 128 % 2 ^ 32).toNat, frac := (y % 128).toNat, ovf := d.ovf }
      s.setTdc k { d1 with fifo := d.fifo ++ [e], last := some x, ovf := false }

/-- An edge at a stamp `x` in 1/128 ns: stamped, and for TRIG_IN0-TRIG_IN2 a capture trigger at the stamp less DLY (R103, R290). -/
def State.tdcEdge (s : State) (k x : Nat) (rising : Bool) : State :=
  let cfg := s.val (Reg.TB_TDCkCFG k)
  if !s.flag Reg.TB_CTL F.TB_CTL_TDCEN || bitAt cfg 0 = 0 || !edgeTaken (bitsOf cfg 1 2) rising then s
  else
    let s1 := s.stampEdge k x
    if 5 ≤ k && k ≤ 7 then s1.capSend (k - 4) 0 ((x : Int) - signed 16 (cfg / 2 ^ 16) * 16).toNat 1 0xFFFF else s1

/-- TDC_EDGE (R104). -/
def execTdcEdge (input t frac : Nat) (rising : Bool) (s : State) : Host.Outcome State Fault Refusal :=
  s.liveAt t (fun s => if input < 8 then s.tdcEdge input (stampOf t frac) rising else s)

/-- HOLDOVER_UPDATE (R88). -/
def execHoldoverUpdate (t : Nat) (est : HoldEst) (s : State) : Host.Outcome State Fault Refusal :=
  s.liveAt t (fun s => s.holdUpdate est)

end Sys2Proof.Machine
end

