-- ==== Sys2Proof/Machine/Frames.lean ====
section
/-!
DEFINITION. The commands that place frames in snapshots. On a unit that follows digests, a frame placed may complete the set that a
digest names (R55, R61, R54, R261, R359).
-/
namespace Sys2Proof.Machine

/-- C37_DATA_FRAME (R55). -/
def execC37DataFrame (t port : Nat) (ecc : Bool) (s : State) : Host.Outcome State Fault Refusal :=
  s.liveAt t (fun s => (s.parse port .c37 (fun s d st =>
    if ecc then s.cacheErr else s.c37 0 d.src d.port d.payload st true)).followDigests)

/-- RSV_SPDU (R61). An encrypted SPDU, or one of another session identifier, is left to the firmware path. -/
def execRsvSpdu (t port : Nat) (spdu : Spdu) (ecc : Bool) (s : State) : Host.Outcome State Fault Refusal :=
  s.liveAt t (fun s =>
    if spdu.encrypted || !spdu.sampled then s
    else (s.parse port .rsv (fun s d st => if ecc then s.cacheErr else s.rsv d.src d.port spdu st true)).followDigests)

/-- FIRMWARE_PATH_FRAME (R54). -/
def execFirmwarePathFrame (t : Nat) (input : FwIn) (s : State) : Host.Outcome State Fault Refusal :=
  s.liveAt t (fun s =>
    (match input with
    | .frame n spdu => s.fwFrame n spdu
    | .tcp port src bytes ns frac => (s.bump Reg.ING_FWPATH).c37 1 src 0 bytes ⟨port, ns, frac⟩ false : State).followDigests)

/-- LOCAL_PHASOR_PLACE (R261). -/
def execLocalPhasorPlace (t inst : Nat) (s : State) : Host.Outcome State Fault Refusal :=
  s.liveAt t (fun s => if s.flt.phRun && s.sys.mode.lattice then (s.placeLocal inst).followDigests else s)

end Sys2Proof.Machine
end

