-- ==== Sys2Proof/Machine/Modes.lean ====
section
/-!
DEFINITION. Operating modes: entering a mode, MODE_SET, leaving SETTLE, time sources, LOCKOUT (R422-R429, R439, R321).
-/
namespace Sys2Proof.Machine

/-! ### Roles (R351) -/

def Role.code : Role → Nat
  | .solo => 0 | .active => 1 | .standby => 2 | .referee => 3

/-- A role taken; a change posts 0x1B0 when CTL.ROLEEV is 1 (R370). -/
def State.setRole (s : State) (r : Role) : State :=
  if s.chd.role = r then s
  else
    let s1 := { s with chd := { s.chd with role := r } }
    if s1.flag Reg.CHD_CTL F.CHD_CTL_ROLEEV then s1.event 0x1B0 (r.code + s1.epoch % 2 ^ 24 * 2 ^ 8) else s1

/-- Whether a peer has been heard within 750 us. -/
def State.heardLately (s : State) (p : Peer) : Bool :=
  match p.heard with
  | some t => s.ns < t + 750000
  | none => false

/-- The partner is linked. -/
def State.linked (s : State) : Bool := s.chd.partner.paired && s.heardLately s.chd.partner

/-- The partner reports the Active role (R428). -/
def State.partnerActive (s : State) : Bool := s.linked && s.chd.partner.role == 1

/-- CHD.CFG.PAIRED. -/
def State.inPair (s : State) : Bool := s.flag Reg.CHD_CFG F.CHD_CFG_PAIRED

/-- STAT.REDUN: the Active has a SYNCED Standby and a referee is heard (R363). -/
def State.redun (s : State) : Bool :=
  let r := s.heardLately s.chd.ref
  match s.chd.role with
  | .active => s.linked && s.chd.partner.role == 2 && s.chd.partner.synced && r
  | .standby => s.partnerActive && s.chd.synced && r
  | _ => false

/-! ### Entering a mode (R422, R424, R426) -/

/-- A mode entered, with a change `f` that takes effect in the same moment, and what every block does about it. -/
def State.enterWith (s : State) (m : Mode) (cause : Nat) (f : State → State) : State :=
  let old := s.sys.mode
  let s0 := if m = .configure && old != .boot && old != .dormant then s.meterSaveNow.flush else s
  let s1 := s0.withMuting (fun s => (f s).setMode m cause)
  let s2 := if m = .quiesce || m = .configure || m = .lockout || m = .referee then s1.discardAll else s1
  let s3 := if old = .configure && m != .dormant then s2.phCheck.mtrCheck else s2
  let s4 := if m = .referee || m = .dormant then s3.afeGate.fltStop else s3
  let s5 := if old = .referee || old = .dormant then s4.restartModulators else s4
  let s6 := s5.capMode.mtrSpan
  let s7 := if s6.latRuns then s6 else s6.abandonPass
  let s8 := if old = .shadow && s7.chd.role = .standby then s7.loseSync else s7
  let s9 := if old = .referee then s8.setRole .solo else s8
  { s9 with sys := { s9.sys with
    settleSince := if m = .settle then s9.ns else s9.sys.settleSince
    settleLeft := none } }

def State.enterMode (s : State) (m : Mode) (cause : Nat) : State := s.enterWith m cause id

/-- A MODE_SET in progress completes; RES0 is the mode entered. -/
def State.finishModeSet (s : State) (st : Status) (res : List Nat) : State :=
  match s.sys.modeTag with
  | some tag => ({ s with sys := { s.sys with modeTag := none } }).complete 0x0101 tag st res
  | none => s

/-- LOCKOUT entered: any transition or MODE_SET in progress ends. -/
def State.enterLockout (s : State) (cause : Nat) : State :=
  if s.sys.mode = .boot || s.sys.mode = .dormant || s.sys.mode = .lockout then s
  else ((s.enterMode .lockout cause).raise E.SYS 3).finishModeSet .state []

/-- SHADOW entered as a Standby that is not SYNCED (R351). -/
def State.enterShadow (s : State) (cause : Nat) : State :=
  let s1 := s.enterWith .shadow cause (fun s =>
    ({ s with chd := { s.chd with synced := false, deposed := false, handover := none, handedOver := none } }).setRole .standby)
  if s1.chd.partner.paired then s1.chdSend { type := 8, epoch := 0, words := [] } else s1

/-- SERVE, or TRIAL in its place while the trial timer runs (R417, R428). -/
def State.serveMode (s : State) : Mode := if s.upd.trialEnd.isSome then .trial else .serve

/-- Serving taken up after SETTLE: a paired unit as the Active. -/
def State.enterServing (s : State) (cause : Nat) : State :=
  s.enterWith s.serveMode cause (fun s =>
    if s.inPair then ({ s with chd := { s.chd with validAt := s.ns, deposed := false } }).setRole .active else s)

/-- SETTLE is left (R428); whether the mode that follows has been entered. A paired unit looks for an Active partner for 750 us. -/
def State.leaveSettle (s : State) (cause : Nat) : State × Bool :=
  if s.inPair && s.partnerActive then (s.enterShadow cause, true)
  else if s.inPair then
    ({ s with sys := { s.sys with settleLeft := some s.ns, trans := some s.serveMode } }, false)
  else (s.enterServing cause, true)

/-! ### The memory layout (R438, R439) -/

/-- The regions of Table 22-3 as placed now, base and size. Resident firmware's span has no register: it stays at its default. -/
def State.layout (s : State) : List (Nat × Nat) :=
  [(s.val64 Reg.SNAP_SPILLBASELO Reg.SNAP_SPILLBASEHI, s.val Reg.SNAP_SPILLSIZE % 65536 * 0x100000),
   (s.val64 Reg.CAP_BASELO Reg.CAP_BASEHI, s.val Reg.CAP_SIZE % 8192 * 0x100000),
   (s.fbBase, 0x100000000), (s.stageBase, 0x10000000),
   (s.val64 Reg.TOPO_FACBASELO Reg.TOPO_FACBASEHI, 0x900000),
   (s.val64 Reg.TOPO_EDGEBASELO Reg.TOPO_EDGEBASEHI, 0x400000),
   (s.val64 Reg.DET_VRBASELO Reg.DET_VRBASEHI, 0x400000),
   (s.val64 Reg.MODAL_RBASELO Reg.MODAL_RBASEHI, 0x400000), (0x1320000000, 0xE0000000),
   (s.val64 Reg.NOC_CPWINBASELO Reg.NOC_CPWINBASEHI, s.val Reg.NOC_CPWINSIZE * 0x100000)].filter (fun r => r.2 != 0)

/-- Whether two regions share no byte with each other, for a list of them. -/
def apart : List (Nat × Nat) → Bool
  | [] => true
  | r :: rs => rs.all (fun q => r.1 + r.2 ≤ q.1 || q.1 + q.2 ≤ r.1) && apart rs

/-- What resident firmware checks before CONFIGURE is left. -/
def State.layoutOk (s : State) : Bool :=
  s.layout.all (fun r => 0x1000000000 ≤ r.1 && r.1 + r.2 ≤ 0x1000000000 + s.sys.usable) && apart s.layout

/-! ### MODE_SET (R424, R425, R439) -/

/-- Targets that MODE_SET may name. -/
def modeTarget (n : Nat) : Option Mode :=
  match n with
  | 1 => some .configure | 2 => some .settle | 3 => some .serve | 4 => some .shadow | 5 => some .referee
  | 7 => some .test | 9 => some .quiesce | 0xA => some .dormant | _ => none

/-- Whether a row of Table 21-2 leads from the present mode to a target on a MODE_SET. -/
def State.modeRow (s : State) (m : Mode) : Bool :=
  let unit := s.unitId
  match s.sys.mode, m with
  | .configure, .settle => s.lat.loaded
  | .configure, .test => s.lat.loaded
  | .configure, .referee => 1 ≤ unit && unit ≤ 254
  | .configure, .dormant => true
  | .configure, .quiesce => true
  | .settle, .serve => s.servoLocked
  | .settle, .shadow => s.inPair
  | .quiesce, .settle => true
  | .quiesce, .configure => true
  | .quiesce, .dormant => true
  | .lockout, .configure => true
  | .lockout, .shadow => s.inPair && s.lat.loaded
  | .boot, _ => false
  | .dormant, _ => false
  | .quiesce, _ => false
  | .lockout, _ => false
  | .configure, _ => false
  | _, .configure => true
  | _, .quiesce => true
  | _, _ => false

/-- A write to an AON-held register on its way, in place of one that still waits (R19). -/
def State.aonPut (s : State) (r : AonReg) (v : Nat) : State :=
  { s with sys := { s.sys with aonPend := s.sys.aonPend.filter (fun p => p.1 != r) ++ [(r, v)] } }

/-- MODE_SET DORMANT taken: metering save, journal flush, PWRREQ written with TARGET 2 (R431). -/
def State.askDormant (s : State) (tag : Nat) : State :=
  let s1 := (s.meterSaveNow.flush).setFld Reg.SYS_PWRREQ F.SYS_PWRREQ_TARGET 2
  let s2 := s1.aonPut .pwrreq (s1.val Reg.SYS_PWRREQ)
  { s2 with sys := { s2.sys with trans := some .dormant, modeTag := some tag } }

/-- MODE_SET's own rules. -/
def modeSetBody (tag : Nat) (m : Mode) : CmdBody := fun s =>
  if s.sys.trans.isSome || (s.lat.job.isSome && s.sys.mode = .configure && m != .configure) then (s, some (.busy, []))
  else if !s.modeRow m then (s, some (.state, []))
  else if s.sys.mode = .configure && !s.layoutOk then (s.raise E.NOC 1, some (.arg, []))
  else
    match m with
    | .dormant => (s.askDormant tag, none)
    | .serve =>
      let (s1, done) := s.leaveSettle 1
      if done then (s1, some (.ok, [s1.sys.mode.code])) else ({ s1 with sys := { s1.sys with modeTag := some tag } }, none)
    | .shadow => (s.enterShadow 1, some (.ok, [m.code]))
    | .referee => (s.enterWith .referee 1 (fun s => s.setRole .referee), some (.ok, [m.code]))
    | _ => (s.enterMode m 1, some (.ok, [m.code]))

def State.modeSet (s : State) (h : CmdHdr) (target : Nat) : State :=
  match modeTarget target with
  | some m => s.hostCmd 0x0101 h true true false (modeSetBody h.tag m)
  | none => s.hostCmd 0x0101 h false true false (fun s => (s, none))

/-- MODE_SET (R424). -/
def execModeSet (h : CmdHdr) (target : Nat) (s : State) : Host.Outcome State Fault Refusal :=
  s.live (fun s => s.modeSet h target)

/-! ### Leaving SETTLE (R427, R428) -/

/-- Whether every enabled class with a member has STRAGN + 1 learned members. -/
def State.allLearned (s : State) : Bool :=
  (List.range 8).all (fun n =>
    let ms := s.membersOf n
    !s.scEn n || ms.isEmpty || s.fld (Reg.SNAP_SCnCFG n) F.SNAP_SCnCFG_STRAGN < (s.learnedQ n ms).length)

/-- The conditions of R427. -/
def State.settleOver (s : State) : Bool :=
  let from_ := s.sys.settleSince
  s.servoLocked && from_ + s.val Reg.SYS_SETTLEMIN % 1024 * 1000000000 ≤ s.ns &&
    (s.allLearned || from_ + s.val Reg.SYS_SETTLEMAX % 4096 * 1000000000 ≤ s.ns)

/-- SETTLE_EXIT (R427). -/
def execSettleExit (t : Nat) (s : State) : Host.Outcome State Fault Refusal :=
  s.liveAt t (fun s =>
    if s.sys.mode = .settle && s.sys.trans.isNone && s.settleOver then (s.leaveSettle 3).1 else s)

/-- SETTLEMAX_EXPIRY (R424). -/
def execSettlemaxExpiry (t : Nat) (s : State) : Host.Outcome State Fault Refusal :=
  s.liveAt t (fun s =>
    if s.sys.mode = .settle && s.sys.trans.isNone && !s.servoLocked &&
        s.sys.settleSince + s.val Reg.SYS_SETTLEMAX % 4096 * 1000000000 ≤ s.ns then
      let s1 := { s with sys := { s.sys with holdoverFrom := .settle } }
      (s1.enterMode .holdover 3).raise E.SYS 4
    else s)

/-- A paired unit that left SETTLE ends its search: it enters SHADOW beside an Active partner, else serves as the Active. -/
def State.endSearch (s : State) : State :=
  match s.sys.settleLeft with
  | none => s
  | some t =>
    let cause := if s.sys.modeTag.isSome then 1 else 3
    if s.partnerActive then (s.enterShadow cause).finishModeSet .ok [Mode.shadow.code]
    else if t + 750000 ≤ s.ns then (s.enterServing cause).finishModeSet .ok [s.serveMode.code]
    else s

/-- ACTIVE_PARTNER_TIMEOUT (R428). -/
def execActivePartnerTimeout (t : Nat) (s : State) : Host.Outcome State Fault Refusal := s.liveAt t State.endSearch

/-! ### Time sources (R82, R88, R424, R429) -/

/-- Firmware finds no valid time source: holdover, and from SERVE or TRIAL the mode HOLDOVER. -/
def State.sourceLost (s : State) : State :=
  if s.sys.mode = .boot || s.sys.mode = .dormant then s
  else
    let from_ := match s.tb.holdFrom with
      | some t => some t
      | none => some s.ns
    let s1 := ({ s with tb := { s.tb with holdFrom := from_ } }).setFld Reg.TB_TQ F.TB_TQ_HOLD 1
    if s.sys.mode = .serve || s.sys.mode = .trial then
      ({ s1 with sys := { s1.sys with holdoverFrom := s.sys.mode } }).enterMode .holdover 3
    else s1

/-- TIME_SOURCE_LOST (R88). -/
def execTimeSourceLost (t : Nat) (s : State) : Host.Outcome State Fault Refusal := s.liveAt t State.sourceLost

/-- Firmware steps the time by an offset: ADJ where 32 bits of ns hold it, else SET (R81, R82). -/
def State.askStep (s : State) (offsetNs : Int) : State :=
  if -(2 : Int) ^ 31 ≤ offsetNs && offsetNs < 2 ^ 31 then
    (s.setVal Reg.TB_ADJNS (offsetNs % 2 ^ 32).toNat).writeStepcmd 2
  else
    let t := ((s.ns : Int) + offsetNs).toNat
    (((s.setVal Reg.TB_SETSLO (t / 1000000000 % 2 ^ 32)).setVal Reg.TB_SETSHI (t / 1000000000 / 2 ^ 32 % 2 ^ 16)).setVal
      Reg.TB_SETNS (t % 1000000000)).writeStepcmd 1

/-- The mode left for HOLDOVER; SERVE and TRIAL in turn as the trial timer now runs or not (R417, R424). -/
def State.holdoverBack (s : State) : Mode :=
  if s.sys.holdoverFrom = .serve || s.sys.holdoverFrom = .trial then s.serveMode else s.sys.holdoverFrom

/-- A valid source returns: slewing within 10 ms; above it SETTLE, and a step there. -/
def State.sourceBack (s : State) (offsetNs : Int) : State :=
  let s1 := ({ s with tb := { s.tb with holdFrom := none } }).setFld Reg.TB_TQ F.TB_TQ_HOLD 0
  if s.sys.mode = .boot || s.sys.mode = .dormant then s
  else if offsetNs.natAbs ≤ 10000000 then
    if s.sys.mode = .holdover then s1.enterMode s.holdoverBack 3 else s1
  else if s.sys.mode = .serve || s.sys.mode = .shadow || s.sys.mode = .trial || s.sys.mode = .holdover then
    (s1.enterMode .settle 3).askStep offsetNs
  else if s.sys.mode = .settle || s.sys.mode = .test || s.sys.mode = .configure then s1.askStep offsetNs
  else s1

/-- TIME_SOURCE_RETURN (R82). -/
def execTimeSourceReturn (t : Nat) (offsetNs : Int) (s : State) : Host.Outcome State Fault Refusal :=
  s.liveAt t (fun s => s.sourceBack offsetNs)

/-! ### LOCKOUT (R321, R424) -/

/-- LOCKOUT: a fault record that resident firmware classes as fatal. -/
def execLockout (t : Nat) (s : State) : Host.Outcome State Fault Refusal := s.liveAt t (fun s => s.enterLockout 6)

/-- TILE_FAULT (R321). -/
def execTileFault (t tile : Nat) (s : State) : Host.Outcome State Fault Refusal :=
  s.liveAt t (fun s =>
    match s.tile tile with
    | some x => if x.fault then s else (s.stopTile tile x).enterLockout 6
    | none => s)

/-- The lattice image of the bank set in force is loaded (R419). -/
def State.imageLoaded (s : State) : Bool := s.lat.loaded

end Sys2Proof.Machine
end

