-- ==== Sys2Proof/Machine/Power.lean ====
section
/-!
DEFINITION. Power: a core's WAIT and its wake, AON-held registers, DORMANT and its wake sources, resets, failing supplies (R17, R19,
R327, R328, R431-R435, R443).
-/
namespace Sys2Proof.Machine

/-! ### The entry window (R431) -/

/-- Whether a core lets the device act on SYS.PWRREQ: asleep, or in WAIT with SYSREQ set. -/
def Core.offers (c : Core) : Bool :=
  match c.waiting with
  | some m => c.stopped || bitAt m 2 == 1
  | none => false

/-- The entry window to DORMANT opens when the request is with the AON logic, no AON write is pending and every awake core has
executed WAIT with SYSREQ. -/
def State.checkWindow (s : State) : State :=
  let y := s.sys
  let ks := List.range 8
  let asks := ks.all (fun k => (s.core k).offers) && ks.any (fun k => match (s.core k).waiting with
    | some m => bitAt m 2 == 1
    | none => false)
  if y.aonPwrreq % 4 = 2 && y.aonPend.isEmpty && y.windowFrom.isNone && asks && (y.mode == .configure || y.mode == .quiesce) then
    { s with sys := { y with windowFrom := some s.ns, wakeNHeld := y.wakeNLow, aonAlarmHit := false, i2cLatch := false } }
  else s

/-- A core leaves WAIT before the window: a request for DORMANT is cancelled. A MODE_SET that waits for its AON write completes when
that write arrives. -/
def State.cancelDormant (s : State) : State :=
  if s.fld Reg.SYS_PWRREQ F.SYS_PWRREQ_TARGET = 2 && s.sys.windowFrom.isNone && s.sys.mode != .dormant then
    let s1 := s.setFld Reg.SYS_PWRREQ F.SYS_PWRREQ_TARGET 0
    let v := s1.val Reg.SYS_PWRREQ
    let pend := s1.sys.aonPend.map (fun p => if p.1 = .pwrreq then (p.1, v) else p)
    let tr := if s.sys.modeTag.isSome then s.sys.trans else if s.sys.trans = some .dormant then none else s.sys.trans
    let s2 := { s1 with sys := { s1.sys with aonPend := pend, aonPwrreq := s1.sys.aonPwrreq - s1.sys.aonPwrreq % 4, trans := tr } }
    s2.raise E.SYS 5
  else s

/-! ### WAIT and its wake (R327, R328) -/

/-- A core set PWRMODE and executes WAIT: MODE 0b11 is refused and leaves MODE as it was; with a wake line already asserted
it wakes at once. -/
def execWait (core pwrmode : Nat) (s : State) : Host.Outcome State Fault Refusal :=
  s.live (fun s =>
    let c := s.core core
    let m := if pwrmode % 4 = 3 then pwrmode % 32 - 3 + c.pwrmode % 4 else pwrmode % 32
    let s1 := s.setCore core { c with pwrmode := m }
    if s1.wakeLine core m then s1.cancelDormant
    else ((s1.setCore core { c with pwrmode := m, waiting := some m }).refreshSleep core).checkWindow)

/-- A core leaves WAIT; from OFF it starts at the vector of exception 0x01 with its state lost. -/
def State.wakeCore (s : State) (k : Nat) : State :=
  let c := s.core k
  match c.waiting with
  | none => s
  | some m =>
    let s2 := (s.setCore k { c with waiting := none }).refreshSleep k
    if m % 4 = 2 then
      (s2.setCore k { ({} : Core) with preempt := c.preempt, excCount := c.excCount }).takeExc k 1 0 false
    else s2

/-- WARM_START: a wake line wakes a core in WAIT; not in the entry window nor in DORMANT, where the clocks stand. -/
def execWarmStart (core : Nat) (s : State) : Host.Outcome State Fault Refusal :=
  s.live (fun s =>
    if s.sys.mode = .dormant || s.sys.windowFrom.isSome then s
    else
      match (s.core core).waiting with
      | some m => if s.wakeLine core m then (s.wakeCore core).cancelDormant else s
      | none => s)

/-! ### AON-held registers (R19) -/

/-- What the AON logic takes when a write arrives. -/
def Sys.aonTake (y : Sys) (r : AonReg) (v ns : Nat) : Sys :=
  match r with
  | .pwrreq => { y with aonPwrreq := v }
  | .aonalmLo => { y with aonAlmLo := v }
  | .aonalmHi => { y with aonAlmHi := v }
  | .wdog => { y with aonWdog := v, wdogFrom := if bitAt y.aonWdog 31 = 0 && bitAt v 31 = 1 then ns else y.wdogFrom }

/-- AON_WRITE_ARRIVES: a pending write reaches the AON logic; the arrival of a power request completes its MODE_SET (R431). -/
def execAonWriteArrives (reg : AonReg) (s : State) : Host.Outcome State Fault Refusal :=
  s.live (fun s =>
    match s.sys.aonPend.find? (fun p => p.1 == reg) with
    | none => s
    | some p =>
      let s1 := { s with sys := { s.sys.aonTake reg p.2 s.ns with aonPend := s.sys.aonPend.filter (fun q => q.1 != reg) } }
      let s2 := if reg = .pwrreq && s1.sys.settleLeft.isNone then s1.finishModeSet .ok [Mode.dormant.code] else s1
      let s3 := if reg = .pwrreq && p.2 % 4 ≠ 2 && s2.sys.trans = some .dormant then
          { s2 with sys := { s2.sys with trans := none } }
        else s2
      s3.checkWindow)

/-! ### DORMANT (R431-R433) -/

/-- DORMANT_ENTRY: four AON cycles after the window opened, DORMANT is entered. -/
def execDormantEntry (t : Nat) (s : State) : Host.Outcome State Fault Refusal :=
  s.liveAt t (fun s =>
    match s.sys.windowFrom with
    | none => s
    | some x =>
      if x + 122070 ≤ s.ns && (s.sys.mode == .configure || s.sys.mode == .quiesce) then
        let s1 := { s with sys := { s.sys with
          dormantFrom := s.sys.mode, dormantAt := s.ns, windowFrom := none, dormantAccesses := 0, dormantLast := none } }
        s1.enterMode .dormant 1
      else s)

/-- Whether a level wake source is held now: in the window, and in DORMANT. -/
def State.wakeHeld (s : State) : Bool := s.sys.mode == .dormant || s.sys.windowFrom.isSome

/-- I2C_ADDRESS_MATCH (R432): latched in DORMANT, lost in the window. -/
def execI2cAddressMatch (t addr : Nat) (s : State) : Host.Outcome State Fault Refusal :=
  s.liveAt t (fun s =>
    if addr ≠ s.val Reg.SYS_I2CADDR % 128 then s
    else if s.sys.mode = .dormant then { s with sys := { s.sys with i2cLatch := true } }
    else if s.sys.windowFrom.isSome then (s.bump Reg.SYS_WAKELOST).raise E.SYS 6
    else s)

/-- WAKE_N (R335, R341, R432). -/
def execWakeN (t : Nat) (low : Bool) (s : State) : Host.Outcome State Fault Refusal :=
  s.liveAt t (fun s =>
    let falling := low && !s.sys.wakeNLow
    let s1 := { s with sys := { s.sys with wakeNLow := low, wakeNHeld := s.sys.wakeNHeld || (low && s.wakeHeld) } }
    if falling then s1.event 0x245 0 else s1)

/-- AON_ALARM (R432): the AON counter stands at a count; reaching AONALM in the window or in DORMANT is held. -/
def execAonAlarm (t count : Nat) (s : State) : Host.Outcome State Fault Refusal :=
  s.liveAt t (fun s =>
    let y := s.sys
    let alm := y.aonAlmLo + y.aonAlmHi % 65536 * 2 ^ 32
    let c := max y.aonCnt (count % 2 ^ 48)
    let hit := y.aonCnt < alm && alm ≤ c && s.wakeHeld
    { s with sys := { y with aonCnt := c, aonAlarmHit := y.aonAlarmHit || hit } })

/-- The enabled wake sources asserted, in WAKEEN order (R432). -/
def State.wakeSources (s : State) : Nat :=
  let y := s.sys
  let latch := y.edgeLatches.any (fun src => bitAt (s.srcCfg src) 11 == 1)
  let rec_ := (List.range 24).any (fun n => s.asleep n && !(s.target n).pend.isEmpty)
  let b := fun (i : Nat) (on : Bool) => if on && bitAt y.aonPwrreq (8 + i) = 1 then 2 ^ i else 0
  b 0 y.i2cLatch + b 1 y.wakeNHeld + b 2 (latch || rec_) + b 3 y.aonAlarmHit

/-- Reroute timers and the watchdog stand still in DORMANT (R342, R434): their starting points move on by the time slept. -/
def State.wakeTimers (s : State) (slept : Nat) : State :=
  let e := { s.evc with stopFrom := s.evc.stopFrom + slept }
  let s1 := { s with sys := { s.sys with wdogFrom := s.sys.wdogFrom + slept }, evc := e }
  (List.range 24).foldl (fun s n =>
    let t := s.target n
    match t.asleepFrom with
    | some x => s.setTarget n { t with asleepFrom := some (x + slept) }
    | none => s) s1

/-- HIF takes what the completer kept in DORMANT, and the record is posted once (R431, R444). -/
def State.takeOffAccesses (s : State) : State :=
  match s.sys.dormantLast with
  | none => s
  | some (a, r, w) =>
    let s1 := ((s.raise E.HIF 1).bumpBy Reg.HIF_OFFCNT s.sys.dormantAccesses).setVal Reg.HIF_OFFADDRLO (a % 2 ^ 32)
    let s2 := s1.setVal Reg.HIF_OFFADDRHI (a / 2 ^ 32 % 256 + r * 2 ^ 16 + (if w then 2 ^ 20 else 0))
    { s2.event 0xFE0 (a % 2 ^ 32) with sys := { (s2.event 0xFE0 (a % 2 ^ 32)).sys with dormantAccesses := 0, dormantLast := none } }

/-- The mode from which DORMANT was entered is entered again: wake sources shown, latches made records, cores resume (R433, R341). -/
def State.wakeUp (s : State) (src : Nat) : State :=
  let edges := s.sys.edgeLatches
  let s1 := (s.wakeTimers (s.ns - s.sys.dormantAt)).enterMode s.sys.dormantFrom 7
  let s2 := (((s1.setVal Reg.SYS_WAKESRC src).bump Reg.SYS_WAKES).event 0x011 src)
  let s3 := { s2 with sys := { s2.sys with edgeLatches := [], i2cLatch := false, wakeNHeld := false, aonAlarmHit := false } }
  let s4 := (edges.foldl (fun s e => s.pendEvent e 0 true false) s3).takeOffAccesses
  let s5 := if s4.hif.perstDue then ({ s4 with hif := { s4.hif with perstDue := false } }).event 0x211 0 else s4
  (List.range 8).foldl (fun s k => match (s.core k).waiting with
    | some m => if bitAt m 2 = 1 then s.wakeCore k else s
    | none => s) s5

/-- WAKE (R433): a wake source has reached AON. -/
def execWake (t : Nat) (s : State) : Host.Outcome State Fault Refusal :=
  s.liveAt t (fun s => if s.sys.mode = .dormant && s.wakeSources ≠ 0 then s.wakeUp s.wakeSources else s)

/-! ### Resets (R434, Table 21-4) -/

/-- The bit of RSTCAUSE of a reset. -/
def ResetCause.bit : ResetCause → Nat
  | .por => 0 | .pin => 1 | .sw => 2 | .wdog => 3 | .trial => 4 | .perst => 5

/-- A reset of the whole device, at a power-on with the AON domain too. Fuses, boot flash, host memory, the fitted cartridge and the
commands that wait keep what they hold; RSTCAUSE keeps its bits through every reset but a power-on. -/
def State.deviceReset (s : State) (c : ResetCause) : State :=
  let r := State.reset
  let y := s.sys
  let s1 : State := { r with
    hostMem := s.hostMem
    free := s.free
    pending := s.pending
    supplyOk := s.supplyOk
    key := { r.key with otp := s.key.otp }
    upd := { r.upd with flash := s.upd.flash, image := s.upd.image, ctl := s.upd.ctl, secMin := s.upd.secMin, keptGen := s.upd.keptGen }
    sys := { r.sys with inOrder := c == .sw }
    ldg := { r.ldg with cart := s.ldg.cart, ident := s.ldg.ident, wear := s.ldg.wear, wearRem := s.ldg.wearRem } }
  if c = .por then s1.setVal Reg.SYS_RSTCAUSE 1
  else
    let s2 : State := { s1 with sys := { s1.sys with
      aonPwrreq := y.aonPwrreq, aonAlmLo := y.aonAlmLo, aonAlmHi := y.aonAlmHi, aonWdog := y.aonWdog, aonCnt := y.aonCnt
      wakeNLow := y.wakeNLow } }
    let s3 := (((s2.setVal Reg.SYS_PWRREQ y.aonPwrreq).setVal Reg.SYS_AONALMLO y.aonAlmLo).setVal Reg.SYS_AONALMHI
      y.aonAlmHi).setVal Reg.SYS_WDOG y.aonWdog
    s3.setVal Reg.SYS_RSTCAUSE (s.val Reg.SYS_RSTCAUSE ||| 2 ^ c.bit)

/-- POWER_ON_RESET: it also ends what a failed supply left. -/
def execPowerOnReset (s : State) : Host.Outcome State Fault Refusal := .next { s.deviceReset .por with supplyOk := true }

/-- RESET_PIN. -/
def execResetPin (s : State) : Host.Outcome State Fault Refusal := s.live (fun s => s.deviceReset .pin)

/-- SYS.RSTCMD written: KEY 0x5253 and DEVRST reset the device after a metering save and a journal flush; another KEY sets CFGERR. -/
def State.writeRstcmd (s : State) (v : Nat) : State :=
  if v / 2 ^ 16 % 2 ^ 16 ≠ 0x5253 then s.cfgErr E.SYS
  else if bitAt v 0 = 1 then (s.meterSaveNow.flush).deviceReset .sw
  else s

/-- DEVRST. -/
def execDevrst (req : Requester) (value : Nat) (s : State) : Host.Outcome State Fault Refusal :=
  s.live (fun s => s.writeBy req Reg.SYS_RSTCMD value (fun s => s.writeRstcmd value))

/-- WATCHDOG_EXPIRY: the enabled watchdog has counted its period since its latest reload; paused in DORMANT. -/
def execWatchdogExpiry (t : Nat) (s : State) : Host.Outcome State Fault Refusal :=
  s.liveAt t (fun s =>
    let w := s.sys.aonWdog
    if bitAt w 31 = 1 && s.sys.mode != .dormant && s.sys.wdogFrom + w % 64 * 1000000000 ≤ s.ns then s.deviceReset .wdog else s)

/-- WDKICK: any write reloads the watchdog. -/
def execWdkick (req : Requester) (value : Nat) (s : State) : Host.Outcome State Fault Refusal :=
  s.live (fun s => s.writeBy req Reg.SYS_WDKICK value (fun s => { s with sys := { s.sys with wdogFrom := s.ns } }))

/-- SUPPLY_FAIL (R435): from here on the device's behaviour is undefined until a power-on reset. -/
def execSupplyFail (s : State) : Host.Outcome State Fault Refusal := s.live (fun s => { s with supplyOk := false })

/-- What PCIE_PERST_N does (R443). -/
def State.perst (s : State) : State :=
  let s1 := (s.setVal Reg.HIF_CTL 0).setVal Reg.HIF_AGREED 0
  let h := s1.hif
  let progs := h.inProg.map (fun (p : InProg) => { p with silent := true })
  let s2 : State := { s1 with hif := { h with inProg := progs, cpls := [] } }
  let s3 := (List.range 16).foldl (fun s k =>
    let v := s.val (Reg.SNAP_SUBkCTL k)
    if bitAt v 0 = 1 then s.setVal (Reg.SNAP_SUBkCTL k) (v - 1) else s) s2
  let s4 := (List.range 16).foldl (fun s k => (s.setFld (Reg.EVC_TGTnCTL (8 + k)) F.EVC_TGTnCTL_EN 0).refreshSleep (8 + k)) s3
  let s5 := ((s4.setVal Reg.SYS_RSTCAUSE (s4.val Reg.SYS_RSTCAUSE ||| 2 ^ 5)).bump Reg.HIF_PERSTS).raise E.HIF 8
  if s5.sys.mode = .dormant then { s5 with hif := { s5.hif with perstDue := true } } else s5.event 0x211 0

/-- PCIE_PERST (R443). -/
def execPciePerst (t : Nat) (s : State) : Host.Outcome State Fault Refusal := s.liveAt t State.perst

end Sys2Proof.Machine
end

