-- ==== Sys2Proof/Machine/Update.lean ====
section
/-!
DEFINITION. Image update over the relay chain: R406-R421.
-/
namespace Sys2Proof.Machine

def UState.code : UState → Nat
  | .idle => 0 | .manifest => 1 | .transfer => 2 | .storing => 3 | .stored => 4 | .failed => 5

/-- A change of session state posts source 0x1F8 (R414). -/
def State.setUState (s : State) (u : UState) : State :=
  ({ s with upd := { s.upd with ustate := u } }).event 0x1F8 (u.code + s.upd.session % 2 ^ 24 * 256)

/-- A relay frame sent. -/
def State.relay (s : State) (m : RelayMsg) : State := { s with upd := { s.upd with tx := s.upd.tx ++ [m] } }

/-- REPORT to the upstream neighbour: device ID, POS, session state, blocks verified, blocks stored, LASTERR (Table 20-4). -/
def State.report (s : State) : State :=
  if s.upd.head then s
  else
    let u := s.upd
    s.relay {
      up := true
      type := 5
      words := [s.deviceId, u.pos, u.ustate.code, u.verified.length, u.stored, u.lastErr + u.errBlock * 2 ^ 16] }

/-- UPD.SECVERMIN: the fuses' value, raised by confirmations (R419). -/
def State.secverMin (s : State) : Nat := max (s.val Reg.UPD_SECVERMIN % 256) s.upd.secMin

/-! ### The manifest (R408, R409, R415) -/

def manNblk (m : List Byte) : Nat := leAt m 0x1C 4

def manHash (m : List Byte) (k : Nat) : List Byte := sliceOf m (0x140 + 32 * (k - 1)) 32

/-- A part entry: CODE, COPY, VERSION, FIRST, BLKS, PLEN (Table 20-3). -/
structure Part where
  code : Nat
  copy : Bool
  version : Nat
  first : Nat
  blks : Nat
  plen : Nat
  zeros : Bool
  deriving DecidableEq, Repr

def manPart (m : List Byte) (i : Nat) : Part :=
  let b := 0x40 + 32 * i
  let w0 := leAt m b 4
  { code := w0 % 256, copy := bitAt w0 8 = 1, version := leAt m (b + 4) 4, first := leAt m (b + 8) 4,
    blks := leAt m (b + 12) 4, plen := leAt m (b + 16) 4,
    zeros := w0 / 512 == 0 && (sliceOf m (b + 20) 12).all (· == 0) }

def manParts (m : List Byte) : List Part := (List.range 8).map (manPart m)

/-- Whether block `k` belongs to a part that is copied from the active bank. -/
def manCopied (m : List Byte) (k : Nat) : Bool :=
  (manParts m).any (fun p => p.copy && p.first ≤ k && k < p.first + p.blks)

/-- A failed check of Table 20-6. -/
structure ManFail where
  code : Nat
  status : Status

/-- Parts missing, repeated or overlapping, NBLK above 1 919, or BLKS disagreeing with PLEN. -/
def partsBad (m : List Byte) : Bool :=
  let ps := manParts m
  let n := manNblk m
  1919 < n || n = 0 ||
  (List.range 7).any (fun c => (ps.filter (fun p => p.code = c + 1)).length ≠ 1) ||
  (manPart m 7).code ≠ 0 ||
  (ps.take 7).any (fun p => p.blks ≠ (p.plen + 65535) / 65536 || p.first = 0 || n + 1 < p.first + p.blks) ||
  (List.range 7).any (fun i => (List.range i).any (fun j =>
    let p := manPart m i
    let q := manPart m j
    p.first < q.first + q.blks && q.first < p.first + p.blks))

/-- The checks of Table 20-6 in their order. -/
def State.manifestCheck (s : State) (m : List Byte) : Option ManFail :=
  let n := manNblk m
  let k := 0x140 + 32 * n
  let zerosBad := !(sliceOf m 0x24 28).all (· == 0) || leAt m 0x0D 3 ≠ 0 || leAt m 0x11 3 ≠ 0 || 2 ≤ leAt m 0x14 4 ||
    (manParts m).any (fun p => !p.zeros) || leAt m (k + 4) 4 ≠ 0
  let idx := leAt m k 4 % 4
  if m.take 4 ≠ [0x41, 0x47, 0x4C, 0x4D] || leAt m 0x20 4 ≠ k + 104 || m.length ≠ k + 104 || leAt m 6 2 ≠ 7 || zerosBad ||
      leAt m 8 4 = 0 then
    some ⟨1, .arg⟩
  else if leAt m 4 2 ≠ 1 then some ⟨2, .version⟩
  else if !ecdsaVerify (Config.fusePubKey idx) (sha384 (m.take k)) (beAt m (k + 8) 48) (beAt m (k + 56) 48) then
    some ⟨3, .auth⟩
  else if Config.fuseRevoked idx then some ⟨4, .auth⟩
  else if leAt m 0x0C 1 ≠ 0xB1 then some ⟨5, .version⟩
  else if leAt m 0x10 1 < s.secverMin then some ⟨6, .auth⟩
  else if partsBad m then some ⟨7, .arg⟩
  else none

/-! ### Staging and storing -/

/-- A session fails: LASTERR, FAILED, SESSFAIL, a REPORT (R414). -/
def State.failSession (s : State) (code block : Nat) : State :=
  (((({ s with upd := { s.upd with lastErr := code, errBlock := block } }).setUState .failed).raise E.UPD 4)).report

/-- The control record written: SEQ one higher (R407). -/
def State.writeCtl (s : State) (c : CtlRec) : State :=
  { s with upd := { s.upd with ctl := { c with seq := (s.upd.ctl.seq + 1) % 2 ^ 32 } } }

/-- UPDID of the inactive bank in the control record. -/
def CtlRec.setInactive (c : CtlRec) (id : Nat) : CtlRec := if c.bankB then { c with upidA := id } else { c with upidB := id }

/-- Blocks that the chain transfers. -/
def transferBlocks (m : List Byte) : List Nat :=
  ((List.range (manNblk m)).map (· + 1)).filter (fun k => !manCopied m k)

/-- When every block is verified the device stores: the inactive bank's UPDID becomes 0 before its erase (R414). -/
def State.checkStoring (s : State) : State :=
  if (transferBlocks s.upd.manifest).all (fun k => s.upd.verified.contains k) then
    (s.writeCtl (s.upd.ctl.setInactive 0)).setUState .storing
  else s

/-- A verified block staged in LPDDR5X and, with FWDEN, passed on downstream (R412). -/
def State.takeBlock (s : State) (k : Nat) (bytes : List Byte) : State :=
  let s1 := (s.putDev (s.stageBase + 65536 * k) bytes).bump Reg.UPD_BLOCKSRX
  let s2 := { s1 with upd := { s1.upd with verified := s1.upd.verified ++ [k], blockFrags := terase s1.upd.blockFrags k } }
  if s2.flag Reg.UPD_CTL F.UPD_CTL_FWDEN && s2.upd.dnver ≠ 0 then
    (s2.relay { up := false, type := 3, index := k, frag := 64, total := manNblk s2.upd.manifest, payload := bytes }).bump
      Reg.UPD_BLOCKSFWD
  else s2

/-- A checked manifest staged and passed on; the session is in TRANSFER (R412, R414). -/
def State.takeManifest (s : State) (m : List Byte) : State :=
  let s1 := ({ s with upd := { s.upd with manifest := m, verified := [], blockFrags := [], fails := [], stored := 0 } }).putDev
    s.stageBase m
  let s2 := if s1.flag Reg.UPD_CTL F.UPD_CTL_FWDEN && s1.upd.dnver ≠ 0 then
      s1.relay { up := false, type := 2, total := m.length, payload := m }
    else s1
  s2.setUState .transfer

/-- A new session's identity. -/
def State.newSession (s : State) (id : Nat) (head : Bool) (pos : Nat) : State :=
  ({ s with upd := { s.upd with
    session := id, head := head, pos := pos, frags := [], manifest := [], verified := [], blockFrags := [], fails := [],
    blockAt := [], stored := 0, armed := false } }).setUState .manifest

/-- Whether no session is in progress. -/
def Upd.free (u : Upd) : Bool := u.ustate == .idle || u.ustate == .stored || u.ustate == .failed

/-- UPDATE_BEGIN's own rules (R413). -/
def updateBeginBody (mode addr len : Nat) : CmdBody := fun s =>
  if s.upd.trialEnd.isSome then (s, some (.state, [s.upd.lastErr]))
  else if !s.upd.free then (s, some (.busy, [s.upd.lastErr]))
  else if mode = 1 then
    ({ s with upd := { s.upd with armed := true, head := false } }, some (.ok, [s.upd.lastErr]))
  else
    let head := s.hostBytes addr 0x140
    let m := s.hostBytes addr (min (leAt head 0x20 4) 61832)
    if s.val Reg.UPD_STAGESIZE % 1024 * 16 < manNblk head + 1 || s.val Reg.UPD_STAGESIZE % 1024 * 0x100000 < len then
      (s, some (.nospace, [s.upd.lastErr]))
    else
      let s1 := s.newSession (leAt m 8 4) true 0
      match s1.manifestCheck m with
      | some f =>
        let s2 := (({ s1 with upd := { s1.upd with lastErr := f.code } }).setUState .failed).raise E.UPD 1
        (s2.raise E.UPD 4, some (f.status, [f.code]))
      | none =>
        let s2 := s1.takeManifest m
        let s3 := (transferBlocks m).foldl (fun s k =>
          if s.upd.ustate = .transfer then
            let b := s.hostBytes (addr + 65536 * k) 65536
            if sha256 b = manHash m k then s.takeBlock k b
            else ((s.bumpBy Reg.UPD_HASHFAIL 4).raise E.UPD 2).failSession 8 k
          else s) s2
        let s4 := if s3.upd.ustate = .transfer then s3.checkStoring else s3
        (s4, some (.ok, [s4.upd.lastErr + s4.upd.errBlock * 2 ^ 16]))

def State.updateBegin (s : State) (h : CmdHdr) (mode addr len : Nat) : State :=
  s.hostCmd 0x0901 h (mode < 2) (s.notBootDormant && s.sys.mode != .configure) false (updateBeginBody mode addr len)

/-- UPDATE_BEGIN (R413). -/
def execUpdateBegin (h : CmdHdr) (mode addr len : Nat) (s : State) : Host.Outcome State Fault Refusal :=
  s.live (fun s => s.updateBegin h mode addr len)

/-- Whether a relay frame's header is good on its link (R410); otherwise it is counted in FRAMEERR. -/
def State.frameOk (s : State) (h : RelayHdr) : Bool :=
  h.magic == 0xA6F0 && (h.version == (if h.up then s.upd.upver else s.upd.dnver)) && h.pos ≤ 63 && h.plen ≤ 1024

/-- A relay frame handled, or counted as bad. -/
def State.onRelay (s : State) (h : RelayHdr) (f : State → State) : State :=
  if s.frameOk h then f s else s.bump Reg.UPD_FRAMEERR

/-- A relay HELLO settles the link's version and the chain position (R411). -/
def State.relayHello (s : State) (h : RelayHdr) (lowest highest : Nat) (mac : List Byte) : State :=
  let v := if highest < 2 || 3 < lowest then 0 else min 3 highest
  let s1 := if v = 0 then s.raise E.UPD 6 else s
  let s2 := if h.up then { s1 with upd := { s1.upd with upver := v, upMac := mac } }
    else { s1 with upd := { s1.upd with dnver := v, dnMac := mac } }
  if h.up && v ≠ 0 && !s2.upd.head then
    if 63 ≤ h.pos then s2.raise E.UPD 7 else { s2 with upd := { s2.upd with pos := h.pos + 1 } }
  else s2

/-- A relay HELLO arrives (R411); its header's MAGIC and POS must be good, its version is what it settles. -/
def execRelayHello (hdr : RelayHdr) (lowest highest : Nat) (mac : List Byte) (s : State) :
    Host.Outcome State Fault Refusal :=
  s.live (fun s => if hdr.magic = 0xA6F0 && hdr.pos ≤ 63 then s.relayHello hdr lowest highest mac
    else s.bump Reg.UPD_FRAMEERR)

/-- A manifest fragment (R412-R415). -/
def State.manifestFrag (s : State) (h : RelayHdr) (payload : List Byte) : State :=
  let u := s.upd
  let armed := u.armed || s.flag Reg.UPD_CTL F.UPD_CTL_AUTORECV
  let start := u.free && armed
  if !start && !(u.ustate == .manifest && u.session == h.session && !u.head) then s
  else if 63 ≤ h.pos then s.raise E.UPD 7
  else
    let s1 := if start then s.newSession h.session false (h.pos + 1) else s
    let s2 := { s1 with upd := { s1.upd with frags := tput (fun _ => []) s1.upd.frags h.index payload } }
    let n := (h.total + 1023) / 1024
    let held := (List.range n).map (fun i => tget (fun _ => []) s2.upd.frags i)
    if held.any (·.isEmpty) then s2
    else
      let m := held.flatten.take h.total
      match s2.manifestCheck m with
      | some f => (s2.raise E.UPD 1).failSession f.code 0
      | none => (s2.takeManifest m).checkStoring

/-- A manifest fragment arrives (R412). -/
def execManifest (t : Nat) (hdr : RelayHdr) (payload : List Byte) (s : State) : Host.Outcome State Fault Refusal :=
  s.liveAt t (fun s => s.onRelay hdr (fun s => if hdr.up then s.manifestFrag hdr payload else s))

/-- Fragments of a block that are missing. -/
def missingFrags (held : List (Nat × List Byte)) : List Nat :=
  (List.range 64).filter (fun i => !held.any (·.1 == i))

/-- NAK for a block: the missing fragments under version 3, the whole block under version 2 (Table 20-4). -/
def State.sendNak (s : State) (k : Nat) (missing : List Nat) : State :=
  (s.relay {
    up := true
    type := 4
    index := k
    words := if s.upd.upver = 2 then List.range 64 else missing }).bump Reg.UPD_NAKSENT

/-- A block fragment: kept until all 64 are held, then the block is verified (R412). -/
def State.blockFrag (s : State) (h : RelayHdr) (payload : List Byte) : State :=
  let u := s.upd
  if u.ustate ≠ .transfer || u.session ≠ h.session || u.head || u.verified.contains h.index ||
      !(transferBlocks u.manifest).contains h.index || 64 ≤ h.frag then s
  else
    let held0 := tget (fun _ => []) u.blockFrags h.index
    let held := (held0.filter (·.1 ≠ h.frag)) ++ [(h.frag, payload)]
    let s1 := { s with upd := { u with
      blockFrags := tput (fun _ => []) u.blockFrags h.index held, blockAt := tput (fun _ => 0) u.blockAt h.index s.ns } }
    if (missingFrags held).isEmpty then
      let bytes := ((List.range 64).map (fun i => ((held.find? (·.1 == i)).map (·.2)).getD [])).flatten
      if sha256 bytes = manHash u.manifest h.index then (s1.takeBlock h.index bytes).checkStoring
      else
        let n := tget (fun _ => 0) u.fails h.index + 1
        let s2 := ({ s1 with upd := { s1.upd with
          blockFrags := terase s1.upd.blockFrags h.index, fails := tput (fun _ => 0) s1.upd.fails h.index n } })
        let s3 := (s2.bump Reg.UPD_HASHFAIL).raise E.UPD 2
        if 4 ≤ n then s3.failSession 8 h.index else s3.sendNak h.index (List.range 64)
    else s1

/-- A block fragment arrives (R412). -/
def execBlock (t : Nat) (hdr : RelayHdr) (payload : List Byte) (s : State) : Host.Outcome State Fault Refusal :=
  s.liveAt t (fun s => s.onRelay hdr (fun s => if hdr.up then s.blockFrag hdr payload else s))

/-- 2 ms after a block's last fragment a NAK names the missing ones (R412). -/
def execNakTimer (t block : Nat) (s : State) : Host.Outcome State Fault Refusal :=
  s.liveAt t (fun s =>
    let held := tget (fun _ => []) s.upd.blockFrags block
    if s.upd.ustate = .transfer && !held.isEmpty && tget (fun _ => 0) s.upd.blockAt block + 2000000 ≤ s.ns then
      s.sendNak block (missingFrags held)
    else s)

/-- A NAK from downstream: the fragments go out again from staging (R411, R412). -/
def execNak (hdr : RelayHdr) (missing : List Nat) (s : State) : Host.Outcome State Fault Refusal :=
  s.live (fun s => s.onRelay hdr (fun s =>
    if hdr.up || !s.upd.verified.contains hdr.index || hdr.session ≠ s.upd.session then s
    else
      let frags := if s.upd.dnver = 2 then List.range 64 else missing.filter (· < 64)
      (frags.foldl (fun s f => s.relay {
          up := false
          type := 3
          index := hdr.index
          frag := f
          total := manNblk s.upd.manifest
          payload := s.devBytes (s.stageBase + 65536 * hdr.index + 1024 * f) 1024 }) s).bump
        Reg.UPD_RETRANS))

/-- A REPORT from downstream is posted and, under version 3, passed upstream (R411, R421). -/
def execReport (hdr : RelayHdr) (payload : List Byte) (s : State) : Host.Outcome State Fault Refusal :=
  s.live (fun s => s.onRelay hdr (fun s =>
    if hdr.up then s
    else
      let s1 := s.event 0x1F9 0
      if s1.upd.head || s1.upd.upver ≠ 3 then s1 else s1.relay { up := true, type := 5, payload := payload }))

/-- A session ends: IDLE, ABORT forwarded, staging freed, the control record unchanged (R414). -/
def State.abortSession (s : State) : State :=
  if s.upd.ustate = .idle then s
  else
    let s1 := if s.upd.dnver ≠ 0 then s.relay { up := false, type := 6 } else s
    ({ s1 with upd := { s1.upd with
      frags := [], manifest := [], verified := [], blockFrags := [], fails := [], blockAt := [] } }).setUState .idle

/-- An ABORT message, or UPD.ABORT written (R414). -/
def execAbort (src : AbortSrc) (s : State) : Host.Outcome State Fault Refusal :=
  s.live (fun s => match src with
    | .message hdr => s.onRelay hdr (fun s =>
        if hdr.up && hdr.session = s.upd.session then s.abortSession else s)
    | .write req v => s.writeBy req Reg.UPD_ABORT v (fun s => if bitAt v 0 = 1 then s.abortSession else s))

/-- Flash offset of a bank (Table 20-1). -/
def bankBase (b : Bool) : Nat := if b then 0x8800000 else 0x800000

/-- Blocks put into the inactive bank. -/
def putBlocks (src : Mem) (srcBase dst : Nat) (m : Mem) (ks : List Nat) : Mem :=
  ks.foldl (fun m k => Mem.putBytes m (dst + 65536 * k) (src.bytes (srcBase + 65536 * k) 65536)) m

/-- The inactive bank is written and read back: STORED, or a flash error or COPY mismatch (R414, R415). -/
def execStoreComplete (t : Nat) (flashError : Bool) (s : State) : Host.Outcome State Fault Refusal :=
  s.liveAt t (fun s =>
    if s.upd.ustate ≠ .storing then s
    else if flashError then (s.raise E.UPD 3).failSession 9 0
    else
      let m := s.upd.manifest
      let act := bankBase s.upd.ctl.bankB
      let dst := bankBase (!s.upd.ctl.bankB)
      let copied := ((List.range (manNblk m)).map (· + 1)).filter (manCopied m)
      match copied.find? (fun k => sha256 (s.upd.flash.bytes (act + 65536 * k) 65536) ≠ manHash m k) with
      | some k => s.failSession 0xA k
      | none =>
        let f1 := putBlocks s.devMem s.stageBase dst s.upd.flash (transferBlocks m)
        let f2 := Mem.putBytes (putBlocks s.upd.flash act dst f1 copied) dst m
        let s1 := { s with upd := { s.upd with flash := f2, stored := manNblk m } }
        ((s1.writeCtl (s1.upd.ctl.setInactive s1.upd.session)).setUState .stored).report)

/-- ACTIVATE's own rules (R416, R420). -/
def activateBody (h : CmdHdr) : CmdBody := fun s =>
  if s.upd.trialEnd.isSome || (s.chd.role == .active && s.redun && !h.force) then (s, some (.state, []))
  else if s.upd.ustate ≠ .stored then (s, some (.absent, []))
  else
    let c := s.upd.ctl
    let s1 := s.writeCtl { c with
      bankB := !c.bankB
      trial := true
      tried := false
      trialwin := s.val Reg.UPD_TRIALWIN % 2 ^ 17 }
    let s2 := (s1.offer 0x2010 (words [c.upidA, c.upidB])).meterSaveNow.flush
    (({ s2 with upd := { s2.upd with restartDue := true } }).bump Reg.UPD_ACTIVATIONS, some (.ok, []))

def State.activate (s : State) (h : CmdHdr) : State :=
  s.hostCmd 0x0902 h true (s.notBootDormant && s.sys.mode != .configure) false (activateBody h)

/-- ACTIVATE (R416). -/
def execActivate (h : CmdHdr) (s : State) : Host.Outcome State Fault Refusal :=
  s.live (fun s => s.activate h)

/-- The trial timer reaches 0 and the device resets (R417). -/
def execTrialExpiry (t : Nat) (s : State) : Host.Outcome State Fault Refusal :=
  s.liveAt t (fun s => match s.upd.trialEnd with
    | some x => if x ≤ s.ns then s.deviceReset .trial else s
    | none => s)

/-- The manifest of the bank that runs. -/
def State.runManifest (s : State) : List Byte := s.upd.flash.bytes (bankBase s.upd.ctl.bankB) 0x140

/-- The security version that confirmation burns: it rises to the manifest's when the manifest says so (R415). -/
def State.secAfter (s : State) : Nat :=
  if bitAt (leAt s.runManifest 0x14 4) 0 = 1 then max s.secverMin (leAt s.runManifest 0x10 1) else s.upd.secMin

/-- Confirmation: the control record says CONFIRMED, the timer stops, TRIAL becomes SERVE (R419). -/
def State.confirm (s : State) : State :=
  let s1 : State := { s with upd := { s.upd with secMin := s.secAfter } }
  let s2 : State := s1.writeCtl { s1.upd.ctl with trial := false, tried := false }
  let s2a : State := { s2 with upd := { s2.upd with trialEnd := none, keptGen := none } }
  let s3 : State := s2a.offer 0x2011 []
  if s3.sys.mode = .trial then s3.enterMode .serve 5 else s3

/-- HEALTH_CONFIRM's own rules (R419). -/
def confirmBody : CmdBody := fun s =>
  if s.upd.trialEnd.isNone then (s, some (.state, []))
  else if !s.upd.selfok then (s, some (.busy, []))
  else (s.confirm, some (.ok, []))

def State.healthConfirm (s : State) (h : CmdHdr) : State := s.hostCmd 0x0903 h true true false confirmBody

/-- HEALTH_CONFIRM (R419). -/
def execHealthConfirm (h : CmdHdr) (s : State) : Host.Outcome State Fault Refusal :=
  s.live (fun s => s.healthConfirm h)

/-- Resident firmware's self-checks: every part's VERSION as loaded, the settings, the lattice image, the cartridge (R419). -/
def execSelfok (t : Nat) (loaded : List Nat) (settingsParse : Bool) (s : State) : Host.Outcome State Fault Refusal :=
  s.liveAt t (fun s =>
    let m := s.upd.flash.bytes (bankBase s.upd.ctl.bankB) 0x140
    let versions := ((manParts m).take 7).map (·.version)
    let cart := s.ldg.cstate == .active || s.ldg.cstate == .absent
    if versions = loaded && settingsParse && s.imageLoaded && cart then
      let s1 := { s with upd := { s.upd with selfok := true } }
      if s1.flag Reg.UPD_CTL F.UPD_CTL_AUTOCONF && s1.upd.trialEnd.isSome then s1.confirm else s1
    else s)

/-! ### The control record at start (R417) -/

/-- What the boot ROM does with the control record: the first start of a trial, a fallback, or nothing. The fallback's ledger record
is made once the journal can take it. -/
def State.bootControl (s : State) : State :=
  let c := s.upd.ctl
  if !c.trial then s
  else if !c.tried then
    let s1 := s.writeCtl { c with tried := true }
    { s1 with upd := { s1.upd with trialEnd := some (s1.ns + c.trialwin * 1000000000) } }
  else
    let s1 := s.writeCtl { c with bankB := !c.bankB, trial := false, tried := false, setgen := s.upd.keptGen.getD c.setgen }
    let s2 := { s1 with upd := { s1.upd with trialEnd := none, fallback := true, keptGen := none } }
    (s2.bump Reg.UPD_FALLBACKS).raise E.UPD 5

end Sys2Proof.Machine
end

