-- ==== Sys2Proof/Machine/Pair.lean ====
section
/-!
DEFINITION. Redundant pairs: the links and their messages, HELLO and HEARTBEAT, the referee, promotion, deposition and fencing,
switchover (R345-R357, R365-R369, R371). What the Standby follows is in Transfer.
-/
namespace Sys2Proof.Machine

/-! ### Links and peers (R345, R347, R348) -/

/-- The number of a link: 0 Chord, 1 the referee, 2 and 3 a referee's units. -/
def linkIx : ChdLink → Nat
  | .chord _ => 0
  | .referee => 1
  | .unit p => 2 + p

def State.peer (s : State) : ChdLink → Peer
  | .chord _ => s.chd.partner
  | .referee => s.chd.ref
  | .unit p => tget (fun _ => {}) s.chd.units p

def State.setPeer (s : State) (l : ChdLink) (p : Peer) : State :=
  match l with
  | .chord _ => { s with chd := { s.chd with partner := p } }
  | .referee => { s with chd := { s.chd with ref := p } }
  | .unit k => { s with chd := { s.chd with units := tput (fun _ => {}) s.chd.units k p } }

/-- Whether a link is one of this device's: a referee's units, or a paired unit's partner and referee. -/
def State.hasLink (s : State) : ChdLink → Bool
  | .unit p => s.chd.role == .referee && p < 2
  | _ => s.chd.role != .referee && s.inPair

/-- Chord and referee messaging runs. -/
def State.chdUp (s : State) : Bool :=
  s.flag Reg.CHD_CTL F.CHD_CTL_EN && s.sys.mode != .boot && s.sys.mode != .dormant

/-- A message fit to be taken (R348). -/
def goodMsg (h : ChdHdr) : Bool :=
  h.crcOk && h.magic == 0xA6C4 && h.length == h.size && 20 ≤ h.length && h.length ≤ 131072

/-- Outputs follow the channels again once a message at its own epoch reaches a fenced unit (R351). -/
def State.unfence (s : State) : State := s.withMuting (fun s => { s with chd := { s.chd with fenced := false } })

/-- A message taken: its number and its time noted; one at the unit's own epoch or a lower one holds off the fence (R355). -/
def State.noteMsg (s : State) (h : ChdHdr) : State :=
  let s1 := s.setPeer h.link { s.peer h.link with heard := some s.ns }
  let s2 : State := { s1 with chd := { s1.chd with
    lastNum := tput (fun _ => none) s1.chd.lastNum (linkIx h.link) (some h.msgnum)
    validAt := if h.epoch ≤ s.epoch then s.ns else s1.chd.validAt } }
  if s2.chd.fenced && h.epoch = s2.epoch then s2.unfence else s2

/-- A message that arrives: discarded with a bad frame, discarded as a duplicate, or taken. A sender that starts again sends HELLO
under any number. -/
def State.onChd (s : State) (h : ChdHdr) (hello : Bool) (f : State → State) : State :=
  if !s.chdUp then s
  else if !goodMsg h then s.bump Reg.CHD_LANECRC
  else if !s.hasLink h.link then s
  else
    let dup : Bool := match tget (fun _ => none) s.chd.lastNum (linkIx h.link) with
      | some x => if hello then decide (x = h.msgnum) else seqFrom x h.msgnum
      | none => false
    if dup then s.bump Reg.CHD_DUPDISC else f (s.noteMsg h)

/-! ### Messages sent (R349) -/

/-- A message sent on a link. -/
def State.sendOn (s : State) (l : ChdLink) (m : ChdMsg) : State :=
  match l with
  | .chord _ => s.chdSend m
  | .referee => s.chdSend { m with toReferee := true }
  | .unit p => s.chdSend { m with unitPort := p + 1 }

/-- Links that lead somewhere now: Chord with a lane up, the MGT port with its link up. -/
def State.liveLinks (s : State) : List ChdLink :=
  if s.chd.role = .referee then
    (if (s.port 4).link then [.unit 0] else []) ++ (if (s.port 5).link then [.unit 1] else [])
  else if !s.inPair then []
  else
    (if s.chd.lanes = 0 then [] else [.chord 0]) ++
      (if (s.port (4 + s.fld Reg.CHD_CFG F.CHD_CFG_REFPORT)).link then [.referee] else [])

/-- The COMPAT hash, 16 bytes. -/
def State.compat (s : State) : Nat :=
  s.val (Reg.LAT_COMPATk 0) + s.val (Reg.LAT_COMPATk 1) * 2 ^ 32 + s.val (Reg.LAT_COMPATk 2) * 2 ^ 64 + s.val (Reg.LAT_COMPATk 3) * 2 ^ 96

def State.home (s : State) : Bool := s.flag Reg.CHD_CFG F.CHD_CFG_HOME

/-- HELLO on a link. -/
def State.sendHello (s : State) (l : ChdLink) : State :=
  s.sendOn l { type := 1, epoch := 0, words := [1, 2, s.chd.role.code, s.sys.mode.code, s.val Reg.LAT_IMAGEID, s.compat,
    s.val Reg.LAT_KLIBVER % 65536, s.val Reg.LAT_SCHEMA % 65536, bit s.home 0, s.epoch] }

/-- The body of HEARTBEAT: role, mode, SYNCED, FENCED, AGE, DELTASEQ, epoch (R352). -/
def State.hbWords (s : State) : List Nat :=
  let age := if s.chd.role = .standby then
      (match s.chd.partner.hbTime with
        | some t => min ((s.ns - t) / 1000) 0xFFFF
        | none => 0xFFFF)
    else 0
  [s.chd.role.code, s.sys.mode.code, bit s.chd.synced 0, bit s.chd.fenced 0, age, s.chd.deltaSeq, s.epoch]

/-! ### Completions that wait for the Standby (R361) -/

/-- Held completions whose delta the Standby has applied, or all when it holds none, complete. -/
def State.releaseHeld (s : State) : State :=
  let p := s.chd.partner
  let ok := fun (q : Nat) => !s.holds || seqFrom p.deltaSeq q
  let go := s.hif.held.filter (fun h => ok h.1)
  let s1 : State := { s with hif := { s.hif with held := s.hif.held.filter (fun h => !ok h.1) } }
  go.foldl (fun s h => s.complete h.2.code h.2.tag .ok h.2.res) s1

/-- Held completions of an Active that has failed never arrive (R369). -/
def State.dropHeld (s : State) : State :=
  let progs := s.hif.held.foldl (fun l h => dropProg h.2.code h.2.tag l) s.hif.inProg
  { s with hif := { s.hif with held := [], inProg := progs } }

/-! ### Epochs (R351, R355, R357) -/

/-- A pending switchover is abandoned; its command completes with a status. -/
def State.abandonSwitch (s : State) (st : Status) : State :=
  let s1 : State := { s with chd := { s.chd with handover := none, echoed := false, switchTag := none } }
  match s.chd.switchTag with
  | some (code, tag) => s1.complete code tag st []
  | none => s1

/-- The Active is deposed: muted, in LOCKOUT, and under the higher epoch. -/
def State.deposed (s : State) (epoch : Nat) : State :=
  let role := fun (s : State) =>
    ({ s with chd := { s.chd with deposed := true, fenced := false, synced := false } }).setRole .solo
  let s1 := if s.sys.mode = .lockout then role s.dropHeld else s.dropHeld.enterWith .lockout 4 role
  ((((s1.raise E.SYS 3).finishModeSet .state []).raise E.CHD 8).abandonSwitch .state).setVal Reg.CHD_EPOCH epoch

/-- A higher epoch met on a link; `active` when its sender is an Active unit. An Active that holds an epoch already is deposed by it, a
fenced one always; every other unit, and a referee, takes it. The epoch that a pending switchover brings is taken at H. -/
def State.meetEpoch (s : State) (l : ChdLink) (e : Nat) (active : Bool) : State :=
  if e ≤ s.epoch || (s.chd.handover.isSome && e = s.epoch + 1) then s
  else
    let take := s.setVal Reg.CHD_EPOCH e
    match s.chd.role with
    | .active =>
      if s.chd.fenced then s.deposed e
      else if active then s.deposed e
      else if l = .referee then (if s.epoch = 0 then take else s.deposed e)
      else s
    | .referee => take.offer 0x1710 (words [e, 0] ++ leBytes 8 s.ns)
    | _ => if active || l = .referee then take else s

/-- DEPOSE (R351): a message of a higher epoch that names another Active. -/
def execDepose (t : Nat) (hdr : ChdHdr) (active : Nat) (s : State) : Host.Outcome State Fault Refusal :=
  s.liveAt t (fun s => s.onChd hdr false (fun s =>
    if s.chd.role = .active && s.epoch < hdr.epoch && active ≠ s.unitId then s.deposed hdr.epoch
    else if s.chd.role = .active then s
    else s.meetEpoch hdr.link hdr.epoch false))

/-- UNFENCE (R351): any message taken at the unit's own epoch. -/
def execUnfence (t : Nat) (hdr : ChdHdr) (s : State) : Host.Outcome State Fault Refusal :=
  s.liveAt t (fun s => s.onChd hdr false (fun s => s.meetEpoch hdr.link hdr.epoch false))

/-- FENCE_T_EXPIRY (R355). -/
def execFenceTExpiry (t : Nat) (s : State) : Host.Outcome State Fault Refusal :=
  s.liveAt t (fun s =>
    if s.chd.role = .active && !s.chd.fenced && s.chd.validAt + s.val Reg.CHD_FENCE_T % 16384 * 1000 ≤ s.ns then
      let s1 := s.withMuting (fun s => { s with chd := { s.chd with fenced := true } })
      (s1.raise E.CHD 6).bump Reg.CHD_FENCES
    else s)

/-! ### HELLO (R349, R350, R357) -/

/-- What a HELLO says of its sender. -/
def helloPeer (b : HelloBody) (p : Peer) (unitId : Nat) : Peer :=
  { p with unitId := unitId, mode := b.mode, role := b.role, home := b.home, epoch := b.lastEpoch, paired := true }

/-- The highest protocol version both sides support; 0 none. -/
def commonVersion (lowest highest : Nat) : Nat :=
  if 2 < lowest || highest < 1 || highest < lowest then 0 else min 2 highest

/-- Whether a UNIT_ID is already another device's. -/
def State.idTaken (s : State) (l : ChdLink) (id : Nat) : Bool :=
  id == s.unitId ||
  (match l with
    | .chord _ => s.chd.ref.paired && s.chd.ref.unitId == id
    | .referee => s.chd.partner.paired && s.chd.partner.unitId == id
    | .unit p => (let q := tget (fun _ => ({} : Peer)) s.chd.units (1 - p)
                  q.paired && q.unitId == id))

/-- A pair forms at the referee: the epoch becomes one more than the largest held or reported, or is recovered from the Active of a pair
that stands (R357). -/
def State.formPair (s : State) : State :=
  let u := fun i => tget (fun _ => ({} : Peer)) s.chd.units i
  let top := max s.epoch (max (u 0).epoch (u 1).epoch)
  let stands := [u 0, u 1].any (fun p => p.role == 1 && p.epoch == top && top != 0)
  let e := if stands then top else (top + 1) % 2 ^ 32
  if e = s.epoch then s else (s.setVal Reg.CHD_EPOCH e).offer 0x1710 (words [e, 0] ++ leBytes 8 s.ns)

/-- A HELLO taken. -/
def State.hello (s : State) (h : ChdHdr) (b : HelloBody) : State :=
  let v := commonVersion b.lowest b.highest
  let old := s.peer h.link
  if v = 0 then (s.setPeer h.link { old with paired := false }).raise E.CHD 9
  else if s.idTaken h.link h.unitId then (s.setPeer h.link { old with paired := false }).cfgErr E.CHD
  else
    let s1 := s.setPeer h.link (helloPeer b old h.unitId)
    match h.link with
    | .unit _ =>
      let both := [0, 1].all (fun i => (tget (fun _ => ({} : Peer)) s1.chd.units i).paired)
      if both && !old.paired then s1.formPair else s1.meetEpoch h.link b.lastEpoch (b.role == 1)
    | .referee => s1.meetEpoch h.link h.epoch false
    | .chord _ =>
      let mis := b.imageId != s.val Reg.LAT_IMAGEID || b.compat != s.compat || b.klibver != s.val Reg.LAT_KLIBVER % 65536 ||
        b.schemaMaj != s.val Reg.LAT_SCHEMA % 65536
      let s2 : State := { s1 with chd := { s1.chd with version := v, imageMis := mis } }
      let s3 := if mis then s2.raise E.CHD 11 else s2
      let s4 := s3.meetEpoch h.link h.epoch (b.role == 1)
      if s4.chd.role = .standby && !s4.chd.synced && b.role == 1 && !old.paired then
        s4.chdSend { type := 8, epoch := 0, words := [] }
      else s4

/-- HELLO_RECEIVED (R350). -/
def execHelloReceived (t : Nat) (hdr : ChdHdr) (body : HelloBody) (s : State) : Host.Outcome State Fault Refusal :=
  s.liveAt t (fun s => s.onChd hdr true (fun s => s.hello hdr body))

/-- CHORD_LANE_UP (R349). -/
def execChordLaneUp (lane : Nat) (s : State) : Host.Outcome State Fault Refusal :=
  s.live (fun s =>
    if 2 ≤ lane then s
    else
      let s1 : State := { s with chd := { s.chd with lanes := maskSet s.chd.lanes lane } }
      if s.chd.lanes = 0 && s1.chdUp && s1.hasLink (.chord lane) then s1.sendHello (.chord lane) else s1)

/-- LANE_DOWN (R347). -/
def execLaneDown (lane : Nat) (s : State) : Host.Outcome State Fault Refusal :=
  s.live (fun s =>
    if bitAt s.chd.lanes lane = 1 then
      ({ s with chd := { s.chd with lanes := s.chd.lanes - 2 ^ lane } }).raise E.CHD 1
    else s)

/-! ### HEARTBEAT (R352) -/

/-- HEARTBEAT_SEND: to every peer that a HELLO has paired; HELLO again every 100 ms to one that has not answered. -/
def State.heartbeatSend (s : State) : State :=
  let links := s.liveLinks
  let again := s.chd.helloAt + 100000000 ≤ s.ns && links.any (fun l => !(s.peer l).paired)
  let s1 := links.foldl (fun s l =>
    let p := s.peer l
    if !p.paired then (if again then s.sendHello l else s)
    else
      let late : Bool := match p.hbTime with
        | some x => decide (x + 250000 < s.ns)
        | none => false
      let s2 := if late then s.bump Reg.CHD_HBMISS else s
      s2.sendOn l { type := 2, epoch := 0, words := s.hbWords }) s
  if again then { s1 with chd := { s1.chd with helloAt := s.ns } } else s1

def execHeartbeatSend (t : Nat) (s : State) : Host.Outcome State Fault Refusal :=
  s.liveAt t (fun s => if s.chdUp then s.heartbeatSend else s)

/-- What a HEARTBEAT says of its sender. -/
def hbPeer (b : HbBody) (p : Peer) (ns : Nat) : Peer :=
  { p with mode := b.mode, role := b.role, synced := b.synced, fenced := b.fenced, age := b.age, deltaSeq := b.deltaSeq, epoch := b.epoch
           hbTime := some ns }

/-- A HEARTBEAT taken: a referee notes which unit is the Active; a unit completes what its Standby has applied, and asks a partner that
turned Active for its state. -/
def State.heartbeat (s : State) (h : ChdHdr) (b : HbBody) : State :=
  let old := s.peer h.link
  let s1 := (s.setPeer h.link (hbPeer b old s.ns)).meetEpoch h.link (max h.epoch b.epoch) (b.role == 1)
  match h.link with
  | .unit p =>
    if b.role = 1 && s1.epoch ≤ b.epoch then { s1 with chd := { s1.chd with actPort := some p } } else s1
  | .referee => s1
  | .chord _ =>
    let s2 := s1.releaseHeld
    let s3 := if s2.chd.role = .standby && !s2.chd.synced && b.role == 1 && old.role != 1 && old.paired then
        s2.chdSend { type := 8, epoch := 0, words := [] }
      else s2
    if b.role = 1 then s3.endSearch else s3

/-- HEARTBEAT_RECEIVED (R352). -/
def execHeartbeatReceived (t : Nat) (hdr : ChdHdr) (body : HbBody) (s : State) : Host.Outcome State Fault Refusal :=
  s.liveAt t (fun s => s.onChd hdr false (fun s => if (s.peer hdr.link).paired then s.heartbeat hdr body else s))

/-! ### The referee (R353) -/

/-- Serving as a HEARTBEAT reports it: SERVE, HOLDOVER or TRIAL. -/
def servingCode (m : Nat) : Bool := m == 3 || m == 6 || m == 8

/-- Whether the Active has failed, judged by its own HEARTBEAT and by the Standby's AGE. -/
def State.activeFailed (s : State) (a b : Peer) : Bool :=
  let viaA := a.hbTime.getD 0
  let viaB := match b.hbTime with
    | some x => x - b.age * 1000
    | none => 0
  !servingCode a.mode || a.fenced || max viaA viaB + 750000 ≤ s.ns

/-- The Standby is promoted and the Active deposed. -/
def State.promoteUnit (s : State) (act : Nat) (a b : Peer) : State :=
  let e := (s.epoch + 1) % 2 ^ 32
  let std := 1 - act
  let s1 := s.setVal Reg.CHD_EPOCH e
  let s2 := s1.sendOn (.unit std) { type := 0x10, epoch := 0, words := [e, a.unitId] }
  let s3 := s2.sendOn (.unit act) { type := 0x11, epoch := 0, words := [e, b.unitId] }
  let s4 := s3.setPeer (.unit std) { b with role := 1, mode := 3, fenced := false, epoch := e, hbTime := some s.ns }
  let s5 := s4.setPeer (.unit act) { a with role := 0 }
  let s6 : State := { s5 with chd := { s5.chd with actPort := some std, noPromo := false } }
  (s6.bump Reg.CHD_PROMOTIONS).offer 0x1710 (words [e, a.unitId] ++ leBytes 8 s.ns)

/-- REFEREE_EVALUATE (R353). -/
def State.evaluate (s : State) : State :=
  match s.chd.actPort with
  | none => s
  | some act =>
    let a := s.peer (.unit act)
    let b := s.peer (.unit (1 - act))
    if !s.activeFailed a b then s
    else
      let near : Bool := match b.hbTime with
        | some x => decide (s.ns < x + 750000)
        | none => false
      if near && b.mode = 4 && (b.synced || s.flag Reg.CHD_CTL F.CHD_CTL_PROMUNSYNC) then s.promoteUnit act a b
      else { s with chd := { s.chd with noPromo := true } }

def execRefereeEvaluate (t : Nat) (s : State) : Host.Outcome State Fault Refusal :=
  s.liveAt t (fun s => if s.chd.role = .referee && s.chdUp then s.evaluate else s)

/-! ### Promotion (R354, R365, R429) -/

/-- The mode in which a Standby takes over. -/
def State.takeoverMode (s : State) : Mode := if s.flag Reg.TB_TQ F.TB_TQ_HOLD then .holdover else s.serveMode

/-- Snapshots that a promotion finds open are marked (R143). -/
def State.markTaken (s : State) : State :=
  (List.range 8).foldl (fun s n =>
    let c := s.sc n
    s.setSc n { c with snaps := c.snaps.map (fun x => if x.finalAt.isNone then { x with taken := true } else x) }) s

/-- The snapshots of a class that a promotion finds open, oldest first: on the digest held, or at once when T_c has passed (R365). -/
def State.takeSnaps (s : State) (n : Nat) : Nat → State
  | 0 => s
  | f + 1 =>
    match (s.sc n).head with
    | none => s
    | some x =>
      let s1 := if (s.digestOf? n x.seq false).isSome then s.followFinal n x false []
        else if s.ns < x.tc then s
        else if x.promoting then s.waitPromotion n x
        else s.releaseFinal n x []
      match (s1.sc n).head with
      | some y => if y.inst = x.inst then s1 else s1.takeSnaps n f
      | none => s1

/-- A Standby in SHADOW takes up the Active's duties under a new epoch. -/
def State.promoted (s : State) (epoch failed : Nat) : State :=
  let s0 : State := { s with sys := { s.sys with holdoverFrom := s.serveMode } }
  let s1 := (s0.markTaken.abandonSwitch .state).enterWith s.takeoverMode 4 (fun s =>
    let t : State := { s with chd := { s.chd with
      synced := false, fenced := false, deposed := false, handedOver := none, syncSeqs := [], validAt := s.ns } }
    (t.setVal Reg.CHD_EPOCH epoch).setRole .active)
  let s2 := (((s1.setVal Reg.CHD_PROMOLO (s1.ns % 2 ^ 32)).setVal Reg.CHD_PROMOHI (s1.ns / 2 ^ 32)).bump Reg.CHD_PROMOTIONS).raise E.CHD 7
  let s3 := s2.offer 0x1710 (words [epoch, failed % 256] ++ leBytes 8 s2.ns)
  (List.range 8).foldl (fun s n => s.takeSnaps n (s.sc n).snaps.length) s3

/-- PROMOTE (R354). -/
def execPromote (t : Nat) (hdr : ChdHdr) (epoch failed : Nat) (s : State) : Host.Outcome State Fault Refusal :=
  s.liveAt t (fun s => s.onChd hdr false (fun s =>
    if s.chd.role = .standby && s.sys.mode = .shadow && hdr.link = .referee && s.epoch < epoch then s.promoted epoch failed else s))

/-! ### Losing a peer (R362, R371) -/

/-- CHORD_LOST (R362): no message for 750 us. -/
def execChordLost (t : Nat) (s : State) : Host.Outcome State Fault Refusal :=
  s.liveAt t (fun s =>
    if !s.chd.partner.paired || s.heardLately s.chd.partner then s
    else
      let s1 := (s.setPeer (.chord 0) { s.chd.partner with synced := false }).raise E.CHD 2
      let s2 := if s1.chd.role = .standby then s1.loseSync else s1
      s2.releaseHeld)

/-- REFEREE_LOST (R371): no message for 750 us. -/
def execRefereeLost (t : Nat) (s : State) : Host.Outcome State Fault Refusal :=
  s.liveAt t (fun s => if !s.chd.ref.paired || s.heardLately s.chd.ref then s else s.raise E.CHD 3)

/-! ### Switchover (R366, R367) -/

/-- The handover instant: the first TAI multiple of 10 ms at least 20 ms on. -/
def handoverAt (ns : Nat) : Nat := (ns + 20000000 + 9999999) / 10000000 * 10000000

/-- What SWITCHOVER and SWITCHBACK do. -/
def switchBody (code : Nat) (back : Bool) (h : CmdHdr) : CmdBody := fun s =>
  if !s.linked then (s, some (.absent, []))
  else if s.chd.role != .active || !s.sys.mode.serving then (s, some (.state, []))
  else if back && (s.home || !s.chd.partner.home) then (s, some (.state, []))
  else if s.chd.handover.isSome || (!s.chd.partner.synced && !h.force) then (s, some (.busy, []))
  else
    let at_ := handoverAt s.ns
    let s1 : State := { s with chd := { s.chd with handover := some at_, echoed := false, switchTag := some (code, h.tag) } }
    (s1.chdSend { type := 0x0B, epoch := 0, words := [at_ % 2 ^ 32, at_ / 2 ^ 32] }, none)

def State.switchover (s : State) (h : CmdHdr) : State := s.hostCmd 0x0A01 h true true false (switchBody 0x0A01 false h)

def State.switchback (s : State) (h : CmdHdr) : State := s.hostCmd 0x0A02 h true true false (switchBody 0x0A02 true h)

/-- SWITCHOVER (R366). -/
def execSwitchover (h : CmdHdr) (s : State) : Host.Outcome State Fault Refusal := s.live (fun s => s.switchover h)

/-- SWITCHBACK (R367). -/
def execSwitchback (h : CmdHdr) (s : State) : Host.Outcome State Fault Refusal := s.live (fun s => s.switchback h)

/-- SWITCH: the Standby notes H and echoes it; the Active sees its echo. -/
def State.switchMsg (s : State) (h : Nat) : State :=
  match s.chd.role with
  | .standby =>
    if s.sys.mode = .shadow then
      ({ s with chd := { s.chd with handover := some h, echoed := true } }).chdSend
        { type := 0x0B, epoch := 0, words := [h % 2 ^ 32, h / 2 ^ 32] }
    else s
  | .active => if s.chd.handover = some h then { s with chd := { s.chd with echoed := true } } else s
  | _ => s

def execSwitchMsg (t : Nat) (hdr : ChdHdr) (instant : Nat) (s : State) : Host.Outcome State Fault Refusal :=
  s.liveAt t (fun s => s.onChd hdr false (fun s =>
    match hdr.link with
    | .chord _ => (s.meetEpoch hdr.link hdr.epoch (s.chd.role == .standby)).switchMsg instant
    | _ => s))

/-- H at the old Active: it mutes and follows, as a SYNCED Standby unless the images differ, and its command completes. -/
def State.handOver (s : State) (h : Nat) : State :=
  let s1 := s.enterWith .shadow 4 (fun s =>
    let t : State := { s with chd := { s.chd with
      synced := !s.chd.imageMis, handover := none, echoed := false, handedOver := some h, syncSeqs := [] } }
    (t.setVal Reg.CHD_EPOCH ((s.epoch + 1) % 2 ^ 32)).setRole .standby)
  let s2 := (s1.bump Reg.CHD_SWITCHOVERS).releaseHeld
  match s.chd.switchTag with
  | some (code, tag) =>
    ({ s2 with chd := { s2.chd with switchTag := none } }).complete code tag .ok [h % 2 ^ 32, h / 2 ^ 32]
  | none => s2

/-- H at the new Active: it drives under EPOCH + 1, and still follows the old Active's digests for instants before H. -/
def State.takeOver (s : State) (h : Nat) : State :=
  let s0 : State := { s with sys := { s.sys with holdoverFrom := s.serveMode } }
  let s1 := s0.enterWith s.takeoverMode 4 (fun s =>
    let t : State := { s with chd := { s.chd with
      handover := none, echoed := false, handedOver := if s.chd.synced then some h else none, synced := false, syncSeqs := []
      validAt := s.ns } }
    (t.setVal Reg.CHD_EPOCH ((s.epoch + 1) % 2 ^ 32)).setRole .active)
  s1.bump Reg.CHD_SWITCHOVERS

/-- HANDOVER_INSTANT (R366). A switchover that the Standby has not echoed by H is abandoned. -/
def State.atHandover (s : State) : State :=
  match s.chd.handover with
  | none => s
  | some h =>
    if s.ns < h then s
    else
      match s.chd.role with
      | .active => if s.chd.echoed then s.handOver h else s.abandonSwitch .absent
      | .standby => if s.sys.mode = .shadow then s.takeOver h else s.abandonSwitch .absent
      | _ => s.abandonSwitch .absent

def execHandoverInstant (t : Nat) (s : State) : Host.Outcome State Fault Refusal := s.liveAt t State.atHandover

/-! ### Views (Table 17-10) -/

/-- CHD.STAT. -/
def State.chdStat (s : State) : Nat :=
  let c := s.chd
  c.role.code + bit c.synced 3 + bit (s.heardLately c.partner) 4 + bit (s.heardLately c.ref) 5 + bit c.fenced 6 + bit s.redun 7 +
    c.lanes % 4 * 2 ^ 8 + bit c.handover.isSome 10 + c.version % 16 * 2 ^ 12

/-- Microseconds since a peer was heard, saturating in 16 bits. -/
def State.heardAge (s : State) (p : Peer) : Nat :=
  match p.heard with
  | some x => min ((s.ns - x) / 1000) 0xFFFF
  | none => 0xFFFF

/-- CHD.REFSTAT. -/
def State.refstat (s : State) : Nat :=
  match s.chd.actPort with
  | none => bit s.chd.noPromo 19
  | some act =>
    let a := s.peer (.unit act)
    let b := s.peer (.unit (1 - act))
    a.unitId % 256 + b.unitId % 256 * 2 ^ 8 + bit (s.heardLately a) 16 + bit (s.heardLately b) 17 + bit b.synced 18 + bit s.chd.noPromo 19

/-- CHD.PEERINFO. -/
def State.peerinfo (s : State) : Nat :=
  let p := s.chd.partner
  p.unitId % 256 + p.mode % 16 * 2 ^ 8 + bit p.home 12

end Sys2Proof.Machine
end

