-- ==== Sys2Proof/Machine/Transfer.lean ====
section
/-!
DEFINITION. What the Standby follows: digests and mirrors, policy-state deltas, the state transfer (R137, R358-R363).
-/
namespace Sys2Proof.Machine

/-- A message between the units of a pair: taken, its epoch met, then handled. -/
def State.onPartner (s : State) (h : ChdHdr) (active : Bool) (f : State → State) : State :=
  s.onChd h false (fun s =>
    match h.link with
    | .chord _ => if s.chd.partner.paired then f (s.meetEpoch h.link h.epoch active) else s
    | _ => s)

/-! ### Digests and mirrors (R358-R360) -/

/-- The snapshot of a class with a SEQ, while it is held. -/
def State.snapOf (s : State) (n seq : Nat) : Option Snapshot := (s.sc n).snaps.find? (·.seq == seq)

/-- Whether a digest can still govern a release here. -/
def State.wantsDigest (s : State) (d : DigestBody) (prov : Bool) : Bool :=
  let follower : Bool := match s.chd.role with
    | .standby => s.sys.mode == .shadow && (s.chd.synced || s.chd.syncSeqs.any (fun q => q.1 == d.sc && seqFrom d.seq q.2.1))
    | .active => s.chd.handedOver.isSome
    | _ => false
  let open_ : Bool := match s.snapOf d.sc d.seq with
    | some x => x.finalAt.isNone && (!prov || x.prov.isNone)
    | none => match (s.sc d.sc).snaps.getLast? with
      | some y => seqFrom d.seq y.seq
      | none => true
  follower && d.sc < 8 && open_

/-- MISSREQ for the members of an open snapshot that a digest names and this unit cannot match. -/
def State.askMissing (s : State) (d : DigestBody) (prov : Bool) : State :=
  match s.digestOf? d.sc d.seq prov, s.snapOf d.sc d.seq with
  | some w, some x =>
    let ms := unmatched x d
    if ms.isEmpty then s
    else
      let ds := s.chd.digests.map (fun y => if y = w then { w with asked := ms, askedAt := s.ns } else y)
      (({ s with chd := { s.chd with digests := ds } }).bumpBy Reg.CHD_MISSREQS ms.length).chdSend
        { type := 5, epoch := 0, words := [d.sc, d.seq] ++ ms }
  | _, _ => s

/-- A digest held, followed if it can be, and what it lacks asked for. -/
def State.takeDigest (s : State) (d : DigestBody) (prov : Bool) : State :=
  if !s.wantsDigest d prov then s
  else
    let w : DigestWait := { body := d, prov := prov, askedAt := s.ns }
    let s1 : State := (s.dropDigest d.sc d.seq prov)
    let s2 : State := { s1 with chd := { s1.chd with digests := s1.chd.digests ++ [w] } }
    s2.followDigests.askMissing d prov

/-- DIGEST (R359, R362). -/
def execDigest (t : Nat) (hdr : ChdHdr) (body : DigestBody) (s : State) : Host.Outcome State Fault Refusal :=
  s.liveAt t (fun s => s.onPartner hdr true (fun s => s.takeDigest body false))

/-- PROVDIG (R137), in protocol version 2 only. -/
def execProvdig (t : Nat) (hdr : ChdHdr) (body : DigestBody) (s : State) : Host.Outcome State Fault Refusal :=
  s.liveAt t (fun s => s.onPartner hdr true (fun s => if s.chd.version = 2 then s.takeDigest body true else s))

/-- The slot of a member of a snapshot that this unit holds still, or that a run works on. -/
def State.slotFor (s : State) (n seq i : Nat) : Option (Nat × Slot) :=
  let x : Option Snapshot := match s.snapOf n seq with
    | some x => some x
    | none => (s.det.runs.find? (fun (r : DetRun) => r.sc == n && r.snap.seq == seq)).map (·.snap)
  match x with
  | some x => match x.members[i]? with
    | some v => x.slots.find? (·.1 == v)
    | none => none
  | none => none

/-- MISSREQ: each slot that is held goes out as a MIRROR (R360). -/
def State.mirrorOut (s : State) (n seq : Nat) (ms : List Nat) : State :=
  ms.foldl (fun s i => match s.slotFor n seq i with
    | some p => (s.bump Reg.CHD_MIRRORED).chdSend { type := 6, epoch := 0, words := [n, seq, i], body := p.2.bytes p.1 }
    | none => s) s

def execMissreq (t : Nat) (hdr : ChdHdr) (sc seq : Nat) (members : List Nat) (s : State) :
    Host.Outcome State Fault Refusal :=
  s.liveAt t (fun s => s.onPartner hdr false (fun s =>
    if s.chd.role = .active || s.chd.role = .standby then s.mirrorOut sc seq members else s))

/-- The slot that 384 bytes spell (Table 05-1). -/
def slotOfBytes (b : List Byte) : Slot :=
  let w := fun i => leAt b (16 + 4 * i) 4
  let f := fun (i : Nat) => bitAt (w 0) i == 1
  { mtime := leAt b 0 8
    rxtime := leAt b 8 8
    rxfrac := bitsOf (w 0) 8 4
    late := f 1
    invalid := f 2
    test := f 3
    quest := f 4
    unsync := f 5
    cfgchg := f 6
    ecc := f 7
    tq := bitsOf (w 0) 12 4
    ptq := bitsOf (w 0) 16 3
    auth := f 19
    port := bitsOf (w 0) 20 3
    stat := bitsOf (w 1) 0 16
    smpcnt := bitsOf (w 1) 16 16
    desc := bitsOf (w 3) 16 13
    freq := w 4
    dfreq := w 5
    dig := (List.range (min (w 3 % 8) 4)).map (fun i => leAt b (40 + 2 * i) 2)
    analogs := (List.range (min (bitsOf (w 2) 26 5) 16)).map (fun i => leAt b (48 + 4 * i) 4)
    phasors := (List.range (min (bitsOf (w 2) 20 6) 32)).map (fun i => (leAt b (112 + 8 * i) 4, leAt b (116 + 8 * i) 4)) }

/-- A mirrored slot takes the member's place in the open snapshot, and what it allows is released. -/
def State.mirrorIn (s : State) (n seq i : Nat) (b : List Byte) : State :=
  match s.snapOf n seq with
  | none => s
  | some x => match x.members[i]? with
    | none => s
    | some v =>
      if x.finalAt.isSome || b.length ≠ 384 then s
      else (s.putSnap n { x with slots := x.slots.filter (·.1 != v) ++ [(v, slotOfBytes b)] }).followDigests

/-- MIRROR (R359). -/
def execMirror (t : Nat) (hdr : ChdHdr) (sc seq member : Nat) (slot : List Byte) (s : State) :
    Host.Outcome State Fault Refusal :=
  s.liveAt t (fun s => s.onPartner hdr true (fun s => s.mirrorIn sc seq member slot))

/-- MIRWAIT_EXPIRY (R360): released without what is missing; SYNC is lost. -/
def State.mirwait (s : State) (n seq : Nat) : State :=
  let waited := fun (w : DigestWait) => w.askedAt + s.val Reg.CHD_MIRWAIT % 8192 * 1000 ≤ s.ns
  match (s.sc n).head with
  | none => s
  | some x =>
    if x.seq ≠ seq then s
    else
      match s.digestOf? n seq false, s.digestOf? n seq true with
      | some w, _ =>
        if waited w && !(unmatched x w.body).isEmpty then ((s.followFinal n x true []).raise E.CHD 10).loseSync else s
      | none, some w =>
        if waited w && !(unmatched x w.body).isEmpty then ((s.followProv n x true).raise E.CHD 10).loseSync else s
      | none, none => s

def execMirwaitExpiry (t sc seq : Nat) (s : State) : Host.Outcome State Fault Refusal :=
  s.liveAt t (fun s => s.mirwait sc seq)

/-! ### Deltas (R361, Table 17-6) -/

/-- Little-endian words of bytes. -/
def wordsOf : Nat → List Byte → List Nat
  | 0, _ => []
  | n + 1, b => if b.isEmpty then [] else leNat (b.take 4) :: wordsOf n (b.drop 4)

/-- A registry change of the Active, without a command of this unit's own. -/
def State.mirrorSources (s : State) (add : Bool) (w : List Nat) (count : Nat) : State :=
  if add then (addBody w count s).1
  else
    let s1 := (removeBody 0 w count s).1
    ({ s1 with ing := { s1.ing with removals := s.ing.removals } }).setFld Reg.ING_STAT F.ING_STAT_BUSY
      (if s.ing.removals.isEmpty then 0 else 1)

/-- The member set of a class changes at a SEQ: open snapshots from that SEQ on take it at once, else it is staged. -/
def State.mirrorMembers (s : State) (n seq : Nat) : State :=
  let ms := s.membersOf n
  let c := s.sc n
  if c.snaps.any (fun x => seqFrom x.seq seq) then
    s.setSc n { c with
      prevMembers := some ms
      snaps := c.snaps.map (fun x => if seqFrom x.seq seq && x.finalAt.isNone then { x with members := ms, counted := s.countedOf ms } else x) }
  else { s with chd := { s.chd with staged := s.chd.staged ++ [.members n seq] } }

/-- An alarm channel given LATCHED and ACKED as the Active's acknowledgement left them. -/
def State.mirrorAck (s : State) (k : Nat) (latched acked : Bool) : State :=
  let ch := s.chan k
  (s.setChan k { ch with latched := latched, acked := acked }).evalChan k []

/-- A delta applied at the Standby. -/
def State.applyDelta (s : State) (b : DeltaBody) : State :=
  match b with
  | .bank false w => s.detWrite w
  | .bank true w => s.modWrite w
  | .swap cs => if s.lat.swapPend then s else s.swapBegin cs
  | .snapReg a v => s.setVal a v
  | .weight v w anchor => s.setStream v { s.stream v with weight := w, anchor := anchor }
  | .level n l di ds dp => (s.setPstate n l di ds dp).setSc n { s.sc n with relaxFrom := s.ns }
  | .baseline _ es => es.foldl (fun s e => s.setBaseline e.1 (e.2.1, e.2.2)) s
  | .almReg a v _ => (s.setVal a v).almAll
  | .almAck cs _ => ((cs.foldl (fun s c => s.mirrorAck c.1 c.2.1 c.2.2) s).updPins).publish
  | .publish gs an =>
    (gs.foldl (fun s g => (s.setVal (Reg.ALM_GPjST g.1) g.2.1).setVal (Reg.ALM_GPjSQ g.1) g.2.2) s).setVal Reg.ALM_ANSEQ an
  | .sources add e n => s.mirrorSources add (wordsOf 8 e) n
  | .members n q => s.mirrorMembers n q
  | .topoBatch ops =>
    ({ s with topo := { s.topo with batch := some { tag := none, ops := topoOps ops (ops.length / 32) } } }).setFld
      Reg.TOPO_STAT F.TOPO_STAT_EDITBUSY 1
  | .topoCommit t => { s with chd := { s.chd with staged := s.chd.staged ++ [.topoCommit t] } }
  | .edges t l => { s with chd := { s.chd with staged := s.chd.staged ++ [.edges t l] } }
  | .facetCounts tref cs =>
    let p : PassCounts :=
      { tref := tref, facets := cs.map (fun c => { fid := c.1, ntrip := c.2.1, nfresh := c.2.2.1, naged := c.2.2.2 }) }
    { s with det := { s.det with passes := (p :: s.det.passes).take 4 } }

/-- DELTA (R361). -/
def execDelta (t : Nat) (hdr : ChdHdr) (deltaSeq : Nat) (body : DeltaBody) (s : State) : Host.Outcome State Fault Refusal :=
  s.liveAt t (fun s => s.onPartner hdr true (fun s =>
    if s.chd.role = .standby then
      let s1 := s.applyDelta body
      ({ s1 with chd := { s1.chd with deltaSeq := deltaSeq % 2 ^ 32 } }).bump Reg.CHD_DELTAS
    else s))

/-! ### State transfer (R363) -/

/-- The eight words of a registry entry (Table 03-8), VALID set. -/
def RegEntry.words8 (e : RegEntry) : List Nat :=
  let a := beBytes 16 e.addr
  [e.vid % 2 ^ 20 + e.sc % 8 * 2 ^ 20 + e.fmt % 8 * 2 ^ 23 + bit e.authReq 26 + bit e.addrChk 27 + bit e.paused 28 + 2 ^ 31,
    e.keySlot % 256 + e.keySlot2 % 256 * 2 ^ 8 + bit e.k2Valid 16 + e.svidLen % 256 * 2 ^ 24, e.srcId,
    e.udpPort % 65536 + e.desc % 2 ^ 13 * 2 ^ 16] ++ (List.range 4).map (fun i => leAt a (4 * i) 4)

/-- Registers of the policy state. -/
def policyRegs : List Nat :=
  [Reg.SNAP_PHOLD, Reg.SNAP_PRBLEAK, Reg.SNAP_PRELAX, Reg.ALM_ANSEQ, Reg.TOPO_GEN, Reg.TOPO_GENTICK, Reg.TOPO_NCOMP, Reg.TOPO_ECOUNT] ++
    ((List.range 8).map (fun n => [Reg.SNAP_SCnPCFG n, Reg.SNAP_SCnPMIN n, Reg.SNAP_SCnPCOV n, Reg.ALM_GPjST n, Reg.ALM_GPjSQ n])).flatten ++
    ((List.range 64).map (fun k => [Reg.ALM_ALCkCFG k, Reg.ALM_ALCkSRC k, Reg.ALM_ALCkDIN k])).flatten

/-- What a bank holds. -/
def Bank.items (b : Bank) (modal : Bool) (i : Nat) : List StateItem :=
  b.params.map (fun p => .bank modal i (.param p.1 p.2.toNat)) ++
    b.entries.map (fun p => .bank modal i (.entry (p.1 / 2 ^ 20) (p.1 % 2 ^ 20) p.2))

def State.tableItems (s : State) : List StateItem :=
  s.streamEntries.map (fun e => .entry e.words8) ++
  s.ing.telem.filterMap (fun p => p.2.map (fun e => .entry e.words8)) ++
  s.facets.map (fun f => .memory (s.facBase + f * 16) (s.devBytes (s.facBase + f * 16) 16)) ++
  s.edgeList.map (fun e => .memory (s.edgeBase + e * 16) (s.devBytes (s.edgeBase + e * 16) 16)) ++
  s.rowsListed.map (fun v => .memory (rowAddr v) (s.devBytes (rowAddr v) 8)) ++
  s.topo.hulls.map (fun p => .hull p.1 p.2.valid p.2.f60 p.2.nfac) ++
  s.topo.gens.map (fun g => .generation g.gen g.tick (g.facets.filterMap (fun p => p.2.map (fun x => (p.1, x.1, x.2.1, x.2.2)))))

def State.detItems (s : State) : List StateItem :=
  [.activeBank s.lat.abank] ++ s.det.bankA.items false 0 ++ s.det.bankB.items false 1 ++ s.modal.bankA.items true 0 ++
  s.modal.bankB.items true 1 ++
  (s.det.deltas.map (fun p => p.2.map (fun d => StateItem.deltas p.1 d.seq d.ds))).flatten ++
  s.det.steps.filterMap (fun p => p.2.map (fun x => .step p.1 x.seq (x.us.map (fun u => (u.vid, u.angle, u.freq, u.mag))))) ++
  s.det.seps.filterMap (fun p => p.2.map (fun x => .sep p.1 x.1 x.2)) ++
  s.det.subjects.map (fun p => .subject p.1 p.2.active [p.2.sc, p.2.alc, p.2.ev, p.2.quiet, p.2.nodata]) ++
  s.det.passes.map (fun x => .pass x.tref (x.facets.map (fun f => (f.fid, f.ntrip, f.nfresh, f.naged)))) ++
  s.det.vrecs.map (fun p => .verdicts p.1 p.2)

def State.modalItems (s : State) : List StateItem :=
  s.modal.base.map (fun p => .baseline p.1 p.2.1 p.2.2) ++
  s.modal.tracks.filterMap (fun p => p.2.map (fun x =>
    .track p.1 [x.freq, x.damp, x.amp, x.top, x.miss, x.age] (x.hist.map (fun h => (h.freq, h.damp))))) ++
  s.modal.alarms.map (fun p => .modAlarm p.1 p.2.active [p.2.sc, p.2.alc, p.2.hit, p.2.quiet, p.2.nodata]) ++
  s.modal.chans.map (fun p => .modChannel p.1 (p.2.samples.map (fun x => (x.idx, x.x, x.a))) (p.2.envs.map (fun x => (x.k, x.e)))) ++
  s.modal.lastInst.filterMap (fun p => p.2.map (fun x => .modClass p.1 x)) ++
  s.modal.grown.map (fun p => .modGrown p.1)

def State.policyItems (s : State) : List StateItem :=
  policyRegs.map (fun a => .reg a (s.val a)) ++
  (List.range 8).map (fun n => .level n (s.plevel n) (s.debt n 0) (s.debt n 1) (s.debt n 2) (s.sc n).relaxFrom) ++
  s.snap.streams.map (fun p => .member p.1 p.2.weight p.2.anchor p.2.missing p.2.absent) ++
  s.alm.chans.map (fun p => .alarm p.1 p.2.latched p.2.acked p.2.kept p.2.lastHend) ++
  (s.alm.chans.map (fun p => p.2.subs.map (fun c => StateItem.contribution p.1 c.kind c.subject c.sc c.seq c.prov c.since))).flatten ++
  [.settings s.ldg.settings]

/-- Items in messages of 256. -/
def State.sendParts (s : State) (part : Nat) : Nat → List StateItem → State
  | 0, _ => s
  | f + 1, l =>
    if l.isEmpty then s
    else (s.chdSend { type := 9, epoch := 0, words := [part], items := l.take 256 }).sendParts (part + 1) f (l.drop 256)

/-- SYNCREQ at the Active: STATE, then SYNCDONE with the first SEQ of each class that a DIGEST will name. -/
def State.transferOut (s : State) : State :=
  let l := s.tableItems ++ s.detItems ++ s.modalItems ++ s.policyItems
  let s1 := s.sendParts 0 (l.length / 256 + 1) l
  (s1.chdSend { type := 0x0A, epoch := 0, words := (List.range 8).map s1.nextSeq }).bump Reg.CHD_RESYNCS

/-- SYNCREQ (R363). -/
def execSyncreq (t : Nat) (hdr : ChdHdr) (s : State) : Host.Outcome State Fault Refusal :=
  s.liveAt t (fun s => s.onPartner hdr false (fun s => if s.chd.role = .active then s.transferOut else s))

/-- What the first part of a transfer replaces is cleared. -/
def State.transferClear (s : State) : State :=
  let z := fun (a n : Nat) (s : State) => s.putDev a (List.replicate n 0)
  let s1 := s.facets.foldl (fun t f => z (s.facBase + f * 16) 16 t) s
  let s2 := s.edgeList.foldl (fun t e => z (s.edgeBase + e * 16) 16 t) s1
  { s2 with
    ing := { s2.ing with streams := [], telem := [] }
    topo := { s2.topo with hulls := [], gens := [], batch := none, work := none, edges := [] }
    det := { s2.det with bankA := {}, bankB := {}, deltas := [], steps := [], seps := [], subjects := [], passes := [], vrecs := [] }
    modal := { s2.modal with bankA := {}, bankB := {}, base := [], tracks := [], alarms := [], chans := [], lastInst := [], grown := [] }
    alm := { s2.alm with chans := [] }
    chd := { s2.chd with staged := [] } }

/-- A registry entry of the Active's put in this unit's tables. -/
def State.putEntry (s : State) (w : List Nat) : State :=
  let e := entryOfWords w
  if e.fmt = 3 then { s with ing := { s.ing with telem := tput (fun _ => none) s.ing.telem e.vid (some e) } }
  else
    match s.freeSlot e with
    | some i =>
      let s1 : State := { s with ing := { s.ing with streams := tput (fun _ => none) s.ing.streams i (some e) } }
      if (s.descAt e.desc).isNone && e.fmt < 2 then s1.request e.stream else s1
    | none => s

/-- One item of a state transfer taken. -/
def State.takeItem (s : State) (i : StateItem) : State :=
  match i with
  | .reg a v => s.setVal a v
  | .entry w => s.putEntry w
  | .memory a b => s.putDev a b
  | .hull h valid f60 nfac => s.setHull h { s.hull h with valid := valid, f60 := f60, nfac := nfac }
  | .generation g t fs =>
    let m : FacetMap := tputAll (fun _ => none) [] (fs.map (fun f => (f.1, some (f.2.1, f.2.2.1, f.2.2.2))))
    { s with topo := { s.topo with gens := s.topo.gens ++ [{ gen := g, tick := t, facets := m }] } }
  | .member v w anchor missing absent =>
    s.setStream v { s.stream v with weight := w, anchor := anchor, missing := missing, absent := absent }
  | .alarm k latched acked kept hend =>
    s.setChan k { s.chan k with latched := latched, acked := acked, kept := kept, lastHend := hend }
  | .contribution k kind subject sc seq prov since =>
    let c : Contrib := { kind := kind, subject := subject, sc := sc, seq := seq, prov := prov, since := since, noPin := prov }
    s.setChan k { s.chan k with subs := (s.chan k).subs ++ [c] }
  | .level n l di ds dp from_ => (s.setPstate n l di ds dp).setSc n { s.sc n with relaxFrom := from_ }
  | .baseline i b n => s.setBaseline i (b, n)
  | .bank false b w =>
    if b = 0 then { s with det := { s.det with bankA := s.det.bankA.take w } } else { s with det := { s.det with bankB := s.det.bankB.take w } }
  | .bank true b w =>
    if b = 0 then { s with modal := { s.modal with bankA := s.modal.bankA.take w } }
    else { s with modal := { s.modal with bankB := s.modal.bankB.take w } }
  | .activeBank b => { s with lat := { s.lat with abank := b % 2 } }
  | .deltas n seq ds =>
    let old := tget (fun _ => []) s.det.deltas n
    { s with det := { s.det with deltas := tput (fun _ => []) s.det.deltas n (old ++ [{ seq := seq, ds := ds }]) } }
  | .step n seq us =>
    let x : StepPrev := { seq := seq, us := us.map (fun u => { vid := u.1, angle := u.2.1, freq := u.2.2.1, mag := u.2.2.2 }) }
    { s with det := { s.det with steps := tput (fun _ => none) s.det.steps n (some x) } }
  | .sep p seq v => { s with det := { s.det with seps := tput (fun _ => none) s.det.seps p (some (seq, v)) } }
  | .subject k active c =>
    let x : SubjState :=
      { active := active, sc := c.getD 0 0, alc := c.getD 1 0, ev := c.getD 2 0, quiet := c.getD 3 0, nodata := c.getD 4 0 }
    { s with det := { s.det with subjects := tput (fun _ => {}) s.det.subjects k x } }
  | .pass tref cs =>
    let p : PassCounts :=
      { tref := tref, facets := cs.map (fun c => { fid := c.1, ntrip := c.2.1, nfresh := c.2.2.1, naged := c.2.2.2 }) }
    { s with det := { s.det with passes := s.det.passes ++ [p] } }
  | .verdicts n b => { s with det := { s.det with vrecs := tput (fun _ => []) s.det.vrecs n b } }
  | .track i v hs =>
    let x : Track :=
      { freq := v.getD 0 0, damp := v.getD 1 0, amp := v.getD 2 0, top := v.getD 3 0, miss := v.getD 4 0, age := v.getD 5 0,
        hist := hs.map (fun h => { freq := h.1, damp := h.2 }) }
    { s with modal := { s.modal with tracks := tput (fun _ => none) s.modal.tracks i (some x) } }
  | .modAlarm i active c =>
    let x : ModAlarm :=
      { active := active, sc := c.getD 0 0, alc := c.getD 1 0, hit := c.getD 2 0, quiet := c.getD 3 0, nodata := c.getD 4 0 }
    { s with modal := { s.modal with alarms := tput (fun _ => {}) s.modal.alarms i x } }
  | .modChannel i xs es =>
    let x : ModChan :=
      { samples := xs.map (fun p => { idx := p.1, x := p.2.1, a := p.2.2 }), envs := es.map (fun p => { k := p.1, e := p.2 }) }
    { s with modal := { s.modal with chans := tput (fun _ => {}) s.modal.chans i x } }
  | .modClass n x => { s with modal := { s.modal with lastInst := tput (fun _ => none) s.modal.lastInst n (some x) } }
  | .modGrown i => { s with modal := { s.modal with grown := tput (fun _ => false) s.modal.grown i true } }
  | .settings b => { s with chd := { s.chd with peerSettings := b } }

/-- STATE (R363). -/
def execStatePart (t : Nat) (hdr : ChdHdr) (part : Nat) (items : List StateItem) (s : State) :
    Host.Outcome State Fault Refusal :=
  s.liveAt t (fun s => s.onPartner hdr true (fun s =>
    if s.chd.role = .standby then items.foldl State.takeItem (if part = 0 then s.transferClear else s) else s))

/-- The channels' conditions after a transfer, without records. -/
def State.almSettle (s : State) : State :=
  ((List.range 64).foldl (fun (s : State) k =>
    let ch := s.chan k
    let cs := s.published k
    let on := s.flag Reg.ALM_CTL F.ALM_CTL_EN && s.flag (Reg.ALM_ALCkCFG k) F.ALM_ALCkCFG_EN && s.condition k (cs.map (·.kind))
    let pin := on && s.condition k ((cs.filter (fun c => !c.noPin)).map (·.kind))
    let active := on || ch.latched
    s.setChan k { ch with
      active := active
      pinact := pin || ch.latched
      provonly := active && !cs.isEmpty && cs.all (·.prov)
      counted := cs.map (fun c => (c.kind, c.subject)) }) s).updPins

/-- SYNCDONE: digests are followed from the SEQs named; SYNCED comes with the first DIGEST of each class whose VHASH matches. -/
def State.syncdone (s : State) (seqs : List Nat) : State :=
  let named := ((List.range 8).filter s.scEn).map (fun n => (n, seqs.getD n 0, false))
  let s1 := (({ s with chd := { s.chd with hadTransfer := true } }).almSettle).bump Reg.CHD_RESYNCS
  if s1.chd.imageMis then s1
  else if named.isEmpty then ({ s1 with chd := { s1.chd with synced := true, syncSeqs := [] } }).event 0x1B1 0
  else { s1 with chd := { s1.chd with syncSeqs := named } }

def execSyncdone (t : Nat) (hdr : ChdHdr) (seqs : List Nat) (s : State) : Host.Outcome State Fault Refusal :=
  s.liveAt t (fun s => s.onPartner hdr true (fun s => if s.chd.role = .standby && s.sys.mode = .shadow then s.syncdone seqs else s))

end Sys2Proof.Machine
end

