-- ==== Sys2Proof/Machine/Views.lean ====
section
/-!
DEFINITION. What a register reads as (R5-R7): status registers computed from what the blocks hold, words latched per requester, and
the reads that act: clears, removals, claims, latches.
-/
namespace Sys2Proof.Machine

/-- Index of a register of an array: addresses `a` from `base` in steps of `stride`. -/
def ixOf (a base stride : Nat) : Nat := (a - base) / stride

/-! ### Status registers that no other file computes -/

/-- SYS.MODE (Table 21-7). -/
def State.modeView (s : State) : Nat :=
  s.sys.mode.code + s.sys.prev.code * 16 +
    (match s.sys.trans with
      | some m => 2 ^ 8 + m.code * 2 ^ 12
      | none => 0)

/-- SYS.AONPEND. -/
def State.aonpendView (s : State) : Nat :=
  let on := fun (r : AonReg) => s.sys.aonPend.any (fun p => p.1 == r)
  bit (on .pwrreq) 0 + bit (on .aonalmLo || on .aonalmHi) 1 + bit (on .wdog) 2

/-- EVC.STAT: targets with pending records. -/
def State.evcStat (s : State) : Nat := ((List.range 24).map (fun n => bit (!(s.target n).pend.isEmpty) n)).sum

/-- EVC.TGTnSTACK. -/
def State.stackView (s : State) (n : Nat) : Nat :=
  let t := s.target n
  t.stack.length % 32 + ((t.stack.head?.map (·.2)).getD 0) % 32 * 2 ^ 8 + bit t.frozen 16

/-- TSK.STAT: tasks READY and tasks DELAYED. -/
def State.tskStat (s : State) : Nat := s.readyOrder.length % 2 ^ 13 + s.tsk.delays.length % 2 ^ 13 * 2 ^ 16

/-- TSK.RUNk. -/
def State.runView (s : State) (k : Nat) : Nat :=
  match tget (fun _ => none) s.tsk.runs k with
  | some n => n % 4096 + 2 ^ 31
  | none => 0

/-- LDG.STAT (Table 18-8). Pages commit to the fallback ring whenever they do not go to a cartridge (R389). -/
def State.ldgStat (s : State) : Nat :=
  s.ldg.cstate.code + bit (s.sys.blocksUp && !s.ldg.toCart) 3 + bit s.ldg.copy.isSome 4 + bit s.ldg.worn 5 + bit s.ldg.present 6

/-- LDG.WEAR: wear in 0.01 %, saturating. -/
def State.wearView (s : State) : Nat := min (s.ldg.wear * 10000 / 240000) 10000

/-- UPD.STAT (Table 20-10). -/
def State.updStat (s : State) : Nat :=
  let u := s.upd
  u.ustate.code + bit u.trialEnd.isSome 3 + bit u.selfok 4 + bit u.fallback 5 + bit u.ctl.bankB 6 + bit u.head 7 +
    u.upver % 16 * 2 ^ 8 + u.dnver % 16 * 2 ^ 12 + u.pos % 64 * 2 ^ 16

/-- UPD.TRIALREM: seconds left, a second begun counting whole. -/
def State.trialRem (s : State) : Nat :=
  match s.upd.trialEnd with
  | some e => (e - s.ns + 999999999) / 1000000000 % 2 ^ 17
  | none => 0

/-- Commands in progress as HIF.STAT shows them: those not yet completed, and completions not yet written. -/
def State.busyCmds (s : State) : Nat := s.hif.inProg.length + s.hif.cpls.length

/-- Slots of the completion ring. -/
def State.cplSlots (s : State) : Nat := 2 ^ s.fld Reg.HIF_CPLSIZE ⟨0, 4⟩

/-- Whether the completion ring has no free slot: one more completion would meet CPLTAIL (R445). -/
def State.cplFull (s : State) : Bool :=
  (s.val Reg.HIF_CPLHEAD + 1) % s.cplSlots == s.val Reg.HIF_CPLTAIL % s.cplSlots

/-- HIF.STAT (Table 22-9). -/
def State.hifStat (s : State) : Nat :=
  bit s.hif.linkUp 0 + bit s.sys.blocksUp 1 + bit (!s.hif.cpls.isEmpty && s.cplFull) 2 + min s.busyCmds 32 * 2 ^ 8 +
    (if s.hif.linkUp then s.hif.rate % 8 * 2 ^ 16 + s.hif.lanes % 8 * 2 ^ 20 else 0)

/-- The MSI-X table and the pending-bit array (R442): a vector's mask bit is 1 after reset. -/
def msixDefault (i : Nat) : Nat := if i % 4 = 3 then 1 else 0

def State.msixView (s : State) (a : Nat) : Nat :=
  if a < 0x11410200 then tget msixDefault s.hif.msixTable (ixOf a 0x11410000 4)
  else if a = 0x11411000 then s.hif.msixPend % 2 ^ 32
  else 0

/-! ### Views by block -/

def State.viewSys (s : State) (a : Nat) : Nat :=
  if a = Reg.SYS_MODE then s.modeView
  else if a = Reg.SYS_AONPEND then s.aonpendView
  else if a = Reg.SYS_AONCNTLO then s.sys.aonCnt % 2 ^ 32
  else if a = Reg.SYS_AONCNTHI then s.sys.aonCnt / 2 ^ 32 % 65536
  else s.val a

/-- The words of the instant that a requester has latched (R80), and the oldest TDC stamp (R104). -/
def State.viewTb (s : State) (req : Requester) (a : Nat) : Nat :=
  let (sec, sub, hi) := tget (fun _ => (0, 0, 0)) s.tb.latches (latchKey req)
  if a = Reg.TB_NOWSLO then sec % 2 ^ 32
  else if a = Reg.TB_NOWSHI then sec / 2 ^ 32 % 65536
  else if a = Reg.TB_NOWSUB then sub
  else if a = Reg.TB_NOW64HI then hi
  else if Reg.TB_TDCkLO 0 ≤ a && (a - Reg.TB_TDCkLO 0) % 16 = 0 then tdcLo (s.tdc (ixOf a (Reg.TB_TDCkLO 0) 16)).fifo
  else s.val a

/-- Offsets in a port's window of PnTXTSLO and PnTXTSHI. -/
def State.viewEth (s : State) (a : Nat) : Nat :=
  if a % 0x1000 = Reg.ETH_PnTXTSLO 0 % 0x1000 then stampLo (s.port (a % 0x100000 / 0x1000)).stamps else s.val a

def State.viewIng (s : State) (a : Nat) : Nat :=
  if a = Reg.ING_REGCNT then s.regcnt else if a = Reg.ING_DSTAT then s.dstat else s.val a

def State.viewSnap (s : State) (req : Requester) (a : Nat) : Nat :=
  if a = Reg.SNAP_STAT then s.snapStat
  else if a = Reg.SNAP_SPILLUSE then s.spillUse % 2 ^ 23
  else if a = Reg.SNAP_LQVAL then s.lqval
  else if a = Reg.SNAP_LQWT then s.lqwt
  else if a = Reg.SNAP_PWVAL then s.pwval
  else if 0x10400100 ≤ a && a < 0x10400300 && a % 0x40 = Reg.SNAP_SCnMEMB 0 % 0x40 then s.memb (ixOf a 0x10400100 0x40)
  else if 0x10400800 ≤ a && a < 0x10400900 then
    (tget (fun _ => padTo 8 []) s.snap.latches (latchKey req * 8 + ixOf a (Reg.SNAP_LASTn 0) 0x20)).getD (a % 0x20 / 4) 0
  else s.val a

def State.viewTopo (s : State) (a : Nat) : Nat :=
  if a = Reg.TOPO_CVAL then s.cval else if a = Reg.TOPO_CSIZE then s.csize else s.val a

/-- Parameter registers show the active bank (R183, R205). -/
def State.viewDet (s : State) (a : Nat) : Nat :=
  if 0x10600040 ≤ a && a < 0x10600060 then (s.detBank s.lat.abank).param a
  else if a = Reg.DET_STAT then s.lat.abank % 2 + bit (s.flag Reg.DET_STAT F.DET_STAT_TBUSY) 1 + s.kver * 2 ^ 16
  else s.val a

def State.viewModal (s : State) (a : Nat) : Nat :=
  if 0x10700040 ≤ a && a < 0x10700058 then (s.modBank s.lat.abank).param a
  else if a = Reg.MODAL_STAT then s.modStat
  else s.val a

def State.viewAlm (s : State) (a : Nat) : Nat :=
  if a = Reg.ALM_STAT then s.almStat
  else if a = Reg.ALM_ACTLO then s.actMask % 2 ^ 32
  else if a = Reg.ALM_ACTHI then s.actMask / 2 ^ 32
  else if a = Reg.ALM_PINACTLO then s.pinactMask % 2 ^ 32
  else if a = Reg.ALM_PINACTHI then s.pinactMask / 2 ^ 32
  else if a = Reg.ALM_OUTSTAT then s.outstat
  else if a = Reg.ALM_DINSTAT then s.alm.din % 65536
  else if Reg.ALM_ALCkSTAT 0 ≤ a && a ≤ Reg.ALM_ALCkSTAT 63 && a % 16 = 12 then s.alcStat (ixOf a (Reg.ALM_ALCkSTAT 0) 16)
  else s.val a

def State.viewAfe (s : State) (req : Requester) (a : Nat) : Nat :=
  if a = Reg.AFE_STAT then s.afeStat
  else if a = Reg.AFE_MCHSTAT then s.mchstat
  else if a = Reg.AFE_AUXTSLO then s.auxLatch req / 128 % 2 ^ 32
  else if a = Reg.AFE_AUXTSHI then s.auxLatch req / 128 / 2 ^ 32 % 2 ^ 32
  else if a = Reg.AFE_AUXTSFR then s.auxLatch req % 128
  else s.val a

def State.viewFlt (s : State) (a : Nat) : Nat :=
  let c := ixOf a 0x10A00100 0x40
  if a = Reg.FLT_STAT then s.fltStat
  else if 0x10A00100 ≤ a && a < 0x10A00300 && a % 0x40 = Reg.FLT_CHcLAT 0 % 0x40 then s.chLat c % 2 ^ 24
  else if 0x10A00100 ≤ a && a < 0x10A00300 && a % 0x40 = Reg.FLT_CHcFLAGS 0 % 0x40 then s.fltFlags c
  else s.val a

/-- Accumulators, ESTLOST and the cycle number read as latched (R272). -/
def State.viewMtr (s : State) (req : Requester) (a : Nat) : Nat :=
  let n := ixOf a 0x10B00200 0x20
  if a = Reg.MTR_STAT then s.mtrStat
  else if a = Reg.MTR_CYCHI then s.mtrLatch req 0 / 2 ^ 32
  else if a = Reg.MTR_ESTLOSTLO then s.mtrLatch req 1 % 2 ^ 32
  else if a = Reg.MTR_ESTLOSTHI then s.mtrLatch req 1 / 2 ^ 32 % 2 ^ 32
  else if 0x10B00200 ≤ a && a < 0x10B00280 && a % 0x20 = Reg.MTR_PLSnRES 0 % 0x20 then s.pulseRes n % 2 ^ 32
  else if 0x10B00200 ≤ a && a < 0x10B00280 && a % 0x20 = Reg.MTR_PLSnBACKLOG 0 % 0x20 then min (s.pulse n).backlog 65535
  else if 0x10B00400 ≤ a && a < 0x10B00500 && a % 0x40 < 0x30 then
    let acc := s.mtrLatch req (2 + (8 * ixOf a 0x10B00400 0x40 + 2 * (a % 0x40 / 0x10) + a % 0x10 / 8))
    if a % 8 = 0 then acc % 2 ^ 32 else acc / 2 ^ 32 % 2 ^ 32
  else s.val a

def State.viewCap (s : State) (a : Nat) : Nat :=
  let b := ixOf a 0x10C00100 0x40
  if a = Reg.CAP_STAT then s.capStat
  else if 0x10C00100 ≤ a && a < 0x10C00500 then
    if a % 0x40 = Reg.CAP_BnSTAT 0 % 0x40 then s.capBufStat b
    else if a % 0x40 = Reg.CAP_BnFILL 0 % 0x40 then (if (s.buf b).state = .idle then 0 else s.capFill b)
    else if a % 0x40 = Reg.CAP_BnRECLEN 0 % 0x40 then
      (if (s.buf b).state = .stopped || (s.buf b).state = .archiving then s.capRecLen b % 2 ^ 32 else 0)
    else s.val a
  else s.val a

def State.viewLat (s : State) (a : Nat) : Nat :=
  if a = Reg.LAT_STAT then s.latStat
  else if a = Reg.LAT_QSTAT then s.qstat
  else if a = Reg.LAT_TINFO then s.tinfo
  else if a = Reg.LAT_TSTAT then s.tstat
  else if a = Reg.LAT_SWAPDONE then s.lat.swapDone % 256
  else s.val a

def State.viewEvc (s : State) (a : Nat) : Nat :=
  if a = Reg.EVC_STAT then s.evcStat
  else if a = Reg.EVC_SRCCFG then s.srccfgView
  else if a = Reg.EVC_SRCLVL then bit (s.levelNow (s.val Reg.EVC_SRCSEL % 4096)) 0
  else if 0x10E01000 ≤ a && a < 0x10E01600 && a % 0x40 = Reg.EVC_TGTnSTACK 0 % 0x40 then s.stackView (ixOf a 0x10E01000 0x40)
  else s.val a

def State.viewTsk (s : State) (req : Requester) (a : Nat) : Nat :=
  let (lo, hi, arg) := tget (fun _ => (0, 0, 0)) s.tsk.nextLatch (latchKey req)
  if a = Reg.TSK_STAT then s.tskStat
  else if a = Reg.TSK_TICK then s.tsk.tick
  else if a = Reg.TSK_NEXTENTLO then lo
  else if a = Reg.TSK_NEXTENTHI then hi
  else if a = Reg.TSK_NEXTARG then arg
  else if 0x10F00054 ≤ a && a < 0x10F00064 then s.dval (ixOf a 0x10F00054 4)
  else if Reg.TSK_RUNk 0 ≤ a && a ≤ Reg.TSK_RUNk 7 then s.runView (ixOf a (Reg.TSK_RUNk 0) 4)
  else s.val a

def State.viewChd (s : State) (a : Nat) : Nat :=
  if a = Reg.CHD_STAT then s.chdStat
  else if a = Reg.CHD_DELTASEQ then s.chd.deltaSeq
  else if a = Reg.CHD_HBAGE then s.heardAge s.chd.partner + s.heardAge s.chd.ref * 2 ^ 16
  else if a = Reg.CHD_PEERINFO then s.peerinfo
  else if a = Reg.CHD_REFSTAT then s.refstat
  else s.val a

def State.viewLdg (s : State) (a : Nat) : Nat :=
  if a = Reg.LDG_STAT then s.ldgStat
  else if a = Reg.LDG_JSEQ then s.ldg.jseq
  else if a = Reg.LDG_STAGED then (s.ldg.stagedEnd - s.ldg.committed) % 2 ^ 17
  else if a = Reg.LDG_WEAR then s.wearView
  else if a = Reg.LDG_WEARGB then s.ldg.wear
  else s.val a

def State.viewKey (s : State) (a : Nat) : Nat :=
  if a = Reg.KEY_STAT then bit s.key.busy 0 + bit s.key.imgValid 1
  else if a = Reg.KEY_LASTERR then s.key.lastErr % 65536
  else if a = Reg.KEY_CNTLO then s.keyCounter % 2 ^ 32
  else if a = Reg.KEY_CNTHI then s.keyCounter / 2 ^ 32 % 2 ^ 32
  else if a = Reg.KEY_OTPLEFT then 4096 - s.burned
  else if a = Reg.KEY_SATTR then (s.slot (s.val Reg.KEY_SSEL % 256)).attr
  else s.val a

def State.viewUpd (s : State) (a : Nat) : Nat :=
  let u := s.upd
  if a = Reg.UPD_STAT then s.updStat
  else if a = Reg.UPD_LASTERR then u.lastErr % 256 + u.errBlock % 2048 * 2 ^ 16
  else if a = Reg.UPD_TRIALREM then s.trialRem
  else if a = Reg.UPD_SESSION then u.session
  else if a = Reg.UPD_NBLK then (if u.manifest.isEmpty then 0 else manNblk u.manifest % 2048)
  else if a = Reg.UPD_VERIFIED then u.verified.length % 2048
  else if a = Reg.UPD_STOREDBLK then u.stored % 2048
  else if a = Reg.UPD_SECVERMIN then s.secverMin
  else if a = Reg.UPD_BANKAID then u.ctl.upidA
  else if a = Reg.UPD_BANKBID then u.ctl.upidB
  else if a = Reg.UPD_CTLSEQ then u.ctl.seq
  else s.val a

def State.viewHif (s : State) (a : Nat) : Nat :=
  if a = Reg.HIF_STAT then s.hifStat
  else if 0x11410000 ≤ a && a < 0x11412000 then s.msixView a
  else s.val a

/-- What a word of a register window reads as, for a requester; unassigned offsets read 0 (R6). -/
def State.view (s : State) (req : Requester) (a : Nat) : Nat :=
  match a / 0x100000 with
  | 0x100 => s.viewSys a
  | 0x101 => s.viewTb req a
  | 0x102 => s.viewEth a
  | 0x103 => s.viewIng a
  | 0x104 => s.viewSnap req a
  | 0x105 => s.viewTopo a
  | 0x106 => s.viewDet a
  | 0x107 => s.viewModal a
  | 0x108 => s.viewAlm a
  | 0x109 => s.viewAfe req a
  | 0x10A => s.viewFlt a
  | 0x10B => s.viewMtr req a
  | 0x10C => s.viewCap a
  | 0x10D => s.viewLat a
  | 0x10E => s.viewEvc a
  | 0x10F => s.viewTsk req a
  | 0x110 => s.viewChd a
  | 0x111 => s.viewLdg a
  | 0x112 => s.viewKey a
  | 0x113 => s.viewUpd a
  | 0x114 => s.viewHif a
  | _ => s.val a

/-! ### Reads that act -/

/-- Whether the register at an address is cleared by a read (R7). -/
def isRc (a : Nat) : Bool :=
  match findReg a with
  | some d => d.fields.any (fun f => f.acc == .rc)
  | none => false

/-- A counter read: its value returned, and what coincided with the read kept (R7, R8). -/
def State.readRc (s : State) (a coincident : Nat) : State :=
  (s.setVal a (min coincident 0xFFFFFFFF)).answer [s.val a]

/-- A read of a word in a register window, with what the read does. -/
def State.readReg (s : State) (req : Requester) (a : Nat) : State :=
  let plain := if isRc a then s.readRc a 0 else s.answer [s.view req a]
  match a / 0x100000 with
  | 0x101 =>
    if a = Reg.TB_NOWNS then s.readNow req false
    else if a = Reg.TB_NOW64LO then s.readNow req true
    else if Reg.TB_TDCkHI 0 ≤ a && a ≤ Reg.TB_TDCkHI 7 && a % 16 = 8 then s.readTdc (ixOf a (Reg.TB_TDCkHI 0) 16)
    else plain
  | 0x102 =>
    if a % 0x1000 = Reg.ETH_PnTXTSHI 0 % 0x1000 && a < 0x10208000 then s.readTxStamp (a % 0x100000 / 0x1000) else plain
  | 0x104 =>
    if Reg.SNAP_LASTn 0 ≤ a && a ≤ Reg.SNAP_LASTn 7 && a % 0x20 = 0 then s.readLast req (ixOf a (Reg.SNAP_LASTn 0) 0x20) else plain
  | 0x109 => if a = Reg.AFE_AUXDATA then s.readAuxdata req else plain
  | 0x10A => if a = Reg.FLT_CVAL then s.readCval else plain
  | 0x10B => if a = Reg.MTR_CYCLO then s.readCyclo req else plain
  | 0x10C => if a = Reg.CAP_MVAL then s.readMval else plain
  | 0x10E =>
    if 0x10E01000 ≤ a && a < 0x10E01600 && a % 0x40 = Reg.EVC_TGTnCLAIM 0 % 0x40 then s.claimOf (ixOf a 0x10E01000 0x40) else plain
  | 0x10F => if a = Reg.TSK_NEXT then s.tskNext req else plain
  | _ => plain

end Sys2Proof.Machine
end

