-- ==== Sys2Proof/Machine/RegWrite.lean ====
section
/-!
DEFINITION. What a write of a register does, block by block: the rules that go beyond access type and range (R50, R105, R128, R145,
R166, R183, R205, R227, R244, R264, R284, R302, R322, R343, R344, R370, R391, R405, R421, R436, R451, R473), for every block but HIF.
-/
namespace Sys2Proof.Machine

/-- Whether a plain write of the value would be taken (not refused for its range). -/
def State.takesValue (s : State) (a v : Nat) : Bool :=
  match findReg a with
  | some d => d.inRange s.configure (BitVec.ofNat 32 v)
  | none => false

/-- A plain write that a rule beyond the table's ranges may refuse. -/
def State.writeIf (s : State) (e : ErrReg) (ok : Bool) (a v : Nat) : State := if ok then s.plainWrite e a v else s.cfgErr e

/-- The present moment as a stamp in 1/128 ns of TAI. -/
def State.stampNow (s : State) : Nat := s.now / 2 ^ 17

/-! ### SYS (R19, R436) -/

/-- An AON-held register: the NOC's copy changes at once, and the write is on its way (R19). -/
def State.writeAon (s : State) (r : AonReg) (a v : Nat) : State :=
  if s.takesValue a v then
    let s1 := s.plainWrite E.SYS a v
    s1.aonPut r (s1.val a)
  else s.cfgErr E.SYS

def State.writeSys (s : State) (a v : Nat) : State :=
  if a = Reg.SYS_PWRREQ then (if v % 2 = 1 then s.cfgErr E.SYS else s.writeAon .pwrreq a v)
  else if a = Reg.SYS_AONALMLO then s.writeAon .aonalmLo a v
  else if a = Reg.SYS_AONALMHI then s.writeAon .aonalmHi a v
  else if a = Reg.SYS_WDOG then s.writeAon .wdog a v
  else if a = Reg.SYS_BOOTCFG then s.writeIf E.SYS ([1, 3, 4, 5].contains (v % 16)) a v
  else if a = Reg.SYS_RSTCMD then s.writeRstcmd v
  else if a = Reg.SYS_WDKICK then { s with sys := { s.sys with wdogFrom := s.ns } }
  else if a = Reg.SYS_TRIMRELOAD then s.writeTrimreload v
  else if a = Reg.SYS_CMD then (if bitAt v 0 = 1 then s.syncAsked s.stampNow else s)
  else s.plainWrite E.SYS a v

/-! ### TB (R79-R104) -/

/-- A register of a compare channel: its period must lie in range (R97); channels 24-31 have an owner (R99). -/
def State.writeCmp (s : State) (req : Requester) (a v : Nat) : State :=
  let n := ixOf a 0x10100100 0x20
  s.cmpWrite req n (fun s =>
    if a = Reg.TB_CMPnCTL n then s.writeCmpCtl n v
    else if a = Reg.TB_CMPnTGT n then s.writeCmpTgt n v
    else if a = Reg.TB_CMPnPER n then s.writeIf E.TB (perOk (v % 2 ^ 31) && v < 2 ^ 31) a v
    else s.plainWrite E.TB a v)

def State.writeTb (s : State) (req : Requester) (a v : Nat) : State :=
  if a = Reg.TB_CTL then s.writeTbCtl v
  else if a = Reg.TB_INCRI then s.writeIncri v
  else if a = Reg.TB_STEPCMD then s.writeStepcmd v
  else if a = Reg.TB_LEAPSHI then s.writeLeapshi v
  else if a = Reg.TB_HOLDERR then s.writeHolderr v
  else if 0x10100100 ≤ a && a < 0x10100500 then s.writeCmp req a v
  else if 0x10100500 ≤ a && a < 0x10100580 && a % 16 = 4 then s.writeIf E.TB (8 ≤ v && v ≤ 2147483647) a v
  else if 0x10100600 ≤ a && a < 0x10100680 && a % 16 = 0 then s.writeIf E.TB (bitsOf v 1 2 != 0) a v
  else s.plainWrite E.TB a v

/-! ### ETH (R49, R50) -/

/-- A field out of range keeps its value, CFGERR is set and the other fields are applied (R50). -/
def State.keepWrite (s : State) (e : ErrReg) (a v : Nat) : State :=
  match findReg a with
  | none => s
  | some d =>
    let new := BitVec.ofNat 32 v
    let s1 := s.setReg a (d.mergeKeeping s.configure (s.reg a) new)
    if d.inRange s.configure new then s1 else s1.cfgErr e

def State.writeEth (s : State) (a v : Nat) : State :=
  let n := a % 0x100000 / 0x1000
  if 8 ≤ n then s
  else if a = Reg.ETH_PnCTL n then s.writePortCtl n v false
  else if a = Reg.ETH_PnPREEMPT n then s.writePreempt n v
  else s.keepWrite (E.ETH n) a v

/-! ### SNAP (R109, R128, R145) -/

/-- MATCHTOL must stay below half the period of every enabled class (R109). -/
def tolOk (tol rate : Nat) : Bool := 2 * tol * rate < 1000000000

/-- A policy register: the Active carries the change to the Standby (R361). -/
def State.writePolicy (s : State) (a v : Nat) : State :=
  let s1 := s.plainWrite E.SNAP a v
  if s.takesValue a v then s1.sendDelta (.snapReg a (s1.val a)) else s1

/-- A register of class `n`. -/
def State.writeClass (s : State) (n a v : Nat) : State :=
  if a = Reg.SNAP_SCnCFG n then
    let rate := bitsOf v 1 8
    s.writeIf E.SNAP (!s.configure || (1 ≤ rate && rate ≤ 240 && (bitAt v 0 == 0 || tolOk (s.val Reg.SNAP_MATCHTOL) rate))) a v
  else if a = Reg.SNAP_SCnWMIN n then s.writeIf E.SNAP (v % 2 ^ 21 ≤ s.val (Reg.SNAP_SCnWMAX n)) a v
  else if a = Reg.SNAP_SCnWMAX n then s.writeIf E.SNAP (s.val (Reg.SNAP_SCnWMIN n) ≤ v % 2 ^ 21) a v
  else if a = Reg.SNAP_SCnPSTATE n then s.writeLevel n v
  else if a = Reg.SNAP_SCnPCOV n || a = Reg.SNAP_SCnPMIN n || a = Reg.SNAP_SCnPCFG n then s.writePolicy a v
  else s.plainWrite E.SNAP a v

def State.writeSnap (s : State) (a v : Nat) : State :=
  if a = Reg.SNAP_MATCHTOL then
    s.writeIf E.SNAP ((List.range 8).all (fun n => !s.scEn n || tolOk (v % 2 ^ 20) (s.rate n))) a v
  else if a = Reg.SNAP_PWSEL then s.writeIf E.SNAP (v ≤ 0x1FFF) a v
  else if a = Reg.SNAP_PWVAL then s.writePwval v
  else if a = Reg.SNAP_PHOLD || a = Reg.SNAP_PRBLEAK || a = Reg.SNAP_PRELAX then s.writePolicy a v
  else if 0x10400100 ≤ a && a < 0x10400300 then s.writeClass (ixOf a 0x10400100 0x40) a v
  else s.plainWrite E.SNAP a v

/-! ### TOPO, DET, MODAL, ALM (R166, R183, R205, R225-R227) -/

def State.writeTopo (s : State) (a v : Nat) : State :=
  s.writeIf E.TOPO (!(Reg.TOPO_AGEPk 0 ≤ a && a ≤ Reg.TOPO_AGEPk 3) || agepOk v) a v

def State.writeDet (s : State) (a v : Nat) : State :=
  if a = Reg.DET_TCMD then
    let s1 := if bitAt v 0 = 1 then s.detTcmdWrite else s
    if bitAt v 1 = 1 then s1.detTcmdRead else s1
  else if 0x10600040 ≤ a && a < 0x10600060 then s.writeDetParam a v
  else s.plainWrite E.DET a v

def State.writeModal (s : State) (a v : Nat) : State :=
  if a = Reg.MODAL_TCMD then
    let s1 := if bitAt v 0 = 1 then s.modTcmdWrite else s
    if bitAt v 1 = 1 then s1.modTcmdRead else s1
  else if 0x10700040 ≤ a && a < 0x10700058 then s.writeModParam a v
  else s.plainWrite E.MODAL a v

/-- The configuration register of an alarm channel at an address: its channel and which of the three it is. -/
def alcAt (a : Nat) : Option (Nat × AlcReg) :=
  if 0x10800400 ≤ a && a < 0x10800800 then
    match a % 16 with
    | 0 => some (ixOf a 0x10800400 16, .cfg)
    | 4 => some (ixOf a 0x10800400 16, .src)
    | 8 => some (ixOf a 0x10800400 16, .din)
    | _ => none
  else none

def State.writeAlm (s : State) (a v : Nat) : State :=
  match alcAt a with
  | some (k, r) => s.writeAlc k r v
  | none =>
    if a = Reg.ALM_DINCFG then (if s.takesValue a v then s.writeDincfg v else s.cfgErr E.ALM)
    else if a = Reg.ALM_CTL then (s.plainWrite E.ALM a v).almAll
    else if 0x10800060 ≤ a && a < 0x10800120 then (s.plainWrite E.ALM a v).updPins
    else s.plainWrite E.ALM a v

/-! ### The local chain (R231, R244, R255, R264, R284, R302) -/

def State.writeAfe (s : State) (a v : Nat) : State :=
  if a = Reg.AFE_MCHEN then s.writeMchen v
  else if a = Reg.AFE_AUXCFG then s.writeAuxcfg v
  else if a = Reg.AFE_AUXCMD then s.writeAuxcmd v s.stampNow
  else if 0x10900140 ≤ a && a < 0x109001B0 then s.writeIf E.AFE (bitsOf v 5 3 != 7) a v
  else s.plainWrite E.AFE a v

def State.writeFlt (s : State) (a v : Nat) : State :=
  let c := ixOf a 0x10A00100 0x40
  let k := ixOf a 0x10A00400 0x20
  if a = Reg.FLT_CFG then s.writeFltCfg v
  else if a = Reg.FLT_BANKCMD then s.writeBankcmd v
  else if a = Reg.FLT_CSEL then s.writeCsel v
  else if a = Reg.FLT_CVAL then s.writeCval v
  else if 0x10A00100 ≤ a && a < 0x10A00300 then
    if a = Reg.FLT_CHcCFG c || a = Reg.FLT_CHcFIX c then s.writeChain c a v
    else if a = Reg.FLT_CHcPTRIM c then s.writePtrim c v
    else s.plainWrite E.FLT a v
  else if 0x10A00400 ≤ a && a < 0x10A00480 && (a = Reg.FLT_PRVkCFG k || a = Reg.FLT_PRVkTHR k || a = Reg.FLT_PRVkREL k) then
    s.writeLane k a v
  else s.plainWrite E.FLT a v

def State.writeMtr (s : State) (a v : Nat) : State :=
  let n := ixOf a 0x10B00200 0x20
  let gain := (0x10B00080 ≤ a && a < 0x10B000A0) || (0x10B000C0 ≤ a && a < 0x10B000F0 && a % 16 < 8)
  let off := (0x10B000A0 ≤ a && a < 0x10B000C0) || (0x10B000C0 ≤ a && a < 0x10B000F0 && 8 ≤ a % 16) || a == Reg.MTR_CREEP
  if a = Reg.MTR_CTL then s.writeMtrCtl v
  else if a = Reg.MTR_CFG then s.writeIf E.MTR (!s.configure || v % 4 != 3) a v
  else if a = Reg.MTR_CLRCMD then s.writeClrcmd v
  else if gain || off then s.writeCal a v gain
  else if 0x10B00200 ≤ a && a < 0x10B00280 && (a = Reg.MTR_PLSnCFG n || a = Reg.MTR_PLSnCONST n) then s.writePulse n a v
  else s.plainWrite E.MTR a v

def State.writeCap (s : State) (a v : Nat) : State :=
  let b := ixOf a 0x10C00100 0x40
  if a = Reg.CAP_CTL then s.writeCapCtl v
  else if a = Reg.CAP_HOSTTRIG then s.writeHosttrig v s.stampNow
  else if a = Reg.CAP_RELEASE then s.writeCapRelease v
  else if a = Reg.CAP_STOP then s.writeCapStop v
  else if a = Reg.CAP_MVAL then s.writeMval v
  else if 0x10C00100 ≤ a && a < 0x10C00500 then
    if a = Reg.CAP_BnCFG b then (if v % 4 = 3 then s.cfgErr E.CAP else s.writeCapBuf b a v)
    else if a % 0x40 < 0x1C && a ≠ Reg.CAP_BnTRIG b then s.writeCapBuf b a v
    else s.plainWrite E.CAP a v
  else if 0x10C00800 ≤ a && a < 0x10C00C00 then s.writeCapBuf (ixOf a 0x10C00800 0x40) a v
  else s.plainWrite E.CAP a v

/-! ### LAT, EVC, TSK (R322, R338, R342-R344, R470) -/

def State.writeLat (s : State) (a v : Nat) : State :=
  if a = Reg.LAT_CTL then s.writeLatCtl v
  else if a = Reg.LAT_SWAPCMD then s.writeSwapcmd v
  else if a = Reg.LAT_QCMD then s.writeQcmd v
  else s.plainWrite E.LAT a v

/-- EVC.CTL: while EN is 0 the reroute timers stand (R470). -/
def State.writeEvcCtl (s : State) (v : Nat) : State :=
  let was := s.flag Reg.EVC_CTL F.EVC_CTL_EN
  let s1 := s.plainWrite E.EVC Reg.EVC_CTL v
  let on := s1.flag Reg.EVC_CTL F.EVC_CTL_EN
  if was && !on then { s1 with evc := { s1.evc with stopFrom := s.ns } }
  else if !was && on then
    (List.range 24).foldl (fun s n =>
      let t := s.target n
      match t.asleepFrom with
      | some x => s.setTarget n { t with asleepFrom := some (x + (s.ns - max x s.evc.stopFrom)) }
      | none => s) s1
  else s1

/-- A register of target `n`: ring registers are refused while EN is 1; a change of EN is looked at under R342. -/
def State.writeTarget (s : State) (n a v : Nat) : State :=
  if a = Reg.EVC_TGTnCTL n then (s.plainWrite E.EVC a v).refreshSleep n
  else if a = Reg.EVC_TGTnBASELO n || a = Reg.EVC_TGTnBASEHI n || a = Reg.EVC_TGTnSIZE n then
    s.writeIf E.EVC (!s.flag (Reg.EVC_TGTnCTL n) F.EVC_TGTnCTL_EN) a v
  else if a = Reg.EVC_TGTnDONE n then s.doneOf n v
  else if a = Reg.EVC_TGTnRESET n then (if bitAt v 0 = 1 then s.resetStack n else s)
  else s.plainWrite E.EVC a v

def State.writeEvc (s : State) (a v : Nat) : State :=
  if a = Reg.EVC_CTL then s.writeEvcCtl v
  else if a = Reg.EVC_SRCCFG then s.writeSrccfg v
  else if a = Reg.EVC_SWSET then s.writeSwset v
  else if a = Reg.EVC_SWCLR then s.writeSwclr v
  else if 0x10E01000 ≤ a && a < 0x10E01600 then s.writeTarget (ixOf a 0x10E01000 0x40) a v
  else s.plainWrite E.EVC a v

/-- TSK.CTL: with EN 0 no preempt is asserted (R343). -/
def State.writeTskCtl (s : State) (v : Nat) : State :=
  let s1 := s.plainWrite E.TSK Reg.TSK_CTL v
  if s1.flag Reg.TSK_CTL F.TSK_CTL_EN then s1 else (List.range 8).foldl State.clearPreempt s1

def State.writeTsk (s : State) (req : Requester) (a v : Nat) : State :=
  if a = Reg.TSK_CTL then s.writeTskCtl v
  else if a = Reg.TSK_READY then s.onTask req v (fun n s => s.tskReady n)
  else if a = Reg.TSK_CANCEL then s.onTask req v (fun n s => s.tskCancel n)
  else if a = Reg.TSK_DELAY then s.onTask req v (fun n s => s.tskDelay n (v / 4096 % 2 ^ 20))
  else if a = Reg.TSK_DONE then s.onTask req v (fun n s => s.tskDone req n false false)
  else if a = Reg.TSK_YIELD then s.onTask req v (fun n s => s.tskDone req n true false)
  else if 0x10F00054 ≤ a && a < 0x10F00064 then s.writeDval req (ixOf a 0x10F00054 4) v
  else s.plainWrite E.TSK a v

/-! ### LDG, UPD, NOC (R391, R414, R26) -/

def State.writeLdg (s : State) (a v : Nat) : State := if a = Reg.LDG_RDCMD then s.writeRdcmd v else s.plainWrite E.LDG a v

def State.writeUpd (s : State) (a v : Nat) : State :=
  if a = Reg.UPD_ABORT then (if bitAt v 0 = 1 then s.abortSession else s) else s.plainWrite E.UPD a v

/-- Classes of cores 0-5 lie in P3-P6, of cores 6-7 in P5-P6 (R26). -/
def State.writeNoc (s : State) (a v : Nat) : State :=
  let k := ixOf a (Reg.NOC_CORECLSk 0) 4
  let c := v % 8
  let ok := c ≤ 6 && (if k < 6 then 3 ≤ c else 5 ≤ c)
  s.writeIf E.NOC (!(Reg.NOC_CORECLSk 0 ≤ a && a ≤ Reg.NOC_CORECLSk 7) || ok) a v

/-! ### Every block but HIF -/

/-- An aligned word written in a block's window by a requester that may write it. -/
def State.writeBlock (s : State) (req : Requester) (a v : Nat) : State :=
  match a / 0x100000 with
  | 0x100 => s.writeSys a v
  | 0x101 => s.writeTb req a v
  | 0x102 => s.writeEth a v
  | 0x103 => s.plainWrite E.ING a v
  | 0x104 => s.writeSnap a v
  | 0x105 => s.writeTopo a v
  | 0x106 => s.writeDet a v
  | 0x107 => s.writeModal a v
  | 0x108 => s.writeAlm a v
  | 0x109 => s.writeAfe a v
  | 0x10A => s.writeFlt a v
  | 0x10B => s.writeMtr a v
  | 0x10C => s.writeCap a v
  | 0x10D => s.writeLat a v
  | 0x10E => s.writeEvc a v
  | 0x10F => s.writeTsk req a v
  | 0x110 => s.writeIf E.CHD (a ≠ Reg.CHD_CFG || !s.configure || v % 256 ≠ 0) a v
  | 0x111 => s.writeLdg a v
  | 0x112 => s.plainWrite E.KEY a v
  | 0x113 => s.writeUpd a v
  | 0x115 => s.writeNoc a v
  | _ => s

end Sys2Proof.Machine
end

