-- ==== Sys2Proof/Machine/ImageLoad.lean ====
section
/-!
DEFINITION. The lattice image: its container, the checks of a load in their order, and what a load puts in force (R310-R319, R474).
-/
namespace Sys2Proof.Machine

/-! ### The container (R311-R313) -/

/-- A record of an image: its header's fields, its position in the image, and its body. -/
structure ImgRec where
  type : Nat
  rver : Nat
  index : Nat
  crc : Nat
  start : Nat
  body : List Byte
  deriving DecidableEq, Repr

/-- The records from position `start` up to the image's end; none where a LENGTH does not lead from one record to the next. -/
def imgRecs (img : List Byte) : Nat → Nat → Option (List ImgRec)
  | 0, _ => none
  | f + 1, start =>
    if start = img.length then some []
    else
      let n := leAt img (start + 4) 4
      if n < 16 || n % 8 ≠ 0 || img.length < start + n then none
      else
        let w := leAt img start 4
        let r : ImgRec :=
          { type := w % 256, rver := w / 256 % 256, index := leAt img (start + 8) 4, crc := leAt img (start + 12) 4,
            start := start, body := sliceOf img (start + 16) (n - 16) }
        (imgRecs img f (start + n)).map (r :: ·)

/-- A failed check of Table 15-9: its code, and the index of the record that fails it. -/
abbrev LoadFail := Nat × Nat

/-- The first record of a list that fails a test. -/
def failAt (code : Nat) (bad : Nat → ImgRec → Bool) (rs : List ImgRec) : Option LoadFail :=
  (rs.zipIdx.find? (fun p => bad p.2 p.1)).map (fun p => (code, p.2))

/-- A check of the image as a whole. -/
def failIf (code : Nat) (bad : Bool) : Option LoadFail := if bad then some (code, 0) else none

/-- Status of each code (Table 15-9). -/
def loadStatus (code : Nat) : Status :=
  if code = 2 || code = 7 || code = 8 || code = 9 then .version
  else if code = 5 || code = 6 then .auth
  else if code = 0x0B || code = 0x0E then .range
  else if code = 0x10 || code = 0x11 then .nospace
  else if code = 0x12 then .absent
  else .arg

/-- MAGIC (Table 15-4). -/
def imgMagic : List Byte := [0x41, 0x47, 0x4C, 0x49]

def imgFmt (img : List Byte) : Nat := leAt img 4 2
def imgKlib (img : List Byte) : Nat := leAt img 0x28 2

/-! ### Records by kind (Table 15-6) -/

def recsOf (type : Nat) (rs : List ImgRec) : List ImgRec := rs.filter (·.type == type)

/-- A tile as its record gives it. -/
structure ImgTile where
  recNo : Nat
  tile : Nat
  kernel : Nat
  inst : Nat
  kver : Nat
  sram : Nat
  body : List Byte
  deriving DecidableEq, Repr

def imgTiles (rs : List ImgRec) : List ImgTile :=
  rs.zipIdx.filterMap (fun p =>
    if p.1.type = 3 then
      let w := leAt p.1.body 0 4
      some { recNo := p.2, tile := bitsOf w 4 4 * 16 + w % 16, kernel := bitsOf w 8 8, inst := bitsOf w 16 16,
             kver := leAt p.1.body 4 4 % 65536, sram := leAt p.1.body 8 4, body := p.1.body }
    else none)

/-- A route: its record and the connection. -/
def imgRoutes (rs : List ImgRec) : List (Nat × Conn) :=
  (rs.zipIdx.map (fun p =>
    if p.1.type = 4 then (List.range (p.1.body.length / 8)).map (fun i =>
      (p.2, ({ src := leAt p.1.body (8 * i) 2, dst := leAt p.1.body (8 * i + 2) 2, ctrl := leAt p.1.body (8 * i + 4) 1 % 2 = 1 } : Conn)))
    else [])).flatten

/-- A BLOCK write: its record, the address and the value. -/
def imgBlocks (rs : List ImgRec) : List (Nat × Nat × Nat) :=
  (rs.zipIdx.map (fun p =>
    if p.1.type = 2 then (List.range (p.1.body.length / 8)).map (fun i =>
      (p.2, 0x10000000 + leAt p.1.body (8 * i) 4, leAt p.1.body (8 * i + 4) 4))
    else [])).flatten

/-- A BANK record: its record, kind of target, channel, tile, bytes per bank and the two banks. -/
structure ImgBank where
  recNo : Nat
  kind : Nat
  chan : Nat
  tile : Nat
  blen : Nat
  body : List Byte
  deriving DecidableEq, Repr

def imgBanks (rs : List ImgRec) : List ImgBank :=
  rs.zipIdx.filterMap (fun p =>
    if p.1.type = 5 then
      let w := leAt p.1.body 0 4
      some { recNo := p.2, kind := w % 256, chan := bitsOf w 8 8, tile := bitsOf w 16 16, blen := leAt p.1.body 4 4, body := p.1.body }
    else none)

/-- Bank 0 (A) or 1 (B) of a BANK record. -/
def ImgBank.bytes (b : ImgBank) (i : Nat) : List Byte := sliceOf b.body (8 + i * b.blen) b.blen

/-- The TABLE record's body. -/
def imgTable (rs : List ImgRec) : List Byte := ((recsOf 1 rs).head?.map (·.body)).getD []

def tblVcap (t : List Byte) : Nat := leAt t 0 4 % 2 ^ 21
def tblFcap (t : List Byte) : Nat := leAt t 4 4 % 2 ^ 17
def tblHcap (t : List Byte) : Nat := bitsOf (leAt t 4 4) 23 7
def tblEcap (t : List Byte) : Nat := leAt t 8 4 % 2 ^ 19
def tblClasses (t : List Byte) : Nat := leAt t 12 4 % 256
def tblAlcuse (t : List Byte) : Nat := bitsOf (leAt t 12 4) 8 7
def tblStreams (t : List Byte) : Nat := leAt t 0x10 4 % 2 ^ 14
def tblPairs (t : List Byte) : Nat := bitsOf (leAt t 0x10 4) 16 13
def tblMch (t : List Byte) : Nat := leAt t 0x14 4 % 2 ^ 13
def tblMaps (t : List Byte) : Nat := bitsOf (leAt t 0x14 4) 16 5
def tblMemb (t : List Byte) (k : Nat) : Nat := leAt t (0x18 + 8 * k) 4 % 2 ^ 14
def tblLoad (t : List Byte) (j : Nat) : Nat := leAt t (0x58 + 4 * j) 4
def tblMap (t : List Byte) (m : Nat) : List Nat := (List.range 10).map (fun i => leAt t (0xA8 + 20 * m + 2 * i) 2)

/-! ### Step 2: the header, the records and their order (R311, R312, R318) -/

/-- Whether the record at position `i` of `n` breaks the order, its version, its index or its CRC. -/
def recBad (rs : List ImgRec) (n i : Nat) (r : ImgRec) : Bool :=
  let prev := (((rs.drop (i - 1)).head?).map (·.type)).getD 0
  let order := if i = 0 then r.type == 1 && n != 1
    else if i + 1 = n then r.type == 15
    else 2 ≤ r.type && r.type ≤ 5 && prev ≤ r.type
  !order || r.rver != 1 || r.index != i || crc32c r.body != r.crc

/-- Checks 0x01-0x04; the records when all pass. -/
def loadStep2 (img : List Byte) : LoadFail ⊕ List ImgRec :=
  let len := leAt img 0x20 4
  if img.take 4 ≠ imgMagic then .inl (1, 0)
  else if imgFmt img ≠ 4 && imgFmt img ≠ 5 then .inl (2, 0)
  else if 0x4000000 < img.length || img.length < len || len < 64 then .inl (3, 0)
  else
    match imgRecs (img.take len) (len / 16 + 1) 64 with
    | none => .inl (3, 0)
    | some rs =>
      if rs.length ≠ leAt img 0x24 4 then .inl (3, 0)
      else match failAt 4 (recBad rs rs.length) rs with
        | some f => .inl f
        | none => .inr rs

/-! ### Step 3: signature and compatibility (R313, R318) -/

def State.loadStep3 (s : State) (img : List Byte) (rs : List ImgRec) : Option LoadFail :=
  let last := rs.length - 1
  match rs.getLast? with
  | none => some (5, 0)
  | some g =>
    let idx := leAt g.body 0 1 % 4
    let good := ecdsaVerify (Config.fusePubKey idx) (sha384 (img.take g.start)) (beAt g.body 8 48) (beAt g.body 0x38 48)
    if !good then some (5, last)
    else if Config.fuseRevoked idx then some (6, last)
    else if (List.range 4).any (fun k => leAt img (0x10 + 4 * k) 4 != s.val (Reg.LAT_COMPATk k)) then some (7, 0)
    else if leAt img 0x0C 2 ≠ 7 then some (8, 0)
    else if !Config.klibSupported (imgKlib img) then some (9, 0)
    else ((imgTiles rs).find? (fun t => t.kver != imgKlib img)).map (fun t => (9, t.recNo))

/-! ### Step 4: structure (R310, R314-R316, R318) -/

/-- A second record for a tile, or a reserved kernel. -/
def tileDup (ts : List ImgTile) : Option LoadFail :=
  ((ts.zipIdx).find? (fun p => p.1.kernel == 0 || 11 ≤ p.1.kernel || (ts.take p.2).any (·.tile == p.1.tile))).map
    (fun p => (0x0A, p.1.recNo))

/-- The tile and the kind of a tile-queue endpoint. -/
def endTile (e : Nat) : Nat := bitsOf e 7 4 * 16 + bitsOf e 11 4

def fixedSources : List Nat :=
  (List.range 8).map (0x8000 + ·) ++ (List.range 8).map (0x8010 + ·) ++ [0x8020, 0x8040]

def fixedDests : List Nat := (List.range 6).map (0x8030 + ·)

/-- Whether an endpoint is a used tile's queue, output or input. -/
def queueEnd (used : List Nat) (out : Bool) (e : Nat) : Bool :=
  e < 0x8000 && bitsOf e 2 4 == 0 && (bitAt e 6 == 1) == out && used.contains (endTile e)

/-- Whether a route, after those before it, breaks R314. -/
def routeBad (used : List Nat) (before : List Conn) (c : Conn) : Bool :=
  let fromTile := queueEnd used true c.src
  let toTile := queueEnd used false c.dst
  let srcs := (before.filter (fun b => b.src == c.src)).length
  let dsts := (before.filter (fun b => b.dst == c.dst)).length
  !(fromTile || fixedSources.contains c.src) || !(toTile || fixedDests.contains c.dst) || (!fromTile && !toTile) ||
    (c.src == 0x8040 && !c.ctrl) || (c.ctrl && !toTile) ||
    (if fromTile then 1 ≤ srcs else 16 ≤ srcs) || (if toTile then 1 ≤ dsts else 64 ≤ dsts)

def routesFail (used : List Nat) (rs : List (Nat × Conn)) : Option LoadFail :=
  ((rs.zipIdx).find? (fun p => routeBad used ((rs.take p.2).map (·.2)) p.1.2)).map (fun p => (0x0C, p.1.1))

/-- The sticky errors of the blocks that BLOCK records may write. -/
def blockErr (a : Nat) : Option ErrReg :=
  match a / 0x100000 with
  | 0x103 => some E.ING
  | 0x104 => some E.SNAP
  | 0x105 => some E.TOPO
  | 0x106 => some E.DET
  | 0x107 => some E.MODAL
  | 0x108 => some E.ALM
  | 0x109 => some E.AFE
  | 0x10A => some E.FLT
  | 0x10B => some E.MTR
  | 0x10C => some E.CAP
  | _ => none

/-- Whether an address is that of a register with an RWL field. -/
def isRwl (a : Nat) : Bool :=
  match findReg a with
  | some d => d.fields.any (fun f => f.acc == .rwl)
  | none => false

/-- Whether the register at a BLOCK address refuses a value, and the state with the write made. -/
def State.tryBlock (s : State) (a v : Nat) : Bool × State :=
  match blockErr a with
  | none => (true, s)
  | some e =>
    if !isRwl a then (true, s)
    else
      let s1 := (s.setFld e.addr ⟨e.cfg, 1⟩ 0).writeBlock .host a v
      (s1.flag e.addr ⟨e.cfg, 1⟩, s1)

/-- The BLOCK writes tried in record order: the first that is refused, and the registers they would leave. -/
def State.tryBlocks (s : State) : List (Nat × Nat × Nat) → Option LoadFail × State
  | [] => (none, s)
  | (r, a, v) :: rest =>
    match s.tryBlock a v with
    | (true, s1) => (some (0x0D, r), s1)
    | (false, s1) => s1.tryBlocks rest

/-- A TABLE value outside its range, or too many members. -/
def tableBad (t : List Byte) : Bool :=
  !(8192 ≤ tblVcap t && tblVcap t ≤ 1048576 && 1 ≤ tblFcap t && tblFcap t ≤ 65536 && 1 ≤ tblHcap t && tblHcap t ≤ 64 &&
    tblEcap t ≤ 262144 && 1 ≤ tblAlcuse t && tblAlcuse t ≤ 64 && 1 ≤ tblStreams t && tblStreams t ≤ 8192 && tblPairs t ≤ 4096 &&
    tblMch t ≤ 4096 && tblMaps t ≤ 15 && ((List.range 8).map (tblMemb t)).sum ≤ 8192)

/-- Bytes of a filter bank: 64 FIR coefficients, 3 072 of the resampler, 4 bytes each. PRESUMED. -/
def bankBad (ts : List ImgTile) (b : ImgBank) : Bool :=
  b.body.length < 8 + 2 * b.blen ||
  match b.kind with
  | 1 => match ts.find? (·.tile == b.tile) with
    | some t => !Config.blenOk t.kernel b.blen
    | none => true
  | 2 => b.blen != 256 || 8 ≤ b.chan
  | 3 => b.blen != 12288 || 8 ≤ b.chan
  | _ => true

def ceilDiv (a b : Nat) : Nat := (a + b - 1) / b

/-- Tiles that R310 requires of a kernel; `r` holds the registers after the BLOCK writes. -/
def tilesNeeded (r : State) (t : List Byte) (kernel : Nat) : Nat :=
  match kernel with
  | 1 => (((List.range 8).filter r.scEn).map (fun n => max 1 (ceilDiv (tblMemb t n) 1024))).sum
  | 2 => max 1 (((List.range 8).filter (fun n => bitAt (tblClasses t) n == 1)).map (fun n => ceilDiv (tblMemb t n) 512)).sum
  | 3 => max 1 (ceilDiv (tblFcap t) 4096)
  | 4 => ceilDiv (tblStreams t) 2048
  | 5 => max 1 (ceilDiv (tblPairs t) 1024)
  | 6 => ceilDiv (tblMch t) 64 + 1
  | 7 => 1
  | 8 => if r.flag Reg.FLT_PHCFG F.FLT_PHCFG_EN then 1 else 0
  | _ => 0

/-- Too few tiles of a kernel: the index of the first tile record of a kernel that lacks some, 0 when none has a record. -/
def tilesFail (r : State) (t : List Byte) (ts : List ImgTile) : Option LoadFail :=
  let lacking := (List.range 11).filter (fun k => (ts.filter (·.kernel == k)).length < tilesNeeded r t k)
  if lacking.isEmpty then none
  else some (0x10, ((ts.find? (fun x => lacking.contains x.kernel)).map (·.recNo)).getD 0)

/-- Worst-case loads of a tile of each kernel (Table 15-7a). -/
def kernelLoad : Nat → List Nat
  | 1 => [200, 300, 800, 20, 1320]
  | 2 => [300, 0, 400, 20, 720]
  | 3 => [400, 0, 50, 20, 470]
  | 4 => [100, 0, 200, 10, 310]
  | 5 => [100, 0, 100, 10, 210]
  | 6 => [250, 0, 150, 10, 410]
  | 7 => [800, 2000, 0, 50, 2850]
  | 8 => [10, 5, 5, 5, 25]
  | 9 => [10, 0, 0, 5, 15]
  | 10 => [200, 0, 50, 5, 255]
  | _ => []

/-- Declared P3 load on a resource: the TABLE's figure in format 5, the sum over the tiles in format 4 (R315, R471). -/
def declaredLoad (fmt : Nat) (t : List Byte) (ts : List ImgTile) (j : Nat) : Nat :=
  if fmt = 5 then tblLoad t j
  else if j < 4 then (ts.map (fun x => (kernelLoad x.kernel).getD j 0)).sum
  else ((ts.filter (fun x => x.tile % 16 == j - 4)).map (fun x => (kernelLoad x.kernel).getD 4 0)).sum

/-- Capacity and rated P1 and P2 load of a resource (Table 15-7). -/
def resource : Nat → Nat × Nat
  | 0 => (127968, 16000)
  | 1 => (128000, 8000)
  | 2 => (64000, 12000)
  | 3 => (32000, 500)
  | _ => (16000, 1000)

def loadsBad (fmt : Nat) (t : List Byte) (ts : List ImgTile) : Bool :=
  (List.range 20).any (fun j => (resource j).1 * 7 < (declaredLoad fmt t ts j + (resource j).2) * 10)

def State.loadStep4 (s : State) (img : List Byte) (rs : List ImgRec) : Option LoadFail :=
  let ts := imgTiles rs
  let t := imgTable rs
  let blocks := s.tryBlocks (imgBlocks rs)
  (tileDup ts) <|> ((ts.find? (fun x => 262144 < x.sram)).map (fun x => (0x0B, x.recNo))) <|>
    (routesFail (ts.map (·.tile)) (imgRoutes rs)) <|> blocks.1 <|> (failIf 0x0E (tableBad t)) <|>
    (((imgBanks rs).find? (bankBad ts)).map (fun b => (0x0F, b.recNo))) <|> (tilesFail blocks.2 t ts) <|>
    (failIf 0x11 (loadsBad (imgFmt img) t ts))

/-- Steps 1-4 of Table 15-8 over a copied image: the first check that fails, in the order of R474, or the records. -/
def State.loadChecks (s : State) (image : Option (List Byte)) : LoadFail ⊕ (List Byte × List ImgRec) :=
  match image with
  | none => .inl (0x12, 0)
  | some img =>
    match loadStep2 img with
    | .inl f => .inl f
    | .inr rs =>
      match (s.loadStep3 img rs) <|> (s.loadStep4 img rs) with
      | some f => .inl f
      | none => .inr (img, rs)

/-! ### Step 5 (R317, R165, R182, R204, R226, R255, R263, R301) -/

/-- Tiles, routes, empty queues, no swap pending, bank A. -/
def State.imageTiles (s : State) (rs : List ImgRec) : State :=
  let ts := imgTiles rs
  let put := fun (m : Tab (Option Tile)) (x : ImgTile) =>
    tput (fun _ => none) m x.tile (some { kernel := x.kernel, inst := x.inst, sram := x.sram })
  let s1 : State := { s with lat := { s.lat with
    loaded := false
    streamsCap := tblStreams (imgTable rs)
    tiles := ts.foldl put []
    conns := (imgRoutes rs).map (·.2)
    queues := []
    holds := []
    abank := 0
    swapPend := false
    swapDone := 0
    swapSeqs := []
    late := []
    mtrFault := false } }
  let banks := imgBanks rs
  let sram := fun (s : State) (x : ImgTile) =>
    let bank := ((banks.find? (fun b => b.kind == 1 && b.tile == x.tile)).map (·.body)).getD []
    s.putDev (0x400000000 + x.tile * 0x40000) ((Config.tileSram x.body bank).take 262144)
  let s2 := ts.foldl sram s1
  { s2 with tb := { s2.tb with tiles := [] } }

/-- The rows after a load: FID, MAP, AGEP, INSVC, STREAM and RATED stay; MAP becomes 0 where it is not defined, FID 0 where the facet
was dropped (R165). -/
def State.imageRows (s : State) (dropped : List Nat) : State :=
  s.rowsListed.foldl (fun (s : State) v =>
    let w := s.rowWord0 v % 2 ^ 24
    let w1 := if (s.mapOf (bitsOf w 16 4)).isSome then w else w - bitsOf w 16 4 * 2 ^ 16
    let w2 := if dropped.contains (w1 % 65536) then w1 - w1 % 65536 else w1
    let rated := s.rowLe v 4 4
    s.putDev (rowAddr v) (leBytes 4 w2 ++ leBytes 4 rated ++ List.replicate 120 0)) s

/-- Capacities set; table and registry entries at or beyond them dropped and counted; generation 0 committed (R164, R165). -/
def State.imageTables (s : State) (fmt : Nat) (t : List Byte) : State :=
  let facs := s.facets.filter (fun f => tblFcap t ≤ f)
  let edgs := s.edgeList.filter (fun e => tblEcap t ≤ e)
  let huls := (s.topo.hulls.filter (fun p => p.2.valid && tblHcap t ≤ p.1)).map (·.1)
  let regs := (s.ing.telem.filter (fun p => p.2.isSome && tblVcap t ≤ p.1)).map (·.1)
  let orphan := (s.edgeList.filter (fun e => e < tblEcap t && (facs.contains (s.edgeA e) || facs.contains (s.edgeB e))))
  let n := facs.length + edgs.length + huls.length + regs.length
  let maps : Tab (Option (List Nat)) :=
    if fmt = 5 then (List.range (tblMaps t)).foldl (fun m i => tput (fun _ => none) m (i + 1) (some (tblMap t (i + 1)))) [] else []
  let batch := match s.topo.batch with
    | some b => some b
    | none => (s.topo.work.map (·.batch)).getD none
  let s1 : State := { s with
    ing := { s.ing with
      telem := s.ing.telem.filter (fun p => !regs.contains p.1)
      lastSeq := s.ing.lastSeq.filter (fun p => !regs.contains p.1) }
    topo := { s.topo with
      rowMaps := maps
      hulls := s.topo.hulls.filter (fun p => !huls.contains p.1)
      batch := batch
      work := none
      gens := []
      dirty := false } }
  let s2 := facs.foldl (fun (s : State) f => s.putDev (s.facBase + f * 16) (List.replicate 16 0)) s1
  let s3 := edgs.foldl (fun (s : State) e => s.putDev (s.edgeBase + e * 16) (List.replicate 16 0)) s2
  let s4 := orphan.foldl (fun (s : State) e =>
    let w := s.edgeWord e 1
    s.putEdge e 1 (w - bitsOf w 28 1 * 2 ^ 28)) s3
  let s5 := s4.imageRows facs
  let s6 := ((s5.setVal Reg.TOPO_VCAP (tblVcap t)).setVal Reg.TOPO_FCAP (tblFcap t)).setVal Reg.TOPO_ECAP (tblEcap t)
  let s7 := (s6.recount).abandonPass
  let m := s7.label
  let g : Generation := { gen := 0, tick := s7.ns, facets := m }
  let s8 : State := { s7 with topo := { s7.topo with gens := [g] } }
  let s9 := ((((s8.setVal Reg.TOPO_GEN 0).setVal Reg.TOPO_GENTICK s8.ns32).setVal Reg.TOPO_NCOMP (labelsOf m).length).setVal
    Reg.TOPO_ECOUNT s8.edgeList.length).bump Reg.TOPO_COMMITS
  let s10 := s9.setFld Reg.TOPO_STAT F.TOPO_STAT_SPLITBUSY 0
  if n = 0 then s10 else (s10.bumpBy Reg.TOPO_LOADDROP n).raise E.TOPO 5

/-- Writes that a parameter bank of a detector or modal tile stands for. -/
def bankWrites (x : ImgTile) (bytes : List Byte) : List BankWrite :=
  (Config.bankContent x.kernel x.inst bytes).map (fun (w : Nat × Option Nat × List Nat) =>
    match w with
    | (i, some table, ws) => .entry table i (ws.map (· % 2 ^ 32))
    | (a, none, ws) => .param a (ws.headD 0))

/-- Parameter bank `i` as the BANK records of the tiles of some kernels fill it. -/
def imageBank (rs : List ImgRec) (kernels : List Nat) (i : Nat) : Bank :=
  let ts := (imgTiles rs).filter (fun x => kernels.contains x.kernel)
  let ws := (ts.map (fun x => match (imgBanks rs).find? (fun b => b.kind == 1 && b.tile == x.tile) with
    | some b => bankWrites x (b.bytes i)
    | none => [])).flatten
  ws.foldl Bank.take {}

/-- One coefficient bank of the filter chain filled from a BANK record. -/
def State.imageCoefs (s : State) (b : ImgBank) (i : Nat) : State :=
  let bytes := b.bytes i
  (List.range (b.blen / 4)).foldl (fun s k => s.putCoef i (b.kind - 2) b.chan k (leAt bytes (4 * k) 4)) s

/-- Banks A and B filled, bank A active. -/
def State.imageBanks (s : State) (rs : List ImgRec) : State :=
  let s1 : State := { s with
    det := { s.det with bankA := imageBank rs [2, 3, 4, 5] 0, bankB := imageBank rs [2, 3, 4, 5] 1, held := [] }
    modal := { s.modal with bankA := imageBank rs [6] 0, bankB := imageBank rs [6] 1, held := [] }
    flt := { s.flt with abank := 0, swapPend := false } }
  let s2 := (s1.setFld Reg.DET_STAT F.DET_STAT_TBUSY 0).setFld Reg.MODAL_STAT F.MODAL_STAT_TBUSY 0
  ((imgBanks rs).filter (fun b => b.kind == 2 || b.kind == 3)).foldl (fun s b => (s.imageCoefs b 0).imageCoefs b 1) s2

/-- Provisional levels and debts become 0 (R141), and no class has a Wprev (R114). -/
def State.imageClasses (s : State) : State :=
  (List.range 8).foldl (fun (s : State) n => (s.setPstate n 0 0 0 0).setSc n { s.sc n with wprev := none }) s

/-- What the fixed blocks' chapters say a load clears. -/
def State.imageClears (s : State) : State :=
  ((((s.detClear.modalClear).almClear).fltClear).imageClasses).capImage

/-- LAT's report of the image loaded. -/
def State.imageReport (s : State) (img : List Byte) (rs : List ImgRec) : State :=
  let ts := imgTiles rs
  let s1 := ((s.setVal Reg.LAT_IMAGEID (leAt img 8 4)).setVal Reg.LAT_SCHEMA (leAt img 0x0C 4)).setVal Reg.LAT_KLIBVER (leAt img 0x28 4)
  let s2 := (List.range 10).foldl (fun (s : State) k =>
    s.setVal (Reg.LAT_KCNTk (k + 1)) (ts.filter (fun x => x.kernel == k + 1)).length) s1
  { s2 with lat := { s2.lat with fmtver := imgFmt img } }

/-- Step 5. -/
def State.applyImage (s : State) (img : List Byte) (rs : List ImgRec) : State :=
  let s1 := s.imageTiles rs
  let s2 := (imgBlocks rs).foldl (fun (s : State) b => s.writeBlock .host b.2.1 b.2.2) s1
  let s3 := (s2.imageTables (imgFmt img) (imgTable rs)).imageBanks rs
  s3.imageClears.imageReport img rs

/-! ### The load as a whole (R317-R319, R474) -/

/-- LOADERR and its sticky bit (R318). -/
def State.loadFailed (s : State) (f : LoadFail) : State :=
  (s.setVal Reg.LAT_LOADERR (f.1 + f.2 % 65536 * 2 ^ 16)).raise E.LAT 1

/-- A lattice that holds no image, after a read-back that disagrees. -/
def State.noImage (s : State) : State :=
  let s1 : State := { s with lat := { s.lat with
    loaded := false, tiles := [], conns := [], queues := [], holds := [], streamsCap := 0, fmtver := 0 } }
  (List.range 10).foldl (fun (s : State) k => s.setVal (Reg.LAT_KCNTk (k + 1)) 0)
    (((s1.setVal Reg.LAT_IMAGEID 0).setVal Reg.LAT_SCHEMA 0).setVal Reg.LAT_KLIBVER 0)

/-- An image loaded in the steps of Table 15-8; the check that failed, if one did. `mismatch` is the record whose read-back disagrees. -/
def State.loadImage (s : State) (image : Option (List Byte)) (mismatch : Option Nat) : State × Option LoadFail :=
  match s.loadChecks image with
  | .inl f => (s.loadFailed f, some f)
  | .inr (img, rs) =>
    let s1 := s.applyImage img rs
    match mismatch with
    | some i => ((s1.noImage).loadFailed (0x13, i), some (0x13, i))
    | none =>
      let s2 : State := { s1 with lat := { s1.lat with loaded := true } }
      ((s2.setVal Reg.LAT_LOADERR 0).bump Reg.LAT_LOADS, none)

/-- The lattice image of a boot flash bank: what the flash holds of it, else the one that start-up found in force (R406-R408). -/
def State.flashImage (s : State) (b : Bool) : Option (List Byte) :=
  let base := bankBase b
  let f := s.upd.flash
  if f.bytes base 4 = [0x41, 0x47, 0x4C, 0x4D] then
    match (manParts (f.bytes base 0x140)).find? (fun p => p.code == 4) with
    | some p => if p.plen = 0 then none else some (f.bytes (base + 65536 * p.first) (min p.plen 0x4000008))
    | none => none
  else if b = s.upd.ctl.bankB && !s.upd.image.isEmpty then some s.upd.image
  else none

/-- IMAGE_LOAD's own rules: BUSY while one runs, else step 1. -/
def imageLoadBody (tag source addr length : Nat) (readable : Bool) (mismatch : Option Nat) : CmdBody := fun s =>
  if s.lat.job.isSome then (s, some (.busy, []))
  else
    let image := if source = 0 then (if readable then some (s.hostBytes addr (min length 0x4000008)) else none)
      else s.flashImage (source == 2)
    ({ s with lat := { s.lat with job := some { tag := tag, image := image, mismatch := mismatch } } }, none)

def State.imageLoad (s : State) (h : CmdHdr) (source addr length : Nat) (readable : Bool) (mismatch : Option Nat) : State :=
  s.hostCmd 0x0201 h (source < 3 && (source != 0 || addr % 8 == 0)) (s.sys.mode == .configure) false
    (imageLoadBody h.tag source addr length readable mismatch)

/-- IMAGE_LOAD (R317). -/
def execImageLoad (h : CmdHdr) (source addr length : Nat) (readable : Bool) (mismatch : Option Nat) (s : State) :
    Host.Outcome State Fault Refusal :=
  s.live (fun s => s.imageLoad h source addr length readable mismatch)

/-- The load in progress runs to its end and its command completes (R317, R318). -/
def State.finishLoad (s : State) : State :=
  match s.lat.job with
  | none => s
  | some j =>
    let (s1, f) := s.loadImage j.image j.mismatch
    let s2 : State := { s1 with lat := { s1.lat with job := none } }
    let st := match f with
      | none => Status.ok
      | some (c, _) => loadStatus c
    s2.complete 0x0201 j.tag st [s2.val Reg.LAT_LOADERR]

end Sys2Proof.Machine
end

