-- ==== Sys2Proof/Machine/HostInterface.lean ====
section
/-!
DEFINITION. The host interface: register and memory accesses from every side, the command and completion rings, interface versions, BAR2,
I2C and the PCIe link (R4-R8, R304, R437-R450).
-/
namespace Sys2Proof.Machine

/-! ### Command entries (R445-R447) -/

/-- Argument fields of each command, as (lowest bit, width) from byte 0x08 of the entry (Table 22-7); none for an unknown CODE. -/
def argFields (code : Nat) : Option (List (Nat × Nat)) :=
  match code with
  | 0x0000 => some []
  | 0x0101 => some [(0, 4)]
  | 0x0201 => some [(0, 2), (64, 64), (128, 64)]
  | 0x0301 => some [(0, 64), (64, 17), (96, 8), (104, 2), (106, 3), (112, 5)]
  | 0x0302 => some [(0, 4)]
  | 0x0311 => some [(0, 256), (256, 64)]
  | 0x0312 => some [(0, 256), (256, 64)]
  | 0x0401 => some [(0, 64), (64, 64)]
  | 0x0501 => some [(0, 64)]
  | 0x0601 => some [(0, 16)]
  | 0x0602 => some [(0, 4), (64, 64), (128, 64)]
  | 0x0701 => some []
  | 0x0702 => some []
  | 0x0801 => some [(0, 64), (64, 64)]
  | 0x0901 => some [(0, 1), (64, 64), (128, 64)]
  | 0x0902 => some []
  | 0x0903 => some []
  | 0x0A01 => some []
  | 0x0A02 => some []
  | 0x0B01 => some []
  | _ => none

/-- The header of a command entry (Table 22-5). -/
def entryHdr (e : List Byte) : CmdHdr :=
  let w := leAt e 0 4
  { tag := leAt e 4 4, force := bitAt w 16 = 1, keep := bitAt w 17 = 1, peer := bitAt w 18 = 1, format := bitAt w 19 = 1 }

/-- Whether CODE is known and every reserved field of the entry is 0 (R446). -/
def entryOk (e : List Byte) : Bool :=
  let w := leAt e 0 4
  let args := leAt e 8 56
  match argFields (w % 65536) with
  | none => false
  | some fs => w / 2 ^ 20 == 0 && args == (fs.map (fun f => bitsOf args f.1 f.2 * 2 ^ f.1)).sum

/-- NOP (R447). -/
def State.cmdNop (s : State) (h : CmdHdr) : State := s.hostCmd 0x0000 h true true false (fun s => (s, some (.ok, [])))

/-- A command that fails the first check of R446 whatever its mode. -/
def State.cmdArg (s : State) (code : Nat) (h : CmdHdr) : State := s.hostCmd code h false true false (fun s => (s, none))

/-- A command entry started (R445-R447). -/
def State.startEntry (s : State) (e : List Byte) : State :=
  let code := leAt e 0 2
  let h := entryHdr e
  let a := leAt e 8 56
  if !entryOk e then s.cmdArg code h
  else
    match code with
    | 0x0000 => s.cmdNop h
    | 0x0101 => s.modeSet h (a % 16)
    | 0x0201 => s.imageLoad h (a % 4) (bitsOf a 64 64) (bitsOf a 128 64) true none
    | 0x0301 => s.subscribe h (a % 2 ^ 64) (bitsOf a 64 17) (bitsOf a 96 8) (bitsOf a 104 2) (bitsOf a 106 3) (bitsOf a 112 5)
    | 0x0302 => s.unsubscribe h (a % 16)
    | 0x0311 => s.sourceAdd h (wordsOf 8 (sliceOf e 8 32)) (bitsOf a 256 64)
    | 0x0312 => s.sourceRemove h (wordsOf 8 (sliceOf e 8 32)) (bitsOf a 256 64)
    | 0x0401 => s.topoEdit h (a % 2 ^ 64) (bitsOf a 64 64)
    | 0x0501 => s.almAck h (a % 2 ^ 64)
    | 0x0601 => s.capArm h (a % 65536)
    | 0x0602 => s.capRead h (a % 16) (bitsOf a 64 64) (bitsOf a 128 64) false
    | 0x0701 => s.ledgerEject h
    | 0x0702 => s.ledgerAccept h
    | 0x0801 => s.keyUpdate h (a % 2 ^ 64) (bitsOf a 64 64)
    | 0x0901 => s.updateBegin h (a % 2) (bitsOf a 64 64) (bitsOf a 128 64)
    | 0x0902 => s.activate h
    | 0x0903 => s.healthConfirm h
    | 0x0A01 => s.switchover h
    | 0x0A02 => s.switchback h
    | _ => s.trimReload h

/-! ### The command ring (R445) -/

def State.cmdSlots (s : State) : Nat := 2 ^ s.fld Reg.HIF_CMDSIZE ⟨0, 4⟩
def State.cmdBase (s : State) : Nat := s.val64 Reg.HIF_CMDBASELO Reg.HIF_CMDBASEHI
def State.cplBase (s : State) : Nat := s.val64 Reg.HIF_CPLBASELO Reg.HIF_CPLBASEHI

/-- Whether the next entry of the command ring is taken now. -/
def State.takesCmd (s : State) : Bool :=
  s.flag Reg.HIF_CTL F.HIF_CTL_CMDEN && s.sys.blocksUp && s.sys.mode != .dormant && s.sys.trans.isNone && s.busyCmds < 32 &&
    s.val Reg.HIF_CMDHEAD % s.cmdSlots != s.val Reg.HIF_CMDTAIL % s.cmdSlots

/-- The entry at CMDHEAD read, its slot freed, and the command started. -/
def State.takeCmd (s : State) : State :=
  let h := s.val Reg.HIF_CMDHEAD % s.cmdSlots
  let e := s.hostBytes (s.cmdBase + 64 * h) 64
  (s.setVal Reg.HIF_CMDHEAD ((h + 1) % s.cmdSlots)).startEntry e

/-- Entries taken in ring order as long as the conditions hold; a ring has at most 4 096. -/
def State.takeCmds : Nat → State → State
  | 0, s => s
  | n + 1, s => if s.takesCmd then State.takeCmds n s.takeCmd else s

def State.pumpCmds (s : State) : State := State.takeCmds 4096 s

/-! ### Interface versions (R448) -/

/-- The highest version that both sides support, as major * 256 + minor; 0 when there is none. DRVVER holds the host's highest and
lowest. -/
def agreedVersion (drv : Nat) : Nat :=
  let top := min (bitsOf drv 16 16) 0x0402
  if max (drv % 65536) 0x0300 ≤ top then top else 0

/-- DRVVER written. -/
def State.writeDrvver (s : State) (v : Nat) : State :=
  if s.flag Reg.HIF_CTL F.HIF_CTL_CMDEN then s.cfgErr E.HIF
  else
    let a := agreedVersion (v % 2 ^ 32)
    let s1 := ((s.setVal Reg.HIF_DRVVER v).setVal Reg.HIF_AGREED a).event 0x210 0
    if a = 0 then s1.raise E.HIF 5 else s1

/-! ### Registers of HIF (R442, R445, R450) -/

/-- A word of the MSI-X table written, of a vector's fourth word the mask bit alone; a vector whose mask is lifted while it is
pending is sent. The pending bits are read only. -/
def State.writeMsix (s : State) (a v : Nat) : State :=
  if a < 0x11410200 then
    let i := ixOf a 0x11410000 4
    let w := if i % 4 = 3 then v % 2 else v % 2 ^ 32
    let s1 : State := { s with hif := { s.hif with msixTable := tput msixDefault s.hif.msixTable i w } }
    if i % 4 = 3 && v % 2 = 0 && bitAt s.hif.msixPend (i / 4) = 1 then
      { s1 with hif := { s1.hif with msixPend := s1.hif.msixPend - 2 ^ (i / 4), msix := s1.hif.msix ++ [i / 4] } }
    else s1
  else s

/-- Registers that stand while CTL.CMDEN is 1. -/
def ringRegs : List Nat :=
  [Reg.HIF_CMDBASELO, Reg.HIF_CMDBASEHI, Reg.HIF_CMDSIZE, Reg.HIF_CPLBASELO, Reg.HIF_CPLBASEHI, Reg.HIF_CPLSIZE]

/-- CTL written: without an agreed version CMDEN cannot be set. -/
def State.writeHifCtl (s : State) (v : Nat) : State :=
  if bitAt v 0 = 1 && s.agreed == 0 then s.cfgErr E.HIF else (s.plainWrite E.HIF Reg.HIF_CTL v).pumpCmds

/-- CMDTAIL written: the doorbell. -/
def State.writeCmdtail (s : State) (v : Nat) : State := (s.plainWrite E.HIF Reg.HIF_CMDTAIL v).pumpCmds

def State.writeHif (s : State) (a v : Nat) : State :=
  if a = Reg.HIF_CTL then s.writeHifCtl v
  else if a = Reg.HIF_DRVVER then s.writeDrvver v
  else if a = Reg.HIF_CMDTAIL then s.writeCmdtail v
  else if ringRegs.contains a then s.writeIf E.HIF (!s.flag Reg.HIF_CTL F.HIF_CTL_CMDEN) a v
  else if 0x11410000 ≤ a && a < 0x11412000 then s.writeMsix a v
  else s.plainWrite E.HIF a v

/-- An aligned word written in any register window. -/
def State.writeReg (s : State) (req : Requester) (a v : Nat) : State :=
  if a / 0x100000 = 0x114 then s.writeHif a v else s.writeBlock req a v

/-! ### Accesses to the address map (R5, R304, R437, R441) -/

/-- Bytes that arrive at a memory region from a core. -/
def State.coreStore (s : State) (k a : Nat) (data : List Byte) : State :=
  match s.region a with
  | .bootRom => s
  | .tileSram => if s.sys.mode = .configure || s.sys.mode = .test then s.putDev a data else s.cfgErr E.LAT
  | .unmapped => s.takeExc k 2 a true
  | _ => s.putDev a data

/-- Bytes that arrive at a memory region from the host: LPDDR5X takes them in CONFIGURE and TEST, the vertex store and alignment SRAM
never; the other memories have no host view. -/
def State.hostStore (s : State) (a : Nat) (data : List Byte) : State :=
  match s.region a with
  | .lpddr =>
    if s.sys.mode = .configure || s.sys.mode = .test then
      let room := 0x1000000000 + s.sys.usable - a
      let s1 := s.putDev a (data.take room)
      if room < data.length then s1.raise E.HIF 2 else s1
    else s.raise E.HIF 3
  | .vertexStore => s.raise E.HIF 3
  | .alignSram => s.raise E.HIF 3
  | _ => s.raise E.HIF 2

/-- A write by a requester at a core address. -/
def State.busWrite (s : State) (req : Requester) (a width v : Nat) : State :=
  if s.region a = .regWindow then
    s.writeBy req a v (fun s => if width = 4 && a % 4 = 0 then s.writeReg req a (v % 2 ^ 32) else s)
  else
    match req with
    | .core k =>
      if s.region a = .unmapped && s.sys.mode != .dormant then s.takeExc k 2 a true
      else s.writeBy req a v (fun s => s.coreStore k a (leBytes width v))
    | _ => s.writeBy req a v (fun s => s.hostStore a (leBytes width v))

/-- A word read by a requester at a core address; `eff` reads a register. What the boot ROM holds is not the spec's to say: a free
value. -/
def State.busRead (s : State) (req : Requester) (a : Nat) (eff : State → State) : State :=
  let w := a - a % 4
  match s.region a, req with
  | .regWindow, _ => s.readBy req a eff
  | .unmapped, .core k => if s.sys.mode = .dormant then s.readBy req a id else (s.takeExc k 2 a false).answer [0]
  | .bootRom, .core _ => s.readBy req a (fun s => (s.draw.2).answer [Config.freeNat s.draw.1 % 2 ^ 32])
  | _, .core _ => s.readBy req a (fun s => s.answer [leNat (s.devBytes w 4)])
  | .lpddr, _ => s.readBy req a (fun s => s.answer [leNat (s.devBytes w 4)])
  | .vertexStore, _ => s.readBy req a (fun s => s.answer [leNat (s.devBytes w 4)])
  | .alignSram, _ => s.readBy req a (fun s => s.answer [leNat (s.devBytes w 4)])
  | _, _ => s.readBy req a (fun s => (s.raise E.HIF 2).answer [0])

/-- REGISTER_WRITE (R5, R7). -/
def execRegisterWrite (req : Requester) (addr width value : Nat) (s : State) : Host.Outcome State Fault Refusal :=
  s.live (fun s => s.busWrite req addr width value)

/-- RC_COUNTER_READ (R7, R8): the counter's value is returned and what coincides with the read stays. Any other word is read as it
reads. -/
def execRcCounterRead (req : Requester) (addr coincident : Nat) (s : State) : Host.Outcome State Fault Refusal :=
  s.live (fun s => s.busRead req addr (fun s =>
    let a := addr - addr % 4
    if isRc a then s.readRc a coincident else s.readReg req a))

/-- Core address of an offset in BAR2 (Table 22-1). -/
def bar2Addr (off : Nat) : Option Nat :=
  if off < 0x8000000 then some (0x200000000 + off)
  else if off < 0x9000000 then some (0x500000000 + (off - 0x8000000))
  else if 0x100000000 ≤ off && off < 0x1000000000 then some (0x1000000000 + (off - 0x100000000))
  else none

/-- BAR2_WRITE (R441). -/
def execBar2Write (offset : Nat) (data : List Byte) (s : State) : Host.Outcome State Fault Refusal :=
  s.live (fun s => match bar2Addr offset with
    | some a => s.writeBy .host a 0 (fun s => s.hostStore a data)
    | none => s.writeBy .host (2 ^ 40 + offset) 0 (fun s => s.raise E.HIF 2))

/-! ### Commands of the host (R445-R448) -/

def execCommandDoorbell (req : Requester) (value : Nat) (s : State) : Host.Outcome State Fault Refusal :=
  s.live (fun s => s.writeBy req Reg.HIF_CMDTAIL value (fun s => s.writeCmdtail value))

def execNop (h : CmdHdr) (s : State) : Host.Outcome State Fault Refusal := s.live (fun s => s.cmdNop h)

def execDrvverWrite (req : Requester) (value : Nat) (s : State) : Host.Outcome State Fault Refusal :=
  s.live (fun s => s.writeBy req Reg.HIF_DRVVER value (fun s => s.writeDrvver value))

/-! ### Completions (R445, Table 22-6) -/

/-- The 32 bytes of a completion. -/
def Cpl.bytes (c : Cpl) (phase : Bool) (time : Nat) : List Byte :=
  words [c.code % 65536 + c.status % 16 * 2 ^ 16 + bit phase 31, c.tag, c.res.getD 0 0, c.res.getD 1 0, c.res.getD 2 0, c.res.getD 3 0] ++
    leBytes 8 time

/-- The oldest waiting completion written at CPLHEAD. -/
def State.writeCpl (s : State) (c : Cpl) : State :=
  let head := s.val Reg.HIF_CPLHEAD % s.cplSlots
  let next := (head + 1) % s.cplSlots
  let s1 := (s.putHost (s.cplBase + 32 * head) (c.bytes s.hif.phase s.ns)).setVal Reg.HIF_CPLHEAD next
  let s2 : State := { s1 with hif := { s1.hif with
    cpls := s1.hif.cpls.drop 1
    phase := if next = 0 then !s1.hif.phase else s1.hif.phase } }
  let s3 := s2.bump Reg.HIF_CMDS
  let s4 := if c.status = 0 then s3 else s3.bump Reg.HIF_CMDERRS
  if s4.flag Reg.HIF_CTL F.HIF_CTL_CPLIRQ then s4.sendMsix 16 else s4

/-- The restart that ACTIVATE ordered follows its completion (R416). -/
def State.restartIfDue (s : State) : State :=
  if s.upd.restartDue && !s.hif.cpls.any (fun c => c.code == 0x0902) then s.flush.deviceReset .sw else s

/-- A completion is due to be written: a full ring makes it wait, a failing host write leaves it waiting with RINGERR. With none
waiting, an image load in progress runs to its end. -/
def State.completionDue (s : State) (writeFails : Bool) : State :=
  if s.sys.mode = .dormant then s
  else
    match s.hif.cpls with
    | [] => s.finishLoad
    | c :: _ =>
      if s.cplFull then s.raise E.HIF 6
      else if writeFails then s.raise E.HIF 4
      else (s.writeCpl c).restartIfDue

/-- COMPLETION_WRITE (R445). -/
def execCompletionWrite (writeFails : Bool) (s : State) : Host.Outcome State Fault Refusal :=
  s.live (fun s => (s.completionDue writeFails).pumpCmds)

/-! ### I2C (R449) -/

/-- A transfer ends with NACK. -/
def State.i2cNak (s : State) : State := (s.bump Reg.HIF_I2CNAK).raise E.HIF 7

/-- Words written from the pointer onward; whether all of them were. -/
def State.i2cWrites : State → List (List Byte) → State × Bool
  | s, [] => (s, true)
  | s, w :: ws =>
    if w.length ≠ 4 || 0x4000000 ≤ s.hif.i2cPtr then (s, false)
    else
      let a := 0x10000000 + s.hif.i2cPtr
      let s1 := s.busWrite .i2c a 4 (beNat w)
      State.i2cWrites { s1 with hif := { s1.hif with i2cPtr := s1.hif.i2cPtr + 4 } } ws

/-- `n` words read from the pointer onward; the words, oldest first, and whether all were read. -/
def State.i2cReads : Nat → State → List Nat → State × List Nat × Bool
  | 0, s, got => (s, got, true)
  | n + 1, s, got =>
    if 0x4000000 ≤ s.hif.i2cPtr then (s, got, false)
    else
      let a := 0x10000000 + s.hif.i2cPtr
      let s1 := s.busRead .i2c a (fun s => s.readReg .i2c a)
      let s2 : State := { s1 with hif := { s1.hif with i2cPtr := s1.hif.i2cPtr + 4 } }
      State.i2cReads n s2 (got ++ s1.hif.rdata.take 1)

/-- Bytes cut into words; the last may be short. -/
def cutWords : Nat → List Byte → List (List Byte)
  | 0, _ => []
  | n + 1, l => if l.isEmpty then [] else l.take 4 :: cutWords n (l.drop 4)

/-- The read part of a transfer: a word is fetched for every 4 bytes begun. -/
def State.i2cRead (s : State) (n : Nat) : State × Bool :=
  if n = 0 then (s, true)
  else
    let (s1, got, ok) := State.i2cReads ((n + 3) / 4) s []
    (s1.answer got, ok && n % 4 == 0)

/-- A transfer whose address is ACKed. -/
def State.i2cTransfer (s : State) (written : List Byte) (readBytes : Nat) : State :=
  let ptr := beAt written 0 4
  if !written.isEmpty && (written.length < 4 || ptr % 4 ≠ 0 || 0x4000000 ≤ ptr) then s.i2cNak
  else
    let s1 : State := if written.isEmpty then s else { s with hif := { s.hif with i2cPtr := ptr } }
    let (s2, okW) := s1.i2cWrites (cutWords (written.length / 4) (written.drop 4))
    if !okW then s2.i2cNak
    else
      let (s3, okR) := s2.i2cRead readBytes
      if okR then s3.bump Reg.HIF_I2CXFER else s3.i2cNak

/-- I2C_TRANSFER (R449). In DORMANT and in the entry window the address is NACKed (R432). -/
def execI2cTransfer (written : List Byte) (readBytes : Nat) (s : State) : Host.Outcome State Fault Refusal :=
  s.live (fun s =>
    if s.sys.mode = .dormant || s.sys.windowFrom.isSome then s
    else if !s.flag Reg.HIF_I2CCFG F.HIF_I2CCFG_EN then s.bump Reg.HIF_I2CNAK
    else s.i2cTransfer written readBytes)

/-! ### The PCIe link (R342, R440) -/

/-- The asleep timers of the host targets looked at again. -/
def State.refreshHostTargets (s : State) : State := (List.range 16).foldl (fun s k => s.refreshSleep (8 + k)) s

/-- PCIE_LINK_DOWN: host targets fall asleep. -/
def execPcieLinkDown (t : Nat) (s : State) : Host.Outcome State Fault Refusal :=
  s.liveAt t (fun s => ({ s with hif := { s.hif with linkUp := false } }).refreshHostTargets)

/-- PCIE_LINK_UP with the rate code 1-4 and the lanes it trained to. -/
def execPcieLinkUp (rate lanes : Nat) (s : State) : Host.Outcome State Fault Refusal :=
  s.live (fun s => ({ s with hif := { s.hif with linkUp := true, rate := rate, lanes := lanes } }).refreshHostTargets)

end Sys2Proof.Machine
end

