-- ==== Sys2Proof/Machine/StartUp.lean ====
section
/-!
DEFINITION. Start-up from the rising edge of RESET_N (R430, Table 21-3).
-/
namespace Sys2Proof.Machine

/-- A step that fails in BOOT: BOOTSTAT holds the step and its code, which the spec does not give: a free value. LOCKOUT follows. -/
def State.bootFail (s : State) (step : Nat) : State :=
  let (d, s1) := s.draw
  let s2 := (s1.setVal Reg.SYS_BOOTSTAT (step + Config.freeNat d % 256 * 256)).raise E.SYS 2
  (s2.enterMode .lockout 2).raise E.SYS 3

/-- The default layout of Table 22-3 (R438). -/
def layoutWrites : List (Nat × Nat) :=
  [(Reg.SNAP_SPILLBASELO, 0x00000000), (Reg.SNAP_SPILLBASEHI, 0x10), (Reg.SNAP_SPILLSIZE, 2048),
   (Reg.CAP_BASELO, 0x80000000), (Reg.CAP_BASEHI, 0x10), (Reg.CAP_SIZE, 4096),
   (Reg.LDG_FBBASELO, 0x00000000), (Reg.LDG_FBBASEHI, 0x12),
   (Reg.UPD_STAGEBASELO, 0x00000000), (Reg.UPD_STAGEBASEHI, 0x13), (Reg.UPD_STAGESIZE, 256),
   (Reg.TOPO_FACBASELO, 0x10000000), (Reg.TOPO_FACBASEHI, 0x13),
   (Reg.TOPO_EDGEBASELO, 0x11000000), (Reg.TOPO_EDGEBASEHI, 0x13),
   (Reg.DET_VRBASELO, 0x11400000), (Reg.DET_VRBASEHI, 0x13),
   (Reg.MODAL_RBASELO, 0x11800000), (Reg.MODAL_RBASEHI, 0x13),
   (Reg.NOC_CPWINBASELO, 0x00000000), (Reg.NOC_CPWINBASEHI, 0x14), (Reg.NOC_CPWINSIZE, 1024)]

/-- Registers that resident firmware sets while the device starts, RWL ones included. -/
def State.firmwareWrites (s : State) (ws : List (Nat × Nat)) : State :=
  let m := s.sys.mode
  let s1 : State := { s with sys := { s.sys with mode := .configure } }
  let s2 := ws.foldl (fun (s : State) w => s.writeBlock (.core 0) w.1 w.2) s1
  { s2 with sys := { s2.sys with mode := m } }

/-- Whether a register holds a setting: one of its fields can be written and read back. -/
def isSetting (a : Nat) : Bool :=
  match findReg a with
  | some d => d.fields.any (fun f => f.acc == .rw || f.acc == .rwl)
  | none => false

/-- The bytes of the settings area up to the last that is listed. -/
def settingsArea (cart : Mem) : List Byte :=
  let keys := (cart.filter (fun p => 0x400000 ≤ p.1 && p.1 < 0x4000000)).map (·.1)
  match keys.getLast? with
  | some k => cart.bytes 0x400000 (k + 1 - 0x400000)
  | none => []

/-- Step 5, the cartridge: attached and its journal replayed, or absent. What this device last wrote to the cartridge is what it
finds on it. -/
def State.startCart (s : State) (fitted : Option CartIdent) : State :=
  match fitted with
  | none => { s with ldg := { s.ldg with ident := none, cart := [] } }
  | some c =>
    let known := (s.ldg.ident.map (·.cid)) == some c.cid
    let c1 : CartIdent := if known then { c with content := s.ldg.cart, wear := max c.wear s.ldg.wear } else c
    let s1 : State := { s with ldg := { s.ldg with atStartup := true, wearRem := if known then s.ldg.wearRem else 0 } }
    let s2 := s1.beginAttach.readIdentity (some c1)
    if s2.ldg.cstate = .attaching then { s2 with ldg := { s2.ldg with settings := settingsArea s2.ldg.cart } }
    else { s2 with ldg := { s2.ldg with cart := [] } }

/-- Step 5, the settings: the default layout, then what the host settings of an attached cartridge set. A bank set on trial whose schema
major differs starts with defaults in a new settings generation (R418). -/
def State.startSettings (s : State) (env : StartEnv) : State :=
  let fresh := env.schemaChanged && s.upd.ctl.trial
  let s1 := s.firmwareWrites layoutWrites
  if fresh then
    let c := s1.upd.ctl
    let s2 := s1.writeCtl { c with setgen := (c.setgen + 1) % 2 ^ 32 }
    ({ s2 with upd := { s2.upd with keptGen := some c.setgen }, ldg := { s2.ldg with settings := [] } }).offer 0x2013 []
  else if s1.ldg.cstate = .attaching then s1.firmwareWrites (env.settings.filter (fun w => isSetting w.1))
  else s1

/-- Step 5: cartridge, settings, keys, energy save; the ledger record of a fallback (R417); re-seeding makes the cartridge ACTIVE. -/
def State.startStep5 (s : State) (env : StartEnv) (fell : Bool) : State :=
  let s1 := (s.startCart env.cart).startSettings env
  let s2 := if fell then s1.offer 0x2012 [] else s1
  (s2.restoreKeys.meterRestore (!s2.sys.inOrder)).reseed

/-- The transition of step 7: what BOOTCFG.TARGET asks for, where Table 21-2 and R439 allow it. -/
def State.startTarget (s : State) : State :=
  let target := s.val Reg.SYS_BOOTCFG % 16
  if target = 1 then s
  else if target = 5 then
    if 1 ≤ s.unitId && s.unitId ≤ 254 then
      (if s.layoutOk then s.enterWith .referee 2 (fun s => s.setRole .referee) else s.raise E.NOC 1)
    else s
  else if !s.lat.loaded then s
  else if s.layoutOk then s.enterMode .settle 2
  else s.raise E.NOC 1

/-- Steps 6 and 7: CONFIGURE, the lattice image of the bank set in force, and the transition that is due. -/
def State.startStep6 (s : State) (image : List Byte) : State :=
  let (s1, f) := (s.enterMode .configure 2).loadImage (if image.isEmpty then none else some image) none
  match f with
  | some _ =>
    let (d, s2) := s1.draw
    (s2.setVal Reg.SYS_BOOTSTAT (6 + Config.freeNat d % 256 * 256)).raise E.SYS 2
  | none => s1.startTarget

/-- Step 4 has loaded parser microcode and SerDes firmware: SDVER shows the SerDes part's version (R49). How ING.STAT's 16 bits show a
version of 32 is not the spec's to say: a free value. -/
def State.loadedVersions (s : State) : State :=
  let ver := (((manParts s.runManifest).find? (·.code == 6)).map (·.version)).getD 0
  let (d, s1) := (s.setVal Reg.ETH_SDVER ver).draw
  s1.setFld Reg.ING_STAT F.ING_STAT_UCODE (Config.freeNat d)

/-- Start-up as a whole. -/
def State.startUp (s : State) (env : StartEnv) : State :=
  let s1 := s.bootControl
  let fell := s1.upd.fallback
  let s2 := s1.copyTrim env.trimFailed (fun _ => 0)
  let failed := fun (step : Nat) => (if fell then s2.offer 0x2012 [] else s2).bootFail step
  if !env.bootVerified then failed 2
  else if !env.firmwareVerified then failed 4
  else
    let s3 : State := { s2 with
      sys := { s2.sys with blocksUp := true, usable := env.usableBytes }
      upd := { s2.upd with image := env.image } }
    (s3.loadedVersions.startStep5 env fell).startStep6 env.image

/-- STARTUP (R430). -/
def execStartup (t : Nat) (env : StartEnv) (s : State) : Host.Outcome State Fault Refusal :=
  s.liveAt t (fun s => if s.sys.mode = .boot && !s.sys.blocksUp then s.startUp env else s)

end Sys2Proof.Machine
end

