-- ==== Sys2Proof/Machine/Dispatch.lean ====
section
/-!
DEFINITION. One arm per command: each calls the meaning of its command.
-/
namespace Sys2Proof.Machine

def exec (i : Instr) (s : State) : Host.Outcome State Fault Refusal :=
  match i with
  | .registerWrite req addr width value => Sys2Proof.Machine.execRegisterWrite req addr width value s
  | .aonWriteArrives reg => Sys2Proof.Machine.execAonWriteArrives reg s
  | .frameReceived port ns frac frame => Sys2Proof.Machine.execFrameReceived port ns frac frame s
  | .portCtlWrite req port value receiving => Sys2Proof.Machine.execPortCtlWrite req port value receiving s
  | .linkUp t port status => Sys2Proof.Machine.execLinkUp t port status s
  | .linkDown t port receiving => Sys2Proof.Machine.execLinkDown t port receiving s
  | .preemptWrite req t port value => Sys2Proof.Machine.execPreemptWrite req t port value s
  | .verifyTExpiry t port => Sys2Proof.Machine.execVerifyTExpiry t port s
  | .respondMpacketReceived port => Sys2Proof.Machine.execRespondMpacketReceived port s
  | .expressFrameReady port eb frame sent => Sys2Proof.Machine.execExpressFrameReady port eb frame sent s
  | .frameTransmitted port ns frac => Sys2Proof.Machine.execFrameTransmitted port ns frac s
  | .txStampRead req port => Sys2Proof.Machine.execTxStampRead req port s
  | .c37DataFrame t port ecc => Sys2Proof.Machine.execC37DataFrame t port ecc s
  | .rsvSpdu t port spdu ecc => Sys2Proof.Machine.execRsvSpdu t port spdu ecc s
  | .vtdDatagram t port ecc => Sys2Proof.Machine.execVtdDatagram t port ecc s
  | .firmwarePathFrame t input => Sys2Proof.Machine.execFirmwarePathFrame t input s
  | .fragmentTimeout t => Sys2Proof.Machine.execFragmentTimeout t s
  | .configurationFrame t stream desc => Sys2Proof.Machine.execConfigurationFrame t stream desc s
  | .gdoiKeyBind keyId slot => Sys2Proof.Machine.execGdoiKeyBind keyId slot s
  | .sourceAdd h entry count => Sys2Proof.Machine.execSourceAdd h entry count s
  | .sourceRemove h entry count => Sys2Proof.Machine.execSourceRemove h entry count s
  | .sourceRemoveDrained t tag => Sys2Proof.Machine.execSourceRemoveDrained t tag s
  | .incriWrite req value => Sys2Proof.Machine.execIncriWrite req value s
  | .incrementCommit => Sys2Proof.Machine.execIncrementCommit s
  | .stepcmd req value => Sys2Proof.Machine.execStepcmd req value s
  | .stepApply => Sys2Proof.Machine.execStepApply s
  | .nowRead req count64 => Sys2Proof.Machine.execNowRead req count64 s
  | .leapSecondApply t => Sys2Proof.Machine.execLeapSecondApply t s
  | .ptpMessage t msg => Sys2Proof.Machine.execPtpMessage t msg s
  | .irigFrame t frame => Sys2Proof.Machine.execIrigFrame t frame s
  | .holdoverUpdate t est => Sys2Proof.Machine.execHoldoverUpdate t est s
  | .tbPllUnlock t => Sys2Proof.Machine.execTbPllUnlock t s
  | .timeEcho t cycles => Sys2Proof.Machine.execTimeEcho t cycles s
  | .tileCompareFire tile target cycles => Sys2Proof.Machine.execTileCompareFire tile target cycles s
  | .cmpTargetWrite req ch value => Sys2Proof.Machine.execCmpTargetWrite req ch value s
  | .cmpCtlWrite req ch value => Sys2Proof.Machine.execCmpCtlWrite req ch value s
  | .compareFire t frac => Sys2Proof.Machine.execCompareFire t frac s
  | .tpoPulseEnd t output => Sys2Proof.Machine.execTpoPulseEnd t output s
  | .tdcEdge input t frac rising => Sys2Proof.Machine.execTdcEdge input t frac rising s
  | .tdcStampRead req input => Sys2Proof.Machine.execTdcStampRead req input s
  | .snapshotOpen t sc => Sys2Proof.Machine.execSnapshotOpen t sc s
  | .finalRelease t sc eccSlots => Sys2Proof.Machine.execFinalRelease t sc eccSlots s
  | .amendHorizon t sc => Sys2Proof.Machine.execAmendHorizon t sc s
  | .promotionComplete t sc => Sys2Proof.Machine.execPromotionComplete t sc s
  | .snapSubscribe h base size classes form kinds queue => Sys2Proof.Machine.execSnapSubscribe h base size classes form kinds queue s
  | .snapUnsubscribe h index => Sys2Proof.Machine.execSnapUnsubscribe h index s
  | .lastRead req sc => Sys2Proof.Machine.execLastRead req sc s
  | .provisionalRelease t sc => Sys2Proof.Machine.execProvisionalRelease t sc s
  | .pinHoldExpiry t channel => Sys2Proof.Machine.execPinHoldExpiry t channel s
  | .debtLeak t => Sys2Proof.Machine.execDebtLeak t s
  | .levelRelax t sc => Sys2Proof.Machine.execLevelRelax t sc s
  | .levelWrite req sc value => Sys2Proof.Machine.execLevelWrite req sc value s
  | .weightWrite req value => Sys2Proof.Machine.execWeightWrite req value s
  | .topologyTick t => Sys2Proof.Machine.execTopologyTick t s
  | .splitRecomputeDone t => Sys2Proof.Machine.execSplitRecomputeDone t s
  | .aggregationPass t eccRows => Sys2Proof.Machine.execAggregationPass t eccRows s
  | .aggregationPassComplete t => Sys2Proof.Machine.execAggregationPassComplete t s
  | .topoEdit h addr count => Sys2Proof.Machine.execTopoEdit h addr count s
  | .cohereComplete t sc prov => Sys2Proof.Machine.execCohereComplete t sc prov s
  | .verdictReady t sc prov => Sys2Proof.Machine.execVerdictReady t sc prov s
  | .detTcmdWrite req => Sys2Proof.Machine.execDetTcmdWrite req s
  | .detTcmdRead req => Sys2Proof.Machine.execDetTcmdRead req s
  | .bankCopyComplete t modal => Sys2Proof.Machine.execBankCopyComplete t modal s
  | .modalUpdateReady t group band => Sys2Proof.Machine.execModalUpdateReady t group band s
  | .growthHit t group band => Sys2Proof.Machine.execGrowthHit t group band s
  | .modalTcmdWrite req => Sys2Proof.Machine.execModalTcmdWrite req s
  | .modalTcmdRead req => Sys2Proof.Machine.execModalTcmdRead req s
  | .almAck h mask => Sys2Proof.Machine.execAlmAck h mask s
  | .minonExpiry t pin => Sys2Proof.Machine.execMinonExpiry t pin s
  | .overloadDetect t pin => Sys2Proof.Machine.execOverloadDetect t pin s
  | .dinChange t input closed => Sys2Proof.Machine.execDinChange t input closed s
  | .gooseRepeat t publication => Sys2Proof.Machine.execGooseRepeat t publication s
  | .noticeRefresh t => Sys2Proof.Machine.execNoticeRefresh t s
  | .alcConfigWrite req channel reg value => Sys2Proof.Machine.execAlcConfigWrite req channel reg value s
  | .modPllUnlock t => Sys2Proof.Machine.execModPllUnlock t s
  | .modPllRelock t frac => Sys2Proof.Machine.execModPllRelock t frac s
  | .modulatorOverload t ch => Sys2Proof.Machine.execModulatorOverload t ch s
  | .modulatorSettled t ch => Sys2Proof.Machine.execModulatorSettled t ch s
  | .rstart req t frac => Sys2Proof.Machine.execRstart req t frac s
  | .istart req t frac => Sys2Proof.Machine.execIstart req t frac s
  | .rstop req t => Sys2Proof.Machine.execRstop req t s
  | .auxConversionEnd t frac vin => Sys2Proof.Machine.execAuxConversionEnd t frac vin s
  | .auxdataRead req => Sys2Proof.Machine.execAuxdataRead req s
  | .trimReload src => Sys2Proof.Machine.execTrimReload src s
  | .trimCopyEnd t frac failed => Sys2Proof.Machine.execTrimCopyEnd t frac failed s
  | .filterSample ch bits stamp period => Sys2Proof.Machine.execFilterSample ch bits stamp period s
  | .swap req value => Sys2Proof.Machine.execSwap req value s
  | .fltBankSwapApply t => Sys2Proof.Machine.execFltBankSwapApply t s
  | .coefficientAccess req write => Sys2Proof.Machine.execCoefficientAccess req write s
  | .ptrimWrite req ch value => Sys2Proof.Machine.execPtrimWrite req ch value s
  | .decsync src t frac => Sys2Proof.Machine.execDecsync src t frac s
  | .localPhasorPlace t inst => Sys2Proof.Machine.execLocalPhasorPlace t inst s
  | .meterCycleRegister t cyc => Sys2Proof.Machine.execMeterCycleRegister t cyc s
  | .pulseStart t output => Sys2Proof.Machine.execPulseStart t output s
  | .pulseEnd t output => Sys2Proof.Machine.execPulseEnd t output s
  | .saveInstant t => Sys2Proof.Machine.execSaveInstant t s
  | .saveWriteComplete t refused => Sys2Proof.Machine.execSaveWriteComplete t refused s
  | .cycloRead req => Sys2Proof.Machine.execCycloRead req s
  | .clrcmd req value => Sys2Proof.Machine.execClrcmd req value s
  | .capArm h mask => Sys2Proof.Machine.execCapArm h mask s
  | .capRead h buf addr size ecc => Sys2Proof.Machine.execCapRead h buf addr size ecc s
  | .capStop req value => Sys2Proof.Machine.execCapStop req value s
  | .capRelease req value => Sys2Proof.Machine.execCapRelease req value s
  | .hosttrig req value t frac => Sys2Proof.Machine.execHosttrig req value t frac s
  | .captureTrigger t buf => Sys2Proof.Machine.execCaptureTrigger t buf s
  | .maskAccess req write => Sys2Proof.Machine.execMaskAccess req write s
  | .archiveWriteEnd t buf refused => Sys2Proof.Machine.execArchiveWriteEnd t buf refused s
  | .imageLoad h source addr length readable mismatch => Sys2Proof.Machine.execImageLoad h source addr length readable mismatch s
  | .flush req value => Sys2Proof.Machine.execFlush req value s
  | .ctrlItemEnqueue t queue waited => Sys2Proof.Machine.execCtrlItemEnqueue t queue waited s
  | .latticeSwap req value => Sys2Proof.Machine.execLatticeSwap req value s
  | .swapClassTimeout t sc => Sys2Proof.Machine.execSwapClassTimeout t sc s
  | .tileFault t tile => Sys2Proof.Machine.execTileFault t tile s
  | .accessFault core addr write => Sys2Proof.Machine.execAccessFault core addr write s
  | .busError core addr ecc => Sys2Proof.Machine.execBusError core addr ecc s
  | .wait core pwrmode => Sys2Proof.Machine.execWait core pwrmode s
  | .warmStart core => Sys2Proof.Machine.execWarmStart core s
  | .ready req value => Sys2Proof.Machine.execReady req value s
  | .delay req value => Sys2Proof.Machine.execDelay req value s
  | .cancel req value ticks others => Sys2Proof.Machine.execCancel req value ticks others s
  | .next req => Sys2Proof.Machine.execNext req s
  | .done req value => Sys2Proof.Machine.execDone req value s
  | .yield req value => Sys2Proof.Machine.execYield req value s
  | .dispatcherTick count => Sys2Proof.Machine.execDispatcherTick count s
  | .eventEdge src info => Sys2Proof.Machine.execEventEdge src info s
  | .recordPost target writeFails => Sys2Proof.Machine.execRecordPost target writeFails s
  | .claim req target => Sys2Proof.Machine.execClaim req target s
  | .tgtDone req target value => Sys2Proof.Machine.execTgtDone req target value s
  | .tgtReset req target value => Sys2Proof.Machine.execTgtReset req target value s
  | .swset req value => Sys2Proof.Machine.execSwset req value s
  | .swclr req value => Sys2Proof.Machine.execSwclr req value s
  | .rerouteExpiry t target => Sys2Proof.Machine.execRerouteExpiry t target s
  | .helloReceived t hdr body => Sys2Proof.Machine.execHelloReceived t hdr body s
  | .heartbeatSend t => Sys2Proof.Machine.execHeartbeatSend t s
  | .heartbeatReceived t hdr body => Sys2Proof.Machine.execHeartbeatReceived t hdr body s
  | .refereeEvaluate t => Sys2Proof.Machine.execRefereeEvaluate t s
  | .promote t hdr epoch failed => Sys2Proof.Machine.execPromote t hdr epoch failed s
  | .depose t hdr active => Sys2Proof.Machine.execDepose t hdr active s
  | .fenceTExpiry t => Sys2Proof.Machine.execFenceTExpiry t s
  | .unfence t hdr => Sys2Proof.Machine.execUnfence t hdr s
  | .chordLost t => Sys2Proof.Machine.execChordLost t s
  | .laneDown lane => Sys2Proof.Machine.execLaneDown lane s
  | .digest t hdr body => Sys2Proof.Machine.execDigest t hdr body s
  | .provdig t hdr body => Sys2Proof.Machine.execProvdig t hdr body s
  | .missreq t hdr sc seq members => Sys2Proof.Machine.execMissreq t hdr sc seq members s
  | .mirror t hdr sc seq member slot => Sys2Proof.Machine.execMirror t hdr sc seq member slot s
  | .mirwaitExpiry t sc seq => Sys2Proof.Machine.execMirwaitExpiry t sc seq s
  | .delta t hdr deltaSeq body => Sys2Proof.Machine.execDelta t hdr deltaSeq body s
  | .syncreq t hdr => Sys2Proof.Machine.execSyncreq t hdr s
  | .statePart t hdr part items => Sys2Proof.Machine.execStatePart t hdr part items s
  | .syncdone t hdr seqs => Sys2Proof.Machine.execSyncdone t hdr seqs s
  | .switchover h => Sys2Proof.Machine.execSwitchover h s
  | .switchback h => Sys2Proof.Machine.execSwitchback h s
  | .switchMsg t hdr instant => Sys2Proof.Machine.execSwitchMsg t hdr instant s
  | .handoverInstant t => Sys2Proof.Machine.execHandoverInstant t s
  | .ledgerAccept h => Sys2Proof.Machine.execLedgerAccept h s
  | .ledgerEject h => Sys2Proof.Machine.execLedgerEject h s
  | .identityPoll t answered => Sys2Proof.Machine.execIdentityPoll t answered s
  | .identityRead t resp => Sys2Proof.Machine.execIdentityRead t resp s
  | .reseedComplete t => Sys2Proof.Machine.execReseedComplete t s
  | .sealCommitted t => Sys2Proof.Machine.execSealCommitted t s
  | .ejectTExpiry t => Sys2Proof.Machine.execEjectTExpiry t s
  | .lcPwrOvercurrent t => Sys2Proof.Machine.execLcPwrOvercurrent t s
  | .recordOffer type payload => Sys2Proof.Machine.execRecordOffer type payload s
  | .commitTExpiry t => Sys2Proof.Machine.execCommitTExpiry t s
  | .pageCommit t refused => Sys2Proof.Machine.execPageCommit t refused s
  | .rdcmd req value => Sys2Proof.Machine.execRdcmd req value s
  | .readCopyDone => Sys2Proof.Machine.execReadCopyDone s
  | .keyUpdate h addr len => Sys2Proof.Machine.execKeyUpdate h addr len s
  | .updateBegin h mode addr len => Sys2Proof.Machine.execUpdateBegin h mode addr len s
  | .relayHello hdr lowest highest mac => Sys2Proof.Machine.execRelayHello hdr lowest highest mac s
  | .manifest t hdr payload => Sys2Proof.Machine.execManifest t hdr payload s
  | .block t hdr payload => Sys2Proof.Machine.execBlock t hdr payload s
  | .nakTimer t block => Sys2Proof.Machine.execNakTimer t block s
  | .nak hdr missing => Sys2Proof.Machine.execNak hdr missing s
  | .report hdr payload => Sys2Proof.Machine.execReport hdr payload s
  | .abort src => Sys2Proof.Machine.execAbort src s
  | .storeComplete t flashError => Sys2Proof.Machine.execStoreComplete t flashError s
  | .activate h => Sys2Proof.Machine.execActivate h s
  | .trialExpiry t => Sys2Proof.Machine.execTrialExpiry t s
  | .selfok t loaded settingsParse => Sys2Proof.Machine.execSelfok t loaded settingsParse s
  | .healthConfirm h => Sys2Proof.Machine.execHealthConfirm h s
  | .modeSet h target => Sys2Proof.Machine.execModeSet h target s
  | .settleExit t => Sys2Proof.Machine.execSettleExit t s
  | .settlemaxExpiry t => Sys2Proof.Machine.execSettlemaxExpiry t s
  | .timeSourceLost t => Sys2Proof.Machine.execTimeSourceLost t s
  | .timeSourceReturn t offsetNs => Sys2Proof.Machine.execTimeSourceReturn t offsetNs s
  | .lockout t => Sys2Proof.Machine.execLockout t s
  | .dormantEntry t => Sys2Proof.Machine.execDormantEntry t s
  | .i2cAddressMatch t addr => Sys2Proof.Machine.execI2cAddressMatch t addr s
  | .wakeN t low => Sys2Proof.Machine.execWakeN t low s
  | .aonAlarm t count => Sys2Proof.Machine.execAonAlarm t count s
  | .wake t => Sys2Proof.Machine.execWake t s
  | .powerOnReset => Sys2Proof.Machine.execPowerOnReset s
  | .resetPin => Sys2Proof.Machine.execResetPin s
  | .devrst req value => Sys2Proof.Machine.execDevrst req value s
  | .watchdogExpiry t => Sys2Proof.Machine.execWatchdogExpiry t s
  | .wdkick req value => Sys2Proof.Machine.execWdkick req value s
  | .startup t env => Sys2Proof.Machine.execStartup t env s
  | .supplyFail => Sys2Proof.Machine.execSupplyFail s
  | .pciePerst t => Sys2Proof.Machine.execPciePerst t s
  | .commandDoorbell req value => Sys2Proof.Machine.execCommandDoorbell req value s
  | .completionWrite writeFails => Sys2Proof.Machine.execCompletionWrite writeFails s
  | .nop h => Sys2Proof.Machine.execNop h s
  | .drvverWrite req value => Sys2Proof.Machine.execDrvverWrite req value s
  | .bar2Write offset data => Sys2Proof.Machine.execBar2Write offset data s
  | .i2cTransfer written readBytes => Sys2Proof.Machine.execI2cTransfer written readBytes s
  | .rcCounterRead req addr coincident => Sys2Proof.Machine.execRcCounterRead req addr coincident s
  | .pcieLinkDown t => Sys2Proof.Machine.execPcieLinkDown t s
  | .pcieLinkUp rate lanes => Sys2Proof.Machine.execPcieLinkUp rate lanes s
  | .chordLaneUp lane => Sys2Proof.Machine.execChordLaneUp lane s
  | .refereeLost t => Sys2Proof.Machine.execRefereeLost t s
  | .activePartnerTimeout t => Sys2Proof.Machine.execActivePartnerTimeout t s
  | .tbPllLock t => Sys2Proof.Machine.execTbPllLock t s
  | .alignmentException core => Sys2Proof.Machine.execAlignmentException core s
  | .illegalInstruction core => Sys2Proof.Machine.execIllegalInstruction core s
  | .imaskWrite core value => Sys2Proof.Machine.execImaskWrite core value s

end Sys2Proof.Machine
end

