-- ==== Sys2Proof/Machine/Step.lean ====
section
/-!
DEFINITION. One step: the command at the front of the queue, or what the clocks do while none waits.
-/
namespace Sys2Proof.Machine

/-- What one TB tick of 4 ns does while no command waits: time moves on, running tiles take items from their queues, an image load in
progress runs to its end, a restart that is due takes place, and commands that wait in the ring are taken. -/
def State.idle (s : State) : State := (((s.tbTick).drainQueues.finishLoad).restartIfDue).pumpCmds

/-- The queue with its front command taken off. -/
def State.withPending (s : State) (q : List Instr) : State := { s with pending := q }

def step (s : State) : Host.Outcome State Fault Refusal :=
  match s.pending with
  | [] => s.live State.idle
  | c :: rest => exec c (s.withPending rest)

/-- The state with the command that a word spells put at the front of its queue. -/
def State.withFetchWord (s : State) (nbits w : Nat) : State :=
  match Sys2Proof.decodeTableWord nbits w with
  | some c => s.withPending (c :: s.pending)
  | none => s

end Sys2Proof.Machine
end

