-- ==== Sys2Proof/WellFormed.lean ====
section
/-!
DEFINITION. Which commands are well formed: every operand within what its field, index or address can hold.
-/
namespace Sys2Proof

/-- A core's number, and how many cores there are; the host and I2C carry no number. -/
def Requester.bound : Requester → Nat × Nat
  | .core k => (k, 8)
  | .host => (0, 1)
  | .i2c => (0, 1)

/-- The operands of a command that are numbers with a bound, each with its bound. -/
def Instr.bounds : Instr → List (Nat × Nat)
  | .registerWrite req addr width value => [req.bound, (addr, 2 ^ 40), (width, 9), (value, 2 ^ 32)]
  | .aonWriteArrives _ => []
  | .frameReceived port _ frac _ => [(port, 8), (frac, 16)]
  | .portCtlWrite req port value _ => [req.bound, (port, 8), (value, 2 ^ 32)]
  | .linkUp _ port status => [(port, 8), (status, 2 ^ 32)]
  | .linkDown _ port _ => [(port, 8)]
  | .preemptWrite req _ port value => [req.bound, (port, 8), (value, 2 ^ 32)]
  | .verifyTExpiry _ port => [(port, 8)]
  | .respondMpacketReceived port => [(port, 8)]
  | .expressFrameReady port _ _ _ => [(port, 8)]
  | .frameTransmitted port _ frac => [(port, 8), (frac, 16)]
  | .txStampRead req port => [req.bound, (port, 8)]
  | .c37DataFrame _ port _ => [(port, 8)]
  | .rsvSpdu _ port _ _ => [(port, 8)]
  | .vtdDatagram _ port _ => [(port, 8)]
  | .firmwarePathFrame _ _ => []
  | .fragmentTimeout _ => []
  | .configurationFrame _ _ _ => []
  | .gdoiKeyBind keyId slot => [(keyId, 2 ^ 32), (slot, 256)]
  | .sourceAdd h _ count => [(h.tag, 2 ^ 32), (count, 2 ^ 64)]
  | .sourceRemove h _ count => [(h.tag, 2 ^ 32), (count, 2 ^ 64)]
  | .sourceRemoveDrained _ tag => [(tag, 2 ^ 32)]
  | .incriWrite req value => [req.bound, (value, 2 ^ 32)]
  | .incrementCommit => []
  | .stepcmd req value => [req.bound, (value, 2 ^ 32)]
  | .stepApply => []
  | .nowRead req _ => [req.bound]
  | .leapSecondApply _ => []
  | .ptpMessage _ _ => []
  | .irigFrame _ _ => []
  | .holdoverUpdate _ _ => []
  | .tbPllUnlock _ => []
  | .timeEcho _ _ => []
  | .tileCompareFire tile target _ => [(tile, 256), (target, 2 ^ 32)]
  | .cmpTargetWrite req ch value => [req.bound, (ch, 32), (value, 2 ^ 32)]
  | .cmpCtlWrite req ch value => [req.bound, (ch, 32), (value, 2 ^ 32)]
  | .compareFire _ frac => [(frac, 2 ^ 24)]
  | .tpoPulseEnd _ output => [(output, 8)]
  | .tdcEdge input _ frac _ => [(input, 8), (frac, 128)]
  | .tdcStampRead req input => [req.bound, (input, 8)]
  | .snapshotOpen _ sc => [(sc, 8)]
  | .finalRelease _ sc _ => [(sc, 8)]
  | .amendHorizon _ sc => [(sc, 8)]
  | .promotionComplete _ sc => [(sc, 8)]
  | .snapSubscribe h base size classes form kinds queue => [(h.tag, 2 ^ 32), (base, 2 ^ 64), (size, 2 ^ 17), (classes, 256), (form, 4), (kinds, 8), (queue, 32)]
  | .snapUnsubscribe h index => [(h.tag, 2 ^ 32), (index, 16)]
  | .lastRead req sc => [req.bound, (sc, 8)]
  | .provisionalRelease _ sc => [(sc, 8)]
  | .pinHoldExpiry _ channel => [(channel, 64)]
  | .debtLeak _ => []
  | .levelRelax _ sc => [(sc, 8)]
  | .levelWrite req sc value => [req.bound, (sc, 8), (value, 2 ^ 32)]
  | .weightWrite req value => [req.bound, (value, 2 ^ 32)]
  | .topologyTick _ => []
  | .splitRecomputeDone _ => []
  | .aggregationPass _ _ => []
  | .aggregationPassComplete _ => []
  | .topoEdit h addr count => [(h.tag, 2 ^ 32), (addr, 2 ^ 64), (count, 2 ^ 64)]
  | .cohereComplete _ sc _ => [(sc, 8)]
  | .verdictReady _ sc _ => [(sc, 8)]
  | .detTcmdWrite req => [req.bound]
  | .detTcmdRead req => [req.bound]
  | .bankCopyComplete _ _ => []
  | .modalUpdateReady _ group band => [(group, 64), (band, 4)]
  | .growthHit _ group band => [(group, 64), (band, 4)]
  | .modalTcmdWrite req => [req.bound]
  | .modalTcmdRead req => [req.bound]
  | .almAck h mask => [(h.tag, 2 ^ 32), (mask, 2 ^ 64)]
  | .minonExpiry _ pin => [(pin, 16)]
  | .overloadDetect _ pin => [(pin, 16)]
  | .dinChange _ input _ => [(input, 16)]
  | .gooseRepeat _ publication => [(publication, 8)]
  | .noticeRefresh _ => []
  | .alcConfigWrite req channel _ value => [req.bound, (channel, 64), (value, 2 ^ 32)]
  | .modPllUnlock _ => []
  | .modPllRelock _ frac => [(frac, 128)]
  | .modulatorOverload _ ch => [(ch, 8)]
  | .modulatorSettled _ ch => [(ch, 8)]
  | .rstart req _ frac => [req.bound, (frac, 128)]
  | .istart req _ frac => [req.bound, (frac, 128)]
  | .rstop req _ => [req.bound]
  | .auxConversionEnd _ frac _ => [(frac, 128)]
  | .auxdataRead req => [req.bound]
  | .trimReload _ => []
  | .trimCopyEnd _ frac _ => [(frac, 128)]
  | .filterSample ch _ _ _ => [(ch, 8)]
  | .swap req value => [req.bound, (value, 2 ^ 32)]
  | .fltBankSwapApply _ => []
  | .coefficientAccess req _ => [req.bound]
  | .ptrimWrite req ch value => [req.bound, (ch, 8), (value, 2 ^ 32)]
  | .decsync _ _ frac => [(frac, 128)]
  | .localPhasorPlace _ _ => []
  | .meterCycleRegister _ _ => []
  | .pulseStart _ output => [(output, 4)]
  | .pulseEnd _ output => [(output, 4)]
  | .saveInstant _ => []
  | .saveWriteComplete _ _ => []
  | .cycloRead req => [req.bound]
  | .clrcmd req value => [req.bound, (value, 2 ^ 32)]
  | .capArm h mask => [(h.tag, 2 ^ 32), (mask, 2 ^ 16)]
  | .capRead h buf addr size _ => [(h.tag, 2 ^ 32), (buf, 16), (addr, 2 ^ 64), (size, 2 ^ 64)]
  | .capStop req value => [req.bound, (value, 2 ^ 32)]
  | .capRelease req value => [req.bound, (value, 2 ^ 32)]
  | .hosttrig req value _ frac => [req.bound, (value, 2 ^ 32), (frac, 128)]
  | .captureTrigger _ buf => [(buf, 16)]
  | .maskAccess req _ => [req.bound]
  | .archiveWriteEnd _ buf _ => [(buf, 16)]
  | .imageLoad h source addr length _ _ => [(h.tag, 2 ^ 32), (source, 4), (addr, 2 ^ 64), (length, 2 ^ 64)]
  | .flush req value => [req.bound, (value, 2 ^ 32)]
  | .ctrlItemEnqueue _ queue _ => [(queue, 1024)]
  | .latticeSwap req value => [req.bound, (value, 2 ^ 32)]
  | .swapClassTimeout _ sc => [(sc, 8)]
  | .tileFault _ tile => [(tile, 256)]
  | .accessFault core addr _ => [(core, 8), (addr, 2 ^ 40)]
  | .busError core addr _ => [(core, 8), (addr, 2 ^ 40)]
  | .wait core pwrmode => [(core, 8), (pwrmode, 32)]
  | .warmStart core => [(core, 8)]
  | .ready req value => [req.bound, (value, 2 ^ 32)]
  | .delay req value => [req.bound, (value, 2 ^ 32)]
  | .cancel req value _ _ => [req.bound, (value, 2 ^ 32)]
  | .next req => [req.bound]
  | .done req value => [req.bound, (value, 2 ^ 32)]
  | .yield req value => [req.bound, (value, 2 ^ 32)]
  | .dispatcherTick _ => []
  | .eventEdge src info => [(src, 4096), (info, 2 ^ 32)]
  | .recordPost target _ => [(target, 24)]
  | .claim req target => [req.bound, (target, 24)]
  | .tgtDone req target value => [req.bound, (target, 24), (value, 2 ^ 32)]
  | .tgtReset req target value => [req.bound, (target, 24), (value, 2 ^ 32)]
  | .swset req value => [req.bound, (value, 2 ^ 32)]
  | .swclr req value => [req.bound, (value, 2 ^ 32)]
  | .rerouteExpiry _ target => [(target, 24)]
  | .helloReceived _ hdr _ => [(hdr.unitId, 256)]
  | .heartbeatSend _ => []
  | .heartbeatReceived _ hdr _ => [(hdr.unitId, 256)]
  | .refereeEvaluate _ => []
  | .promote _ hdr epoch failed => [(hdr.unitId, 256), (epoch, 2 ^ 32), (failed, 256)]
  | .depose _ hdr active => [(hdr.unitId, 256), (active, 256)]
  | .fenceTExpiry _ => []
  | .unfence _ hdr => [(hdr.unitId, 256)]
  | .chordLost _ => []
  | .laneDown lane => [(lane, 2)]
  | .digest _ hdr _ => [(hdr.unitId, 256)]
  | .provdig _ hdr _ => [(hdr.unitId, 256)]
  | .missreq _ hdr sc seq _ => [(hdr.unitId, 256), (sc, 8), (seq, 2 ^ 32)]
  | .mirror _ hdr sc seq member _ => [(hdr.unitId, 256), (sc, 8), (seq, 2 ^ 32), (member, 1024)]
  | .mirwaitExpiry _ sc seq => [(sc, 8), (seq, 2 ^ 32)]
  | .delta _ hdr deltaSeq _ => [(hdr.unitId, 256), (deltaSeq, 2 ^ 32)]
  | .syncreq _ hdr => [(hdr.unitId, 256)]
  | .statePart _ hdr _ _ => [(hdr.unitId, 256)]
  | .syncdone _ hdr _ => [(hdr.unitId, 256)]
  | .switchover h => [(h.tag, 2 ^ 32)]
  | .switchback h => [(h.tag, 2 ^ 32)]
  | .switchMsg _ hdr _ => [(hdr.unitId, 256)]
  | .handoverInstant _ => []
  | .ledgerAccept h => [(h.tag, 2 ^ 32)]
  | .ledgerEject h => [(h.tag, 2 ^ 32)]
  | .identityPoll _ _ => []
  | .identityRead _ _ => []
  | .reseedComplete _ => []
  | .sealCommitted _ => []
  | .ejectTExpiry _ => []
  | .lcPwrOvercurrent _ => []
  | .recordOffer type _ => [(type, 2 ^ 15)]
  | .commitTExpiry _ => []
  | .pageCommit _ _ => []
  | .rdcmd req value => [req.bound, (value, 2 ^ 32)]
  | .readCopyDone => []
  | .keyUpdate h addr len => [(h.tag, 2 ^ 32), (addr, 2 ^ 64), (len, 2 ^ 64)]
  | .updateBegin h mode addr len => [(h.tag, 2 ^ 32), (mode, 2), (addr, 2 ^ 64), (len, 2 ^ 64)]
  | .relayHello hdr _ _ _ => [(hdr.pos, 64)]
  | .manifest _ hdr _ => [(hdr.pos, 64)]
  | .block _ hdr _ => [(hdr.pos, 64)]
  | .nakTimer _ _ => []
  | .nak hdr _ => [(hdr.pos, 64)]
  | .report hdr _ => [(hdr.pos, 64)]
  | .abort _ => []
  | .storeComplete _ _ => []
  | .activate h => [(h.tag, 2 ^ 32)]
  | .trialExpiry _ => []
  | .selfok _ _ _ => []
  | .healthConfirm h => [(h.tag, 2 ^ 32)]
  | .modeSet h target => [(h.tag, 2 ^ 32), (target, 16)]
  | .settleExit _ => []
  | .settlemaxExpiry _ => []
  | .timeSourceLost _ => []
  | .timeSourceReturn _ _ => []
  | .lockout _ => []
  | .dormantEntry _ => []
  | .i2cAddressMatch _ addr => [(addr, 128)]
  | .wakeN _ _ => []
  | .aonAlarm _ count => [(count, 2 ^ 48)]
  | .wake _ => []
  | .powerOnReset => []
  | .resetPin => []
  | .devrst req value => [req.bound, (value, 2 ^ 32)]
  | .watchdogExpiry _ => []
  | .wdkick req value => [req.bound, (value, 2 ^ 32)]
  | .startup _ _ => []
  | .supplyFail => []
  | .pciePerst _ => []
  | .commandDoorbell req value => [req.bound, (value, 2 ^ 32)]
  | .completionWrite _ => []
  | .nop h => [(h.tag, 2 ^ 32)]
  | .drvverWrite req value => [req.bound, (value, 2 ^ 32)]
  | .bar2Write offset _ => [(offset, 2 ^ 36)]
  | .i2cTransfer _ _ => []
  | .rcCounterRead req addr coincident => [req.bound, (addr, 2 ^ 40), (coincident, 2 ^ 32)]
  | .pcieLinkDown _ => []
  | .pcieLinkUp rate lanes => [(rate, 8), (lanes, 8)]
  | .chordLaneUp lane => [(lane, 2)]
  | .refereeLost _ => []
  | .activePartnerTimeout _ => []
  | .tbPllLock _ => []
  | .alignmentException core => [(core, 8)]
  | .illegalInstruction core => [(core, 8)]
  | .imaskWrite core value => [(core, 8), (value, 2 ^ 32)]

/-- Whether every bounded operand lies below its bound. -/
def Instr.wf (i : Instr) : Bool := i.bounds.all (fun p => decide (p.1 < p.2))

end Sys2Proof
end

