-- ==== Sys2Proof/Safety.lean ====
section
/-!
DEFINITION. What counts as a sound state and a safe run, and what a step leaves alone, in the terms the claims use.
-/
namespace Sys2Proof.Machine

/-- Register file, device memory and host memory in canonical form, so that equal contents are equal data. -/
def State.wf (s : State) : Prop := twf resetOf s.regs = true ∧ s.devMem.wf ∧ s.hostMem.wf

/-- The supplies hold (R435). -/
def State.powered (s : State) : Prop := s.supplyOk = true

/-- A run of `n` steps that stops at no fault and at no refusal. -/
def safeRun (n : Nat) (s : State) : Prop := ∃ t, Sys2Proof.core.run n s = .next t

/-- A requester may write `v` to the register at `a`: a customer-partition core within what R323 leaves it, and the block on. -/
def State.mayWrite (s : State) (req : Requester) (a v : Nat) : Prop :=
  (match req with
    | .core k => s.mayAccess k a v true = true
    | _ => True) ∧ s.isOff a = false

/-- A requester may read the register at `a`. -/
def State.mayRead (s : State) (req : Requester) (a : Nat) : Prop :=
  (match req with
    | .core k => s.mayAccess k a 0 false = true
    | _ => True) ∧ s.isOff a = false

/-- The parts of the state beside the registers. -/
inductive Piece where
  | devMem | hostMem | now | sys | tb | eth | ing | snap | topo | det | modal | alm | afe | flt | mtr | cap | lat | cores | tsk | evc | chd | ldg | key | upd | hif | supplyOk | free | pending
  deriving DecidableEq, Repr

/-- A part is the same in both states. -/
def Piece.same (s t : State) : Piece → Prop
  | .devMem => t.devMem = s.devMem
  | .hostMem => t.hostMem = s.hostMem
  | .now => t.now = s.now
  | .sys => t.sys = s.sys
  | .tb => t.tb = s.tb
  | .eth => t.eth = s.eth
  | .ing => t.ing = s.ing
  | .snap => t.snap = s.snap
  | .topo => t.topo = s.topo
  | .det => t.det = s.det
  | .modal => t.modal = s.modal
  | .alm => t.alm = s.alm
  | .afe => t.afe = s.afe
  | .flt => t.flt = s.flt
  | .mtr => t.mtr = s.mtr
  | .cap => t.cap = s.cap
  | .lat => t.lat = s.lat
  | .cores => t.cores = s.cores
  | .tsk => t.tsk = s.tsk
  | .evc => t.evc = s.evc
  | .chd => t.chd = s.chd
  | .ldg => t.ldg = s.ldg
  | .key => t.key = s.key
  | .upd => t.upd = s.upd
  | .hif => t.hif = s.hif
  | .supplyOk => t.supplyOk = s.supplyOk
  | .free => t.free = s.free
  | .pending => t.pending = s.pending

/-- The blocks that have a register window (Table 22-1). -/
inductive Blk where
  | SYS | TB | ETH | ING | SNAP | TOPO | DET | MODAL | ALM | AFE | FLT | MTR | CAP | LAT | EVC | TSK | CHD | LDG | KEY | UPD | HIF | NOC
  deriving DecidableEq, Repr

/-- The number of a block's window of 1 MiB, counted from 0x1000_0000. -/
def Blk.no : Blk → Nat
  | .SYS => 0
  | .TB => 1
  | .ETH => 2
  | .ING => 3
  | .SNAP => 4
  | .TOPO => 5
  | .DET => 6
  | .MODAL => 7
  | .ALM => 8
  | .AFE => 9
  | .FLT => 10
  | .MTR => 11
  | .CAP => 12
  | .LAT => 13
  | .EVC => 14
  | .TSK => 15
  | .CHD => 16
  | .LDG => 17
  | .KEY => 18
  | .UPD => 19
  | .HIF => 20
  | .NOC => 21

/-- The block whose window holds a register address. -/
def blkAt (a : Nat) : Nat := a / 0x100000 - 0x100

/-- Nothing differs but the parts `ps` and registers of the blocks `bs`: every other part is the same, and every register of every other
window holds what it held. -/
def Frame (ps : List Piece) (bs : List Blk) (s t : State) : Prop :=
  (∀ p, p ∉ ps → p.same s t) ∧
  ∀ a, 0x10000000 ≤ a → a < 0x11600000 → blkAt a ∉ bs.map Blk.no → t.reg a = s.reg a

/-- Every register but those at the addresses `as` holds what it held. -/
def RegsBut (as : List Nat) (s t : State) : Prop := ∀ a, a ∉ as → t.reg a = s.reg a

/-- Every byte of device memory outside the `n` bytes from `a` holds what it held. -/
def DevBut (a n : Nat) (s t : State) : Prop := ∀ x, (x < a ∨ a + n ≤ x) → t.devMem.byte x = s.devMem.byte x

/-- Every byte of host memory outside the `n` bytes from `a` holds what it held. -/
def HostBut (a n : Nat) (s t : State) : Prop := ∀ x, (x < a ∨ a + n ≤ x) → t.hostMem.byte x = s.hostMem.byte x

/-- A host command that ends now has its completion written: none of its code and tag is in progress with its completion dropped (R443). -/
def State.heard (s : State) (code tag : Nat) : Prop := s.hif.inProg.any (fun p => p.code == code && p.tag == tag && p.silent) = false

/-- The flags of a host command are among those it takes, the agreed version knows it, and its completion will be written (R446, R448). -/
def State.admits (s : State) (code : Nat) (h : CmdHdr) : Prop :=
  flagsOk code h = true ∧ cmdSince code h ≤ s.agreed ∧ s.heard code h.tag

/-- A host command has completed: its completion waits to be written, after those that waited before, and nothing else of the host interface
but the list of commands in progress differs. -/
def Answers (s t : State) (code tag : Nat) (st : Status) (res : List Nat) : Prop :=
  t.hif = { s.hif with
    inProg := t.hif.inProg
    cpls := s.hif.cpls ++ [{ code := code, status := st.code, tag := tag, res := res }] }

/-- As `Answers`; while a SYNCED Standby follows, the completion is held until it reports the latest delta applied (R361). -/
def AnswersDelta (s t : State) (code tag : Nat) (st : Status) (res : List Nat) : Prop :=
  (s.holds = false → Answers s t code tag st res) ∧
  (s.holds = true → t.hif = { s.hif with
    inProg := t.hif.inProg
    held := s.hif.held ++ [(t.chd.deltaSeq, { code := code, status := st.code, tag := tag, res := res })] })

/-- A bit of an error register is set; besides it nothing differs but the parts `ps` and the count of merged event records. -/
def Flagged (s t : State) (e : ErrReg) (bit : Nat) (ps : List Piece) : Prop :=
  (t.val e.addr).testBit bit = true ∧ RegsBut [e.addr, Reg.EVC_MERGEDCNT] s t ∧ ∀ p, p ∉ ps → p.same s t

/-- A command runs and does nothing but set a bit of an error register and post its event. -/
def Faults (c : Instr) (s : State) (e : ErrReg) (bit : Nat) : Prop :=
  ∃ t, exec c s = .next t ∧ Flagged s t e bit [.now, .sys, .evc]

/-- A host command completes and does nothing else. -/
def Replies (c : Instr) (s : State) (code tag : Nat) (st : Status) (res : List Nat) : Prop :=
  ∃ t, exec c s = .next t ∧ Answers s t code tag st res ∧ RegsBut [] s t ∧ Frame [.hif] [] s t

/-- The messages of a partner, referee or unit: when one arrives, its header, and whether it is a HELLO (Table 17-1). -/
def chdMsg : Instr → Option (Nat × ChdHdr × Bool)
  | .helloReceived t h _ => some (t, h, true)
  | .heartbeatReceived t h _ => some (t, h, false)
  | .promote t h _ _ => some (t, h, false)
  | .depose t h _ => some (t, h, false)
  | .unfence t h => some (t, h, false)
  | .digest t h _ => some (t, h, false)
  | .provdig t h _ => some (t, h, false)
  | .missreq t h _ _ _ => some (t, h, false)
  | .mirror t h _ _ _ _ => some (t, h, false)
  | .delta t h _ _ => some (t, h, false)
  | .syncreq t h => some (t, h, false)
  | .statePart t h _ _ => some (t, h, false)
  | .syncdone t h _ => some (t, h, false)
  | .switchMsg t h _ => some (t, h, false)
  | _ => none

/-- A message that comes again under a number already met on its link (R348). -/
def State.again (s : State) (h : ChdHdr) (hello : Bool) : Prop :=
  ∃ x, tget (fun _ => none) s.chd.lastNum (linkIx h.link) = some x ∧ (if hello then x = h.msgnum else seqFrom x h.msgnum = true)

/-- A message is taken: messaging runs, the frame is sound, the link is one of this device's, and the message is no duplicate. -/
def State.takesMsg (s : State) (h : ChdHdr) (hello : Bool) : Prop :=
  s.chdUp = true ∧ goodMsg h = true ∧ s.hasLink h.link = true ∧ ¬ s.again h hello

/-- A message of the unit's own epoch or a lower one is taken by a unit that is not fenced. -/
def State.calm (s : State) (h : ChdHdr) (hello : Bool) : Prop :=
  s.takesMsg h hello ∧ s.chd.fenced = false ∧ h.epoch ≤ s.epoch

/-- The command that waits on the cartridge completes, if there is one. -/
def LedgerAnswer (s t : State) (st : Status) : Prop :=
  t.ldg.cmd = none ∧
  match s.ldg.cmd with
  | some (code, tag, _, _) => s.heard code tag → Answers s t code tag st []
  | none => t.hif = s.hif

/-- A surprise removal from ACTIVE or EJECTING: power off, ABSENT, SURPRISE; what is staged stays for the fallback ring; a save being written
fails; an eject completes ABSENT (R385, R387, R390). -/
def Removed (s t : State) : Prop :=
  t.ldg.cstate = .absent ∧ t.ldg.lcPwr = false ∧ t.ldg.ident = none ∧ (t.val Reg.LDG_ERRSTAT).testBit 3 = true ∧
  t.ldg.staged = s.ldg.staged ∧ t.ldg.committed = s.ldg.committed ∧ t.ldg.stagedEnd = s.ldg.stagedEnd ∧
  (∀ im seq slot start, s.mtr.save = some (.write im seq slot start true) → t.mtr.save = none ∧ (t.val Reg.MTR_ERRSTAT).testBit 2 = true) ∧
  (s.ldg.cstate = .ejecting → LedgerAnswer s t .absent) ∧ (s.ldg.cstate = .active → t.hif = s.hif) ∧
  RegsBut [Reg.LDG_ERRSTAT, Reg.MTR_ERRSTAT, Reg.EVC_MERGEDCNT] s t

/-- A journal page is committed: to the cartridge while it takes pages, to the fallback ring otherwise, where a full ring loses its oldest page
(R379, R380, R389). -/
def Commits (s t : State) : Prop :=
  let l := s.ldg
  let page := pageBytes l.nextPage l.committed l.staged
  t.ldg.committed = l.committed + 4080 ∧ t.ldg.nextPage = l.nextPage + 1 ∧
  t.val Reg.LDG_PAGES = min (s.val Reg.LDG_PAGES + 1) 0xFFFFFFFF ∧ t.val Reg.LDG_JPAGELO = l.nextPage % 2 ^ 32 ∧
  (∀ r ∈ l.staged, r.start + r.size ≤ l.committed + 4080 → (r.key, r.seq, r.time) ∈ t.ldg.done) ∧
  (∀ r ∈ l.staged, l.committed + 4080 < r.start + r.size →
    ∃ q ∈ t.ldg.staged, q.seq = r.seq ∧ q.start = r.start ∧ q.type = r.type ∧ q.payload = r.payload) ∧
  (l.toCart = true → t.ldg.cart = l.cart.putBytes (0x4000000 + l.nextPage % 8388608 * 4096) page ∧ t.devMem = s.devMem ∧
    t.ldg.fbPages = l.fbPages ∧ t.ldg.wear = l.wear + (l.wearRem + 4096) / 1000000000) ∧
  (l.toCart = false → t.ldg.cart = l.cart ∧ t.devMem = s.devMem.putBytes (s.fbBase + l.nextPage % 1048576 * 4096) page ∧
    (l.fbPages.length < 1048576 → t.ldg.fbPages = l.fbPages ++ [l.nextPage] ∧ t.reg Reg.LDG_FBLOST = s.reg Reg.LDG_FBLOST) ∧
    (1048576 ≤ l.fbPages.length → t.ldg.fbPages = (l.fbPages ++ [l.nextPage]).drop 1 ∧
      t.val Reg.LDG_FBLOST = min (s.val Reg.LDG_FBLOST + 1) 0xFFFFFFFF ∧ (t.val Reg.LDG_ERRSTAT).testBit 9 = true)) ∧
  t.hif = s.hif ∧ Frame [.devMem, .now, .sys, .evc, .ldg] [.EVC, .LDG] s t

/-- A mode has been entered: PREV and TRANSITIONS say so, no transition is in progress (R424, R426). -/
def Enters (s t : State) (m : Mode) : Prop :=
  t.sys.mode = m ∧ t.sys.prev = s.sys.mode ∧ t.sys.trans = none ∧
  t.val Reg.SYS_TRANSITIONS = min (s.val Reg.SYS_TRANSITIONS + 1) 0xFFFFFFFF ∧
  Frame [.devMem, .now, .sys, .tb, .eth, .snap, .topo, .det, .alm, .afe, .flt, .mtr, .cap, .evc, .chd, .ldg, .upd, .hif, .free]
    [.SYS, .TB, .ETH, .SNAP, .TOPO, .ALM, .FLT, .MTR, .CAP, .EVC, .CHD, .LDG] s t

/-- The last completion that waits is this one. -/
def LastAnswer (t : State) (code tag : Nat) (st : Status) (res : List Nat) : Prop :=
  t.hif.cpls.getLast? = some { code := code, status := st.code, tag := tag, res := res }

/-- The registers that the AON domain holds. -/
def aonRegs : List Nat := [Reg.SYS_PWRREQ, Reg.SYS_AONALMLO, Reg.SYS_AONALMHI, Reg.SYS_WDOG, Reg.SYS_RSTCAUSE]

/-- The device has been reset: what Table 21-4 puts in the reset's scope stands as after reset; fuses, boot flash, host memory, the cartridge and
the waiting commands keep what they held; RSTCAUSE shows the source, beside what it showed unless power was lost (R434). -/
def Restarted (c : ResetCause) (s t : State) : Prop :=
  t.sys.mode = .boot ∧ t.sys.blocksUp = false ∧ t.now = State.reset.now ∧ t.tb = State.reset.tb ∧ t.eth = State.reset.eth ∧
  t.ing = State.reset.ing ∧ t.snap = State.reset.snap ∧ t.topo = State.reset.topo ∧ t.det = State.reset.det ∧ t.modal = State.reset.modal ∧
  t.alm = State.reset.alm ∧ t.afe = State.reset.afe ∧ t.flt = State.reset.flt ∧ t.mtr = State.reset.mtr ∧ t.cap = State.reset.cap ∧
  t.lat = State.reset.lat ∧ t.cores = State.reset.cores ∧ t.tsk = State.reset.tsk ∧ t.evc = State.reset.evc ∧ t.chd = State.reset.chd ∧
  t.hif = State.reset.hif ∧ t.devMem = [] ∧ t.hostMem = s.hostMem ∧ t.pending = s.pending ∧ t.key.otp = s.key.otp ∧
  t.upd.flash = s.upd.flash ∧ t.upd.ctl = s.upd.ctl ∧ t.ldg.cart = s.ldg.cart ∧
  (∀ a, a ∉ aonRegs → t.reg a = State.reset.reg a) ∧
  (c = .por → t.val Reg.SYS_RSTCAUSE = 1 ∧ ∀ a, a ≠ Reg.SYS_RSTCAUSE → t.reg a = State.reset.reg a) ∧
  (c ≠ .por → t.val Reg.SYS_RSTCAUSE = s.val Reg.SYS_RSTCAUSE ||| 2 ^ c.bit ∧ t.val Reg.SYS_PWRREQ = s.sys.aonPwrreq % 2 ^ 32 ∧
    t.val Reg.SYS_WDOG = s.sys.aonWdog % 2 ^ 32 ∧ t.sys.aonWdog = s.sys.aonWdog ∧ t.sys.aonCnt = s.sys.aonCnt)

/-- The host commands: code and header (Table 22-5). -/
def hostCall : Instr → Option (Nat × CmdHdr)
  | .nop h => some (0x0000, h)
  | .modeSet h _ => some (0x0101, h)
  | .imageLoad h _ _ _ _ _ => some (0x0201, h)
  | .snapSubscribe h _ _ _ _ _ _ => some (0x0301, h)
  | .snapUnsubscribe h _ => some (0x0302, h)
  | .sourceAdd h _ _ => some (0x0311, h)
  | .sourceRemove h _ _ => some (0x0312, h)
  | .topoEdit h _ _ => some (0x0401, h)
  | .almAck h _ => some (0x0501, h)
  | .capArm h _ => some (0x0601, h)
  | .capRead h _ _ _ _ => some (0x0602, h)
  | .ledgerEject h => some (0x0701, h)
  | .ledgerAccept h => some (0x0702, h)
  | .keyUpdate h _ _ => some (0x0801, h)
  | .updateBegin h _ _ _ => some (0x0901, h)
  | .activate h => some (0x0902, h)
  | .healthConfirm h => some (0x0903, h)
  | .switchover h => some (0x0A01, h)
  | .switchback h => some (0x0A02, h)
  | .trimReload (.command h) => some (0x0B01, h)
  | _ => none

/-- The modes in which a host command is legal (R423 and the chapters of Table 22-7); a code that is not listed has rules of its own. -/
def hostModes (code : Nat) : List Mode :=
  let awake : List Mode := [.configure, .settle, .serve, .shadow, .referee, .holdover, .test, .trial, .quiesce, .lockout]
  match code with
  | 0x0201 => [.configure]
  | 0x0301 => [.configure, .settle, .serve, .shadow, .trial, .holdover, .test, .quiesce]
  | 0x0302 => [.configure, .settle, .serve, .shadow, .trial, .holdover, .test, .quiesce]
  | 0x0311 => [.configure, .settle, .serve, .trial, .holdover, .test]
  | 0x0312 => [.configure, .settle, .serve, .trial, .holdover, .test]
  | 0x0401 => [.configure, .settle, .serve, .trial, .holdover, .test]
  | 0x0501 => [.settle, .serve, .holdover, .test, .trial, .quiesce, .lockout]
  | 0x0601 => [.settle, .serve, .shadow, .holdover, .test, .trial]
  | 0x0602 => awake
  | 0x0701 => awake
  | 0x0702 => awake
  | 0x0801 => awake
  | 0x0901 => awake.filter (· ≠ .configure)
  | 0x0902 => awake.filter (· ≠ .configure)
  | 0x0B01 => awake.filter (fun m => m ≠ .referee ∧ m ≠ .lockout)
  | _ => [.boot, .dormant] ++ awake

end Sys2Proof.Machine
end

