-- ==== Sys2Proof/Certificates/Slice0/Obligations.lean ====
section
/-!
DEFINITION. The statements for the provers: what each command does, what it leaves alone, and what holds of the whole device.
-/
open Sys2Proof Sys2Proof.Machine

/-! ### The whole device -/

/-- A step takes the command at the front of the queue and runs it on the state with the rest of the queue. -/
def Obligations.StepRunsFrontCommand : Prop :=
  ∀ (s : State) (c : Instr) (q : List Instr), step (s.withPending (c :: q)) = exec c (s.withPending q)

/-- With no command waiting a step is one TB tick: the queue stays empty, and with no time step, image load or restart due, time moves on by the
increment in force. What the device does while it idles is the model's choice (notes/assumptions/2). -/
def Obligations.EmptyQueueTicks : Prop :=
  ∀ s : State, s.powered → s.pending = [] →
    ∃ t, step s = .next t ∧ t.pending = [] ∧ t.powered ∧
      (s.tb.step = none → s.lat.job = none → s.upd.restartDue = false →
        t.now = (s.now + s.tb.incr) % (2 ^ 48 * 1000000000 * 2 ^ 24))

/-- A command's effect leaves the queue of waiting commands as it was. Once a supply has failed every command but the power-on reset stops with
that fault (R435); while the supplies hold no command stops, and only SUPPLY_FAIL ends that. -/
def Obligations.CommandsRunWhileSupplied : Prop :=
  (∀ (c : Instr) (s t : State), exec c s = .next t → t.pending = s.pending) ∧
  (∀ (c : Instr) (s : State),
    (s.supplyOk = false → c ≠ .powerOnReset → exec c s = .fault .supplyFailed) ∧
    (s.powered → ∃ t, exec c s = .next t ∧ (c ≠ .supplyFail → t.powered)))

/-- The canonical form of the register file and of both memories is kept by every step, so that equal contents stay equal data. -/
def Obligations.StepKeepsForm : Prop :=
  ∀ s t : State, s.wf → step s = .next t → t.wf

/-- The reset state is in canonical form, its supplies hold, and no command waits. -/
def Obligations.ResetIsSound : Prop := State.reset.wf ∧ State.reset.powered ∧ State.reset.pending = []

/-- A run of any length from a state whose supplies hold never stops while no supply fails: whatever the commands and the state, there is no
fault and no refusal. -/
def Obligations.PoweredRunsNeverStop : Prop :=
  ∀ (n : Nat) (s : State), s.powered → Instr.supplyFail ∉ s.pending → safeRun n s

/-- The checks that every host command meets before its own rules: a flag it does not take is answered ARG; a command or flag newer than the
agreed version is refused; in a mode in which it is not legal it is refused, with STATE where its arguments are sound, and a refusal with STATE is counted (R423, R446, R448). -/
def Obligations.HostCommandsChecked : Prop :=
  ∀ (c : Instr) (s : State) (code : Nat) (h : CmdHdr), hostCall c = some (code, h) → s.powered → s.heard code h.tag →
    (flagsOk code h = false →
      ∃ t, exec c s = .next t ∧ Answers s t code h.tag .arg [] ∧ RegsBut [] s t ∧ Frame [.hif] [] s t) ∧
    (flagsOk code h = true → s.agreed < cmdSince code h →
      ∃ t st, exec c s = .next t ∧ (st = Status.arg ∨ st = Status.version) ∧ Answers s t code h.tag st [] ∧ RegsBut [] s t ∧
        Frame [.hif] [] s t) ∧
    (flagsOk code h = true → cmdSince code h ≤ s.agreed → s.sys.mode ∉ hostModes code →
      ∃ t st, exec c s = .next t ∧ (st = Status.arg ∨ st = Status.state) ∧ Answers s t code h.tag st [] ∧
        (st = Status.state → t.val Reg.SYS_REFUSALS = min (s.val Reg.SYS_REFUSALS + 1) 0xFFFFFFFF ∧
          (t.val Reg.SYS_ERRSTAT).testBit 1 = true) ∧
        Frame [.sys, .evc, .ldg, .hif] [.SYS, .EVC, .LDG] s t)

/-- Reset values that the register tables give, block by block, read by any requester; a register at an unassigned offset reads 0 (R6). -/
def Obligations.ResetValues : Prop :=
  State.reset.sys.mode = .boot ∧
  ∀ (req : Requester), ∀ p ∈
    [(Reg.SYS_ID, 0xA69480B1), (Reg.SYS_MODE, 0), (Reg.SYS_SETTLEMIN, 60), (Reg.SYS_SETTLEMAX, 600), (Reg.SYS_PWRREQ, 0x300),
     (Reg.SYS_AONALMLO, 0xFFFFFFFF), (Reg.SYS_RSTCAUSE, 1), (Reg.SYS_WDOG, 10), (0x10000FFC, 0), (Reg.TB_INCRI, 4), (Reg.TB_UTCOFF, 37),
     (Reg.TB_TQ, 0x1F), (Reg.TB_HOLDERR, 0xFFFFFFFF), (Reg.ETH_PnCTL 0, 0xAC), (Reg.ETH_PnCTL 4, 0x80), (Reg.ETH_SDVER, 0),
     (Reg.ING_CTL, 0x1F), (Reg.ING_RSVPORT, 102), (Reg.SNAP_MATCHTOL, 20000), (Reg.SNAP_SCnWMAX 0, 20000), (Reg.SNAP_SCnLQ 7, 65470),
     (Reg.TOPO_CTL, 3), (Reg.TOPO_AGGINT, 1000), (Reg.DET_CTL, 7), (Reg.DET_CFTOL, 50), (Reg.MODAL_CTL, 0xF7), (Reg.ALM_CTL, 0xD),
     (Reg.AFE_AUXREGk 23, 0xA0000), (Reg.FLT_CTL, 5), (Reg.FLT_CHcSCALE 0, 0x3F800000), (Reg.MTR_CHcGAIN 7, 0x3F800000),
     (Reg.CAP_MVAL, 0x80000000), (Reg.CAP_BnREGION 15, 0x01000F00), (Reg.LAT_CTL, 1), (Reg.EVC_TGTnCTL 0, 0x100), (Reg.EVC_TGTnSIZE 23, 6),
     (Reg.TSK_CTL, 1), (Reg.CHD_FENCE_T, 1500), (Reg.CHD_HBAGE, 0xFFFFFFFF), (Reg.LDG_COMMIT_T, 100), (Reg.KEY_CTL, 0),
     (Reg.UPD_TRIALWIN, 600), (Reg.HIF_IFVER, 0x04020300), (Reg.HIF_CMDSIZE, 6), (Reg.NOC_CORECLSk 0, 3), (Reg.NOC_CORECLSk 7, 5)],
    State.reset.view req p.1 = p.2

/-! ### Ports (chapter 02) -/

/-- FRAME_RECEIVED: a frame that passes every check is kept whole with its stamp, its tag stripped, while its class has room; one with no room
left is counted and sets OVF; every other discard is counted in the order of R32 (R32-R36, R44). -/
def Obligations.FramesReceivedOrCounted : Prop :=
  ∀ (s : State) (n ns frac : Nat) (f : RxIn), s.powered →
    (f.aborted = true → exec (.frameReceived n ns frac f) s = .next ((s.advanceNs ns).bump (Reg.ETH_PnRXLEN n))) ∧
    (f.aborted = false → (s.portEn n = false ∨ (s.port n).link = false) →
      exec (.frameReceived n ns frac f) s = .next (s.advanceNs ns)) ∧
    (f.aborted = false → s.portEn n = true → (s.port n).link = true →
      (f.smdOk = false → exec (.frameReceived n ns frac f) s = .next ((s.advanceNs ns).bump (Reg.ETH_PnRXSMD n))) ∧
      (f.smdOk = true → f.fcsOk = false → exec (.frameReceived n ns frac f) s = .next ((s.advanceNs ns).bump (Reg.ETH_PnRXFCS n))) ∧
      (f.smdOk = true → f.fcsOk = true →
        ((f.bytes.length + 4 < 64 ∨ s.fld (Reg.ETH_PnRXCFG n) F.ETH_PnRXCFG_MAXLEN < f.bytes.length + 4) →
          exec (.frameReceived n ns frac f) s = .next ((s.advanceNs ns).bump (Reg.ETH_PnRXLEN n))) ∧
        (64 ≤ f.bytes.length + 4 → f.bytes.length + 4 ≤ s.fld (Reg.ETH_PnRXCFG n) F.ETH_PnRXCFG_MAXLEN →
          (isPause f.bytes = true → exec (.frameReceived n ns frac f) s = .next ((s.advanceNs ns).bump (Reg.ETH_PnRXPAUSE n))) ∧
          (isPause f.bytes = false → (untag f.bytes = none ∨ s.addrOk n f.bytes = false) →
            exec (.frameReceived n ns frac f) s = .next ((s.advanceNs ns).bump (Reg.ETH_PnRXFILT n))) ∧
          (isPause f.bytes = false → s.addrOk n f.bytes = true → ∀ tag b, untag f.bytes = some (tag, b) →
            (s.vlanOk n tag = false → exec (.frameReceived n ns frac f) s = .next ((s.advanceNs ns).bump (Reg.ETH_PnRXFILT n))) ∧
            (s.vlanOk n tag = true →
              let room := (if s.isHigh n tag b then rxBuffer n else rxBuffer n - s.fld (Reg.ETH_PnRXCFG n) F.ETH_PnRXCFG_HIRES * 16384)
              let stamp := 16 * ns + frac - s.val (Reg.ETH_PnTSLATRX n) % 65536
              let x : RxFrame := { high := s.isHigh n tag b, tag := tag, bytes := b, len := f.bytes.length + 4, ns := stamp / 16, frac := stamp % 16 }
              ((s.port n).used + (f.bytes.length + 4) ≤ room →
                ∃ t, exec (.frameReceived n ns frac f) s = .next t ∧
                  t.port n = { s.port n with rx := (s.port n).rx ++ [x] } ∧
                  t.val (Reg.ETH_PnRXOK n) = min (s.val (Reg.ETH_PnRXOK n) + 1) 0xFFFFFFFF ∧ (∀ m, m ≠ n → t.port m = s.port m) ∧
                  RegsBut [Reg.ETH_PnRXOK n] s t ∧ Frame [.now, .eth] [.ETH] s t) ∧
              (room < (s.port n).used + (f.bytes.length + 4) →
                ∃ t, exec (.frameReceived n ns frac f) s = .next t ∧ t.eth = s.eth ∧ (t.val (Reg.ETH_PnERRSTAT n)).testBit 4 = true ∧
                  (s.isHigh n tag b = true → t.val (Reg.ETH_PnRXOVFH n) = min (s.val (Reg.ETH_PnRXOVFH n) + 1) 0xFFFFFFFF) ∧
                  (s.isHigh n tag b = false → t.val (Reg.ETH_PnRXOVFN n) = min (s.val (Reg.ETH_PnRXOVFN n) + 1) 0xFFFFFFFF) ∧
                  Frame [.now, .sys, .evc] [.ETH, .EVC] s t))))))

/-- FRAME_TRANSMITTED and TX_STAMP_READ: a frame that has left is counted and, from EB with two steps, its stamp joins the FIFO of 64, or is
discarded with TSOVF when the FIFO is full, and nothing else is sent for it; a read of TXTSHI answers and removes the oldest stamp, and with
VALID 0 removes nothing (R48). -/
def Obligations.FramesTransmitted : Prop :=
  (∀ (s : State) (n ns frac : Nat), s.powered →
    ((s.port n).inProg = none → exec (.frameTransmitted n ns frac) s = .next (s.advanceNs ns)) ∧
    (∀ x, (s.port n).inProg = some x →
      ∃ t, exec (.frameTransmitted n ns frac) s = .next t ∧ t.val (Reg.ETH_PnTXOK n) = min (s.val (Reg.ETH_PnTXOK n) + 1) 0xFFFFFFFF ∧
        (x.frame.ptp = none → (t.port n).out = (s.port n).out ++ [x.frame] ∧ (t.port n).stamps = (s.port n).stamps) ∧
        (∀ pt, x.frame.ptp = some pt → x.queue = 1 → pt.oneStep = false →
          (t.port n).out = (s.port n).out ++ [x.frame] ∧
          ((s.port n).stamps.length < 64 →
            let stamp := 16 * ns + frac + s.val (Reg.ETH_PnTSLATTX n) % 65536
            (t.port n).stamps = (s.port n).stamps ++
              [{ ns32 := stamp / 16 % 2 ^ 32, frac := stamp % 16, seqId := pt.seqId, msgType := pt.msgType }]) ∧
          (64 ≤ (s.port n).stamps.length → (t.port n).stamps = (s.port n).stamps ∧ (t.val (Reg.ETH_PnERRSTAT n)).testBit 1 = true)) ∧
        (∀ m, m ≠ n → t.port m = s.port m) ∧
        RegsBut [Reg.ETH_PnTXOK n, Reg.ETH_PnERRSTAT n, Reg.EVC_MERGEDCNT] s t ∧ Frame [.now, .sys, .eth, .evc] [.ETH, .EVC] s t)) ∧
  (∀ (s : State) (req : Requester) (n : Nat), s.powered → s.mayRead req (Reg.ETH_PnTXTSHI n) →
    ∃ t, exec (.txStampRead req n) s = .next t ∧ t.hif = { s.hif with rdata := [stampHi (s.port n).stamps] } ∧
      (bitAt (stampHi (s.port n).stamps) 31 = 0 → t.port n = s.port n) ∧
      t.port n = { s.port n with stamps := (s.port n).stamps.drop 1 } ∧ (∀ m, m ≠ n → t.port m = s.port m) ∧
      RegsBut [] s t ∧ Frame [.eth, .hif] [] s t)

/-- PORT_CTL_WRITE, LINK_UP and LINK_DOWN: SPEED, FEC and LOOP keep their value while EN is 1, with CFGERR; clearing EN empties all six queues; a
link that comes up sets LINKCHG and starts verification; one that goes down drops EA and EB, counted, and keeps Q0-Q3 (R38, R40, R43, R50). -/
def Obligations.PortsAndLinks : Prop :=
  (∀ (s : State) (req : Requester) (n v : Nat) (rcv : Bool), s.powered → s.mayWrite req (Reg.ETH_PnCTL n) v →
    ∃ t, exec (.portCtlWrite req n v rcv) s = .next t ∧
      t.reg (Reg.ETH_PnCTL n) = (ctlAfter n (s.sys.mode == .test) (s.reg (Reg.ETH_PnCTL n)) (BitVec.ofNat 32 v)).1 ∧
      ((ctlAfter n (s.sys.mode == .test) (s.reg (Reg.ETH_PnCTL n)) (BitVec.ofNat 32 v)).2 = true →
        (t.val (Reg.ETH_PnERRSTAT n)).testBit 0 = true) ∧
      (s.portEn n = true → t.fld (Reg.ETH_PnCTL n) F.ETH_PnCTL_SPEED = s.fld (Reg.ETH_PnCTL n) F.ETH_PnCTL_SPEED ∧
        t.fld (Reg.ETH_PnCTL n) F.ETH_PnCTL_FEC = s.fld (Reg.ETH_PnCTL n) F.ETH_PnCTL_FEC ∧
        t.fld (Reg.ETH_PnCTL n) F.ETH_PnCTL_LOOP = s.fld (Reg.ETH_PnCTL n) F.ETH_PnCTL_LOOP) ∧
      (s.portEn n = true → t.portEn n = false →
        t.port n = { s.port n with ea := [], eb := [], q := [], inProg := none, held := none } ∧
        (rcv = true → t.val (Reg.ETH_PnRXLEN n) = min (s.val (Reg.ETH_PnRXLEN n) + 1) 0xFFFFFFFF)) ∧
      (t.port n).rx = (s.port n).rx ∧ (∀ m, m ≠ n → t.port m = s.port m) ∧
      RegsBut [Reg.ETH_PnCTL n, Reg.ETH_PnERRSTAT n, Reg.ETH_PnRXLEN n, Reg.EVC_MERGEDCNT] s t ∧ Frame [.sys, .eth, .evc] [.ETH, .EVC] s t) ∧
  (∀ (s : State) (n k st : Nat), s.powered →
    ∃ t, exec (.linkUp n k st) s = .next t ∧ (t.port k).link = true ∧ (t.val (Reg.ETH_PnSTAT k)).testBit 0 = true ∧
      (t.val (Reg.ETH_PnERRSTAT k)).testBit 2 = true ∧
      (k < 4 → s.flag (Reg.ETH_PnPREEMPT k) F.ETH_PnPREEMPT_PEN = true → s.flag (Reg.ETH_PnPREEMPT k) F.ETH_PnPREEMPT_VDIS = false →
        (t.port k).vstate = 2 ∧ (t.port k).active = false ∧ (t.port k).verifySent = 1) ∧
      (k < 4 → s.flag (Reg.ETH_PnPREEMPT k) F.ETH_PnPREEMPT_PEN = true → s.flag (Reg.ETH_PnPREEMPT k) F.ETH_PnPREEMPT_VDIS = true →
        (t.port k).active = true) ∧
      (k < 4 → s.flag (Reg.ETH_PnPREEMPT k) F.ETH_PnPREEMPT_PEN = false → (t.port k).active = false) ∧
      (∀ m, m ≠ k → t.port m = s.port m) ∧ Frame [.now, .sys, .eth, .evc] [.ETH, .EVC] s t) ∧
  (∀ (s : State) (n k : Nat) (rcv : Bool), s.powered →
    ((s.port k).link = false → exec (.linkDown n k rcv) s = .next (s.advanceNs n)) ∧
    ((s.port k).link = true →
      ∃ t, exec (.linkDown n k rcv) s = .next t ∧ (t.port k).link = false ∧ (t.port k).ea = [] ∧ (t.port k).eb = [] ∧
        (t.port k).inProg = none ∧ (t.port k).rx = (s.port k).rx ∧
        ((s.port k).inProg = none → (s.port k).held = none → (t.port k).q = (s.port k).q ∧
          t.val (Reg.ETH_PnTXDROPE k) = min (s.val (Reg.ETH_PnTXDROPE k) + ((s.port k).ea.length + (s.port k).eb.length)) 0xFFFFFFFF) ∧
        t.val (Reg.ETH_PnLINKDN k) = min (s.val (Reg.ETH_PnLINKDN k) + 1) 0xFFFFFFFF ∧ t.val (Reg.ETH_PnSTAT k) = 0 ∧
        (t.val (Reg.ETH_PnERRSTAT k)).testBit 2 = true ∧
        (rcv = true → t.val (Reg.ETH_PnRXLEN k) = min (s.val (Reg.ETH_PnRXLEN k) + 1) 0xFFFFFFFF) ∧
        (∀ m, m ≠ k → t.port m = s.port m) ∧ Frame [.now, .sys, .eth, .evc] [.ETH, .ALM, .EVC] s t))

/-- EXPRESS_FRAME_READY: an express frame leaves at once on an idle port, cuts a preemptable frame at a multiple of 8 bytes where it may, else
waits in EA; a frame over 512 bytes is dropped from EA. FRAME_TRANSMITTED of a one-step Sync: it leaves with its time in it and is not stamped.
PREEMPT_WRITE, VERIFY_T_EXPIRY and RESPOND_MPACKET_RECEIVED: setting PEN on a link that is up starts verification; a verification with no
answer is repeated up to three times and then fails with VERFAIL; the partner's answer makes preemption active; on ports 4-7 a write does
nothing (R39-R41, R43, R47, R49). -/
def Obligations.PreemptionVerified : Prop :=
  (∀ (s : State) (n sent : Nat) (f : TxFrame), s.powered → n < 4 → f.bytes.length + 4 ≤ 512 →
    ((s.port n).inProg = none → (s.port n).ea = [] → (s.port n).link = true → s.portEn n = true →
      ∃ t, exec (.expressFrameReady n false f sent) s = .next t ∧ t.port n = { s.port n with inProg := some ⟨0, f, 0⟩ } ∧
        (∀ m, m ≠ n → t.port m = s.port m) ∧ RegsBut [] s t ∧ Frame [.eth] [] s t) ∧
    (∀ x, (s.port n).inProg = some x →
      (s.mayPreempt n x (max x.sent sent) = true → (s.port n).ea = [] → (s.port n).link = true → s.portEn n = true →
        ∃ t, exec (.expressFrameReady n false f sent) s = .next t ∧
          t.port n = { s.port n with inProg := some ⟨0, f, 0⟩, held := some { x with sent := (max x.sent sent + 7) / 8 * 8 } } ∧
          t.val (Reg.ETH_PnTXFRAG n) = min (s.val (Reg.ETH_PnTXFRAG n) + 1) 0xFFFFFFFF ∧ (∀ m, m ≠ n → t.port m = s.port m) ∧
          RegsBut [Reg.ETH_PnTXFRAG n] s t ∧ Frame [.eth] [.ETH] s t) ∧
      (s.mayPreempt n x (max x.sent sent) = false →
        ∃ t, exec (.expressFrameReady n false f sent) s = .next t ∧
          t.port n = { s.port n with ea := (s.port n).ea ++ [f], inProg := some { x with sent := max x.sent sent } } ∧
          (∀ m, m ≠ n → t.port m = s.port m) ∧ RegsBut [] s t ∧ Frame [.eth] [] s t))) ∧
  (∀ (s : State) (n sent : Nat) (f : TxFrame), s.powered → (s.port n).inProg = none → (4 ≤ n ∨ 512 < f.bytes.length + 4) →
    exec (.expressFrameReady n false f sent) s = .next (s.bump (Reg.ETH_PnTXDROPE n))) ∧
  (∀ (s : State) (n ns frac : Nat) (x : TxProg) (pt : PtpTx), s.powered → (s.port n).inProg = some x → x.frame.ptp = some pt →
    pt.oneStep = true → pt.msgType = 0 →
    ∃ t, exec (.frameTransmitted n ns frac) s = .next t ∧
      (t.port n).out = (s.port n).out ++ [oneStepFrame x.frame pt ((16 * ns + frac + s.val (Reg.ETH_PnTSLATTX n) % 65536) / 16)] ∧
      (t.port n).stamps = (s.port n).stamps) ∧
  (∀ (s : State) (req : Requester) (n k v : Nat), s.powered → s.mayWrite req (Reg.ETH_PnPREEMPT k) v →
    (4 ≤ k → exec (.preemptWrite req n k v) s = .next (s.advanceNs n)) ∧
    (k < 4 → s.flag (Reg.ETH_PnPREEMPT k) F.ETH_PnPREEMPT_PEN = false → F.ETH_PnPREEMPT_PEN.of (BitVec.ofNat 32 v) = 1 →
      F.ETH_PnPREEMPT_VDIS.of (BitVec.ofNat 32 v) = 0 → (s.port k).link = true →
      ∃ t, exec (.preemptWrite req n k v) s = .next t ∧ (t.port k).vstate = 2 ∧ (t.port k).active = false ∧ (t.port k).verifySent = 1 ∧
        (t.port k).verifyAt = (s.advanceNs n).ns ∧ (∀ m, m ≠ k → t.port m = s.port m) ∧ Frame [.now, .sys, .eth, .evc] [.ETH, .EVC] s t)) ∧
  (∀ (s : State) (n k : Nat), s.powered →
    ((s.port k).vstate = 2 → (s.port k).verifyAt + s.fld (Reg.ETH_PnPREEMPT k) F.ETH_PnPREEMPT_VERIFY_T * 1000000 ≤ (s.advanceNs n).ns →
      ((s.port k).verifySent < 3 →
        ∃ t, exec (.verifyTExpiry n k) s = .next t ∧
          t.port k = { s.port k with verifySent := (s.port k).verifySent + 1, verifyAt := (s.advanceNs n).ns } ∧
          (∀ m, m ≠ k → t.port m = s.port m) ∧ RegsBut [] s t ∧ Frame [.now, .eth] [] s t) ∧
      (3 ≤ (s.port k).verifySent →
        ∃ t, exec (.verifyTExpiry n k) s = .next t ∧ t.port k = { s.port k with active := false, vstate := 4 } ∧
          t.val (Reg.ETH_PnPREEMPTSTAT k) = 8 ∧ (t.val (Reg.ETH_PnERRSTAT k)).testBit 3 = true ∧
          RegsBut [Reg.ETH_PnPREEMPTSTAT k, Reg.ETH_PnERRSTAT k, Reg.EVC_MERGEDCNT] s t ∧ Frame [.now, .sys, .eth, .evc] [.ETH, .EVC] s t)) ∧
    (((s.port k).vstate ≠ 2 ∨ (s.advanceNs n).ns < (s.port k).verifyAt + s.fld (Reg.ETH_PnPREEMPT k) F.ETH_PnPREEMPT_VERIFY_T * 1000000) →
      exec (.verifyTExpiry n k) s = .next (s.advanceNs n))) ∧
  (∀ (s : State) (k : Nat), s.powered →
    ((s.port k).vstate = 2 →
      ∃ t, exec (.respondMpacketReceived k) s = .next t ∧ t.port k = { s.port k with active := true, vstate := 3 } ∧
        t.val (Reg.ETH_PnPREEMPTSTAT k) = 7 ∧ (∀ m, m ≠ k → t.port m = s.port m) ∧ RegsBut [Reg.ETH_PnPREEMPTSTAT k] s t ∧
        Frame [.eth] [.ETH] s t) ∧
    ((s.port k).vstate ≠ 2 → exec (.respondMpacketReceived k) s = .next s))

/-! ### Stream formats and the source registry (chapter 03) -/

/-- C37_DATA_FRAME, RSV_SPDU and VTD_DATAGRAM discards: the port's next frame is taken and counted under the first check it fails: checksum, size,
CRC, registration, descriptor, time, version, tag, sequence (R52, R55, R61, R62, R66-R72). What the digests held then allow is released (R359). -/
def Obligations.StreamFramesDiscarded : Prop :=
  (∀ (s : State) (n k : Nat) (fr : RxFrame) (d : Datagram) (b : Bool), s.powered → (s.port k).nextRx = some fr →
    s.hwProto k fr = some (.c37, d) →
    let u := (s.advanceNs n).takeRx k
    let pl := d.payload
    ((d.headOk = false ∨ d.sumOk = false) → exec (.c37DataFrame n k b) s = .next ((u.bump Reg.ING_CSUM).followDigests)) ∧
    (d.headOk = true → d.sumOk = true →
      ((pl.length < 4 ∨ pl.length < beAt pl 2 2 ∨ beAt pl 2 2 < 16) →
        exec (.c37DataFrame n k false) s = .next ((u.bump Reg.ING_SIZEERR).followDigests)) ∧
      (4 ≤ pl.length → beAt pl 2 2 ≤ pl.length → 16 ≤ beAt pl 2 2 →
        (beAt pl (beAt pl 2 2 - 2) 2 ≠ crcCcitt (pl.take (beAt pl 2 2 - 2)) →
          exec (.c37DataFrame n k false) s = .next ((u.bump Reg.ING_CRC).followDigests)) ∧
        (beAt pl (beAt pl 2 2 - 2) 2 = crcCcitt (pl.take (beAt pl 2 2 - 2)) → s.entriesOf ⟨0, d.src, d.port, beAt pl 4 2⟩ = [] →
          exec (.c37DataFrame n k false) s = .next ((u.bump Reg.ING_UNREG).followDigests))))) ∧
  (∀ (s : State) (n k : Nat) (fr : RxFrame) (d : Datagram) (p : Spdu), s.powered → p.encrypted = false → p.sampled = true →
    (s.port k).nextRx = some fr → s.hwProto k fr = some (.rsv, d) → d.headOk = true → d.sumOk = true →
    (p.lengthOk = false ∨ 8 < p.asdus.length) →
      exec (.rsvSpdu n k p false) s = .next ((((s.advanceNs n).takeRx k).bump Reg.ING_SIZEERR).followDigests)) ∧
  (∀ (s : State) (n k : Nat) (fr : RxFrame) (d : Datagram), s.powered → (s.port k).nextRx = some fr → s.hwProto k fr = some (.vtd, d) →
    let u := (s.advanceNs n).takeRx k
    let pl := d.payload
    ((d.headOk = false ∨ d.sumOk = false) → exec (.vtdDatagram n k false) s = .next (u.bump Reg.ING_CSUM)) ∧
    (d.headOk = true → d.sumOk = true →
      ((leAt pl 0 1 ≠ 0xA6 ∨ leAt pl 1 1 = 0 ∨ 2 < leAt pl 1 1 ∨ leAt pl 2 1 % 8 ≠ 0) →
        exec (.vtdDatagram n k false) s = .next (u.bump Reg.ING_VERS)) ∧
      (leAt pl 0 1 = 0xA6 → leAt pl 1 1 = 2 → leAt pl 2 1 % 8 = 0 → bitAt (leAt pl 2 1) 7 = 0 →
        pl.length ≠ 16 + 8 * leAt pl 3 1 → exec (.vtdDatagram n k false) s = .next (u.bump Reg.ING_SIZEERR))))

/-- C37_DATA_FRAME, RSV_SPDU and VTD_DATAGRAM accepted: a data frame of one block, and an SPDU of one ASDU, are placed in their entry's class
with their measurement time and receive stamp, and counted; a VTD datagram that continues its sequence is counted, its SEQ kept, and its vertex's
row alone changes (R55-R59, R62, R66-R68, R149). -/
def Obligations.StreamFramesAccepted : Prop :=
  (∀ (s : State) (n k : Nat) (fr : RxFrame) (d : Datagram) (e0 e : RegEntry) (ds : Desc) (pm : PmuDesc), s.powered →
    (s.port k).nextRx = some fr → s.hwProto k fr = some (.c37, d) → d.headOk = true → d.sumOk = true →
    let b := d.payload
    let id := beAt b 4 2
    let w := beAt b 14 2
    4 ≤ b.length → beAt b 2 2 ≤ b.length → 16 ≤ beAt b 2 2 → beAt b (beAt b 2 2 - 2) 2 = crcCcitt (b.take (beAt b 2 2 - 2)) →
    (s.entriesOf ⟨0, d.src, d.port, id⟩).head? = some e0 → s.descAt e0.desc = some ds → ds.pmus = [pm] → beAt b 2 2 = descSize ds →
    beAt b 10 4 % 2 ^ 24 < ds.timeBase → s.entryOf 0 d.src d.port id = some e → e.paused = false → e.authReq = false → bitAt w 10 = 0 →
    exec (.c37DataFrame n k false) s = .next (((((s.advanceNs n).takeRx k).placeFrame e.sc e.vid
      { (blockSlot b 14 pm).withStat w (beAt b 0 2 == 0xAA02) with
        mtime := s.utcToTai (beAt b 6 4) (divRne (beAt b 10 4 % 2 ^ 24 * 1000000000) ds.timeBase)
        rxtime := fr.ns
        rxfrac := fr.frac
        tq := bitsOf (beAt b 10 4) 24 4
        port := k
        desc := e0.desc }).bump Reg.ING_PARSEOK).followDigests)) ∧
  (∀ (s : State) (n k : Nat) (fr : RxFrame) (d : Datagram) (p : Spdu) (a : Asdu) (e : RegEntry) (ds : Desc) (tm : Nat × Nat), s.powered →
    (s.port k).nextRx = some fr → s.hwProto k fr = some (.rsv, d) → d.headOk = true → d.sumOk = true → p.encrypted = false →
    p.sampled = true → p.lengthOk = true → p.asdus = [a] → s.entryOf 2 d.src d.port (crc32c a.svid) = some e → s.descAt e.desc = some ds →
    a.data.length = (ds.members.map memberSize).sum → rsvStamp a.data ds.members 0 = some tm → e.paused = false → a.confRev = ds.confRev →
    (p.sig = 0 → e.authReq = false →
      exec (.rsvSpdu n k p false) s = .next (((((s.advanceNs n).takeRx k).placeFrame e.sc e.vid
        { rsvSlot a.data ds.members 0 {} with
          mtime := s.utcToTai tm.1 tm.2
          rxtime := fr.ns
          rxfrac := fr.frac
          unsync := a.smpSynch == 0
          cfgchg := false
          auth := false
          port := k
          smpcnt := a.smpCnt
          desc := e.desc }).bump Reg.ING_PARSEOK).followDigests)) ∧
    (p.sig ≠ 0 → s.spduTagOk p = false →
      exec (.rsvSpdu n k p false) s =
        .next ((((((s.advanceNs n).takeRx k).bump Reg.ING_TAGFAIL).raise E.ING 2)).followDigests))) ∧
  (∀ (s : State) (n k : Nat) (fr : RxFrame) (d : Datagram) (e : RegEntry), s.powered → (s.port k).nextRx = some fr →
    s.hwProto k fr = some (.vtd, d) → d.headOk = true → d.sumOk = true →
    let b := d.payload
    let flags := leAt b 2 1
    let vid := beAt b 4 4 / 4096
    let seq := beAt b 4 4 % 4096
    leAt b 0 1 = 0xA6 → leAt b 1 1 = 2 → flags % 8 = 0 → bitAt flags 7 = 0 → bitAt flags 3 = 0 → 1 ≤ leAt b 3 1 → leAt b 3 1 ≤ 64 →
    b.length = 16 + 8 * leAt b 3 1 → codesOk b (leAt b 3 1) = true → 0x2000 ≤ vid → tget (fun _ => none) s.ing.telem vid = some e →
    beAt b 8 8 ≤ (s.advanceNs n).ns + s.val Reg.ING_VTDSKEW % 65536 * 1000000 → (e.addrChk = true → e.addr = d.src) → e.paused = false →
    e.authReq = false →
    (∀ last, tget (fun _ => none) s.ing.lastSeq vid = some last → bitAt flags 6 = 0 →
      ((seq + 4096 - last) % 4096 = 0 ∨ 2048 ≤ (seq + 4096 - last) % 4096) →
        exec (.vtdDatagram n k false) s = .next (((s.advanceNs n).takeRx k).bump Reg.ING_SEQ)) ∧
    (∀ last, tget (fun _ => none) s.ing.lastSeq vid = some last → bitAt flags 6 = 0 → (seq + 4096 - last) % 4096 ≠ 0 →
      (seq + 4096 - last) % 4096 < 2048 →
        ∃ t, exec (.vtdDatagram n k false) s = .next t ∧ tget (fun _ => none) t.ing.lastSeq vid = some seq ∧
          t.val Reg.ING_PARSEOK = min (s.val Reg.ING_PARSEOK + 1) 0xFFFFFFFF ∧
          t.val Reg.ING_VTDGAP = min (s.val Reg.ING_VTDGAP + ((seq + 4096 - last) % 4096 - 1)) 0xFFFFFFFF ∧
          t.rowLe vid 0x10 8 = fr.ns % 2 ^ 64 ∧ DevBut (rowAddr vid) 128 s t ∧
          RegsBut [Reg.ING_PARSEOK, Reg.ING_VTDGAP, Reg.ING_UNMAPPED] s t ∧ Frame [.devMem, .now, .eth, .ing] [.ING] s t))

/-- FIRMWARE_PATH_FRAME, FRAGMENT_TIMEOUT, CONFIGURATION_FRAME and GDOI_KEY_BIND: a fragment is held with those of its datagram until it is whole
or 1 s has passed; a TCP frame meets the checks of the parsers; a descriptor is installed at the index its stream names and pauses the entries
of another rate; a key ID is found by its slot once bound (R52, R54, R60, R63, R472). -/
def Obligations.FirmwarePath : Prop :=
  (∀ (s : State) (n k : Nat) (fr : RxFrame) (d : Datagram) (sp : Option Spdu), s.powered → k < 4 → (s.port k).nextRx = some fr →
    s.hwProto k fr = none → datagramOf fr.bytes = some d → d.fragment = true → d.more = true →
    (∀ g ∈ s.ing.frags, ¬(g.src = d.src ∧ g.ident = d.ident)) → s.chd.digests = [] →
    ∃ t, exec (.firmwarePathFrame n (.frame k sp)) s = .next t ∧
      t.ing = { s.ing with frags := s.ing.frags ++
        [{ src := d.src, ident := d.ident, first := (s.advanceNs n).ns, parts := [(d.offset, d.body)], total := none }] } ∧
      t.port k = { s.port k with rx := (s.port k).rx.erase fr } ∧
      t.val Reg.ING_FWPATH = min (s.val Reg.ING_FWPATH + 1) 0xFFFFFFFF ∧ RegsBut [Reg.ING_FWPATH] s t ∧ Frame [.now, .eth, .ing] [.ING] s t) ∧
  (∀ (s : State) (n k src ns frac : Nat) (b : List Byte), s.powered → b.length < 4 →
    exec (.firmwarePathFrame n (.tcp k src b ns frac)) s =
      .next ((((s.advanceNs n).bump Reg.ING_FWPATH).bump Reg.ING_SIZEERR).followDigests)) ∧
  (∀ (s : State) (n : Nat), s.powered →
    ∃ t, exec (.fragmentTimeout n) s = .next t ∧
      t.ing = { s.ing with frags := s.ing.frags.filter (fun f => !(f.first + 1000000000 ≤ (s.advanceNs n).ns)) } ∧
      t.val Reg.ING_SIZEERR =
        min (s.val Reg.ING_SIZEERR + (s.ing.frags.filter (fun f => f.first + 1000000000 ≤ (s.advanceNs n).ns)).length) 0xFFFFFFFF ∧
      RegsBut [Reg.ING_SIZEERR] s t ∧ Frame [.now, .ing] [.ING] s t) ∧
  (∀ (s : State) (n : Nat) (st : StreamId) (ds : Desc), s.powered →
    (s.entriesOf st = [] → exec (.configurationFrame n st ds) s = .next (s.advanceNs n)) ∧
    (∀ e, (s.entriesOf st).head? = some e →
      ∃ t, exec (.configurationFrame n st ds) s = .next t ∧ t.descAt e.desc = some ds ∧
        (∀ i, i ≠ e.desc → t.descAt i = s.descAt i) ∧
        (∀ x ∈ t.streamEntries, x.stream = st → ds.rsv = false → (ds.rate < 1 ∨ 240 < ds.rate ∨ (s.rate x.sc : Int) ≠ ds.rate) → x.paused = true) ∧
        Frame [.now, .sys, .ing, .evc] [.ING, .EVC] s t)) ∧
  (∀ (s : State) (kid slot : Nat), s.powered → kid < 2 ^ 32 →
    ((∃ i, i < 64 ∧ bitAt (s.val (Reg.ING_KIDSLOTk i)) 31 = 0) ∨ s.kidSlot kid ≠ none →
      ∃ t, exec (.gdoiKeyBind kid slot) s = .next t ∧ t.kidSlot kid = some (slot % 256) ∧
        (∀ id, id ≠ kid → s.kidSlot id ≠ none → t.kidSlot id = s.kidSlot id) ∧ Frame [] [.ING] s t) ∧
    ((∀ i, i < 64 → bitAt (s.val (Reg.ING_KIDSLOTk i)) 31 = 1) → s.kidSlot kid = none → exec (.gdoiKeyBind kid slot) s = .next s))

/-- SOURCE_ADD, SOURCE_REMOVE and SOURCE_REMOVE_DRAINED: a telemetry range is added or removed entry by entry, a stream entry is stored at the slot
its key takes; a reserved field that is not 0 is answered ARG, a range past the capacity RANGE, an absent entry ABSENT; a removal completes once the parsers have drained
(R74-R77). -/
def Obligations.RegistryEdited : Prop :=
  (∀ (s : State) (h : CmdHdr) (w : List Nat) (n : Nat), s.powered → s.admits 0x0311 h → s.sys.mode.edits = true →
    let e := entryOfWords w
    (entryClear w = false → Replies (.sourceAdd h w n) s 0x0311 h.tag .arg []) ∧
    (entryClear w = true → (n = 0 ∨ 65536 < n ∨ 0xFFFFF < e.vid + n - 1 ∨ s.val Reg.TOPO_VCAP ≤ e.vid + n - 1) →
      ∃ t, exec (.sourceAdd h w n) s = .next t ∧ Answers s t 0x0311 h.tag .range [0] ∧ RegsBut [] s t ∧ Frame [.hif] [] s t) ∧
    (entryClear w = true → 1 ≤ n → n ≤ 65536 → e.vid + n - 1 ≤ 0xFFFFF → e.vid + n - 1 < s.val Reg.TOPO_VCAP → vidOk e.fmt e.vid = true → s.entrySlotsOk e = true →
      (e.fmt = 3 → (∀ v ∈ vidRange e.vid n, tget (fun _ => none) s.ing.telem v = none) →
        ∃ t, exec (.sourceAdd h w n) s = .next t ∧ (∀ v ∈ vidRange e.vid n, tget (fun _ => none) t.ing.telem v = some { e with vid := v }) ∧
          (∀ v, v ∉ vidRange e.vid n → tget (fun _ => none) t.ing.telem v = tget (fun _ => none) s.ing.telem v) ∧
          t.ing.streams = s.ing.streams ∧ AnswersDelta s t 0x0311 h.tag .ok [n] ∧ Frame [.ing, .chd, .hif] [.CHD] s t) ∧
      (e.fmt < 3 → n = 1 → s.streamArg e (bitAt (w.getD 0 0) 29 = 1) = false → s.streamEntries.contains e = false →
        s.streamEntries.length < s.lat.streamsCap → ∀ i, s.freeSlot e = some i →
        ∃ t, exec (.sourceAdd h w n) s = .next t ∧ tget (fun _ => none) t.ing.streams i = some e ∧
          (∀ j, j ≠ i → tget (fun _ => none) t.ing.streams j = tget (fun _ => none) s.ing.streams j) ∧ t.ing.telem = s.ing.telem ∧
          AnswersDelta s t 0x0311 h.tag .ok [1] ∧ Frame [.ing, .snap, .chd, .hif, .free] [.CHD] s t))) ∧
  (∀ (s : State) (h : CmdHdr) (w : List Nat) (n : Nat), s.powered → s.admits 0x0312 h → s.sys.mode.edits = true →
    let e := entryOfWords w
    (entryClear w = false → Replies (.sourceRemove h w n) s 0x0312 h.tag .arg []) ∧
    (entryClear w = true → 1 ≤ n → n ≤ 65536 → e.vid + n - 1 ≤ 0xFFFFF → e.vid + n - 1 < s.val Reg.TOPO_VCAP → vidOk e.fmt e.vid = true → e.fmt = 3 →
    ((∀ v ∈ vidRange e.vid n, tget (fun _ => none) s.ing.telem v = none) →
      ∃ t, exec (.sourceRemove h w n) s = .next t ∧ Answers s t 0x0312 h.tag .absent [0] ∧ RegsBut [] s t ∧ Frame [.hif] [] s t) ∧
    ((∀ v ∈ vidRange e.vid n, tget (fun _ => none) s.ing.telem v ≠ none) →
      ∃ t, exec (.sourceRemove h w n) s = .next t ∧ (∀ v ∈ vidRange e.vid n, tget (fun _ => none) t.ing.telem v = none) ∧
        (∀ v, v ∉ vidRange e.vid n → tget (fun _ => none) t.ing.telem v = tget (fun _ => none) s.ing.telem v) ∧
        t.ing.removals = s.ing.removals ++ [{ tag := h.tag, vids := vidRange e.vid n }] ∧ t.flag Reg.ING_STAT F.ING_STAT_BUSY = true ∧
        t.hif.cpls = s.hif.cpls ∧ Frame [.ing, .chd, .hif] [.ING, .CHD] s t))) ∧
  (∀ (s : State) (n tag : Nat) (r : Removal), s.powered → s.heard 0x0312 tag → s.ing.removals.find? (·.tag == tag) = some r →
    ∃ t, exec (.sourceRemoveDrained n tag) s = .next t ∧ t.ing = { s.ing with removals := s.ing.removals.filter (fun x => x.tag != tag) } ∧
      t.flag Reg.ING_STAT F.ING_STAT_BUSY = !(s.ing.removals.filter (fun x => x.tag != tag)).isEmpty ∧
      AnswersDelta s t 0x0312 tag .ok [r.vids.length] ∧ RegsBut [Reg.ING_STAT] s t ∧ Frame [.now, .ing, .hif] [.ING] s t)

/-! ### Time (chapter 04) -/

/-- INCRI_WRITE and STEPCMD: what is asked for waits for the next tick; a second step request, or one with both or a SETNS of a second or
more, sets CFGERR and asks for nothing (R79, R81).
INCREMENT_COMMIT and STEP_APPLY: the tick adds the increment in force, or sets or adjusts the time, and commits a pending increment inside
3.998-4.002 ns; one outside sets INCRRNG and changes nothing (R78, R79, R81). -/
def Obligations.TimeRequestsAndTheirTick : Prop :=
  (∀ (s : State) (req : Requester) (v : Nat), s.powered → s.mayWrite req Reg.TB_INCRI v →
    ∃ t, exec (.incriWrite req v) s = .next t ∧ t.val Reg.TB_INCRI = v % 256 ∧ t.flag Reg.TB_STAT F.TB_STAT_INCRPEND = true ∧
      t.tb = s.tb ∧ RegsBut [Reg.TB_INCRI, Reg.TB_STAT] s t ∧ Frame [] [.TB] s t) ∧
  (∀ (s : State) (req : Requester) (v : Nat), s.powered → s.mayWrite req Reg.TB_STEPCMD v → v % 4 ≠ 0 →
    (v % 4 ≠ 3 → s.tb.step = none → (v % 4 = 1 → s.val Reg.TB_SETNS < 1000000000) →
      ∃ t, exec (.stepcmd req v) s = .next t ∧ t.tb = { s.tb with step := some (decide (v % 4 = 1)) } ∧
        t.flag Reg.TB_STAT F.TB_STAT_STEPPEND = true ∧ RegsBut [Reg.TB_STAT] s t ∧ Frame [.tb] [.TB] s t) ∧
    ((v % 4 = 3 ∨ s.tb.step ≠ none ∨ (v % 4 = 1 ∧ 1000000000 ≤ s.val Reg.TB_SETNS)) →
      ∃ t, exec (.stepcmd req v) s = .next t ∧ t.tb = s.tb ∧ (t.val Reg.TB_ERRSTAT).testBit 3 = true ∧
        Frame [.sys, .evc] [.TB, .EVC] s t)) ∧
  (∀ (s : State), s.powered → s.flag Reg.TB_STAT F.TB_STAT_INCRPEND = true → s.tb.step = none →
    ∃ t, exec .incrementCommit s = .next t ∧ t.now = (s.now + s.tb.incr) % (2 ^ 48 * 1000000000 * 2 ^ 24) ∧
      t.flag Reg.TB_STAT F.TB_STAT_INCRPEND = false ∧
      (incrOk s.incrWords = true → t.tb = { s.tb with incr := s.incrWords / 256 } ∧ RegsBut [Reg.TB_STAT] s t) ∧
      (incrOk s.incrWords = false → t.tb = s.tb ∧ (t.val Reg.TB_ERRSTAT).testBit 0 = true) ∧
      Frame [.now, .tb, .sys, .evc] [.TB, .EVC] s t) ∧
  (∀ (s : State) (set : Bool), s.powered → s.tb.step = some set →
    ∃ t, exec .stepApply s = .next t ∧
      (set = true → (s.val Reg.TB_SETSLO + s.val Reg.TB_SETSHI % 65536 * 2 ^ 32) * 1000000000 + s.val Reg.TB_SETNS < 2 ^ 48 * 1000000000 →
        t.now = ((s.val Reg.TB_SETSLO + s.val Reg.TB_SETSHI % 65536 * 2 ^ 32) * 1000000000 + s.val Reg.TB_SETNS) * 2 ^ 24) ∧
      (set = false → ∀ x : Nat, x < 2 ^ 48 * 1000000000 * 2 ^ 24 →
        (x : Int) = s.now + s.tb.incr + signed 32 (s.val Reg.TB_ADJNS) * 2 ^ 24 → t.now = x) ∧
      t.flag Reg.TB_STAT F.TB_STAT_STEPPEND = false ∧ (t.val Reg.TB_ERRSTAT).testBit 1 = true ∧
      t.flag Reg.TB_STAT F.TB_STAT_INCRPEND = false ∧
      t.tb.incr = (if s.flag Reg.TB_STAT F.TB_STAT_INCRPEND = true ∧ incrOk s.incrWords = true then s.incrWords / 256 else s.tb.incr) ∧
      t.tb.step = none ∧ t.tb.stepSinceEcho = true ∧ t.val Reg.TB_STEPCNT = min (s.val Reg.TB_STEPCNT + 1) 0xFFFFFFFF ∧
      Frame [.now, .sys, .tb, .eth, .snap, .det, .alm, .flt, .mtr, .cap, .lat, .evc, .chd, .ldg, .upd]
        [.SYS, .TB, .ETH, .SNAP, .TOPO, .DET, .MODAL, .ALM, .AFE, .FLT, .MTR, .CAP, .LAT, .EVC, .TSK, .CHD, .LDG, .KEY, .UPD, .HIF, .NOC] s t)

/-- NOW_READ and TDC_STAMP_READ: a read of NOWNS or NOW64LO answers from one instant and latches the rest of it for its requester alone; a read
of TDCkHI answers the oldest stamp and removes it (R80, R104).
LEAP_SECOND_APPLY: once the second of a pending change has come, UTCOFF moves by one in its direction, PENDING clears and APPLIED sets; before
it, nothing changes but the time (R83). -/
def Obligations.LatchedReadsAndLeapSecond : Prop :=
  (∀ (s : State) (req : Requester), s.powered → s.mayRead req Reg.TB_NOWNS →
    ∃ t, exec (.nowRead req false) s = .next t ∧ t.hif = { s.hif with rdata := [s.ns % 1000000000] } ∧
      t.tb = { s.tb with latches := t.tb.latches } ∧
      tget (fun _ => (0, 0, 0)) t.tb.latches (latchKey req) =
        (s.taiSec, s.now % 2 ^ 24, (tget (fun _ => (0, 0, 0)) s.tb.latches (latchKey req)).2.2) ∧
      (∀ k, k ≠ latchKey req → tget (fun _ => (0, 0, 0)) t.tb.latches k = tget (fun _ => (0, 0, 0)) s.tb.latches k) ∧
      Frame [.tb, .hif] [] s t) ∧
  (∀ (s : State) (req : Requester), s.powered → s.mayRead req Reg.TB_NOW64LO →
    ∃ t, exec (.nowRead req true) s = .next t ∧ t.hif = { s.hif with rdata := [s.ns % 2 ^ 32] } ∧
      (tget (fun _ => (0, 0, 0)) t.tb.latches (latchKey req)).2.2 = s.ns / 2 ^ 32 % 2 ^ 32 ∧
      (∀ k, k ≠ latchKey req → tget (fun _ => (0, 0, 0)) t.tb.latches k = tget (fun _ => (0, 0, 0)) s.tb.latches k) ∧
      Frame [.tb, .hif] [] s t) ∧
  (∀ (s : State) (req : Requester) (k : Nat), s.powered → s.mayRead req (Reg.TB_TDCkHI k) →
    ∃ t, exec (.tdcStampRead req k) s = .next t ∧ t.hif = { s.hif with rdata := [tdcHi (s.tdc k).fifo] } ∧
      (t.tdc k).fifo = (s.tdc k).fifo.drop 1 ∧ (∀ j, j ≠ k → t.tdc j = s.tdc j) ∧ t.tb = { s.tb with tdc := t.tb.tdc } ∧
      Frame [.tb, .hif] [] s t) ∧
  (∀ (s : State) (n : Nat), s.powered →
    (s.flag Reg.TB_LEAPSHI F.TB_LEAPSHI_PENDING = true → s.leapSec ≤ (s.advanceNs n).taiSec →
      ∃ t, exec (.leapSecondApply n) s = .next t ∧
        t.val Reg.TB_UTCOFF % 65536 =
          ((if bitAt (s.val Reg.TB_LEAPSHI) 30 = 0 then s.utcOff + 1 else s.utcOff - 1) % 65536).toNat ∧
        t.flag Reg.TB_LEAPSHI F.TB_LEAPSHI_PENDING = false ∧ t.flag Reg.TB_LEAPSHI F.TB_LEAPSHI_APPLIED = true ∧
        t.leapSec = s.leapSec ∧ RegsBut [Reg.TB_UTCOFF, Reg.TB_LEAPSHI] s t ∧ Frame [.now] [.TB] s t) ∧
    ((s.flag Reg.TB_LEAPSHI F.TB_LEAPSHI_PENDING = false ∨ (s.advanceNs n).taiSec < s.leapSec) →
      exec (.leapSecondApply n) s = .next (s.advanceNs n)))

/-- PTP_MESSAGE and IRIG_FRAME: an Announce settles who is master, and from a better master brings the UTC offset; any other message makes a
slave's servo ask for an increment in range; a good IRIG-B frame is counted and shown, a bad one takes the lock away (R79, R83, R85, R86). The
increment that the servo chooses is a free value of the model (notes/assumptions/3).
HOLDOVER_UPDATE, TB_PLL_UNLOCK and TB_PLL_LOCK: in holdover the error estimate E(t) is shown with HOLD, and UNSYNC once it exceeds 1 us; an
unlocked PLL clears PLLLOCK and shows UNSYNC and code 15 (R88, R90). -/
def Obligations.TimeSourcesHoldoverAndPll : Prop :=
  (∀ (s : State) (n : Nat) (m : PtpMsg), s.powered → m.onActive = true → m.announce = true →
    ∃ t, exec (.ptpMessage n m) s = .next t ∧ t.tb = { s.tb with ptpMaster := m.ownBest && !m.slaveOnly } ∧
      ((m.ownBest && !m.slaveOnly) = false → ∀ o, m.utcOffset = some o → t.val Reg.TB_UTCOFF = o % 65536 + 2 ^ 31) ∧
      RegsBut [Reg.TB_UTCOFF, Reg.TB_LEAPSLO, Reg.TB_LEAPSHI] s t ∧ Frame [.now, .tb] [.TB] s t) ∧
  (∀ (s : State) (n : Nat) (m : PtpMsg), s.powered → m.onActive = true → m.announce = false → s.tb.ptpMaster = false →
    ∃ t, exec (.ptpMessage n m) s = .next t ∧ incrOk t.incrWords = true ∧ t.flag Reg.TB_STAT F.TB_STAT_INCRPEND = true ∧ t.tb = s.tb ∧
      RegsBut [Reg.TB_INCRF, Reg.TB_INCRI, Reg.TB_STAT] s t ∧ Frame [.now, .free] [.TB] s t) ∧
  (∀ (s : State) (n : Nat) (f : IrigFrame), s.powered → s.flag Reg.TB_IRIGCFG F.TB_IRIGCFG_EN = true → f.good = true →
    ∃ t, exec (.irigFrame n f) s = .next t ∧ t.tb = { s.tb with irigPrev := some f.utc } ∧
      t.val Reg.TB_IRIGTOD = f.sod % 2 ^ 17 + f.doy % 512 * 2 ^ 17 ∧
      (s.tb.irigPrev ≠ some (f.utc - 1) → t.flag Reg.TB_STAT F.TB_STAT_IRIGLOCK = false) ∧
      (s.tb.irigPrev = some (f.utc - 1) → 1 ≤ f.utc → 1 ≤ s.val Reg.TB_IRIGSTAT / 256 % 256 →
        t.flag Reg.TB_STAT F.TB_STAT_IRIGLOCK = true) ∧
      Frame [.now, .tb] [.TB] s t) ∧
  (∀ (s : State) (n : Nat) (f : IrigFrame), s.powered → s.flag Reg.TB_IRIGCFG F.TB_IRIGCFG_EN = true → f.good = false →
    ∃ t, exec (.irigFrame n f) s = .next t ∧ t.tb = { s.tb with irigPrev := none } ∧ t.val Reg.TB_IRIGSTAT = 0 ∧
      t.flag Reg.TB_STAT F.TB_STAT_IRIGLOCK = false ∧ (t.val Reg.TB_ERRSTAT).testBit 5 = true ∧
      Frame [.now, .tb, .sys, .evc] [.TB, .EVC] s t) ∧
  (∀ (s : State) (n from_ : Nat) (e : HoldEst), s.powered → s.tb.holdFrom = some from_ →
    ∃ t, exec (.holdoverUpdate n e) s = .next t ∧
      t.val Reg.TB_HOLDERR = min (holdError e ((s.advanceNs n).ns - from_)) 0xFFFFFFFF ∧
      t.flag Reg.TB_TQ F.TB_TQ_HOLD = true ∧
      (1000 < holdError e ((s.advanceNs n).ns - from_) → t.flag Reg.TB_TQ F.TB_TQ_UNSYNC = true) ∧
      t.tb.holdFrom = some from_ ∧ RegsBut [Reg.TB_HOLDERR, Reg.TB_TQ] s t ∧ Frame [.now, .tb] [.TB] s t) ∧
  (∀ (s : State) (n : Nat), s.powered →
    ∃ t, exec (.tbPllUnlock n) s = .next t ∧ t.flag Reg.TB_STAT F.TB_STAT_PLLLOCK = false ∧ t.flag Reg.TB_TQ F.TB_TQ_UNSYNC = true ∧
      t.fld Reg.TB_TQ F.TB_TQ_TQCODE = 15 ∧ (t.val Reg.TB_ERRSTAT).testBit 6 = true ∧ Frame [.now, .sys, .evc] [.TB, .EVC] s t) ∧
  (∀ (s : State) (n : Nat), s.powered →
    ∃ t, exec (.tbPllLock n) s = .next t ∧ t.flag Reg.TB_STAT F.TB_STAT_PLLLOCK = true ∧ RegsBut [Reg.TB_STAT] s t ∧ Frame [.now] [.TB] s t)

/-- TIME_ECHO and TILE_COMPARE_FIRE: an echo shows its count and is given to every tile timer with the LAT cycles since the one before; a tile's
compare fires once when its count reaches the target (R91-R93).
CMP_TARGET_WRITE and CMP_CTL_WRITE: the owner of a channel commits a target, armed when EN is 1, and arms or disarms by EN; a write by a
requester that does not own it is discarded with OWNER (R95, R98, R99). -/
def Obligations.TileTimersAndCompareChannels : Prop :=
  (∀ (s : State) (n cycles : Nat), s.powered → s.flag Reg.TB_CTL F.TB_CTL_ECHOEN = true → (s.advanceNs n).ns % 1000000 = 0 →
    ∃ t, exec (.timeEcho n cycles) s = .next t ∧ t.val Reg.TB_ECHOLO = (s.advanceNs n).ns % 2 ^ 32 ∧
      t.val Reg.TB_ECHOHI = (s.advanceNs n).ns / 2 ^ 32 % 2 ^ 32 ∧ t.tb.stepSinceEcho = false ∧
      (∀ k, k < 256 → t.tileTimer k =
        ((s.tileTimer k).run cycles).echo (s.advanceNs n).ns32 (2 ^ 24 * 1000000 / cycles) s.tb.stepSinceEcho) ∧
      RegsBut [Reg.TB_ECHOLO, Reg.TB_ECHOHI] s t ∧ Frame [.now, .tb] [.TB] s t) ∧
  (∀ (s : State) (k target cycles : Nat), s.powered → (s.tileTimer k).slew = 0 →
    ∃ t, exec (.tileCompareFire k target cycles) s = .next t ∧
      (let x := s.tileTimer k
       let v := x.value + cycles * x.rate
       let far := (target % 2 ^ 32 + 2 ^ 32 - x.value / 2 ^ 24 - 1) % 2 ^ 32
       (t.tileTimer k).value = v % 2 ^ 56 ∧
       (far < v / 2 ^ 24 - x.value / 2 ^ 24 → (t.tileTimer k).fires = x.fires + 1 ∧ (t.tileTimer k).target = none) ∧
       (v / 2 ^ 24 - x.value / 2 ^ 24 ≤ far → (t.tileTimer k).fires = x.fires ∧ (t.tileTimer k).target = some (target % 2 ^ 32))) ∧
      (∀ j, j ≠ k → t.tileTimer j = s.tileTimer j) ∧ t.tb = { s.tb with tiles := t.tb.tiles } ∧ Frame [.tb] [] s t) ∧
  (∀ (s : State) (req : Requester) (c v : Nat), s.powered → s.mayWrite req (Reg.TB_CMPnTGT c) v → c < 32 →
    (notOwner req c = false →
      ∃ t, exec (.cmpTargetWrite req c v) s = .next t ∧ t.val (Reg.TB_CMPnTGT c) = v % 2 ^ 32 ∧
        t.cmpTarget c = (v * 65536 + s.val (Reg.TB_CMPnTGTF c) % 65536) % 2 ^ 48 ∧
        (s.flag (Reg.TB_CMPnCTL c) F.TB_CMPnCTL_EN = true → t.flag (Reg.TB_CMPnSTAT c) F.TB_CMPnSTAT_ARMED = true) ∧
        (∀ j, j ≠ c → t.cmpTarget j = s.cmpTarget j) ∧ RegsBut [Reg.TB_CMPnTGT c, Reg.TB_CMPnSTAT c] s t ∧ Frame [.tb] [.TB] s t) ∧
    (notOwner req c = true →
      ∃ t, exec (.cmpTargetWrite req c v) s = .next t ∧ t.tb = s.tb ∧ (t.val Reg.TB_ERRSTAT).testBit 2 = true ∧
        Frame [.sys, .evc] [.TB, .EVC] s t)) ∧
  (∀ (s : State) (req : Requester) (c v : Nat), s.powered → s.mayWrite req (Reg.TB_CMPnCTL c) v → c < 32 → notOwner req c = false →
    (s.cmpCtlOk c v = true →
      ∃ t, exec (.cmpCtlWrite req c v) s = .next t ∧ t.val (Reg.TB_CMPnCTL c) = v % 2 ^ 20 ∧
        (bitAt v 0 ≠ s.fld (Reg.TB_CMPnCTL c) F.TB_CMPnCTL_EN →
          t.fld (Reg.TB_CMPnSTAT c) F.TB_CMPnSTAT_ARMED = bitAt v 0) ∧
        RegsBut [Reg.TB_CMPnCTL c, Reg.TB_CMPnSTAT c] s t ∧ Frame [] [.TB] s t) ∧
    (s.cmpCtlOk c v = false →
      ∃ t, exec (.cmpCtlWrite req c v) s = .next t ∧ t.reg (Reg.TB_CMPnCTL c) = s.reg (Reg.TB_CMPnCTL c) ∧
        (t.val Reg.TB_ERRSTAT).testBit 3 = true ∧ Frame [.sys, .evc] [.TB, .EVC] s t))

/-- COMPARE_FIRE, TPO_PULSE_END and TDC_EDGE: every channel that is due fires, a one-shot one disarmed; a pulse ends when its WIDTH has passed; an
edge that an enabled input takes enters its FIFO as a stamp, or is dropped with TDCOVF when the FIFO is full (R95, R97, R102-R104). -/
def Obligations.TimePinsAct : Prop :=
  (∀ (s : State) (n frac : Nat), s.powered →
    ∃ t, exec (.compareFire n frac) s = .next t ∧
      (let u : State := { s with now := max s.now (n * 2 ^ 24 + frac % 2 ^ 24) }
       (∀ c, c ∈ u.dueCmps → t.flag (Reg.TB_CMPnSTAT c) F.TB_CMPnSTAT_FIRED = true ∧
          t.val (Reg.TB_CMPnCNT c) = min (s.val (Reg.TB_CMPnCNT c) + 1) 0xFFFFFFFF ∧
          (s.flag (Reg.TB_CMPnCTL c) F.TB_CMPnCTL_PERIODIC = false → t.flag (Reg.TB_CMPnSTAT c) F.TB_CMPnSTAT_ARMED = false)) ∧
       (∀ c, c < 32 → c ∉ u.dueCmps → t.reg (Reg.TB_CMPnSTAT c) = s.reg (Reg.TB_CMPnSTAT c) ∧
          t.reg (Reg.TB_CMPnCNT c) = s.reg (Reg.TB_CMPnCNT c) ∧ t.cmpTarget c = s.cmpTarget c)) ∧
      Frame [.now, .sys, .tb, .afe, .cap, .lat, .cores, .tsk, .evc] [.TB, .AFE, .LAT, .EVC, .TSK] s t) ∧
  (∀ (s : State) (n m e : Nat), s.powered → (s.tpo m).endsAt = some e → e ≤ (s.advanceNs n).ns →
    ∃ t, exec (.tpoPulseEnd n m) s = .next t ∧ t.tpo m = { active := false, endsAt := none } ∧ (∀ j, j ≠ m → t.tpo j = s.tpo j) ∧
      t.tb = { s.tb with tpo := t.tb.tpo } ∧ Frame [.now, .tb] [] s t) ∧
  (∀ (s : State) (k n frac : Nat) (rising : Bool), s.powered → k < 3 → s.flag Reg.TB_CTL F.TB_CTL_TDCEN = true →
    s.flag (Reg.TB_TDCkCFG k) F.TB_TDCkCFG_EN = true → edgeTaken (bitsOf (s.val (Reg.TB_TDCkCFG k)) 1 2) rising = true → (s.tdc k).last = none →
    ((s.tdc k).fifo.length < 16 →
      ∃ t, exec (.tdcEdge k n frac rising) s = .next t ∧
        (let y := (stampOf n frac : Int) - signed 16 (s.val (Reg.TB_TDCkCFG k) / 2 ^ 16) * 16
         (t.tdc k).fifo = (s.tdc k).fifo ++ [{ ns32 := (y / 128 % 2 ^ 32).toNat, frac := (y % 128).toNat, ovf := (s.tdc k).ovf }]) ∧
        (t.tdc k).last = some (stampOf n frac) ∧ (∀ j, j ≠ k → t.tdc j = s.tdc j) ∧ Frame [.now, .tb] [] s t) ∧
    (16 ≤ (s.tdc k).fifo.length →
      ∃ t, exec (.tdcEdge k n frac rising) s = .next t ∧ (t.tdc k).fifo = (s.tdc k).fifo ∧ (t.tdc k).ovf = true ∧
        t.val (Reg.TB_TDCkDROP k) = min (s.val (Reg.TB_TDCkDROP k) + 1) 0xFFFFFFFF ∧ (t.val Reg.TB_ERRSTAT).testBit 4 = true ∧
        Frame [.now, .sys, .tb, .evc] [.TB, .EVC] s t))

/-! ### Snapshot alignment and provisional release (chapters 05, 06) -/

/-- SNAPSHOT_OPEN and FINAL_RELEASE: a snapshot opens for the instant that has come, with its SEQ, members and close time; the head of a class is
finally released once its window closes: it is counted, its SEQ shown, its run handed to the detectors, its members' misses counted
(R106, R107, R110-R114). -/
def Obligations.SnapshotsOpenAndRelease : Prop :=
  (∀ (s : State) (n c : Nat), s.powered →
    let u := s.advanceNs n
    let i := latestInst (s.rate c) u.ns
    let at_ := instantOf (s.rate c) i.1 i.2
    (u.snapRunning = true → s.scEn c = true → s.rate c ≠ 0 → (s.sc c).isNew at_ = true →
      ∃ t, exec (.snapshotOpen n c) s = .next t ∧
        (∃ x ∈ (t.sc c).snaps, x.inst = at_ ∧ x.seq = seqOf (s.rate c) i.1 i.2 ∧ x.tc = at_ + x.win * 1000 ∧
          x.members = s.openMembers c (seqOf (s.rate c) i.1 i.2) ∧ x.slots = [] ∧ x.finalAt = none ∧
          x.win ≤ s.val (Reg.SNAP_SCnWMAX c) ∧ t.val (Reg.SNAP_SCnWCUR c) = x.win) ∧
        (t.sc c).lastInst = some at_ ∧ Frame [.now, .sys, .snap, .evc, .chd] [.SNAP, .EVC, .CHD] s t) ∧
    ((u.snapRunning = false ∨ s.scEn c = false ∨ s.rate c = 0 ∨ (s.sc c).isNew at_ = false) →
      exec (.snapshotOpen n c) s = .next u)) ∧
  (∀ (s : State) (n c : Nat) (x : Snapshot) (ecc : List Nat), s.powered →
    let u := s.advanceNs n
    u.snapRunning = true → s.scEn c = true → (s.sc c).head = some x → s.followsDigest c x = false →
    (u.ns < x.tc → exec (.finalRelease n c ecc) s = .next u) ∧
    (x.tc ≤ u.ns → x.promoting = false →
      ∃ t, exec (.finalRelease n c ecc) s = .next t ∧
        t.val (Reg.SNAP_SCnRELEASED c) = min (s.val (Reg.SNAP_SCnRELEASED c) + 1) 0xFFFFFFFF ∧
        t.val (Reg.SNAP_SCnSEQ c) = x.seq % 2 ^ 32 ∧
        (∃ run, t.det = { s.det with runs := s.det.runs ++ [run] } ∧ run.sc = c ∧ run.prov = false ∧ run.snap.seq = x.seq ∧
          run.snap.slots.map (·.1) = x.slots.map (·.1)) ∧
        (∃ l, (t.sc c).last = some l ∧ l.seq = x.seq ∧ l.kind = 2 ∧ l.inst = x.inst) ∧
        (x.members.Nodup → ∀ v ∈ x.members,
          (x.slots.any (·.1 == v) = true → (t.stream v).missing = 0 ∧ (t.stream v).absent = false) ∧
          (x.slots.any (·.1 == v) = false → (t.stream v).missing = (s.stream v).missing + 1 ∧
            ((t.stream v).absent = true ↔ (s.stream v).absent = true ∨ s.val (Reg.SNAP_SCnMISSN c) % 256 ≤ (s.stream v).missing + 1))) ∧
        Frame [.devMem, .hostMem, .now, .sys, .snap, .det, .modal, .cap, .lat, .evc, .chd, .free]
          [.SNAP, .DET, .MODAL, .CAP, .LAT, .EVC, .CHD] s t))

/-- PROVISIONAL_RELEASE, AMEND_HORIZON and PROMOTION_COMPLETE: a head that meets the conditions is released provisionally once and keeps filling;
at the horizon a snapshot that gained late frames is released as amended and its slots are freed; promoted slots lie on chip
(R117, R119, R130, R132, R137). -/
def Obligations.SnapshotsReleasedEarlyAndAmended : Prop :=
  (∀ (s : State) (n c : Nat) (x : Snapshot), s.powered →
    let u := s.advanceNs n
    u.snapRunning = true → s.scEn c = true → (s.sc c).head = some x → s.followsDigest c x = false → s.sys.mode ≠ .shadow →
    (s.sys.mode.provisional = true → u.provOk c x = true →
      ∃ t, exec (.provisionalRelease n c) s = .next t ∧ (∃ y ∈ (t.sc c).snaps, y.seq = x.seq ∧ y.prov ≠ none ∧ y.slots = x.slots ∧ y.finalAt = none) ∧
        (∃ l, (t.sc c).last = some l ∧ l.seq = x.seq ∧ l.kind = 1) ∧
        t.val (Reg.SNAP_SCnPROV c) = min (s.val (Reg.SNAP_SCnPROV c) + 1) 0xFFFFFFFF ∧
        t.reg (Reg.SNAP_SCnRELEASED c) = s.reg (Reg.SNAP_SCnRELEASED c) ∧
        Frame [.hostMem, .now, .sys, .snap, .det, .modal, .lat, .evc, .chd] [.SNAP, .DET, .MODAL, .LAT, .EVC, .CHD] s t) ∧
    ((s.sys.mode.provisional = false ∨ u.provOk c x = false) → exec (.provisionalRelease n c) s = .next u)) ∧
  (∀ (s : State) (n c : Nat), s.powered →
    let u := s.advanceNs n
    ((s.sc c).snaps.find? (fun x => x.finalAt.isSome && s.horizon c x ≤ u.ns) = none → exec (.amendHorizon n c) s = .next u) ∧
    (∀ x, (s.sc c).snaps.find? (fun x => x.finalAt.isSome && s.horizon c x ≤ u.ns) = some x →
      ∃ t, exec (.amendHorizon n c) s = .next t ∧ (t.sc c).snaps = (s.sc c).snaps.filter (fun y => y.inst != x.inst) ∧
        (t.sc c).past = (x.inst, x.members, x.slots.map (·.1)) :: (s.sc c).past ∧
        (u.snapRunning = true → x.slots.any (fun p => p.2.late) = true →
          t.val (Reg.SNAP_SCnAMENDED c) = min (s.val (Reg.SNAP_SCnAMENDED c) + 1) 0xFFFFFFFF) ∧
        (x.slots.any (fun p => p.2.late) = false → t.hostMem = s.hostMem ∧ RegsBut [] s t) ∧
        Frame [.hostMem, .now, .sys, .snap, .evc] [.SNAP, .EVC] s t)) ∧
  (∀ (s : State) (n c : Nat) (x : Snapshot), s.powered → (s.sc c).head = some x →
    (x.promoting = true →
      ∃ t, exec (.promotionComplete n c) s = .next t ∧
        (t.sc c).snaps = replaceSnap { x with promoting := false, onchip := x.onchip + x.spill, spill := 0 } (s.sc c).snaps ∧
        (∀ j, j ≠ c → t.sc j = s.sc j) ∧ RegsBut [] s t ∧ Frame [.now, .snap] [] s t) ∧
    (x.promoting = false → exec (.promotionComplete n c) s = .next (s.advanceNs n)))

/-- SNAP_SUBSCRIBE, SNAP_UNSUBSCRIBE and LAST_READ: the first free subscription takes the ring, classes, form, kinds and queue, and is answered; a
bad size is answered RANGE, an empty class mask ARG, no free one NOSPACE; an index not in use ABSENT; a read of LASTn answers its first word and
latches the rest (R122, R126). -/
def Obligations.SubscriptionsAndLast : Prop :=
  (∀ (s : State) (h : CmdHdr) (base size classes form kinds queue : Nat), s.powered → s.admits 0x0301 h → s.sys.mode.subs = true →
    ((∀ k, k < 16 → bitAt (s.val (Reg.SNAP_SUBkCTL k)) 0 = 1) →
      ∃ t, exec (.snapSubscribe h base size classes form kinds queue) s = .next t ∧ Answers s t 0x0301 h.tag .nospace [] ∧
        RegsBut [] s t ∧ Frame [.hif] [] s t) ∧
    (∀ k, (List.range 16).find? (fun k => bitAt (s.val (Reg.SNAP_SUBkCTL k)) 0 = 0) = some k →
      ((size < 16 ∨ 65536 < size ∨ 2 ^ Nat.log2 size ≠ size) →
        ∃ t, exec (.snapSubscribe h base size classes form kinds queue) s = .next t ∧ Answers s t 0x0301 h.tag .range [] ∧
          RegsBut [] s t ∧ Frame [.hif] [] s t) ∧
      (16 ≤ size → size ≤ 65536 → 2 ^ Nat.log2 size = size →
        ((classes % 256 = 0 ∨ kinds % 8 = 0 ∨ 3 < form ∨ queue < 8 ∨ 23 < queue) →
          ∃ t, exec (.snapSubscribe h base size classes form kinds queue) s = .next t ∧ Answers s t 0x0301 h.tag .arg [] ∧
            RegsBut [] s t ∧ Frame [.hif] [] s t) ∧
        (classes % 256 ≠ 0 → kinds % 8 ≠ 0 → form ≤ 3 → 8 ≤ queue → queue ≤ 23 →
          ∃ t, exec (.snapSubscribe h base size classes form kinds queue) s = .next t ∧ Answers s t 0x0301 h.tag .ok [k] ∧
            t.val (Reg.SNAP_SUBkCTL k) = 1 + classes % 256 * 2 + form * 2 ^ 9 + kinds % 8 * 2 ^ 11 + queue * 2 ^ 16 ∧
            t.val (Reg.SNAP_SUBkBASELO k) = base % 2 ^ 32 ∧ t.val (Reg.SNAP_SUBkSIZE k) = Nat.log2 size ∧
            t.val (Reg.SNAP_SUBkHEAD k) = 0 ∧ t.val (Reg.SNAP_SUBkTAIL k) = 0 ∧ t.srcCfg (0x0C0 + k) % 32 = queue ∧
            bitAt (t.srcCfg (0x0C0 + k)) 11 = 1 ∧
            RegsBut [Reg.SNAP_SUBkCTL k, Reg.SNAP_SUBkBASELO k, Reg.SNAP_SUBkBASEHI k, Reg.SNAP_SUBkSIZE k, Reg.SNAP_SUBkHEAD k,
              Reg.SNAP_SUBkTAIL k] s t ∧ Frame [.snap, .evc, .hif] [.SNAP] s t)))) ∧
  (∀ (s : State) (h : CmdHdr) (k : Nat), s.powered → s.admits 0x0302 h → s.sys.mode.subs = true →
    ((15 < k ∨ bitAt (s.val (Reg.SNAP_SUBkCTL k)) 0 = 0) →
      ∃ t, exec (.snapUnsubscribe h k) s = .next t ∧ Answers s t 0x0302 h.tag .absent [] ∧ RegsBut [] s t ∧ Frame [.hif] [] s t) ∧
    (k ≤ 15 → bitAt (s.val (Reg.SNAP_SUBkCTL k)) 0 = 1 →
      ∃ t, exec (.snapUnsubscribe h k) s = .next t ∧ Answers s t 0x0302 h.tag .ok [] ∧
        t.val (Reg.SNAP_SUBkCTL k) = s.val (Reg.SNAP_SUBkCTL k) - 1 ∧ RegsBut [Reg.SNAP_SUBkCTL k] s t ∧ Frame [.hif] [.SNAP] s t)) ∧
  (∀ (s : State) (req : Requester) (c : Nat), s.powered → s.mayRead req (Reg.SNAP_LASTn c) →
    ∃ t, exec (.lastRead req c) s = .next t ∧ ((s.sc c).last = none → t.hif.rdata = [0]) ∧
      (∀ l, (s.sc c).last = some l → ∃ w, t.hif.rdata = [w] ∧ w % 2 ^ 28 = l.seq % 2 ^ 28 ∧ (l.kind < 4 → w / 2 ^ 30 = l.kind) ∧
        (w.testBit 28 = true ↔ l.seq = seqOf (s.rate c) (latestInst (s.rate c) s.ns).1 (latestInst (s.rate c) s.ns).2) ∧
        tget (fun _ => padTo 8 []) t.snap.latches (latchKey req * 8 + c) = [w, l.seq, l.inst % 2 ^ 32, l.inst / 2 ^ 32,
          l.members + l.present * 2 ^ 16, l.cover, l.rel, l.flags]) ∧
      t.hif = { s.hif with rdata := t.hif.rdata } ∧ t.snap = { s.snap with latches := t.snap.latches } ∧ RegsBut [] s t ∧
      Frame [.snap, .hif] [] s t)

/-- LEVEL_WRITE, LEVEL_RELAX, DEBT_LEAK and WEIGHT_WRITE: a level of 0-8 is set and clears the debts, one above is refused; after PRELAX seconds a
level falls by 1; at a multiple of PRBLEAK seconds every debt falls by 1; the stream that PWSEL names takes its weight and anchor
(R129, R139, R141). -/
def Obligations.LevelsAndWeights : Prop :=
  (∀ (s : State) (req : Requester) (c v : Nat), s.powered → s.mayWrite req (Reg.SNAP_SCnPSTATE c) v →
    (8 < v % 16 →
      ∃ t, exec (.levelWrite req c v) s = .next t ∧ (t.val Reg.SNAP_ERRSTAT).testBit 0 = true ∧
        RegsBut [Reg.SNAP_ERRSTAT, Reg.EVC_MERGEDCNT] s t ∧ Frame [.sys, .evc] [.SNAP, .EVC] s t) ∧
    (v % 16 ≤ 8 →
      ∃ t, exec (.levelWrite req c v) s = .next t ∧ t.plevel c = v % 16 ∧ t.debt c 0 = 0 ∧ t.debt c 1 = 0 ∧ t.debt c 2 = 0 ∧
        (t.sc c).relaxFrom = s.ns ∧ (v % 16 = 8 → s.plevel c ≠ 8 → (t.val Reg.SNAP_ERRSTAT).testBit 7 = true) ∧
        (∀ m, m < 8 → m ≠ c % 8 → t.reg (Reg.SNAP_SCnPSTATE m) = s.reg (Reg.SNAP_SCnPSTATE m)) ∧
        Frame [.sys, .snap, .evc, .chd, .ldg] [.SNAP, .EVC, .CHD, .LDG] s t)) ∧
  (∀ (s : State) (n c : Nat), s.powered →
    let u := s.advanceNs n
    (s.val Reg.SNAP_PRELAX % 65536 ≠ 0 → s.plevel c ≠ 0 → (s.sc c).relaxFrom + s.val Reg.SNAP_PRELAX % 65536 * 1000000000 ≤ u.ns →
      ∃ t, exec (.levelRelax n c) s = .next t ∧ t.plevel c = s.plevel c - 1 ∧ t.debt c 0 = s.debt c 0 ∧ t.debt c 1 = s.debt c 1 ∧
        t.debt c 2 = s.debt c 2 ∧ (t.sc c).relaxFrom = u.ns ∧
        (∀ m, m < 8 → m ≠ c % 8 → t.reg (Reg.SNAP_SCnPSTATE m) = s.reg (Reg.SNAP_SCnPSTATE m)) ∧
        Frame [.now, .sys, .snap, .evc, .chd, .ldg] [.SNAP, .EVC, .CHD, .LDG] s t) ∧
    ((s.val Reg.SNAP_PRELAX % 65536 = 0 ∨ s.plevel c = 0 ∨
        u.ns < (s.sc c).relaxFrom + s.val Reg.SNAP_PRELAX % 65536 * 1000000000) → exec (.levelRelax n c) s = .next u)) ∧
  (∀ (s : State) (n : Nat), s.powered →
    let u := s.advanceNs n
    (u.taiSec % (s.val Reg.SNAP_PRBLEAK % 65536) = 0 →
      ∃ t, exec (.debtLeak n) s = .next t ∧
        (∀ c, c < 8 → t.plevel c = s.plevel c ∧ ∀ d, d < 3 → t.debt c d = s.debt c d - 1) ∧ Frame [.now, .chd] [.SNAP, .CHD] s t) ∧
    (u.taiSec % (s.val Reg.SNAP_PRBLEAK % 65536) ≠ 0 → exec (.debtLeak n) s = .next u)) ∧
  (∀ (s : State) (req : Requester) (v : Nat), s.powered → s.mayWrite req Reg.SNAP_PWVAL v →
    ∃ t, exec (.weightWrite req v) s = .next t ∧
      t.stream (s.val Reg.SNAP_PWSEL % 8192) =
        { s.stream (s.val Reg.SNAP_PWSEL % 8192) with weight := v % 256, anchor := bitAt v 8 == 1 } ∧
      (∀ x, x ≠ s.val Reg.SNAP_PWSEL % 8192 → t.stream x = s.stream x) ∧ (∀ c, t.sc c = s.sc c) ∧ Frame [.snap, .chd] [.CHD] s t)

/-! ### Topology (chapter 07) -/

/-- TOPOLOGY_TICK, SPLIT_RECOMPUTE_DONE and TOPO_EDIT: nothing away from a tick; a working copy whose split recomputation runs waits and is
counted late; else it becomes the next generation, and its batch completes; a tick evaluates every edge and builds a working copy from what
changed or was edited; an edit is refused while one waits, out of range or at its first failing operation, else it waits for the tick
(R153, R156, R157, R162).
AGGREGATION_PASS and AGGREGATION_PASS_COMPLETE: a pass starts at each interval while the lattice runs, an overrun one is counted; when it ends
the copy that was not current becomes current, with the pass's number; with the lattice stopped it is abandoned (R159). -/
def Obligations.TopologyAndAggregation : Prop :=
  (∀ (s : State) (n : Nat), s.powered →
    let u := s.advanceNs n
    ((s.sys.mode.topo = false ∨ s.flag Reg.TOPO_CTL F.TOPO_CTL_EN = false ∨ u.ns % s.topoPeriod ≠ 0) →
      exec (.topologyTick n) s = .next u) ∧
    (s.sys.mode.topo = true → s.flag Reg.TOPO_CTL F.TOPO_CTL_EN = true → u.ns % s.topoPeriod = 0 →
      (s.follows = true → u.stagedEdges = [] → (∀ d ∈ s.chd.staged, d ≠ .topoCommit u.ns) →
        ∃ t, exec (.topologyTick n) s = .next t ∧ RegsBut [] s t ∧ Frame [.now, .chd] [] s t) ∧
      (s.follows = true → u.stagedEdges ≠ [] →
        ∃ t, exec (.topologyTick n) s = .next t ∧ t.val Reg.TOPO_GEN = (s.val Reg.TOPO_GEN + 1) % 2 ^ 32 ∧
          Frame [.devMem, .now, .sys, .topo, .evc, .chd, .ldg, .hif] [.SYS, .TOPO, .EVC, .CHD, .LDG] s t) ∧
      (s.follows = false →
        (∀ w, s.topo.work = some w → s.flag Reg.TOPO_STAT F.TOPO_STAT_SPLITBUSY = true →
          ∃ t, exec (.topologyTick n) s = .next t ∧ t.val Reg.TOPO_GENLAG = min (s.val Reg.TOPO_GENLAG + 1) 0xFFFFFFFF ∧
            (t.val Reg.TOPO_ERRSTAT).testBit 1 = true ∧ t.reg Reg.TOPO_GEN = s.reg Reg.TOPO_GEN ∧ t.topo.work = some w ∧
            t.topo.gens = s.topo.gens ∧ t.topo.batch = s.topo.batch ∧
            Frame [.devMem, .now, .sys, .topo, .evc, .chd] [.TOPO, .EVC] s t) ∧
        (∀ w, s.topo.work = some w → s.flag Reg.TOPO_STAT F.TOPO_STAT_SPLITBUSY = false →
          ∃ t, exec (.topologyTick n) s = .next t ∧
            let gen := (s.val Reg.TOPO_GEN + 1) % 2 ^ 32
            t.val Reg.TOPO_GEN = gen ∧ t.val Reg.TOPO_GENTICK = u.ns % 2 ^ 32 ∧
            t.topo.gens = ({ gen := gen, tick := u.ns, facets := w.facets } :: s.topo.gens).take 256 ∧
            t.val Reg.TOPO_COMMITS = min (s.val Reg.TOPO_COMMITS + 1) 0xFFFFFFFF ∧
            t.val Reg.TOPO_SPLITS = min (s.val Reg.TOPO_SPLITS + w.splits) 0xFFFFFFFF ∧
            t.val Reg.TOPO_MERGES = min (s.val Reg.TOPO_MERGES + w.merges) 0xFFFFFFFF ∧
            (w.batch = none → t.hif = s.hif) ∧
            (∀ b tag, w.batch = some b → b.tag = some tag → s.heard 0x0401 tag → t.flag Reg.TOPO_STAT F.TOPO_STAT_EDITBUSY = false ∧
              (s.holds = false → Answers s t 0x0401 tag .ok [gen]) ∧
              (s.holds = true → t.hif = { s.hif with
                held := s.hif.held ++ [(s.chd.deltaSeq, { code := 0x0401, status := Status.ok.code, tag := tag, res := [gen] })] })) ∧
            Frame [.devMem, .now, .sys, .topo, .evc, .chd, .ldg, .hif] [.SYS, .TOPO, .EVC, .CHD, .LDG] s t) ∧
        (s.topo.work = none → s.topo.batch = none → s.topo.dirty = false → (∀ e ∈ s.edgeList, u.edgeNow e = s.edgeState e) →
          ∃ t, exec (.topologyTick n) s = .next t ∧ RegsBut [] s t ∧ Frame [.now, .chd] [] s t) ∧
        (s.topo.work = none → s.topo.batch = none → (s.topo.dirty = true ∨ ∃ e ∈ s.edgeList, u.edgeNow e ≠ s.edgeState e) →
          ∃ t w, exec (.topologyTick n) s = .next t ∧ t.topo.work = some w ∧ w.batch = none ∧ w.facets = t.label ∧
            t.topo.dirty = false ∧ (∀ e ∈ s.edgeList, t.edgeState e = u.edgeNow e) ∧
            (t.flag Reg.TOPO_STAT F.TOPO_STAT_SPLITBUSY = true ↔ w.splits ≠ 0) ∧ t.reg Reg.TOPO_GEN = s.reg Reg.TOPO_GEN ∧
            t.topo.gens = s.topo.gens ∧ Frame [.devMem, .now, .sys, .topo, .evc, .chd] [.TOPO, .EVC, .CHD] s t) ∧
        (∀ b, s.topo.work = none → s.topo.batch = some b →
          ∃ t w, exec (.topologyTick n) s = .next t ∧ t.topo.work = some w ∧ w.batch = some b ∧ t.topo.batch = none ∧
            t.reg Reg.TOPO_GEN = s.reg Reg.TOPO_GEN ∧ t.hif = s.hif ∧
            Frame [.devMem, .now, .sys, .topo, .evc, .chd] [.TOPO, .EVC, .CHD] s t)))) ∧
  (∀ (s : State) (n : Nat), s.powered →
    ∃ t, exec (.splitRecomputeDone n) s = .next t ∧ t.flag Reg.TOPO_STAT F.TOPO_STAT_SPLITBUSY = false ∧
      RegsBut [Reg.TOPO_STAT] s t ∧ Frame [.now] [.TOPO] s t) ∧
  (∀ (s : State) (h : CmdHdr) (addr count : Nat), s.powered → s.admits 0x0401 h → s.sys.mode.edits = true →
    ((s.topo.batch ≠ none ∨ ∃ w, s.topo.work = some w ∧ w.batch ≠ none) →
      Replies (.topoEdit h addr count) s 0x0401 h.tag .busy [0]) ∧
    (s.topo.batch = none → (∀ w, s.topo.work = some w → w.batch = none) →
      ((count = 0 ∨ 4096 < count) →
        Replies (.topoEdit h addr count) s 0x0401 h.tag .range [0]) ∧
      (0 < count → count ≤ 4096 →
        let ops := topoOps (s.hostBytes addr (32 * count)) count
        (∀ st i, firstFault (chargedOps (s.applyOps ops) ops) ops 0 s = some (st, i) →
          Replies (.topoEdit h addr count) s 0x0401 h.tag st [i]) ∧
        (firstFault (chargedOps (s.applyOps ops) ops) ops 0 s = none →
          ∃ t, exec (.topoEdit h addr count) s = .next t ∧ t.topo = { s.topo with batch := some { tag := some h.tag, ops := ops } } ∧
            t.flag Reg.TOPO_STAT F.TOPO_STAT_EDITBUSY = true ∧
            t.hif = { s.hif with inProg := s.hif.inProg ++ [{ code := 0x0401, tag := h.tag }] } ∧
            RegsBut [Reg.TOPO_STAT, Reg.CHD_DELTAS] s t ∧ Frame [.topo, .chd, .hif] [.TOPO, .CHD] s t)))) ∧
  (∀ (s : State) (n : Nat) (ecc : List Nat), s.powered →
    let u := s.advanceNs n
    ((s.flag Reg.TOPO_CTL F.TOPO_CTL_AGGEN = false ∨ s.latRuns = false ∨ u.ns % (s.val Reg.TOPO_AGGINT % 65536 * 1000000) ≠ 0) →
      exec (.aggregationPass n ecc) s = .next u) ∧
    (s.flag Reg.TOPO_CTL F.TOPO_CTL_AGGEN = true → s.latRuns = true → u.ns % (s.val Reg.TOPO_AGGINT % 65536 * 1000000) = 0 →
      (s.topo.agg ≠ none →
        ∃ t, exec (.aggregationPass n ecc) s = .next t ∧ t.val Reg.TOPO_AGGOVR = min (s.val Reg.TOPO_AGGOVR + 1) 0xFFFFFFFF ∧
          (t.val Reg.TOPO_ERRSTAT).testBit 3 = true ∧
          RegsBut [Reg.TOPO_AGGOVR, Reg.TOPO_ERRSTAT, Reg.EVC_MERGEDCNT] s t ∧ Frame [.now, .sys, .evc] [.TOPO, .EVC] s t) ∧
      (s.topo.agg = none →
        ∃ t p, exec (.aggregationPass n ecc) s = .next t ∧ t.topo = { s.topo with agg := some p } ∧ p.tref = u.ns ∧
          t.flag Reg.TOPO_STAT F.TOPO_STAT_AGGBUSY = true ∧ (ecc = [] → RegsBut [Reg.TOPO_STAT] s t) ∧
          Frame [.devMem, .now, .sys, .topo, .lat, .evc] [.TOPO, .EVC] s t))) ∧
  (∀ (s : State) (n : Nat), s.powered →
    let u := s.advanceNs n
    (s.topo.agg = none → exec (.aggregationPassComplete n) s = .next u) ∧
    (∀ p, s.topo.agg = some p →
      (s.latRuns = false →
        ∃ t, exec (.aggregationPassComplete n) s = .next t ∧ t.topo = { s.topo with agg := none } ∧
          t.flag Reg.TOPO_STAT F.TOPO_STAT_AGGBUSY = false ∧ RegsBut [Reg.TOPO_STAT] s t ∧ Frame [.now, .topo] [.TOPO] s t) ∧
      (s.latRuns = true →
        ∃ t, exec (.aggregationPassComplete n) s = .next t ∧ t.topo.agg = none ∧ t.flag Reg.TOPO_STAT F.TOPO_STAT_AGGBUSY = false ∧
          t.flag Reg.TOPO_STAT F.TOPO_STAT_AGGCUR = !s.flag Reg.TOPO_STAT F.TOPO_STAT_AGGCUR ∧
          t.val Reg.TOPO_AGGPASS = p.tref / 1000000 / (s.val Reg.TOPO_AGGINT % 65536) % 2 ^ 32 ∧
          (s.follows = false → ∃ pc, t.det.passes = (pc :: s.det.passes).take 4 ∧ pc.tref = p.tref ∧
            pc.facets.map (·.fid) = p.facets.map (·.1)) ∧
          Frame [.devMem, .now, .sys, .topo, .det, .evc, .chd] [.TOPO, .EVC, .CHD] s t)))

/-! ### Detectors and oscillation analysis (chapters 08, 09) -/

/-- DET_TCMD_WRITE and DET_TCMD_READ, MODAL_TCMD_WRITE and MODAL_TCMD_READ, BANK_COPY_COMPLETE: a table entry goes to the inactive bank, waits
while the bank copy runs, and is refused in SHADOW or outside its table; a read shows the active bank's entry; at the end of the copy the banks are
equal but for the writes that waited (R183, R184, R205, R206). -/
def Obligations.BanksAndTables : Prop :=
  (∀ (s : State) (req : Requester), s.powered → s.mayWrite req Reg.DET_TCMD 1 →
    let k := s.val Reg.DET_TSEL % 4
    let i := bitsOf (s.val Reg.DET_TSEL) 4 16
    let w := detEntry k (s.tvals (Reg.DET_TVALj 0))
    let lo := bitsOf (w.getD 1 0) 16 12
    let hi := bitsOf (w.getD 1 0) 0 12
    (s.sys.mode = .shadow → Faults (.detTcmdWrite req) s E.DET 0) ∧
    (s.sys.mode ≠ .shadow →
      ((detTableSize k ≤ i ∨ (k = 2 ∧ (w.getD 0 0 % 65536 = w.getD 0 0 / 65536 ∨ hi ≤ lo))) → Faults (.detTcmdWrite req) s E.DET 4) ∧
      (i < detTableSize k → k = 2 → w.getD 0 0 % 65536 ≠ w.getD 0 0 / 65536 → lo < hi → 1800 < hi →
        Faults (.detTcmdWrite req) s E.DET 0) ∧
      (i < detTableSize k → (k = 2 → w.getD 0 0 % 65536 ≠ w.getD 0 0 / 65536 ∧ lo < hi ∧ hi ≤ 1800) →
        ∃ t, exec (.detTcmdWrite req) s = .next t ∧ RegsBut [Reg.CHD_DELTAS] s t ∧
          (s.flag Reg.DET_STAT F.DET_STAT_TBUSY = true → t.det = { s.det with held := s.det.held ++ [.entry k i w] } ∧ t.chd = s.chd) ∧
          (s.flag Reg.DET_STAT F.DET_STAT_TBUSY = false →
            (s.lat.abank = 0 → t.det = { s.det with bankB := s.det.bankB.take (.entry k i w) } ∧ t.det.bankB.entry k i = w) ∧
            (s.lat.abank ≠ 0 → t.det = { s.det with bankA := s.det.bankA.take (.entry k i w) } ∧ t.det.bankA.entry k i = w)) ∧
          Frame [.det, .chd] [.CHD] s t))) ∧
  (∀ (s : State) (req : Requester), s.powered → s.mayWrite req Reg.DET_TCMD 2 →
    (s.sys.mode = .shadow → Faults (.detTcmdRead req) s E.DET 0) ∧
    (s.sys.mode ≠ .shadow →
      ∃ t, exec (.detTcmdRead req) s = .next t ∧
        (∀ j, j < 4 → t.val (Reg.DET_TVALj j) =
          ((s.detBank s.lat.abank).entry (s.val Reg.DET_TSEL % 4) (bitsOf (s.val Reg.DET_TSEL) 4 16)).getD j 0 % 2 ^ 32) ∧
        RegsBut ((List.range 4).map Reg.DET_TVALj) s t ∧ Frame [] [.DET] s t)) ∧
  (∀ (s : State) (req : Requester), s.powered → s.mayWrite req Reg.MODAL_TCMD 1 →
    let k := s.val Reg.MODAL_TSEL % 4
    let i := bitsOf (s.val Reg.MODAL_TSEL) 4 12
    let w := modEntry k (s.tvals (Reg.MODAL_TVALj 0))
    (s.sys.mode = .shadow → Faults (.modalTcmdWrite req) s E.MODAL 0) ∧
    (s.sys.mode ≠ .shadow →
      (s.modRefused k i w = true → Faults (.modalTcmdWrite req) s E.MODAL 1) ∧
      (s.modRefused k i w = false →
        ∃ t, exec (.modalTcmdWrite req) s = .next t ∧ RegsBut [Reg.CHD_DELTAS] s t ∧
          (k = 2 → t.baseline i = (w.getD 0 0, w.getD 1 0) ∧ (∀ j, j ≠ i → t.baseline j = s.baseline j) ∧
            t.modal = { s.modal with base := t.modal.base, runs := t.modal.runs }) ∧
          (k ≠ 2 → s.flag Reg.MODAL_STAT F.MODAL_STAT_TBUSY = true →
            t.modal = { s.modal with held := s.modal.held ++ [.entry k i w] } ∧ t.chd = s.chd) ∧
          (k ≠ 2 → s.flag Reg.MODAL_STAT F.MODAL_STAT_TBUSY = false →
            (s.lat.abank = 0 → t.modal = { s.modal with bankB := s.modal.bankB.take (.entry k i w) }) ∧
            (s.lat.abank ≠ 0 → t.modal = { s.modal with bankA := s.modal.bankA.take (.entry k i w) })) ∧
          Frame [.modal, .chd] [.CHD] s t))) ∧
  (∀ (s : State) (req : Requester), s.powered → s.mayWrite req Reg.MODAL_TCMD 2 →
    let k := s.val Reg.MODAL_TSEL % 4
    let i := bitsOf (s.val Reg.MODAL_TSEL) 4 12
    let w := if k = 2 then [(s.baseline i).1, (s.baseline i).2, 0, 0] else (s.modBank s.lat.abank).entry k i
    ∃ t, exec (.modalTcmdRead req) s = .next t ∧ (∀ j, j < 4 → t.val (Reg.MODAL_TVALj j) = w.getD j 0 % 2 ^ 32) ∧
      RegsBut ((List.range 4).map Reg.MODAL_TVALj) s t ∧ Frame [] [.MODAL] s t) ∧
  (∀ (s : State) (n : Nat), s.powered →
    (s.flag Reg.DET_STAT F.DET_STAT_TBUSY = false → exec (.bankCopyComplete n false) s = .next (s.advanceNs n)) ∧
    (s.flag Reg.DET_STAT F.DET_STAT_TBUSY = true →
      ∃ t, exec (.bankCopyComplete n false) s = .next t ∧ t.flag Reg.DET_STAT F.DET_STAT_TBUSY = false ∧
        (s.lat.abank = 0 → t.det = { s.det with bankB := s.det.held.foldl Bank.take s.det.bankA, held := [] }) ∧
        (s.lat.abank ≠ 0 → t.det = { s.det with bankA := s.det.held.foldl Bank.take s.det.bankB, held := [] }) ∧
        RegsBut [Reg.DET_STAT, Reg.CHD_DELTAS] s t ∧ Frame [.now, .det, .chd] [.DET, .CHD] s t) ∧
    (s.flag Reg.MODAL_STAT F.MODAL_STAT_TBUSY = false → exec (.bankCopyComplete n true) s = .next (s.advanceNs n)) ∧
    (s.flag Reg.MODAL_STAT F.MODAL_STAT_TBUSY = true →
      ∃ t, exec (.bankCopyComplete n true) s = .next t ∧ t.flag Reg.MODAL_STAT F.MODAL_STAT_TBUSY = false ∧
        (s.lat.abank = 0 → t.modal = { s.modal with bankB := s.modal.held.foldl Bank.take s.modal.bankA, held := [] }) ∧
        (s.lat.abank ≠ 0 → t.modal = { s.modal with bankA := s.modal.held.foldl Bank.take s.modal.bankB, held := [] }) ∧
        RegsBut [Reg.MODAL_STAT, Reg.CHD_DELTAS] s t ∧ Frame [.now, .modal, .chd] [.MODAL, .CHD] s t))

/-- COHERE_COMPLETE, VERDICT_READY, MODAL_UPDATE_READY and GROWTH_HIT: the run in progress takes its groups; the class's oldest run, when it has
what it waits for, leaves the list, is counted and writes one record for each verdict, and only a final run changes what the detectors keep; an
update leaves the list and writes its report; a growth hit raises its alarm state and writes its record
(R133, R170, R171, R178, R179, R190, R198, R201, R203). -/
def Obligations.RunsAndUpdatesEnd : Prop :=
  (∀ (s : State) (n c : Nat) (prov : Bool), s.powered →
    let found := s.det.runs.find? (fun r => r.sc == c && r.prov == prov && r.cohere.isNone)
    (found = none → exec (.cohereComplete n c prov) s = .next (s.advanceNs n)) ∧
    (∀ r, found = some r →
      ∃ t hs, exec (.cohereComplete n c prov) s = .next t ∧
        t.det.runs = modRun c prov (fun r => { r with cohere := some hs }) s.det.runs ∧
        hs.map (·.hid) = s.classHulls (s.detBank r.bank) c ∧
        (prov = true → t.det = { s.det with runs := t.det.runs }) ∧
        (prov = false → ((tget (fun _ => []) t.det.deltas c).head?.map (·.seq)) = some r.snap.seq ∧ t.det.subjects = s.det.subjects) ∧
        Frame [.now, .sys, .det, .evc] [.TOPO, .DET, .EVC] s t)) ∧
  (∀ (s : State) (n c : Nat) (prov : Bool), s.powered →
    let u := s.advanceNs n
    let found := s.det.runs.find? (fun r => r.sc == c)
    ((found = none ∨ ∃ r, found = some r ∧ (r.prov ≠ prov ∨ s.runReady r = false)) → exec (.verdictReady n c prov) s = .next u) ∧
    (∀ r, found = some r → r.prov = prov → s.runReady r = true →
      let vs := (u.runDecisions r).1.filterMap (·.verdict)
      ∃ t, exec (.verdictReady n c prov) s = .next t ∧ t.det.runs = dropRun c s.det.runs ∧
        (prov = true → t.val Reg.DET_PROVRUNS = min (s.val Reg.DET_PROVRUNS + 1) 0xFFFFFFFF ∧
          t.reg Reg.DET_RUNS = s.reg Reg.DET_RUNS ∧ t.det.subjects = s.det.subjects ∧ t.det.steps = s.det.steps ∧
          t.det.seps = s.det.seps ∧ t.snap = s.snap ∧
          t.val Reg.DET_VRHEAD % 65536 = (s.val Reg.DET_VRHEAD + (vs.filter (fun v => v.active && !v.restep)).length) % 65536) ∧
        (prov = false → t.val Reg.DET_RUNS = min (s.val Reg.DET_RUNS + 1) 0xFFFFFFFF ∧
          t.reg Reg.DET_PROVRUNS = s.reg Reg.DET_PROVRUNS ∧
          t.det.raises = s.det.raises.filter (fun p => !(p.sc == c && p.seq == r.snap.seq)) ∧
          t.val Reg.DET_VRHEAD % 65536 = (s.val Reg.DET_VRHEAD + vs.length) % 65536) ∧
        Frame [.devMem, .now, .sys, .eth, .snap, .det, .alm, .cap, .evc, .chd, .ldg] [.ETH, .SNAP, .DET, .ALM, .EVC, .CHD, .LDG] s t)) ∧
  (∀ (s : State) (n g b : Nat), s.powered →
    let found := s.modal.runs.find? (fun r => r.group == g && r.band == b)
    (found = none → exec (.modalUpdateReady n g b) s = .next (s.advanceNs n)) ∧
    (∀ r, found = some r →
      ∃ t, exec (.modalUpdateReady n g b) s = .next t ∧ t.modal.runs = s.modal.runs.filter (fun x => !(x.group == g && x.band == b)) ∧
        t.val Reg.MODAL_UPDATES = min (s.val Reg.MODAL_UPDATES + 1) 0xFFFFFFFF ∧
        t.val Reg.MODAL_MRHEAD = (s.val Reg.MODAL_MRHEAD % 8192 + 1) % 8192 ∧
        t.val Reg.MODAL_EXCLUDED = min (s.val Reg.MODAL_EXCLUDED + r.left) 0xFFFFFFFF ∧
        (r.cols = [] → t.val Reg.MODAL_NODATAUPD = min (s.val Reg.MODAL_NODATAUPD + 1) 0xFFFFFFFF ∧
          ∀ g b i, t.track g b i = s.track g b i) ∧
        (r.cols ≠ [] → t.reg Reg.MODAL_NODATAUPD = s.reg Reg.MODAL_NODATAUPD) ∧
        Frame [.devMem, .now, .sys, .eth, .det, .modal, .alm, .cap, .evc, .chd, .ldg, .free]
          [.ETH, .MODAL, .ALM, .EVC, .CHD, .LDG] s t)) ∧
  (∀ (s : State) (n g b : Nat), s.powered →
    let found := s.modal.grows.find? (fun r => r.group == g && r.band == b)
    (found = none → exec (.growthHit n g b) s = .next (s.advanceNs n)) ∧
    (∀ w, found = some w →
      ∃ t, exec (.growthHit n g b) s = .next t ∧ t.modal.grows = s.modal.grows.filter (fun x => !(x.group == g && x.band == b)) ∧
        t.mAlarm g b 4 = { active := true, sc := w.sc, alc := grLine ((s.modBank w.bank).entry 1 g) 4 } ∧
        t.val Reg.MODAL_RAISES = min (s.val Reg.MODAL_RAISES + 1) 0xFFFFFFFF ∧
        t.val Reg.MODAL_VRHEAD = (s.val Reg.MODAL_VRHEAD % 16384 + 1) % 16384 ∧
        Frame [.devMem, .now, .sys, .eth, .det, .modal, .alm, .cap, .evc, .chd, .ldg] [.ETH, .MODAL, .ALM, .EVC, .CHD, .LDG] s t))

/-! ### Alarm lines (chapter 10) -/

/-- PIN_HOLD_EXPIRY, MINON_EXPIRY, OVERLOAD_DETECT and DIN_CHANGE: an expired hold leaves the pin count; a pin follows its channels once its
shortest on time has passed; an overload of a conducting driver is shown and counted; an enabled input that changes is taken and every channel is
counted anew (R136, R208, R210, R212, R214, R216). -/
def Obligations.PinsAndInputs : Prop :=
  (∀ (s : State) (n k : Nat), s.powered →
    let u := s.advanceNs n
    let c := s.chan k
    let kinds := ((u.published k).filter (fun x => !x.noPin)).map (·.kind) ++
      ((c.held.filter (fun h => u.ns < h.hend)).filter (fun h => s.takes k h.kind)).map (·.kind)
    (64 ≤ k → exec (.pinHoldExpiry n k) s = .next u) ∧
    (k < 64 → s.flag Reg.ALM_CTL F.ALM_CTL_EN = true →
      ∃ t, exec (.pinHoldExpiry n k) s = .next t ∧ (t.chan k).held = c.held.filter (fun h => u.ns < h.hend) ∧ (t.chan k).subs = c.subs ∧
        (∀ j, j ≠ k → t.chan j = s.chan j) ∧
        (s.flag (Reg.ALM_ALCkCFG k) F.ALM_ALCkCFG_EN = true → s.condition k kinds = true → (t.chan k).pinact = true) ∧
        (s.condition k kinds = false → c.latched = false → s.flag (Reg.ALM_ALCkCFG k) F.ALM_ALCkCFG_LATCH = false →
          (∀ x, c.pinUntil = some x → x ≤ u.ns) → (t.chan k).pinact = false) ∧
        Frame [.now, .sys, .eth, .alm, .cap, .evc, .chd, .ldg] [.ETH, .ALM, .EVC, .CHD, .LDG] s t)) ∧
  (∀ (s : State) (n m : Nat), s.powered →
    let u := s.advanceNs n
    let want := s.outSel m &&& s.pinactMask
    let stays := s.driverOn m = true ∧ (s.pin m).active = true ∧
      ∃ x, (s.pin m).since = some x ∧ u.ns < x + s.fld (Reg.ALM_OUTmCFG m) F.ALM_OUTmCFG_MINON * 1000000
    (16 ≤ m → exec (.minonExpiry n m) s = .next u) ∧
    (m < 16 →
      ∃ t, exec (.minonExpiry n m) s = .next t ∧ (want ≠ 0 → (t.pin m).active = true) ∧ (want = 0 → stays → (t.pin m).active = true) ∧
        (want = 0 → ¬ stays → (t.pin m).active = false ∧ (t.pin m).since = none) ∧ (∀ j, j ≠ m → t.pin j = s.pin j) ∧
        t.alm = { s.alm with pins := t.alm.pins } ∧ RegsBut [] s t ∧ Frame [.now, .alm] [] s t)) ∧
  (∀ (s : State) (n m : Nat), s.powered →
    ((16 ≤ m ∨ s.conductsPin m = false ∨ (s.pin m).ovld = true) → exec (.overloadDetect n m) s = .next (s.advanceNs n)) ∧
    (m < 16 → s.conductsPin m = true → (s.pin m).ovld = false →
      ∃ t, exec (.overloadDetect n m) s = .next t ∧ (t.pin m).ovld = true ∧ (t.val Reg.ALM_ERRSTAT).testBit 1 = true ∧
        t.val Reg.ALM_OVLDEV = min (s.val Reg.ALM_OVLDEV + 1) 0xFFFFFFFF ∧ t.alm = { s.alm with pins := t.alm.pins } ∧
        RegsBut [Reg.ALM_ERRSTAT, Reg.ALM_OVLDEV, Reg.EVC_MERGEDCNT] s t ∧ Frame [.now, .sys, .alm, .evc] [.ALM, .EVC] s t)) ∧
  (∀ (s : State) (n m : Nat) (closed : Bool), s.powered →
    ((16 ≤ m ∨ bitAt (s.val Reg.ALM_DINCFG) (16 + m) = 0 ∨ (bitAt s.alm.din m == 1) = closed) →
      exec (.dinChange n m closed) s = .next (s.advanceNs n)) ∧
    (m < 16 → bitAt (s.val Reg.ALM_DINCFG) (16 + m) = 1 → (bitAt s.alm.din m == 1) ≠ closed →
      ∃ t, exec (.dinChange n m closed) s = .next t ∧ t.alm.din = s.alm.din ^^^ 2 ^ m ∧
        (s.flag Reg.ALM_CTL F.ALM_CTL_EN = true → ∀ k, k < 64 →
          (t.chan k).counted = (t.published k).map (fun c => (c.kind, c.subject)) ∧ (t.chan k).subs = (s.chan k).subs) ∧
        Frame [.now, .sys, .eth, .alm, .cap, .evc, .chd, .ldg] [.ETH, .ALM, .EVC, .CHD, .LDG] s t))

/-- GOOSE_REPEAT, NOTICE_REFRESH, ALM_ACK and ALC_CONFIG_WRITE: a repeat that is due raises sqNum and doubles the interval up to its limit; a
refresh that is due sends a notice under the next sequence number, unless its key is not usable; the active channels of the mask are
acknowledged and named in the results; a channel's configuration changes and the channel is counted anew, refused in SHADOW or out of range
(R211, R219, R222, R223, R225). -/
def Obligations.PublicationsAndAcknowledgement : Prop :=
  (∀ (s : State) (n j : Nat), s.powered →
    let u := s.advanceNs n
    ((s.publishing = false ∨ s.pub j = none ∨ ∃ g, s.pub j = some g ∧ ∀ x, g.next = some x → u.ns < x) →
      exec (.gooseRepeat n j) s = .next u) ∧
    (∀ g x, s.publishing = true → s.pub j = some g → g.next = some x → x ≤ u.ns →
      let gap := min (2 * g.gap) (s.fld Reg.ALM_GINT F.ALM_GINT_MAX)
      ∃ t, exec (.gooseRepeat n j) s = .next t ∧ t.reg (Reg.ALM_GPjST j) = s.reg (Reg.ALM_GPjST j) ∧
        t.val (Reg.ALM_GPjSQ j) = (s.val (Reg.ALM_GPjSQ j) + 1) % 2 ^ 32 ∧
        t.pub j = some { g with gap := gap, next := some (u.ns + gap * 1000000) } ∧ (∀ i, i ≠ j → t.pub i = s.pub i) ∧
        t.val Reg.ALM_GOOSETX = min (s.val Reg.ALM_GOOSETX + ((List.range 4).filter (fun p => bitAt g.ports p = 1)).length) 0xFFFFFFFF ∧
        (∀ k, t.chan k = s.chan k) ∧ Frame [.now, .sys, .eth, .alm, .evc, .chd] [.ETH, .ALM, .EVC, .CHD] s t)) ∧
  (∀ (s : State) (n : Nat), s.powered →
    let u := s.advanceNs n
    let r := s.fld Reg.ALM_ANCFG F.ALM_ANCFG_REFRESH
    let tag := s.flag Reg.ALM_ANCFG F.ALM_ANCFG_TAGEN
    let key := s.slot (s.fld Reg.ALM_ANCFG F.ALM_ANCFG_KEYSLOT)
    ((s.noticing = false ∨ r = 0 ∨ u.ns < s.alm.noticeAt + r * 1000000) → exec (.noticeRefresh n) s = .next u) ∧
    (s.noticing = true → r ≠ 0 → s.alm.noticeAt + r * 1000000 ≤ u.ns →
      (tag = true → key.signs = false → Faults (.noticeRefresh n) s E.ALM 3) ∧
      ((tag = false ∨ key.signs = true) →
        ∃ t, exec (.noticeRefresh n) s = .next t ∧ t.val Reg.ALM_ANSEQ = (s.val Reg.ALM_ANSEQ + 1) % 2 ^ 24 ∧
          t.alm = { s.alm with noticeAt := u.ns } ∧
          t.val Reg.ALM_ANTX = min (s.val Reg.ALM_ANTX +
            ((List.range 8).filter (fun j => s.flag (Reg.ALM_ANDSTj_4 j) F.ALM_ANDSTj_4_VALID)).length) 0xFFFFFFFF ∧
          Frame [.now, .sys, .eth, .alm, .evc, .chd] [.ETH, .ALM, .EVC, .CHD] s t))) ∧
  (∀ (s : State) (h : CmdHdr) (mask : Nat), s.powered → s.admits 0x0501 h →
    (mask % 2 ^ 64 = 0 → s.sys.mode.acks = true → Replies (.almAck h mask) s 0x0501 h.tag .arg []) ∧
    (mask % 2 ^ 64 ≠ 0 → s.sys.mode.acks = true →
      let ks := (List.range 64).filter (fun k => bitAt mask k = 1 && (s.chan k).active)
      let m := (ks.map (fun k => 2 ^ k)).sum
      ∃ t, exec (.almAck h mask) s = .next t ∧ AnswersDelta s t 0x0501 h.tag .ok [m % 2 ^ 32, m / 2 ^ 32] ∧
        t.val Reg.ALM_ACKS = min (s.val Reg.ALM_ACKS + ks.length) 0xFFFFFFFF ∧ (∀ k, k ∉ ks → t.chan k = s.chan k) ∧
        (∀ k ∈ ks, (t.chan k).subs = (s.chan k).subs ∧ (s.flag Reg.ALM_CTL F.ALM_CTL_EN = true →
          (t.chan k).acked = (t.chan k).active ∧
          (s.condition k ((s.published k).map (·.kind)) = false → (t.chan k).active = false ∧ (t.chan k).latched = false))) ∧
        Frame [.sys, .eth, .alm, .cap, .evc, .chd, .ldg, .hif] [.ETH, .ALM, .EVC, .CHD, .LDG] s t)) ∧
  (∀ (s : State) (req : Requester) (k : Nat) (r : AlcReg) (v : Nat) (d : RegDef), s.powered → s.mayWrite req (alcAddr k r) v →
    findReg (alcAddr k r) = some d →
    (64 ≤ k → exec (.alcConfigWrite req k r v) s = .next s) ∧
    (k < 64 → (s.sys.mode = .shadow ∨ d.inRange s.configure (BitVec.ofNat 32 v) = false ∨ (r = .cfg ∧ bitsOf v 1 2 = 3)) →
      Faults (.alcConfigWrite req k r v) s E.ALM 0) ∧
    (k < 64 → s.sys.mode ≠ .shadow → d.inRange s.configure (BitVec.ofNat 32 v) = true → ¬ (r = .cfg ∧ bitsOf v 1 2 = 3) →
      ∃ t, exec (.alcConfigWrite req k r v) s = .next t ∧
        t.reg (alcAddr k r) = d.merge s.configure (s.reg (alcAddr k r)) (BitVec.ofNat 32 v) ∧
        (∀ j x, j < 64 → alcAddr j x ≠ alcAddr k r → t.reg (alcAddr j x) = s.reg (alcAddr j x)) ∧ (∀ j, j ≠ k → t.chan j = s.chan j) ∧
        (s.flag Reg.ALM_CTL F.ALM_CTL_EN = true →
          (t.chan k).counted = (t.published k).map (fun c => (c.kind, c.subject)) ∧
          (t.flag (Reg.ALM_ALCkCFG k) F.ALM_ALCkCFG_EN = false → (t.chan k).active = false ∧ (t.chan k).latched = false ∧
            (t.chan k).acked = false ∧ (t.chan k).pinact = false)) ∧
        Frame [.sys, .eth, .alm, .cap, .evc, .chd, .ldg] [.ETH, .ALM, .EVC, .CHD, .LDG] s t))

/-! ### Front end and filter chain (chapters 11, 12) -/

/-- MOD_PLL_UNLOCK, MOD_PLL_RELOCK, MODULATOR_OVERLOAD, MODULATOR_SETTLED, TRIM_RELOAD and TRIM_COPY_END: loss of lock restarts every enabled
modulator and abandons the conversion; relock clears the resampler histories; an overload restarts its channel and is counted; a reload waits for
the injected sequence, then each trim register takes its fuse word unless that failed (R230, R231, R232, R242, R263). -/
def Obligations.ModulatorsAndTrim : Prop :=
  (∀ (s : State) (n : Nat), s.powered →
    (s.afe.modLock = false → exec (.modPllUnlock n) s = .next (s.advanceNs n)) ∧
    (s.afe.modLock = true →
      ∃ t, exec (.modPllUnlock n) s = .next t ∧ t.afe.modLock = false ∧ t.afe.conv = none ∧ t.afe.ovl = 0 ∧
        t.afe.settle = s.afe.settle ||| s.val Reg.AFE_MCHEN % 256 ∧ (t.val Reg.AFE_ERRSTAT).testBit 1 = true ∧
        RegsBut [Reg.AFE_ERRSTAT, Reg.EVC_MERGEDCNT] s t ∧ Frame [.now, .sys, .afe, .evc] [.AFE, .EVC] s t)) ∧
  (∀ (s : State) (n frac : Nat), s.powered →
    (s.afe.modLock = true → exec (.modPllRelock n frac) s = .next (s.advanceNs n)) ∧
    (s.afe.modLock = false →
      ∃ t, exec (.modPllRelock n frac) s = .next t ∧ t.afe.modLock = true ∧ t.afe.clocked = true ∧ t.afe.ovl = 0 ∧
        t.afe.settle = s.afe.settle ||| s.val Reg.AFE_MCHEN % 256 ∧
        (∀ c, c < 8 → t.fltChan c = { s.fltChan c with
          outs := (s.fltChan c).outs.map (fun o => { o with x := 0 }), settleUntil := stampOf n frac + s.chLat c * 128 }) ∧
        RegsBut [] s t ∧ Frame [.now, .afe, .flt] [] s t)) ∧
  (∀ (s : State) (n c : Nat), s.powered →
    ((8 ≤ c ∨ s.settling c = true ∨ bitAt s.afe.ovl c = 1) → exec (.modulatorOverload n c) s = .next (s.advanceNs n)) ∧
    (c < 8 → s.settling c = false → bitAt s.afe.ovl c = 0 →
      ∃ t, exec (.modulatorOverload n c) s = .next t ∧
        t.afe = { s.afe with ovl := maskSet s.afe.ovl c, settle := maskSet s.afe.settle c } ∧ (t.val Reg.AFE_ERRSTAT).testBit 2 = true ∧
        t.val (Reg.AFE_MCHcOVLCNT c) = min (s.val (Reg.AFE_MCHcOVLCNT c) + 1) 0xFFFFFFFF ∧
        RegsBut [Reg.AFE_ERRSTAT, Reg.AFE_MCHcOVLCNT c, Reg.EVC_MERGEDCNT] s t ∧ Frame [.now, .sys, .afe, .evc] [.AFE, .EVC] s t) ∧
    ((8 ≤ c ∨ s.afe.modLock = false) → exec (.modulatorSettled n c) s = .next (s.advanceNs n)) ∧
    (c < 8 → s.afe.modLock = true →
      ∃ t, exec (.modulatorSettled n c) s = .next t ∧ bitAt t.afe.settle c = 0 ∧ bitAt t.afe.ovl c = 0 ∧
        (∀ j, j ≠ c → bitAt t.afe.settle j = bitAt s.afe.settle j ∧ bitAt t.afe.ovl j = bitAt s.afe.ovl j) ∧
        t.afe = { s.afe with settle := t.afe.settle, ovl := t.afe.ovl } ∧ RegsBut [] s t ∧ Frame [.now, .afe] [] s t)) ∧
  (∀ (s : State) (h : CmdHdr), s.powered → s.admits 0x0B01 h → s.sys.mode ∈ hostModes 0x0B01 →
    (s.afe.trim ≠ none → Replies (.trimReload (.command h)) s 0x0B01 h.tag .busy []) ∧
    (s.afe.trim = none →
      ∃ t, exec (.trimReload (.command h)) s = .next t ∧
        t.afe = { s.afe with trim := some { copying := s.afe.injNext.isNone && !s.afe.injPend, tag := some h.tag } } ∧
        t.hif = { s.hif with inProg := s.hif.inProg ++ [{ code := 0x0B01, tag := h.tag }] } ∧ RegsBut [] s t ∧
        Frame [.afe, .hif] [] s t)) ∧
  (∀ (s : State) (req : Requester) (v : Nat), s.powered → s.mayWrite req Reg.SYS_TRIMRELOAD v →
    ((bitAt v 0 = 0 ∨ s.afe.trim ≠ none) → exec (.trimReload (.write req v)) s = .next s) ∧
    (bitAt v 0 = 1 → s.afe.trim = none →
      ∃ t, exec (.trimReload (.write req v)) s = .next t ∧
        t.afe = { s.afe with trim := some { copying := s.afe.injNext.isNone && !s.afe.injPend, tag := none } } ∧ RegsBut [] s t ∧
        Frame [.afe] [] s t)) ∧
  (∀ (s : State) (n frac : Nat) (failed : List Nat), s.powered →
    ((∀ j, s.afe.trim = some j → j.copying = false) → exec (.trimCopyEnd n frac failed) s = .next (s.advanceNs n)) ∧
    (∀ j, s.afe.trim = some j → j.copying = true → (∀ tag, j.tag = some tag → s.heard 0x0B01 tag) →
      ∃ t, exec (.trimCopyEnd n frac failed) s = .next t ∧
        (∀ a ∈ trimAddrs, t.reg a = if failed.contains a then s.reg a else Config.madeValue a) ∧
        ((∃ a ∈ trimAddrs, a ∈ failed) → (t.val Reg.AFE_ERRSTAT).testBit 5 = true) ∧
        t.afe.trim = none ∧ t.afe.trimSeq = (s.afe.trimSeq + 1) % 256 ∧ t.afe.held = [] ∧
        (j.tag = none → t.hif = s.hif) ∧ (∀ tag, j.tag = some tag → Answers s t 0x0B01 tag .ok []) ∧
        Frame [.now, .sys, .afe, .evc, .hif] [.AFE, .EVC] s t))

/-- RSTART, ISTART, RSTOP, AUX_CONVERSION_END and AUXDATA_READ: a trigger starts its sequence, waits, is held or is counted as missed; a stop
takes effect when the conversion ends; a result replaces the one before it, which is counted if it was not read; a read clears NEW and OVR and
latches the stamp (R237-R241, R242). -/
def Obligations.AuxiliaryConverter : Prop :=
  (∀ (s : State) (req : Requester) (n frac : Nat), s.powered → s.modGated = false →
    let on := s.flag Reg.AFE_AUXCFG F.AFE_AUXCFG_AUXEN
    let free := ∀ j, s.afe.trim = some j → j.copying = false
    (s.mayWrite req Reg.AFE_AUXCMD 1 →
      ((on = false ∨ (free ∧ s.afe.regNext ≠ none) ∨
          (free ∧ s.afe.regNext = none ∧ (s.afe.injNext ≠ none ∨ s.afe.injPend = true) ∧ s.afe.regHeld = true)) →
        ∃ t, exec (.rstart req n frac) s = .next t ∧ t.afe = s.afe ∧ (t.val Reg.AFE_ERRSTAT).testBit 4 = true ∧
          t.val Reg.AFE_AUXREGMISS = min (s.val Reg.AFE_AUXREGMISS + 1) 0xFFFFFFFF ∧
          RegsBut [Reg.AFE_ERRSTAT, Reg.AFE_AUXREGMISS, Reg.EVC_MERGEDCNT] s t ∧ Frame [.now, .sys, .evc] [.AFE, .EVC] s t) ∧
      (on = true → ¬ free →
        ∃ t, exec (.rstart req n frac) s = .next t ∧ t.afe = { s.afe with held := s.afe.held ++ [false] } ∧ RegsBut [] s t ∧
          Frame [.now, .afe] [] s t) ∧
      (on = true → free → s.afe.regNext = none → (s.afe.injNext ≠ none ∨ s.afe.injPend = true) → s.afe.regHeld = false →
        ∃ t, exec (.rstart req n frac) s = .next t ∧ t.afe = { s.afe with regHeld := true } ∧ RegsBut [] s t ∧ Frame [.now, .afe] [] s t) ∧
      (on = true → free → s.afe.regNext = none → s.afe.injNext = none → s.afe.injPend = false →
        let w := s.val (Reg.AFE_AUXREGk 0)
        ∃ t, exec (.rstart req n frac) s = .next t ∧ RegsBut [] s t ∧ Frame [.now, .afe] [] s t ∧
          ((s.afe.conv ≠ none ∨ s.afe.modLock = false) → t.afe = { s.afe with regNext := some 0 }) ∧
          (s.afe.conv = none → s.afe.modLock = true → t.afe = { s.afe with
            regNext := some 0
            conv := some { inj := false, entry := 0, chan := w % 32, range := bitAt w 10, start := stampOf n frac } }))) ∧
    (s.mayWrite req Reg.AFE_AUXCMD 2 →
      ((on = false ∨ (free ∧ (s.afe.injNext ≠ none ∨ s.afe.injPend = true))) →
        ∃ t, exec (.istart req n frac) s = .next t ∧ t.afe = s.afe ∧ (t.val Reg.AFE_ERRSTAT).testBit 4 = true ∧
          t.val Reg.AFE_AUXINJMISS = min (s.val Reg.AFE_AUXINJMISS + 1) 0xFFFFFFFF ∧
          RegsBut [Reg.AFE_ERRSTAT, Reg.AFE_AUXINJMISS, Reg.EVC_MERGEDCNT] s t ∧ Frame [.now, .sys, .evc] [.AFE, .EVC] s t) ∧
      (on = true → ¬ free →
        ∃ t, exec (.istart req n frac) s = .next t ∧ t.afe = { s.afe with held := s.afe.held ++ [true] } ∧ RegsBut [] s t ∧
          Frame [.now, .afe] [] s t) ∧
      (on = true → free → s.afe.injNext = none → s.afe.injPend = false →
        let w := s.val (Reg.AFE_AUXINJj 0)
        ∃ t, exec (.istart req n frac) s = .next t ∧ RegsBut [] s t ∧ Frame [.now, .afe] [] s t ∧
          ((s.afe.conv ≠ none ∨ s.afe.modLock = false) → t.afe = { s.afe with injPend := true }) ∧
          (s.afe.conv = none → s.afe.modLock = true →
            (s.flag Reg.AFE_AUXCFG F.AFE_AUXCFG_URGENT = true ∨ s.afe.regNext.getD 0 = 0) → t.afe = { s.afe with
              injNext := some 0
              conv := some { inj := true, entry := 0, chan := w % 32, range := bitAt w 10, start := stampOf n frac } })))) ∧
  (∀ (s : State) (req : Requester) (n : Nat), s.powered → s.mayWrite req Reg.AFE_AUXCMD 4 →
    (s.afe.regNext = none → exec (.rstop req n) s = .next (s.advanceNs n)) ∧
    (s.afe.regNext ≠ none →
      ∃ t, exec (.rstop req n) s = .next t ∧ (s.afe.conv ≠ none → t.afe = { s.afe with regStop := true }) ∧
        (s.afe.conv = none → t.afe = { s.afe with regNext := none, regStop := false }) ∧ RegsBut [] s t ∧ Frame [.now, .afe] [] s t)) ∧
  (∀ (s : State) (n frac : Nat) (vin : Int), s.powered →
    (s.afe.conv = none → exec (.auxConversionEnd n frac vin) s = .next (s.advanceNs n)) ∧
    (∀ c, s.afe.conv = some c →
      let ovr := bitAt (s.val Reg.AFE_AUXDATA) 31
      let cfg := s.val Reg.AFE_AUXCFG
      ∃ t, exec (.auxConversionEnd n frac vin) s = .next t ∧
        t.val Reg.AFE_AUXDATA = (auxValue (auxRange c.chan c.range) vin + c.chan * 2 ^ 24 + (if c.inj then 1 else 0) * 2 ^ 29 +
          ovr * 2 ^ 30 + 2 ^ 31) % 2 ^ 32 ∧
        t.afe.stamp = c.start ∧ t.val Reg.AFE_AUXCONV = min (s.val Reg.AFE_AUXCONV + 1) 0xFFFFFFFF ∧
        (ovr = 1 → t.val Reg.AFE_AUXOVRCNT = min (s.val Reg.AFE_AUXOVRCNT + 1) 0xFFFFFFFF ∧ (t.val Reg.AFE_ERRSTAT).testBit 3 = true) ∧
        (ovr = 0 → t.reg Reg.AFE_AUXOVRCNT = s.reg Reg.AFE_AUXOVRCNT) ∧
        ((s.afe.modLock = false ∨ s.modGated = true) → t.afe.conv = none) ∧
        (s.afe.modLock = true → s.modGated = false →
          (c.inj = true → c.entry + 1 < bitsOf cfg 16 3 → ∃ d, t.afe.conv = some d ∧ d.inj = true ∧ d.entry = c.entry + 1 ∧
            d.chan = s.val (Reg.AFE_AUXINJj (c.entry + 1)) % 32 ∧ d.start = stampOf n frac) ∧
          (c.inj = false → c.entry + 1 < bitsOf cfg 8 5 → s.afe.regStop = false → s.afe.injNext = none → s.afe.injPend = false →
            ∃ d, t.afe.conv = some d ∧ d.inj = false ∧ d.entry = c.entry + 1 ∧
              d.chan = s.val (Reg.AFE_AUXREGk (c.entry + 1)) % 32 ∧ d.start = stampOf n frac) ∧
          (c.inj = false → bitsOf cfg 8 5 ≤ c.entry + 1 → bitAt cfg 1 = 0 → s.afe.injNext = none → s.afe.injPend = false →
            s.afe.regHeld = false → t.afe.conv = none ∧ t.afe.regNext = none)) ∧
        RegsBut [Reg.AFE_AUXDATA, Reg.AFE_AUXCONV, Reg.AFE_AUXOVRCNT, Reg.AFE_ERRSTAT, Reg.EVC_MERGEDCNT] s t ∧
        Frame [.now, .sys, .afe, .evc] [.AFE, .EVC] s t)) ∧
  (∀ (s : State) (req : Requester), s.powered → s.mayRead req Reg.AFE_AUXDATA →
    ∃ t, exec (.auxdataRead req) s = .next t ∧ t.hif = { s.hif with rdata := [s.val Reg.AFE_AUXDATA] } ∧
      t.val Reg.AFE_AUXDATA = s.val Reg.AFE_AUXDATA % 2 ^ 30 ∧ t.auxLatch req = s.afe.stamp ∧
      t.afe = { s.afe with latches := t.afe.latches } ∧ RegsBut [Reg.AFE_AUXDATA] s t ∧ Frame [.afe, .hif] [.AFE] s t)

/-- FILTER_SAMPLE: no bit is taken for a channel that does not exist or while the clock is gated; a bit adds to the integrators, each R-th one
makes a CIC word, each D-th of those a FIR output with the trim and time the rules give (R230, R245-R247, R254).
SWAP, FLT_BANK_SWAP_APPLY, COEFFICIENT_ACCESS, PTRIM_WRITE, DECSYNC and LOCAL_PHASOR_PLACE: a swap is asked for once, and taken at an output
boundary; CVAL gives or takes the coefficient of the inactive bank that CSEL names and moves on; a phase trim out of range is refused; a
synchronisation restarts the decimation of the enabled channels and is stamped and counted; a local frame is counted when every window is whole
(R251, R255, R256, R261, R262). -/
def Obligations.FilterChains : Prop :=
  (∀ (s : State) (c : Nat) (bits : List Bool) (stamp period : Nat), s.powered →
    let u := s.advanceNs (stamp / 128)
    ((8 ≤ c ∨ s.modGated = true ∨ bits = []) → exec (.filterSample c bits stamp period) s = .next u) ∧
    (c < 8 → s.modGated = false →
      ∃ t, exec (.filterSample c bits stamp period) s = .next t ∧ (∀ j, j ≠ c → t.fltChan j = s.fltChan j) ∧
        t.flt.coefs = s.flt.coefs ∧ t.flt.abank = s.flt.abank ∧
        Frame [.devMem, .now, .sys, .eth, .alm, .flt, .cap, .lat, .evc, .chd, .ldg, .free]
          [.ETH, .ALM, .FLT, .CAP, .EVC, .CHD, .LDG] s t ∧
        ∀ b, bits = [b] →
          let x := s.fltChan c
          let cfg := s.chCfg c
          let bit := (if s.settling c then x.alt else b) != s.flag (Reg.AFE_MCHcCFG c) F.AFE_MCHcCFG_INV
          let integ := integrate (if bit then 2 ^ 30 else 2 ^ 80 - 2 ^ 30) x.integ
          let clean := if s.settling c then 0 else x.clean + 1
          let word := (comb (integ.getD (cicN cfg - 1) 0) (x.combs.take (cicN cfg))).1
          let w : CicWord := { x := (sat32 (ratRne (sgn80 word) (2 ^ cicShift (cicN cfg) (cicR cfg)))).1,
                               settle := clean < cicN cfg * (cicR cfg - 1) + 1 }
          let cic := (w :: x.cic).take 64
          (x.cicCnt + 1 < cicR cfg →
            t.fltChan c = { x with integ := integ, alt := !x.alt, clean := clean, cicCnt := x.cicCnt + 1 } ∧ RegsBut [] s t ∧
            Frame [.now, .flt] [] s t) ∧
          (cicR cfg ≤ x.cicCnt + 1 → x.firCnt + 1 < firD cfg →
            (t.fltChan c).cic = cic ∧ (t.fltChan c).cicCnt = 0 ∧ (t.fltChan c).firCnt = x.firCnt + 1 ∧ (t.fltChan c).outs = x.outs ∧
            RegsBut [] s t ∧ Frame [.now, .flt] [] s t) ∧
          (cicR cfg ≤ x.cicCnt + 1 → firD cfg ≤ x.firCnt + 1 →
            let y := sat32 (ratRne (firSum (fun i => sgn24 (s.coef s.flt.abank 0 c i)) 0 cic) (2 ^ 22))
            let z := sat32 (trimmed y.1 (s.val (Reg.AFE_MTRIMcg c (s.fld (Reg.AFE_MCHcCFG c) F.AFE_MCHcCFG_GAIN))))
            (t.fltChan c).cic = cic ∧ (t.fltChan c).cicCnt = 0 ∧ (t.fltChan c).firCnt = 0 ∧
            (t.fltChan c).outs = (({ tau := stamp * 512 - divRne ((cicN cfg * (cicR cfg - 1) + 63 * cicR cfg) * period) 2, x := z.1,
                                     settle := cic.any (·.settle) || cic.length < 64, sat := y.2 || z.2,
                                     bank := s.flt.abank } : FirOut) :: x.outs).take 100))) ∧
  (∀ (s : State) (req : Requester) (v : Nat), s.powered → s.mayWrite req Reg.FLT_BANKCMD v →
    (bitAt v 0 = 0 → exec (.swap req v) s = .next s) ∧
    (bitAt v 0 = 1 → s.flt.swapPend = true → Faults (.swap req v) s E.FLT 0) ∧
    (bitAt v 0 = 1 → s.flt.swapPend = false →
      ∃ t, exec (.swap req v) s = .next t ∧ t.flt = { s.flt with swapPend := true } ∧ RegsBut [] s t ∧ Frame [.flt] [] s t)) ∧
  (∀ (s : State) (n : Nat), s.powered →
    ((s.flt.swapPend = false ∨ s.modGated = true) → exec (.fltBankSwapApply n) s = .next (s.advanceNs n)) ∧
    (s.flt.swapPend = true → s.modGated = false →
      ∃ t, exec (.fltBankSwapApply n) s = .next t ∧
        (let q := firstOut (s.fOut 0) (t.ns * 65536)
         t.flt = { s.flt with abank := 1 - s.flt.abank, swapPend := false, boundary := outInst (s.fOut 0) q.1 q.2 }) ∧
        RegsBut [] s t ∧ Frame [.now, .flt] [] s t)) ∧
  (∀ (s : State) (req : Requester) (v : Nat), s.powered →
    let w := s.val Reg.FLT_CSEL
    let next := if (if bitAt w 0 = 0 then 64 else 3072) ≤ bitsOf w 4 12 + 1 then 0 else bitsOf w 4 12 + 1
    (s.mayWrite req Reg.FLT_CVAL v → s.flt.swapPend = true → Faults (.coefficientAccess req (some v)) s E.FLT 0) ∧
    (s.mayWrite req Reg.FLT_CVAL v → s.flt.swapPend = false →
      ∃ t, exec (.coefficientAccess req (some v)) s = .next t ∧
        t.coef (1 - s.flt.abank) (bitAt w 0) (bitsOf w 1 3) (bitsOf w 4 12) = v % 2 ^ 24 ∧
        t.flt = { s.flt with coefs := t.flt.coefs } ∧ t.fld Reg.FLT_CSEL F.FLT_CSEL_INDEX = next ∧ RegsBut [Reg.FLT_CSEL] s t ∧
        Frame [.flt] [.FLT] s t) ∧
    (s.mayRead req Reg.FLT_CVAL →
      ∃ t, exec (.coefficientAccess req none) s = .next t ∧
        t.hif = { s.hif with rdata := [s.coef (1 - s.flt.abank) (bitAt w 0) (bitsOf w 1 3) (bitsOf w 4 12)] } ∧
        t.fld Reg.FLT_CSEL F.FLT_CSEL_INDEX = next ∧ RegsBut [Reg.FLT_CSEL] s t ∧ Frame [.hif] [.FLT] s t)) ∧
  (∀ (s : State) (req : Requester) (c v : Nat) (d : RegDef), s.powered → s.mayWrite req (Reg.FLT_CHcPTRIM c) v →
    findReg (Reg.FLT_CHcPTRIM c) = some d →
    (8 ≤ c → exec (.ptrimWrite req c v) s = .next s) ∧
    (c < 8 → (s.ptrimOk c v = false ∨ d.inRange s.configure (BitVec.ofNat 32 v) = false) → Faults (.ptrimWrite req c v) s E.FLT 0) ∧
    (c < 8 → s.ptrimOk c v = true → d.inRange s.configure (BitVec.ofNat 32 v) = true →
      ∃ t, exec (.ptrimWrite req c v) s = .next t ∧
        t.reg (Reg.FLT_CHcPTRIM c) = d.merge s.configure (s.reg (Reg.FLT_CHcPTRIM c)) (BitVec.ofNat 32 v) ∧
        RegsBut [Reg.FLT_CHcPTRIM c] s t ∧ Frame [] [.FLT] s t)) ∧
  (∀ (s : State) (src : Option Requester) (n frac : Nat), s.powered → (∀ req, src = some req → s.mayWrite req Reg.SYS_CMD 1) →
    let e := stampOf n frac
    let asked := src ≠ none ∨ s.flag Reg.FLT_SYNCCFG F.FLT_SYNCCFG_PINEN = true
    ((¬ asked ∨ s.modGated = true ∨ s.afe.modLock = false ∨ s.flt.lastSync = some e) →
      exec (.decsync src n frac) s = .next (s.advanceNs n)) ∧
    (asked → s.modGated = false → s.afe.modLock = true → s.flt.lastSync ≠ some e →
      ∃ t, exec (.decsync src n frac) s = .next t ∧ t.val Reg.FLT_SYNCTSLO = e / 128 % 2 ^ 32 ∧
        t.val Reg.FLT_SYNCTSHI = e / 128 / 2 ^ 32 % 2 ^ 32 ∧ t.val Reg.FLT_SYNCTSFR = e % 128 ∧
        t.val Reg.FLT_SYNCCNT = min (s.val Reg.FLT_SYNCCNT + 1) 0xFFFFFFFF ∧ (t.val Reg.FLT_ERRSTAT).testBit 2 = true ∧
        t.flt.lastSync = some e ∧ (∀ c, s.chEnabled c = false → t.fltChan c = s.fltChan c) ∧
        (∀ c, c < 8 → s.chEnabled c = true → (t.fltChan c).cicCnt = 0 ∧ (t.fltChan c).firCnt = 0 ∧
          (t.fltChan c).settleUntil = e + s.chLat c * 128 ∧ (t.fltChan c).integ = (s.fltChan c).integ ∧
          (∀ o ∈ (t.fltChan c).outs, o.x = 0)) ∧
        RegsBut [Reg.FLT_SYNCTSLO, Reg.FLT_SYNCTSHI, Reg.FLT_SYNCTSFR, Reg.FLT_SYNCCNT, Reg.FLT_ERRSTAT, Reg.EVC_MERGEDCNT] s t ∧
        Frame [.now, .sys, .flt, .evc] [.FLT, .EVC] s t)) ∧
  (∀ (s : State) (n inst : Nat), s.powered →
    let u := s.advanceNs n
    ((s.flt.phRun = false ∨ s.sys.mode.lattice = false) → exec (.localPhasorPlace n inst) s = .next u) ∧
    (s.flt.phRun = true → s.sys.mode.lattice = true →
      ∃ t, exec (.localPhasorPlace n inst) s = .next t ∧
        (u.localSlot inst = none → t.reg Reg.FLT_PHCNT = s.reg Reg.FLT_PHCNT) ∧
        (u.localSlot inst ≠ none → t.val Reg.FLT_PHCNT = min (s.val Reg.FLT_PHCNT + 1) 0xFFFFFFFF) ∧ t.flt = s.flt ∧
        Frame [.devMem, .hostMem, .now, .sys, .snap, .det, .modal, .cap, .lat, .evc, .chd, .ldg, .free]
          [.SNAP, .DET, .MODAL, .FLT, .CAP, .LAT, .EVC, .CHD, .LDG] s t))

/-! ### Metering (chapter 13) -/

/-- METER_CYCLE_REGISTER: a cycle registers once, when its samples and the next cycle's are whole; each clean element's amounts and the totals
join their accumulators, an element with SETTLE is counted as skipped, and outside a registering mode the accumulators stay (R267-R273).
PULSE_START, PULSE_END, SAVE_INSTANT, SAVE_WRITE_COMPLETE, CYCLO_READ and CLRCMD: a pulse of the backlog begins when the output has rested, or
is dropped with the driver off, and ends after its width; a save is begun, waits for its cycle, or is skipped and counted; a write that ends
shows its number and slot, a page the cartridge refuses fails the save and is its surprise removal; a read of CYCLO latches the accumulators; the key clears them in CONFIGURE
(R272, R275, R276, R278, R279, R282). -/
def Obligations.Metering : Prop :=
  (∀ (s : State) (n k : Nat), s.powered →
    let u := s.advanceNs n
    let fresh := ∀ j, s.mtr.lastK = some j → j < k ∨ s.mtr.stepped = true
    let whole := ∀ c ∈ s.mtrChans, s.cycleDone c k = true
    let clean := (s.mtrElems.filter (fun e => s.elemClean e k)).map (fun e => s.elemCycle e.1 e.2.1 e.2.2 k (s.mtrFm k))
    let skip := s.mtrElems.filter (fun e => !s.elemClean e k)
    let amounts := ((clean ++ [totalOf clean]).map ElemCycle.amounts).flatten
    ((s.mtrRun = false ∨ ¬ fresh ∨ ¬ whole) → exec (.meterCycleRegister n k) s = .next u) ∧
    (s.mtrRun = true → fresh → whole →
      ∃ t, exec (.meterCycleRegister n k) s = .next t ∧ t.mtr.lastK = some k ∧ t.mtr.stepped = false ∧
        t.val Reg.MTR_FREQ = f64to32 (s.mtrFm k) % 2 ^ 32 ∧
        t.val Reg.MTR_SKIPCYC = min (s.val Reg.MTR_SKIPCYC + skip.length) 0xFFFFFFFF ∧ (skip = [] → t.mtr.est = s.mtr.est) ∧
        (s.mtrRegs = true → t.mtr.cyc = k ∧ t.mtr.cycEnd = some ((k + 1) * 1000000000 / s.fltNom) ∧
          (s.mtr.cycEnd ≠ none → t.mtr.gap = none) ∧
          ∀ a, t.mtrAcc a % 2 ^ 96 = (s.mtrAcc a + ((amounts.filter (fun x => x.1 == a)).map (·.2)).sum) % 2 ^ 96) ∧
        (s.mtrRegs = false → (∀ a, t.mtrAcc a = s.mtrAcc a) ∧ t.mtr.cyc = s.mtr.cyc ∧ t.mtr.cycEnd = s.mtr.cycEnd) ∧
        Frame [.now, .sys, .mtr, .lat, .evc, .ldg] [.MTR, .EVC, .LDG] s t)) ∧
  (∀ (s : State) (n o : Nat), s.powered →
    let u := s.advanceNs n
    let x := s.pulse o
    let width := s.fld (Reg.MTR_PLSnCFG o) F.MTR_PLSnCFG_WIDTH * 1000000
    let rested := ∀ y, x.last = some y → y + 2 * width ≤ u.ns
    ((4 ≤ o ∨ x.backlog = 0 ∨ x.on ≠ none ∨ (s.pulseDriven o = true ∧ ¬ rested)) → exec (.pulseStart n o) s = .next u) ∧
    (o < 4 → x.backlog ≠ 0 → x.on = none → s.pulseDriven o = false →
      ∃ t, exec (.pulseStart n o) s = .next t ∧ t.pulse o = { x with backlog := x.backlog - 1 } ∧
        t.val (Reg.MTR_PLSnDROP o) = min (s.val (Reg.MTR_PLSnDROP o) + 1) 0xFFFFFFFF ∧ (∀ j, j ≠ o → t.pulse j = s.pulse j) ∧
        t.mtr = { s.mtr with pulses := t.mtr.pulses } ∧ RegsBut [Reg.MTR_PLSnDROP o] s t ∧ Frame [.now, .mtr] [.MTR] s t) ∧
    (o < 4 → x.backlog ≠ 0 → x.on = none → s.pulseDriven o = true → rested →
      ∃ t, exec (.pulseStart n o) s = .next t ∧ t.pulse o = { x with backlog := x.backlog - 1, on := some u.ns, last := some u.ns } ∧
        t.val (Reg.MTR_PLSnCNT o) = min (s.val (Reg.MTR_PLSnCNT o) + 1) 0xFFFFFFFF ∧ (∀ j, j ≠ o → t.pulse j = s.pulse j) ∧
        t.mtr = { s.mtr with pulses := t.mtr.pulses } ∧ RegsBut [Reg.MTR_PLSnCNT o] s t ∧ Frame [.now, .mtr] [.MTR] s t) ∧
    ((4 ≤ o ∨ ∀ y, x.on = some y → u.ns < y + width) → exec (.pulseEnd n o) s = .next u) ∧
    (∀ y, o < 4 → x.on = some y → y + width ≤ u.ns →
      ∃ t, exec (.pulseEnd n o) s = .next t ∧ t.pulse o = { x with on := none } ∧ (∀ j, j ≠ o → t.pulse j = s.pulse j) ∧
        t.mtr = { s.mtr with pulses := t.mtr.pulses } ∧ RegsBut [] s t ∧ Frame [.now, .mtr] [] s t)) ∧
  (∀ (s : State) (n : Nat), s.powered →
    let u := s.advanceNs n
    let due := s.flag Reg.MTR_CTL F.MTR_CTL_SAVEEN = true ∧ u.ns % (s.val Reg.MTR_SAVEINT % 4096 * 1000000000) = 0
    let k := u.ns * s.fltNom / 1000000000 - 1
    let done := ∀ j, s.mtr.lastK = some j → k ≤ j
    (¬ due → exec (.saveInstant n) s = .next u) ∧
    (due → s.mtr.save ≠ none →
      ∃ t, exec (.saveInstant n) s = .next t ∧ t.val Reg.MTR_SAVESKIP = min (s.val Reg.MTR_SAVESKIP + 1) 0xFFFFFFFF ∧
        (t.val Reg.MTR_ERRSTAT).testBit 3 = true ∧ RegsBut [Reg.MTR_SAVESKIP, Reg.MTR_ERRSTAT, Reg.EVC_MERGEDCNT] s t ∧
        Frame [.now, .sys, .evc] [.MTR, .EVC] s t) ∧
    (due → s.mtr.save = none → s.mtrRun = true → ¬ done →
      ∃ t, exec (.saveInstant n) s = .next t ∧ t.mtr = { s.mtr with save := some (.wait k) } ∧ RegsBut [] s t ∧ Frame [.now, .mtr] [] s t) ∧
    (due → s.mtr.save = none → (s.mtrRun = false ∨ done) →
      let seq := (s.val Reg.MTR_SAVESEQ + 1) % 2 ^ 32
      ∃ t, exec (.saveInstant n) s = .next t ∧ RegsBut [] s t ∧ Frame [.now, .mtr] [] s t ∧
        t.mtr = { s.mtr with save := some (.write (s.saveImage seq) seq (1 - s.mtr.lastSlot) u.ns (s.ldg.cstate == .active)) })) ∧
  (∀ (s : State) (n : Nat) (refused : Bool), s.powered →
    ((∀ im seq slot start cart, s.mtr.save ≠ some (.write im seq slot start cart)) →
      exec (.saveWriteComplete n refused) s = .next (s.advanceNs n)) ∧
    (∀ im seq slot start cart, s.mtr.save = some (.write im seq slot start cart) →
      (cart = true → (refused = true ∨ s.ldg.cstate ≠ .active ∨ s.ldg.lcPwr = false) →
        let a := saveSlotAt slot
        ∃ t, exec (.saveWriteComplete n refused) s = .next t ∧ t.mtr = { s.mtr with save := none } ∧
          (t.val Reg.MTR_ERRSTAT).testBit 2 = true ∧ t.ldg.cart = s.ldg.cart.filter (fun c => c.1 < a || a + 0x100000 ≤ c.1) ∧
          (s.ldg.cstate = .active → t.ldg.cstate = .absent ∧ t.ldg.lcPwr = false ∧ (t.val Reg.LDG_ERRSTAT).testBit 3 = true) ∧
          (s.ldg.cstate ≠ .active → t.ldg = { s.ldg with cart := t.ldg.cart } ∧
            RegsBut [Reg.MTR_ERRSTAT, Reg.EVC_MERGEDCNT] s t) ∧
          RegsBut [Reg.MTR_ERRSTAT, Reg.LDG_ERRSTAT, Reg.EVC_MERGEDCNT] s t ∧ Frame [.now, .sys, .mtr, .evc, .ldg, .upd] [.MTR, .EVC, .LDG] s t) ∧
      ((cart = false ∨ (refused = false ∧ s.ldg.cstate = .active ∧ s.ldg.lcPwr = true)) →
        ∃ t, exec (.saveWriteComplete n refused) s = .next t ∧ t.val Reg.MTR_SAVESEQ = seq % 2 ^ 32 ∧ t.ldg.save = im ∧
          (cart = true → t.mtr = { s.mtr with save := none, lastSlot := slot } ∧
            t.ldg.cart = s.ldg.cart.putBytes (nextSaveAt s.ldg.cart slot) (savePage im)) ∧
          (cart = false → t.mtr = { s.mtr with save := none } ∧ t.ldg = { s.ldg with save := im }) ∧
          t.val Reg.MTR_SAVETIME = min ((t.ns - start) / 1000) 0xFFFFFF ∧
          Frame [.now, .sys, .mtr, .evc, .ldg] [.MTR, .EVC, .LDG] s t))) ∧
  (∀ (s : State) (req : Requester), s.powered → s.mayRead req Reg.MTR_CYCLO →
    ∃ t, exec (.cycloRead req) s = .next t ∧ t.hif = { s.hif with rdata := [s.mtr.cyc % 2 ^ 32] } ∧
      t.mtrLatch req 0 = s.mtr.cyc ∧ t.mtrLatch req 1 = s.mtr.est ∧ (∀ a, a < 32 → t.mtrLatch req (2 + a) = s.mtrAcc a / 2 ^ 32) ∧
      t.mtr = { s.mtr with latches := t.mtr.latches } ∧ RegsBut [] s t ∧ Frame [.mtr, .hif] [] s t) ∧
  (∀ (s : State) (req : Requester) (v : Nat), s.powered → s.mayWrite req Reg.MTR_CLRCMD v →
    let key := bitAt v 0 = 1 ∧ v / 65536 % 65536 = 0x4D54
    ((s.sys.mode ≠ .configure ∨ ¬ key) → Faults (.clrcmd req v) s E.MTR 0) ∧
    (s.sys.mode = .configure → key →
      ∃ t, exec (.clrcmd req v) s = .next t ∧ (∀ a, t.mtrAcc a = 0) ∧ t.mtr.est = 0 ∧ t.mtr.cyc = s.mtr.cyc ∧
        (∀ o, t.pulse o = { s.pulse o with res := 0, backlog := 0 }) ∧ (t.val Reg.MTR_ERRSTAT).testBit 7 = true ∧
        Frame [.sys, .mtr, .evc, .ldg] [.MTR, .EVC, .LDG] s t))

/-! ### Capture (chapter 14) -/

/-- CAP_ARM, CAP_READ, CAP_STOP and CAP_RELEASE: arming is refused for a buffer that does not fit its source or region, or is not idle; a record
is copied out and the buffer released unless kept; running buffers stop with their cause, held ones are released, or when their archive write ends
(R285, R286, R289, R297, R298).
HOSTTRIG, CAPTURE_TRIGGER, MASK_ACCESS and ARCHIVE_WRITE_END: a host trigger goes to the buffers that select it, and no other trigger has an
effect on a buffer; mask points are written only while their buffer is idle; an archive write ends with its extent and record on the cartridge,
or is refused (R290, R295, R300, R383, R384). -/
def Obligations.CapturesArmedReadAndReleased : Prop :=
  (∀ (s : State) (h : CmdHdr) (mask : Nat), s.powered → s.admits 0x0601 h → s.sys.mode ∈ hostModes 0x0601 →
    let bs := (List.range 16).filter (fun b => bitAt mask b == 1)
    let fit := bs ≠ [] ∧ ∀ b ∈ bs, s.capArmOk b mask = true
    ((65536 ≤ mask ∨ ¬ fit) → Replies (.capArm h mask) s 0x0601 h.tag .arg []) ∧
    (mask < 65536 → fit → (∃ b ∈ bs, (s.buf b).state ≠ .idle) → Replies (.capArm h mask) s 0x0601 h.tag .busy []) ∧
    (mask < 65536 → fit → (∀ b ∈ bs, (s.buf b).state = .idle) →
      ∃ t, exec (.capArm h mask) s = .next t ∧ Answers s t 0x0601 h.tag .ok [] ∧ (∀ b, b ∉ bs → t.buf b = s.buf b) ∧
        (s.flag Reg.CAP_CTL F.CAP_CTL_EN = true → RegsBut [] s t ∧ Frame [.cap, .hif] [] s t ∧
          ∀ b ∈ bs, t.buf b = { state := .armed, rkind := s.capKind b, mode := s.sys.mode.code }) ∧
        (s.flag Reg.CAP_CTL F.CAP_CTL_EN = false → ∀ b ∈ bs, (t.buf b).state.held = true ∧ (t.buf b).cause = 3 ∧ (t.buf b).total = 0) ∧
        Frame [.devMem, .sys, .cap, .evc, .hif, .free] [.CAP, .EVC] s t)) ∧
  (∀ (s : State) (h : CmdHdr) (b addr size : Nat) (ecc : Bool), s.powered → s.admits 0x0602 h → s.sys.mode ∈ hostModes 0x0602 →
    let n := s.capRecLen b
    ((16 ≤ b ∨ addr % 8 ≠ 0) → Replies (.capRead h b addr size ecc) s 0x0602 h.tag .arg []) ∧
    (b < 16 → addr % 8 = 0 → (s.buf b).state.held = false → Replies (.capRead h b addr size ecc) s 0x0602 h.tag .absent []) ∧
    (b < 16 → addr % 8 = 0 → (s.buf b).state.held = true → size < n → Replies (.capRead h b addr size ecc) s 0x0602 h.tag .nospace [n]) ∧
    (b < 16 → addr % 8 = 0 → (s.buf b).state.held = true → n ≤ size →
      ∃ t, exec (.capRead h b addr size ecc) s = .next t ∧ Answers s t 0x0602 h.tag .ok [n] ∧
        t.hostMem = s.hostMem.putBytes addr (s.capRecord b) ∧ (∀ j, j ≠ b → t.buf j = s.buf j) ∧
        (h.keep = true → t.cap = s.cap ∧ (ecc = false → RegsBut [] s t)) ∧
        (h.keep = false → (s.buf b).state = .archiving → t.buf b = { s.buf b with relAtEnd := true }) ∧
        (h.keep = false → (s.buf b).state = .stopped → (s.flag (Reg.CAP_BnCFG b) F.CAP_BnCFG_AUTOARM = false ∨ s.acquires = false) →
          t.buf b = {}) ∧
        (h.keep = false → (s.buf b).state = .stopped → s.flag (Reg.CAP_BnCFG b) F.CAP_BnCFG_AUTOARM = true → s.acquires = true →
          s.flag Reg.CAP_CTL F.CAP_CTL_EN = true → t.buf b = { state := .armed, rkind := s.capKind b, mode := s.sys.mode.code }) ∧
        (ecc = true → t.sys.doubleErrs = s.sys.doubleErrs + 1 ∧ (t.val Reg.CAP_ERRSTAT).testBit 3 = true) ∧
        Frame [.devMem, .hostMem, .sys, .cap, .evc, .hif, .free] [.CAP, .EVC] s t)) ∧
  (∀ (s : State) (req : Requester) (v : Nat), s.powered →
    (s.mayWrite req Reg.CAP_STOP v →
      ∃ t, exec (.capStop req v) s = .next t ∧
        (∀ b, (16 ≤ b ∨ bitAt v b = 0 ∨ (s.buf b).state.running = false) → t.buf b = s.buf b) ∧
        (∀ b, b < 16 → bitAt v b = 1 → (s.buf b).state.running = true → (t.buf b).cause = 3 ∧ (t.buf b).total = (s.buf b).total ∧
          (t.buf b).state = if s.flag (Reg.CAP_BnCFG b) F.CAP_BnCFG_ARCH && s.archiveOk then .archiving else .stopped) ∧
        Frame [.devMem, .sys, .cap, .evc, .free] [.CAP, .EVC] s t) ∧
    (s.mayWrite req Reg.CAP_RELEASE v →
      ∃ t, exec (.capRelease req v) s = .next t ∧
        (∀ b, (16 ≤ b ∨ bitAt v b = 0 ∨ (s.buf b).state.held = false) → t.buf b = s.buf b) ∧
        (∀ b, b < 16 → bitAt v b = 1 → (s.buf b).state = .archiving → t.buf b = { s.buf b with relAtEnd := true }) ∧
        (∀ b, b < 16 → bitAt v b = 1 → (s.buf b).state = .stopped →
          (s.flag (Reg.CAP_BnCFG b) F.CAP_BnCFG_AUTOARM = false ∨ s.acquires = false) → t.buf b = {}) ∧
        (∀ b, b < 16 → bitAt v b = 1 → (s.buf b).state = .stopped → s.flag (Reg.CAP_BnCFG b) F.CAP_BnCFG_AUTOARM = true →
          s.acquires = true → s.flag Reg.CAP_CTL F.CAP_CTL_EN = true →
          t.buf b = { state := .armed, rkind := s.capKind b, mode := s.sys.mode.code }) ∧
        Frame [.devMem, .sys, .cap, .evc, .free] [.CAP, .EVC] s t)) ∧
  (∀ (s : State) (req : Requester) (v n frac : Nat), s.powered → s.mayWrite req Reg.CAP_HOSTTRIG v →
    let m := ((List.range 16).map (fun b => if bitAt v b = 1 ∧ bitAt (s.val (Reg.CAP_BnTRIG b)) 9 = 1 then 2 ^ b else 0)).sum
    (m = 0 → exec (.hosttrig req v n frac) s = .next (s.advanceNs n)) ∧
    (m ≠ 0 →
      ∃ t, exec (.hosttrig req v n frac) s = .next t ∧ RegsBut [] s t ∧ Frame [.now, .cap] [] s t ∧
        t.cap = { s.cap with trigs := s.cap.trigs ++ [{ code := 10, sub := 0, time := stampOf n frac, count := 1, bufs := m }] })) ∧
  (∀ (s : State) (n b : Nat), s.powered → b < 16 → (∀ g ∈ s.cap.trigs, bitAt g.bufs b = 1 → s.capSelected b g = false) →
    ∃ t, exec (.captureTrigger n b) s = .next t ∧ (∀ j, t.buf j = s.buf j) ∧ RegsBut [] s t ∧ Frame [.now, .cap] [] s t) ∧
  (∀ (s : State) (req : Requester) (v : Nat), s.powered →
    let next := (s.fld Reg.CAP_MSEL F.CAP_MSEL_POINT + 1) % 256
    (s.mayWrite req Reg.CAP_MVAL v → (s.buf (s.val Reg.CAP_MSEL % 16)).state ≠ .idle → Faults (.maskAccess req (some v)) s E.CAP 0) ∧
    (s.mayWrite req Reg.CAP_MVAL v → (s.buf (s.val Reg.CAP_MSEL % 16)).state = .idle →
      ∃ t, exec (.maskAccess req (some v)) s = .next t ∧ tget maskReset t.cap.mask s.maskKey = v % 2 ^ 32 ∧
        (∀ k, k ≠ s.maskKey → tget maskReset t.cap.mask k = tget maskReset s.cap.mask k) ∧
        t.cap = { s.cap with mask := t.cap.mask } ∧ t.fld Reg.CAP_MSEL F.CAP_MSEL_POINT = next ∧ RegsBut [Reg.CAP_MSEL] s t ∧
        Frame [.cap] [.CAP] s t) ∧
    (s.mayRead req Reg.CAP_MVAL →
      ∃ t, exec (.maskAccess req none) s = .next t ∧ t.hif = { s.hif with rdata := [tget maskReset s.cap.mask s.maskKey] } ∧
        t.fld Reg.CAP_MSEL F.CAP_MSEL_POINT = next ∧ RegsBut [Reg.CAP_MSEL] s t ∧ Frame [.hif] [.CAP] s t)) ∧
  (∀ (s : State) (n b : Nat) (refused : Bool), s.powered →
    ((16 ≤ b ∨ (s.buf b).state ≠ .archiving) → exec (.archiveWriteEnd n b refused) s = .next (s.advanceNs n)) ∧
    (b < 16 → (s.buf b).state = .archiving →
      let ok := refused = false ∧ s.ldg.lcPwr = true ∧ s.ldg.cstate = .active
      let release := (s.buf b).relAtEnd = true ∨ (ok ∧ s.flag (Reg.CAP_BnCFG b) F.CAP_BnCFG_ARCHREL = true)
      ∃ t, exec (.archiveWriteEnd n b refused) s = .next t ∧ (∀ j, j ≠ b → t.buf j = s.buf j) ∧
        (¬ release → t.buf b = { s.buf b with state := .stopped }) ∧
        (release → (s.flag (Reg.CAP_BnCFG b) F.CAP_BnCFG_AUTOARM = false ∨ s.acquires = false) → t.buf b = {}) ∧
        (¬ ok → (t.val Reg.CAP_ERRSTAT).testBit 2 = true ∧ (s.ldg.cstate ≠ .active → t.ldg = s.ldg) ∧
          (s.ldg.cstate = .active → t.ldg.cstate = .absent ∧ t.ldg.lcPwr = false)) ∧
        (ok →
          let rec_ := s.capRecord b
          let data := rec_ ++ List.replicate ((4096 - rec_.length % 4096) % 4096) 0
          let pages := 1 + data.length / 4096
          let at_ := if s.ldg.nextExtent + pages * 4096 ≤ 0x4000000000 then s.ldg.nextExtent else 0x3004000000
          t.ldg.nextExtent = at_ + pages * 4096 ∧
          t.ldg.cart = (s.ldg.cart.putBytes (at_ + 4096) data).putBytes at_
            (extentHeader rec_.length pages (crc32c data) (s.advanceNs n).stageLoss.ldg.jseq)) ∧
        Frame [.devMem, .now, .sys, .mtr, .cap, .evc, .ldg, .upd, .free] [.MTR, .CAP, .EVC, .LDG] s t))

/-- CAPTURE_TRIGGER: a trigger starts the POST count of an armed buffer; one for a buffer in STOPPED or ARCHIVING is missed, counted in MISSED
and shown in ERRSTAT; one for an IDLE buffer is ignored and not counted (R294). -/
def Obligations.TriggersTakenAndMissed : Prop :=
  (∀ (s : State) (n b : Nat), s.powered → 16 ≤ b → exec (.captureTrigger n b) s = .next (s.advanceNs n)) ∧
  (∀ (s : State) (n b : Nat), s.powered → b < 16 →
    let mine := s.cap.trigs.filter (fun g => bitAt g.bufs b == 1 && s.capSelected b g)
    ∃ t, exec (.captureTrigger n b) s = .next t ∧ (∀ g ∈ t.cap.trigs, bitAt g.bufs b = 0) ∧ (∀ j, j ≠ b → t.buf j = s.buf j) ∧
      t.cap.mask = s.cap.mask ∧ Frame [.devMem, .now, .sys, .cap, .evc, .free] [.CAP, .EVC] s t ∧
      ((s.buf b).state = .idle → t.buf b = s.buf b ∧ RegsBut [Reg.CAP_MERGED] s t) ∧
      ((s.buf b).state.held = true → t.buf b = s.buf b ∧ (mine ≠ [] →
        t.val (Reg.CAP_BnMISSED b) = min (s.val (Reg.CAP_BnMISSED b) + mine.length) 0xFFFFFFFF ∧
        (t.val Reg.CAP_ERRSTAT).testBit 1 = true)) ∧
      (∀ g, mine = [g] → (s.buf b).state = .armed →
        (t.buf b).marks.head?.map (fun m => (m.time, m.src, m.primary)) = some (g.time, g.code, true) ∧
        (t.buf b).state ≠ .armed ∧ (t.buf b).state ≠ .idle ∧
        t.val (Reg.CAP_BnTRIGS b) = min (s.val (Reg.CAP_BnTRIGS b) + 1) 0xFFFFFFFF ∧
        ((s.buf b).total = 0 → t.buf b = { s.buf b with
          state := .post, marks := [{ time := g.time, src := g.code, primary := true, restart := false }], baseAt := some g.time })))

/-! ### The lattice (chapter 15) -/

/-- IMAGE_LOAD and how a load ends, FLUSH, CTRL_ITEM_ENQUEUE and TILE_FAULT: a load is refused while one runs, and ends with the code of the first
check that fails, the lattice as it was, or with the image in force; a flush empties the selected queue; a control item enters its queue, and is
counted if it waited; a faulted tile stops and the unit goes to LOCKOUT (R307, R309, R317, R318, R321).
LATTICE_SWAP and SWAP_CLASS_TIMEOUT: a swap is refused in SHADOW and while one waits; in CONFIGURE it is done at once, else each enabled class
changes at its release or after 2 s, and when the last has changed the banks are exchanged and the copies begin (R183, R205, R320). -/
def Obligations.LatticeImagesAndBanks : Prop :=
  (∀ (s : State) (h : CmdHdr) (source addr len : Nat) (readable : Bool) (mm : Option Nat), s.powered → s.admits 0x0201 h →
    s.sys.mode = .configure →
    ((2 < source ∨ (source = 0 ∧ addr % 8 ≠ 0)) → Replies (.imageLoad h source addr len readable mm) s 0x0201 h.tag .arg []) ∧
    (source ≤ 2 → (source = 0 → addr % 8 = 0) →
      (s.lat.job ≠ none → Replies (.imageLoad h source addr len readable mm) s 0x0201 h.tag .busy []) ∧
      (s.lat.job = none →
        let image := if source = 0 then (if readable then some (s.hostBytes addr (min len 0x4000008)) else none)
          else s.flashImage (source == 2)
        ∃ t, exec (.imageLoad h source addr len readable mm) s = .next t ∧
          t.lat = { s.lat with job := some { tag := h.tag, image := image, mismatch := mm } } ∧
          t.hif = { s.hif with inProg := s.hif.inProg ++ [{ code := 0x0201, tag := h.tag }] } ∧ RegsBut [] s t ∧
          Frame [.lat, .hif] [] s t))) ∧
  (∀ (s : State) (j : LoadJob), s.lat.job = some j →
    (∀ f, s.loadChecks j.image = .inl f → s.heard 0x0201 j.tag →
      let e := (f.1 + f.2 % 65536 * 2 ^ 16) % 2 ^ 32
      Answers s s.finishLoad 0x0201 j.tag (loadStatus f.1) [e] ∧ s.finishLoad.val Reg.LAT_LOADERR = e ∧
        (s.finishLoad.val Reg.LAT_ERRSTAT).testBit 1 = true ∧ s.finishLoad.lat = { s.lat with job := none } ∧
        RegsBut [Reg.LAT_LOADERR, Reg.LAT_ERRSTAT, Reg.EVC_MERGEDCNT] s s.finishLoad) ∧
    (∀ x, s.loadChecks j.image = .inr x → s.finishLoad.lat.job = none ∧
      (j.mismatch = none → s.finishLoad.lat.loaded = true ∧ s.finishLoad.val Reg.LAT_LOADERR = 0) ∧
      (∀ i, j.mismatch = some i → s.finishLoad.lat.loaded = false ∧ s.finishLoad.val Reg.LAT_IMAGEID = 0 ∧
        s.finishLoad.val Reg.LAT_LOADERR = 0x13 + i % 65536 * 2 ^ 16))) ∧
  (∀ (s : State) (req : Requester) (v : Nat), s.powered → s.mayWrite req Reg.LAT_QCMD v →
    (bitAt v 0 = 0 → exec (.flush req v) s = .next s) ∧
    (bitAt v 0 = 1 →
      ∃ t, exec (.flush req v) s = .next t ∧ t.queue s.qsel = [] ∧ (∀ q, q ≠ s.qsel → t.queue q = s.queue q) ∧
        t.lat = { s.lat with queues := t.lat.queues } ∧ t.val Reg.LAT_FLUSHES = min (s.val Reg.LAT_FLUSHES + 1) 0xFFFFFFFF ∧
        RegsBut [Reg.LAT_FLUSHES] s t ∧ Frame [.lat] [.LAT] s t)) ∧
  (∀ (s : State) (n q : Nat) (waited : Bool), s.powered →
    ((1024 ≤ q ∨ s.ctlHold q = none) → exec (.ctrlItemEnqueue n q waited) s = .next (s.advanceNs n)) ∧
    (∀ h, q < 1024 → s.ctlHold q = some h →
      ∃ t, exec (.ctrlItemEnqueue n q waited) s = .next t ∧
        (64 ≤ (s.queue q).length → t.lat = s.lat) ∧
        ((s.queue q).length < 64 → t.queue q = s.queue q ++ [h.item] ∧ t.ctlHold q = none) ∧
        ((waited = true ∨ 64 ≤ (s.queue q).length) → t.val Reg.LAT_CTLLATE = min (s.val Reg.LAT_CTLLATE + 1) 0xFFFFFFFF) ∧
        (waited = false → (s.queue q).length < 64 → RegsBut [] s t) ∧
        (∀ r, r ≠ q → t.queue r = s.queue r ∧ t.ctlHold r = s.ctlHold r) ∧ RegsBut [Reg.LAT_CTLLATE] s t ∧
        Frame [.now, .lat] [.LAT] s t)) ∧
  (∀ (s : State) (n i : Nat), s.powered →
    ((∀ x, s.tile i = some x → x.fault = true) → exec (.tileFault n i) s = .next (s.advanceNs n)) ∧
    (∀ x, s.tile i = some x → x.fault = false →
      ∃ t, exec (.tileFault n i) s = .next t ∧ t.tile i = some { x with fault := true } ∧ (∀ j, j ≠ i → t.tile j = s.tile j) ∧
        t.val Reg.LAT_TILEFAULTS = min (s.val Reg.LAT_TILEFAULTS + 1) 0xFFFFFFFF ∧ (t.val Reg.LAT_ERRSTAT).testBit 2 = true ∧
        (s.sys.mode ∉ [.boot, .dormant, .lockout] → t.sys.mode = .lockout ∧ t.sys.prev = s.sys.mode ∧
          (t.val Reg.SYS_ERRSTAT).testBit 3 = true) ∧
        (s.sys.mode ∈ [.boot, .dormant, .lockout] → t.sys.mode = s.sys.mode ∧ t.hif = s.hif) ∧
        Frame [.devMem, .now, .sys, .eth, .snap, .topo, .det, .alm, .afe, .flt, .mtr, .cap, .lat, .evc, .chd, .ldg, .hif, .free]
          [.SYS, .ETH, .SNAP, .TOPO, .ALM, .FLT, .MTR, .CAP, .LAT, .EVC, .CHD, .LDG] s t)) ∧
  (∀ (s : State) (req : Requester) (v : Nat), s.powered → s.mayWrite req Reg.LAT_SWAPCMD v →
    (bitAt v 0 = 0 → exec (.latticeSwap req v) s = .next s) ∧
    (bitAt v 0 = 1 → (s.sys.mode = .shadow ∨ s.lat.swapPend = true) → Faults (.latticeSwap req v) s E.LAT 0) ∧
    (bitAt v 0 = 1 → s.sys.mode ≠ .shadow → s.lat.swapPend = false →
      ∃ t, exec (.latticeSwap req v) s = .next t ∧
        ((s.sys.mode = .configure ∨ ∀ c, c < 8 → s.scEn c = false) → t.lat.abank = 1 - s.lat.abank ∧ t.lat.swapPend = false ∧
          t.flag Reg.DET_STAT F.DET_STAT_TBUSY = true ∧ t.flag Reg.MODAL_STAT F.MODAL_STAT_TBUSY = true ∧
          t.val Reg.LAT_SWAPS = min (s.val Reg.LAT_SWAPS + 1) 0xFFFFFFFF) ∧
        (s.sys.mode ≠ .configure → (∃ c, c < 8 ∧ s.scEn c = true) → t.lat.abank = s.lat.abank ∧ t.lat.swapPend = true ∧
          t.lat.swapAt = s.ns ∧ t.lat.late = [7, 8, 9, 10] ∧ t.lat.swapSeqs = [] ∧ (∀ c, c < 8 → t.scSwapped c = !s.scEn c) ∧
          RegsBut [Reg.CHD_DELTAS] s t) ∧
        Frame [.sys, .modal, .lat, .evc, .chd] [.DET, .MODAL, .LAT, .EVC, .CHD] s t)) ∧
  (∀ (s : State) (n c : Nat), s.powered →
    let u := s.advanceNs n
    ((8 ≤ c ∨ s.lat.swapPend = false ∨ u.ns < s.lat.swapAt + 2000000000 ∨ s.scSwapped c = true) →
      exec (.swapClassTimeout n c) s = .next u) ∧
    (c < 8 → s.lat.swapPend = true → s.lat.swapAt + 2000000000 ≤ u.ns → s.scSwapped c = false →
      ∃ t, exec (.swapClassTimeout n c) s = .next t ∧
        ((∀ m, m < 8 → m ≠ c → s.scSwapped m = true) → t.lat.abank = 1 - s.lat.abank ∧ t.lat.swapPend = false ∧
          t.flag Reg.DET_STAT F.DET_STAT_TBUSY = true ∧ t.flag Reg.MODAL_STAT F.MODAL_STAT_TBUSY = true ∧
          t.val Reg.LAT_SWAPS = min (s.val Reg.LAT_SWAPS + 1) 0xFFFFFFFF) ∧
        ((∃ m, m < 8 ∧ m ≠ c ∧ s.scSwapped m = false) → t.lat.abank = s.lat.abank ∧ t.lat.swapPend = true ∧ t.scSwapped c = true ∧
          t.scBank c = 1 - s.lat.abank ∧ (∀ m, m ≠ c → t.scSwapped m = s.scSwapped m) ∧ RegsBut [] s t) ∧
        Frame [.now, .sys, .modal, .lat, .evc] [.DET, .MODAL, .LAT, .EVC] s t))

/-! ### Events, cores and the dispatcher (chapter 16) -/

/-- EVENT_EDGE of an edge source: dropped while its EN is 0, merged into its pending record, or made a new pending record of its target with
the moment and INFO; with the NOC clock stopped only the external edges are held, in latches (R338, R341, R470).
RECORD_POST: the pending record of highest priority is written as its 16 bytes to the slot at HEAD, in core memory for T0-T7 and in host
memory for T8-T23, and HEAD advances; a write that fails moves nothing, clears EN and sets RINGERR (R336, R337). -/
def Obligations.EdgesPendAndRecordsPost : Prop :=
  (∀ (s : State) (src info : Nat), s.powered → isLevelSrc src = false →
    (s.sys.mode ≠ .dormant →
      (bitAt (s.srcCfg src) 11 = 0 → exec (.eventEdge src info) s = .next s) ∧
      (bitAt (s.srcCfg src) 11 = 1 → ∀ n, s.pendingAt src = some n →
        ∃ t, exec (.eventEdge src info) s = .next t ∧ (t.target n).pend = mergeInto src info (s.target n).pend ∧
          t.val Reg.EVC_MERGEDCNT = min (s.val Reg.EVC_MERGEDCNT + 1) 0xFFFFFFFF ∧ (∀ m, m ≠ n → t.target m = s.target m) ∧
          RegsBut [Reg.EVC_MERGEDCNT] s t ∧ Frame [.evc] [.EVC] s t) ∧
      (bitAt (s.srcCfg src) 11 = 1 → s.pendingAt src = none →
        ∃ t, exec (.eventEdge src info) s = .next t ∧
          (t.target (s.srcCfg src % 32)).pend = (s.target (s.srcCfg src % 32)).pend ++
            [{ src := src, prio := s.srcCfg src / 32 % 32, time := s.ns32, info := info % 2 ^ 32 }] ∧
          (∀ m, m ≠ s.srcCfg src % 32 → t.target m = s.target m) ∧ RegsBut [] s t ∧ Frame [.evc] [] s t)) ∧
    (s.sys.mode = .dormant →
      ∃ t, exec (.eventEdge src info) s = .next t ∧
        (0x240 ≤ src → src ≤ 0x245 → src ∈ t.sys.edgeLatches) ∧
        ((src < 0x240 ∨ 0x245 < src) → t = s) ∧ RegsBut [] s t ∧ Frame [.sys] [] s t)) ∧
  (∀ (s : State) (n : Nat) (wf : Bool) (r : EvcRec), s.powered → n < 24 → s.flag Reg.EVC_CTL F.EVC_CTL_EN = true → s.asleep n = false →
    (s.target n).ring.length < s.ringSize n → bestPend (s.target n).pend = some r →
    (s.ringFails n (s.ringBase n + 16 * (s.target n).head) wf = false →
      ∃ t, exec (.recordPost n wf) s = .next t ∧
        (n < 8 → t.devBytes (s.ringBase n + 16 * (s.target n).head) 16 = r.bytes (s.target n).seq ∧
          DevBut (s.ringBase n + 16 * (s.target n).head) 16 s t ∧ t.hostMem = s.hostMem) ∧
        (8 ≤ n → t.hostBytes (s.ringBase n + 16 * (s.target n).head) 16 = r.bytes (s.target n).seq ∧
          HostBut (s.ringBase n + 16 * (s.target n).head) 16 s t ∧ t.devMem = s.devMem) ∧
        (t.target n).pend = (s.target n).pend.filter (fun x => x.src ≠ r.src) ∧
        (t.target n).ring = (s.target n).ring ++ [{ slot := (s.target n).head, src := r.src, prio := r.prio, level := r.level }] ∧
        (t.target n).head = ((s.target n).head + 1) % s.ringSize n ∧ (t.target n).seq = ((s.target n).seq + 1) % 65536 ∧
        t.val (Reg.EVC_TGTnHEAD n) = ((s.target n).head + 1) % s.ringSize n ∧
        t.val Reg.EVC_POSTED = min (s.val Reg.EVC_POSTED + 1) 0xFFFFFFFF ∧ (∀ m, m ≠ n → t.target m = s.target m) ∧
        RegsBut [Reg.EVC_TGTnHEAD n, Reg.EVC_POSTED] s t ∧ Frame [.devMem, .hostMem, .evc, .hif] [.EVC] s t) ∧
    (s.ringFails n (s.ringBase n + 16 * (s.target n).head) wf = true →
      ∃ t, exec (.recordPost n wf) s = .next t ∧ t.flag (Reg.EVC_TGTnCTL n) F.EVC_TGTnCTL_EN = false ∧
        (t.val Reg.EVC_ERRSTAT).testBit 3 = true ∧ (8 ≤ n → (t.val Reg.HIF_ERRSTAT).testBit 4 = true) ∧
        t.reg (Reg.EVC_TGTnHEAD n) = s.reg (Reg.EVC_TGTnHEAD n) ∧ (t.target n).ring = (s.target n).ring ∧
        Frame [.sys, .evc] [.EVC, .HIF] s t))

/-- What is posted and what is claimed first: the pending record of the lowest PRIO number, and of those the lowest SRC; the claimable ring
record of the lowest PRIO number (R336, R339).
CLAIM: the read answers the index of the claimable record with VALID and pushes its PRIO; with none, or a stack full or frozen, it answers
VALID 0 and pushes nothing (R339). -/
def Obligations.PriorityAndClaim : Prop :=
  (∀ l : List EvcRec, (bestPend l = none ↔ l = []) ∧
    ∀ r, bestPend l = some r → r ∈ l ∧ ∀ x ∈ l, r.prio < x.prio ∨ (r.prio = x.prio ∧ r.src ≤ x.src)) ∧
  (∀ t : EvcTarget, (bestClaim t = none ↔ ∀ x ∈ t.ring, t.claimable x = false) ∧
    ∀ r, bestClaim t = some r → r ∈ t.ring ∧ t.claimable r = true ∧ ∀ x ∈ t.ring, t.claimable x = true → r.prio ≤ x.prio) ∧
  (∀ (s : State) (req : Requester) (n : Nat), s.powered → s.mayRead req (Reg.EVC_TGTnCLAIM n) →
    (((s.target n).frozen = true ∨ 16 ≤ (s.target n).stack.length ∨ bestClaim (s.target n) = none) →
      exec (.claim req n) s = .next (s.answer [0])) ∧
    (∀ r, (s.target n).frozen = false → (s.target n).stack.length < 16 → bestClaim (s.target n) = some r →
      ∃ t, exec (.claim req n) s = .next t ∧ t.hif.rdata = [r.slot + 2 ^ 31] ∧ (t.target n).stack = (r.slot, r.prio) :: (s.target n).stack ∧
        (t.target n).ring = (s.target n).ring.map (fun x => if x.slot = r.slot then { x with claimed := true } else x) ∧
        (t.target n).pend = (s.target n).pend ∧ (∀ m, m ≠ n → t.target m = s.target m) ∧ RegsBut [] s t ∧ Frame [.evc, .hif] [] s t))

/-- TGT_DONE and TGT_RESET: the most recent claim's index completes its record, pops the stack and frees the completed slots at the ring's old
end; any other index freezes the stack and sets ORDER; while frozen nothing happens; a reset empties and unfreezes the stack and completes every
claimed record (R339, R340). -/
def Obligations.CompletionPopsStack : Prop :=
  (∀ (s : State) (req : Requester) (n v : Nat), s.powered → s.mayWrite req (Reg.EVC_TGTnDONE n) v →
    ((s.target n).frozen = true → exec (.tgtDone req n v) s = .next s) ∧
    ((s.target n).frozen = false → ∀ p rest, (s.target n).stack = (v % 4096, p) :: rest →
      ∃ t, exec (.tgtDone req n v) s = .next t ∧ (t.target n).stack = rest ∧ (t.target n).frozen = false ∧
        (t.target n).ring = ((s.target n).ring.map
          (fun r => if r.slot = v % 4096 && r.claimed then { r with completed := true } else r)).dropWhile (·.completed) ∧
        (v.testBit 31 = true → t.val Reg.EVC_SPURIOUS = min (s.val Reg.EVC_SPURIOUS + 1) 0xFFFFFFFF ∧
          (t.val Reg.EVC_ERRSTAT).testBit 4 = true) ∧
        (v.testBit 31 = false → RegsBut [Reg.EVC_TGTnTAIL n] s t) ∧ Frame [.sys, .evc, .hif] [.EVC] s t) ∧
    ((s.target n).frozen = false → ((s.target n).stack.head?.map (·.1)) ≠ some (v % 4096) →
      ∃ t, exec (.tgtDone req n v) s = .next t ∧ (t.target n).frozen = true ∧ (t.target n).stack = (s.target n).stack ∧
        (t.target n).ring = (s.target n).ring ∧ (t.val Reg.EVC_ERRSTAT).testBit 1 = true ∧
        t.val Reg.EVC_ORDERFLT = min (s.val Reg.EVC_ORDERFLT + 1) 0xFFFFFFFF ∧
        RegsBut [Reg.EVC_ERRSTAT, Reg.EVC_ORDERFLT, Reg.EVC_MERGEDCNT] s t ∧ Frame [.sys, .evc] [.EVC] s t)) ∧
  (∀ (s : State) (req : Requester) (n v : Nat), s.powered → s.mayWrite req (Reg.EVC_TGTnRESET n) v →
    (v.testBit 0 = true →
      ∃ t, exec (.tgtReset req n v) s = .next t ∧ (t.target n).stack = [] ∧ (t.target n).frozen = false ∧
        (∀ r ∈ (t.target n).ring, r.claimed = true → r.completed = true) ∧ RegsBut [Reg.EVC_TGTnTAIL n] s t ∧
        Frame [.sys, .evc, .hif] [.EVC] s t) ∧
    (v.testBit 0 = false → exec (.tgtReset req n v) s = .next s))

/-- SWSET, SWCLR and REROUTE_EXPIRY: a software level asserted makes a record when it has none pending or posted, and de-asserted leaves the
records it made; once a target has slept with records for REROUTE_T, they are at its fallback with REROUTED, but for those moved before (R335,
R340, R342). -/
def Obligations.LevelsAndReroute : Prop :=
  (∀ (s : State) (req : Requester) (v : Nat), s.powered → s.mayWrite req Reg.EVC_SWSET v →
    ∃ t, exec (.swset req v) s = .next t ∧ t.levelNow (0x800 + v % 256) = true ∧
      (bitAt (s.srcCfg (0x800 + v % 256)) 11 = 1 → s.pendingAt (0x800 + v % 256) = none → s.postedRec (0x800 + v % 256) = false →
        ∃ r ∈ (t.target (s.srcCfg (0x800 + v % 256) % 32)).pend, r.src = 0x800 + v % 256 ∧ r.level = true ∧ r.time = s.ns32) ∧
      RegsBut [] s t ∧ Frame [.evc] [] s t) ∧
  (∀ (s : State) (req : Requester) (v : Nat), s.powered → s.mayWrite req Reg.EVC_SWCLR v →
    ∃ t, exec (.swclr req v) s = .next t ∧ t.levelNow (0x800 + v % 256) = false ∧ t.evc = { s.evc with levels := t.evc.levels } ∧
      (∀ src, src ≠ 0x800 + v % 256 → t.levelNow src = s.levelNow src) ∧ RegsBut [] s t ∧ Frame [.evc] [] s t) ∧
  (∀ (s : State) (n tgt : Nat), s.powered →
    ((s.advanceNs n).rerouteDue tgt = true →
      ∃ t, exec (.rerouteExpiry n tgt) s = .next t ∧
        (∀ r ∈ (s.target tgt).pend, r.rerouted = false →
          ∃ x ∈ (t.target (s.fld (Reg.EVC_TGTnCTL tgt) F.EVC_TGTnCTL_FALLBACK)).pend, x.src = r.src ∧ x.rerouted = true) ∧
        (∀ r ∈ (s.target tgt).pend, r.rerouted = true → ∃ x ∈ (t.target tgt).pend, x.src = r.src ∧ x.rerouted = true) ∧
        t.val Reg.EVC_REROUTES =
          min (s.val Reg.EVC_REROUTES + ((s.target tgt).pend.filter (fun r => !r.rerouted)).length) 0xFFFFFFFF ∧
        RegsBut [Reg.EVC_REROUTES, Reg.EVC_ERRSTAT, Reg.EVC_MERGEDCNT] s t ∧ Frame [.now, .sys, .evc] [.EVC] s t) ∧
    ((s.advanceNs n).rerouteDue tgt = false → exec (.rerouteExpiry n tgt) s = .next (s.advanceNs n)))

/-- ACCESS_FAULT, BUS_ERROR, ALIGNMENT_EXCEPTION, ILLEGAL_INSTRUCTION and IMASK_WRITE: the core finds its code, its handler's address VBASE +
code * 0x80 and the access; a mask write takes the lowest condition that is due and no longer masked (R323-R326, R14). That an asynchronous
exception masks both until its handler clears them is the model's reading (notes/assumptions/12).
WAIT and WARM_START: a core waits in the state that PWRMODE names, MODE 3 being refused, unless an enabled wake line is up; such a line
ends the wait, from OFF at the vector of exception 1 with VBASE at its reset value (R325, R327, R328). -/
def Obligations.CoresTakeExceptionsAndWait : Prop :=
  (∀ (s : State) (k addr : Nat) (write : Bool), s.powered → 6 ≤ k → k < 8 → s.mayAccess k addr 0 write = false →
    ∃ t, exec (.accessFault k addr write) s = .next t ∧ (t.core k).excCode = 3 ∧ (t.core k).excVector = (s.core k).vbase + 0x180 ∧
      (t.core k).excAddr = addr ∧ (t.core k).excWrite = write ∧ (write = false → t.hif.rdata = [0]) ∧
      (s.sys.mode ≠ .dormant → ∃ n, ∃ r ∈ (t.target n).pend, r.src = 0xFE3 ∧ r.info = addr % 2 ^ 32) ∧
      (∀ j, j ≠ k → t.core j = s.core j) ∧ RegsBut [Reg.EVC_MERGEDCNT] s t ∧ Frame [.sys, .cores, .evc, .hif] [.EVC] s t) ∧
  (∀ (s : State) (k addr : Nat), s.powered →
    ∃ t, exec (.busError k addr true) s = .next t ∧ (t.core k).excCode = 2 ∧ (t.core k).excVector = (s.core k).vbase + 0x100 ∧
      (t.core k).excAddr = addr ∧ t.sys.doubleErrs = s.sys.doubleErrs + 1 ∧
      (s.sys.mode ≠ .dormant → ∃ n, ∃ r ∈ (t.target n).pend, r.src = 0xFE2 ∧ r.info = addr % 2 ^ 32) ∧
      (∀ j, j ≠ k → t.core j = s.core j) ∧ RegsBut [Reg.EVC_MERGEDCNT] s t ∧ Frame [.sys, .cores, .evc] [.EVC] s t) ∧
  (∀ (s : State) (k addr : Nat), s.powered → s.region addr = .unmapped →
    ∃ t, exec (.busError k addr false) s = .next t ∧ (t.core k).excCode = 2 ∧ (t.core k).excAddr = addr ∧
      (∀ j, j ≠ k → t.core j = s.core j) ∧ RegsBut [] s t ∧ Frame [.cores] [] s t) ∧
  (∀ (s : State) (k : Nat), s.powered →
    (∃ t, exec (.alignmentException k) s = .next t ∧ (t.core k).excCode = 4 ∧ (t.core k).excVector = (s.core k).vbase + 0x200 ∧
      (t.core k).imask = (s.core k).imask ∧ (∀ j, j ≠ k → t.core j = s.core j) ∧ RegsBut [] s t ∧ Frame [.cores] [] s t) ∧
    (∃ t, exec (.illegalInstruction k) s = .next t ∧ (t.core k).excCode = 5 ∧ (t.core k).excVector = (s.core k).vbase + 0x280 ∧
      (t.core k).imask = (s.core k).imask ∧ (∀ j, j ≠ k → t.core j = s.core j) ∧ RegsBut [] s t ∧ Frame [.cores] [] s t)) ∧
  (∀ (s : State) (k v : Nat), s.powered →
    ∃ t, exec (.imaskWrite k v) s = .next t ∧
      ((s.target k).irqNow = true → bitAt (v % 2 ^ 32) 6 = 0 → (t.core k).excCode = 6 ∧ (t.core k).excVector = (s.core k).vbase + 0x300) ∧
      (((s.target k).irqNow = false ∨ bitAt (v % 2 ^ 32) 6 = 1) → (s.core k).preempt = true → bitAt (v % 2 ^ 32) 7 = 0 →
        (t.core k).excCode = 7 ∧ (t.core k).excVector = (s.core k).vbase + 0x380) ∧
      (((s.target k).irqNow = false ∨ bitAt (v % 2 ^ 32) 6 = 1) → ((s.core k).preempt = false ∨ bitAt (v % 2 ^ 32) 7 = 1) →
        t.core k = { s.core k with imask := v % 2 ^ 32 }) ∧
      (∀ j, j ≠ k → t.core j = s.core j) ∧ RegsBut [] s t ∧ Frame [.cores] [] s t) ∧
  (∀ (s : State) (k m : Nat), s.powered → m % 4 ≠ 3 →
    (s.wakeLine k (m % 32) = false →
      ∃ t, exec (.wait k m) s = .next t ∧ t.core k = { s.core k with pwrmode := m % 32, waiting := some (m % 32) } ∧
        (∀ j, j ≠ k → t.core j = s.core j) ∧ (∀ j, j ≠ k → t.target j = s.target j) ∧ RegsBut [] s t ∧ Frame [.sys, .cores, .evc] [] s t) ∧
    (s.wakeLine k (m % 32) = true →
      ∃ t, exec (.wait k m) s = .next t ∧ t.core k = { s.core k with pwrmode := m % 32 } ∧
        (∀ j, j ≠ k → t.core j = s.core j) ∧ Frame [.sys, .cores, .evc] [.SYS, .EVC] s t)) ∧
  (∀ (s : State) (k m : Nat), s.powered → m % 4 = 3 → ∃ t, exec (.wait k m) s = .next t ∧ (t.core k).pwrmode % 4 = (s.core k).pwrmode % 4) ∧
  (∀ (s : State) (k m : Nat), s.powered → s.sys.mode ≠ .dormant → s.sys.windowFrom = none → (s.core k).waiting = some m →
    (s.wakeLine k m = true →
      ∃ t, exec (.warmStart k) s = .next t ∧ (t.core k).waiting = none ∧
        (m % 4 = 2 → (t.core k).excCode = 1 ∧ (t.core k).excVector = 0x80 ∧ (t.core k).vbase = 0) ∧
        (m % 4 ≠ 2 → t.core k = { s.core k with waiting := none }) ∧
        (∀ j, j ≠ k → t.core j = s.core j) ∧ Frame [.sys, .cores, .evc] [.SYS, .EVC] s t) ∧
    (s.wakeLine k m = false → exec (.warmStart k) s = .next s))

/-- READY, DELAY and CANCEL: the transitions of a task by its state, a requester of the other partition refused with PART, and a CANCEL that
wins over a READY of the same cycle (R329, R330, R333). -/
def Obligations.TasksQueuedAndCancelled : Prop :=
  (∀ (s : State) (req : Requester) (v : Nat), s.powered → s.mayWrite req Reg.TSK_READY v → taskAllowed req (v % 4096) = true →
    ((s.task (v % 4096)).state = .idle →
      ∃ t, exec (.ready req v) s = .next t ∧ t.task (v % 4096) = { s.task (v % 4096) with state := .ready } ∧
        t.level (s.task (v % 4096)).prio = s.level (s.task (v % 4096)).prio ++ [v % 4096] ∧
        (∀ j, j ≠ v % 4096 → t.task j = s.task j) ∧ RegsBut [Reg.TSK_PREEMPTS] s t ∧ Frame [.cores, .tsk] [.TSK] s t) ∧
    ((s.task (v % 4096)).state = .running →
      ∃ t, exec (.ready req v) s = .next t ∧ t.task (v % 4096) = { s.task (v % 4096) with rerun := true } ∧
        (∀ j, j ≠ v % 4096 → t.task j = s.task j) ∧ t.tsk = { s.tsk with tasks := t.tsk.tasks } ∧ RegsBut [] s t ∧ Frame [.tsk] [] s t) ∧
    (((s.task (v % 4096)).state = .ready ∨ (s.task (v % 4096)).state = .delayed) → exec (.ready req v) s = .next s)) ∧
  (∀ (s : State) (req : Requester) (v : Nat), s.powered → s.mayWrite req Reg.TSK_READY v → taskAllowed req (v % 4096) = false →
    ∃ t, exec (.ready req v) s = .next t ∧ (t.val Reg.TSK_ERRSTAT).testBit 2 = true ∧
      RegsBut [Reg.TSK_ERRSTAT, Reg.EVC_MERGEDCNT] s t ∧ Frame [.sys, .evc] [.TSK, .EVC] s t) ∧
  (∀ (s : State) (req : Requester) (v : Nat), s.powered → s.mayWrite req Reg.TSK_DELAY v → taskAllowed req (v % 4096) = true →
    (v / 4096 % 2 ^ 20 ≠ 0 → (s.task (v % 4096)).state = .idle →
      ∃ t, exec (.delay req v) s = .next t ∧ t.task (v % 4096) = { s.task (v % 4096) with state := .delayed } ∧
        t.tsk.delays = s.tsk.delays ++ [(v % 4096, (s.tsk.tick + v / 4096 % 2 ^ 20) % 2 ^ 32)] ∧
        (∀ j, j ≠ v % 4096 → t.task j = s.task j) ∧ RegsBut [] s t ∧ Frame [.tsk] [] s t) ∧
    (v / 4096 % 2 ^ 20 ≠ 0 → (s.task (v % 4096)).state ≠ .idle → exec (.delay req v) s = .next s) ∧
    (v / 4096 % 2 ^ 20 = 0 →
      ∃ t, exec (.delay req v) s = .next t ∧ (t.val Reg.TSK_ERRSTAT).testBit 0 = true ∧
        RegsBut [Reg.TSK_ERRSTAT, Reg.EVC_MERGEDCNT] s t ∧ Frame [.sys, .evc] [.TSK, .EVC] s t)) ∧
  (∀ (s : State) (req : Requester) (v : Nat), s.powered → s.mayWrite req Reg.TSK_CANCEL v → taskAllowed req (v % 4096) = true →
    (((s.task (v % 4096)).state = .ready ∨ (s.task (v % 4096)).state = .delayed) →
      ∃ t, exec (.cancel req v 0 []) s = .next t ∧ t.task (v % 4096) = { s.task (v % 4096) with state := .idle } ∧
        v % 4096 ∉ t.level (s.task (v % 4096)).prio ∧ (∀ d ∈ t.tsk.delays, d.1 ≠ v % 4096) ∧
        (∀ j, j ≠ v % 4096 → t.task j = s.task j) ∧ RegsBut [] s t ∧ Frame [.tsk] [] s t) ∧
    ((s.task (v % 4096)).state = .running →
      ∃ t, exec (.cancel req v 0 []) s = .next t ∧ t.task (v % 4096) = { s.task (v % 4096) with rerun := false } ∧
        t.tsk = { s.tsk with tasks := t.tsk.tasks } ∧ RegsBut [] s t ∧ Frame [.tsk] [] s t) ∧
    ((s.task (v % 4096)).state = .idle →
      ∃ t, exec (.cancel req v 0 [.ready req v]) s = .next t ∧ t.task (v % 4096) = s.task (v % 4096) ∧
        v % 4096 ∉ t.level (s.task (v % 4096)).prio ∧ t.val Reg.TSK_RACECNT = min (s.val Reg.TSK_RACECNT + 1) 0xFFFFFFFF ∧
        Frame [.cores, .tsk] [.TSK] s t))

/-- NEXT, DONE, YIELD and DISPATCHER_TICK: NEXT binds the first READY task that may run on the core and whose flow is free; DONE and YIELD take
only the core that runs the task; a tick of count n advances TICK by n and releases every task whose expiry it passes (R330, R331, R334). -/
def Obligations.TasksServed : Prop :=
  (∀ (s : State) (k : Nat), s.powered → s.mayRead (.core k) Reg.TSK_NEXT → s.flag Reg.TSK_CTL F.TSK_CTL_EN = true →
    (∀ n, (s.readyOrder.filter (fun n => bitAt (s.task n).cores k = 1)).find? (fun n => !s.flowBusy (s.task n)) = some n →
      ∃ t, exec (.next (.core k)) s = .next t ∧ t.hif.rdata = [n + 2 ^ 31] ∧ t.task n = { s.task n with state := .running } ∧
        t.runOf k = some n ∧ (t.core k).idle = false ∧ (t.core k).preempt = false ∧ n ∉ t.level (s.task n).prio ∧
        t.val Reg.TSK_DISPATCHED = min (s.val Reg.TSK_DISPATCHED + 1) 0xFFFFFFFF ∧ (∀ j, j ≠ n → t.task j = s.task j) ∧
        RegsBut [Reg.TSK_DISPATCHED, Reg.TSK_FLOWWAIT] s t ∧ Frame [.cores, .tsk, .hif] [.TSK] s t) ∧
    ((s.readyOrder.filter (fun n => bitAt (s.task n).cores k = 1)).find? (fun n => !s.flowBusy (s.task n)) = none →
      ∃ t, exec (.next (.core k)) s = .next t ∧ t.hif.rdata = [0] ∧ (t.core k).idle = true ∧ t.tsk = s.tsk ∧
        RegsBut [Reg.TSK_FLOWWAIT] s t ∧ Frame [.cores, .hif] [.TSK] s t)) ∧
  (∀ (s : State) (k v : Nat), s.powered → taskAllowed (.core k) (v % 4096) = true →
    (s.runOf k = some (v % 4096) →
      (s.mayWrite (.core k) Reg.TSK_DONE v → (s.task (v % 4096)).rerun = false →
        ∃ t, exec (.done (.core k) v) s = .next t ∧ t.task (v % 4096) = { s.task (v % 4096) with state := .idle } ∧ t.runOf k = none ∧
          (t.core k).preempt = false ∧ (∀ j, j ≠ v % 4096 → t.task j = s.task j) ∧ RegsBut [] s t ∧ Frame [.cores, .tsk] [] s t) ∧
      (s.mayWrite (.core k) Reg.TSK_DONE v → (s.task (v % 4096)).rerun = true →
        ∃ t, exec (.done (.core k) v) s = .next t ∧ t.task (v % 4096) = { s.task (v % 4096) with state := .ready, rerun := false } ∧
          t.runOf k = none ∧ t.level (s.task (v % 4096)).prio = s.level (s.task (v % 4096)).prio ++ [v % 4096] ∧
          RegsBut [Reg.TSK_PREEMPTS] s t ∧ Frame [.cores, .tsk] [.TSK] s t) ∧
      (s.mayWrite (.core k) Reg.TSK_YIELD v →
        ∃ t, exec (.yield (.core k) v) s = .next t ∧ t.task (v % 4096) = { s.task (v % 4096) with state := .ready } ∧
          t.runOf k = none ∧ t.level (s.task (v % 4096)).prio = (v % 4096) :: s.level (s.task (v % 4096)).prio ∧
          RegsBut [Reg.TSK_PREEMPTS] s t ∧ Frame [.cores, .tsk] [.TSK] s t)) ∧
    (s.runOf k ≠ some (v % 4096) → s.mayWrite (.core k) Reg.TSK_DONE v →
      ∃ t, exec (.done (.core k) v) s = .next t ∧ (t.val Reg.TSK_ERRSTAT).testBit 3 = true ∧
        RegsBut [Reg.TSK_ERRSTAT, Reg.EVC_MERGEDCNT] s t ∧ Frame [.sys, .evc] [.TSK, .EVC] s t)) ∧
  (∀ (s : State) (n : Nat), s.powered → n ≠ 0 →
    ∃ t, exec (.dispatcherTick n) s = .next t ∧ t.tsk.tick = (s.tsk.tick + n) % 2 ^ 32 ∧
      (∀ d ∈ s.tsk.delays, reached ((s.tsk.tick + n) % 2 ^ 32) d.2 = true →
        (t.task d.1).state = .ready ∧ ∀ x ∈ t.tsk.delays, x.1 ≠ d.1) ∧
      (∀ d ∈ s.tsk.delays, d ∈ t.tsk.delays ∨ ∃ x ∈ s.tsk.delays, x.1 = d.1 ∧ reached ((s.tsk.tick + n) % 2 ^ 32) x.2 = true) ∧
      (1 < n → t.val Reg.TSK_TICKLATE = min (s.val Reg.TSK_TICKLATE + (n - 1)) 0xFFFFFFFF ∧ (t.val Reg.TSK_ERRSTAT).testBit 1 = true) ∧
      (n = 1 → RegsBut [Reg.TSK_PREEMPTS] s t) ∧ Frame [.sys, .cores, .tsk, .evc] [.TSK, .EVC] s t)

/-! ### Redundant pairs (chapter 17) -/

/-- Every message of a partner, referee or unit: none is taken while messaging does not run or on a link that is not the device's; a bad frame and
a duplicate are counted and dropped; one that is taken is noted. HELLO_RECEIVED, HEARTBEAT_SEND, HEARTBEAT_RECEIVED, CHORD_LANE_UP, LANE_DOWN,
CHORD_LOST and REFEREE_LOST: what each says of its sender is kept, a peer that pairs is sent heartbeats, a lost one is shown
(R347-R350, R352, R361, R362, R371). -/
def Obligations.LinksAndPeers : Prop :=
  (∀ (c : Instr) (s : State) (n : Nat) (h : ChdHdr) (hello : Bool), chdMsg c = some (n, h, hello) → s.powered →
    ((s.chdUp = false ∨ (goodMsg h = true ∧ s.hasLink h.link = false)) → exec c s = .next (s.advanceNs n)) ∧
    (s.chdUp = true → goodMsg h = false →
      ∃ t, exec c s = .next t ∧ t.val Reg.CHD_LANECRC = min (s.val Reg.CHD_LANECRC + 1) 0xFFFFFFFF ∧ RegsBut [Reg.CHD_LANECRC] s t ∧
        Frame [.now] [.CHD] s t) ∧
    (s.chdUp = true → goodMsg h = true → s.hasLink h.link = true → s.again h hello →
      ∃ t, exec c s = .next t ∧ t.val Reg.CHD_DUPDISC = min (s.val Reg.CHD_DUPDISC + 1) 0xFFFFFFFF ∧ RegsBut [Reg.CHD_DUPDISC] s t ∧
        Frame [.now] [.CHD] s t)) ∧
  (∀ (s : State) (h : ChdHdr), s.chd.fenced = false →
    (s.noteMsg h).peer h.link = { s.peer h.link with heard := some s.ns } ∧ RegsBut [] s (s.noteMsg h) ∧
    Frame [.chd] [] s (s.noteMsg h)) ∧
  (∀ (s : State) (n : Nat) (h : ChdHdr) (b : HelloBody), s.powered → s.calm h true →
    let old := { s.peer h.link with heard := some (s.advanceNs n).ns }
    (commonVersion b.lowest b.highest = 0 →
      ∃ t, exec (.helloReceived n h b) s = .next t ∧ t.peer h.link = { old with paired := false } ∧
        (t.val Reg.CHD_ERRSTAT).testBit 9 = true ∧ Frame [.now, .sys, .evc, .chd] [.EVC, .CHD] s t) ∧
    (commonVersion b.lowest b.highest ≠ 0 → s.idTaken h.link h.unitId = true →
      ∃ t, exec (.helloReceived n h b) s = .next t ∧ t.peer h.link = { old with paired := false } ∧
        (t.val Reg.CHD_ERRSTAT).testBit 0 = true ∧ Frame [.now, .sys, .evc, .chd] [.EVC, .CHD] s t) ∧
    (commonVersion b.lowest b.highest ≠ 0 → s.idTaken h.link h.unitId = false →
      (∀ l, h.link = .chord l → ∃ t, exec (.helloReceived n h b) s = .next t ∧ t.chd.partner = helloPeer b old h.unitId ∧
        t.chd.version = commonVersion b.lowest b.highest ∧ t.chd.role = s.chd.role ∧
        (t.chd.imageMis = true ↔ b.imageId ≠ s.val Reg.LAT_IMAGEID ∨ b.compat ≠ s.compat ∨ b.klibver ≠ s.val Reg.LAT_KLIBVER % 65536 ∨
          b.schemaMaj ≠ s.val Reg.LAT_SCHEMA % 65536) ∧
        (t.chd.imageMis = true → (t.val Reg.CHD_ERRSTAT).testBit 11 = true) ∧ t.reg Reg.CHD_EPOCH = s.reg Reg.CHD_EPOCH ∧
        Frame [.now, .sys, .evc, .chd] [.EVC, .CHD] s t) ∧
      (h.link = .referee → ∃ t, exec (.helloReceived n h b) s = .next t ∧ t.chd.ref = helloPeer b old h.unitId ∧
        RegsBut [] s t ∧ Frame [.now, .chd] [] s t) ∧
      (∀ p, h.link = .unit p → b.lastEpoch ≤ s.epoch → ((s.peer (.unit p)).paired = true ∨ (s.peer (.unit (1 - p))).paired = false) →
        ∃ t, exec (.helloReceived n h b) s = .next t ∧ t.peer (.unit p) = helloPeer b old h.unitId ∧ RegsBut [] s t ∧
          Frame [.now, .chd] [] s t))) ∧
  (∀ (s : State) (n : Nat), s.powered →
    let u := s.advanceNs n
    (s.chdUp = false → exec (.heartbeatSend n) s = .next u) ∧
    (s.chdUp = true →
      ∃ t sent, exec (.heartbeatSend n) s = .next t ∧ t.chd.tx = s.chd.tx ++ sent ∧
        (∀ l ∈ s.liveLinks, (s.peer l).paired = true →
          ∃ m ∈ sent, m.type = 2 ∧ m.words = u.hbWords ∧ m.epoch = s.epoch ∧ linkNo m.toReferee m.unitPort = linkIx l) ∧
        (∀ l, t.peer l = s.peer l) ∧ RegsBut [Reg.CHD_HBMISS] s t ∧ Frame [.now, .chd] [.CHD] s t)) ∧
  (∀ (s : State) (n : Nat) (h : ChdHdr) (b : HbBody), s.powered → s.calm h false → b.epoch ≤ s.epoch →
    let u := s.advanceNs n
    let new := hbPeer b { s.peer h.link with heard := some u.ns } u.ns
    ((s.peer h.link).paired = false → exec (.heartbeatReceived n h b) s = .next (u.noteMsg h)) ∧
    ((s.peer h.link).paired = true →
      (∀ p, h.link = .unit p → ∃ t, exec (.heartbeatReceived n h b) s = .next t ∧ t.peer (.unit p) = new ∧
        t.chd.actPort = (if b.role = 1 ∧ s.epoch = b.epoch then some p else s.chd.actPort) ∧ RegsBut [] s t ∧ Frame [.now, .chd] [] s t) ∧
      (h.link = .referee → ∃ t, exec (.heartbeatReceived n h b) s = .next t ∧ t.chd.ref = new ∧ RegsBut [] s t ∧
        Frame [.now, .chd] [] s t) ∧
      (∀ l, h.link = .chord l → s.sys.settleLeft = none → ∃ t, exec (.heartbeatReceived n h b) s = .next t ∧ t.chd.partner = new ∧
        (s.chd.role = .active → b.synced = true → t.hif.held = s.hif.held.filter (fun x => !seqFrom b.deltaSeq x.1)) ∧
        (b.synced = false → t.hif.held = []) ∧ RegsBut [] s t ∧ Frame [.now, .chd, .hif] [] s t))) ∧
  (∀ (s : State) (lane : Nat), s.powered →
    (2 ≤ lane → exec (.chordLaneUp lane) s = .next s) ∧
    (lane < 2 →
      ∃ t sent, exec (.chordLaneUp lane) s = .next t ∧ t.chd.lanes = maskSet s.chd.lanes lane ∧ t.chd.tx = s.chd.tx ++ sent ∧
        ((s.chd.lanes = 0 ∧ s.chdUp = true ∧ s.hasLink (.chord lane) = true) → ∃ m, sent = [m] ∧ m.type = 1) ∧
        (¬ (s.chd.lanes = 0 ∧ s.chdUp = true ∧ s.hasLink (.chord lane) = true) → sent = []) ∧ RegsBut [] s t ∧ Frame [.chd] [] s t) ∧
    (bitAt s.chd.lanes lane = 0 → exec (.laneDown lane) s = .next s) ∧
    (bitAt s.chd.lanes lane = 1 →
      ∃ t, exec (.laneDown lane) s = .next t ∧ t.chd = { s.chd with lanes := s.chd.lanes - 2 ^ lane } ∧
        Flagged s t E.CHD 1 [.sys, .evc, .chd])) ∧
  (∀ (s : State) (n : Nat), s.powered →
    let u := s.advanceNs n
    ((s.chd.partner.paired = false ∨ u.heardLately s.chd.partner = true) → exec (.chordLost n) s = .next u) ∧
    (s.chd.partner.paired = true → u.heardLately s.chd.partner = false →
      ∃ t, exec (.chordLost n) s = .next t ∧ t.chd.partner = { s.chd.partner with synced := false } ∧
        (t.val Reg.CHD_ERRSTAT).testBit 2 = true ∧ (s.chd.role = .standby → t.chd.synced = false) ∧ t.hif.held = [] ∧
        Frame [.now, .sys, .evc, .chd, .hif] [.EVC, .CHD] s t) ∧
    ((s.chd.ref.paired = false ∨ u.heardLately s.chd.ref = true) → exec (.refereeLost n) s = .next u) ∧
    (s.chd.ref.paired = true → u.heardLately s.chd.ref = false → Faults (.refereeLost n) s E.CHD 3))

/-- REFEREE_EVALUATE, PROMOTE, DEPOSE, UNFENCE and FENCE_T_EXPIRY: a referee that finds the Active failed promotes a Standby that is fit and deposes
the Active under the next epoch; the promoted unit takes over in its mode; the deposed one is muted in LOCKOUT; an Active that hears nothing is
fenced until a message of its epoch arrives (R351, R353-R355). -/
def Obligations.RefereeAndEpochs : Prop :=
  (∀ (s : State) (n : Nat), s.powered →
    let u := s.advanceNs n
    ((s.chd.role ≠ .referee ∨ s.chdUp = false ∨ s.chd.actPort = none) → exec (.refereeEvaluate n) s = .next u) ∧
    (∀ act, s.chd.role = .referee → s.chdUp = true → s.chd.actPort = some act →
      let a := s.peer (.unit act)
      let b := s.peer (.unit (1 - act))
      let fit := (∃ x, b.hbTime = some x ∧ u.ns < x + 750000) ∧ b.mode = 4 ∧
        (b.synced = true ∨ s.flag Reg.CHD_CTL F.CHD_CTL_PROMUNSYNC = true)
      (u.activeFailed a b = false → exec (.refereeEvaluate n) s = .next u) ∧
      (u.activeFailed a b = true → ¬ fit →
        ∃ t, exec (.refereeEvaluate n) s = .next t ∧ t.chd = { s.chd with noPromo := true } ∧ RegsBut [] s t ∧ Frame [.now, .chd] [] s t) ∧
      (u.activeFailed a b = true → fit →
        let e := (s.epoch + 1) % 2 ^ 32
        ∃ t m1 m2, exec (.refereeEvaluate n) s = .next t ∧ t.val Reg.CHD_EPOCH = e ∧ t.chd.tx = s.chd.tx ++ [m1, m2] ∧
          m1.type = 0x10 ∧ m1.words = [e, a.unitId] ∧ m1.epoch = e ∧ linkNo m1.toReferee m1.unitPort = 2 + (1 - act) ∧
          m2.type = 0x11 ∧ m2.words = [e, b.unitId] ∧ m2.epoch = e ∧ linkNo m2.toReferee m2.unitPort = 2 + act ∧
          t.chd.actPort = some (1 - act) ∧ t.chd.noPromo = false ∧
          t.val Reg.CHD_PROMOTIONS = min (s.val Reg.CHD_PROMOTIONS + 1) 0xFFFFFFFF ∧
          Frame [.now, .sys, .evc, .chd, .ldg] [.EVC, .CHD, .LDG] s t))) ∧
  (∀ (s : State) (n epoch failed : Nat) (h : ChdHdr), s.powered → s.takesMsg h false → s.chd.fenced = false →
    let u := s.advanceNs n
    let may := s.chd.role = .standby ∧ s.sys.mode = .shadow ∧ h.link = .referee ∧ s.epoch < epoch
    (¬ may → exec (.promote n h epoch failed) s = .next (u.noteMsg h)) ∧
    (may → ∃ t, exec (.promote n h epoch failed) s = .next t ∧ t.chd.role = .active ∧ t.sys.mode = s.takeoverMode ∧
      t.val Reg.CHD_EPOCH = epoch % 2 ^ 32 ∧ t.val Reg.CHD_PROMOTIONS = min (s.val Reg.CHD_PROMOTIONS + 1) 0xFFFFFFFF ∧
      (t.val Reg.CHD_ERRSTAT).testBit 7 = true ∧ t.val Reg.CHD_PROMOLO = u.ns % 2 ^ 32 ∧ t.chd.deposed = false ∧ t.chd.fenced = false ∧
      Frame [.devMem, .hostMem, .now, .sys, .eth, .snap, .topo, .det, .modal, .alm, .afe, .flt, .mtr, .cap, .lat, .evc, .chd, .ldg, .hif,
        .free] [.SYS, .ETH, .SNAP, .TOPO, .DET, .MODAL, .ALM, .FLT, .MTR, .CAP, .LAT, .EVC, .CHD, .LDG] s t)) ∧
  (∀ (s : State) (n active : Nat) (h : ChdHdr), s.powered → s.takesMsg h false → s.chd.fenced = false → s.chd.role = .active →
    let named := s.epoch < h.epoch ∧ active ≠ s.unitId
    (¬ named → exec (.depose n h active) s = .next ((s.advanceNs n).noteMsg h)) ∧
    (named → ∃ t, exec (.depose n h active) s = .next t ∧ t.sys.mode = .lockout ∧ t.chd.role = .solo ∧ t.chd.deposed = true ∧
      t.almMuted = true ∧ t.val Reg.CHD_EPOCH = h.epoch % 2 ^ 32 ∧ (t.val Reg.CHD_ERRSTAT).testBit 8 = true ∧
      (t.val Reg.SYS_ERRSTAT).testBit 3 = true ∧ t.hif.held = [] ∧ t.chd.handover = none ∧
      Frame [.devMem, .now, .sys, .eth, .snap, .topo, .det, .alm, .afe, .flt, .mtr, .cap, .evc, .chd, .ldg, .hif, .free]
        [.SYS, .ETH, .SNAP, .TOPO, .ALM, .FLT, .MTR, .CAP, .EVC, .CHD, .LDG] s t)) ∧
  (∀ (s : State) (n : Nat) (h : ChdHdr), s.powered → s.takesMsg h false → h.epoch ≤ s.epoch →
    (s.chd.fenced = true → h.epoch = s.epoch →
      ∃ t, exec (.unfence n h) s = .next t ∧ t.chd.fenced = false ∧ t.chd.role = s.chd.role ∧ t.sys.mode = s.sys.mode ∧
        t.reg Reg.CHD_EPOCH = s.reg Reg.CHD_EPOCH ∧ Frame [.now, .sys, .eth, .alm, .evc, .chd] [.ETH, .ALM, .EVC, .CHD] s t) ∧
    ((s.chd.fenced = false ∨ h.epoch ≠ s.epoch) → exec (.unfence n h) s = .next ((s.advanceNs n).noteMsg h))) ∧
  (∀ (s : State) (n : Nat), s.powered →
    let u := s.advanceNs n
    let out := s.chd.role = .active ∧ s.chd.fenced = false ∧ s.chd.validAt + s.val Reg.CHD_FENCE_T % 16384 * 1000 ≤ u.ns
    (¬ out → exec (.fenceTExpiry n) s = .next u) ∧
    (out → ∃ t, exec (.fenceTExpiry n) s = .next t ∧ t.chd.fenced = true ∧ t.almMuted = true ∧ (t.val Reg.CHD_ERRSTAT).testBit 6 = true ∧
      t.val Reg.CHD_FENCES = min (s.val Reg.CHD_FENCES + 1) 0xFFFFFFFF ∧ t.chd.role = s.chd.role ∧
      Frame [.now, .sys, .eth, .alm, .evc, .chd] [.ETH, .ALM, .EVC, .CHD] s t))

/-- DIGEST, PROVDIG, MISSREQ, MIRROR, MIRWAIT_EXPIRY, DELTA, SYNCREQ, STATE and SYNCDONE: a digest is held for its snapshot and releases it once every
slot it names matches; slots asked for are mirrored; one that does not come in time costs the synchronisation; deltas and the parts of a state
transfer are taken by a Standby; a transfer ends with the first digest of each class (R359-R363). -/
def Obligations.StandbyFollows : Prop :=
  (∀ (s : State) (n l : Nat) (h : ChdHdr) (d : DigestBody), s.powered → s.calm h false → h.link = .chord l → s.chd.partner.paired = true →
    let v := (s.advanceNs n).noteMsg h
    let w : DigestWait := { body := d, prov := false, askedAt := v.ns }
    (v.wantsDigest d false = false → exec (.digest n h d) s = .next v) ∧
    (v.wantsDigest d false = true → s.chd.digests = [] →
      ((s.sc d.sc).head = none →
        ∃ t, exec (.digest n h d) s = .next t ∧ t.chd = { v.chd with digests := [w] } ∧ RegsBut [] s t ∧ Frame [.now, .chd] [] s t) ∧
      (∀ x, (s.sc d.sc).head = some x → x.seq = d.seq → unmatched x d = [] → x.promoting = false → v.snapRunning = true →
        s.scEn d.sc = true →
        ∃ t run, exec (.digest n h d) s = .next t ∧ t.val (Reg.SNAP_SCnSEQ d.sc) = d.seq % 2 ^ 32 ∧
          t.val (Reg.SNAP_SCnRELEASED d.sc) = min (s.val (Reg.SNAP_SCnRELEASED d.sc) + 1) 0xFFFFFFFF ∧
          t.val (Reg.CHD_DIGSEQn d.sc) = d.seq % 2 ^ 32 ∧ t.det.runs = s.det.runs ++ [run] ∧ run.sc = d.sc ∧ run.prov = false ∧
          run.snap.slots.map (·.1) = (admittedBy x d).map (·.1) ∧
          Frame [.devMem, .hostMem, .now, .sys, .snap, .det, .modal, .cap, .lat, .evc, .chd, .ldg, .free]
            [.SNAP, .DET, .MODAL, .CAP, .LAT, .EVC, .CHD, .LDG] s t)) ∧
    ((v.chd.version ≠ 2 ∨ v.wantsDigest d true = false) → exec (.provdig n h d) s = .next v) ∧
    (v.chd.version = 2 → v.wantsDigest d true = true → s.chd.digests = [] → (s.sc d.sc).head = none →
      ∃ t, exec (.provdig n h d) s = .next t ∧ t.chd = { v.chd with digests := [{ w with prov := true }] } ∧ RegsBut [] s t ∧
        Frame [.now, .chd] [] s t)) ∧
  (∀ (s : State) (n l c seq : Nat) (ms : List Nat) (h : ChdHdr), s.powered → s.calm h false → h.link = .chord l →
    s.chd.partner.paired = true → (s.chd.role = .active ∨ s.chd.role = .standby) →
    let found := ms.filterMap (fun i => (s.slotFor c seq i).map (fun p => (i, p)))
    ∃ t sent, exec (.missreq n h c seq ms) s = .next t ∧ t.chd.tx = s.chd.tx ++ sent ∧
      t.val Reg.CHD_MIRRORED = min (s.val Reg.CHD_MIRRORED + found.length) 0xFFFFFFFF ∧
      sent.map (fun m => (m.type, m.words, m.body)) = found.map (fun p => (6, [c, seq, p.1], p.2.2.bytes p.2.1)) ∧
      RegsBut [Reg.CHD_MIRRORED] s t ∧ Frame [.now, .chd] [.CHD] s t) ∧
  (∀ (s : State) (n l c seq i : Nat) (b : List Byte) (h : ChdHdr), s.powered → s.calm h false → h.link = .chord l →
    s.chd.partner.paired = true →
    let v := (s.advanceNs n).noteMsg h
    ((s.snapOf c seq = none ∨ b.length ≠ 384 ∨ ∃ x, s.snapOf c seq = some x ∧ (x.finalAt ≠ none ∨ x.members[i]? = none)) →
      exec (.mirror n h c seq i b) s = .next v) ∧
    (∀ x vid, s.snapOf c seq = some x → b.length = 384 → x.finalAt = none → x.members[i]? = some vid → s.chd.digests = [] →
      ∃ t, exec (.mirror n h c seq i b) s = .next t ∧
        t.snap = (v.putSnap c { x with slots := x.slots.filter (fun p => p.1 != vid) ++ [(vid, slotOfBytes b)] }).snap ∧ RegsBut [] s t ∧
        Frame [.now, .snap, .chd] [] s t)) ∧
  (∀ (s : State) (n c seq : Nat), s.powered →
    let u := s.advanceNs n
    let waited := fun (w : DigestWait) => w.askedAt + s.val Reg.CHD_MIRWAIT % 8192 * 1000 ≤ u.ns
    ((∀ x, (s.sc c).head = some x → x.seq ≠ seq ∨ ((∀ w, s.digestOf? c seq false = some w → ¬ waited w ∨ unmatched x w.body = []) ∧
        (s.digestOf? c seq false = none → ∀ w, s.digestOf? c seq true = some w → ¬ waited w ∨ unmatched x w.body = []))) →
      exec (.mirwaitExpiry n c seq) s = .next u) ∧
    (∀ x w, (s.sc c).head = some x → x.seq = seq → s.digestOf? c seq false = some w → waited w → unmatched x w.body ≠ [] →
      ∃ t, exec (.mirwaitExpiry n c seq) s = .next t ∧ (t.val Reg.CHD_ERRSTAT).testBit 10 = true ∧ t.chd.synced = false ∧
        t.chd.digests = [] ∧
        (x.promoting = false → t.val (Reg.SNAP_SCnRELEASED c) = min (s.val (Reg.SNAP_SCnRELEASED c) + 1) 0xFFFFFFFF) ∧
        Frame [.devMem, .hostMem, .now, .sys, .snap, .det, .modal, .cap, .lat, .evc, .chd, .ldg, .free]
          [.SNAP, .DET, .MODAL, .CAP, .LAT, .EVC, .CHD, .LDG] s t)) ∧
  (∀ (s : State) (n l q : Nat) (b : DeltaBody) (h : ChdHdr), s.powered → s.calm h false → h.link = .chord l →
    s.chd.partner.paired = true →
    (s.chd.role ≠ .standby → exec (.delta n h q b) s = .next ((s.advanceNs n).noteMsg h)) ∧
    (s.chd.role = .standby →
      ∃ t, exec (.delta n h q b) s = .next t ∧ t.chd.deltaSeq = q % 2 ^ 32 ∧
        (∀ a v, b = .snapReg a v → a ≠ Reg.CHD_DELTAS → t.val a = v % 2 ^ 32) ∧
        (∀ vid w anchor, b = .weight vid w anchor → t.stream vid = { s.stream vid with weight := w, anchor := anchor }) ∧
        (∀ x, b = .topoCommit x → t.chd.staged = s.chd.staged ++ [.topoCommit x]) ∧
        (∀ x es, b = .edges x es → t.chd.staged = s.chd.staged ++ [.edges x es]) ∧
        (∀ m w, b = .bank m w → t.val Reg.CHD_DELTAS = min (s.val Reg.CHD_DELTAS + 1) 0xFFFFFFFF))) ∧
  (∀ (s : State) (n l : Nat) (h : ChdHdr), s.powered → s.calm h false → h.link = .chord l → s.chd.partner.paired = true →
    (s.chd.role ≠ .active → exec (.syncreq n h) s = .next ((s.advanceNs n).noteMsg h)) ∧
    (s.chd.role = .active →
      ∃ t parts m, exec (.syncreq n h) s = .next t ∧ t.chd.tx = s.chd.tx ++ parts ++ [m] ∧ m.type = 0x0A ∧
        m.words = (List.range 8).map s.nextSeq ∧ (∀ p ∈ parts, p.type = 9 ∧ p.items.length ≤ 256) ∧
        (parts.map (·.items)).flatten = s.tableItems ++ s.detItems ++ s.modalItems ++ s.policyItems ∧
        t.val Reg.CHD_RESYNCS = min (s.val Reg.CHD_RESYNCS + 1) 0xFFFFFFFF ∧ RegsBut [Reg.CHD_RESYNCS] s t ∧
        Frame [.now, .chd] [.CHD] s t)) ∧
  (∀ (s : State) (n l part : Nat) (items : List StateItem) (h : ChdHdr), s.powered → s.calm h false → h.link = .chord l →
    s.chd.partner.paired = true →
    ((s.chd.role ≠ .standby ∨ (part ≠ 0 ∧ items = [])) → exec (.statePart n h part items) s = .next ((s.advanceNs n).noteMsg h)) ∧
    (s.chd.role = .standby → part = 0 → items = [] →
      ∃ t, exec (.statePart n h part items) s = .next t ∧ t.ing.streams = [] ∧ t.topo.gens = [] ∧ t.det.bankA = {} ∧ t.alm.chans = [] ∧
        t.chd.staged = [] ∧ RegsBut [] s t) ∧
    (s.chd.role = .standby → part ≠ 0 →
      (∀ a v, items = [.reg a v] → ∃ t, exec (.statePart n h part items) s = .next t ∧ t.val a = v % 2 ^ 32 ∧ RegsBut [a] s t ∧
        Frame [.now, .chd] [.SYS, .TB, .ETH, .ING, .SNAP, .TOPO, .DET, .MODAL, .ALM, .AFE, .FLT, .MTR, .CAP, .LAT, .EVC, .TSK, .CHD, .LDG,
          .KEY, .UPD, .HIF, .NOC] s t) ∧
      (∀ a b, items = [.memory a b] → ∃ t, exec (.statePart n h part items) s = .next t ∧ t.devMem = s.devMem.putBytes a b ∧
        RegsBut [] s t ∧ Frame [.devMem, .now, .chd] [] s t) ∧
      (∀ i b k, items = [.baseline i b k] → ∃ t, exec (.statePart n h part items) s = .next t ∧ t.baseline i = (b, k) ∧
        RegsBut [] s t ∧ Frame [.now, .modal, .chd] [] s t))) ∧
  (∀ (s : State) (n l : Nat) (seqs : List Nat) (h : ChdHdr), s.powered → s.calm h false → h.link = .chord l →
    s.chd.partner.paired = true →
    let named := ((List.range 8).filter s.scEn).map (fun c => (c, seqs.getD c 0, false))
    ((s.chd.role ≠ .standby ∨ s.sys.mode ≠ .shadow) → exec (.syncdone n h seqs) s = .next ((s.advanceNs n).noteMsg h)) ∧
    (s.chd.role = .standby → s.sys.mode = .shadow →
      ∃ t, exec (.syncdone n h seqs) s = .next t ∧ t.val Reg.CHD_RESYNCS = min (s.val Reg.CHD_RESYNCS + 1) 0xFFFFFFFF ∧
        t.chd.hadTransfer = true ∧ (s.chd.imageMis = true → t.chd.synced = s.chd.synced ∧ t.chd.syncSeqs = s.chd.syncSeqs) ∧
        (s.chd.imageMis = false → named = [] → t.chd.synced = true) ∧
        (s.chd.imageMis = false → named ≠ [] → t.chd.synced = s.chd.synced ∧ t.chd.syncSeqs = named) ∧
        Frame [.now, .sys, .alm, .evc, .chd] [.EVC, .CHD] s t))

/-- SWITCHOVER, SWITCHBACK, SWITCH, HANDOVER_INSTANT and ACTIVE_PARTNER_TIMEOUT: an Active linked to a SYNCED Standby names the handover instant, the
Standby echoes it, and at that instant the units exchange roles under the next epoch; one that was not echoed is abandoned; a unit that left
SETTLE serves when it finds no Active partner (R366, R367, R428). -/
def Obligations.UnitsExchangeRoles : Prop :=
  (∀ (s : State) (h : CmdHdr) (back : Bool), s.powered →
    let c : Instr := if back then .switchback h else .switchover h
    let code := if back then 0x0A02 else 0x0A01
    let fit := s.chd.role = .active ∧ s.sys.mode.serving = true ∧ (back = true → s.home = false ∧ s.chd.partner.home = true)
    let free := s.chd.handover = none ∧ (s.chd.partner.synced = true ∨ h.force = true)
    let at_ := handoverAt s.ns
    s.admits code h →
    (s.linked = false → Replies c s code h.tag .absent []) ∧
    (s.linked = true → ¬ fit → ∃ t, exec c s = .next t ∧ Answers s t code h.tag .state [] ∧
      t.val Reg.SYS_REFUSALS = min (s.val Reg.SYS_REFUSALS + 1) 0xFFFFFFFF ∧ Frame [.sys, .evc, .ldg, .hif] [.SYS, .EVC, .LDG] s t) ∧
    (s.linked = true → fit → ¬ free → Replies c s code h.tag .busy []) ∧
    (s.linked = true → fit → free → ∃ t sent, exec c s = .next t ∧ t.chd.handover = some at_ ∧ at_ % 10000000 = 0 ∧ s.ns + 20000000 ≤ at_ ∧
      t.chd.switchTag = some (code, h.tag) ∧ t.chd.tx = s.chd.tx ++ sent ∧
      (s.flag Reg.CHD_CTL F.CHD_CTL_EN = true → ∃ m, sent = [m] ∧ m.type = 0x0B ∧ m.words = [at_ % 2 ^ 32, at_ / 2 ^ 32]) ∧
      t.hif = { s.hif with inProg := s.hif.inProg ++ [{ code := code, tag := h.tag }] } ∧ RegsBut [] s t ∧ Frame [.chd, .hif] [] s t)) ∧
  (∀ (s : State) (n l x : Nat) (h : ChdHdr), s.powered → s.calm h false → h.link = .chord l →
    (s.chd.role = .standby → s.sys.mode = .shadow →
      ∃ t m, exec (.switchMsg n h x) s = .next t ∧ t.chd.handover = some x ∧ t.chd.echoed = true ∧ t.chd.tx = s.chd.tx ++ [m] ∧
        m.type = 0x0B ∧ m.words = [x % 2 ^ 32, x / 2 ^ 32] ∧ RegsBut [] s t ∧ Frame [.now, .chd] [] s t) ∧
    (s.chd.role = .active → s.chd.handover = some x →
      ∃ t, exec (.switchMsg n h x) s = .next t ∧ t.chd.echoed = true ∧ t.chd.handover = some x ∧ t.chd.tx = s.chd.tx ∧ RegsBut [] s t ∧
        Frame [.now, .chd] [] s t) ∧
    (((s.chd.role = .standby ∧ s.sys.mode ≠ .shadow) ∨ (s.chd.role = .active ∧ s.chd.handover ≠ some x) ∨ s.chd.role = .solo) →
      exec (.switchMsg n h x) s = .next ((s.advanceNs n).noteMsg h))) ∧
  (∀ (s : State) (n : Nat), s.powered →
    let u := s.advanceNs n
    ((∀ x, s.chd.handover = some x → u.ns < x) → exec (.handoverInstant n) s = .next u) ∧
    (∀ x, s.chd.handover = some x → x ≤ u.ns → (∀ code tag, s.chd.switchTag = some (code, tag) → s.heard code tag) →
      ∃ t, exec (.handoverInstant n) s = .next t ∧ t.chd.handover = none ∧ t.chd.switchTag = (if s.chd.role = .standby ∧
          s.sys.mode = .shadow then s.chd.switchTag else none) ∧
        (s.chd.role = .active → s.chd.echoed = true → s.sys.mode ≠ .shadow → s.sys.mode ≠ .referee → t.sys.mode = .shadow ∧ t.chd.role = .standby ∧
          t.val Reg.CHD_EPOCH = (s.epoch + 1) % 2 ^ 32 ∧ t.chd.synced = !s.chd.imageMis ∧ t.chd.handedOver = some x ∧
          t.val Reg.CHD_SWITCHOVERS = min (s.val Reg.CHD_SWITCHOVERS + 1) 0xFFFFFFFF ∧
          ∀ code tag, s.chd.switchTag = some (code, tag) →
            { code := code, status := 0, tag := tag, res := [x % 2 ^ 32, x / 2 ^ 32] } ∈ t.hif.cpls) ∧
        (s.chd.role = .standby → s.sys.mode = .shadow → t.sys.mode = s.takeoverMode ∧ t.chd.role = .active ∧
          t.val Reg.CHD_EPOCH = (s.epoch + 1) % 2 ^ 32 ∧
          t.val Reg.CHD_SWITCHOVERS = min (s.val Reg.CHD_SWITCHOVERS + 1) 0xFFFFFFFF) ∧
        ((s.chd.role = .active ∧ s.chd.echoed = false) →
          t.chd.role = .active ∧ t.sys.mode = s.sys.mode ∧ RegsBut [] s t ∧
          ∀ code tag, s.chd.switchTag = some (code, tag) → Answers s t code tag .absent []) ∧
        Frame [.devMem, .now, .sys, .eth, .snap, .topo, .det, .alm, .afe, .flt, .mtr, .cap, .evc, .chd, .ldg, .hif, .free]
          [.SYS, .ETH, .SNAP, .TOPO, .ALM, .FLT, .MTR, .CAP, .EVC, .CHD, .LDG] s t)) ∧
  (∀ (s : State) (n : Nat), s.powered →
    let u := s.advanceNs n
    ((s.sys.settleLeft = none ∨ ∃ x, s.sys.settleLeft = some x ∧ u.partnerActive = false ∧ u.ns < x + 750000) →
      exec (.activePartnerTimeout n) s = .next u) ∧
    (∀ x, s.sys.settleLeft = some x → (u.partnerActive = true ∨ x + 750000 ≤ u.ns) →
      ∃ t, exec (.activePartnerTimeout n) s = .next t ∧ t.sys.settleLeft = none ∧ t.sys.trans = none ∧
        (u.partnerActive = true → t.sys.mode = .shadow ∧ (s.sys.mode ≠ .referee → t.chd.role = .standby)) ∧
        (u.partnerActive = false → t.sys.mode = s.serveMode ∧ (s.inPair = true → s.sys.mode ≠ .referee → t.chd.role = .active)) ∧
        (∀ tag, s.sys.modeTag = some tag → s.heard 0x0101 tag →
          { code := 0x0101, status := 0, tag := tag, res := [t.sys.mode.code] } ∈ t.hif.cpls) ∧
        Frame [.devMem, .now, .sys, .eth, .snap, .topo, .det, .alm, .afe, .flt, .mtr, .cap, .evc, .chd, .ldg, .hif, .free]
          [.SYS, .ETH, .SNAP, .TOPO, .ALM, .FLT, .MTR, .CAP, .EVC, .CHD, .LDG] s t))

/-! ### The ledger cartridge (chapter 18) -/

/-- LEDGER_ACCEPT, LEDGER_EJECT, IDENTITY_POLL, IDENTITY_READ, RESEED_COMPLETE, SEAL_COMMITTED, EJECT_T_EXPIRY and LC_PWR_OVERCURRENT: the cartridge
states of Table 18-4, what each change does, and how the command that waits completes (R373, R385-R388, R475). -/
def Obligations.CartridgeAttachesAndLeaves : Prop :=
  (∀ (s : State) (h : CmdHdr), s.powered → s.admits 0x0702 h → s.notBootDormant = true →
    ((s.ldg.cstate = .attaching ∨ s.ldg.cstate = .ejecting) → Replies (.ledgerAccept h) s 0x0702 h.tag .busy []) ∧
    (s.ldg.cstate = .active → ∃ t, exec (.ledgerAccept h) s = .next t ∧ Answers s t 0x0702 h.tag .state [] ∧ t.ldg.cstate = .active ∧
      Frame [.sys, .evc, .ldg, .hif] [.SYS, .EVC, .LDG] s t) ∧
    ((s.ldg.cstate = .absent ∨ s.ldg.cstate = .ejected) →
      (h.peer = true → s.chd.hadTransfer = false → Replies (.ledgerAccept h) s 0x0702 h.tag .arg []) ∧
      ((h.peer = false ∨ s.chd.hadTransfer = true) →
        ∃ t, exec (.ledgerAccept h) s = .next t ∧
          t.ldg = { s.ldg with cstate := .attaching, lcPwr := true, ident := none, formatted := false
                               cmd := some (0x0702, h.tag, h.peer, h.format) } ∧
          t.hif = { s.hif with inProg := s.hif.inProg ++ [{ code := 0x0702, tag := h.tag }] } ∧ RegsBut [Reg.EVC_MERGEDCNT] s t ∧
          Frame [.sys, .evc, .ldg, .hif] [.EVC] s t))) ∧
  (∀ (s : State) (h : CmdHdr), s.powered → s.admits 0x0701 h → s.notBootDormant = true →
    ((s.ldg.cstate = .attaching ∨ s.ldg.cstate = .ejecting) → Replies (.ledgerEject h) s 0x0701 h.tag .busy []) ∧
    ((s.ldg.cstate = .absent ∨ s.ldg.cstate = .ejected) → Replies (.ledgerEject h) s 0x0701 h.tag .absent []) ∧
    (s.ldg.cstate = .active →
      let l := s.ldg
      let fin := l.stagedEnd + 40
      let page := l.nextPage + (fin - 1 - l.committed) / 4080
      ∃ t r, exec (.ledgerEject h) s = .next t ∧ t.ldg.cstate = .ejecting ∧ t.ldg.cmd = some (0x0701, h.tag, false, false) ∧
        t.ldg.ejectFrom = some s.ns ∧ t.ldg.staged = l.staged ++ [r] ∧ r.type = 0x1802 ∧ r.seq = l.jseq ∧ r.start = l.stagedEnd ∧
        r.payload = leBytes 4 ((l.jseq + 2 ^ 32 - 1) % 2 ^ 32) ++ leBytes 8 page ++ leBytes 4 0 ∧
        t.ldg.stagedEnd = t.ldg.sealEnd ∧ t.ldg.sealEnd = l.committed + (fin - l.committed + 4079) / 4080 * 4080 ∧
        (∀ im seq slot start, s.mtr.save = some (.write im seq slot start true) →
          t.mtr.save = none ∧ (t.val Reg.MTR_ERRSTAT).testBit 2 = true) ∧
        t.hif = { s.hif with inProg := s.hif.inProg ++ [{ code := 0x0701, tag := h.tag }] } ∧
        Frame [.sys, .mtr, .evc, .ldg, .hif] [.MTR, .EVC, .LDG] s t)) ∧
  (∀ (s : State) (n : Nat) (answered : Bool), s.powered →
    let u := s.advanceNs n
    let silent := s.ldg.silent + 1
    (s.sys.mode = .dormant → exec (.identityPoll n answered) s = .next u) ∧
    (s.sys.mode ≠ .dormant → answered = true →
      ∃ t, exec (.identityPoll n answered) s = .next t ∧ t.ldg = { s.ldg with silent := 0, present := true } ∧
        RegsBut [Reg.EVC_MERGEDCNT] s t ∧ Frame [.now, .sys, .evc, .ldg] [.EVC] s t) ∧
    (s.sys.mode ≠ .dormant → answered = false → silent < 3 →
      exec (.identityPoll n answered) s = .next { u with ldg := { s.ldg with silent := silent } }) ∧
    (s.sys.mode ≠ .dormant → answered = false → 3 ≤ silent →
      ∃ t, exec (.identityPoll n answered) s = .next t ∧ t.ldg.present = false ∧ t.ldg.silent = 3 ∧
        ((s.ldg.cstate = .active ∨ s.ldg.cstate = .ejecting) → Removed s t) ∧
        (s.ldg.cstate = .ejected → t.ldg = { s.ldg with silent := 3, present := false, cstate := .absent, ident := none }) ∧
        ((s.ldg.cstate = .absent ∨ s.ldg.cstate = .attaching) → t.ldg = { s.ldg with silent := 3, present := false }) ∧
        Frame [.now, .sys, .mtr, .evc, .ldg, .upd, .hif] [.MTR, .EVC, .LDG] s t)) ∧
  (∀ (s : State) (n : Nat) (resp : Option CartIdent), s.powered →
    let u := s.advanceNs n
    let refused := fun (t : State) (st : Status) => t.ldg.cstate = .absent ∧ t.ldg.lcPwr = false ∧ t.ldg.ident = none ∧
      LedgerAnswer s t st ∧ Frame [.now, .sys, .evc, .ldg, .upd, .hif] [.EVC, .LDG] s t
    ((s.ldg.cstate ≠ .attaching ∨ s.ldg.ident ≠ none) → exec (.identityRead n resp) s = .next u) ∧
    (s.ldg.cstate = .attaching → s.ldg.ident = none →
      (resp = none → ∃ t, exec (.identityRead n resp) s = .next t ∧ refused t .absent) ∧
      (∀ c, resp = some c →
        let format := match s.ldg.cmd with
          | some (_, _, _, f) => f
          | none => false
        let foreign := c.owner ≠ none ∧ c.owner ≠ some s.deviceId ∧ format = false
        let blank := c.owner = none ∨ format = true
        (c.model ≠ 0x0256 →
          ∃ t, exec (.identityRead n resp) s = .next t ∧ refused t .version ∧ (t.val Reg.LDG_ERRSTAT).testBit 11 = true) ∧
        (c.model = 0x0256 → u.expectedAnswer c.cid ≠ some c.answer →
          ∃ t, exec (.identityRead n resp) s = .next t ∧ refused t .auth ∧ (t.val Reg.LDG_ERRSTAT).testBit 1 = true ∧
            t.val Reg.LDG_AUTHFAIL = min (s.val Reg.LDG_AUTHFAIL + 1) 0xFFFFFFFF) ∧
        (c.model = 0x0256 → u.expectedAnswer c.cid = some c.answer → foreign →
          ∃ t, exec (.identityRead n resp) s = .next t ∧ refused t .arg ∧ (t.val Reg.LDG_ERRSTAT).testBit 2 = true) ∧
        (c.model = 0x0256 → u.expectedAnswer c.cid = some c.answer → ¬ foreign →
          ∃ t, exec (.identityRead n resp) s = .next t ∧ t.ldg.cstate = .attaching ∧ t.ldg.ident = some c ∧ t.ldg.wear = c.wear ∧
            (t.ldg.formatted = true ↔ blank) ∧ (blank → t.ldg.cart = Mem.putBytes [] 0 (mirrorBytes s.deviceId c.cid u.ns 0)) ∧
            (¬ blank → t.ldg.cart = c.content) ∧ (t.ldg.worn = true ↔ 240000 ≤ c.wear) ∧
            t.val (Reg.LDG_CIDk 0) = c.cid % 2 ^ 32 ∧ t.val (Reg.LDG_CIDk 3) = c.cid / 2 ^ 96 % 2 ^ 32 ∧ t.val Reg.LDG_MODEL = 0x0256 ∧
            t.hif = s.hif ∧ Frame [.now, .sys, .evc, .ldg] [.EVC, .LDG] s t)))) ∧
  (∀ (s : State) (n : Nat), s.powered →
    let u := s.advanceNs n
    ((s.ldg.cstate ≠ .attaching ∨ s.ldg.ident = none) → exec (.reseedComplete n) s = .next u) ∧
    (∀ c, s.ldg.cstate = .attaching → s.ldg.ident = some c →
      let c1 := s.ldg.cart.putBytes (keyImageAt s.key.imageNo) s.keyImage
      let c2 := if s.ldg.save = [] then c1
        else (c1.putBytes (nextSaveAt c1 0) (savePage s.ldg.save)).putBytes (nextSaveAt c1 1) (savePage s.ldg.save)
      let c3 := c2.putBytes 0x400000 s.seedSettings
      ∃ t, exec (.reseedComplete n) s = .next t ∧ t.ldg.cstate = .active ∧ t.ldg.fbPages = [] ∧ t.ldg.nextPage = s.ldg.nextPage ∧
        t.ldg.cart = s.ldg.fbPages.foldl (fun m p =>
          Mem.putBytes m (0x4000000 + p % 8388608 * 4096) (s.devBytes (s.fbBase + p % 1048576 * 4096) 4096)) c3 ∧
        t.val Reg.LDG_ATTACHES = min (s.val Reg.LDG_ATTACHES + 1) 0xFFFFFFFF ∧ LedgerAnswer s t .ok ∧
        (s.flag Reg.LDG_CTL F.LDG_CTL_JEN = true → s.val Reg.LDG_COALWIN % 65536 = 0 → s.ldg.fbLoss = [] → s.ldg.lost = 0 →
          s.ldg.stagedEnd + 256 ≤ s.ldg.committed + 65536 →
          ∃ r ∈ t.ldg.staged, r.type = 0x1803 ∧ r.payload.take 16 = leBytes 16 c.cid) ∧
        Frame [.now, .sys, .evc, .ldg, .key, .hif] [.EVC, .LDG] s t)) ∧
  (∀ (s : State) (n : Nat), s.powered →
    let u := s.advanceNs n
    let due := s.ldg.cstate = .ejecting ∧ ∃ x, s.ldg.ejectFrom = some x ∧ x + s.val Reg.LDG_EJECT_T % 65536 * 1000000 ≤ u.ns
    (s.ldg.cstate ≠ .ejecting → exec (.sealCommitted n) s = .next u) ∧
    (s.ldg.cstate = .ejecting → s.ldg.lcPwr = false → ∃ t, exec (.sealCommitted n) s = .next t ∧ Removed s t) ∧
    (s.ldg.cstate = .ejecting → s.ldg.lcPwr = true →
      ∃ t cid, exec (.sealCommitted n) s = .next t ∧ t.ldg.cstate = .ejected ∧ t.ldg.lcPwr = false ∧ t.ldg.sealEnd = 0 ∧
        (∀ c, s.ldg.ident = some c → cid = c.cid) ∧
        t.ldg.cart = u.flushJournal.ldg.cart.putBytes 0 (mirrorBytes s.deviceId cid u.ns (t.ldg.nextPage - 1)) ∧
        (s.ldg.stagedEnd ≤ s.ldg.committed + 17 * 4080 → s.ldg.stagedEnd ≤ t.ldg.committed) ∧ LedgerAnswer s t .ok ∧
        Frame [.devMem, .now, .sys, .evc, .ldg, .upd, .hif] [.EVC, .LDG] s t) ∧
    (¬ due → exec (.ejectTExpiry n) s = .next u) ∧
    (due → ∃ t, exec (.ejectTExpiry n) s = .next t ∧ t.ldg = { s.ldg with
        cstate := .ejected, lcPwr := false, sealEnd := 0, ejectFrom := none, cmd := none } ∧ LedgerAnswer s t .timeout ∧
      RegsBut [Reg.EVC_MERGEDCNT] s t ∧ Frame [.now, .sys, .evc, .ldg, .upd, .hif] [.EVC] s t) ∧
    (s.ldg.lcPwr = false → exec (.lcPwrOvercurrent n) s = .next u) ∧
    (s.ldg.lcPwr = true →
      ∃ t, exec (.lcPwrOvercurrent n) s = .next t ∧ t.ldg.lcPwr = false ∧ (t.val Reg.LDG_ERRSTAT).testBit 4 = true ∧
        (s.ldg.cstate = .attaching → t.ldg.cstate = .absent ∧ LedgerAnswer s t .absent) ∧
        (s.ldg.cstate ≠ .attaching → t.ldg = { s.ldg with lcPwr := false } ∧ t.hif = s.hif) ∧
        RegsBut [Reg.LDG_ERRSTAT, Reg.EVC_MERGEDCNT] s t ∧ Frame [.now, .sys, .evc, .ldg, .upd, .hif] [.EVC, .LDG] s t))

/-- RECORD_OFFER, PAGE_COMMIT, COMMIT_T_EXPIRY, RDCMD and READ_COPY_DONE: an offered record is coalesced with a staged one of its key, made anew with or
without a back-reference, or dropped and counted; a LOSS record owed goes first; full or overdue pages are committed in page order; a cartridge
that refuses a page is removed; pages read back arrive in device memory (R378-R381, R385, R389, R391). -/
def Obligations.RecordsStagedAndCommitted : Prop :=
  (∀ (s : State) (type : Nat) (payload : List Byte), s.powered →
    (s.flag Reg.LDG_CTL F.LDG_CTL_JEN = false → exec (.recordOffer type payload) s = .next s) ∧
    (∀ n q rest, s.flag Reg.LDG_CTL F.LDG_CTL_JEN = true → s.ldg.fbLoss = (n, q) :: rest → s.ldg.fits 40 = true →
      ∃ t r, exec (.recordOffer type payload) s = .next t ∧ r ∈ t.ldg.staged ∧ r.type = 0x1801 ∧ r.seq = s.ldg.jseq ∧
        r.payload = words [n, q, 1, 1] ∧ Frame [.sys, .evc, .ldg] [.EVC, .LDG] s t) ∧
    (s.flag Reg.LDG_CTL F.LDG_CTL_JEN = true → s.ldg.fbLoss = [] → s.ldg.lost = 0 →
      let p := pad8 payload
      let key := recKey type p
      let win := s.val Reg.LDG_COALWIN % 65536 * 1000000
      let near := fun (x : Nat) => win ≠ 0 ∧ s.ns ≤ x + win
      let last := s.ldg.staged.reverse.find? (·.key == key)
      let back := match last, s.ldg.done.find? (·.1 == key) with
        | none, some (_, q, x) => if near x then some q else none
        | _, _ => none
      let p1 := match back with
        | some q => p ++ words [q, 0]
        | none => p
      ((∃ r, last = some r ∧ near r.time) →
        ∃ t, exec (.recordOffer type payload) s = .next t ∧ t.ldg = { s.ldg with staged := repeatLast key s.ldg.staged } ∧
          t.val Reg.LDG_COALESCED = min (s.val Reg.LDG_COALESCED + 1) 0xFFFFFFFF ∧ RegsBut [Reg.LDG_COALESCED] s t ∧
          Frame [.ldg] [.LDG] s t) ∧
      ((∀ r, last = some r → ¬ near r.time) → s.ldg.fits (24 + p1.length) = true →
        ∃ t r, exec (.recordOffer type payload) s = .next t ∧ t.ldg.staged = s.ldg.staged ++ [r] ∧
          r = { seq := s.ldg.jseq, type := type, key := key, time := s.ns, rep := 1, backref := back.isSome, payload := p1
                start := s.ldg.stagedEnd } ∧
          t.ldg.stagedEnd = s.ldg.stagedEnd + 24 + p1.length ∧ t.ldg.jseq = (s.ldg.jseq + 1) % 2 ^ 32 ∧
          t.ldg.committed = s.ldg.committed ∧ (s.ldg.pageFrom = none → t.ldg.pageFrom = some s.ns) ∧
          t.val Reg.LDG_RECORDS = min (s.val Reg.LDG_RECORDS + 1) 0xFFFFFFFF ∧ RegsBut [Reg.LDG_RECORDS] s t ∧ Frame [.ldg] [.LDG] s t) ∧
      ((∀ r, last = some r → ¬ near r.time) → s.ldg.fits (24 + p1.length) = false →
        ∃ t, exec (.recordOffer type payload) s = .next t ∧ t.ldg = { s.ldg with lost := 1, lostSeq := s.ldg.jseq } ∧
          t.val Reg.LDG_DROPPED = min (s.val Reg.LDG_DROPPED + 1) 0xFFFFFFFF ∧ (t.val Reg.LDG_ERRSTAT).testBit 8 = true ∧
          RegsBut [Reg.LDG_DROPPED, Reg.LDG_ERRSTAT, Reg.EVC_MERGEDCNT] s t ∧ Frame [.sys, .evc, .ldg] [.EVC, .LDG] s t))) ∧
  (∀ (s : State) (n : Nat) (refused : Bool), s.powered →
    let u := s.advanceNs n
    let full := s.ldg.committed + 4080 ≤ s.ldg.stagedEnd
    let due := ∃ x, s.ldg.pageFrom = some x ∧ x + s.val Reg.LDG_COMMIT_T % 1024 * 1000000 ≤ u.ns
    let lostPower := s.ldg.toCart = true ∧ s.ldg.lcPwr = false
    (¬ full → exec (.pageCommit n refused) s = .next u) ∧
    (full → ((s.ldg.toCart = true ∧ refused = true) ∨ lostPower) →
      ∃ t, exec (.pageCommit n refused) s = .next t ∧ Removed s t ∧ Frame [.now, .sys, .mtr, .evc, .ldg, .upd, .hif] [.MTR, .EVC, .LDG] s t) ∧
    (full → ¬ (s.ldg.toCart = true ∧ refused = true) → ¬ lostPower → ∃ t, exec (.pageCommit n refused) s = .next t ∧ Commits s t) ∧
    (¬ due → exec (.commitTExpiry n) s = .next u) ∧
    (due → lostPower → ∃ t, exec (.commitTExpiry n) s = .next t ∧ Removed s t ∧
      Frame [.now, .sys, .mtr, .evc, .ldg, .upd, .hif] [.MTR, .EVC, .LDG] s t) ∧
    (due → ¬ lostPower → s.ldg.committed < s.ldg.stagedEnd → ∃ t, exec (.commitTExpiry n) s = .next t ∧ Commits s t)) ∧
  (∀ (s : State) (req : Requester) (v : Nat), s.powered → s.mayWrite req Reg.LDG_RDCMD v →
    (bitAt v 0 = 0 → exec (.rdcmd req v) s = .next s) ∧
    (bitAt v 0 = 1 → (s.ldg.copy ≠ none ∨ s.ldg.cstate ≠ .active) → Faults (.rdcmd req v) s E.LDG 0) ∧
    (bitAt v 0 = 1 → s.ldg.copy = none → s.ldg.cstate = .active →
      let job := (s.val64 Reg.LDG_RDSRCLO Reg.LDG_RDSRCHI, s.val64 Reg.LDG_RDDSTLO Reg.LDG_RDDSTHI, s.val Reg.LDG_RDLEN % 2 ^ 19)
      exec (.rdcmd req v) s = .next { s with ldg := { s.ldg with copy := some job } })) ∧
  (∀ s : State, s.powered →
    (s.ldg.copy = none → exec .readCopyDone s = .next s) ∧
    (∀ src dst n, s.ldg.copy = some (src, dst, n) →
      ∃ t, exec .readCopyDone s = .next t ∧ (∀ i, i < 4096 * n → t.devMem.byte (dst + i) = s.ldg.cart.byte (src + i)) ∧
        DevBut dst (4096 * n) s t ∧ t.ldg = { s.ldg with copy := none } ∧
        ((∃ i, i < n ∧ badPage s.ldg.cart (src + 4096 * i) = true) → (t.val Reg.LDG_ERRSTAT).testBit 10 = true) ∧
        RegsBut [Reg.LDG_ERRSTAT, Reg.EVC_MERGEDCNT] s t ∧ Frame [.devMem, .sys, .evc, .ldg] [.EVC, .LDG] s t))

/-! ### Key update (chapter 19) and image update (chapter 20) -/

/-- KEY_UPDATE: refused without an ACTIVE cartridge; a message that fails a check of Table 19-4 is answered with its status and code and changes
nothing; one that passes has a counter above the stored one, steps the OTP bank, changes just the slots it names and leaves a key image on the
cartridge (R393, R398-R402, R404). -/
def Obligations.KeyMessagesApplied : Prop :=
  ∀ (s : State) (h : CmdHdr) (addr len : Nat), s.powered → s.admits 0x0801 h → s.notBootDormant = true →
    let m := s.hostBytes addr len
    let n := leAt m 3 1
    let c := beAt m 20 8
    (s.key.busy = true → Replies (.keyUpdate h addr len) s 0x0801 h.tag .busy [s.key.lastErr]) ∧
    (s.key.busy = false → s.ldg.cstate ≠ .active → Replies (.keyUpdate h addr len) s 0x0801 h.tag .absent [s.key.lastErr]) ∧
    (s.key.busy = false → s.ldg.cstate = .active →
      (∀ f, s.keyCheck m len = some f →
        ∃ t, exec (.keyUpdate h addr len) s = .next t ∧ Answers s t 0x0801 h.tag f.status [f.code + f.entry * 256] ∧
          t.key = { s.key with lastErr := f.code + f.entry * 256 } ∧
          t.val Reg.KEY_REFUSALS = min (s.val Reg.KEY_REFUSALS + 1) 0xFFFFFFFF ∧
          (f.status = .auth → (t.val Reg.KEY_ERRSTAT).testBit 1 = true) ∧
          (f.status ≠ .auth → (t.val Reg.KEY_ERRSTAT).testBit 2 = true) ∧
          RegsBut [Reg.KEY_REFUSALS, Reg.KEY_ERRSTAT, Reg.EVC_MERGEDCNT] s t ∧ Frame [.sys, .evc, .key, .hif] [.EVC, .KEY] s t) ∧
      (s.keyCheck m len = none →
        len = 64 + 48 * n ∧ beNat (sliceOf m 4 16) = s.deviceId ∧ s.keyCounter < c ∧
        sliceOf m (32 + 48 * n) 32 = hmacSha256 (s.deriveK0 [0x4B, 0x55] (sliceOf m 4 16)) (m.take (32 + 48 * n)) ∧
        (s.ldg.lcPwr = true →
          ∃ t, exec (.keyUpdate h addr len) s = .next t ∧ Answers s t 0x0801 h.tag .ok [s.key.lastErr] ∧ t.keyCounter = c ∧
            (∀ i, i < n →
              let e := keyEntry m i
              let old := s.slot e.slot
              (e.op = 1 → ∃ k, entryKey (s.wrapKey (leAt m 28 1) (sliceOf m 4 16)) e = some k ∧
                t.slot e.slot = { material := k, use := e.attr % 4, alg := e.attr / 4 % 4, gen := (old.gen + 1) % 65536, valid := true }) ∧
              (e.op = 2 → t.slot e.slot = { old with material := [], gen := (old.gen + 1) % 65536, valid := false })) ∧
            (∀ k, (∀ i, i < n → (keyEntry m i).slot ≠ k) → t.slot k = s.slot k) ∧
            t.key.imageNo = (s.key.imageNo + 1) % 2 ^ 32 ∧ t.ldg.cart = s.ldg.cart.putBytes (keyImageAt t.key.imageNo) t.keyImage ∧
            t.val Reg.KEY_UPDATES = min (s.val Reg.KEY_UPDATES + 1) 0xFFFFFFFF ∧
            Frame [.sys, .evc, .ldg, .key, .hif] [.EVC, .LDG, .KEY] s t) ∧
        (s.ldg.lcPwr = false →
          ∃ t, exec (.keyUpdate h addr len) s = .next t ∧ Answers s t 0x0801 h.tag .absent [s.key.lastErr] ∧
            t.key = { s.key with otp := s.key.otp + (c / 65536 - s.burned) } ∧ t.ldg.cstate = .absent ∧ t.ldg.lcPwr = false ∧
            Frame [.sys, .mtr, .evc, .ldg, .key, .upd, .hif] [.MTR, .EVC, .LDG, .KEY] s t)))

/-- UPDATE_BEGIN, RELAY_HELLO, MANIFEST, BLOCK, NAK_TIMER, NAK, REPORT, ABORT and STORE_COMPLETE: a session of Table 20-5 begins with a sound
manifest, takes each block whose hash is right, asks for what is missing, fails at the fourth bad copy, and ends stored, failed or
abandoned; what is verified goes on downstream (R410-R415, R420). -/
def Obligations.UpdateSessionsRun : Prop :=
  (∀ (s : State) (h : CmdHdr) (mode addr len : Nat), s.powered → s.admits 0x0901 h →
    (2 ≤ mode → Replies (.updateBegin h mode addr len) s 0x0901 h.tag .arg []) ∧
    (mode < 2 → s.notBootDormant = true → s.sys.mode ≠ .configure →
      (s.upd.trialEnd ≠ none → ∃ t, exec (.updateBegin h mode addr len) s = .next t ∧
        Answers s t 0x0901 h.tag .state [s.upd.lastErr] ∧ t.upd = s.upd ∧ Frame [.sys, .evc, .ldg, .hif] [.SYS, .EVC, .LDG] s t) ∧
      (s.upd.trialEnd = none → s.upd.free = false → Replies (.updateBegin h mode addr len) s 0x0901 h.tag .busy [s.upd.lastErr]) ∧
      (s.upd.trialEnd = none → s.upd.free = true → mode = 1 →
        ∃ t, exec (.updateBegin h mode addr len) s = .next t ∧ Answers s t 0x0901 h.tag .ok [s.upd.lastErr] ∧
          t.upd = { s.upd with armed := true, head := false } ∧ RegsBut [] s t ∧ Frame [.upd, .hif] [] s t) ∧
      (s.upd.trialEnd = none → s.upd.free = true → mode = 0 →
        let m := s.hostBytes addr (min (leAt (s.hostBytes addr 0x140) 0x20 4) 61832)
        let room := s.val Reg.UPD_STAGESIZE % 1024
        let small := room * 16 < manNblk (s.hostBytes addr 0x140) + 1 ∨ room * 0x100000 < len
        (small → Replies (.updateBegin h mode addr len) s 0x0901 h.tag .nospace [s.upd.lastErr]) ∧
        (∀ f, ¬ small → s.manifestCheck m = some f →
          ∃ t, exec (.updateBegin h mode addr len) s = .next t ∧ Answers s t 0x0901 h.tag f.status [f.code] ∧ t.upd.ustate = .failed ∧
            t.upd.lastErr = f.code ∧ (t.val Reg.UPD_ERRSTAT).testBit 1 = true ∧ (t.val Reg.UPD_ERRSTAT).testBit 4 = true ∧
            Frame [.sys, .evc, .upd, .hif] [.EVC, .UPD] s t) ∧
        (¬ small → s.manifestCheck m = none →
          let good := fun (k : Nat) => sha256 (s.hostBytes (addr + 65536 * k) 65536) = manHash m k
          ((∀ k ∈ transferBlocks m, good k) →
            ∃ t, exec (.updateBegin h mode addr len) s = .next t ∧
              Answers s t 0x0901 h.tag .ok [s.upd.lastErr + s.upd.errBlock * 2 ^ 16] ∧ t.upd.session = leAt m 8 4 ∧ t.upd.head = true ∧
              t.upd.pos = 0 ∧ t.upd.ustate = .storing ∧ t.upd.manifest = m ∧ t.upd.verified = transferBlocks m ∧
              (∀ k ∈ transferBlocks m, ∀ i, i < 65536 →
                t.devMem.byte (s.stageBase + 65536 * k + i) = s.hostMem.byte (addr + 65536 * k + i)) ∧
              t.upd.ctl = { s.upd.ctl.setInactive 0 with seq := (s.upd.ctl.seq + 1) % 2 ^ 32 } ∧
              Frame [.devMem, .sys, .evc, .upd, .hif] [.EVC, .UPD] s t) ∧
          (∀ k, (transferBlocks m).find? (fun k => sha256 (s.hostBytes (addr + 65536 * k) 65536) != manHash m k) = some k →
            ∃ t, exec (.updateBegin h mode addr len) s = .next t ∧ Answers s t 0x0901 h.tag .ok [8 + k * 2 ^ 16] ∧
              t.upd.ustate = .failed ∧ t.upd.ctl = s.upd.ctl ∧ (t.val Reg.UPD_ERRSTAT).testBit 2 = true ∧
              Frame [.devMem, .sys, .evc, .upd, .hif] [.EVC, .UPD] s t))))) ∧
  (∀ (s : State) (h : RelayHdr) (lo hi : Nat) (mac : List Byte), s.powered →
    let v := if hi < 2 ∨ 3 < lo then 0 else min 3 hi
    ((h.magic ≠ 0xA6F0 ∨ 63 < h.pos) →
      ∃ t, exec (.relayHello h lo hi mac) s = .next t ∧ t.val Reg.UPD_FRAMEERR = min (s.val Reg.UPD_FRAMEERR + 1) 0xFFFFFFFF ∧
        RegsBut [Reg.UPD_FRAMEERR] s t ∧ Frame [] [.UPD] s t) ∧
    (h.magic = 0xA6F0 → h.pos ≤ 63 →
      ∃ t, exec (.relayHello h lo hi mac) s = .next t ∧ (v = 0 → (t.val Reg.UPD_ERRSTAT).testBit 6 = true) ∧
        (h.up = false → t.upd = { s.upd with dnver := v, dnMac := mac }) ∧
        (h.up = true → t.upd = { s.upd with
          upver := v, upMac := mac, pos := if v ≠ 0 ∧ s.upd.head = false ∧ h.pos < 63 then h.pos + 1 else s.upd.pos }) ∧
        (h.up = true → v ≠ 0 → s.upd.head = false → h.pos = 63 → (t.val Reg.UPD_ERRSTAT).testBit 7 = true) ∧
        RegsBut [Reg.UPD_ERRSTAT, Reg.EVC_MERGEDCNT] s t ∧ Frame [.sys, .evc, .upd] [.EVC, .UPD] s t)) ∧
  (∀ (s : State) (n : Nat) (h : RelayHdr) (p : List Byte), s.powered →
    let u := s.advanceNs n
    let fresh := s.upd.free = true ∧ (s.upd.armed = true ∨ s.flag Reg.UPD_CTL F.UPD_CTL_AUTORECV = true)
    let goesOn := s.upd.ustate = .manifest ∧ s.upd.session = h.session ∧ s.upd.head = false
    let got := tput (fun _ => []) (if s.upd.free = true then [] else s.upd.frags) h.index p
    let held := (List.range ((h.total + 1023) / 1024)).map (fun i => tget (fun _ => []) got i)
    let m := held.flatten.take h.total
    (s.frameOk h = false → ∃ t, exec (.manifest n h p) s = .next t ∧
      t.val Reg.UPD_FRAMEERR = min (s.val Reg.UPD_FRAMEERR + 1) 0xFFFFFFFF ∧ RegsBut [Reg.UPD_FRAMEERR] s t ∧ Frame [.now] [.UPD] s t) ∧
    (s.frameOk h = true → (h.up = false ∨ ¬ (fresh ∨ goesOn)) → exec (.manifest n h p) s = .next u) ∧
    (s.frameOk h = true → h.up = true → (fresh ∨ goesOn) → h.pos = 63 → Faults (.manifest n h p) s E.UPD 7) ∧
    (s.frameOk h = true → h.up = true → (fresh ∨ goesOn) → h.pos < 63 →
      ∃ t, exec (.manifest n h p) s = .next t ∧ t.upd.session = h.session ∧ (fresh → t.upd.pos = h.pos + 1) ∧
        ([] ∈ held → t.upd.ustate = .manifest ∧ t.upd.frags = got ∧ t.devMem = s.devMem) ∧
        (∀ f, [] ∉ held → s.manifestCheck m = some f → t.upd.ustate = .failed ∧ t.upd.lastErr = f.code ∧ t.devMem = s.devMem ∧
          (t.val Reg.UPD_ERRSTAT).testBit 1 = true ∧ (t.val Reg.UPD_ERRSTAT).testBit 4 = true ∧
          ∃ r, t.upd.tx = s.upd.tx ++ [r] ∧ r.type = 5 ∧ r.up = true) ∧
        ([] ∉ held → s.manifestCheck m = none → t.upd.manifest = m ∧ t.devMem = s.devMem.putBytes s.stageBase m ∧
          t.upd.ustate = (if transferBlocks m = [] then .storing else .transfer) ∧
          (s.flag Reg.UPD_CTL F.UPD_CTL_FWDEN = true → s.upd.dnver ≠ 0 →
            t.upd.tx = s.upd.tx ++ [{ up := false, type := 2, total := m.length, payload := m }])) ∧
        Frame [.devMem, .now, .sys, .evc, .upd] [.EVC, .UPD] s t)) ∧
  (∀ (s : State) (n : Nat) (h : RelayHdr) (p : List Byte), s.powered → s.frameOk h = true →
    let u := s.advanceNs n
    let wanted := h.up = true ∧ s.upd.ustate = .transfer ∧ s.upd.session = h.session ∧ s.upd.head = false ∧
      h.index ∉ s.upd.verified ∧ h.index ∈ transferBlocks s.upd.manifest ∧ h.frag < 64
    let held := (tget (fun _ => []) s.upd.blockFrags h.index).filter (·.1 ≠ h.frag) ++ [(h.frag, p)]
    let bytes := ((List.range 64).map (fun i => ((held.find? (·.1 == i)).map (·.2)).getD [])).flatten
    let bad := tget (fun _ => 0) s.upd.fails h.index + 1
    (¬ wanted → exec (.block n h p) s = .next u) ∧
    (wanted → missingFrags held ≠ [] →
      ∃ t, exec (.block n h p) s = .next t ∧ tget (fun _ => []) t.upd.blockFrags h.index = held ∧
        tget (fun _ => 0) t.upd.blockAt h.index = u.ns ∧ t.upd.verified = s.upd.verified ∧ RegsBut [] s t ∧ Frame [.now, .upd] [] s t) ∧
    (wanted → missingFrags held = [] → sha256 bytes = manHash s.upd.manifest h.index →
      ∃ t, exec (.block n h p) s = .next t ∧ t.upd.verified = s.upd.verified ++ [h.index] ∧
        t.devMem = s.devMem.putBytes (s.stageBase + 65536 * h.index) bytes ∧
        t.val Reg.UPD_BLOCKSRX = min (s.val Reg.UPD_BLOCKSRX + 1) 0xFFFFFFFF ∧
        (s.flag Reg.UPD_CTL F.UPD_CTL_FWDEN = true → s.upd.dnver ≠ 0 →
          t.val Reg.UPD_BLOCKSFWD = min (s.val Reg.UPD_BLOCKSFWD + 1) 0xFFFFFFFF ∧
          ∃ r, t.upd.tx = s.upd.tx ++ [r] ∧ r.type = 3 ∧ r.up = false ∧ r.index = h.index ∧ r.payload = bytes) ∧
        ((∀ k ∈ transferBlocks s.upd.manifest, k = h.index ∨ k ∈ s.upd.verified) →
          t.upd.ustate = .storing ∧ t.upd.ctl = { s.upd.ctl.setInactive 0 with seq := (s.upd.ctl.seq + 1) % 2 ^ 32 }) ∧
        (¬ (∀ k ∈ transferBlocks s.upd.manifest, k = h.index ∨ k ∈ s.upd.verified) → t.upd.ustate = .transfer ∧ t.upd.ctl = s.upd.ctl) ∧
        Frame [.devMem, .now, .sys, .evc, .upd] [.EVC, .UPD] s t) ∧
    (wanted → missingFrags held = [] → sha256 bytes ≠ manHash s.upd.manifest h.index →
      ∃ t r, exec (.block n h p) s = .next t ∧ t.upd.verified = s.upd.verified ∧ tget (fun _ => []) t.upd.blockFrags h.index = [] ∧
        tget (fun _ => 0) t.upd.fails h.index = bad ∧ t.val Reg.UPD_HASHFAIL = min (s.val Reg.UPD_HASHFAIL + 1) 0xFFFFFFFF ∧
        (t.val Reg.UPD_ERRSTAT).testBit 2 = true ∧ t.upd.tx = s.upd.tx ++ [r] ∧ r.up = true ∧
        (bad < 4 → r.type = 4 ∧ r.index = h.index ∧ r.words = List.range 64 ∧ t.upd.ustate = .transfer ∧
          t.val Reg.UPD_NAKSENT = min (s.val Reg.UPD_NAKSENT + 1) 0xFFFFFFFF) ∧
        (4 ≤ bad → r.type = 5 ∧ t.upd.ustate = .failed ∧ t.upd.lastErr = 8 ∧ t.upd.errBlock = h.index) ∧
        Frame [.now, .sys, .evc, .upd] [.EVC, .UPD] s t)) ∧
  (∀ (s : State) (n k : Nat), s.powered →
    let u := s.advanceNs n
    let held := tget (fun _ => []) s.upd.blockFrags k
    let due := s.upd.ustate = .transfer ∧ held ≠ [] ∧ tget (fun _ => 0) s.upd.blockAt k + 2000000 ≤ u.ns
    (¬ due → exec (.nakTimer n k) s = .next u) ∧
    (due → ∃ t r, exec (.nakTimer n k) s = .next t ∧ t.upd = { s.upd with tx := s.upd.tx ++ [r] } ∧ r.up = true ∧ r.type = 4 ∧ r.index = k ∧
      r.words = (if s.upd.upver = 2 then List.range 64 else missingFrags held) ∧
      t.val Reg.UPD_NAKSENT = min (s.val Reg.UPD_NAKSENT + 1) 0xFFFFFFFF ∧ RegsBut [Reg.UPD_NAKSENT] s t ∧ Frame [.now, .upd] [.UPD] s t)) ∧
  (∀ (s : State) (h : RelayHdr) (missing : List Nat) (p : List Byte), s.powered → s.frameOk h = true →
    let again := if s.upd.dnver = 2 then List.range 64 else missing.filter (· < 64)
    let known := h.up = false ∧ h.index ∈ s.upd.verified ∧ h.session = s.upd.session
    (¬ known → exec (.nak h missing) s = .next s) ∧
    (known → ∃ t sent, exec (.nak h missing) s = .next t ∧ t.upd = { s.upd with tx := s.upd.tx ++ sent } ∧ sent.map (·.frag) = again ∧
      (∀ m ∈ sent, m.up = false ∧ m.type = 3 ∧ m.index = h.index ∧
        m.payload = s.devBytes (s.stageBase + 65536 * h.index + 1024 * m.frag) 1024) ∧
      t.val Reg.UPD_RETRANS = min (s.val Reg.UPD_RETRANS + 1) 0xFFFFFFFF ∧ RegsBut [Reg.UPD_RETRANS] s t ∧ Frame [.upd] [.UPD] s t) ∧
    (h.up = true → exec (.report h p) s = .next s) ∧
    (h.up = false → ∃ t, exec (.report h p) s = .next t ∧
      t.upd = (if s.upd.head = true ∨ s.upd.upver ≠ 3 then s.upd
        else { s.upd with tx := s.upd.tx ++ [{ up := true, type := 5, payload := p }] }) ∧
      RegsBut [Reg.EVC_MERGEDCNT] s t ∧ Frame [.sys, .evc, .upd] [.EVC] s t)) ∧
  (∀ (s : State) (src : AbortSrc), s.powered →
    let asked := match src with
      | .message h => s.frameOk h = true ∧ h.up = true ∧ h.session = s.upd.session
      | .write req v => s.mayWrite req Reg.UPD_ABORT v ∧ bitAt v 0 = 1
    (asked → s.upd.ustate = .idle → exec (.abort src) s = .next s) ∧
    (asked → s.upd.ustate ≠ .idle →
      ∃ t, exec (.abort src) s = .next t ∧ t.upd.ustate = .idle ∧ t.upd.manifest = [] ∧ t.upd.verified = [] ∧ t.upd.ctl = s.upd.ctl ∧
        t.upd.flash = s.upd.flash ∧ (s.upd.dnver ≠ 0 → t.upd.tx = s.upd.tx ++ [{ up := false, type := 6 }]) ∧
        RegsBut [Reg.EVC_MERGEDCNT] s t ∧ Frame [.sys, .evc, .upd] [.EVC] s t)) ∧
  (∀ (s : State) (n : Nat) (flashError : Bool), s.powered →
    let u := s.advanceNs n
    let m := s.upd.manifest
    let act := bankBase s.upd.ctl.bankB
    let dst := bankBase (!s.upd.ctl.bankB)
    let copied := ((List.range (manNblk m)).map (· + 1)).filter (manCopied m)
    let wrong := copied.find? (fun k => sha256 (s.upd.flash.bytes (act + 65536 * k) 65536) ≠ manHash m k)
    (s.upd.ustate ≠ .storing → exec (.storeComplete n flashError) s = .next u) ∧
    (s.upd.ustate = .storing → flashError = true →
      ∃ t, exec (.storeComplete n flashError) s = .next t ∧ t.upd.ustate = .failed ∧ t.upd.lastErr = 9 ∧ t.upd.ctl = s.upd.ctl ∧
        (t.val Reg.UPD_ERRSTAT).testBit 3 = true ∧ Frame [.now, .sys, .evc, .upd] [.EVC, .UPD] s t) ∧
    (∀ k, s.upd.ustate = .storing → flashError = false → wrong = some k →
      ∃ t, exec (.storeComplete n flashError) s = .next t ∧ t.upd.ustate = .failed ∧ t.upd.lastErr = 0xA ∧ t.upd.errBlock = k ∧
        t.upd.ctl = s.upd.ctl ∧ t.upd.flash = s.upd.flash ∧ Frame [.now, .sys, .evc, .upd] [.EVC, .UPD] s t) ∧
    (s.upd.ustate = .storing → flashError = false → wrong = none →
      ∃ t, exec (.storeComplete n flashError) s = .next t ∧ t.upd.ustate = .stored ∧ t.upd.stored = manNblk m ∧
        t.upd.flash = Mem.putBytes (putBlocks s.upd.flash act dst (putBlocks s.devMem s.stageBase dst s.upd.flash (transferBlocks m)) copied)
          dst m ∧
        t.upd.ctl = { s.upd.ctl.setInactive s.upd.session with seq := (s.upd.ctl.seq + 1) % 2 ^ 32 } ∧ RegsBut [Reg.EVC_MERGEDCNT] s t ∧
        Frame [.now, .sys, .evc, .upd] [.EVC] s t))

/-- ACTIVATE, TRIAL_EXPIRY, SELFOK and HEALTH_CONFIRM: a stored bank set is put in force on trial and a restart ordered; the trial timer resets the
device; self-checks that pass are shown, and confirmation ends the trial and turns TRIAL into SERVE (R416, R417, R419, R420). -/
def Obligations.TrialsEnd : Prop :=
  (∀ (s : State) (h : CmdHdr), s.powered → s.admits 0x0902 h → s.notBootDormant = true → s.sys.mode ≠ .configure →
    let barred := s.upd.trialEnd ≠ none ∨ (s.chd.role = .active ∧ s.redun = true ∧ h.force = false)
    (barred → ∃ t, exec (.activate h) s = .next t ∧ Answers s t 0x0902 h.tag .state [] ∧ t.upd = s.upd ∧
      Frame [.sys, .evc, .ldg, .hif] [.SYS, .EVC, .LDG] s t) ∧
    (¬ barred → s.upd.ustate ≠ .stored → Replies (.activate h) s 0x0902 h.tag .absent []) ∧
    (¬ barred → s.upd.ustate = .stored →
      ∃ t, exec (.activate h) s = .next t ∧ t.upd.restartDue = true ∧
        t.upd.ctl = { s.upd.ctl with bankB := !s.upd.ctl.bankB, trial := true, tried := false
                                     trialwin := s.val Reg.UPD_TRIALWIN % 2 ^ 17, seq := (s.upd.ctl.seq + 1) % 2 ^ 32 } ∧
        t.hif.cpls.getLast? = some { code := 0x0902, status := Status.ok.code, tag := h.tag, res := [] } ∧
        t.val Reg.UPD_ACTIVATIONS = min (s.val Reg.UPD_ACTIVATIONS + 1) 0xFFFFFFFF ∧
        ((s.ldg.cstate = .active → s.ldg.lcPwr = true) → t.ldg.save = s.saveImage ((s.val Reg.MTR_SAVESEQ + 1) % 2 ^ 32)) ∧
        Frame [.devMem, .sys, .mtr, .evc, .ldg, .upd, .hif] [.SYS, .MTR, .EVC, .LDG, .UPD] s t)) ∧
  (∀ (s : State) (n : Nat), s.powered →
    let u := s.advanceNs n
    let due := ∃ x, s.upd.trialEnd = some x ∧ x ≤ u.ns
    (¬ due → exec (.trialExpiry n) s = .next u) ∧
    (due → ∃ t, exec (.trialExpiry n) s = .next t ∧ t.sys.mode = .boot ∧ t.upd.ctl = s.upd.ctl ∧ t.upd.trialEnd = none ∧
      t.upd.flash = s.upd.flash ∧ t.val Reg.SYS_RSTCAUSE = s.val Reg.SYS_RSTCAUSE ||| 16 ∧ t.hostMem = s.hostMem ∧
      t.pending = s.pending)) ∧
  (∀ (s : State) (n : Nat) (h : CmdHdr) (loaded : List Nat) (parse : Bool), s.powered →
    let u := s.advanceNs n
    let sound := ((manParts (s.upd.flash.bytes (bankBase s.upd.ctl.bankB) 0x140)).take 7).map (·.version) = loaded ∧ parse = true ∧
      s.imageLoaded = true ∧ (s.ldg.cstate = .active ∨ s.ldg.cstate = .absent)
    let confirms := s.flag Reg.UPD_CTL F.UPD_CTL_AUTOCONF = true ∧ s.upd.trialEnd ≠ none
    let ended := fun (t : State) => t.upd.trialEnd = none ∧ t.upd.keptGen = none ∧ t.upd.secMin = s.secAfter ∧
      t.upd.ctl = { s.upd.ctl with trial := false, tried := false, seq := (s.upd.ctl.seq + 1) % 2 ^ 32 } ∧
      t.sys.mode = (if s.sys.mode = .trial then .serve else s.sys.mode)
    (¬ sound → exec (.selfok n loaded parse) s = .next u) ∧
    (sound → ¬ confirms → exec (.selfok n loaded parse) s = .next { u with upd := { s.upd with selfok := true } }) ∧
    (sound → confirms → ∃ t, exec (.selfok n loaded parse) s = .next t ∧ t.upd.selfok = true ∧ ended t ∧
      Frame [.devMem, .now, .sys, .eth, .snap, .topo, .det, .alm, .afe, .flt, .mtr, .cap, .evc, .chd, .ldg, .upd, .hif, .free]
        [.SYS, .ETH, .SNAP, .TOPO, .ALM, .FLT, .MTR, .CAP, .EVC, .CHD, .LDG] s t) ∧
    (s.admits 0x0903 h →
      (s.upd.trialEnd = none → ∃ t, exec (.healthConfirm h) s = .next t ∧ Answers s t 0x0903 h.tag .state [] ∧ t.upd = s.upd ∧
        Frame [.sys, .evc, .ldg, .hif] [.SYS, .EVC, .LDG] s t) ∧
      (s.upd.trialEnd ≠ none → s.upd.selfok = false → Replies (.healthConfirm h) s 0x0903 h.tag .busy []) ∧
      (s.upd.trialEnd ≠ none → s.upd.selfok = true →
        ∃ t, exec (.healthConfirm h) s = .next t ∧ ended t ∧
          t.hif.cpls.getLast? = some { code := 0x0903, status := Status.ok.code, tag := h.tag, res := [] } ∧
          Frame [.devMem, .sys, .eth, .snap, .topo, .det, .alm, .afe, .flt, .mtr, .cap, .evc, .chd, .ldg, .upd, .hif, .free]
            [.SYS, .ETH, .SNAP, .TOPO, .ALM, .FLT, .MTR, .CAP, .EVC, .CHD, .LDG] s t)))

/-! ### Modes, power and resets (chapter 21) -/

/-- MODE_SET: a target that is none is answered ARG, one in a transition BUSY, one that no row of Table 21-2 reaches STATE, a bad layout ARG; else the
mode is entered, beside an Active partner as its Standby; DORMANT waits for its power request, SERVE of a pair for its partner (R424, R428, R431, R439). -/
def Obligations.ModeCommands : Prop :=
  ∀ (s : State) (h : CmdHdr) (target : Nat), s.powered → s.admits 0x0101 h →
    (modeTarget target = none → Replies (.modeSet h target) s 0x0101 h.tag .arg []) ∧
    (∀ m, modeTarget target = some m →
      let busy := s.sys.trans ≠ none ∨ (s.lat.job ≠ none ∧ s.sys.mode = .configure ∧ m ≠ .configure)
      let runs := ¬ busy ∧ s.modeRow m = true ∧ (s.sys.mode = .configure → s.layoutOk = true)
      (busy → Replies (.modeSet h target) s 0x0101 h.tag .busy []) ∧
      (¬ busy → s.modeRow m = false → ∃ t, exec (.modeSet h target) s = .next t ∧ Answers s t 0x0101 h.tag .state [] ∧
        t.sys.mode = s.sys.mode ∧ Frame [.sys, .evc, .ldg, .hif] [.SYS, .EVC, .LDG] s t) ∧
      (¬ busy → s.modeRow m = true → s.sys.mode = .configure → s.layoutOk = false →
        ∃ t, exec (.modeSet h target) s = .next t ∧ Answers s t 0x0101 h.tag .arg [] ∧ (t.val Reg.NOC_ERRSTAT).testBit 1 = true ∧
          t.sys.mode = .configure ∧ Frame [.sys, .evc, .hif] [.EVC, .NOC] s t) ∧
      (runs → m ∈ [Mode.configure, .settle, .test, .quiesce] →
        ∃ t, exec (.modeSet h target) s = .next t ∧ Enters s t m ∧ LastAnswer t 0x0101 h.tag .ok [m.code] ∧
          (m = .quiesce → t.almMuted = true) ∧ (m = .settle → t.sys.settleSince = s.ns)) ∧
      (runs → m = .shadow → ∃ t, exec (.modeSet h target) s = .next t ∧ Enters s t .shadow ∧ t.chd.role = .standby ∧
        t.chd.synced = false ∧ LastAnswer t 0x0101 h.tag .ok [m.code]) ∧
      (runs → m = .referee → ∃ t, exec (.modeSet h target) s = .next t ∧ Enters s t .referee ∧ t.chd.role = .referee ∧
        LastAnswer t 0x0101 h.tag .ok [m.code]) ∧
      (runs → m = .serve →
        (s.inPair = false → ∃ t, exec (.modeSet h target) s = .next t ∧ Enters s t s.serveMode ∧
          LastAnswer t 0x0101 h.tag .ok [s.serveMode.code]) ∧
        (s.inPair = true → s.partnerActive = true → ∃ t, exec (.modeSet h target) s = .next t ∧ Enters s t .shadow ∧
          t.chd.role = .standby ∧ LastAnswer t 0x0101 h.tag .ok [Mode.shadow.code]) ∧
        (s.inPair = true → s.partnerActive = false →
          ∃ t, exec (.modeSet h target) s = .next t ∧
            t.sys = { s.sys with settleLeft := some s.ns, trans := some s.serveMode, modeTag := some h.tag } ∧
            t.hif = { s.hif with inProg := s.hif.inProg ++ [{ code := 0x0101, tag := h.tag }] } ∧ RegsBut [] s t ∧ Frame [.sys, .hif] [] s t)) ∧
      (runs → m = .dormant →
        ∃ t, exec (.modeSet h target) s = .next t ∧ t.sys.mode = s.sys.mode ∧ t.sys.trans = some .dormant ∧ t.sys.modeTag = some h.tag ∧
          t.fld Reg.SYS_PWRREQ F.SYS_PWRREQ_TARGET = 2 ∧ (AonReg.pwrreq, t.val Reg.SYS_PWRREQ) ∈ t.sys.aonPend ∧
          Frame [.devMem, .sys, .mtr, .evc, .ldg, .upd, .hif] [.SYS, .MTR, .EVC, .LDG] s t))

/-- SETTLE_EXIT, SETTLEMAX_EXPIRY, TIME_SOURCE_LOST, TIME_SOURCE_RETURN and LOCKOUT: the transitions the device makes on its own (R88, R424, R427-R429). -/
def Obligations.ModesChangeOnTheirOwn : Prop :=
  (∀ (s : State) (n : Nat), s.powered →
    let u := s.advanceNs n
    let ended := s.sys.mode = .settle ∧ s.sys.trans = none ∧ u.settleOver = true
    let lost := s.sys.mode = .settle ∧ s.sys.trans = none ∧ u.servoLocked = false ∧
      s.sys.settleSince + s.val Reg.SYS_SETTLEMAX % 4096 * 1000000000 ≤ u.ns
    (¬ ended → exec (.settleExit n) s = .next u) ∧
    (ended → s.inPair = false → ∃ t, exec (.settleExit n) s = .next t ∧ Enters s t s.serveMode) ∧
    (ended → s.inPair = true → u.partnerActive = true → ∃ t, exec (.settleExit n) s = .next t ∧ Enters s t .shadow ∧ t.chd.role = .standby) ∧
    (ended → s.inPair = true → u.partnerActive = false →
      exec (.settleExit n) s = .next { u with sys := { s.sys with settleLeft := some u.ns, trans := some s.serveMode } }) ∧
    (¬ lost → exec (.settlemaxExpiry n) s = .next u) ∧
    (lost → ∃ t, exec (.settlemaxExpiry n) s = .next t ∧ Enters s t .holdover ∧ t.sys.holdoverFrom = .settle ∧
      (t.val Reg.SYS_ERRSTAT).testBit 4 = true)) ∧
  (∀ (s : State) (n : Nat), s.powered →
    let u := s.advanceNs n
    let serving := s.sys.mode = .serve ∨ s.sys.mode = .trial
    ((s.sys.mode = .boot ∨ s.sys.mode = .dormant) → exec (.timeSourceLost n) s = .next u) ∧
    (s.sys.mode ≠ .boot → s.sys.mode ≠ .dormant →
      ∃ t, exec (.timeSourceLost n) s = .next t ∧ t.fld Reg.TB_TQ F.TB_TQ_HOLD = 1 ∧
        t.tb = { s.tb with holdFrom := some (s.tb.holdFrom.getD u.ns) } ∧
        (serving → Enters s t .holdover ∧ t.sys.holdoverFrom = s.sys.mode) ∧
        (¬ serving → RegsBut [Reg.TB_TQ] s t ∧ Frame [.now, .tb] [.TB] s t))) ∧
  (∀ (s : State) (n : Nat) (off : Int), s.powered →
    let small := off.natAbs ≤ 10000000
    let follows := s.sys.mode ∈ [Mode.serve, .shadow, .trial, .holdover]
    ∃ t, exec (.timeSourceReturn n off) s = .next t ∧ t.fld Reg.TB_TQ F.TB_TQ_HOLD = 0 ∧ t.tb.holdFrom = none ∧
      (small → s.sys.mode = .holdover → Enters s t s.holdoverBack) ∧
      ((s.sys.mode = .boot ∨ s.sys.mode = .dormant ∨ (small ∧ s.sys.mode ≠ .holdover)) →
        RegsBut [Reg.TB_TQ] s t ∧ Frame [.now, .tb] [.TB] s t) ∧
      (¬ small → follows → Enters s t .settle ∧ (s.tb.step = none → -(2 : Int) ^ 31 ≤ off → off < 2 ^ 31 →
        t.tb.step = some false ∧ t.val Reg.TB_ADJNS = (off % 2 ^ 32).toNat)) ∧
      (¬ small → ¬ follows → t.sys.mode = s.sys.mode)) ∧
  (∀ (s : State) (n : Nat), s.powered →
    let u := s.advanceNs n
    let still := s.sys.mode = .boot ∨ s.sys.mode = .dormant ∨ s.sys.mode = .lockout
    (still → exec (.lockout n) s = .next u) ∧
    (¬ still → ∃ t, exec (.lockout n) s = .next t ∧ Enters s t .lockout ∧ t.almMuted = true ∧ (t.val Reg.SYS_ERRSTAT).testBit 3 = true ∧
      (∀ tag, s.sys.modeTag = some tag → s.heard 0x0101 tag → LastAnswer t 0x0101 tag .state [])))

/-- AON_WRITE_ARRIVES, DORMANT_ENTRY, I2C_ADDRESS_MATCH, WAKE_N, AON_ALARM and WAKE: a power request that arrives completes its MODE_SET; at the end of
the entry window DORMANT is entered; wake sources are held, an address match in the window is lost; a wake enters the mode that was left (R19, R431-R433). -/
def Obligations.DormantAndWake : Prop :=
  (∀ (s : State) (r : AonReg), s.powered →
    let waits := s.sys.aonPend.find? (fun p => p.1 == r)
    (waits = none → exec (.aonWriteArrives r) s = .next s) ∧
    (∀ v, waits = some (r, v) →
      ∃ t, exec (.aonWriteArrives r) s = .next t ∧ t.sys.aonPend = s.sys.aonPend.filter (fun q => q.1 != r) ∧ t.sys.mode = s.sys.mode ∧
        (r = .pwrreq → t.sys.aonPwrreq = v) ∧ (r = .aonalmLo → t.sys.aonAlmLo = v) ∧ (r = .aonalmHi → t.sys.aonAlmHi = v) ∧
        (r = .wdog → t.sys.aonWdog = v) ∧
        (∀ tag, r = .pwrreq → s.sys.settleLeft = none → s.sys.modeTag = some tag → s.heard 0x0101 tag →
          Answers s t 0x0101 tag .ok [Mode.dormant.code] ∧ t.sys.modeTag = none) ∧
        (r ≠ .pwrreq → t.hif = s.hif) ∧ RegsBut [] s t ∧ Frame [.sys, .hif] [] s t)) ∧
  (∀ (s : State) (n : Nat), s.powered →
    let u := s.advanceNs n
    let due := (∃ x, s.sys.windowFrom = some x ∧ x + 122070 ≤ u.ns) ∧ (s.sys.mode = .configure ∨ s.sys.mode = .quiesce)
    (¬ due → exec (.dormantEntry n) s = .next u) ∧
    (due → ∃ t, exec (.dormantEntry n) s = .next t ∧ Enters s t .dormant ∧ t.sys.dormantFrom = s.sys.mode ∧ t.sys.dormantAt = u.ns ∧
      t.sys.windowFrom = none)) ∧
  (∀ (s : State) (n a : Nat) (low : Bool), s.powered →
    let u := s.advanceNs n
    let mine := a = s.val Reg.SYS_I2CADDR % 128
    (mine → s.sys.mode = .dormant → exec (.i2cAddressMatch n a) s = .next { u with sys := { s.sys with i2cLatch := true } }) ∧
    (mine → s.sys.mode ≠ .dormant → s.sys.windowFrom ≠ none →
      ∃ t, exec (.i2cAddressMatch n a) s = .next t ∧ t.val Reg.SYS_WAKELOST = min (s.val Reg.SYS_WAKELOST + 1) 0xFFFFFFFF ∧
        (t.val Reg.SYS_ERRSTAT).testBit 6 = true ∧ t.sys.i2cLatch = s.sys.i2cLatch ∧
        RegsBut [Reg.SYS_WAKELOST, Reg.SYS_ERRSTAT, Reg.EVC_MERGEDCNT] s t ∧ Frame [.now, .sys, .evc] [.SYS, .EVC] s t) ∧
    ((¬ mine ∨ (s.sys.mode ≠ .dormant ∧ s.sys.windowFrom = none)) → exec (.i2cAddressMatch n a) s = .next u) ∧
    (∃ t, exec (.wakeN n low) s = .next t ∧ t.sys.wakeNLow = low ∧
      t.sys.wakeNHeld = (s.sys.wakeNHeld || (low && s.wakeHeld)) ∧ ((low = false ∨ s.sys.wakeNLow = true) → t.evc = s.evc) ∧
      RegsBut [Reg.EVC_MERGEDCNT] s t ∧ Frame [.now, .sys, .evc] [.EVC] s t) ∧
    (∀ count,
      let alm := s.sys.aonAlmLo + s.sys.aonAlmHi % 65536 * 2 ^ 32
      let c := max s.sys.aonCnt (count % 2 ^ 48)
      exec (.aonAlarm n count) s = .next { u with sys := { s.sys with
        aonCnt := c
        aonAlarmHit := s.sys.aonAlarmHit || (decide (s.sys.aonCnt < alm) && decide (alm ≤ c) && s.wakeHeld) } })) ∧
  (∀ (s : State) (n : Nat), s.powered →
    let wakes := s.sys.mode = .dormant ∧ s.wakeSources ≠ 0
    (¬ wakes → exec (.wake n) s = .next (s.advanceNs n)) ∧
    (wakes →
      ∃ t, exec (.wake n) s = .next t ∧ t.sys.mode = s.sys.dormantFrom ∧ t.val Reg.SYS_WAKESRC = s.wakeSources ∧
        t.val Reg.SYS_WAKES = min (s.val Reg.SYS_WAKES + 1) 0xFFFFFFFF ∧
        t.val Reg.SYS_TRANSITIONS = min (s.val Reg.SYS_TRANSITIONS + 1) 0xFFFFFFFF ∧ t.sys.i2cLatch = false ∧ t.sys.wakeNHeld = false ∧
        (∀ k m, k < 8 → (s.core k).waiting = some m → bitAt m 2 = 1 → (t.core k).waiting = none) ∧
        (∀ a r w, s.sys.dormantLast = some (a, r, w) → t.val Reg.HIF_OFFADDRLO = a % 2 ^ 32 ∧
          t.val Reg.HIF_OFFCNT = min (s.val Reg.HIF_OFFCNT + s.sys.dormantAccesses) 0xFFFFFFFF ∧ t.sys.dormantLast = none) ∧
        Frame [.devMem, .now, .sys, .eth, .snap, .topo, .det, .alm, .afe, .flt, .mtr, .cap, .cores, .evc, .chd, .ldg, .upd, .hif, .free]
          [.SYS, .ETH, .SNAP, .TOPO, .ALM, .FLT, .MTR, .CAP, .EVC, .CHD, .LDG, .HIF] s t))

/-- POWER_ON_RESET, RESET_PIN, DEVRST, WATCHDOG_EXPIRY, WDKICK, SUPPLY_FAIL and PCIE_PERST: each reset of Table 21-4 in its scope and with its bit of
RSTCAUSE; one that is ordered saves first; PERST resets the host interface alone (R434, R435, R443). -/
def Obligations.ResetsHaveTheirScope : Prop :=
  (∀ s : State, ∃ t, exec .powerOnReset s = .next t ∧ t.powered ∧ Restarted .por s t) ∧
  (∀ s : State, s.powered →
    (∃ t, exec .resetPin s = .next t ∧ t.powered ∧ Restarted .pin s t) ∧ exec .supplyFail s = .next { s with supplyOk := false }) ∧
  (∀ (s : State) (req : Requester) (v : Nat), s.powered → s.mayWrite req Reg.SYS_RSTCMD v →
    (v / 2 ^ 16 % 2 ^ 16 ≠ 0x5253 → Faults (.devrst req v) s E.SYS 0) ∧
    (v / 2 ^ 16 % 2 ^ 16 = 0x5253 → bitAt v 0 = 0 → exec (.devrst req v) s = .next s) ∧
    (v / 2 ^ 16 % 2 ^ 16 = 0x5253 → bitAt v 0 = 1 →
      ∃ t, exec (.devrst req v) s = .next t ∧ t.powered ∧ Restarted .sw s.meterSaveNow.flush t ∧ t.sys.inOrder = true)) ∧
  (∀ (s : State) (n : Nat), s.powered →
    let u := s.advanceNs n
    let w := s.sys.aonWdog
    let due := bitAt w 31 = 1 ∧ s.sys.mode ≠ .dormant ∧ s.sys.wdogFrom + w % 64 * 1000000000 ≤ u.ns
    (¬ due → exec (.watchdogExpiry n) s = .next u) ∧
    (due → ∃ t, exec (.watchdogExpiry n) s = .next t ∧ t.powered ∧ Restarted .wdog u t)) ∧
  (∀ (s : State) (req : Requester) (v : Nat), s.powered → s.mayWrite req Reg.SYS_WDKICK v →
    exec (.wdkick req v) s = .next { s with sys := { s.sys with wdogFrom := s.ns } }) ∧
  (∀ (s : State) (n : Nat), s.powered →
    ∃ t, exec (.pciePerst n) s = .next t ∧ t.val Reg.HIF_CTL = 0 ∧ t.val Reg.HIF_AGREED = 0 ∧ t.hif.cpls = [] ∧
      t.hif.inProg = s.hif.inProg.map (fun p => { p with silent := true }) ∧ (∀ k, k < 16 → bitAt (t.val (Reg.SNAP_SUBkCTL k)) 0 = 0) ∧
      (∀ k, k < 16 → t.fld (Reg.EVC_TGTnCTL (8 + k)) F.EVC_TGTnCTL_EN = 0) ∧
      t.val Reg.SYS_RSTCAUSE = s.val Reg.SYS_RSTCAUSE ||| 32 ∧ t.val Reg.HIF_PERSTS = min (s.val Reg.HIF_PERSTS + 1) 0xFFFFFFFF ∧
      (t.val Reg.HIF_ERRSTAT).testBit 8 = true ∧ t.sys.mode = s.sys.mode ∧
      Frame [.now, .sys, .evc, .hif] [.SYS, .SNAP, .EVC, .HIF] s t)

/-- STARTUP: only in BOOT and only once; a boot stage or firmware that fails its check ends in LOCKOUT with the step in BOOTSTAT; else the blocks come
up and CONFIGURE, SETTLE or REFEREE is reached; a bank set on trial is marked at its first start and given up at a later one (R417, R430). -/
def Obligations.StartUpRuns : Prop :=
  ∀ (s : State) (n : Nat) (env : StartEnv), s.powered →
    let u := s.advanceNs n
    let starts := s.sys.mode = .boot ∧ s.sys.blocksUp = false
    let failed := fun (t : State) (step : Nat) => t.sys.mode = .lockout ∧ t.sys.blocksUp = false ∧
      t.val Reg.SYS_BOOTSTAT % 256 = step ∧ (t.val Reg.SYS_ERRSTAT).testBit 2 = true ∧ (t.val Reg.SYS_ERRSTAT).testBit 3 = true
    let c := s.upd.ctl
    (¬ starts → exec (.startup n env) s = .next u) ∧
    (starts → ∃ t, exec (.startup n env) s = .next t ∧
      (env.bootVerified = false → failed t 2) ∧ (env.bootVerified = true → env.firmwareVerified = false → failed t 4) ∧
      (env.bootVerified = true → env.firmwareVerified = true → env.settings = [] → t.sys.blocksUp = true ∧ t.sys.usable = env.usableBytes ∧
        t.sys.mode ∈ [Mode.configure, .settle, .referee] ∧ (s.val Reg.SYS_BOOTCFG % 16 = 1 → t.sys.mode = .configure) ∧
        (env.cart = none → t.ldg.cstate = s.ldg.cstate)) ∧
      (env.settings = [] → c.trial = false → t.upd.ctl.trial = false ∧ t.upd.ctl.bankB = c.bankB) ∧
      (env.settings = [] → c.trial = true → c.tried = false → t.upd.ctl.trial = true ∧ t.upd.ctl.tried = true ∧ t.upd.ctl.bankB = c.bankB ∧
        t.upd.trialEnd = some (u.ns + c.trialwin * 1000000000)) ∧
      (env.settings = [] → c.trial = true → c.tried = true → t.upd.ctl.trial = false ∧ t.upd.ctl.bankB = !c.bankB ∧ t.upd.trialEnd = none ∧
        t.upd.fallback = true))

/-! ### The host interface (chapter 22) -/

/-- COMMAND_DOORBELL, COMPLETION_WRITE, NOP and DRVVER_WRITE: the doorbell has the entry at CMDHEAD read and started once, one that fails its first
check answered ARG; the oldest completion is written at CPLHEAD with its phase, or waits; the versions agree on the highest both support (R445-R448). -/
def Obligations.RingsCarryCommands : Prop :=
  (∀ (s : State) (req : Requester) (v : Nat), s.powered → s.mayWrite req Reg.HIF_CMDTAIL v →
    let h := s.val Reg.HIF_CMDHEAD % s.cmdSlots
    let e := s.hostBytes (s.cmdBase + 64 * h) 64
    let next := (h + 1) % s.cmdSlots
    let tail := (s.val Reg.HIF_CMDTAIL / 4096 * 4096 + v % 4096) % s.cmdSlots
    let ready := s.flag Reg.HIF_CTL F.HIF_CTL_CMDEN = true ∧ s.sys.blocksUp = true ∧ s.sys.mode ≠ .dormant ∧ s.sys.trans = none ∧
      s.busyCmds < 32
    ((¬ ready ∨ tail = h) →
      ∃ t, exec (.commandDoorbell req v) s = .next t ∧ t.val Reg.HIF_CMDTAIL % 4096 = v % 4096 ∧ RegsBut [Reg.HIF_CMDTAIL] s t ∧
        Frame [] [.HIF] s t) ∧
    (ready → h ≠ next → tail = next → entryOk e = true → leAt e 0 2 = 0 → s.admits 0 (entryHdr e) →
      ∃ t, exec (.commandDoorbell req v) s = .next t ∧ t.val Reg.HIF_CMDHEAD = next ∧ Answers s t 0 (leAt e 4 4) .ok [] ∧
        RegsBut [Reg.HIF_CMDTAIL, Reg.HIF_CMDHEAD] s t ∧ Frame [.hif] [.HIF] s t) ∧
    (ready → h ≠ next → tail = next → entryOk e = false → s.heard (leAt e 0 2) (leAt e 4 4) →
      ∃ t, exec (.commandDoorbell req v) s = .next t ∧ t.val Reg.HIF_CMDHEAD = next ∧ Answers s t (leAt e 0 2) (leAt e 4 4) .arg [] ∧
        RegsBut [Reg.HIF_CMDTAIL, Reg.HIF_CMDHEAD] s t ∧ Frame [.hif] [.HIF] s t)) ∧
  (∀ (s : State) (fails : Bool), s.powered → s.val Reg.HIF_CMDHEAD % s.cmdSlots = s.val Reg.HIF_CMDTAIL % s.cmdSlots →
    (s.sys.mode = .dormant → exec (.completionWrite fails) s = .next s) ∧
    (s.sys.mode ≠ .dormant → s.hif.cpls = [] → s.lat.job = none → exec (.completionWrite fails) s = .next s) ∧
    (s.sys.mode ≠ .dormant → s.hif.cpls ≠ [] → s.cplFull = true → Faults (.completionWrite fails) s E.HIF 6) ∧
    (s.sys.mode ≠ .dormant → s.hif.cpls ≠ [] → s.cplFull = false → fails = true → Faults (.completionWrite fails) s E.HIF 4) ∧
    (∀ c rest, s.sys.mode ≠ .dormant → s.hif.cpls = c :: rest → s.cplFull = false → fails = false →
      let head := s.val Reg.HIF_CPLHEAD % s.cplSlots
      let next := (head + 1) % s.cplSlots
      (s.upd.restartDue = false →
        ∃ t, exec (.completionWrite fails) s = .next t ∧ t.val Reg.HIF_CPLHEAD = next ∧
          t.hostMem = s.hostMem.putBytes (s.cplBase + 32 * head) (c.bytes s.hif.phase s.ns) ∧
          HostBut (s.cplBase + 32 * head) 32 s t ∧ t.hif.cpls = rest ∧ t.hif.phase = (if next = 0 then !s.hif.phase else s.hif.phase) ∧
          t.val Reg.HIF_CMDS = min (s.val Reg.HIF_CMDS + 1) 0xFFFFFFFF ∧
          t.val Reg.HIF_CMDERRS = (if c.status = 0 then s.val Reg.HIF_CMDERRS else min (s.val Reg.HIF_CMDERRS + 1) 0xFFFFFFFF) ∧
          (s.flag Reg.HIF_CTL F.HIF_CTL_CPLIRQ = true → 16 ∈ t.hif.msix ∨ t.hif.msixPend.testBit 16 = true) ∧
          RegsBut [Reg.HIF_CPLHEAD, Reg.HIF_CMDS, Reg.HIF_CMDERRS] s t ∧ Frame [.hostMem, .hif] [.HIF] s t) ∧
      (s.upd.restartDue = true → (∀ x ∈ rest, x.code ≠ 0x0902) →
        ∃ t, exec (.completionWrite fails) s = .next t ∧ t.sys.mode = .boot ∧ t.sys.inOrder = true ∧ t.upd.ctl = s.upd.ctl ∧
          t.val Reg.SYS_RSTCAUSE = s.val Reg.SYS_RSTCAUSE ||| 4 ∧
          t.hostMem = s.hostMem.putBytes (s.cplBase + 32 * head) (c.bytes s.hif.phase s.ns)))) ∧
  (∀ (s : State) (h : CmdHdr), s.powered → s.admits 0 h → Replies (.nop h) s 0 h.tag .ok []) ∧
  (∀ (s : State) (req : Requester) (lo hi : Nat), s.powered → lo < 65536 → hi < 65536 → s.mayWrite req Reg.HIF_DRVVER (lo + hi * 65536) →
    let top := min hi 0x0402
    (s.flag Reg.HIF_CTL F.HIF_CTL_CMDEN = true → Faults (.drvverWrite req (lo + hi * 65536)) s E.HIF 0) ∧
    (s.flag Reg.HIF_CTL F.HIF_CTL_CMDEN = false →
      ∃ t, exec (.drvverWrite req (lo + hi * 65536)) s = .next t ∧ t.val Reg.HIF_DRVVER = lo + hi * 65536 ∧
        t.agreed = (if max lo 0x0300 ≤ top then top else 0) ∧ (top < max lo 0x0300 → (t.val Reg.HIF_ERRSTAT).testBit 5 = true) ∧
        RegsBut [Reg.HIF_DRVVER, Reg.HIF_AGREED, Reg.HIF_ERRSTAT, Reg.EVC_MERGEDCNT] s t ∧ Frame [.sys, .evc] [.EVC, .HIF] s t))

/-- REGISTER_WRITE, RC_COUNTER_READ, BAR2_WRITE, I2C_TRANSFER, PCIE_LINK_DOWN and PCIE_LINK_UP: a word written in range is held, one out of range is
refused with CFGERR, a narrow or unaligned write of a register is discarded; a read of a counter that clears on read returns it and leaves what
coincided; the host writes memory only in CONFIGURE and TEST; the registers answer on I2C; the link's state is shown (R5-R8, R437, R440-R444, R449). -/
def Obligations.AccessesReachTheDevice : Prop :=
  (∀ (s : State) (req : Requester) (a width v : Nat), s.powered → s.mayWrite req a v →
    (s.region a = .regWindow → (width ≠ 4 ∨ a % 4 ≠ 0) → exec (.registerWrite req a width v) s = .next s) ∧
    (a = Reg.SYS_SETTLEMIN → width = 4 → v ≤ 1000 →
      ∃ t, exec (.registerWrite req a width v) s = .next t ∧ t.val a % 1024 = v ∧ RegsBut [a] s t ∧ Frame [] [.SYS] s t) ∧
    (a = Reg.SYS_SETTLEMIN → width = 4 → 1000 < v → v < 1024 → Faults (.registerWrite req a width v) s E.SYS 0) ∧
    (a = Reg.SYS_ERRSTAT → width = 4 →
      ∃ t, exec (.registerWrite req a width v) s = .next t ∧
        (∀ i, i < 7 → (t.val a).testBit i = ((s.val a).testBit i && !v.testBit i)) ∧ RegsBut [a] s t ∧ Frame [] [.SYS] s t) ∧
    (a = Reg.LDG_CFG → width = 4 → s.sys.mode ≠ .configure →
      ∃ t, exec (.registerWrite req a width v) s = .next t ∧ RegsBut [] s t ∧ Frame [] [] s t) ∧
    (∀ k, req = .core k → (s.region a = .sysSram ∨ s.region a = .lpddr) →
      ∃ t, exec (.registerWrite req a width v) s = .next t ∧ t.devMem = s.devMem.putBytes a (leBytes width v) ∧ DevBut a width s t ∧
        RegsBut [] s t ∧ Frame [.devMem] [] s t)) ∧
  (∀ (s : State) (a width v : Nat), s.powered → s.isOff a = true → s.sys.mode ≠ .dormant → s.region a = .regWindow →
    ∃ t, exec (.registerWrite .host a width v) s = .next t ∧ t.val Reg.HIF_OFFADDRLO = a % 2 ^ 32 ∧
      t.val Reg.HIF_OFFCNT = min (s.val Reg.HIF_OFFCNT + 1) 0xFFFFFFFF ∧ (t.val Reg.HIF_ERRSTAT).testBit 1 = true ∧
      Frame [.sys, .evc] [.EVC, .HIF] s t) ∧
  (∀ (s : State) (req : Requester) (a next : Nat), s.powered → s.region a = .regWindow → isRc (a - a % 4) = true → s.mayRead req a →
    ∃ t, exec (.rcCounterRead req a next) s = .next t ∧ t.hif = { s.hif with rdata := [s.val (a - a % 4)] } ∧
      t.val (a - a % 4) = min next 0xFFFFFFFF ∧ RegsBut [a - a % 4] s t ∧ (∀ p : Piece, p ≠ .hif → p.same s t)) ∧
  (∀ (s : State) (off : Nat) (data : List Byte), s.powered →
    (∀ a, bar2Addr off = some a → s.isOff a = false → s.region a = .lpddr → (s.sys.mode = .configure ∨ s.sys.mode = .test) →
      ∃ t, exec (.bar2Write off data) s = .next t ∧
        t.devMem = s.devMem.putBytes a (data.take (0x1000000000 + s.sys.usable - a)) ∧ DevBut a data.length s t ∧
        (a + data.length ≤ 0x1000000000 + s.sys.usable → RegsBut [] s t) ∧ Frame [.devMem, .sys, .evc] [.EVC, .HIF] s t) ∧
    (∀ a, bar2Addr off = some a → s.isOff a = false → s.region a = .lpddr → s.sys.mode ≠ .configure → s.sys.mode ≠ .test →
      Faults (.bar2Write off data) s E.HIF 3) ∧
    (∀ a, bar2Addr off = some a → s.isOff a = false → (s.region a = .vertexStore ∨ s.region a = .alignSram) →
      Faults (.bar2Write off data) s E.HIF 3) ∧
    (bar2Addr off = none → s.isOff (2 ^ 40 + off) = false → Faults (.bar2Write off data) s E.HIF 2)) ∧
  (∀ (s : State) (bytes : List Byte) (n : Nat), s.powered →
    let asleep := s.sys.mode = .dormant ∨ s.sys.windowFrom ≠ none
    let ptr := beAt bytes 0 4
    (asleep → exec (.i2cTransfer bytes n) s = .next s) ∧
    (¬ asleep → s.flag Reg.HIF_I2CCFG F.HIF_I2CCFG_EN = false →
      ∃ t, exec (.i2cTransfer bytes n) s = .next t ∧ t.val Reg.HIF_I2CNAK = min (s.val Reg.HIF_I2CNAK + 1) 0xFFFFFFFF ∧
        RegsBut [Reg.HIF_I2CNAK] s t ∧ Frame [] [.HIF] s t) ∧
    (¬ asleep → s.flag Reg.HIF_I2CCFG F.HIF_I2CCFG_EN = true → bytes ≠ [] → (bytes.length < 4 ∨ ptr % 4 ≠ 0 ∨ 0x4000000 ≤ ptr) →
      ∃ t, exec (.i2cTransfer bytes n) s = .next t ∧ t.val Reg.HIF_I2CNAK = min (s.val Reg.HIF_I2CNAK + 1) 0xFFFFFFFF ∧
        (t.val Reg.HIF_ERRSTAT).testBit 7 = true ∧ t.hif.i2cPtr = s.hif.i2cPtr ∧ Frame [.sys, .evc] [.EVC, .HIF] s t) ∧
    (¬ asleep → s.flag Reg.HIF_I2CCFG F.HIF_I2CCFG_EN = true → bytes.length = 4 → ptr % 4 = 0 → ptr < 0x4000000 → n = 0 →
      ∃ t, exec (.i2cTransfer bytes n) s = .next t ∧ t.hif = { s.hif with i2cPtr := ptr } ∧
        t.val Reg.HIF_I2CXFER = min (s.val Reg.HIF_I2CXFER + 1) 0xFFFFFFFF ∧ RegsBut [Reg.HIF_I2CXFER] s t ∧ Frame [.hif] [.HIF] s t) ∧
    (¬ asleep → s.flag Reg.HIF_I2CCFG F.HIF_I2CCFG_EN = true → bytes = [] → n = 4 → s.hif.i2cPtr = 0 →
      ∃ t, exec (.i2cTransfer bytes n) s = .next t ∧ t.hif = { s.hif with i2cPtr := 4, rdata := [s.val Reg.SYS_ID] } ∧
        t.val Reg.HIF_I2CXFER = min (s.val Reg.HIF_I2CXFER + 1) 0xFFFFFFFF ∧ Frame [.hif] [.HIF] s t)) ∧
  (∀ (s : State) (n rate lanes : Nat), s.powered →
    (∃ t, exec (.pcieLinkDown n) s = .next t ∧ t.hif = { s.hif with linkUp := false } ∧ (∀ k, (t.target k).pend = (s.target k).pend) ∧
      RegsBut [] s t ∧ Frame [.now, .evc, .hif] [] s t) ∧
    (∃ t, exec (.pcieLinkUp rate lanes) s = .next t ∧ t.hif = { s.hif with linkUp := true, rate := rate, lanes := lanes } ∧
      (∀ k, (t.target k).pend = (s.target k).pend) ∧ RegsBut [] s t ∧ Frame [.evc, .hif] [] s t))
end

