-- ==== Sys2Proof/Laws/Tab.lean ====
section
/-!
SUPPORT. Laws of sparse tables and byte memories: a read after a write, other keys untouched, and that every operation keeps the canonical
form.
-/
namespace Sys2Proof.Machine

variable {α : Type} {d : Nat → α} {m : Tab α} {k k' lo : Nat} {v : α}

/-! ### Reads -/

theorem tget_terase_same : tget d (terase m k) k = d k := by
  induction m with
  | nil => rfl
  | cons p r ih =>
    obtain ⟨j, w⟩ := p
    by_cases h : k = j
    · simp [terase, h]; simpa [h] using ih
    · simp [terase, tget, h, ih]

theorem tget_terase_other (h : k' ≠ k) : tget d (terase m k) k' = tget d m k' := by
  induction m with
  | nil => rfl
  | cons p r ih =>
    obtain ⟨j, w⟩ := p
    by_cases hj : k = j
    · subst hj; simp [terase, tget, h, ih]
    · by_cases hk : k' = j <;> simp [terase, tget, hj, hk, ih]

theorem tget_above (h : tabove k m = true) : tget d m k = d k := by
  induction m with
  | nil => rfl
  | cons p r ih =>
    obtain ⟨j, w⟩ := p
    simp [tabove] at h
    have hne : k ≠ j := by omega
    simp [tget, hne, ih h.2]

theorem tget_tins_other (h : k' ≠ k) : tget d (tins m k v) k' = tget d m k' := by
  induction m with
  | nil => simp [tins, tget, h]
  | cons p r ih =>
    obtain ⟨j, w⟩ := p
    by_cases hlt : k < j
    · simp [tins, hlt, tget, h]
    · simp [tins, hlt, tget, ih]

/-- Whether a key is listed. -/
def tfree (k : Nat) : Tab α → Prop
  | [] => True
  | (j, _) :: r => k ≠ j ∧ tfree k r

theorem tfree_terase : tfree k (terase m k) := by
  induction m with
  | nil => trivial
  | cons p r ih =>
    obtain ⟨j, w⟩ := p
    by_cases h : k = j
    · simp only [terase, h, if_true]; simpa [h] using ih
    · simp [terase, h, tfree, ih]

theorem tget_tins_free (h : tfree k m) : tget d (tins m k v) k = v := by
  induction m with
  | nil => simp [tins, tget]
  | cons p r ih =>
    obtain ⟨j, w⟩ := p
    by_cases hlt : k < j
    · simp [tins, hlt, tget]
    · simp [tins, hlt, tget, h.1, ih h.2]

/-- A read after a write to the same key. -/
@[simp] theorem tget_tput_same [DecidableEq α] : tget d (tput d m k v) k = v := by
  unfold tput
  split
  · next h => rw [tget_terase_same, h]
  · exact tget_tins_free tfree_terase

/-- A write leaves every other key alone. -/
theorem tget_tput_other [DecidableEq α] (h : k' ≠ k) : tget d (tput d m k v) k' = tget d m k' := by
  unfold tput
  split
  · exact tget_terase_other h
  · rw [tget_tins_other h, tget_terase_other h]

theorem tget_tput [DecidableEq α] : tget d (tput d m k v) k' = if k' = k then v else tget d m k' := by
  split
  · next h => subst h; exact tget_tput_same
  · next h => exact tget_tput_other h

/-! ### Canonical form -/

theorem tabove_weaken (hl : k' ≤ k) (h : tabove k m = true) : tabove k' m = true := by
  induction m with
  | nil => rfl
  | cons p r ih =>
    obtain ⟨j, w⟩ := p
    simp [tabove] at h ⊢
    exact ⟨by omega, ih h.2⟩

theorem tabove_terase (h : tabove lo m = true) : tabove lo (terase m k) = true := by
  induction m with
  | nil => rfl
  | cons p r ih =>
    obtain ⟨j, w⟩ := p
    simp [tabove] at h
    by_cases hj : k = j
    · simp [terase, hj]; simpa [hj] using ih h.2
    · simp [terase, hj, tabove, h.1, ih h.2]

theorem tabove_tins (hk : lo < k) (h : tabove lo m = true) : tabove lo (tins m k v) = true := by
  induction m with
  | nil => simp [tins, tabove, hk]
  | cons p r ih =>
    obtain ⟨j, w⟩ := p
    simp [tabove] at h
    by_cases hlt : k < j
    · simp [tins, hlt, tabove, hk, h]
    · simp [tins, hlt, tabove, h.1, ih h.2]

theorem twf_terase [DecidableEq α] (h : twf d m = true) : twf d (terase m k) = true := by
  induction m with
  | nil => rfl
  | cons p r ih =>
    obtain ⟨j, w⟩ := p
    simp [twf] at h
    by_cases hj : k = j
    · simp [terase, hj]; simpa [hj] using ih h.2
    · simp [terase, hj, twf, h.1.1, tabove_terase h.1.2, ih h.2]

theorem twf_tins [DecidableEq α] (hv : v ≠ d k) (hf : tfree k m) (h : twf d m = true) : twf d (tins m k v) = true := by
  induction m with
  | nil => simp [tins, twf, tabove, hv]
  | cons p r ih =>
    obtain ⟨j, w⟩ := p
    simp [twf] at h
    by_cases hlt : k < j
    · simp [tins, hlt, twf, tabove, hv, h, tabove_weaken (Nat.le_of_lt hlt) h.1.2]
    · have hk : j < k := by have := hf.1; omega
      simp [tins, hlt, twf, h.1.1, tabove_tins hk h.1.2, ih hf.2 h.2]

/-- A write keeps the canonical form. -/
theorem twf_tput [DecidableEq α] (h : twf d m = true) : twf d (tput d m k v) = true := by
  unfold tput
  split
  · exact twf_terase h
  · next hv => exact twf_tins hv tfree_terase (twf_terase h)

/-! ### Byte memories -/

variable {mem : Mem} {a x : Nat} {b : Byte} {l : List Byte}

theorem Mem.byte_put : (mem.put a b).byte x = if x = a then b else mem.byte x := tget_tput

theorem Mem.wf_put (h : mem.wf) : (mem.put a b).wf := twf_tput h

/-- Bytes written land where they are written, and nowhere else. -/
theorem Mem.byte_putBytes : (mem.putBytes a l).byte x = if h : a ≤ x ∧ x < a + l.length then l[x - a]'(by omega) else mem.byte x := by
  induction l generalizing mem a with
  | nil =>
    have : ¬ (a ≤ x ∧ x < a + 0) := by omega
    simp [Mem.putBytes] <;> omega
  | cons b r ih =>
    rw [Mem.putBytes, ih]
    by_cases h1 : a + 1 ≤ x ∧ x < a + 1 + r.length
    · have h2 : a ≤ x ∧ x < a + (b :: r).length := by simp; omega
      rw [dif_pos h1, dif_pos h2]
      have : x - a = (x - (a + 1)) + 1 := by omega
      simp [this]
    · rw [dif_neg h1, Mem.byte_put]
      by_cases h3 : x = a
      · subst h3; simp
      · have h2 : ¬ (a ≤ x ∧ x < a + (b :: r).length) := by simp; omega
        rw [dif_neg h2, if_neg h3]

/-- A byte outside those written keeps its value. -/
theorem Mem.byte_putBytes_outside (h : x < a ∨ a + l.length ≤ x) : (mem.putBytes a l).byte x = mem.byte x := by
  rw [Mem.byte_putBytes, dif_neg (by omega)]

theorem Mem.wf_putBytes (h : mem.wf) : (mem.putBytes a l).wf := by
  induction l generalizing mem a with
  | nil => exact h
  | cons b r ih => exact ih (Mem.wf_put h)

end Sys2Proof.Machine
end

