-- ==== Sys2Proof/Laws/Bytes.lean ====
section
/-!
SUPPORT. Lengths of digests, and bytes read back where they were put.
-/
namespace Sys2Proof.Machine

theorem shaBlocks_length (p : ShaPar) (ks : List Nat) (blk n : Nat) (l : List Byte) (h : List Nat) (h8 : h.length = 8) :
    (shaBlocks p ks blk n l h).length = 8 := by
  induction n generalizing l h with
  | zero => exact h8
  | succ n ih => exact ih _ _ (by simp [shaBlock, h8])

theorem leBytes_length (n v : Nat) : (leBytes n v).length = n := by
  induction n generalizing v with
  | zero => rfl
  | succ n ih => simp [leBytes, ih]

theorem beBytes_length (n v : Nat) : (beBytes n v).length = n := by simp [beBytes, leBytes_length]

theorem beBytes_flatten_length (n : Nat) (l : List Nat) : ((l.map (beBytes n)).flatten).length = l.length * n := by
  induction l with
  | nil => simp
  | cons x xs ih => simp [beBytes_length, ih, Nat.add_mul, Nat.add_comm]

@[simp] theorem sha256_length (l : List Byte) : (sha256 l).length = 32 := by
  simp only [sha256, beBytes_flatten_length, shaBlocks_length _ _ _ _ _ sha256H rfl]

@[simp] theorem hmacSha256_length (k l : List Byte) : (hmacSha256 k l).length = 32 := sha256_length _

/-- A slice behind a head of its position's length is what follows the head. -/
theorem sliceOf_append (a b c : List Byte) : sliceOf (a ++ (b ++ c)) a.length b.length = b := by simp [sliceOf]

theorem Mem.bytes_of_byte (m : Mem) (a : Nat) (l : List Byte) (h : ∀ i (hi : i < l.length), m.byte (a + i) = l[i]) : m.bytes a l.length = l := by
  induction l generalizing a with
  | nil => rfl
  | cons x xs ih =>
    have h0 := h 0 (by simp)
    simp only [Nat.add_zero, List.getElem_cons_zero] at h0
    simp only [List.length_cons, Mem.bytes, h0, List.cons.injEq, true_and]
    exact ih (a + 1) (fun i hi => by have := h (i + 1) (by simpa using hi); simpa [Nat.add_assoc, Nat.add_comm 1 i] using this)

theorem Mem.bytes_putBytes (m : Mem) (a : Nat) (l : List Byte) : (m.putBytes a l).bytes a l.length = l :=
  Mem.bytes_of_byte _ _ _ fun i hi => by simp [Mem.byte_putBytes, hi]

end Sys2Proof.Machine
end

