-- ==== Sys2Proof/Laws/Kept.lean ====
section
/-!
SUPPORT. What an operation may change, as a mask of bits: bit `i` below 32 for the i-th part of the state, bit 32 + k for the registers
of the block whose 1 MiB window has number k. `Kept m s t` says that `t` differs from `s` in the masked parts alone, and that the
register file and both memories keep their canonical form. One lemma per shared operation gives its mask.
-/
namespace Sys2Proof.Machine

/-- Bit `i` of the mask allows a change, or nothing changed. -/
abbrev Chg (m i : Nat) (P : Prop) : Prop := m.testBit i = true ∨ P

/-- Every bit of `a` is in `b`. -/
def Sub (a b : Nat) : Prop := a &&& b = a

theorem Sub.sub {a b c : Nat} (g : Sub b c) (h : a &&& b = a) : Sub a c := by
  unfold Sub at *; rw [← h, Nat.and_assoc, g]

theorem Sub.bit {a b i : Nat} (g : Sub a b) (h : a.testBit i = true) : b.testBit i = true := by
  unfold Sub at g; rw [← g, Nat.testBit_and] at h; simp at h; exact h.2

theorem Sub.refl {a : Nat} : Sub a a := Nat.and_self a

theorem all_bits : ∀ k < 32, (18446744069414584320 : Nat).testBit (32 + k) = true := by decide

/-- A mask that allows every register allows the one at any address. -/
theorem Sub.all {a b : Nat} (g : Sub a b) (h : 18446744069414584320 &&& a = 18446744069414584320) (x : Nat) :
    b.testBit (32 + x / 1048576 % 32) = true :=
  (g.sub h).bit (all_bits _ (Nat.mod_lt _ (by decide)))

/-- `t` differs from `s` in the parts of the mask alone. -/
structure Kept (m : Nat) (s t : State) : Prop where
  regs : ∀ a, Chg m (32 + a / 1048576 % 32) (t.reg a = s.reg a)
  devMem : Chg m 0 (t.devMem = s.devMem)
  hostMem : Chg m 1 (t.hostMem = s.hostMem)
  now : Chg m 2 (t.now = s.now)
  sys : Chg m 3 (t.sys = s.sys)
  tb : Chg m 4 (t.tb = s.tb)
  eth : Chg m 5 (t.eth = s.eth)
  ing : Chg m 6 (t.ing = s.ing)
  snap : Chg m 7 (t.snap = s.snap)
  topo : Chg m 8 (t.topo = s.topo)
  det : Chg m 9 (t.det = s.det)
  modal : Chg m 10 (t.modal = s.modal)
  alm : Chg m 11 (t.alm = s.alm)
  afe : Chg m 12 (t.afe = s.afe)
  flt : Chg m 13 (t.flt = s.flt)
  mtr : Chg m 14 (t.mtr = s.mtr)
  cap : Chg m 15 (t.cap = s.cap)
  lat : Chg m 16 (t.lat = s.lat)
  cores : Chg m 17 (t.cores = s.cores)
  tsk : Chg m 18 (t.tsk = s.tsk)
  evc : Chg m 19 (t.evc = s.evc)
  chd : Chg m 20 (t.chd = s.chd)
  ldg : Chg m 21 (t.ldg = s.ldg)
  key : Chg m 22 (t.key = s.key)
  upd : Chg m 23 (t.upd = s.upd)
  hif : Chg m 24 (t.hif = s.hif)
  supplyOk : Chg m 25 (t.supplyOk = s.supplyOk)
  free : Chg m 26 (t.free = s.free)
  pending : Chg m 27 (t.pending = s.pending)
  wfRegs : twf resetOf s.regs = true → twf resetOf t.regs = true
  wfDev : s.devMem.wf → t.devMem.wf
  wfHost : s.hostMem.wf → t.hostMem.wf

theorem kept_refl {m : Nat} {s : State} : Kept m s s := ⟨fun _ => .inr rfl, .inr rfl, .inr rfl, .inr rfl, .inr rfl, .inr rfl, .inr rfl, .inr rfl, .inr rfl, .inr rfl, .inr rfl, .inr rfl, .inr rfl, .inr rfl, .inr rfl, .inr rfl, .inr rfl, .inr rfl, .inr rfl, .inr rfl, .inr rfl, .inr rfl, .inr rfl, .inr rfl, .inr rfl, .inr rfl, .inr rfl, .inr rfl, .inr rfl, id, id, id⟩

theorem chg_trans {α : Type} {m i : Nat} {a b c : α} (h : Chg m i (b = a)) (g : Chg m i (c = b)) : Chg m i (c = a) := by
  rcases h with h | h <;> rcases g with g | g <;> first | exact .inl ‹_› | exact .inr (g.trans h)

/-- A record update that writes no register and no memory. -/
theorem kept_mk {m : Nat} {s0 s : State} (h : Kept m s0 s)
    {x_now : _} (h_now : Chg m 2 (x_now = s.now))
    {x_sys : _} (h_sys : Chg m 3 (x_sys = s.sys))
    {x_tb : _} (h_tb : Chg m 4 (x_tb = s.tb))
    {x_eth : _} (h_eth : Chg m 5 (x_eth = s.eth))
    {x_ing : _} (h_ing : Chg m 6 (x_ing = s.ing))
    {x_snap : _} (h_snap : Chg m 7 (x_snap = s.snap))
    {x_topo : _} (h_topo : Chg m 8 (x_topo = s.topo))
    {x_det : _} (h_det : Chg m 9 (x_det = s.det))
    {x_modal : _} (h_modal : Chg m 10 (x_modal = s.modal))
    {x_alm : _} (h_alm : Chg m 11 (x_alm = s.alm))
    {x_afe : _} (h_afe : Chg m 12 (x_afe = s.afe))
    {x_flt : _} (h_flt : Chg m 13 (x_flt = s.flt))
    {x_mtr : _} (h_mtr : Chg m 14 (x_mtr = s.mtr))
    {x_cap : _} (h_cap : Chg m 15 (x_cap = s.cap))
    {x_lat : _} (h_lat : Chg m 16 (x_lat = s.lat))
    {x_cores : _} (h_cores : Chg m 17 (x_cores = s.cores))
    {x_tsk : _} (h_tsk : Chg m 18 (x_tsk = s.tsk))
    {x_evc : _} (h_evc : Chg m 19 (x_evc = s.evc))
    {x_chd : _} (h_chd : Chg m 20 (x_chd = s.chd))
    {x_ldg : _} (h_ldg : Chg m 21 (x_ldg = s.ldg))
    {x_key : _} (h_key : Chg m 22 (x_key = s.key))
    {x_upd : _} (h_upd : Chg m 23 (x_upd = s.upd))
    {x_hif : _} (h_hif : Chg m 24 (x_hif = s.hif))
    {x_supplyOk : _} (h_supplyOk : Chg m 25 (x_supplyOk = s.supplyOk))
    {x_free : _} (h_free : Chg m 26 (x_free = s.free))
    {x_pending : _} (h_pending : Chg m 27 (x_pending = s.pending)) :
    Kept m s0 ⟨s.regs, s.devMem, s.hostMem, x_now, x_sys, x_tb, x_eth, x_ing, x_snap, x_topo, x_det, x_modal, x_alm, x_afe, x_flt, x_mtr, x_cap, x_lat, x_cores, x_tsk, x_evc, x_chd, x_ldg, x_key, x_upd, x_hif, x_supplyOk, x_free, x_pending⟩ :=
  ⟨h.regs, h.devMem, h.hostMem, chg_trans h.now h_now, chg_trans h.sys h_sys, chg_trans h.tb h_tb, chg_trans h.eth h_eth, chg_trans h.ing h_ing, chg_trans h.snap h_snap, chg_trans h.topo h_topo, chg_trans h.det h_det, chg_trans h.modal h_modal, chg_trans h.alm h_alm, chg_trans h.afe h_afe, chg_trans h.flt h_flt, chg_trans h.mtr h_mtr, chg_trans h.cap h_cap, chg_trans h.lat h_lat, chg_trans h.cores h_cores, chg_trans h.tsk h_tsk, chg_trans h.evc h_evc, chg_trans h.chd h_chd, chg_trans h.ldg h_ldg, chg_trans h.key h_key, chg_trans h.upd h_upd, chg_trans h.hif h_hif, chg_trans h.supplyOk h_supplyOk, chg_trans h.free h_free, chg_trans h.pending h_pending, h.wfRegs, h.wfDev, h.wfHost⟩

theorem kept_now {m : Nat} {s0 s : State} {x : _} (b : m.testBit 2 = true) (h : Kept m s0 s) : Kept m s0 { s with now := x } :=
  { h with now := .inl b }

theorem kept_sys {m : Nat} {s0 s : State} {x : _} (b : m.testBit 3 = true) (h : Kept m s0 s) : Kept m s0 { s with sys := x } :=
  { h with sys := .inl b }

theorem kept_tb {m : Nat} {s0 s : State} {x : _} (b : m.testBit 4 = true) (h : Kept m s0 s) : Kept m s0 { s with tb := x } :=
  { h with tb := .inl b }

theorem kept_eth {m : Nat} {s0 s : State} {x : _} (b : m.testBit 5 = true) (h : Kept m s0 s) : Kept m s0 { s with eth := x } :=
  { h with eth := .inl b }

theorem kept_ing {m : Nat} {s0 s : State} {x : _} (b : m.testBit 6 = true) (h : Kept m s0 s) : Kept m s0 { s with ing := x } :=
  { h with ing := .inl b }

theorem kept_snap {m : Nat} {s0 s : State} {x : _} (b : m.testBit 7 = true) (h : Kept m s0 s) : Kept m s0 { s with snap := x } :=
  { h with snap := .inl b }

theorem kept_topo {m : Nat} {s0 s : State} {x : _} (b : m.testBit 8 = true) (h : Kept m s0 s) : Kept m s0 { s with topo := x } :=
  { h with topo := .inl b }

theorem kept_det {m : Nat} {s0 s : State} {x : _} (b : m.testBit 9 = true) (h : Kept m s0 s) : Kept m s0 { s with det := x } :=
  { h with det := .inl b }

theorem kept_modal {m : Nat} {s0 s : State} {x : _} (b : m.testBit 10 = true) (h : Kept m s0 s) : Kept m s0 { s with modal := x } :=
  { h with modal := .inl b }

theorem kept_alm {m : Nat} {s0 s : State} {x : _} (b : m.testBit 11 = true) (h : Kept m s0 s) : Kept m s0 { s with alm := x } :=
  { h with alm := .inl b }

theorem kept_afe {m : Nat} {s0 s : State} {x : _} (b : m.testBit 12 = true) (h : Kept m s0 s) : Kept m s0 { s with afe := x } :=
  { h with afe := .inl b }

theorem kept_flt {m : Nat} {s0 s : State} {x : _} (b : m.testBit 13 = true) (h : Kept m s0 s) : Kept m s0 { s with flt := x } :=
  { h with flt := .inl b }

theorem kept_mtr {m : Nat} {s0 s : State} {x : _} (b : m.testBit 14 = true) (h : Kept m s0 s) : Kept m s0 { s with mtr := x } :=
  { h with mtr := .inl b }

theorem kept_cap {m : Nat} {s0 s : State} {x : _} (b : m.testBit 15 = true) (h : Kept m s0 s) : Kept m s0 { s with cap := x } :=
  { h with cap := .inl b }

theorem kept_lat {m : Nat} {s0 s : State} {x : _} (b : m.testBit 16 = true) (h : Kept m s0 s) : Kept m s0 { s with lat := x } :=
  { h with lat := .inl b }

theorem kept_cores {m : Nat} {s0 s : State} {x : _} (b : m.testBit 17 = true) (h : Kept m s0 s) : Kept m s0 { s with cores := x } :=
  { h with cores := .inl b }

theorem kept_tsk {m : Nat} {s0 s : State} {x : _} (b : m.testBit 18 = true) (h : Kept m s0 s) : Kept m s0 { s with tsk := x } :=
  { h with tsk := .inl b }

theorem kept_evc {m : Nat} {s0 s : State} {x : _} (b : m.testBit 19 = true) (h : Kept m s0 s) : Kept m s0 { s with evc := x } :=
  { h with evc := .inl b }

theorem kept_chd {m : Nat} {s0 s : State} {x : _} (b : m.testBit 20 = true) (h : Kept m s0 s) : Kept m s0 { s with chd := x } :=
  { h with chd := .inl b }

theorem kept_ldg {m : Nat} {s0 s : State} {x : _} (b : m.testBit 21 = true) (h : Kept m s0 s) : Kept m s0 { s with ldg := x } :=
  { h with ldg := .inl b }

theorem kept_key {m : Nat} {s0 s : State} {x : _} (b : m.testBit 22 = true) (h : Kept m s0 s) : Kept m s0 { s with key := x } :=
  { h with key := .inl b }

theorem kept_upd {m : Nat} {s0 s : State} {x : _} (b : m.testBit 23 = true) (h : Kept m s0 s) : Kept m s0 { s with upd := x } :=
  { h with upd := .inl b }

theorem kept_hif {m : Nat} {s0 s : State} {x : _} (b : m.testBit 24 = true) (h : Kept m s0 s) : Kept m s0 { s with hif := x } :=
  { h with hif := .inl b }

theorem kept_supplyOk {m : Nat} {s0 s : State} {x : _} (b : m.testBit 25 = true) (h : Kept m s0 s) : Kept m s0 { s with supplyOk := x } :=
  { h with supplyOk := .inl b }

theorem kept_free {m : Nat} {s0 s : State} {x : _} (b : m.testBit 26 = true) (h : Kept m s0 s) : Kept m s0 { s with free := x } :=
  { h with free := .inl b }

theorem kept_pending {m : Nat} {s0 s : State} {x : _} (b : m.testBit 27 = true) (h : Kept m s0 s) : Kept m s0 { s with pending := x } :=
  { h with pending := .inl b }

theorem Kept.trans {m : Nat} {s t u : State} (h : Kept m s t) (g : Kept m t u) : Kept m s u :=
  ⟨fun a => chg_trans (h.regs a) (g.regs a), chg_trans h.devMem g.devMem, chg_trans h.hostMem g.hostMem, chg_trans h.now g.now, chg_trans h.sys g.sys, chg_trans h.tb g.tb, chg_trans h.eth g.eth, chg_trans h.ing g.ing, chg_trans h.snap g.snap, chg_trans h.topo g.topo, chg_trans h.det g.det, chg_trans h.modal g.modal, chg_trans h.alm g.alm, chg_trans h.afe g.afe, chg_trans h.flt g.flt, chg_trans h.mtr g.mtr, chg_trans h.cap g.cap, chg_trans h.lat g.lat, chg_trans h.cores g.cores, chg_trans h.tsk g.tsk, chg_trans h.evc g.evc, chg_trans h.chd g.chd, chg_trans h.ldg g.ldg, chg_trans h.key g.key, chg_trans h.upd g.upd, chg_trans h.hif g.hif, chg_trans h.supplyOk g.supplyOk, chg_trans h.free g.free, chg_trans h.pending g.pending,
    fun w => g.wfRegs (h.wfRegs w), fun w => g.wfDev (h.wfDev w), fun w => g.wfHost (h.wfHost w)⟩

theorem kept_mkp_fst {β : Type} {m : Nat} {s0 x : State} {y : β} (h : Kept m s0 x) : Kept m s0 (x, y).1 := h

theorem kept_mkp_snd {β : Type} {m : Nat} {s0 x : State} {y : β} (h : Kept m s0 x) : Kept m s0 (y, x).2 := h

theorem kept_ite {m : Nat} {s0 x y : State} {c : Prop} [Decidable c] (hx : Kept m s0 x) (hy : Kept m s0 y) : Kept m s0 (ite c x y) := by
  split <;> assumption

theorem kept_ite_fst {β : Type} {m : Nat} {s0 : State} {x y : State × β} {c : Prop} [Decidable c] (hx : Kept m s0 x.1)
    (hy : Kept m s0 y.1) : Kept m s0 (ite c x y).1 := by
  split <;> assumption

theorem kept_ite_snd {β : Type} {m : Nat} {s0 : State} {x y : β × State} {c : Prop} [Decidable c] (hx : Kept m s0 x.2)
    (hy : Kept m s0 y.2) : Kept m s0 (ite c x y).2 := by
  split <;> assumption

theorem kept_foldl {β : Type} {m : Nat} {s0 s : State} {f : State → β → State} {l : List β} (h : Kept m s0 s)
    (hf : ∀ x y, Kept m s0 x → Kept m s0 (f x y)) : Kept m s0 (l.foldl f s) := by
  induction l generalizing s with
  | nil => exact h
  | cons b r ih => exact ih (hf s b h)

theorem kept_foldl_fst {β γ : Type} {m : Nat} {s0 : State} {p : State × γ} {f : State × γ → β → State × γ} {l : List β} (h : Kept m s0 p.1)
    (hf : ∀ x y, Kept m s0 x.1 → Kept m s0 (f x y).1) : Kept m s0 (l.foldl f p).1 := by
  induction l generalizing p with
  | nil => exact h
  | cons b r ih => exact ih (hf p b h)

theorem kept_foldl_snd {β γ : Type} {m : Nat} {s0 : State} {p : γ × State} {f : γ × State → β → γ × State} {l : List β} (h : Kept m s0 p.2)
    (hf : ∀ x y, Kept m s0 x.2 → Kept m s0 (f x y).2) : Kept m s0 (l.foldl f p).2 := by
  induction l generalizing p with
  | nil => exact h
  | cons b r ih => exact ih (hf p b h)

theorem kept_pair_fst {β : Type} {m : Nat} {s0 x : State} {p : State × β} {y : β} (e : p = (x, y)) (h : Kept m s0 p.1) : Kept m s0 x := by
  subst e; exact h

theorem kept_pair_snd {β : Type} {m : Nat} {s0 x : State} {p : β × State} {y : β} (e : p = (y, x)) (h : Kept m s0 p.2) : Kept m s0 x := by
  subst e; exact h

/-- A register write changes the block of its address alone. -/
theorem State.setReg_kept {m : Nat} {s0 s : State} {a : Nat} {v : Word} {b : Nat} (_ : Sub 0 m) (e : a / 1048576 % 32 = b)
    (hb : m.testBit (32 + b) = true) (h : Kept m s0 s) : Kept m s0 (s.setReg a v) :=
  { h with
    regs := fun c => by
      by_cases g : c = a
      · subst g; subst e; exact .inl hb
      · exact chg_trans (h.regs c) (.inr (tget_tput_other g))
    wfRegs := fun w => twf_tput (h.wfRegs w) }

theorem State.putDev_kept {m : Nat} {s0 s : State} {a : Nat} {l : List Byte} (hm : Sub 1 m) (h : Kept m s0 s) : Kept m s0 (s.putDev a l) :=
  { h with
    devMem := .inl (hm.bit rfl)
    wfDev := fun w => Mem.wf_putBytes (h.wfDev w) }

theorem State.putHost_kept {m : Nat} {s0 s : State} {a : Nat} {l : List Byte} (hm : Sub 2 m) (h : Kept m s0 s) : Kept m s0 (s.putHost a l) :=
  { h with
    hostMem := .inl (hm.bit rfl)
    wfHost := fun w => Mem.wf_putBytes (h.wfHost w) }

theorem ite_blk {c : Prop} [Decidable c] {a b k : Nat} (h : a / 1048576 % 32 = k) (g : b / 1048576 % 32 = k) :
    (if c then a else b) / 1048576 % 32 = k := by
  split <;> assumption

theorem live_next {s t : State} {f : State → State} (h : s.live f = .next t) : t = f s := by
  unfold State.live at h
  split at h
  · cases h; rfl
  · cases h

theorem liveAt_next {s t : State} {n : Nat} {f : State → State} (h : s.liveAt n f = .next t) : t = f (s.advanceNs n) := live_next h

end Sys2Proof.Machine
end

