-- ==== Sys2Proof/Laws/Frame.lean ====
section
/-!
SUPPORT. From a mask to the frame that the claims state: a meaning's mask lemma gives its frame by one evaluation.
-/
namespace Sys2Proof.Machine

/-- The bit of a part in a mask. -/
def Piece.bit : Piece → Nat
  | .devMem => 0
  | .hostMem => 1
  | .now => 2
  | .sys => 3
  | .tb => 4
  | .eth => 5
  | .ing => 6
  | .snap => 7
  | .topo => 8
  | .det => 9
  | .modal => 10
  | .alm => 11
  | .afe => 12
  | .flt => 13
  | .mtr => 14
  | .cap => 15
  | .lat => 16
  | .cores => 17
  | .tsk => 18
  | .evc => 19
  | .chd => 20
  | .ldg => 21
  | .key => 22
  | .upd => 23
  | .hif => 24
  | .supplyOk => 25
  | .free => 26
  | .pending => 27

/-- Every part. -/
def Piece.all : List Piece := [.devMem, .hostMem, .now, .sys, .tb, .eth, .ing, .snap, .topo, .det, .modal, .alm, .afe, .flt, .mtr, .cap, .lat, .cores, .tsk, .evc, .chd, .ldg, .key, .upd, .hif, .supplyOk, .free, .pending]

theorem Piece.mem_all (p : Piece) : p ∈ Piece.all := by cases p <;> decide

/-- A mask allows no change outside the parts `ps` and the blocks `bs`. -/
def frameCheck (m : Nat) (ps : List Piece) (bs : List Blk) : Bool :=
  Piece.all.all (fun p => decide (p ∈ ps) || !m.testBit p.bit) &&
  (List.range 22).all (fun k => decide (k ∈ bs.map Blk.no) || !m.testBit (32 + k))

theorem Kept.same {m : Nat} {s t : State} (h : Kept m s t) (p : Piece) (b : m.testBit p.bit = false) : p.same s t := by
  cases p
  · exact h.devMem.resolve_left (by simpa [Piece.bit] using b)
  · exact h.hostMem.resolve_left (by simpa [Piece.bit] using b)
  · exact h.now.resolve_left (by simpa [Piece.bit] using b)
  · exact h.sys.resolve_left (by simpa [Piece.bit] using b)
  · exact h.tb.resolve_left (by simpa [Piece.bit] using b)
  · exact h.eth.resolve_left (by simpa [Piece.bit] using b)
  · exact h.ing.resolve_left (by simpa [Piece.bit] using b)
  · exact h.snap.resolve_left (by simpa [Piece.bit] using b)
  · exact h.topo.resolve_left (by simpa [Piece.bit] using b)
  · exact h.det.resolve_left (by simpa [Piece.bit] using b)
  · exact h.modal.resolve_left (by simpa [Piece.bit] using b)
  · exact h.alm.resolve_left (by simpa [Piece.bit] using b)
  · exact h.afe.resolve_left (by simpa [Piece.bit] using b)
  · exact h.flt.resolve_left (by simpa [Piece.bit] using b)
  · exact h.mtr.resolve_left (by simpa [Piece.bit] using b)
  · exact h.cap.resolve_left (by simpa [Piece.bit] using b)
  · exact h.lat.resolve_left (by simpa [Piece.bit] using b)
  · exact h.cores.resolve_left (by simpa [Piece.bit] using b)
  · exact h.tsk.resolve_left (by simpa [Piece.bit] using b)
  · exact h.evc.resolve_left (by simpa [Piece.bit] using b)
  · exact h.chd.resolve_left (by simpa [Piece.bit] using b)
  · exact h.ldg.resolve_left (by simpa [Piece.bit] using b)
  · exact h.key.resolve_left (by simpa [Piece.bit] using b)
  · exact h.upd.resolve_left (by simpa [Piece.bit] using b)
  · exact h.hif.resolve_left (by simpa [Piece.bit] using b)
  · exact h.supplyOk.resolve_left (by simpa [Piece.bit] using b)
  · exact h.free.resolve_left (by simpa [Piece.bit] using b)
  · exact h.pending.resolve_left (by simpa [Piece.bit] using b)

theorem frame_of_kept {m : Nat} {ps : List Piece} {bs : List Blk} {s t : State} (h : Kept m s t) (c : frameCheck m ps bs = true) :
    Frame ps bs s t := by
  simp only [frameCheck, Bool.and_eq_true, List.all_eq_true, Bool.or_eq_true, decide_eq_true_eq, Bool.not_eq_true'] at c
  refine ⟨fun p hp => h.same p ((c.1 p p.mem_all).resolve_left hp), fun a lo hi hb => ?_⟩
  have hk : a / 1048576 % 32 = blkAt a := by unfold blkAt; omega
  have hr : blkAt a ∈ List.range 22 := by rw [List.mem_range]; unfold blkAt; omega
  have hc := (c.2 _ hr).resolve_left hb
  refine (h.regs a).resolve_left ?_
  rw [hk, hc]
  decide

/-- Canonical forms are kept. -/
theorem wf_of_kept {m : Nat} {s t : State} (h : Kept m s t) (w : s.wf) : t.wf := ⟨h.wfRegs w.1, h.wfDev w.2.1, h.wfHost w.2.2⟩

/-- A register of a block outside the mask reads what it read. -/
theorem reg_of_kept {m : Nat} {s t : State} (h : Kept m s t) (a : Nat) {k : Nat} (e : a / 1048576 % 32 = k) (c : m.testBit (32 + k) = false) :
    t.reg a = s.reg a := by
  subst e
  exact (h.regs a).resolve_left (by rw [c]; decide)

end Sys2Proof.Machine
end

