-- ==== Sys2Proof/Laws/KeptFlags.lean ====
section
/-!
SUPPORT. What each operation of Machine/Flags.lean may change: one lemma per operation, its mask of parts and register blocks in `hm`.
-/
namespace Sys2Proof.Machine

theorem State.setFld_kept {m : Nat} {s0 : State} {a0} {a1} {a2} {a3} {k1} (hm : Sub 0 m) (b1a : a1 / 1048576 % 32 = k1) (b1b : m.testBit (32 + k1) = true) (h0 : Kept m s0 a0) : Kept m s0 (State.setFld a0 a1 a2 a3) := by
  unfold State.setFld
  refine State.setReg_kept (hm.sub rfl) b1a b1b ?_
  exact h0

theorem State.setVal_kept {m : Nat} {s0 : State} {a0} {a1} {a2} {k1} (hm : Sub 0 m) (b1a : a1 / 1048576 % 32 = k1) (b1b : m.testBit (32 + k1) = true) (h0 : Kept m s0 a0) : Kept m s0 (State.setVal a0 a1 a2) := by
  unfold State.setVal
  refine State.setReg_kept (hm.sub rfl) b1a b1b ?_
  exact h0

theorem State.bumpBy_kept {m : Nat} {s0 : State} {a0} {a1} {a2} {k1} (hm : Sub 0 m) (b1a : a1 / 1048576 % 32 = k1) (b1b : m.testBit (32 + k1) = true) (h0 : Kept m s0 a0) : Kept m s0 (State.bumpBy a0 a1 a2) := by
  unfold State.bumpBy
  refine State.setVal_kept (hm.sub rfl) b1a b1b ?_
  exact h0

theorem State.bump_kept {m : Nat} {s0 : State} {a0} {a1} {k1} (hm : Sub 0 m) (b1a : a1 / 1048576 % 32 = k1) (b1b : m.testBit (32 + k1) = true) (h0 : Kept m s0 a0) : Kept m s0 (State.bump a0 a1) := by
  unfold State.bump
  refine State.bumpBy_kept (hm.sub rfl) b1a b1b ?_
  exact h0

theorem State.advanceNs_kept {m : Nat} {s0 : State} {a0} {a1} (hm : Sub 4 m) (h0 : Kept m s0 a0) : Kept m s0 (State.advanceNs a0 a1) := by
  unfold State.advanceNs
  refine kept_now (hm.bit rfl) ?_
  exact h0

theorem State.draw_kept {m : Nat} {s0 : State} {a0} (hm : Sub 67108864 m) (h0 : Kept m s0 a0) : Kept m s0 ((State.draw a0).2) := by
  unfold State.draw
  refine kept_mkp_snd ?_
  refine kept_free (hm.bit rfl) ?_
  exact h0

theorem State.setTarget_kept {m : Nat} {s0 : State} {a0} {a1} {a2} (hm : Sub 524288 m) (h0 : Kept m s0 a0) : Kept m s0 (State.setTarget a0 a1 a2) := by
  unfold State.setTarget
  refine kept_evc (hm.bit rfl) ?_
  exact h0

theorem State.setCore_kept {m : Nat} {s0 : State} {a0} {a1} {a2} (hm : Sub 131072 m) (h0 : Kept m s0 a0) : Kept m s0 (State.setCore a0 a1 a2) := by
  unfold State.setCore
  refine kept_cores (hm.bit rfl) ?_
  exact h0

theorem State.refreshSleep_kept {m : Nat} {s0 : State} {a0} {a1} (hm : Sub 524288 m) (h0 : Kept m s0 a0) : Kept m s0 (State.refreshSleep a0 a1) := by
  unfold State.refreshSleep
  extract_lets -merge -useContext +onlyGivenNames t1
  try clear_value t1
  extract_lets -merge -useContext +onlyGivenNames x2
  try clear_value x2
  refine State.setTarget_kept (hm.sub rfl) ?_
  exact h0

theorem State.addPend_kept {m : Nat} {s0 : State} {a0} {a1} {a2} (hm : Sub 524288 m) (h0 : Kept m s0 a0) : Kept m s0 (State.addPend a0 a1 a2) := by
  unfold State.addPend
  extract_lets -merge -useContext +onlyGivenNames t1
  try clear_value t1
  refine State.refreshSleep_kept (hm.sub rfl) ?_
  refine State.setTarget_kept (hm.sub rfl) ?_
  exact h0

theorem State.pendEvent_kept {m : Nat} {s0 : State} {a0} {a1} {a2} {a3} {a4} (hm : Sub 70368744701952 m) (h0 : Kept m s0 a0) : Kept m s0 (State.pendEvent a0 a1 a2 a3 a4) := by
  unfold State.pendEvent
  extract_lets -merge -useContext +onlyGivenNames cfg1
  try clear_value cfg1
  refine kept_ite ?_ ?_
  · exact h0
  · split
    · extract_lets -merge -useContext +onlyGivenNames t2
      try clear_value t2
      refine State.bump_kept (hm.sub rfl) rfl (hm.bit rfl) ?_
      refine State.setTarget_kept (hm.sub rfl) ?_
      exact h0
    · refine State.addPend_kept (hm.sub rfl) ?_
      exact h0

theorem State.event_kept {m : Nat} {s0 : State} {a0} {a1} {a2} (hm : Sub 70368744701960 m) (h0 : Kept m s0 a0) : Kept m s0 (State.event a0 a1 a2) := by
  unfold State.event
  refine kept_ite ?_ ?_
  · refine kept_ite ?_ ?_
    · refine kept_sys (hm.bit rfl) ?_
      exact h0
    · exact h0
  · refine State.pendEvent_kept (hm.sub rfl) ?_
    exact h0

theorem State.raiseInfo_kept {m : Nat} {s0 : State} {a0} {a1} {a2} {a3} {k1} (hm : Sub 70368744701960 m) (b1a : a1.addr / 1048576 % 32 = k1) (b1b : m.testBit (32 + k1) = true) (h0 : Kept m s0 a0) : Kept m s0 (State.raiseInfo a0 a1 a2 a3) := by
  unfold State.raiseInfo
  refine State.event_kept (hm.sub rfl) ?_
  refine State.setVal_kept (hm.sub rfl) b1a b1b ?_
  exact h0

theorem State.raise_kept {m : Nat} {s0 : State} {a0} {a1} {a2} {k1} (hm : Sub 70368744701960 m) (b1a : a1.addr / 1048576 % 32 = k1) (b1b : m.testBit (32 + k1) = true) (h0 : Kept m s0 a0) : Kept m s0 (State.raise a0 a1 a2) := by
  unfold State.raise
  refine State.raiseInfo_kept (hm.sub rfl) b1a b1b ?_
  exact h0

theorem State.cfgErr_kept {m : Nat} {s0 : State} {a0} {a1} {k1} (hm : Sub 70368744701960 m) (b1a : a1.addr / 1048576 % 32 = k1) (b1b : m.testBit (32 + k1) = true) (h0 : Kept m s0 a0) : Kept m s0 (State.cfgErr a0 a1) := by
  unfold State.cfgErr
  refine State.raise_kept (hm.sub rfl) b1a b1b ?_
  exact h0


end Sys2Proof.Machine
end

