-- ==== Sys2Proof/Laws/KeptOps.lean ====
section
/-!
SUPPORT. What each operation of Machine/Ops.lean may change: one lemma per operation, its mask of parts and register blocks in `hm`.
-/
namespace Sys2Proof.Machine

theorem State.chdSend_kept {m : Nat} {s0 : State} {a0} {a1} (hm : Sub 1048576 m) (h0 : Kept m s0 a0) : Kept m s0 (State.chdSend a0 a1) := by
  unfold State.chdSend
  refine kept_ite ?_ ?_
  · exact h0
  · extract_lets -merge -useContext +onlyGivenNames l1
    try clear_value l1
    extract_lets -merge -useContext +onlyGivenNames n2
    try clear_value n2
    refine kept_chd (hm.bit rfl) ?_
    exact h0

theorem State.sendDelta_kept {m : Nat} {s0 : State} {a0} {a1} (hm : Sub 281474977759232 m) (h0 : Kept m s0 a0) : Kept m s0 (State.sendDelta a0 a1) := by
  unfold State.sendDelta
  refine kept_ite ?_ ?_
  · extract_lets -merge -useContext +onlyGivenNames q1
    try clear_value q1
    refine State.chdSend_kept (hm.sub rfl) ?_
    refine State.bump_kept (hm.sub rfl) rfl (hm.bit rfl) ?_
    refine kept_chd (hm.bit rfl) ?_
    exact h0
  · exact h0

theorem State.doubleBitAnywhere_kept {m : Nat} {s0 : State} {a0} (hm : Sub 70368811810824 m) (h0 : Kept m s0 a0) : Kept m s0 (State.doubleBitAnywhere a0) := by
  unfold State.doubleBitAnywhere
  extract_lets -merge -useContext +onlyGivenNames s11
  try clear_value s11
  extract_lets -merge -useContext +onlyGivenNames s12
  have k_s12 : Kept m s0 s12 := by
    unfold s12
    refine kept_mk ?_ (.inr rfl) (.inl (hm.bit rfl)) (.inr rfl) (.inr rfl) (.inr rfl) (.inr rfl) (.inr rfl) (.inr rfl) (.inr rfl) (.inr rfl) (.inr rfl) (.inr rfl) (.inr rfl) (.inr rfl) (.inr rfl) (.inr rfl) (.inr rfl) (.inr rfl) (.inr rfl) (.inr rfl) (.inr rfl) (.inr rfl) (.inr rfl) (.inr rfl) (.inl (hm.bit rfl)) (.inr rfl)
    exact h0
  clear_value s12
  refine State.event_kept (hm.sub rfl) ?_
  exact k_s12

theorem State.doubleBit_kept {m : Nat} {s0 : State} {a0} {a1} (hm : Sub 70368744701960 m) (h0 : Kept m s0 a0) : Kept m s0 (State.doubleBit a0 a1) := by
  unfold State.doubleBit
  refine State.event_kept (hm.sub rfl) ?_
  refine kept_sys (hm.bit rfl) ?_
  exact h0

theorem State.stage_kept {m : Nat} {s0 : State} {a0} {a1} {a2} {a3} (hm : Sub 562949955518464 m) (h0 : Kept m s0 a0) : Kept m s0 (State.stage a0 a1 a2 a3) := by
  unfold State.stage
  extract_lets -merge -useContext +onlyGivenNames l1
  try clear_value l1
  extract_lets -merge -useContext +onlyGivenNames r2
  try clear_value r2
  extract_lets -merge -useContext +onlyGivenNames x3
  try clear_value x3
  refine State.bump_kept (hm.sub rfl) rfl (hm.bit rfl) ?_
  refine kept_ldg (hm.bit rfl) ?_
  exact h0

theorem State.stageFbLoss_kept {m : Nat} {s0 : State} {a0} {a1} (hm : Sub 562949955518464 m) (h1 : Kept m s0 a1) : Kept m s0 (State.stageFbLoss a0 a1) := by
  induction a0 generalizing a1 with
  | nil => exact h1
  | cons q rest ih =>
    unfold State.stageFbLoss
    exact kept_ite (ih (State.stage_kept (hm.sub rfl) (kept_ldg (hm.bit rfl) h1))) h1

theorem State.stageLoss_kept {m : Nat} {s0 : State} {a0} (hm : Sub 562949955518464 m) (h0 : Kept m s0 a0) : Kept m s0 (State.stageLoss a0) := by
  unfold State.stageLoss
  extract_lets -merge -useContext +onlyGivenNames s11
  have k_s11 : Kept m s0 s11 := by
    unfold s11
    refine State.stageFbLoss_kept (hm.sub rfl) ?_
    exact h0
  clear_value s11
  refine kept_ite ?_ ?_
  · refine State.stage_kept (hm.sub rfl) ?_
    refine kept_ldg (hm.bit rfl) ?_
    exact k_s11
  · exact k_s11

theorem State.offer_kept {m : Nat} {s0 : State} {a0} {a1} {a2} (hm : Sub 633318700220424 m) (h0 : Kept m s0 a0) : Kept m s0 (State.offer a0 a1 a2) := by
  unfold State.offer
  refine kept_ite ?_ ?_
  · exact h0
  · extract_lets -merge -useContext +onlyGivenNames s1
    have k_s1 : Kept m s0 s1 := by
      unfold s1
      refine State.stageLoss_kept (hm.sub rfl) ?_
      exact h0
    clear_value s1
    extract_lets -merge -useContext +onlyGivenNames payload2
    try clear_value payload2
    extract_lets -merge -useContext +onlyGivenNames key3
    try clear_value key3
    extract_lets -merge -useContext +onlyGivenNames win4
    try clear_value win4
    extract_lets -merge -useContext +onlyGivenNames near5
    try clear_value near5
    extract_lets -merge -useContext +onlyGivenNames place6
    try clear_value place6
    extract_lets -merge -useContext +onlyGivenNames place7
    have k_place7 : ∀ y0 y1, Kept m s0 (place7 y0 y1) := by
      intro y8 y9
      unfold place7
      refine kept_ite ?_ ?_
      · refine State.stage_kept (hm.sub rfl) ?_
        exact k_s1
      · refine State.raise_kept (hm.sub rfl) rfl (hm.bit rfl) ?_
        refine State.bump_kept (hm.sub rfl) rfl (hm.bit rfl) ?_
        refine kept_ldg (hm.bit rfl) ?_
        exact k_s1
    clear_value place7
    split
    · refine kept_ite ?_ ?_
      · refine State.bump_kept (hm.sub rfl) rfl (hm.bit rfl) ?_
        refine kept_ldg (hm.bit rfl) ?_
        exact k_s1
      · exact k_place7 _ _
    · split
      · refine kept_ite ?_ ?_
        · exact k_place7 _ _
        · exact k_place7 _ _
      · exact k_place7 _ _

theorem State.wearReport_kept {m : Nat} {s0 : State} {a0} {a1} {a2} {a3} (hm : Sub 633318700220424 m) (h0 : Kept m s0 a0) : Kept m s0 (State.wearReport a0 a1 a2 a3) := by
  unfold State.wearReport
  refine kept_foldl ?_ ?_
  · exact h0
  · intro x3 y1 k2
    extract_lets -merge -useContext +onlyGivenNames pct4
    try clear_value pct4
    refine kept_ite ?_ ?_
    · extract_lets -merge -useContext +onlyGivenNames s15
      have k_s15 : Kept m s0 s15 := by
        unfold s15
        refine State.offer_kept (hm.sub rfl) ?_
        refine State.raise_kept (hm.sub rfl) rfl (hm.bit rfl) ?_
        exact k2
      clear_value s15
      extract_lets -merge -useContext +onlyGivenNames s26
      have k_s26 : Kept m s0 s26 := by
        unfold s26
        refine State.event_kept (hm.sub rfl) ?_
        exact k_s15
      clear_value s26
      refine kept_ite ?_ ?_
      · refine kept_ldg (hm.bit rfl) ?_
        exact k_s26
      · exact k_s26
    · exact k2

theorem State.wearBy_kept {m : Nat} {s0 : State} {a0} {a1} (hm : Sub 633318700220424 m) (h0 : Kept m s0 a0) : Kept m s0 (State.wearBy a0 a1) := by
  unfold State.wearBy
  extract_lets -merge -useContext +onlyGivenNames r1
  try clear_value r1
  extract_lets -merge -useContext +onlyGivenNames w2
  try clear_value w2
  refine State.wearReport_kept (hm.sub rfl) ?_
  refine kept_ldg (hm.bit rfl) ?_
  exact h0

theorem State.commitOne_kept {m : Nat} {s0 : State} {a0} (hm : Sub 633318700220425 m) (h0 : Kept m s0 a0) : Kept m s0 (State.commitOne a0) := by
  unfold State.commitOne
  extract_lets -merge -useContext +onlyGivenNames l1
  try clear_value l1
  refine kept_ite ?_ ?_
  · exact h0
  · extract_lets -merge -useContext +onlyGivenNames page2
    try clear_value page2
    extract_lets -merge -useContext +onlyGivenNames fin3
    try clear_value fin3
    extract_lets -merge -useContext +onlyGivenNames gone4
    try clear_value gone4
    extract_lets -merge -useContext +onlyGivenNames left5
    try clear_value left5
    extract_lets -merge -useContext +onlyGivenNames starts6
    try clear_value starts6
    extract_lets -merge -useContext +onlyGivenNames l17
    try clear_value l17
    extract_lets -merge -useContext +onlyGivenNames s18
    have k_s18 : Kept m s0 s18 := by
      unfold s18
      refine State.setVal_kept (hm.sub rfl) rfl (hm.bit rfl) ?_
      refine State.setVal_kept (hm.sub rfl) rfl (hm.bit rfl) ?_
      refine State.bump_kept (hm.sub rfl) rfl (hm.bit rfl) ?_
      refine kept_ldg (hm.bit rfl) ?_
      exact h0
    clear_value s18
    refine kept_ite ?_ ?_
    · refine State.wearBy_kept (hm.sub rfl) ?_
      refine kept_ldg (hm.bit rfl) ?_
      exact k_s18
    · extract_lets -merge -useContext +onlyGivenNames s29
      have k_s29 : Kept m s0 s29 := by
        unfold s29
        refine State.putDev_kept (hm.sub rfl) ?_
        exact k_s18
      clear_value s29
      extract_lets -merge -useContext +onlyGivenNames info10
      try clear_value info10
      extract_lets -merge -useContext +onlyGivenNames l211
      try clear_value l211
      refine kept_ite ?_ ?_
      · extract_lets -merge -useContext +onlyGivenNames old12
        try clear_value old12
        refine State.raise_kept (hm.sub rfl) rfl (hm.bit rfl) ?_
        refine State.bump_kept (hm.sub rfl) rfl (hm.bit rfl) ?_
        refine kept_ldg (hm.bit rfl) ?_
        exact k_s29
      · refine kept_ldg (hm.bit rfl) ?_
        exact k_s29

theorem State.commitPage_kept {m : Nat} {s0 : State} {a0} (hm : Sub 633318700220425 m) (h0 : Kept m s0 a0) : Kept m s0 (State.commitPage a0) := by
  unfold State.commitPage
  extract_lets -merge -useContext +onlyGivenNames s11
  have k_s11 : Kept m s0 s11 := by
    unfold s11
    refine State.commitOne_kept (hm.sub rfl) ?_
    exact h0
  clear_value s11
  refine kept_ite ?_ ?_
  · refine State.stageLoss_kept (hm.sub rfl) ?_
    exact k_s11
  · exact k_s11

theorem State.commitPages_kept {m : Nat} {s0 : State} {a0} {a1} {a2} (hm : Sub 633318700220425 m) (h2 : Kept m s0 a2) : Kept m s0 (State.commitPages a0 a1 a2) := by
  induction a1 generalizing a2 with
  | zero => exact h2
  | succ n ih =>
    unfold State.commitPages
    exact kept_ite h2 (ih (State.commitPage_kept (hm.sub rfl) h2))

theorem State.flushJournal_kept {m : Nat} {s0 : State} {a0} (hm : Sub 633318700220425 m) (h0 : Kept m s0 a0) : Kept m s0 (State.flushJournal a0) := by
  unfold State.flushJournal
  refine State.commitPages_kept (hm.sub rfl) ?_
  exact h0

theorem State.sendMsix_kept {m : Nat} {s0 : State} {a0} {a1} (hm : Sub 16777216 m) (h0 : Kept m s0 a0) : Kept m s0 (State.sendMsix a0 a1) := by
  unfold State.sendMsix
  extract_lets -merge -useContext +onlyGivenNames ctl1
  try clear_value ctl1
  refine kept_ite ?_ ?_
  · refine kept_hif (hm.bit rfl) ?_
    exact h0
  · refine kept_hif (hm.bit rfl) ?_
    exact h0

theorem State.refreshIrq_kept {m : Nat} {s0 : State} {a0} {a1} {a2} (hm : Sub 17301504 m) (h0 : Kept m s0 a0) : Kept m s0 (State.refreshIrq a0 a1 a2) := by
  unfold State.refreshIrq
  extract_lets -merge -useContext +onlyGivenNames t1
  try clear_value t1
  extract_lets -merge -useContext +onlyGivenNames now2
  try clear_value now2
  extract_lets -merge -useContext +onlyGivenNames s13
  have k_s13 : Kept m s0 s13 := by
    unfold s13
    refine State.setTarget_kept (hm.sub rfl) ?_
    exact h0
  clear_value s13
  refine kept_ite ?_ ?_
  · refine State.sendMsix_kept (hm.sub rfl) ?_
    exact k_s13
  · exact k_s13

theorem State.takeExc_kept {m : Nat} {s0 : State} {a0} {a1} {a2} {a3} {a4} (hm : Sub 131072 m) (h0 : Kept m s0 a0) : Kept m s0 (State.takeExc a0 a1 a2 a3 a4) := by
  unfold State.takeExc
  extract_lets -merge -useContext +onlyGivenNames c1
  try clear_value c1
  refine State.setCore_kept (hm.sub rfl) ?_
  exact h0

theorem State.refuseState_kept {m : Nat} {s0 : State} {a0} {a1} {a2} (hm : Sub 633322995187720 m) (h0 : Kept m s0 a0) : Kept m s0 (State.refuseState a0 a1 a2) := by
  unfold State.refuseState
  refine State.raise_kept (hm.sub rfl) rfl (hm.bit rfl) ?_
  refine State.bump_kept (hm.sub rfl) rfl (hm.bit rfl) ?_
  refine State.offer_kept (hm.sub rfl) ?_
  exact h0

theorem State.complete_kept {m : Nat} {s0 : State} {a0} {a1} {a2} {a3} {a4} (hm : Sub 633323011964936 m) (h0 : Kept m s0 a0) : Kept m s0 (State.complete a0 a1 a2 a3 a4) := by
  unfold State.complete
  extract_lets -merge -useContext +onlyGivenNames silent1
  try clear_value silent1
  extract_lets -merge -useContext +onlyGivenNames s12
  have k_s12 : Kept m s0 s12 := by
    unfold s12
    refine kept_ite ?_ ?_
    · refine State.refuseState_kept (hm.sub rfl) ?_
      exact h0
    · exact h0
  clear_value s12
  extract_lets -merge -useContext +onlyGivenNames h3
  try clear_value h3
  refine kept_hif (hm.bit rfl) ?_
  exact k_s12

theorem State.completeDelta_kept {m : Nat} {s0 : State} {a0} {a1} {a2} {a3} {a4} (hm : Sub 633323011964936 m) (h0 : Kept m s0 a0) : Kept m s0 (State.completeDelta a0 a1 a2 a3 a4) := by
  unfold State.completeDelta
  refine kept_ite ?_ ?_
  · extract_lets -merge -useContext +onlyGivenNames silent1
    try clear_value silent1
    refine kept_ite ?_ ?_
    · refine State.complete_kept (hm.sub rfl) ?_
      exact h0
    · refine kept_hif (hm.bit rfl) ?_
      exact h0
  · refine State.complete_kept (hm.sub rfl) ?_
    exact h0

theorem State.hostCmd_kept {m : Nat} {s0 : State} {a0} {a1} {a2} {a3} {a4} {a5} {a6} (hm : Sub 633323011964936 m) (h0 : Kept m s0 a0) (h6 : ∀ y0, Kept m s0 y0 → Kept m s0 (a6 y0).1) : Kept m s0 (State.hostCmd a0 a1 a2 a3 a4 a5 a6) := by
  unfold State.hostCmd
  extract_lets -merge -useContext +onlyGivenNames s01
  try clear_value s01
  extract_lets -merge -useContext +onlyGivenNames s02
  have k_s02 : Kept m s0 s02 := by
    unfold s02
    refine kept_hif (hm.bit rfl) ?_
    exact h0
  clear_value s02
  refine kept_ite ?_ ?_
  · refine State.complete_kept (hm.sub rfl) ?_
    exact k_s02
  · refine kept_ite ?_ ?_
    · refine State.complete_kept (hm.sub rfl) ?_
      exact k_s02
    · refine kept_ite ?_ ?_
      · refine State.complete_kept (hm.sub rfl) ?_
        exact k_s02
      · split
        · rename_i z3 z4 z5 e6
          have k7 : Kept m s0 z3 := by
            refine kept_pair_fst e6 ?_
            refine h6 _ ?_
            exact k_s02
          refine kept_ite ?_ ?_
          · refine State.completeDelta_kept (hm.sub rfl) ?_
            exact k7
          · refine State.complete_kept (hm.sub rfl) ?_
            exact k7
        · rename_i z8 e9
          have k10 : Kept m s0 z8 := by
            refine kept_pair_fst e9 ?_
            refine h6 _ ?_
            exact k_s02
          exact k10

theorem State.kernelBoundary_kept {m : Nat} {s0 : State} {a0} {a1} {a2} (hm : Sub 65536 m) (h0 : Kept m s0 a0) : Kept m s0 (State.kernelBoundary a0 a1 a2) := by
  unfold State.kernelBoundary
  refine kept_ite ?_ ?_
  · refine kept_lat (hm.bit rfl) ?_
    exact h0
  · exact h0

theorem State.setMode_kept {m : Nat} {s0 : State} {a0} {a1} {a2} (hm : Sub 633322995187720 m) (h0 : Kept m s0 a0) : Kept m s0 (State.setMode a0 a1 a2) := by
  unfold State.setMode
  extract_lets -merge -useContext +onlyGivenNames info1
  try clear_value info1
  extract_lets -merge -useContext +onlyGivenNames enter2
  have k_enter2 : ∀ y0, Kept m s0 y0 → Kept m s0 (enter2 y0) := by
    intro y3 k4
    unfold enter2
    refine kept_sys (hm.bit rfl) ?_
    exact k4
  clear_value enter2
  extract_lets -merge -useContext +onlyGivenNames note5
  have k_note5 : ∀ y0, Kept m s0 y0 → Kept m s0 (note5 y0) := by
    intro y6 k7
    unfold note5
    refine State.offer_kept (hm.sub rfl) ?_
    refine State.event_kept (hm.sub rfl) ?_
    refine State.bump_kept (hm.sub rfl) rfl (hm.bit rfl) ?_
    exact k7
  clear_value note5
  refine kept_ite ?_ ?_
  · refine k_enter2 _ ?_
    refine k_note5 _ ?_
    exact h0
  · refine k_note5 _ ?_
    refine k_enter2 _ ?_
    exact h0


end Sys2Proof.Machine
end

