-- ==== Sys2Proof/Laws/KeptOperands.lean ====
section
/-!
SUPPORT. What each operation of Machine/Operands.lean may change: one lemma per operation, its mask of parts and register blocks in `hm`.
-/
namespace Sys2Proof.Machine

theorem State.offAccess_kept {m : Nat} {s0 : State} {a0} {a1} {a2} {a3} (hm : Sub 4573968372072456 m) (h0 : Kept m s0 a0) : Kept m s0 (State.offAccess a0 a1 a2 a3) := by
  unfold State.offAccess
  refine kept_ite ?_ ?_
  · refine kept_sys (hm.bit rfl) ?_
    exact h0
  · refine State.event_kept (hm.sub rfl) ?_
    refine State.setVal_kept (hm.sub rfl) rfl (hm.bit rfl) ?_
    refine State.setVal_kept (hm.sub rfl) rfl (hm.bit rfl) ?_
    refine State.bump_kept (hm.sub rfl) rfl (hm.bit rfl) ?_
    refine State.raise_kept (hm.sub rfl) rfl (hm.bit rfl) ?_
    exact h0

theorem State.accessFault_kept {m : Nat} {s0 : State} {a0} {a1} {a2} {a3} (hm : Sub 70368744833032 m) (h0 : Kept m s0 a0) : Kept m s0 (State.accessFault a0 a1 a2 a3) := by
  unfold State.accessFault
  refine State.event_kept (hm.sub rfl) ?_
  refine State.takeExc_kept (hm.sub rfl) ?_
  exact h0

theorem State.writeBy_kept {m : Nat} {s0 : State} {a0} {a1} {a2} {a3} {a4} (hm : Sub 4573968372203528 m) (h0 : Kept m s0 a0) (h4 : ∀ y0, Kept m s0 y0 → Kept m s0 (a4 y0)) : Kept m s0 (State.writeBy a0 a1 a2 a3 a4) := by
  unfold State.writeBy
  split
  · refine kept_ite ?_ ?_
    · refine State.accessFault_kept (hm.sub rfl) ?_
      exact h0
    · refine kept_ite ?_ ?_
      · refine State.offAccess_kept (hm.sub rfl) ?_
        exact h0
      · refine h4 _ ?_
        exact h0
  · refine kept_ite ?_ ?_
    · refine State.offAccess_kept (hm.sub rfl) ?_
      exact h0
    · refine h4 _ ?_
      exact h0

theorem State.answer_kept {m : Nat} {s0 : State} {a0} {a1} (hm : Sub 16777216 m) (h0 : Kept m s0 a0) : Kept m s0 (State.answer a0 a1) := by
  unfold State.answer
  refine kept_hif (hm.bit rfl) ?_
  exact h0

theorem State.readBy_kept {m : Nat} {s0 : State} {a0} {a1} {a2} {a3} (hm : Sub 4573968388980744 m) (h0 : Kept m s0 a0) (h3 : ∀ y0, Kept m s0 y0 → Kept m s0 (a3 y0)) : Kept m s0 (State.readBy a0 a1 a2 a3) := by
  unfold State.readBy
  split
  · refine kept_ite ?_ ?_
    · refine State.answer_kept (hm.sub rfl) ?_
      refine State.accessFault_kept (hm.sub rfl) ?_
      exact h0
    · refine kept_ite ?_ ?_
      · refine State.answer_kept (hm.sub rfl) ?_
        refine State.offAccess_kept (hm.sub rfl) ?_
        exact h0
      · refine h3 _ ?_
        exact h0
  · refine kept_ite ?_ ?_
    · refine State.answer_kept (hm.sub rfl) ?_
      refine State.offAccess_kept (hm.sub rfl) ?_
      exact h0
    · refine h3 _ ?_
      exact h0

theorem State.plainWrite_kept {m : Nat} {s0 : State} {a0} {a1} {a2} {a3} {k1} {k2} (hm : Sub 70368744701960 m) (b1a : a1.addr / 1048576 % 32 = k1) (b1b : m.testBit (32 + k1) = true) (b2a : a2 / 1048576 % 32 = k2) (b2b : m.testBit (32 + k2) = true) (h0 : Kept m s0 a0) : Kept m s0 (State.plainWrite a0 a1 a2 a3) := by
  unfold State.plainWrite
  split
  · exact h0
  · extract_lets -merge -useContext +onlyGivenNames new1
    try clear_value new1
    refine kept_ite ?_ ?_
    · refine State.setReg_kept (hm.sub rfl) b2a b2b ?_
      exact h0
    · refine State.cfgErr_kept (hm.sub rfl) b1a b1b ?_
      exact h0


end Sys2Proof.Machine
end

