-- ==== Sys2Proof/Laws/KeptFrontEnd.lean ====
section
/-!
SUPPORT. What each operation of Machine/FrontEnd.lean may change: one lemma per operation, its mask of parts and register blocks in `hm`.
-/
namespace Sys2Proof.Machine

theorem State.restartModulators_kept {m : Nat} {s0 : State} {a0} (hm : Sub 4096 m) (h0 : Kept m s0 a0) : Kept m s0 (State.restartModulators a0) := by
  unfold State.restartModulators
  refine kept_afe (hm.bit rfl) ?_
  exact h0

theorem State.auxStart_kept {m : Nat} {s0 : State} {a0} {a1} {a2} {a3} (hm : Sub 4096 m) (h0 : Kept m s0 a0) : Kept m s0 (State.auxStart a0 a1 a2 a3) := by
  unfold State.auxStart
  extract_lets -merge -useContext +onlyGivenNames w1
  try clear_value w1
  refine kept_afe (hm.bit rfl) ?_
  exact h0

theorem State.auxGo_kept {m : Nat} {s0 : State} {a0} {a1} (hm : Sub 4096 m) (h0 : Kept m s0 a0) : Kept m s0 (State.auxGo a0 a1) := by
  unfold State.auxGo
  extract_lets -merge -useContext +onlyGivenNames a1
  try clear_value a1
  refine kept_ite ?_ ?_
  · exact h0
  · split
    · refine State.auxStart_kept (hm.sub rfl) ?_
      exact h0
    · refine kept_ite ?_ ?_
      · refine State.auxStart_kept (hm.sub rfl) ?_
        refine kept_afe (hm.bit rfl) ?_
        exact h0
      · split
        · refine State.auxStart_kept (hm.sub rfl) ?_
          exact h0
        · refine kept_ite ?_ ?_
          · refine State.auxStart_kept (hm.sub rfl) ?_
            refine kept_afe (hm.bit rfl) ?_
            exact h0
          · exact h0

theorem State.auxMiss_kept {m : Nat} {s0 : State} {a0} {a1} {a2} (hm : Sub 72567767957512 m) (h0 : Kept m s0 a0) : Kept m s0 (State.auxMiss a0 a1 a2) := by
  unfold State.auxMiss
  refine kept_ite ?_ ?_
  · exact h0
  · refine State.raise_kept (hm.sub rfl) rfl (hm.bit rfl) ?_
    refine State.bumpBy_kept (hm.sub rfl) (ite_blk rfl rfl) (hm.bit rfl) ?_
    exact h0

theorem State.auxTrigger_kept {m : Nat} {s0 : State} {a0} {a1} {a2} {a3} (hm : Sub 72567767961608 m) (h0 : Kept m s0 a0) : Kept m s0 (State.auxTrigger a0 a1 a2 a3) := by
  unfold State.auxTrigger
  extract_lets -merge -useContext +onlyGivenNames a1
  try clear_value a1
  extract_lets -merge -useContext +onlyGivenNames copying2
  try clear_value copying2
  refine kept_ite ?_ ?_
  · exact h0
  · refine kept_ite ?_ ?_
    · refine State.auxMiss_kept (hm.sub rfl) ?_
      exact h0
    · refine kept_ite ?_ ?_
      · refine State.auxMiss_kept (hm.sub rfl) ?_
        refine kept_afe (hm.bit rfl) ?_
        exact h0
      · refine kept_ite ?_ ?_
        · refine kept_ite ?_ ?_
          · refine State.auxMiss_kept (hm.sub rfl) ?_
            exact h0
          · refine State.auxGo_kept (hm.sub rfl) ?_
            refine State.auxMiss_kept (hm.sub rfl) ?_
            refine kept_afe (hm.bit rfl) ?_
            exact h0
        · refine kept_ite ?_ ?_
          · refine State.auxMiss_kept (hm.sub rfl) ?_
            exact h0
          · refine kept_ite ?_ ?_
            · refine kept_ite ?_ ?_
              · refine State.auxMiss_kept (hm.sub rfl) ?_
                exact h0
              · refine State.auxMiss_kept (hm.sub rfl) ?_
                refine kept_afe (hm.bit rfl) ?_
                exact h0
            · refine State.auxGo_kept (hm.sub rfl) ?_
              refine State.auxMiss_kept (hm.sub rfl) ?_
              refine kept_afe (hm.bit rfl) ?_
              exact h0

theorem State.auxStop_kept {m : Nat} {s0 : State} {a0} (hm : Sub 4096 m) (h0 : Kept m s0 a0) : Kept m s0 (State.auxStop a0) := by
  unfold State.auxStop
  refine kept_ite ?_ ?_
  · exact h0
  · refine kept_ite ?_ ?_
    · refine kept_afe (hm.bit rfl) ?_
      exact h0
    · refine kept_afe (hm.bit rfl) ?_
      exact h0

theorem State.writeAuxcmd_kept {m : Nat} {s0 : State} {a0} {a1} {a2} (hm : Sub 72567767961608 m) (h0 : Kept m s0 a0) : Kept m s0 (State.writeAuxcmd a0 a1 a2) := by
  unfold State.writeAuxcmd
  extract_lets -merge -useContext +onlyGivenNames s11
  have k_s11 : Kept m s0 s11 := by
    unfold s11
    refine kept_ite ?_ ?_
    · refine State.auxTrigger_kept (hm.sub rfl) ?_
      exact h0
    · exact h0
  clear_value s11
  extract_lets -merge -useContext +onlyGivenNames s22
  have k_s22 : Kept m s0 s22 := by
    unfold s22
    refine kept_ite ?_ ?_
    · refine State.auxTrigger_kept (hm.sub rfl) ?_
      exact k_s11
    · exact k_s11
  clear_value s22
  refine kept_ite ?_ ?_
  · refine State.auxStop_kept (hm.sub rfl) ?_
    exact k_s22
  · exact k_s22

theorem State.trimGo_kept {m : Nat} {s0 : State} {a0} (hm : Sub 4096 m) (h0 : Kept m s0 a0) : Kept m s0 (State.trimGo a0) := by
  unfold State.trimGo
  split
  · refine kept_ite ?_ ?_
    · exact h0
    · refine kept_afe (hm.bit rfl) ?_
      exact h0
  · exact h0

theorem State.trimRequest_kept {m : Nat} {s0 : State} {a0} {a1} (hm : Sub 4096 m) (h0 : Kept m s0 a0) : Kept m s0 (State.trimRequest a0 a1) := by
  unfold State.trimRequest
  refine State.trimGo_kept (hm.sub rfl) ?_
  refine kept_afe (hm.bit rfl) ?_
  exact h0

theorem trimBody_kept {m : Nat} {s0 : State} {a0} {a1} (hm : Sub 4096 m) (h1 : Kept m s0 a1) : Kept m s0 ((trimBody a0 a1).1) := by
  unfold trimBody
  refine kept_ite_fst ?_ ?_
  · refine kept_mkp_fst ?_
    exact h1
  · refine kept_mkp_fst ?_
    refine State.trimRequest_kept (hm.sub rfl) ?_
    exact h1

theorem State.trimReload_kept {m : Nat} {s0 : State} {a0} {a1} (hm : Sub 633323011969032 m) (h0 : Kept m s0 a0) : Kept m s0 (State.trimReload a0 a1) := by
  unfold State.trimReload
  refine State.hostCmd_kept (hm.sub rfl) ?_ ?_
  · exact h0
  · intro y1 k2
    refine trimBody_kept (hm.sub rfl) ?_
    exact k2

theorem State.writeTrimreload_kept {m : Nat} {s0 : State} {a0} {a1} (hm : Sub 4096 m) (h0 : Kept m s0 a0) : Kept m s0 (State.writeTrimreload a0 a1) := by
  unfold State.writeTrimreload
  refine kept_ite ?_ ?_
  · refine State.trimRequest_kept (hm.sub rfl) ?_
    exact h0
  · exact h0

theorem State.copyTrim_kept {m : Nat} {s0 : State} {a0} {a1} {a2} (hm : Sub 18446744069415108616 m) (h0 : Kept m s0 a0) : Kept m s0 (State.copyTrim a0 a1 a2) := by
  unfold State.copyTrim
  extract_lets -merge -useContext +onlyGivenNames s11
  have k_s11 : Kept m s0 s11 := by
    unfold s11
    refine kept_foldl ?_ ?_
    · exact h0
    · intro x4 y2 k3
      refine State.setReg_kept (hm.sub rfl) rfl (hm.all rfl _) ?_
      exact k3
  clear_value s11
  refine kept_ite ?_ ?_
  · refine State.raise_kept (hm.sub rfl) rfl (hm.bit rfl) ?_
    exact k_s11
  · exact k_s11

theorem State.trimEnd_kept {m : Nat} {s0 : State} {a0} {a1} {a2} (hm : Sub 18446744069433987080 m) (h0 : Kept m s0 a0) : Kept m s0 (State.trimEnd a0 a1 a2) := by
  unfold State.trimEnd
  split
  · exact h0
  · refine kept_ite ?_ ?_
    · exact h0
    · extract_lets -merge -useContext +onlyGivenNames s11
      have k_s11 : Kept m s0 s11 := by
        unfold s11
        refine State.copyTrim_kept (hm.sub rfl) ?_
        exact h0
      clear_value s11
      extract_lets -merge -useContext +onlyGivenNames held2
      try clear_value held2
      extract_lets -merge -useContext +onlyGivenNames s23
      try clear_value s23
      extract_lets -merge -useContext +onlyGivenNames s24
      have k_s24 : Kept m s0 s24 := by
        unfold s24
        refine kept_afe (hm.bit rfl) ?_
        exact k_s11
      clear_value s24
      extract_lets -merge -useContext +onlyGivenNames s35
      have k_s35 : Kept m s0 s35 := by
        unfold s35
        split
        · refine State.complete_kept (hm.sub rfl) ?_
          exact k_s24
        · exact k_s24
      clear_value s35
      extract_lets -merge -useContext +onlyGivenNames s46
      have k_s46 : Kept m s0 s46 := by
        unfold s46
        refine kept_foldl ?_ ?_
        · exact k_s35
        · intro x9 y7 k8
          refine State.auxTrigger_kept (hm.sub rfl) ?_
          exact k8
      clear_value s46
      refine kept_foldl ?_ ?_
      · exact k_s46
      · intro x12 y10 k11
        refine State.auxTrigger_kept (hm.sub rfl) ?_
        exact k11

theorem State.auxResult_kept {m : Nat} {s0 : State} {a0} {a1} {a2} (hm : Sub 72567767961608 m) (h0 : Kept m s0 a0) : Kept m s0 (State.auxResult a0 a1 a2) := by
  unfold State.auxResult
  extract_lets -merge -useContext +onlyGivenNames old1
  try clear_value old1
  extract_lets -merge -useContext +onlyGivenNames ovr2
  try clear_value ovr2
  extract_lets -merge -useContext +onlyGivenNames v3
  try clear_value v3
  extract_lets -merge -useContext +onlyGivenNames inj4
  try clear_value inj4
  extract_lets -merge -useContext +onlyGivenNames s15
  try clear_value s15
  extract_lets -merge -useContext +onlyGivenNames s16
  have k_s16 : Kept m s0 s16 := by
    unfold s16
    refine kept_afe (hm.bit rfl) ?_
    exact h0
  clear_value s16
  extract_lets -merge -useContext +onlyGivenNames s27
  have k_s27 : Kept m s0 s27 := by
    unfold s27
    refine State.bump_kept (hm.sub rfl) rfl (hm.bit rfl) ?_
    refine State.setVal_kept (hm.sub rfl) rfl (hm.bit rfl) ?_
    exact k_s16
  clear_value s27
  extract_lets -merge -useContext +onlyGivenNames s38
  have k_s38 : Kept m s0 s38 := by
    unfold s38
    refine kept_ite ?_ ?_
    · refine State.raise_kept (hm.sub rfl) rfl (hm.bit rfl) ?_
      refine State.bump_kept (hm.sub rfl) rfl (hm.bit rfl) ?_
      exact k_s27
    · exact k_s27
  clear_value s38
  refine kept_ite ?_ ?_
  · refine State.event_kept (hm.sub rfl) ?_
    exact k_s38
  · exact k_s38

theorem State.auxSeqEnd_kept {m : Nat} {s0 : State} {a0} {a1} (hm : Sub 70368744701960 m) (h0 : Kept m s0 a0) : Kept m s0 (State.auxSeqEnd a0 a1) := by
  unfold State.auxSeqEnd
  refine kept_ite ?_ ?_
  · refine State.event_kept (hm.sub rfl) ?_
    exact h0
  · exact h0

theorem State.auxAdvance_kept {m : Nat} {s0 : State} {a0} {a1} (hm : Sub 70368744706056 m) (h0 : Kept m s0 a0) : Kept m s0 (State.auxAdvance a0 a1) := by
  unfold State.auxAdvance
  extract_lets -merge -useContext +onlyGivenNames cfg1
  try clear_value cfg1
  refine kept_ite ?_ ?_
  · refine kept_ite ?_ ?_
    · refine kept_afe (hm.bit rfl) ?_
      exact h0
    · refine State.auxSeqEnd_kept (hm.sub rfl) ?_
      refine kept_afe (hm.bit rfl) ?_
      exact h0
  · refine kept_ite ?_ ?_
    · refine kept_afe (hm.bit rfl) ?_
      exact h0
    · refine State.auxSeqEnd_kept (hm.sub rfl) ?_
      refine kept_afe (hm.bit rfl) ?_
      exact h0

theorem State.auxStopped_kept {m : Nat} {s0 : State} {a0} (hm : Sub 4096 m) (h0 : Kept m s0 a0) : Kept m s0 (State.auxStopped a0) := by
  unfold State.auxStopped
  refine kept_ite ?_ ?_
  · refine kept_afe (hm.bit rfl) ?_
    exact h0
  · exact h0

theorem State.auxEnd_kept {m : Nat} {s0 : State} {a0} {a1} {a2} (hm : Sub 72567767961608 m) (h0 : Kept m s0 a0) : Kept m s0 (State.auxEnd a0 a1 a2) := by
  unfold State.auxEnd
  split
  · exact h0
  · extract_lets -merge -useContext +onlyGivenNames s11
    try clear_value s11
    extract_lets -merge -useContext +onlyGivenNames s12
    have k_s12 : Kept m s0 s12 := by
      unfold s12
      refine State.auxResult_kept (hm.sub rfl) ?_
      refine kept_afe (hm.bit rfl) ?_
      exact h0
    clear_value s12
    refine State.auxGo_kept (hm.sub rfl) ?_
    refine State.trimGo_kept (hm.sub rfl) ?_
    refine State.auxStopped_kept (hm.sub rfl) ?_
    refine State.auxAdvance_kept (hm.sub rfl) ?_
    exact k_s12

theorem State.readAuxdata_kept {m : Nat} {s0 : State} {a0} {a1} (hm : Sub 2199040036864 m) (h0 : Kept m s0 a0) : Kept m s0 (State.readAuxdata a0 a1) := by
  unfold State.readAuxdata
  extract_lets -merge -useContext +onlyGivenNames v1
  try clear_value v1
  extract_lets -merge -useContext +onlyGivenNames s12
  try clear_value s12
  extract_lets -merge -useContext +onlyGivenNames s13
  have k_s13 : Kept m s0 s13 := by
    unfold s13
    refine kept_afe (hm.bit rfl) ?_
    exact h0
  clear_value s13
  refine State.answer_kept (hm.sub rfl) ?_
  refine State.setVal_kept (hm.sub rfl) rfl (hm.bit rfl) ?_
  exact k_s13

theorem State.auxAbandon_kept {m : Nat} {s0 : State} {a0} (hm : Sub 70368744706056 m) (h0 : Kept m s0 a0) : Kept m s0 (State.auxAbandon a0) := by
  unfold State.auxAbandon
  split
  · exact h0
  · refine State.trimGo_kept (hm.sub rfl) ?_
    refine State.auxStopped_kept (hm.sub rfl) ?_
    refine State.auxAdvance_kept (hm.sub rfl) ?_
    refine kept_afe (hm.bit rfl) ?_
    exact h0

theorem State.afeGate_kept {m : Nat} {s0 : State} {a0} (hm : Sub 4096 m) (h0 : Kept m s0 a0) : Kept m s0 (State.afeGate a0) := by
  unfold State.afeGate
  refine State.trimGo_kept (hm.sub rfl) ?_
  refine kept_afe (hm.bit rfl) ?_
  exact h0

theorem State.modUnlock_kept {m : Nat} {s0 : State} {a0} (hm : Sub 72567767961608 m) (h0 : Kept m s0 a0) : Kept m s0 (State.modUnlock a0) := by
  unfold State.modUnlock
  refine State.raise_kept (hm.sub rfl) rfl (hm.bit rfl) ?_
  refine State.auxAbandon_kept (hm.sub rfl) ?_
  refine State.restartModulators_kept (hm.sub rfl) ?_
  refine kept_afe (hm.bit rfl) ?_
  exact h0

theorem State.writeMchen_kept {m : Nat} {s0 : State} {a0} {a1} (hm : Sub 72567767961608 m) (h0 : Kept m s0 a0) : Kept m s0 (State.writeMchen a0 a1) := by
  unfold State.writeMchen
  extract_lets -merge -useContext +onlyGivenNames old1
  try clear_value old1
  extract_lets -merge -useContext +onlyGivenNames s12
  have k_s12 : Kept m s0 s12 := by
    unfold s12
    refine State.plainWrite_kept (hm.sub rfl) rfl (hm.bit rfl) rfl (hm.bit rfl) ?_
    exact h0
  clear_value s12
  extract_lets -merge -useContext +onlyGivenNames new3
  try clear_value new3
  refine kept_afe (hm.bit rfl) ?_
  exact k_s12

theorem State.writeAuxcfg_kept {m : Nat} {s0 : State} {a0} {a1} (hm : Sub 72567767957512 m) (h0 : Kept m s0 a0) : Kept m s0 (State.writeAuxcfg a0 a1) := by
  unfold State.writeAuxcfg
  refine kept_ite ?_ ?_
  · refine State.cfgErr_kept (hm.sub rfl) rfl (hm.bit rfl) ?_
    exact h0
  · refine State.plainWrite_kept (hm.sub rfl) rfl (hm.bit rfl) rfl (hm.bit rfl) ?_
    exact h0

theorem execModPllUnlock_kept {m : Nat} {a0} {a1} {t : State} (hm : Sub 72567767961612 m) (h : execModPllUnlock a0 a1 = .next t) : Kept m a1 t := by
  rw [liveAt_next h]
  have h1 : ∀ n, Kept m a1 (a1.advanceNs n) := fun _ => State.advanceNs_kept (hm.sub rfl) kept_refl
  refine kept_ite ?_ ?_
  · refine State.modUnlock_kept (hm.sub rfl) ?_
    exact (h1 _)
  · exact (h1 _)

theorem State.modRelock_kept {m : Nat} {s0 : State} {a0} {a1} (hm : Sub 4096 m) (h0 : Kept m s0 a0) : Kept m s0 (State.modRelock a0 a1) := by
  unfold State.modRelock
  refine State.auxGo_kept (hm.sub rfl) ?_
  refine State.restartModulators_kept (hm.sub rfl) ?_
  refine kept_afe (hm.bit rfl) ?_
  exact h0

theorem execModulatorOverload_kept {m : Nat} {a0} {a1} {a2} {t : State} (hm : Sub 72567767961612 m) (h : execModulatorOverload a0 a1 a2 = .next t) : Kept m a2 t := by
  rw [liveAt_next h]
  have h2 : ∀ n, Kept m a2 (a2.advanceNs n) := fun _ => State.advanceNs_kept (hm.sub rfl) kept_refl
  refine kept_ite ?_ ?_
  · exact (h2 _)
  · refine State.raise_kept (hm.sub rfl) rfl (hm.bit rfl) ?_
    refine State.bump_kept (hm.sub rfl) (show _ / 1048576 % 32 = 9 by unfold Reg.AFE_MCHcOVLCNT; omega) (hm.bit rfl) ?_
    refine kept_afe (hm.bit rfl) ?_
    exact (h2 _)

theorem execModulatorSettled_kept {m : Nat} {a0} {a1} {a2} {t : State} (hm : Sub 4100 m) (h : execModulatorSettled a0 a1 a2 = .next t) : Kept m a2 t := by
  rw [liveAt_next h]
  have h2 : ∀ n, Kept m a2 (a2.advanceNs n) := fun _ => State.advanceNs_kept (hm.sub rfl) kept_refl
  refine kept_ite ?_ ?_
  · exact (h2 _)
  · refine kept_afe (hm.bit rfl) ?_
    exact (h2 _)

theorem execRstart_kept {m : Nat} {a0} {a1} {a2} {a3} {t : State} (hm : Sub 4576167395463180 m) (h : execRstart a0 a1 a2 a3 = .next t) : Kept m a3 t := by
  rw [liveAt_next h]
  have h3 : ∀ n, Kept m a3 (a3.advanceNs n) := fun _ => State.advanceNs_kept (hm.sub rfl) kept_refl
  refine State.writeBy_kept (hm.sub rfl) ?_ ?_
  · exact (h3 _)
  · intro y1 k2
    refine State.writeAuxcmd_kept (hm.sub rfl) ?_
    exact k2

theorem execIstart_kept {m : Nat} {a0} {a1} {a2} {a3} {t : State} (hm : Sub 4576167395463180 m) (h : execIstart a0 a1 a2 a3 = .next t) : Kept m a3 t := by
  rw [liveAt_next h]
  have h3 : ∀ n, Kept m a3 (a3.advanceNs n) := fun _ => State.advanceNs_kept (hm.sub rfl) kept_refl
  refine State.writeBy_kept (hm.sub rfl) ?_ ?_
  · exact (h3 _)
  · intro y1 k2
    refine State.writeAuxcmd_kept (hm.sub rfl) ?_
    exact k2

theorem execRstop_kept {m : Nat} {a0} {a1} {a2} {t : State} (hm : Sub 4576167395463180 m) (h : execRstop a0 a1 a2 = .next t) : Kept m a2 t := by
  rw [liveAt_next h]
  have h2 : ∀ n, Kept m a2 (a2.advanceNs n) := fun _ => State.advanceNs_kept (hm.sub rfl) kept_refl
  refine State.writeBy_kept (hm.sub rfl) ?_ ?_
  · exact (h2 _)
  · intro y1 k2
    refine State.writeAuxcmd_kept (hm.sub rfl) ?_
    exact k2

theorem execAuxConversionEnd_kept {m : Nat} {a0} {a1} {a2} {a3} {t : State} (hm : Sub 72567767961612 m) (h : execAuxConversionEnd a0 a1 a2 a3 = .next t) : Kept m a3 t := by
  rw [liveAt_next h]
  have h3 : ∀ n, Kept m a3 (a3.advanceNs n) := fun _ => State.advanceNs_kept (hm.sub rfl) kept_refl
  refine State.auxEnd_kept (hm.sub rfl) ?_
  exact (h3 _)

theorem execAuxdataRead_kept {m : Nat} {a0} {a1} {t : State} (hm : Sub 4576167412240392 m) (h : execAuxdataRead a0 a1 = .next t) : Kept m a1 t := by
  rw [live_next h]
  have h1 : Kept m a1 a1 := kept_refl
  refine State.readBy_kept (hm.sub rfl) ?_ ?_
  · exact h1
  · intro y1 k2
    refine State.readAuxdata_kept (hm.sub rfl) ?_
    exact k2

theorem execTrimReload_kept {m : Nat} {a0} {a1} {t : State} (hm : Sub 5136922639470600 m) (h : execTrimReload a0 a1 = .next t) : Kept m a1 t := by
  rw [live_next h]
  have h1 : Kept m a1 a1 := kept_refl
  split
  · refine State.trimReload_kept (hm.sub rfl) ?_
    exact h1
  · refine State.writeBy_kept (hm.sub rfl) ?_ ?_
    · exact h1
    · intro y1 k2
      refine State.writeTrimreload_kept (hm.sub rfl) ?_
      exact k2

theorem execTrimCopyEnd_kept {m : Nat} {a0} {a1} {a2} {a3} {t : State} (hm : Sub 18446744069433987084 m) (h : execTrimCopyEnd a0 a1 a2 a3 = .next t) : Kept m a3 t := by
  rw [liveAt_next h]
  have h3 : ∀ n, Kept m a3 (a3.advanceNs n) := fun _ => State.advanceNs_kept (hm.sub rfl) kept_refl
  refine State.trimEnd_kept (hm.sub rfl) ?_
  exact (h3 _)


end Sys2Proof.Machine
end

