-- ==== Sys2Proof/Laws/KeptLedger.lean ====
section
/-!
SUPPORT. What each operation of Machine/Ledger.lean may change: one lemma per operation, its mask of parts and register blocks in `hm`.
-/
namespace Sys2Proof.Machine

theorem State.setCState_kept {m : Nat} {s0 : State} {a0} {a1} (hm : Sub 70368746799112 m) (h0 : Kept m s0 a0) : Kept m s0 (State.setCState a0 a1) := by
  unfold State.setCState
  refine State.event_kept (hm.sub rfl) ?_
  refine kept_ldg (hm.bit rfl) ?_
  exact h0

theorem State.completeLedger_kept {m : Nat} {s0 : State} {a0} {a1} (hm : Sub 633323011964936 m) (h0 : Kept m s0 a0) : Kept m s0 (State.completeLedger a0 a1) := by
  unfold State.completeLedger
  split
  · refine State.complete_kept (hm.sub rfl) ?_
    refine kept_ldg (hm.bit rfl) ?_
    exact h0
  · exact h0

theorem State.lcPwr_kept {m : Nat} {s0 : State} {a0} {a1} (hm : Sub 10485760 m) (h0 : Kept m s0 a0) : Kept m s0 (State.lcPwr a0 a1) := by
  unfold State.lcPwr
  refine kept_mk ?_ (.inr rfl) (.inr rfl) (.inr rfl) (.inr rfl) (.inr rfl) (.inr rfl) (.inr rfl) (.inr rfl) (.inr rfl) (.inr rfl) (.inr rfl) (.inr rfl) (.inr rfl) (.inr rfl) (.inr rfl) (.inr rfl) (.inr rfl) (.inr rfl) (.inr rfl) (.inl (hm.bit rfl)) (.inr rfl) (.inl (hm.bit rfl)) (.inr rfl) (.inr rfl) (.inr rfl) (.inr rfl)
  exact h0

theorem State.failAttach_kept {m : Nat} {s0 : State} {a0} {a1} (hm : Sub 633323020353544 m) (h0 : Kept m s0 a0) : Kept m s0 (State.failAttach a0 a1) := by
  unfold State.failAttach
  refine State.completeLedger_kept (hm.sub rfl) ?_
  refine State.setCState_kept (hm.sub rfl) ?_
  refine State.lcPwr_kept (hm.sub rfl) ?_
  refine kept_ldg (hm.bit rfl) ?_
  exact h0

theorem State.beginAttach_kept {m : Nat} {s0 : State} {a0} (hm : Sub 70368755187720 m) (h0 : Kept m s0 a0) : Kept m s0 (State.beginAttach a0) := by
  unfold State.beginAttach
  refine State.setCState_kept (hm.sub rfl) ?_
  refine State.lcPwr_kept (hm.sub rfl) ?_
  refine kept_ldg (hm.bit rfl) ?_
  exact h0

theorem State.replay_kept {m : Nat} {s0 : State} {a0} (hm : Sub 562949955518464 m) (h0 : Kept m s0 a0) : Kept m s0 (State.replay a0) := by
  unfold State.replay
  extract_lets -merge -useContext +onlyGivenNames cart1
  try clear_value cart1
  extract_lets -merge -useContext +onlyGivenNames pages2
  try clear_value pages2
  extract_lets -merge -useContext +onlyGivenNames nums3
  try clear_value nums3
  split
  · exact h0
  · extract_lets -merge -useContext +onlyGivenNames start4
    try clear_value start4
    extract_lets -merge -useContext +onlyGivenNames run5
    try clear_value run5
    extract_lets -merge -useContext +onlyGivenNames stream6
    try clear_value stream6
    extract_lets -merge -useContext +onlyGivenNames firsts7
    try clear_value firsts7
    extract_lets -merge -useContext +onlyGivenNames res8
    try clear_value res8
    extract_lets -merge -useContext +onlyGivenNames bad9
    try clear_value bad9
    extract_lets -merge -useContext +onlyGivenNames top10
    try clear_value top10
    refine State.bumpBy_kept (hm.sub rfl) rfl (hm.bit rfl) ?_
    refine kept_ldg (hm.bit rfl) ?_
    exact h0

theorem State.readIdentity_kept {m : Nat} {s0 : State} {a0} {a1} (hm : Sub 633323020353544 m) (h0 : Kept m s0 a0) : Kept m s0 (State.readIdentity a0 a1) := by
  unfold State.readIdentity
  split
  · refine State.failAttach_kept (hm.sub rfl) ?_
    exact h0
  · refine kept_ite ?_ ?_
    · refine State.failAttach_kept (hm.sub rfl) ?_
      refine State.raise_kept (hm.sub rfl) rfl (hm.bit rfl) ?_
      exact h0
    · refine kept_ite ?_ ?_
      · refine State.failAttach_kept (hm.sub rfl) ?_
        refine State.bump_kept (hm.sub rfl) rfl (hm.bit rfl) ?_
        refine State.raise_kept (hm.sub rfl) rfl (hm.bit rfl) ?_
        exact h0
      · extract_lets -merge -useContext +onlyGivenNames format1
        try clear_value format1
        refine kept_ite ?_ ?_
        · refine State.failAttach_kept (hm.sub rfl) ?_
          refine State.raise_kept (hm.sub rfl) rfl (hm.bit rfl) ?_
          exact h0
        · extract_lets -merge -useContext +onlyGivenNames blank2
          try clear_value blank2
          extract_lets -merge -useContext +onlyGivenNames content3
          try clear_value content3
          extract_lets -merge -useContext +onlyGivenNames s14
          try clear_value s14
          extract_lets -merge -useContext +onlyGivenNames s15
          have k_s15 : Kept m s0 s15 := by
            unfold s15
            refine kept_ldg (hm.bit rfl) ?_
            exact h0
          clear_value s15
          extract_lets -merge -useContext +onlyGivenNames s26
          have k_s26 : Kept m s0 s26 := by
            unfold s26
            refine State.setVal_kept (hm.sub rfl) (show _ / 1048576 % 32 = 17 by unfold Reg.LDG_CIDk; omega) (hm.bit rfl) ?_
            refine State.setVal_kept (hm.sub rfl) (show _ / 1048576 % 32 = 17 by unfold Reg.LDG_CIDk; omega) (hm.bit rfl) ?_
            refine State.setVal_kept (hm.sub rfl) (show _ / 1048576 % 32 = 17 by unfold Reg.LDG_CIDk; omega) (hm.bit rfl) ?_
            refine State.setVal_kept (hm.sub rfl) (show _ / 1048576 % 32 = 17 by unfold Reg.LDG_CIDk; omega) (hm.bit rfl) ?_
            exact k_s15
          clear_value s26
          extract_lets -merge -useContext +onlyGivenNames s37
          have k_s37 : Kept m s0 s37 := by
            unfold s37
            refine State.setVal_kept (hm.sub rfl) rfl (hm.bit rfl) ?_
            exact k_s26
          clear_value s37
          extract_lets -merge -useContext +onlyGivenNames s48
          have k_s48 : Kept m s0 s48 := by
            unfold s48
            refine State.wearReport_kept (hm.sub rfl) ?_
            exact k_s37
          clear_value s48
          refine kept_ite ?_ ?_
          · refine State.replay_kept (hm.sub rfl) ?_
            exact k_s48
          · exact k_s48

theorem State.loseSave_kept {m : Nat} {s0 : State} {a0} (hm : Sub 79164839837704 m) (h0 : Kept m s0 a0) : Kept m s0 (State.loseSave a0) := by
  unfold State.loseSave
  split
  · extract_lets -merge -useContext +onlyGivenNames a1
    try clear_value a1
    refine State.raise_kept (hm.sub rfl) rfl (hm.bit rfl) ?_
    refine kept_mk ?_ (.inr rfl) (.inr rfl) (.inr rfl) (.inr rfl) (.inr rfl) (.inr rfl) (.inr rfl) (.inr rfl) (.inr rfl) (.inr rfl) (.inr rfl) (.inr rfl) (.inl (hm.bit rfl)) (.inr rfl) (.inr rfl) (.inr rfl) (.inr rfl) (.inr rfl) (.inr rfl) (.inl (hm.bit rfl)) (.inr rfl) (.inr rfl) (.inr rfl) (.inr rfl) (.inr rfl) (.inr rfl)
    exact h0
  · exact h0

theorem State.reseed_kept {m : Nat} {s0 : State} {a0} (hm : Sub 633323016159240 m) (h0 : Kept m s0 a0) : Kept m s0 (State.reseed a0) := by
  unfold State.reseed
  split
  · extract_lets -merge -useContext +onlyGivenNames l1
    try clear_value l1
    extract_lets -merge -useContext +onlyGivenNames c12
    try clear_value c12
    extract_lets -merge -useContext +onlyGivenNames c23
    try clear_value c23
    extract_lets -merge -useContext +onlyGivenNames c34
    try clear_value c34
    extract_lets -merge -useContext +onlyGivenNames c45
    try clear_value c45
    extract_lets -merge -useContext +onlyGivenNames bytes6
    try clear_value bytes6
    extract_lets -merge -useContext +onlyGivenNames s17
    have k_s17 : Kept m s0 s17 := by
      unfold s17
      refine State.wearBy_kept (hm.sub rfl) ?_
      refine kept_ldg (hm.bit rfl) ?_
      exact h0
    clear_value s17
    extract_lets -merge -useContext +onlyGivenNames s28
    have k_s28 : Kept m s0 s28 := by
      unfold s28
      refine State.setCState_kept (hm.sub rfl) ?_
      refine State.bump_kept (hm.sub rfl) rfl (hm.bit rfl) ?_
      exact k_s17
    clear_value s28
    extract_lets -merge -useContext +onlyGivenNames s39
    have k_s39 : Kept m s0 s39 := by
      unfold s39
      refine State.offer_kept (hm.sub rfl) ?_
      exact k_s28
    clear_value s39
    extract_lets -merge -useContext +onlyGivenNames s410
    try clear_value s410
    extract_lets -merge -useContext +onlyGivenNames s411
    try clear_value s411
    extract_lets -merge -useContext +onlyGivenNames s412
    have k_s412 : Kept m s0 s412 := by
      unfold s412
      refine kept_mk ?_ (.inr rfl) (.inr rfl) (.inr rfl) (.inr rfl) (.inr rfl) (.inr rfl) (.inr rfl) (.inr rfl) (.inr rfl) (.inr rfl) (.inr rfl) (.inr rfl) (.inr rfl) (.inr rfl) (.inr rfl) (.inr rfl) (.inr rfl) (.inr rfl) (.inr rfl) (.inl (hm.bit rfl)) (.inl (hm.bit rfl)) (.inr rfl) (.inr rfl) (.inr rfl) (.inr rfl) (.inr rfl)
      exact k_s39
    clear_value s412
    refine State.completeLedger_kept (hm.sub rfl) ?_
    exact k_s412
  · exact h0

theorem State.surprise_kept {m : Nat} {s0 : State} {a0} (hm : Sub 642119113392136 m) (h0 : Kept m s0 a0) : Kept m s0 (State.surprise a0) := by
  unfold State.surprise
  extract_lets -merge -useContext +onlyGivenNames ej1
  try clear_value ej1
  extract_lets -merge -useContext +onlyGivenNames s12
  have k_s12 : Kept m s0 s12 := by
    unfold s12
    refine State.setCState_kept (hm.sub rfl) ?_
    refine State.lcPwr_kept (hm.sub rfl) ?_
    refine State.loseSave_kept (hm.sub rfl) ?_
    refine State.raise_kept (hm.sub rfl) rfl (hm.bit rfl) ?_
    exact h0
  clear_value s12
  extract_lets -merge -useContext +onlyGivenNames s23
  try clear_value s23
  extract_lets -merge -useContext +onlyGivenNames s24
  have k_s24 : Kept m s0 s24 := by
    unfold s24
    refine kept_ldg (hm.bit rfl) ?_
    exact k_s12
  clear_value s24
  refine kept_ite ?_ ?_
  · refine State.completeLedger_kept (hm.sub rfl) ?_
    exact k_s24
  · exact k_s24

theorem State.flush_kept {m : Nat} {s0 : State} {a0} (hm : Sub 642119113392137 m) (h0 : Kept m s0 a0) : Kept m s0 (State.flush a0) := by
  unfold State.flush
  refine State.flushJournal_kept (hm.sub rfl) ?_
  refine kept_ite ?_ ?_
  · refine State.surprise_kept (hm.sub rfl) ?_
    exact h0
  · exact h0

theorem State.stageSeal_kept {m : Nat} {s0 : State} {a0} (hm : Sub 562949955518464 m) (h0 : Kept m s0 a0) : Kept m s0 (State.stageSeal a0) := by
  unfold State.stageSeal
  extract_lets -merge -useContext +onlyGivenNames l1
  try clear_value l1
  extract_lets -merge -useContext +onlyGivenNames lastSeq2
  try clear_value lastSeq2
  extract_lets -merge -useContext +onlyGivenNames endPos3
  try clear_value endPos3
  extract_lets -merge -useContext +onlyGivenNames page4
  try clear_value page4
  extract_lets -merge -useContext +onlyGivenNames s15
  have k_s15 : Kept m s0 s15 := by
    unfold s15
    refine State.stage_kept (hm.sub rfl) ?_
    exact h0
  clear_value s15
  extract_lets -merge -useContext +onlyGivenNames fin6
  try clear_value fin6
  refine kept_ldg (hm.bit rfl) ?_
  exact k_s15

theorem State.poll_kept {m : Nat} {s0 : State} {a0} {a1} (hm : Sub 642119113392136 m) (h0 : Kept m s0 a0) : Kept m s0 (State.poll a0 a1) := by
  unfold State.poll
  extract_lets -merge -useContext +onlyGivenNames l1
  try clear_value l1
  refine kept_ite ?_ ?_
  · extract_lets -merge -useContext +onlyGivenNames s12
    have k_s12 : Kept m s0 s12 := by
      unfold s12
      refine kept_ldg (hm.bit rfl) ?_
      exact h0
    clear_value s12
    refine kept_ite ?_ ?_
    · exact k_s12
    · refine State.event_kept (hm.sub rfl) ?_
      exact k_s12
  · extract_lets -merge -useContext +onlyGivenNames n3
    try clear_value n3
    extract_lets -merge -useContext +onlyGivenNames s14
    have k_s14 : Kept m s0 s14 := by
      unfold s14
      refine kept_ldg (hm.bit rfl) ?_
      exact h0
    clear_value s14
    refine kept_ite ?_ ?_
    · exact k_s14
    · extract_lets -merge -useContext +onlyGivenNames s25
      try clear_value s25
      extract_lets -merge -useContext +onlyGivenNames s26
      have k_s26 : Kept m s0 s26 := by
        unfold s26
        refine kept_ite ?_ ?_
        · refine State.event_kept (hm.sub rfl) ?_
          refine kept_ldg (hm.bit rfl) ?_
          exact k_s14
        · exact k_s14
      clear_value s26
      split
      · refine State.surprise_kept (hm.sub rfl) ?_
        exact k_s26
      · refine State.surprise_kept (hm.sub rfl) ?_
        exact k_s26
      · refine State.setCState_kept (hm.sub rfl) ?_
        refine kept_ldg (hm.bit rfl) ?_
        exact k_s26
      · exact k_s26
      · exact k_s26

theorem acceptBody_kept {m : Nat} {s0 : State} {a0} {a1} (hm : Sub 70368755187720 m) (h1 : Kept m s0 a1) : Kept m s0 ((acceptBody a0 a1).1) := by
  unfold acceptBody
  split
  · refine kept_mkp_fst ?_
    exact h1
  · refine kept_mkp_fst ?_
    exact h1
  · refine kept_mkp_fst ?_
    exact h1
  · refine kept_ite_fst ?_ ?_
    · refine kept_mkp_fst ?_
      exact h1
    · refine kept_mkp_fst ?_
      refine State.beginAttach_kept (hm.sub rfl) ?_
      refine kept_ldg (hm.bit rfl) ?_
      exact h1

theorem State.ledgerAccept_kept {m : Nat} {s0 : State} {a0} {a1} (hm : Sub 633323020353544 m) (h0 : Kept m s0 a0) : Kept m s0 (State.ledgerAccept a0 a1) := by
  unfold State.ledgerAccept
  refine State.hostCmd_kept (hm.sub rfl) ?_ ?_
  · exact h0
  · intro y1 k2
    refine acceptBody_kept (hm.sub rfl) ?_
    exact k2

theorem execLedgerAccept_kept {m : Nat} {a0} {a1} {t : State} (hm : Sub 633323020353544 m) (h : execLedgerAccept a0 a1 = .next t) : Kept m a1 t := by
  rw [live_next h]
  have h1 : Kept m a1 a1 := kept_refl
  refine State.ledgerAccept_kept (hm.sub rfl) ?_
  exact h1

theorem ejectBody_kept {m : Nat} {s0 : State} {a0} {a1} (hm : Sub 642114793259016 m) (h1 : Kept m s0 a1) : Kept m s0 ((ejectBody a0 a1).1) := by
  unfold ejectBody
  split
  · refine kept_mkp_fst ?_
    exact h1
  · refine kept_mkp_fst ?_
    exact h1
  · refine kept_mkp_fst ?_
    exact h1
  · refine kept_mkp_fst ?_
    exact h1
  · extract_lets -merge -useContext +onlyGivenNames s01
    have k_s01 : Kept m s0 s01 := by
      unfold s01
      refine State.loseSave_kept (hm.sub rfl) ?_
      exact h1
    clear_value s01
    extract_lets -merge -useContext +onlyGivenNames s12
    try clear_value s12
    extract_lets -merge -useContext +onlyGivenNames s13
    have k_s13 : Kept m s0 s13 := by
      unfold s13
      refine kept_ldg (hm.bit rfl) ?_
      exact k_s01
    clear_value s13
    refine kept_mkp_fst ?_
    refine State.setCState_kept (hm.sub rfl) ?_
    refine State.stageSeal_kept (hm.sub rfl) ?_
    exact k_s13

theorem State.ledgerEject_kept {m : Nat} {s0 : State} {a0} {a1} (hm : Sub 642119105003528 m) (h0 : Kept m s0 a0) : Kept m s0 (State.ledgerEject a0 a1) := by
  unfold State.ledgerEject
  refine State.hostCmd_kept (hm.sub rfl) ?_ ?_
  · exact h0
  · intro y1 k2
    refine ejectBody_kept (hm.sub rfl) ?_
    exact k2

theorem execLedgerEject_kept {m : Nat} {a0} {a1} {t : State} (hm : Sub 642119105003528 m) (h : execLedgerEject a0 a1 = .next t) : Kept m a1 t := by
  rw [live_next h]
  have h1 : Kept m a1 a1 := kept_refl
  refine State.ledgerEject_kept (hm.sub rfl) ?_
  exact h1

theorem execIdentityPoll_kept {m : Nat} {a0} {a1} {a2} {t : State} (hm : Sub 642119113392140 m) (h : execIdentityPoll a0 a1 a2 = .next t) : Kept m a2 t := by
  rw [liveAt_next h]
  have h2 : ∀ n, Kept m a2 (a2.advanceNs n) := fun _ => State.advanceNs_kept (hm.sub rfl) kept_refl
  refine kept_ite ?_ ?_
  · exact (h2 _)
  · refine State.poll_kept (hm.sub rfl) ?_
    exact (h2 _)

theorem execIdentityRead_kept {m : Nat} {a0} {a1} {a2} {t : State} (hm : Sub 633323020353548 m) (h : execIdentityRead a0 a1 a2 = .next t) : Kept m a2 t := by
  rw [liveAt_next h]
  have h2 : ∀ n, Kept m a2 (a2.advanceNs n) := fun _ => State.advanceNs_kept (hm.sub rfl) kept_refl
  refine kept_ite ?_ ?_
  · refine State.readIdentity_kept (hm.sub rfl) ?_
    exact (h2 _)
  · exact (h2 _)

theorem execReseedComplete_kept {m : Nat} {a0} {a1} {t : State} (hm : Sub 633323016159244 m) (h : execReseedComplete a0 a1 = .next t) : Kept m a1 t := by
  rw [liveAt_next h]
  have h1 : ∀ n, Kept m a1 (a1.advanceNs n) := fun _ => State.advanceNs_kept (hm.sub rfl) kept_refl
  refine State.reseed_kept (hm.sub rfl) ?_
  exact (h1 _)

theorem State.sealed_kept {m : Nat} {s0 : State} {a0} (hm : Sub 633323020353545 m) (h0 : Kept m s0 a0) : Kept m s0 (State.sealed a0) := by
  unfold State.sealed
  extract_lets -merge -useContext +onlyGivenNames s11
  have k_s11 : Kept m s0 s11 := by
    unfold s11
    refine State.flushJournal_kept (hm.sub rfl) ?_
    exact h0
  clear_value s11
  extract_lets -merge -useContext +onlyGivenNames page2
  try clear_value page2
  extract_lets -merge -useContext +onlyGivenNames cid3
  try clear_value cid3
  extract_lets -merge -useContext +onlyGivenNames s24
  try clear_value s24
  extract_lets -merge -useContext +onlyGivenNames s25
  have k_s25 : Kept m s0 s25 := by
    unfold s25
    refine kept_ldg (hm.bit rfl) ?_
    exact k_s11
  clear_value s25
  refine State.completeLedger_kept (hm.sub rfl) ?_
  refine State.setCState_kept (hm.sub rfl) ?_
  refine State.lcPwr_kept (hm.sub rfl) ?_
  exact k_s25

theorem execSealCommitted_kept {m : Nat} {a0} {a1} {t : State} (hm : Sub 642119113392141 m) (h : execSealCommitted a0 a1 = .next t) : Kept m a1 t := by
  rw [liveAt_next h]
  have h1 : ∀ n, Kept m a1 (a1.advanceNs n) := fun _ => State.advanceNs_kept (hm.sub rfl) kept_refl
  refine kept_ite ?_ ?_
  · exact (h1 _)
  · refine kept_ite ?_ ?_
    · refine State.sealed_kept (hm.sub rfl) ?_
      exact (h1 _)
    · refine State.surprise_kept (hm.sub rfl) ?_
      exact (h1 _)

theorem execEjectTExpiry_kept {m : Nat} {a0} {a1} {t : State} (hm : Sub 633323020353548 m) (h : execEjectTExpiry a0 a1 = .next t) : Kept m a1 t := by
  rw [liveAt_next h]
  have h1 : ∀ n, Kept m a1 (a1.advanceNs n) := fun _ => State.advanceNs_kept (hm.sub rfl) kept_refl
  split
  · refine kept_ite ?_ ?_
    · refine State.completeLedger_kept (hm.sub rfl) ?_
      refine State.setCState_kept (hm.sub rfl) ?_
      refine State.lcPwr_kept (hm.sub rfl) ?_
      refine kept_ldg (hm.bit rfl) ?_
      exact (h1 _)
    · exact (h1 _)
  · exact (h1 _)

theorem execLcPwrOvercurrent_kept {m : Nat} {a0} {a1} {t : State} (hm : Sub 633323020353548 m) (h : execLcPwrOvercurrent a0 a1 = .next t) : Kept m a1 t := by
  rw [liveAt_next h]
  have h1 : ∀ n, Kept m a1 (a1.advanceNs n) := fun _ => State.advanceNs_kept (hm.sub rfl) kept_refl
  refine kept_ite ?_ ?_
  · exact (h1 _)
  · extract_lets -merge -useContext +onlyGivenNames s11
    have k_s11 : Kept m a1 s11 := by
      unfold s11
      refine State.raise_kept (hm.sub rfl) rfl (hm.bit rfl) ?_
      refine State.lcPwr_kept (hm.sub rfl) ?_
      exact (h1 _)
    clear_value s11
    refine kept_ite ?_ ?_
    · refine State.failAttach_kept (hm.sub rfl) ?_
      exact k_s11
    · exact k_s11

theorem execRecordOffer_kept {m : Nat} {a0} {a1} {a2} {t : State} (hm : Sub 633318700220424 m) (h : execRecordOffer a0 a1 a2 = .next t) : Kept m a2 t := by
  rw [live_next h]
  have h2 : Kept m a2 a2 := kept_refl
  refine State.offer_kept (hm.sub rfl) ?_
  exact h2

theorem execCommitTExpiry_kept {m : Nat} {a0} {a1} {t : State} (hm : Sub 642119113392141 m) (h : execCommitTExpiry a0 a1 = .next t) : Kept m a1 t := by
  rw [liveAt_next h]
  have h1 : ∀ n, Kept m a1 (a1.advanceNs n) := fun _ => State.advanceNs_kept (hm.sub rfl) kept_refl
  split
  · refine kept_ite ?_ ?_
    · exact (h1 _)
    · refine kept_ite ?_ ?_
      · refine State.surprise_kept (hm.sub rfl) ?_
        exact (h1 _)
      · refine State.commitPage_kept (hm.sub rfl) ?_
        exact (h1 _)
  · exact (h1 _)

theorem execPageCommit_kept {m : Nat} {a0} {a1} {a2} {t : State} (hm : Sub 642119113392141 m) (h : execPageCommit a0 a1 a2 = .next t) : Kept m a2 t := by
  rw [liveAt_next h]
  have h2 : ∀ n, Kept m a2 (a2.advanceNs n) := fun _ => State.advanceNs_kept (hm.sub rfl) kept_refl
  refine kept_ite ?_ ?_
  · exact (h2 _)
  · refine kept_ite ?_ ?_
    · refine State.surprise_kept (hm.sub rfl) ?_
      exact (h2 _)
    · refine State.commitPage_kept (hm.sub rfl) ?_
      exact (h2 _)

theorem State.writeRdcmd_kept {m : Nat} {s0 : State} {a0} {a1} (hm : Sub 633318700220424 m) (h0 : Kept m s0 a0) : Kept m s0 (State.writeRdcmd a0 a1) := by
  unfold State.writeRdcmd
  refine kept_ite ?_ ?_
  · exact h0
  · refine kept_ite ?_ ?_
    · refine State.cfgErr_kept (hm.sub rfl) rfl (hm.bit rfl) ?_
      exact h0
    · refine kept_ldg (hm.bit rfl) ?_
      exact h0

theorem execRdcmd_kept {m : Nat} {a0} {a1} {a2} {t : State} (hm : Sub 5136918327721992 m) (h : execRdcmd a0 a1 a2 = .next t) : Kept m a2 t := by
  rw [live_next h]
  have h2 : Kept m a2 a2 := kept_refl
  refine State.writeBy_kept (hm.sub rfl) ?_ ?_
  · exact h2
  · intro y1 k2
    refine State.writeRdcmd_kept (hm.sub rfl) ?_
    exact k2

theorem copyPages_wf {c : Mem} {n src dst : Nat} {d : Mem} (h : d.wf) : (copyPages c n src dst d).wf := by
  induction n generalizing src dst d with
  | zero => exact h
  | succ n ih => exact ih (Mem.wf_putBytes h)

theorem execReadCopyDone_kept {m : Nat} {a0} {t : State} (hm : Sub 633318700220425 m) (h : execReadCopyDone a0 = .next t) : Kept m a0 t := by
  rw [live_next h]
  split
  · exact kept_refl
  · refine State.event_kept (hm.sub rfl) ?_
    have k : ∀ n src dst, Kept m a0 { a0 with devMem := copyPages a0.ldg.cart n src dst a0.devMem, ldg := { a0.ldg with copy := none } } :=
      fun _ _ _ => { (kept_refl : Kept m a0 a0) with
        devMem := .inl (hm.bit rfl)
        ldg := .inl (hm.bit rfl)
        wfDev := fun w => copyPages_wf w }
    exact kept_ite (State.raise_kept (hm.sub rfl) rfl (hm.bit rfl) (k _ _ _)) (k _ _ _)

end Sys2Proof.Machine
end

