-- ==== Sys2Proof/Laws/KeptCapture.lean ====
section
/-!
SUPPORT. What each operation of Machine/Capture.lean may change: one lemma per operation, its mask of parts and register blocks in `hm`.
-/
namespace Sys2Proof.Machine

theorem State.setBuf_kept {m : Nat} {s0 : State} {a0} {a1} {a2} (hm : Sub 32768 m) (h0 : Kept m s0 a0) : Kept m s0 (State.setBuf a0 a1 a2) := by
  unfold State.setBuf
  refine kept_cap (hm.bit rfl) ?_
  exact h0

theorem State.capHalt_kept {m : Nat} {s0 : State} {a0} {a1} {a2} (hm : Sub 87960997888009 m) (h0 : Kept m s0 a0) : Kept m s0 (State.capHalt a0 a1 a2) := by
  unfold State.capHalt
  extract_lets -merge -useContext +onlyGivenNames x1
  try clear_value x1
  extract_lets -merge -useContext +onlyGivenNames s02
  have k_s02 : Kept m s0 s02 := by
    unfold s02
    refine kept_free (hm.bit rfl) ?_
    exact h0
  clear_value s02
  extract_lets -merge -useContext +onlyGivenNames s13
  have k_s13 : Kept m s0 s13 := by
    unfold s13
    refine State.setBuf_kept (hm.sub rfl) ?_
    exact k_s02
  clear_value s13
  extract_lets -merge -useContext +onlyGivenNames s24
  have k_s24 : Kept m s0 s24 := by
    unfold s24
    refine State.putDev_kept (hm.sub rfl) ?_
    exact k_s13
  clear_value s24
  extract_lets -merge -useContext +onlyGivenNames s35
  have k_s35 : Kept m s0 s35 := by
    unfold s35
    refine kept_ite ?_ ?_
    · refine State.event_kept (hm.sub rfl) ?_
      exact k_s24
    · exact k_s24
  clear_value s35
  refine kept_ite ?_ ?_
  · exact k_s35
  · refine kept_ite ?_ ?_
    · refine State.setBuf_kept (hm.sub rfl) ?_
      exact k_s35
    · refine State.raise_kept (hm.sub rfl) rfl (hm.bit rfl) ?_
      exact k_s35

theorem State.capStopIf_kept {m : Nat} {s0 : State} {a0} {a1} {a2} (hm : Sub 87960997888009 m) (h0 : Kept m s0 a0) : Kept m s0 (State.capStopIf a0 a1 a2) := by
  unfold State.capStopIf
  refine kept_ite ?_ ?_
  · refine State.capHalt_kept (hm.sub rfl) ?_
    exact h0
  · exact h0

theorem State.capArm1_kept {m : Nat} {s0 : State} {a0} {a1} (hm : Sub 87960997888009 m) (h0 : Kept m s0 a0) : Kept m s0 (State.capArm1 a0 a1) := by
  unfold State.capArm1
  extract_lets -merge -useContext +onlyGivenNames s11
  have k_s11 : Kept m s0 s11 := by
    unfold s11
    refine State.setBuf_kept (hm.sub rfl) ?_
    exact h0
  clear_value s11
  refine kept_ite ?_ ?_
  · exact k_s11
  · refine State.capHalt_kept (hm.sub rfl) ?_
    exact k_s11

theorem State.capFree_kept {m : Nat} {s0 : State} {a0} {a1} (hm : Sub 87960997888009 m) (h0 : Kept m s0 a0) : Kept m s0 (State.capFree a0 a1) := by
  unfold State.capFree
  refine kept_ite ?_ ?_
  · refine State.capArm1_kept (hm.sub rfl) ?_
    exact h0
  · refine State.setBuf_kept (hm.sub rfl) ?_
    exact h0

theorem State.capLet_kept {m : Nat} {s0 : State} {a0} {a1} (hm : Sub 87960997888009 m) (h0 : Kept m s0 a0) : Kept m s0 (State.capLet a0 a1) := by
  unfold State.capLet
  split
  · refine State.capFree_kept (hm.sub rfl) ?_
    exact h0
  · refine State.setBuf_kept (hm.sub rfl) ?_
    exact h0
  · exact h0

theorem State.capCheck_kept {m : Nat} {s0 : State} {a0} {a1} (hm : Sub 87960997888009 m) (h0 : Kept m s0 a0) : Kept m s0 (State.capCheck a0 a1) := by
  unfold State.capCheck
  refine kept_ite ?_ ?_
  · exact h0
  · split
    · extract_lets -merge -useContext +onlyGivenNames s11
      have k_s11 : Kept m s0 s11 := by
        unfold s11
        refine State.setBuf_kept (hm.sub rfl) ?_
        exact h0
      clear_value s11
      extract_lets -merge -useContext +onlyGivenNames s22
      have k_s22 : Kept m s0 s22 := by
        unfold s22
        refine kept_ite ?_ ?_
        · refine State.raise_kept (hm.sub rfl) rfl (hm.bit rfl) ?_
          exact k_s11
        · exact k_s11
      clear_value s22
      split
      · refine kept_ite ?_ ?_
        · refine State.capHalt_kept (hm.sub rfl) ?_
          refine State.setBuf_kept (hm.sub rfl) ?_
          exact k_s22
        · exact k_s22

theorem State.capStore_kept {m : Nat} {s0 : State} {a0} {a1} {a2} {a3} {a4} (hm : Sub 87960997888009 m) (h0 : Kept m s0 a0) : Kept m s0 (State.capStore a0 a1 a2 a3 a4) := by
  unfold State.capStore
  extract_lets -merge -useContext +onlyGivenNames x1
  try clear_value x1
  extract_lets -merge -useContext +onlyGivenNames d2
  try clear_value d2
  extract_lets -merge -useContext +onlyGivenNames s13
  have k_s13 : Kept m s0 s13 := by
    unfold s13
    refine State.putDev_kept (hm.sub rfl) ?_
    exact h0
  clear_value s13
  extract_lets -merge -useContext +onlyGivenNames src24
  refine State.capCheck_kept (hm.sub rfl) ?_
  refine State.setBuf_kept (hm.sub rfl) ?_
  exact k_s13

theorem State.capFrame_kept {m : Nat} {s0 : State} {a0} {a1} {a2} (hm : Sub 87960997888009 m) (h0 : Kept m s0 a0) : Kept m s0 (State.capFrame a0 a1 a2) := by
  unfold State.capFrame
  extract_lets -merge -useContext +onlyGivenNames x1
  try clear_value x1
  extract_lets -merge -useContext +onlyGivenNames inst2
  try clear_value inst2
  extract_lets -merge -useContext +onlyGivenNames flags3
  try clear_value flags3
  extract_lets -merge -useContext +onlyGivenNames stopAt4
  have k_stopAt4 : ∀ y0 y1, Kept m s0 y0 → Kept m s0 (stopAt4 y0 y1) := by
    intro y5 y6 k7
    unfold stopAt4
    refine kept_ite ?_ ?_
    · refine State.capStopIf_kept (hm.sub rfl) ?_
      exact k7
    · exact k7
  clear_value stopAt4
  refine kept_ite ?_ ?_
  · refine k_stopAt4 _ _ ?_
    refine State.capStore_kept (hm.sub rfl) ?_
    exact h0
  · extract_lets -merge -useContext +onlyGivenNames acc8
    try clear_value acc8
    refine kept_ite ?_ ?_
    · refine State.setBuf_kept (hm.sub rfl) ?_
      exact h0
    · refine k_stopAt4 _ _ ?_
      refine State.capStore_kept (hm.sub rfl) ?_
      refine State.setBuf_kept (hm.sub rfl) ?_
      exact h0

theorem State.capJoin_kept {m : Nat} {s0 : State} {a0} {a1} {a2} {a3} (hm : Sub 87960997888009 m) (h0 : Kept m s0 a0) : Kept m s0 (State.capJoin a0 a1 a2 a3) := by
  unfold State.capJoin
  extract_lets -merge -useContext +onlyGivenNames x1
  try clear_value x1
  extract_lets -merge -useContext +onlyGivenNames n2
  try clear_value n2
  extract_lets -merge -useContext +onlyGivenNames q3
  try clear_value q3
  extract_lets -merge -useContext +onlyGivenNames heads4
  try clear_value heads4
  refine kept_ite ?_ ?_
  · extract_lets -merge -useContext +onlyGivenNames rest5
    try clear_value rest5
    refine State.capFrame_kept (hm.sub rfl) ?_
    refine State.setBuf_kept (hm.sub rfl) ?_
    exact h0
  · refine State.setBuf_kept (hm.sub rfl) ?_
    exact h0

theorem State.capSend_kept {m : Nat} {s0 : State} {a0} {a1} {a2} {a3} {a4} {a5} (hm : Sub 32768 m) (h0 : Kept m s0 a0) : Kept m s0 (State.capSend a0 a1 a2 a3 a4 a5) := by
  unfold State.capSend
  extract_lets -merge -useContext +onlyGivenNames g1
  try clear_value g1
  extract_lets -merge -useContext +onlyGivenNames m2
  try clear_value m2
  refine kept_ite ?_ ?_
  · exact h0
  · refine kept_cap (hm.bit rfl) ?_
    exact h0

theorem State.capSample1_kept {m : Nat} {s0 : State} {a0} {a1} {a2} {a3} {a4} {a5} (hm : Sub 87960997953545 m) (h0 : Kept m s0 a0) : Kept m s0 (State.capSample1 a0 a1 a2 a3 a4 a5) := by
  unfold State.capSample1
  refine kept_ite ?_ ?_
  · exact h0
  · extract_lets -merge -useContext +onlyGivenNames test1
    try clear_value test1
    extract_lets -merge -useContext +onlyGivenNames viol2
    try clear_value viol2
    extract_lets -merge -useContext +onlyGivenNames s03
    have k_s03 : Kept m s0 s03 := by
      unfold s03
      refine State.kernelBoundary_kept (hm.sub rfl) ?_
      exact h0
    clear_value s03
    extract_lets -merge -useContext +onlyGivenNames s14
    have k_s14 : Kept m s0 s14 := by
      unfold s14
      refine kept_ite ?_ ?_
      · refine State.bump_kept (hm.sub rfl) (show _ / 1048576 % 32 = 12 by unfold Reg.CAP_BnVIOL; omega) (hm.bit rfl) ?_
        exact k_s03
      · exact k_s03
    clear_value s14
    extract_lets -merge -useContext +onlyGivenNames s25
    have k_s25 : Kept m s0 s25 := by
      unfold s25
      refine kept_ite ?_ ?_
      · refine State.capSend_kept (hm.sub rfl) ?_
        exact k_s14
      · exact k_s14
    clear_value s25
    refine State.capJoin_kept (hm.sub rfl) ?_
    exact k_s25

theorem State.capSample_kept {m : Nat} {s0 : State} {a0} {a1} {a2} {a3} {a4} {a5} {a6} {a7} (hm : Sub 87960997953545 m) (h0 : Kept m s0 a0) : Kept m s0 (State.capSample a0 a1 a2 a3 a4 a5 a6 a7) := by
  unfold State.capSample
  refine kept_foldl ?_ ?_
  · exact h0
  · intro x3 y1 k2
    refine State.capSample1_kept (hm.sub rfl) ?_
    exact k2

theorem State.capFinal_kept {m : Nat} {s0 : State} {a0} {a1} {a2} (hm : Sub 87960997953545 m) (h0 : Kept m s0 a0) : Kept m s0 (State.capFinal a0 a1 a2) := by
  unfold State.capFinal
  refine kept_foldl ?_ ?_
  · exact h0
  · intro x3 y1 k2
    refine kept_ite ?_ ?_
    · extract_lets -merge -useContext +onlyGivenNames es4
      try clear_value es4
      refine State.capStore_kept (hm.sub rfl) ?_
      refine State.kernelBoundary_kept (hm.sub rfl) ?_
      exact k2
    · exact k2

theorem State.capDiscard_kept {m : Nat} {s0 : State} {a0} {a1} (hm : Sub 32768 m) (h0 : Kept m s0 a0) : Kept m s0 (State.capDiscard a0 a1) := by
  unfold State.capDiscard
  refine kept_foldl ?_ ?_
  · exact h0
  · intro x3 y1 k2
    refine kept_ite ?_ ?_
    · refine State.setBuf_kept (hm.sub rfl) ?_
      exact k2
    · exact k2

theorem State.capAccept_kept {m : Nat} {s0 : State} {a0} {a1} {a2} (hm : Sub 87960930746376 m) (h0 : Kept m s0 a0) : Kept m s0 (State.capAccept a0 a1 a2) := by
  unfold State.capAccept
  extract_lets -merge -useContext +onlyGivenNames s11
  have k_s11 : Kept m s0 s11 := by
    unfold s11
    refine State.bump_kept (hm.sub rfl) (show _ / 1048576 % 32 = 12 by unfold Reg.CAP_BnTRIGS; omega) (hm.bit rfl) ?_
    exact h0
  clear_value s11
  refine kept_ite ?_ ?_
  · refine State.event_kept (hm.sub rfl) ?_
    exact k_s11
  · exact k_s11

theorem State.capTake1_kept {m : Nat} {s0 : State} {a0} {a1} {a2} (hm : Sub 87960997888009 m) (h0 : Kept m s0 a0) : Kept m s0 (State.capTake1 a0 a1 a2) := by
  unfold State.capTake1
  refine kept_ite ?_ ?_
  · exact h0
  · extract_lets -merge -useContext +onlyGivenNames s1
    have k_s1 : Kept m s0 s1 := by
      unfold s1
      refine kept_ite ?_ ?_
      · refine State.bumpBy_kept (hm.sub rfl) rfl (hm.bit rfl) ?_
        exact h0
      · exact h0
    clear_value s1
    extract_lets -merge -useContext +onlyGivenNames x2
    try clear_value x2
    split
    · exact k_s1
    · extract_lets -merge -useContext +onlyGivenNames m3
      try clear_value m3
      refine State.capCheck_kept (hm.sub rfl) ?_
      refine State.capAccept_kept (hm.sub rfl) ?_
      refine State.setBuf_kept (hm.sub rfl) ?_
      exact k_s1
    · extract_lets -merge -useContext +onlyGivenNames again4
      try clear_value again4
      extract_lets -merge -useContext +onlyGivenNames m5
      try clear_value m5
      extract_lets -merge -useContext +onlyGivenNames s16
      have k_s16 : Kept m s0 s16 := by
        unfold s16
        refine kept_ite ?_ ?_
        · exact k_s1
        · refine State.bump_kept (hm.sub rfl) (show _ / 1048576 % 32 = 12 by unfold Reg.CAP_BnMARKOVF; omega) (hm.bit rfl) ?_
          exact k_s1
      clear_value s16
      extract_lets -merge -useContext +onlyGivenNames x17
      try clear_value x17
      extract_lets -merge -useContext +onlyGivenNames x28
      try clear_value x28
      refine State.capCheck_kept (hm.sub rfl) ?_
      refine State.capAccept_kept (hm.sub rfl) ?_
      refine State.setBuf_kept (hm.sub rfl) ?_
      exact k_s16
    · refine State.raise_kept (hm.sub rfl) rfl (hm.bit rfl) ?_
      refine State.bump_kept (hm.sub rfl) (show _ / 1048576 % 32 = 12 by unfold Reg.CAP_BnMISSED; omega) (hm.bit rfl) ?_
      exact k_s1

theorem State.capTake_kept {m : Nat} {s0 : State} {a0} {a1} (hm : Sub 87960997888009 m) (h0 : Kept m s0 a0) : Kept m s0 (State.capTake a0 a1) := by
  unfold State.capTake
  extract_lets -merge -useContext +onlyGivenNames mine1
  try clear_value mine1
  extract_lets -merge -useContext +onlyGivenNames rest2
  try clear_value rest2
  refine kept_foldl ?_ ?_
  · refine kept_cap (hm.bit rfl) ?_
    exact h0
  · intro x5 y3 k4
    refine State.capTake1_kept (hm.sub rfl) ?_
    exact k4

theorem execCaptureTrigger_kept {m : Nat} {a0} {a1} {a2} {t : State} (hm : Sub 87960997888013 m) (h : execCaptureTrigger a0 a1 a2 = .next t) : Kept m a2 t := by
  rw [liveAt_next h]
  have h2 : ∀ n, Kept m a2 (a2.advanceNs n) := fun _ => State.advanceNs_kept (hm.sub rfl) kept_refl
  refine kept_ite ?_ ?_
  · exact (h2 _)
  · refine State.capTake_kept (hm.sub rfl) ?_
    exact (h2 _)

theorem State.writeHosttrig_kept {m : Nat} {s0 : State} {a0} {a1} {a2} (hm : Sub 32768 m) (h0 : Kept m s0 a0) : Kept m s0 (State.writeHosttrig a0 a1 a2) := by
  unfold State.writeHosttrig
  refine kept_ite ?_ ?_
  · exact h0
  · refine State.capSend_kept (hm.sub rfl) ?_
    exact h0

theorem execHosttrig_kept {m : Nat} {a0} {a1} {a2} {a3} {a4} {t : State} (hm : Sub 4573968372236300 m) (h : execHosttrig a0 a1 a2 a3 a4 = .next t) : Kept m a4 t := by
  rw [liveAt_next h]
  have h4 : ∀ n, Kept m a4 (a4.advanceNs n) := fun _ => State.advanceNs_kept (hm.sub rfl) kept_refl
  refine State.writeBy_kept (hm.sub rfl) ?_ ?_
  · exact (h4 _)
  · intro y1 k2
    refine State.writeHosttrig_kept (hm.sub rfl) ?_
    exact k2

theorem capArmBody_kept {m : Nat} {s0 : State} {a0} {a1} (hm : Sub 87960997888009 m) (h1 : Kept m s0 a1) : Kept m s0 ((capArmBody a0 a1).1) := by
  unfold capArmBody
  extract_lets -merge -useContext +onlyGivenNames bs1
  try clear_value bs1
  refine kept_ite_fst ?_ ?_
  · refine kept_mkp_fst ?_
    exact h1
  · refine kept_ite_fst ?_ ?_
    · refine kept_mkp_fst ?_
      exact h1
    · refine kept_mkp_fst ?_
      refine kept_foldl ?_ ?_
      · exact h1
      · intro x4 y2 k3
        refine State.capArm1_kept (hm.sub rfl) ?_
        exact k3

theorem State.capArm_kept {m : Nat} {s0 : State} {a0} {a1} {a2} (hm : Sub 650915265150985 m) (h0 : Kept m s0 a0) : Kept m s0 (State.capArm a0 a1 a2) := by
  unfold State.capArm
  refine State.hostCmd_kept (hm.sub rfl) ?_ ?_
  · exact h0
  · intro y1 k2
    refine capArmBody_kept (hm.sub rfl) ?_
    exact k2

theorem execCapArm_kept {m : Nat} {a0} {a1} {a2} {t : State} (hm : Sub 650915265150985 m) (h : execCapArm a0 a1 a2 = .next t) : Kept m a2 t := by
  rw [live_next h]
  have h2 : Kept m a2 a2 := kept_refl
  refine State.capArm_kept (hm.sub rfl) ?_
  exact h2

theorem capReadBody_kept {m : Nat} {s0 : State} {a0} {a1} {a2} {a3} {a4} {a5} (hm : Sub 87960997888011 m) (h5 : Kept m s0 a5) : Kept m s0 ((capReadBody a0 a1 a2 a3 a4 a5).1) := by
  unfold capReadBody
  extract_lets -merge -useContext +onlyGivenNames n1
  try clear_value n1
  refine kept_ite_fst ?_ ?_
  · refine kept_mkp_fst ?_
    exact h5
  · refine kept_ite_fst ?_ ?_
    · refine kept_mkp_fst ?_
      exact h5
    · refine kept_ite_fst ?_ ?_
      · refine kept_mkp_fst ?_
        exact h5
      · extract_lets -merge -useContext +onlyGivenNames s12
        have k_s12 : Kept m s0 s12 := by
          unfold s12
          refine kept_ite ?_ ?_
          · refine State.raise_kept (hm.sub rfl) rfl (hm.bit rfl) ?_
            refine State.doubleBit_kept (hm.sub rfl) ?_
            exact h5
          · exact h5
        clear_value s12
        extract_lets -merge -useContext +onlyGivenNames s23
        have k_s23 : Kept m s0 s23 := by
          unfold s23
          refine State.putHost_kept (hm.sub rfl) ?_
          exact k_s12
        clear_value s23
        refine kept_mkp_fst ?_
        refine kept_ite ?_ ?_
        · exact k_s23
        · refine State.capLet_kept (hm.sub rfl) ?_
          exact k_s23

theorem State.capRead_kept {m : Nat} {s0 : State} {a0} {a1} {a2} {a3} {a4} {a5} (hm : Sub 650915265150987 m) (h0 : Kept m s0 a0) : Kept m s0 (State.capRead a0 a1 a2 a3 a4 a5) := by
  unfold State.capRead
  refine State.hostCmd_kept (hm.sub rfl) ?_ ?_
  · exact h0
  · intro y1 k2
    refine capReadBody_kept (hm.sub rfl) ?_
    exact k2

theorem execCapRead_kept {m : Nat} {a0} {a1} {a2} {a3} {a4} {a5} {t : State} (hm : Sub 650915265150987 m) (h : execCapRead a0 a1 a2 a3 a4 a5 = .next t) : Kept m a5 t := by
  rw [live_next h]
  have h5 : Kept m a5 a5 := kept_refl
  refine State.capRead_kept (hm.sub rfl) ?_
  exact h5

theorem State.writeCapStop_kept {m : Nat} {s0 : State} {a0} {a1} (hm : Sub 87960997888009 m) (h0 : Kept m s0 a0) : Kept m s0 (State.writeCapStop a0 a1) := by
  unfold State.writeCapStop
  refine kept_foldl ?_ ?_
  · exact h0
  · intro x3 y1 k2
    refine State.capStopIf_kept (hm.sub rfl) ?_
    exact k2

theorem execCapStop_kept {m : Nat} {a0} {a1} {a2} {t : State} (hm : Sub 4591560625389577 m) (h : execCapStop a0 a1 a2 = .next t) : Kept m a2 t := by
  rw [live_next h]
  have h2 : Kept m a2 a2 := kept_refl
  refine State.writeBy_kept (hm.sub rfl) ?_ ?_
  · exact h2
  · intro y1 k2
    refine State.writeCapStop_kept (hm.sub rfl) ?_
    exact k2

theorem State.writeCapRelease_kept {m : Nat} {s0 : State} {a0} {a1} (hm : Sub 87960997888009 m) (h0 : Kept m s0 a0) : Kept m s0 (State.writeCapRelease a0 a1) := by
  unfold State.writeCapRelease
  refine kept_foldl ?_ ?_
  · exact h0
  · intro x3 y1 k2
    refine State.capLet_kept (hm.sub rfl) ?_
    exact k2

theorem execCapRelease_kept {m : Nat} {a0} {a1} {a2} {t : State} (hm : Sub 4591560625389577 m) (h : execCapRelease a0 a1 a2 = .next t) : Kept m a2 t := by
  rw [live_next h]
  have h2 : Kept m a2 a2 := kept_refl
  refine State.writeBy_kept (hm.sub rfl) ?_ ?_
  · exact h2
  · intro y1 k2
    refine State.writeCapRelease_kept (hm.sub rfl) ?_
    exact k2

theorem State.nextPoint_kept {m : Nat} {s0 : State} {a0} (hm : Sub 17592186044416 m) (h0 : Kept m s0 a0) : Kept m s0 (State.nextPoint a0) := by
  unfold State.nextPoint
  refine State.setFld_kept (hm.sub rfl) rfl (hm.bit rfl) ?_
  exact h0

theorem State.writeMval_kept {m : Nat} {s0 : State} {a0} {a1} (hm : Sub 87960930779144 m) (h0 : Kept m s0 a0) : Kept m s0 (State.writeMval a0 a1) := by
  unfold State.writeMval
  refine kept_ite ?_ ?_
  · refine State.cfgErr_kept (hm.sub rfl) rfl (hm.bit rfl) ?_
    exact h0
  · refine State.nextPoint_kept (hm.sub rfl) ?_
    refine kept_cap (hm.bit rfl) ?_
    exact h0

theorem State.readMval_kept {m : Nat} {s0 : State} {a0} (hm : Sub 17592202821632 m) (h0 : Kept m s0 a0) : Kept m s0 (State.readMval a0) := by
  unfold State.readMval
  refine State.answer_kept (hm.sub rfl) ?_
  refine State.nextPoint_kept (hm.sub rfl) ?_
  exact h0

theorem execMaskAccess_kept {m : Nat} {a0} {a1} {a2} {t : State} (hm : Sub 4591560575057928 m) (h : execMaskAccess a0 a1 a2 = .next t) : Kept m a2 t := by
  rw [live_next h]
  have h2 : Kept m a2 a2 := kept_refl
  split
  · refine State.writeBy_kept (hm.sub rfl) ?_ ?_
    · exact h2
    · intro y1 k2
      refine State.writeMval_kept (hm.sub rfl) ?_
      exact k2
  · refine State.readBy_kept (hm.sub rfl) ?_ ?_
    · exact h2
    · intro y3 k4
      refine State.readMval_kept (hm.sub rfl) ?_
      exact k4

theorem State.putExtent_kept {m : Nat} {s0 : State} {a0} {a1} (hm : Sub 633318700220424 m) (h0 : Kept m s0 a0) : Kept m s0 (State.putExtent a0 a1) := by
  unfold State.putExtent
  extract_lets -merge -useContext +onlyGivenNames x1
  try clear_value x1
  extract_lets -merge -useContext +onlyGivenNames len2
  try clear_value len2
  extract_lets -merge -useContext +onlyGivenNames data3
  try clear_value data3
  extract_lets -merge -useContext +onlyGivenNames pages4
  try clear_value pages4
  extract_lets -merge -useContext +onlyGivenNames x5
  try clear_value x5
  extract_lets -merge -useContext +onlyGivenNames seq6
  try clear_value seq6
  extract_lets -merge -useContext +onlyGivenNames s17
  try clear_value s17
  extract_lets -merge -useContext +onlyGivenNames s18
  have k_s18 : Kept m s0 s18 := by
    unfold s18
    refine kept_ldg (hm.bit rfl) ?_
    exact h0
  clear_value s18
  extract_lets -merge -useContext +onlyGivenNames s29
  have k_s29 : Kept m s0 s29 := by
    unfold s29
    refine State.offer_kept (hm.sub rfl) ?_
    exact k_s18
  clear_value s29
  extract_lets -merge -useContext +onlyGivenNames s310
  try clear_value s310
  extract_lets -merge -useContext +onlyGivenNames s311
  have k_s311 : Kept m s0 s311 := by
    unfold s311
    refine kept_ldg (hm.bit rfl) ?_
    exact k_s29
  clear_value s311
  refine State.wearBy_kept (hm.sub rfl) ?_
  exact k_s311

theorem State.archiveEnd_kept {m : Nat} {s0 : State} {a0} {a1} {a2} (hm : Sub 659711366578185 m) (h0 : Kept m s0 a0) : Kept m s0 (State.archiveEnd a0 a1 a2) := by
  unfold State.archiveEnd
  refine kept_ite ?_ ?_
  · exact h0
  · extract_lets -merge -useContext +onlyGivenNames ok1
    try clear_value ok1
    extract_lets -merge -useContext +onlyGivenNames s12
    have k_s12 : Kept m s0 s12 := by
      unfold s12
      refine kept_ite ?_ ?_
      · refine State.putExtent_kept (hm.sub rfl) ?_
        exact h0
      · refine kept_ite ?_ ?_
        · refine State.surprise_kept (hm.sub rfl) ?_
          refine State.raise_kept (hm.sub rfl) rfl (hm.bit rfl) ?_
          exact h0
        · refine State.raise_kept (hm.sub rfl) rfl (hm.bit rfl) ?_
          exact h0
    clear_value s12
    extract_lets -merge -useContext +onlyGivenNames x3
    try clear_value x3
    refine kept_ite ?_ ?_
    · refine State.capFree_kept (hm.sub rfl) ?_
      exact k_s12
    · refine State.setBuf_kept (hm.sub rfl) ?_
      exact k_s12

theorem execArchiveWriteEnd_kept {m : Nat} {a0} {a1} {a2} {a3} {t : State} (hm : Sub 659711366578189 m) (h : execArchiveWriteEnd a0 a1 a2 a3 = .next t) : Kept m a3 t := by
  rw [liveAt_next h]
  have h3 : ∀ n, Kept m a3 (a3.advanceNs n) := fun _ => State.advanceNs_kept (hm.sub rfl) kept_refl
  refine kept_ite ?_ ?_
  · exact (h3 _)
  · refine State.archiveEnd_kept (hm.sub rfl) ?_
    exact (h3 _)

theorem State.eachBuf_kept {m : Nat} {s0 : State} {a0} {a1} (hm : Sub 0 m) (h0 : Kept m s0 a0) (h1 : ∀ y0 y1, Kept m s0 y0 → Kept m s0 (a1 y0 y1)) : Kept m s0 (State.eachBuf a0 a1) := by
  unfold State.eachBuf
  refine kept_foldl ?_ ?_
  · exact h0
  · intro x3 y1 k2
    refine h1 _ _ ?_
    exact k2

theorem State.capMode_kept {m : Nat} {s0 : State} {a0} (hm : Sub 87960997888009 m) (h0 : Kept m s0 a0) : Kept m s0 (State.capMode a0) := by
  unfold State.capMode
  refine State.eachBuf_kept (hm.sub rfl) ?_ ?_
  · exact h0
  · intro y1 y2 k3
    extract_lets -merge -useContext +onlyGivenNames x4
    try clear_value x4
    refine kept_ite ?_ ?_
    · exact k3
    · refine kept_ite ?_ ?_
      · refine State.capHalt_kept (hm.sub rfl) ?_
        exact k3
      · extract_lets -merge -useContext +onlyGivenNames armedLow5
        try clear_value armedLow5
        extract_lets -merge -useContext +onlyGivenNames nowLow6
        try clear_value nowLow6
        refine kept_ite ?_ ?_
        · refine State.setBuf_kept (hm.sub rfl) ?_
          exact k3
        · exact k3

theorem State.capTimeStep_kept {m : Nat} {s0 : State} {a0} (hm : Sub 32768 m) (h0 : Kept m s0 a0) : Kept m s0 (State.capTimeStep a0) := by
  unfold State.capTimeStep
  refine State.eachBuf_kept (hm.sub rfl) ?_ ?_
  · exact h0
  · intro y1 y2 k3
    refine kept_ite ?_ ?_
    · refine State.setBuf_kept (hm.sub rfl) ?_
      exact k3
    · exact k3

theorem State.capImage_kept {m : Nat} {s0 : State} {a0} (hm : Sub 32768 m) (h0 : Kept m s0 a0) : Kept m s0 (State.capImage a0) := by
  unfold State.capImage
  refine State.eachBuf_kept (hm.sub rfl) ?_ ?_
  · exact h0
  · intro y1 y2 k3
    extract_lets -merge -useContext +onlyGivenNames p4
    try clear_value p4
    refine kept_ite ?_ ?_
    · refine State.setBuf_kept (hm.sub rfl) ?_
      exact k3
    · exact k3

theorem State.writeCapCtl_kept {m : Nat} {s0 : State} {a0} {a1} (hm : Sub 87960997888009 m) (h0 : Kept m s0 a0) : Kept m s0 (State.writeCapCtl a0 a1) := by
  unfold State.writeCapCtl
  extract_lets -merge -useContext +onlyGivenNames s11
  have k_s11 : Kept m s0 s11 := by
    unfold s11
    refine State.plainWrite_kept (hm.sub rfl) rfl (hm.bit rfl) rfl (hm.bit rfl) ?_
    exact h0
  clear_value s11
  refine kept_ite ?_ ?_
  · exact k_s11
  · refine State.eachBuf_kept (hm.sub rfl) ?_ ?_
    · exact k_s11
    · intro y2 y3 k4
      refine State.capStopIf_kept (hm.sub rfl) ?_
      exact k4

theorem State.writeCapBuf_kept {m : Nat} {s0 : State} {a0} {a1} {a2} {a3} {k2} (hm : Sub 87960930746376 m) (b2a : a2 / 1048576 % 32 = k2) (b2b : m.testBit (32 + k2) = true) (h0 : Kept m s0 a0) : Kept m s0 (State.writeCapBuf a0 a1 a2 a3) := by
  unfold State.writeCapBuf
  refine kept_ite ?_ ?_
  · refine State.cfgErr_kept (hm.sub rfl) rfl (hm.bit rfl) ?_
    exact h0
  · refine State.plainWrite_kept (hm.sub rfl) rfl (hm.bit rfl) b2a b2b ?_
    exact h0


end Sys2Proof.Machine
end

