-- ==== Sys2Proof/Laws/KeptKeys.lean ====
section
/-!
SUPPORT. What each operation of Machine/Keys.lean may change: one lemma per operation, its mask of parts and register blocks in `hm`.
-/
namespace Sys2Proof.Machine

theorem State.applyEntry_kept {m : Nat} {s0 : State} {a0} {a1} {a2} (hm : Sub 4194304 m) (h0 : Kept m s0 a0) : Kept m s0 (State.applyEntry a0 a1 a2) := by
  unfold State.applyEntry
  extract_lets -merge -useContext +onlyGivenNames k1
  try clear_value k1
  extract_lets -merge -useContext +onlyGivenNames g2
  try clear_value g2
  extract_lets -merge -useContext +onlyGivenNames k13
  try clear_value k13
  refine kept_key (hm.bit rfl) ?_
  exact h0

theorem State.stepOtp_kept {m : Nat} {s0 : State} {a0} {a1} (hm : Sub 1196268655738888 m) (h0 : Kept m s0 a0) : Kept m s0 (State.stepOtp a0 a1) := by
  unfold State.stepOtp
  extract_lets -merge -useContext +onlyGivenNames c1
  try clear_value c1
  extract_lets -merge -useContext +onlyGivenNames s12
  try clear_value s12
  extract_lets -merge -useContext +onlyGivenNames s13
  have k_s13 : Kept m s0 s13 := by
    unfold s13
    refine kept_key (hm.bit rfl) ?_
    exact h0
  clear_value s13
  refine kept_ite ?_ ?_
  · refine State.raise_kept (hm.sub rfl) rfl (hm.bit rfl) ?_
    exact k_s13
  · exact k_s13

theorem State.applyMessage_kept {m : Nat} {s0 : State} {a0} {a1} (hm : Sub 1759218611257352 m) (h0 : Kept m s0 a0) : Kept m s0 (State.applyMessage a0 a1) := by
  unfold State.applyMessage
  extract_lets -merge -useContext +onlyGivenNames n1
  try clear_value n1
  extract_lets -merge -useContext +onlyGivenNames es2
  try clear_value es2
  extract_lets -merge -useContext +onlyGivenNames c3
  try clear_value c3
  extract_lets -merge -useContext +onlyGivenNames wk4
  try clear_value wk4
  extract_lets -merge -useContext +onlyGivenNames s15
  have k_s15 : Kept m s0 s15 := by
    unfold s15
    refine kept_foldl ?_ ?_
    · exact h0
    · intro x8 y6 k7
      refine State.applyEntry_kept (hm.sub rfl) ?_
      exact k7
  clear_value s15
  extract_lets -merge -useContext +onlyGivenNames s29
  try clear_value s29
  extract_lets -merge -useContext +onlyGivenNames s210
  have k_s210 : Kept m s0 s210 := by
    unfold s210
    refine kept_key (hm.bit rfl) ?_
    exact k_s15
  clear_value s210
  extract_lets -merge -useContext +onlyGivenNames s311
  try clear_value s311
  extract_lets -merge -useContext +onlyGivenNames s312
  have k_s312 : Kept m s0 s312 := by
    unfold s312
    refine kept_ldg (hm.bit rfl) ?_
    exact k_s210
  clear_value s312
  extract_lets -merge -useContext +onlyGivenNames s413
  have k_s413 : Kept m s0 s413 := by
    unfold s413
    refine State.bump_kept (hm.sub rfl) rfl (hm.bit rfl) ?_
    refine State.wearBy_kept (hm.sub rfl) ?_
    exact k_s312
  clear_value s413
  refine kept_ite ?_ ?_
  · refine State.event_kept (hm.sub rfl) ?_
    exact k_s413
  · exact k_s413

theorem keyUpdateBody_kept {m : Nat} {s0 : State} {a0} {a1} {a2} (hm : Sub 1768019024429064 m) (h2 : Kept m s0 a2) : Kept m s0 ((keyUpdateBody a0 a1 a2).1) := by
  unfold keyUpdateBody
  refine kept_ite_fst ?_ ?_
  · refine kept_mkp_fst ?_
    exact h2
  · refine kept_ite_fst ?_ ?_
    · refine kept_mkp_fst ?_
      exact h2
    · extract_lets -merge -useContext +onlyGivenNames m1
      try clear_value m1
      split
      · extract_lets -merge -useContext +onlyGivenNames code2
        try clear_value code2
        extract_lets -merge -useContext +onlyGivenNames s13
        try clear_value s13
        extract_lets -merge -useContext +onlyGivenNames s14
        have k_s14 : Kept m s0 s14 := by
          unfold s14
          refine State.bump_kept (hm.sub rfl) rfl (hm.bit rfl) ?_
          refine kept_key (hm.bit rfl) ?_
          exact h2
        clear_value s14
        refine kept_mkp_fst ?_
        refine State.raise_kept (hm.sub rfl) rfl (hm.bit rfl) ?_
        exact k_s14
      · extract_lets -merge -useContext +onlyGivenNames s15
        have k_s15 : Kept m s0 s15 := by
          unfold s15
          refine State.stepOtp_kept (hm.sub rfl) ?_
          exact h2
        clear_value s15
        refine kept_ite_fst ?_ ?_
        · refine kept_mkp_fst ?_
          refine State.applyMessage_kept (hm.sub rfl) ?_
          exact k_s15
        · refine kept_mkp_fst ?_
          refine State.surprise_kept (hm.sub rfl) ?_
          exact k_s15

theorem State.keyUpdate_kept {m : Nat} {s0 : State} {a0} {a1} {a2} {a3} (hm : Sub 1768019024429064 m) (h0 : Kept m s0 a0) : Kept m s0 (State.keyUpdate a0 a1 a2 a3) := by
  unfold State.keyUpdate
  refine State.hostCmd_kept (hm.sub rfl) ?_ ?_
  · exact h0
  · intro y1 k2
    refine keyUpdateBody_kept (hm.sub rfl) ?_
    exact k2

theorem execKeyUpdate_kept {m : Nat} {a0} {a1} {a2} {a3} {t : State} (hm : Sub 1768019024429064 m) (h : execKeyUpdate a0 a1 a2 a3 = .next t) : Kept m a3 t := by
  rw [live_next h]
  have h3 : Kept m a3 a3 := kept_refl
  refine State.keyUpdate_kept (hm.sub rfl) ?_
  exact h3

theorem State.restoreKeys_kept {m : Nat} {s0 : State} {a0} (hm : Sub 1196268655738888 m) (h0 : Kept m s0 a0) : Kept m s0 (State.restoreKeys a0) := by
  unfold State.restoreKeys
  split
  · extract_lets -merge -useContext +onlyGivenNames slots1
    try clear_value slots1
    refine kept_key (hm.bit rfl) ?_
    exact h0
  · refine State.raise_kept (hm.sub rfl) rfl (hm.bit rfl) ?_
    refine kept_key (hm.bit rfl) ?_
    exact h0


end Sys2Proof.Machine
end

