-- ==== Sys2Proof/Laws/KeptPorts.lean ====
section
/-!
SUPPORT. What each operation of Machine/Ports.lean may change: one lemma per operation, its mask of parts and register blocks in `hm`.
-/
namespace Sys2Proof.Machine

theorem State.setPort_kept {m : Nat} {s0 : State} {a0} {a1} {a2} (hm : Sub 32 m) (h0 : Kept m s0 a0) : Kept m s0 (State.setPort a0 a1 a2) := by
  unfold State.setPort
  refine kept_eth (hm.bit rfl) ?_
  exact h0

theorem State.receive_kept {m : Nat} {s0 : State} {a0} {a1} {a2} {a3} {a4} (hm : Sub 70385924571176 m) (h0 : Kept m s0 a0) : Kept m s0 (State.receive a0 a1 a2 a3 a4) := by
  unfold State.receive
  extract_lets -merge -useContext +onlyGivenNames len1
  try clear_value len1
  refine kept_ite ?_ ?_
  · refine State.bump_kept (hm.sub rfl) (show _ / 1048576 % 32 = 2 by unfold Reg.ETH_PnRXLEN; omega) (hm.bit rfl) ?_
    exact h0
  · refine kept_ite ?_ ?_
    · exact h0
    · refine kept_ite ?_ ?_
      · refine State.bump_kept (hm.sub rfl) (show _ / 1048576 % 32 = 2 by unfold Reg.ETH_PnRXSMD; omega) (hm.bit rfl) ?_
        exact h0
      · refine kept_ite ?_ ?_
        · refine State.bump_kept (hm.sub rfl) (show _ / 1048576 % 32 = 2 by unfold Reg.ETH_PnRXFCS; omega) (hm.bit rfl) ?_
          exact h0
        · refine kept_ite ?_ ?_
          · refine State.bump_kept (hm.sub rfl) (show _ / 1048576 % 32 = 2 by unfold Reg.ETH_PnRXLEN; omega) (hm.bit rfl) ?_
            exact h0
          · refine kept_ite ?_ ?_
            · refine State.bump_kept (hm.sub rfl) (show _ / 1048576 % 32 = 2 by unfold Reg.ETH_PnRXPAUSE; omega) (hm.bit rfl) ?_
              exact h0
            · split
              · refine State.bump_kept (hm.sub rfl) (show _ / 1048576 % 32 = 2 by unfold Reg.ETH_PnRXFILT; omega) (hm.bit rfl) ?_
                exact h0
              · refine kept_ite ?_ ?_
                · refine State.bump_kept (hm.sub rfl) (show _ / 1048576 % 32 = 2 by unfold Reg.ETH_PnRXFILT; omega) (hm.bit rfl) ?_
                  exact h0
                · extract_lets -merge -useContext +onlyGivenNames p2
                  try clear_value p2
                  extract_lets -merge -useContext +onlyGivenNames high3
                  try clear_value high3
                  extract_lets -merge -useContext +onlyGivenNames room4
                  try clear_value room4
                  refine kept_ite ?_ ?_
                  · refine State.raise_kept (hm.sub rfl) (show _ / 1048576 % 32 = 2 by unfold E.ETH Reg.ETH_PnERRSTAT; simp only []; omega) (hm.bit rfl) ?_
                    refine State.bump_kept (hm.sub rfl) (ite_blk (show _ / 1048576 % 32 = 2 by unfold Reg.ETH_PnRXOVFH; omega) (show _ / 1048576 % 32 = 2 by unfold Reg.ETH_PnRXOVFN; omega)) (hm.bit rfl) ?_
                    exact h0
                  · extract_lets -merge -useContext +onlyGivenNames stamp5
                    try clear_value stamp5
                    refine State.bump_kept (hm.sub rfl) (show _ / 1048576 % 32 = 2 by unfold Reg.ETH_PnRXOK; omega) (hm.bit rfl) ?_
                    refine State.setPort_kept (hm.sub rfl) ?_
                    exact h0

theorem execFrameReceived_kept {m : Nat} {a0} {a1} {a2} {a3} {a4} {t : State} (hm : Sub 70385924571180 m) (h : execFrameReceived a0 a1 a2 a3 a4 = .next t) : Kept m a4 t := by
  rw [liveAt_next h]
  have h4 : ∀ n, Kept m a4 (a4.advanceNs n) := fun _ => State.advanceNs_kept (hm.sub rfl) kept_refl
  refine State.receive_kept (hm.sub rfl) ?_
  exact (h4 _)

theorem State.startTx_kept {m : Nat} {s0 : State} {a0} {a1} (hm : Sub 32 m) (h0 : Kept m s0 a0) : Kept m s0 (State.startTx a0 a1) := by
  unfold State.startTx
  extract_lets -merge -useContext +onlyGivenNames p1
  try clear_value p1
  refine kept_ite ?_ ?_
  · exact h0
  · split
    · exact h0
    · refine State.setPort_kept (hm.sub rfl) ?_
      exact h0

theorem State.send_kept {m : Nat} {s0 : State} {a0} {a1} {a2} {a3} (hm : Sub 17179869216 m) (h0 : Kept m s0 a0) : Kept m s0 (State.send a0 a1 a2 a3) := by
  unfold State.send
  extract_lets -merge -useContext +onlyGivenNames p1
  try clear_value p1
  split
  · refine kept_ite ?_ ?_
    · refine State.bump_kept (hm.sub rfl) (show _ / 1048576 % 32 = 2 by unfold Reg.ETH_PnTXDROPE; omega) (hm.bit rfl) ?_
      exact h0
    · refine State.startTx_kept (hm.sub rfl) ?_
      refine State.setPort_kept (hm.sub rfl) ?_
      exact h0
  · refine State.startTx_kept (hm.sub rfl) ?_
    refine State.setPort_kept (hm.sub rfl) ?_
    exact h0
  · refine State.startTx_kept (hm.sub rfl) ?_
    refine State.setPort_kept (hm.sub rfl) ?_
    exact h0

theorem State.expressReady_kept {m : Nat} {s0 : State} {a0} {a1} {a2} {a3} {a4} (hm : Sub 17179869216 m) (h0 : Kept m s0 a0) : Kept m s0 (State.expressReady a0 a1 a2 a3 a4) := by
  unfold State.expressReady
  split
  · extract_lets -merge -useContext +onlyGivenNames x1
    try clear_value x1
    extract_lets -merge -useContext +onlyGivenNames s12
    have k_s12 : Kept m s0 s12 := by
      unfold s12
      refine State.send_kept (hm.sub rfl) ?_
      exact h0
    clear_value s12
    extract_lets -merge -useContext +onlyGivenNames p13
    try clear_value p13
    refine kept_ite ?_ ?_
    · refine State.startTx_kept (hm.sub rfl) ?_
      refine State.bump_kept (hm.sub rfl) (show _ / 1048576 % 32 = 2 by unfold Reg.ETH_PnTXFRAG; omega) (hm.bit rfl) ?_
      refine State.setPort_kept (hm.sub rfl) ?_
      exact k_s12
    · refine State.setPort_kept (hm.sub rfl) ?_
      exact k_s12
  · refine State.send_kept (hm.sub rfl) ?_
    exact h0

theorem execExpressFrameReady_kept {m : Nat} {a0} {a1} {a2} {a3} {a4} {t : State} (hm : Sub 17179869216 m) (h : execExpressFrameReady a0 a1 a2 a3 a4 = .next t) : Kept m a4 t := by
  rw [live_next h]
  have h4 : Kept m a4 a4 := kept_refl
  refine State.expressReady_kept (hm.sub rfl) ?_
  exact h4

theorem State.transmitted_kept {m : Nat} {s0 : State} {a0} {a1} {a2} {a3} (hm : Sub 70385924571176 m) (h0 : Kept m s0 a0) : Kept m s0 (State.transmitted a0 a1 a2 a3) := by
  unfold State.transmitted
  extract_lets -merge -useContext +onlyGivenNames p1
  try clear_value p1
  split
  · exact h0
  · extract_lets -merge -useContext +onlyGivenNames stamp2
    try clear_value stamp2
    extract_lets -merge -useContext +onlyGivenNames out3
    try clear_value out3
    extract_lets -merge -useContext +onlyGivenNames s14
    have k_s14 : Kept m s0 s14 := by
      unfold s14
      refine State.bump_kept (hm.sub rfl) (show _ / 1048576 % 32 = 2 by unfold Reg.ETH_PnTXOK; omega) (hm.bit rfl) ?_
      refine State.setPort_kept (hm.sub rfl) ?_
      exact h0
    clear_value s14
    extract_lets -merge -useContext +onlyGivenNames s25
    try clear_value s25
    extract_lets -merge -useContext +onlyGivenNames s26
    have k_s26 : Kept m s0 s26 := by
      unfold s26
      split
      · refine kept_ite ?_ ?_
        · exact k_s14
        · refine kept_ite ?_ ?_
          · refine State.raise_kept (hm.sub rfl) (show _ / 1048576 % 32 = 2 by unfold E.ETH Reg.ETH_PnERRSTAT; simp only []; omega) (hm.bit rfl) ?_
            exact k_s14
          · extract_lets -merge -useContext +onlyGivenNames e7
            try clear_value e7
            extract_lets -merge -useContext +onlyGivenNames p18
            try clear_value p18
            refine State.setPort_kept (hm.sub rfl) ?_
            exact k_s14
      · exact k_s14
    clear_value s26
    refine State.startTx_kept (hm.sub rfl) ?_
    exact k_s26

theorem execFrameTransmitted_kept {m : Nat} {a0} {a1} {a2} {a3} {t : State} (hm : Sub 70385924571180 m) (h : execFrameTransmitted a0 a1 a2 a3 = .next t) : Kept m a3 t := by
  rw [liveAt_next h]
  have h3 : ∀ n, Kept m a3 (a3.advanceNs n) := fun _ => State.advanceNs_kept (hm.sub rfl) kept_refl
  refine State.transmitted_kept (hm.sub rfl) ?_
  exact (h3 _)

theorem State.readTxStamp_kept {m : Nat} {s0 : State} {a0} {a1} (hm : Sub 16777248 m) (h0 : Kept m s0 a0) : Kept m s0 (State.readTxStamp a0 a1) := by
  unfold State.readTxStamp
  extract_lets -merge -useContext +onlyGivenNames p1
  try clear_value p1
  refine State.answer_kept (hm.sub rfl) ?_
  refine State.setPort_kept (hm.sub rfl) ?_
  exact h0

theorem execTxStampRead_kept {m : Nat} {a0} {a1} {a2} {t : State} (hm : Sub 4573968388980776 m) (h : execTxStampRead a0 a1 a2 = .next t) : Kept m a2 t := by
  rw [live_next h]
  have h2 : Kept m a2 a2 := kept_refl
  refine State.readBy_kept (hm.sub rfl) ?_ ?_
  · exact h2
  · intro y1 k2
    refine State.readTxStamp_kept (hm.sub rfl) ?_
    exact k2

theorem State.setVerify_kept {m : Nat} {s0 : State} {a0} {a1} {a2} {a3} (hm : Sub 17179869216 m) (h0 : Kept m s0 a0) : Kept m s0 (State.setVerify a0 a1 a2 a3) := by
  unfold State.setVerify
  refine State.setVal_kept (hm.sub rfl) (show _ / 1048576 % 32 = 2 by unfold Reg.ETH_PnPREEMPTSTAT; omega) (hm.bit rfl) ?_
  refine State.setPort_kept (hm.sub rfl) ?_
  exact h0

theorem State.beginVerify_kept {m : Nat} {s0 : State} {a0} {a1} (hm : Sub 17179869216 m) (h0 : Kept m s0 a0) : Kept m s0 (State.beginVerify a0 a1) := by
  unfold State.beginVerify
  refine kept_ite ?_ ?_
  · exact h0
  · refine kept_ite ?_ ?_
    · refine State.setVerify_kept (hm.sub rfl) ?_
      exact h0
    · refine kept_ite ?_ ?_
      · refine State.setVerify_kept (hm.sub rfl) ?_
        exact h0
      · refine kept_ite ?_ ?_
        · refine State.setVerify_kept (hm.sub rfl) ?_
          exact h0
        · extract_lets -merge -useContext +onlyGivenNames s11
          have k_s11 : Kept m s0 s11 := by
            unfold s11
            refine State.setVerify_kept (hm.sub rfl) ?_
            exact h0
          clear_value s11
          refine State.setPort_kept (hm.sub rfl) ?_
          exact k_s11

theorem execLinkUp_kept {m : Nat} {a0} {a1} {a2} {a3} {t : State} (hm : Sub 70385924571180 m) (h : execLinkUp a0 a1 a2 a3 = .next t) : Kept m a3 t := by
  rw [liveAt_next h]
  have h3 : ∀ n, Kept m a3 (a3.advanceNs n) := fun _ => State.advanceNs_kept (hm.sub rfl) kept_refl
  extract_lets -merge -useContext +onlyGivenNames s11
  try clear_value s11
  extract_lets -merge -useContext +onlyGivenNames s12
  have k_s12 : Kept m a3 s12 := by
    unfold s12
    refine State.setVal_kept (hm.sub rfl) (show _ / 1048576 % 32 = 2 by unfold Reg.ETH_PnSTAT; omega) (hm.bit rfl) ?_
    refine State.setPort_kept (hm.sub rfl) ?_
    exact (h3 _)
  clear_value s12
  refine State.startTx_kept (hm.sub rfl) ?_
  refine State.beginVerify_kept (hm.sub rfl) ?_
  refine State.raise_kept (hm.sub rfl) (show _ / 1048576 % 32 = 2 by unfold E.ETH Reg.ETH_PnERRSTAT; simp only []; omega) (hm.bit rfl) ?_
  exact k_s12

theorem State.linkLost_kept {m : Nat} {s0 : State} {a0} {a1} {a2} (hm : Sub 71485436198952 m) (h0 : Kept m s0 a0) : Kept m s0 (State.linkLost a0 a1 a2) := by
  unfold State.linkLost
  extract_lets -merge -useContext +onlyGivenNames p1
  try clear_value p1
  extract_lets -merge -useContext +onlyGivenNames back2
  try clear_value back2
  extract_lets -merge -useContext +onlyGivenNames expr3
  try clear_value expr3
  extract_lets -merge -useContext +onlyGivenNames s14
  have k_s14 : Kept m s0 s14 := by
    unfold s14
    refine State.setPort_kept (hm.sub rfl) ?_
    exact h0
  clear_value s14
  extract_lets -merge -useContext +onlyGivenNames pubs5
  try clear_value pubs5
  extract_lets -merge -useContext +onlyGivenNames s26
  have k_s26 : Kept m s0 s26 := by
    unfold s26
    refine State.bump_kept (hm.sub rfl) (show _ / 1048576 % 32 = 2 by unfold Reg.ETH_PnLINKDN; omega) (hm.bit rfl) ?_
    refine State.bumpBy_kept (hm.sub rfl) (show _ / 1048576 % 32 = 2 by unfold Reg.ETH_PnTXDROPE; omega) (hm.bit rfl) ?_
    exact k_s14
  clear_value s26
  extract_lets -merge -useContext +onlyGivenNames s2a7
  have k_s2a7 : Kept m s0 s2a7 := by
    unfold s2a7
    refine kept_ite ?_ ?_
    · exact k_s26
    · refine State.raise_kept (hm.sub rfl) rfl (hm.bit rfl) ?_
      refine State.bumpBy_kept (hm.sub rfl) rfl (hm.bit rfl) ?_
      exact k_s26
  clear_value s2a7
  extract_lets -merge -useContext +onlyGivenNames s38
  have k_s38 : Kept m s0 s38 := by
    unfold s38
    refine State.raise_kept (hm.sub rfl) (show _ / 1048576 % 32 = 2 by unfold E.ETH Reg.ETH_PnERRSTAT; simp only []; omega) (hm.bit rfl) ?_
    refine State.setVal_kept (hm.sub rfl) (show _ / 1048576 % 32 = 2 by unfold Reg.ETH_PnSTAT; omega) (hm.bit rfl) ?_
    exact k_s2a7
  clear_value s38
  extract_lets -merge -useContext +onlyGivenNames s49
  have k_s49 : Kept m s0 s49 := by
    unfold s49
    refine kept_ite ?_ ?_
    · refine State.bump_kept (hm.sub rfl) (show _ / 1048576 % 32 = 2 by unfold Reg.ETH_PnRXLEN; omega) (hm.bit rfl) ?_
      exact k_s38
    · exact k_s38
  clear_value s49
  refine State.beginVerify_kept (hm.sub rfl) ?_
  exact k_s49

theorem execLinkDown_kept {m : Nat} {a0} {a1} {a2} {a3} {t : State} (hm : Sub 71485436198956 m) (h : execLinkDown a0 a1 a2 a3 = .next t) : Kept m a3 t := by
  rw [liveAt_next h]
  have h3 : ∀ n, Kept m a3 (a3.advanceNs n) := fun _ => State.advanceNs_kept (hm.sub rfl) kept_refl
  refine kept_ite ?_ ?_
  · refine State.linkLost_kept (hm.sub rfl) ?_
    exact (h3 _)
  · exact (h3 _)

theorem execVerifyTExpiry_kept {m : Nat} {a0} {a1} {a2} {t : State} (hm : Sub 70385924571180 m) (h : execVerifyTExpiry a0 a1 a2 = .next t) : Kept m a2 t := by
  rw [liveAt_next h]
  have h2 : ∀ n, Kept m a2 (a2.advanceNs n) := fun _ => State.advanceNs_kept (hm.sub rfl) kept_refl
  extract_lets -merge -useContext +onlyGivenNames p1
  try clear_value p1
  refine kept_ite ?_ ?_
  · exact (h2 _)
  · refine kept_ite ?_ ?_
    · refine State.setPort_kept (hm.sub rfl) ?_
      exact (h2 _)
    · refine State.raise_kept (hm.sub rfl) (show _ / 1048576 % 32 = 2 by unfold E.ETH Reg.ETH_PnERRSTAT; simp only []; omega) (hm.bit rfl) ?_
      refine State.setVerify_kept (hm.sub rfl) ?_
      exact (h2 _)

theorem execRespondMpacketReceived_kept {m : Nat} {a0} {a1} {t : State} (hm : Sub 17179869216 m) (h : execRespondMpacketReceived a0 a1 = .next t) : Kept m a1 t := by
  rw [live_next h]
  have h1 : Kept m a1 a1 := kept_refl
  refine kept_ite ?_ ?_
  · refine State.setVerify_kept (hm.sub rfl) ?_
    exact h1
  · exact h1

theorem State.writePreempt_kept {m : Nat} {s0 : State} {a0} {a1} {a2} (hm : Sub 70385924571176 m) (h0 : Kept m s0 a0) : Kept m s0 (State.writePreempt a0 a1 a2) := by
  unfold State.writePreempt
  refine kept_ite ?_ ?_
  · exact h0
  · split
    · exact h0
    · extract_lets -merge -useContext +onlyGivenNames new1
      try clear_value new1
      extract_lets -merge -useContext +onlyGivenNames old2
      try clear_value old2
      extract_lets -merge -useContext +onlyGivenNames s13
      have k_s13 : Kept m s0 s13 := by
        unfold s13
        refine State.setReg_kept (hm.sub rfl) (show _ / 1048576 % 32 = 2 by unfold Reg.ETH_PnPREEMPT; omega) (hm.bit rfl) ?_
        exact h0
      clear_value s13
      extract_lets -merge -useContext +onlyGivenNames s24
      have k_s24 : Kept m s0 s24 := by
        unfold s24
        refine kept_ite ?_ ?_
        · exact k_s13
        · refine State.cfgErr_kept (hm.sub rfl) (show _ / 1048576 % 32 = 2 by unfold E.ETH Reg.ETH_PnERRSTAT; simp only []; omega) (hm.bit rfl) ?_
          exact k_s13
      clear_value s24
      refine kept_ite ?_ ?_
      · refine State.beginVerify_kept (hm.sub rfl) ?_
        exact k_s24
      · exact k_s24

theorem execPreemptWrite_kept {m : Nat} {a0} {a1} {a2} {a3} {a4} {t : State} (hm : Sub 4573985552072748 m) (h : execPreemptWrite a0 a1 a2 a3 a4 = .next t) : Kept m a4 t := by
  rw [liveAt_next h]
  have h4 : ∀ n, Kept m a4 (a4.advanceNs n) := fun _ => State.advanceNs_kept (hm.sub rfl) kept_refl
  refine State.writeBy_kept (hm.sub rfl) ?_ ?_
  · exact (h4 _)
  · intro y1 k2
    refine State.writePreempt_kept (hm.sub rfl) ?_
    exact k2

theorem State.disablePort_kept {m : Nat} {s0 : State} {a0} {a1} {a2} (hm : Sub 17179869216 m) (h0 : Kept m s0 a0) : Kept m s0 (State.disablePort a0 a1 a2) := by
  unfold State.disablePort
  extract_lets -merge -useContext +onlyGivenNames p1
  try clear_value p1
  extract_lets -merge -useContext +onlyGivenNames s12
  have k_s12 : Kept m s0 s12 := by
    unfold s12
    refine State.setPort_kept (hm.sub rfl) ?_
    exact h0
  clear_value s12
  refine kept_ite ?_ ?_
  · refine State.bump_kept (hm.sub rfl) (show _ / 1048576 % 32 = 2 by unfold Reg.ETH_PnRXLEN; omega) (hm.bit rfl) ?_
    exact k_s12
  · exact k_s12

theorem State.writePortCtl_kept {m : Nat} {s0 : State} {a0} {a1} {a2} {a3} (hm : Sub 70385924571176 m) (h0 : Kept m s0 a0) : Kept m s0 (State.writePortCtl a0 a1 a2 a3) := by
  unfold State.writePortCtl
  extract_lets -merge -useContext +onlyGivenNames old1
  try clear_value old1
  split
  · extract_lets -merge -useContext +onlyGivenNames s12
    have k_s12 : Kept m s0 s12 := by
      unfold s12
      refine State.setReg_kept (hm.sub rfl) (show _ / 1048576 % 32 = 2 by unfold Reg.ETH_PnCTL; omega) (hm.bit rfl) ?_
      exact h0
    clear_value s12
    extract_lets -merge -useContext +onlyGivenNames s23
    have k_s23 : Kept m s0 s23 := by
      unfold s23
      refine kept_ite ?_ ?_
      · refine State.cfgErr_kept (hm.sub rfl) (show _ / 1048576 % 32 = 2 by unfold E.ETH Reg.ETH_PnERRSTAT; simp only []; omega) (hm.bit rfl) ?_
        exact k_s12
      · exact k_s12
    clear_value s23
    refine kept_ite ?_ ?_
    · refine State.disablePort_kept (hm.sub rfl) ?_
      exact k_s23
    · refine State.startTx_kept (hm.sub rfl) ?_
      exact k_s23

theorem execPortCtlWrite_kept {m : Nat} {a0} {a1} {a2} {a3} {a4} {t : State} (hm : Sub 4573985552072744 m) (h : execPortCtlWrite a0 a1 a2 a3 a4 = .next t) : Kept m a4 t := by
  rw [live_next h]
  have h4 : Kept m a4 a4 := kept_refl
  refine State.writeBy_kept (hm.sub rfl) ?_ ?_
  · exact h4
  · intro y1 k2
    refine State.writePortCtl_kept (hm.sub rfl) ?_
    exact k2


end Sys2Proof.Machine
end

