-- ==== Sys2Proof/Laws/KeptTime.lean ====
section
/-!
SUPPORT. What each operation of Machine/Time.lean may change: one lemma per operation, its mask of parts and register blocks in `hm`.
-/
namespace Sys2Proof.Machine

theorem State.writeIncri_kept {m : Nat} {s0 : State} {a0} {a1} (hm : Sub 8589934592 m) (h0 : Kept m s0 a0) : Kept m s0 (State.writeIncri a0 a1) := by
  unfold State.writeIncri
  refine State.setFld_kept (hm.sub rfl) rfl (hm.bit rfl) ?_
  refine State.setVal_kept (hm.sub rfl) rfl (hm.bit rfl) ?_
  exact h0

theorem execIncriWrite_kept {m : Nat} {a0} {a1} {a2} {t : State} (hm : Sub 4573976962138120 m) (h : execIncriWrite a0 a1 a2 = .next t) : Kept m a2 t := by
  rw [live_next h]
  have h2 : Kept m a2 a2 := kept_refl
  refine State.writeBy_kept (hm.sub rfl) ?_ ?_
  · exact h2
  · intro y1 k2
    refine State.writeIncri_kept (hm.sub rfl) ?_
    exact k2

theorem State.commitIncr_kept {m : Nat} {s0 : State} {a0} (hm : Sub 70377334636568 m) (h0 : Kept m s0 a0) : Kept m s0 (State.commitIncr a0) := by
  unfold State.commitIncr
  refine kept_ite ?_ ?_
  · extract_lets -merge -useContext +onlyGivenNames s11
    have k_s11 : Kept m s0 s11 := by
      unfold s11
      refine State.setFld_kept (hm.sub rfl) rfl (hm.bit rfl) ?_
      exact h0
    clear_value s11
    refine kept_ite ?_ ?_
    · refine kept_tb (hm.bit rfl) ?_
      exact k_s11
    · refine State.raise_kept (hm.sub rfl) rfl (hm.bit rfl) ?_
      exact k_s11
  · exact h0

theorem State.writeStepcmd_kept {m : Nat} {s0 : State} {a0} {a1} (hm : Sub 70377334636568 m) (h0 : Kept m s0 a0) : Kept m s0 (State.writeStepcmd a0 a1) := by
  unfold State.writeStepcmd
  extract_lets -merge -useContext +onlyGivenNames set1
  extract_lets -merge -useContext +onlyGivenNames adj2
  refine kept_ite ?_ ?_
  · exact h0
  · refine kept_ite ?_ ?_
    · refine State.cfgErr_kept (hm.sub rfl) rfl (hm.bit rfl) ?_
      exact h0
    · refine State.setFld_kept (hm.sub rfl) rfl (hm.bit rfl) ?_
      refine kept_tb (hm.bit rfl) ?_
      exact h0

theorem execStepcmd_kept {m : Nat} {a0} {a1} {a2} {t : State} (hm : Sub 4573976962138136 m) (h : execStepcmd a0 a1 a2 = .next t) : Kept m a2 t := by
  rw [live_next h]
  have h2 : Kept m a2 a2 := kept_refl
  refine State.writeBy_kept (hm.sub rfl) ?_ ?_
  · exact h2
  · intro y1 k2
    refine State.writeStepcmd_kept (hm.sub rfl) ?_
    exact k2

theorem State.readNow_kept {m : Nat} {s0 : State} {a0} {a1} {a2} (hm : Sub 16777232 m) (h0 : Kept m s0 a0) : Kept m s0 (State.readNow a0 a1 a2) := by
  unfold State.readNow
  split
  · extract_lets -merge -useContext +onlyGivenNames l1
    try clear_value l1
    refine State.answer_kept (hm.sub rfl) ?_
    refine kept_tb (hm.bit rfl) ?_
    exact h0

theorem execNowRead_kept {m : Nat} {a0} {a1} {a2} {t : State} (hm : Sub 4573968388980760 m) (h : execNowRead a0 a1 a2 = .next t) : Kept m a2 t := by
  rw [live_next h]
  have h2 : Kept m a2 a2 := kept_refl
  refine State.readBy_kept (hm.sub rfl) ?_ ?_
  · exact h2
  · intro y1 k2
    refine State.readNow_kept (hm.sub rfl) ?_
    exact k2

theorem State.applyLeap_kept {m : Nat} {s0 : State} {a0} (hm : Sub 8589934592 m) (h0 : Kept m s0 a0) : Kept m s0 (State.applyLeap a0) := by
  unfold State.applyLeap
  refine kept_ite ?_ ?_
  · extract_lets -merge -useContext +onlyGivenNames hi1
    try clear_value hi1
    extract_lets -merge -useContext +onlyGivenNames off2
    try clear_value off2
    extract_lets -merge -useContext +onlyGivenNames w3
    try clear_value w3
    refine State.setVal_kept (hm.sub rfl) rfl (hm.bit rfl) ?_
    refine State.setVal_kept (hm.sub rfl) rfl (hm.bit rfl) ?_
    exact h0
  · exact h0

theorem execLeapSecondApply_kept {m : Nat} {a0} {a1} {t : State} (hm : Sub 8589934596 m) (h : execLeapSecondApply a0 a1 = .next t) : Kept m a1 t := by
  rw [liveAt_next h]
  have h1 : ∀ n, Kept m a1 (a1.advanceNs n) := fun _ => State.advanceNs_kept (hm.sub rfl) kept_refl
  refine State.applyLeap_kept (hm.sub rfl) ?_
  exact (h1 _)

theorem State.writeLeapshi_kept {m : Nat} {s0 : State} {a0} {a1} (hm : Sub 8589934592 m) (h0 : Kept m s0 a0) : Kept m s0 (State.writeLeapshi a0 a1) := by
  unfold State.writeLeapshi
  extract_lets -merge -useContext +onlyGivenNames applied1
  try clear_value applied1
  refine State.setVal_kept (hm.sub rfl) rfl (hm.bit rfl) ?_
  exact h0

theorem State.scheduleLeap_kept {m : Nat} {s0 : State} {a0} {a1} {a2} (hm : Sub 8589934592 m) (h0 : Kept m s0 a0) : Kept m s0 (State.scheduleLeap a0 a1 a2) := by
  unfold State.scheduleLeap
  refine State.writeLeapshi_kept (hm.sub rfl) ?_
  refine State.setVal_kept (hm.sub rfl) rfl (hm.bit rfl) ?_
  exact h0

theorem State.servo_kept {m : Nat} {s0 : State} {a0} (hm : Sub 8657043456 m) (h0 : Kept m s0 a0) : Kept m s0 (State.servo a0) := by
  unfold State.servo
  split
  · rename_i z1 z2 e3
    have k4 : Kept m s0 z2 := by
      refine kept_pair_snd e3 ?_
      refine State.draw_kept (hm.sub rfl) ?_
      exact h0
    extract_lets -merge -useContext +onlyGivenNames lo5
    try clear_value lo5
    extract_lets -merge -useContext +onlyGivenNames span6
    try clear_value span6
    extract_lets -merge -useContext +onlyGivenNames v7
    try clear_value v7
    refine State.writeIncri_kept (hm.sub rfl) ?_
    refine State.setVal_kept (hm.sub rfl) rfl (hm.bit rfl) ?_
    exact k4

theorem State.ptp_kept {m : Nat} {s0 : State} {a0} {a1} (hm : Sub 8657043472 m) (h0 : Kept m s0 a0) : Kept m s0 (State.ptp a0 a1) := by
  unfold State.ptp
  refine kept_ite ?_ ?_
  · exact h0
  · refine kept_ite ?_ ?_
    · extract_lets -merge -useContext +onlyGivenNames master1
      try clear_value master1
      extract_lets -merge -useContext +onlyGivenNames s12
      try clear_value s12
      extract_lets -merge -useContext +onlyGivenNames s13
      have k_s13 : Kept m s0 s13 := by
        unfold s13
        refine kept_tb (hm.bit rfl) ?_
        exact h0
      clear_value s13
      refine kept_ite ?_ ?_
      · exact k_s13
      · extract_lets -merge -useContext +onlyGivenNames s24
        have k_s24 : Kept m s0 s24 := by
          unfold s24
          split
          · refine State.setVal_kept (hm.sub rfl) rfl (hm.bit rfl) ?_
            exact k_s13
          · exact k_s13
        clear_value s24
        refine kept_ite ?_ ?_
        · refine State.scheduleLeap_kept (hm.sub rfl) ?_
          exact k_s24
        · refine kept_ite ?_ ?_
          · refine State.scheduleLeap_kept (hm.sub rfl) ?_
            exact k_s24
          · exact k_s24
    · refine kept_ite ?_ ?_
      · exact h0
      · refine State.servo_kept (hm.sub rfl) ?_
        exact h0

theorem execPtpMessage_kept {m : Nat} {a0} {a1} {a2} {t : State} (hm : Sub 8657043476 m) (h : execPtpMessage a0 a1 a2 = .next t) : Kept m a2 t := by
  rw [liveAt_next h]
  have h2 : ∀ n, Kept m a2 (a2.advanceNs n) := fun _ => State.advanceNs_kept (hm.sub rfl) kept_refl
  refine State.ptp_kept (hm.sub rfl) ?_
  exact (h2 _)

theorem State.setIrig_kept {m : Nat} {s0 : State} {a0} {a1} (hm : Sub 8589934592 m) (h0 : Kept m s0 a0) : Kept m s0 (State.setIrig a0 a1) := by
  unfold State.setIrig
  extract_lets -merge -useContext +onlyGivenNames lock1
  try clear_value lock1
  refine State.setFld_kept (hm.sub rfl) rfl (hm.bit rfl) ?_
  refine State.setVal_kept (hm.sub rfl) rfl (hm.bit rfl) ?_
  exact h0

theorem State.irig_kept {m : Nat} {s0 : State} {a0} {a1} (hm : Sub 70377334636568 m) (h0 : Kept m s0 a0) : Kept m s0 (State.irig a0 a1) := by
  unfold State.irig
  refine kept_ite ?_ ?_
  · exact h0
  · refine kept_ite ?_ ?_
    · refine State.raise_kept (hm.sub rfl) rfl (hm.bit rfl) ?_
      refine State.setIrig_kept (hm.sub rfl) ?_
      refine kept_tb (hm.bit rfl) ?_
      exact h0
    · extract_lets -merge -useContext +onlyGivenNames follows1
      try clear_value follows1
      extract_lets -merge -useContext +onlyGivenNames n2
      try clear_value n2
      extract_lets -merge -useContext +onlyGivenNames s13
      try clear_value s13
      extract_lets -merge -useContext +onlyGivenNames s14
      have k_s14 : Kept m s0 s14 := by
        unfold s14
        refine State.setIrig_kept (hm.sub rfl) ?_
        refine kept_tb (hm.bit rfl) ?_
        exact h0
      clear_value s14
      extract_lets -merge -useContext +onlyGivenNames s25
      have k_s25 : Kept m s0 s25 := by
        unfold s25
        refine State.setVal_kept (hm.sub rfl) rfl (hm.bit rfl) ?_
        refine State.setVal_kept (hm.sub rfl) rfl (hm.bit rfl) ?_
        exact k_s14
      clear_value s25
      split
      · refine kept_ite ?_ ?_
        · refine State.scheduleLeap_kept (hm.sub rfl) ?_
          exact k_s25
        · exact k_s25
      · exact k_s25

theorem execIrigFrame_kept {m : Nat} {a0} {a1} {a2} {t : State} (hm : Sub 70377334636572 m) (h : execIrigFrame a0 a1 a2 = .next t) : Kept m a2 t := by
  rw [liveAt_next h]
  have h2 : ∀ n, Kept m a2 (a2.advanceNs n) := fun _ => State.advanceNs_kept (hm.sub rfl) kept_refl
  refine State.irig_kept (hm.sub rfl) ?_
  exact (h2 _)

theorem State.writeHolderr_kept {m : Nat} {s0 : State} {a0} {a1} (hm : Sub 8589934608 m) (h0 : Kept m s0 a0) : Kept m s0 (State.writeHolderr a0 a1) := by
  unfold State.writeHolderr
  extract_lets -merge -useContext +onlyGivenNames x1
  try clear_value x1
  refine State.setVal_kept (hm.sub rfl) rfl (hm.bit rfl) ?_
  refine kept_tb (hm.bit rfl) ?_
  exact h0

theorem State.holdUpdate_kept {m : Nat} {s0 : State} {a0} {a1} (hm : Sub 8589934608 m) (h0 : Kept m s0 a0) : Kept m s0 (State.holdUpdate a0 a1) := by
  unfold State.holdUpdate
  split
  · exact h0
  · extract_lets -merge -useContext +onlyGivenNames err1
    try clear_value err1
    extract_lets -merge -useContext +onlyGivenNames s12
    have k_s12 : Kept m s0 s12 := by
      unfold s12
      refine State.writeHolderr_kept (hm.sub rfl) ?_
      exact h0
    clear_value s12
    extract_lets -merge -useContext +onlyGivenNames unsync3
    try clear_value unsync3
    refine State.setVal_kept (hm.sub rfl) rfl (hm.bit rfl) ?_
    exact k_s12

theorem execTbPllUnlock_kept {m : Nat} {a0} {a1} {t : State} (hm : Sub 70377334636556 m) (h : execTbPllUnlock a0 a1 = .next t) : Kept m a1 t := by
  rw [liveAt_next h]
  have h1 : ∀ n, Kept m a1 (a1.advanceNs n) := fun _ => State.advanceNs_kept (hm.sub rfl) kept_refl
  extract_lets -merge -useContext +onlyGivenNames s11
  have k_s11 : Kept m a1 s11 := by
    unfold s11
    refine State.setFld_kept (hm.sub rfl) rfl (hm.bit rfl) ?_
    refine State.raise_kept (hm.sub rfl) rfl (hm.bit rfl) ?_
    exact (h1 _)
  clear_value s11
  refine State.setFld_kept (hm.sub rfl) rfl (hm.bit rfl) ?_
  refine State.setFld_kept (hm.sub rfl) rfl (hm.bit rfl) ?_
  exact k_s11

theorem execTbPllLock_kept {m : Nat} {a0} {a1} {t : State} (hm : Sub 8589934596 m) (h : execTbPllLock a0 a1 = .next t) : Kept m a1 t := by
  rw [liveAt_next h]
  have h1 : ∀ n, Kept m a1 (a1.advanceNs n) := fun _ => State.advanceNs_kept (hm.sub rfl) kept_refl
  refine State.setFld_kept (hm.sub rfl) rfl (hm.bit rfl) ?_
  exact (h1 _)

theorem State.setTileTimer_kept {m : Nat} {s0 : State} {a0} {a1} {a2} (hm : Sub 16 m) (h0 : Kept m s0 a0) : Kept m s0 (State.setTileTimer a0 a1 a2) := by
  unfold State.setTileTimer
  refine kept_tb (hm.bit rfl) ?_
  exact h0

theorem State.echo_kept {m : Nat} {s0 : State} {a0} {a1} (hm : Sub 8589934608 m) (h0 : Kept m s0 a0) : Kept m s0 (State.echo a0 a1) := by
  unfold State.echo
  refine kept_ite ?_ ?_
  · extract_lets -merge -useContext +onlyGivenNames rate1
    try clear_value rate1
    extract_lets -merge -useContext +onlyGivenNames s12
    have k_s12 : Kept m s0 s12 := by
      unfold s12
      refine State.setVal_kept (hm.sub rfl) rfl (hm.bit rfl) ?_
      refine State.setVal_kept (hm.sub rfl) rfl (hm.bit rfl) ?_
      exact h0
    clear_value s12
    extract_lets -merge -useContext +onlyGivenNames s23
    have k_s23 : Kept m s0 s23 := by
      unfold s23
      refine kept_foldl ?_ ?_
      · exact k_s12
      · intro x6 y4 k5
        refine State.setTileTimer_kept (hm.sub rfl) ?_
        exact k5
    clear_value s23
    refine kept_tb (hm.bit rfl) ?_
    exact k_s23
  · exact h0

theorem execTimeEcho_kept {m : Nat} {a0} {a1} {a2} {t : State} (hm : Sub 8589934612 m) (h : execTimeEcho a0 a1 a2 = .next t) : Kept m a2 t := by
  rw [liveAt_next h]
  have h2 : ∀ n, Kept m a2 (a2.advanceNs n) := fun _ => State.advanceNs_kept (hm.sub rfl) kept_refl
  refine State.echo_kept (hm.sub rfl) ?_
  exact (h2 _)

theorem execTileCompareFire_kept {m : Nat} {a0} {a1} {a2} {a3} {t : State} (hm : Sub 16 m) (h : execTileCompareFire a0 a1 a2 a3 = .next t) : Kept m a3 t := by
  rw [live_next h]
  have h3 : Kept m a3 a3 := kept_refl
  refine State.setTileTimer_kept (hm.sub rfl) ?_
  exact h3

theorem State.setCmpTarget_kept {m : Nat} {s0 : State} {a0} {a1} {a2} (hm : Sub 16 m) (h0 : Kept m s0 a0) : Kept m s0 (State.setCmpTarget a0 a1 a2) := by
  unfold State.setCmpTarget
  refine kept_tb (hm.bit rfl) ?_
  exact h0

theorem State.cmpWrite_kept {m : Nat} {s0 : State} {a0} {a1} {a2} {a3} (hm : Sub 70377334636552 m) (h0 : Kept m s0 a0) (h3 : ∀ y0, Kept m s0 y0 → Kept m s0 (a3 y0)) : Kept m s0 (State.cmpWrite a0 a1 a2 a3) := by
  unfold State.cmpWrite
  refine kept_ite ?_ ?_
  · refine State.raise_kept (hm.sub rfl) rfl (hm.bit rfl) ?_
    exact h0
  · refine h3 _ ?_
    exact h0

theorem State.writeCmpTgt_kept {m : Nat} {s0 : State} {a0} {a1} {a2} (hm : Sub 8589934608 m) (h0 : Kept m s0 a0) : Kept m s0 (State.writeCmpTgt a0 a1 a2) := by
  unfold State.writeCmpTgt
  extract_lets -merge -useContext +onlyGivenNames s11
  have k_s11 : Kept m s0 s11 := by
    unfold s11
    refine State.setCmpTarget_kept (hm.sub rfl) ?_
    refine State.setVal_kept (hm.sub rfl) (show _ / 1048576 % 32 = 1 by unfold Reg.TB_CMPnTGT; omega) (hm.bit rfl) ?_
    exact h0
  clear_value s11
  refine kept_ite ?_ ?_
  · refine State.setFld_kept (hm.sub rfl) (show _ / 1048576 % 32 = 1 by unfold Reg.TB_CMPnSTAT; omega) (hm.bit rfl) ?_
    exact k_s11
  · exact k_s11

theorem execCmpTargetWrite_kept {m : Nat} {a0} {a1} {a2} {a3} {t : State} (hm : Sub 4573976962138136 m) (h : execCmpTargetWrite a0 a1 a2 a3 = .next t) : Kept m a3 t := by
  rw [live_next h]
  have h3 : Kept m a3 a3 := kept_refl
  refine State.writeBy_kept (hm.sub rfl) ?_ ?_
  · exact h3
  · intro y1 k2
    refine State.cmpWrite_kept (hm.sub rfl) ?_ ?_
    · exact k2
    · intro y3 k4
      refine State.writeCmpTgt_kept (hm.sub rfl) ?_
      exact k4

theorem State.writeCmpCtl_kept {m : Nat} {s0 : State} {a0} {a1} {a2} (hm : Sub 70377334636552 m) (h0 : Kept m s0 a0) : Kept m s0 (State.writeCmpCtl a0 a1 a2) := by
  unfold State.writeCmpCtl
  refine kept_ite ?_ ?_
  · refine State.cfgErr_kept (hm.sub rfl) rfl (hm.bit rfl) ?_
    exact h0
  · extract_lets -merge -useContext +onlyGivenNames was1
    try clear_value was1
    extract_lets -merge -useContext +onlyGivenNames s12
    have k_s12 : Kept m s0 s12 := by
      unfold s12
      refine State.setVal_kept (hm.sub rfl) (show _ / 1048576 % 32 = 1 by unfold Reg.TB_CMPnCTL; omega) (hm.bit rfl) ?_
      exact h0
    clear_value s12
    refine kept_ite ?_ ?_
    · exact k_s12
    · refine State.setFld_kept (hm.sub rfl) (show _ / 1048576 % 32 = 1 by unfold Reg.TB_CMPnSTAT; omega) (hm.bit rfl) ?_
      exact k_s12

theorem execCmpCtlWrite_kept {m : Nat} {a0} {a1} {a2} {a3} {t : State} (hm : Sub 4573976962138120 m) (h : execCmpCtlWrite a0 a1 a2 a3 = .next t) : Kept m a3 t := by
  rw [live_next h]
  have h3 : Kept m a3 a3 := kept_refl
  refine State.writeBy_kept (hm.sub rfl) ?_ ?_
  · exact h3
  · intro y1 k2
    refine State.cmpWrite_kept (hm.sub rfl) ?_ ?_
    · exact k2
    · intro y3 k4
      refine State.writeCmpCtl_kept (hm.sub rfl) ?_
      exact k4

theorem State.setTpo_kept {m : Nat} {s0 : State} {a0} {a1} {a2} (hm : Sub 16 m) (h0 : Kept m s0 a0) : Kept m s0 (State.setTpo a0 a1 a2) := by
  unfold State.setTpo
  refine kept_tb (hm.bit rfl) ?_
  exact h0

theorem State.fireTpo_kept {m : Nat} {s0 : State} {a0} {a1} (hm : Sub 16 m) (h0 : Kept m s0 a0) : Kept m s0 (State.fireTpo a0 a1) := by
  unfold State.fireTpo
  extract_lets -merge -useContext +onlyGivenNames cfg1
  try clear_value cfg1
  refine kept_ite ?_ ?_
  · exact h0
  · refine kept_ite ?_ ?_
    · refine State.setTpo_kept (hm.sub rfl) ?_
      exact h0
    · refine State.setTpo_kept (hm.sub rfl) ?_
      exact h0

theorem execTpoPulseEnd_kept {m : Nat} {a0} {a1} {a2} {t : State} (hm : Sub 20 m) (h : execTpoPulseEnd a0 a1 a2 = .next t) : Kept m a2 t := by
  rw [liveAt_next h]
  have h2 : ∀ n, Kept m a2 (a2.advanceNs n) := fun _ => State.advanceNs_kept (hm.sub rfl) kept_refl
  split
  · refine kept_ite ?_ ?_
    · refine State.setTpo_kept (hm.sub rfl) ?_
      exact (h2 _)
    · exact (h2 _)
  · exact (h2 _)

theorem State.writeTbCtl_kept {m : Nat} {s0 : State} {a0} {a1} (hm : Sub 8589934608 m) (h0 : Kept m s0 a0) : Kept m s0 (State.writeTbCtl a0 a1) := by
  unfold State.writeTbCtl
  extract_lets -merge -useContext +onlyGivenNames s11
  have k_s11 : Kept m s0 s11 := by
    unfold s11
    refine State.setVal_kept (hm.sub rfl) rfl (hm.bit rfl) ?_
    exact h0
  clear_value s11
  refine kept_ite ?_ ?_
  · refine kept_tb (hm.bit rfl) ?_
    exact k_s11
  · exact k_s11

theorem State.setTdc_kept {m : Nat} {s0 : State} {a0} {a1} {a2} (hm : Sub 16 m) (h0 : Kept m s0 a0) : Kept m s0 (State.setTdc a0 a1 a2) := by
  unfold State.setTdc
  refine kept_tb (hm.bit rfl) ?_
  exact h0

theorem State.readTdc_kept {m : Nat} {s0 : State} {a0} {a1} (hm : Sub 16777232 m) (h0 : Kept m s0 a0) : Kept m s0 (State.readTdc a0 a1) := by
  unfold State.readTdc
  extract_lets -merge -useContext +onlyGivenNames x1
  try clear_value x1
  refine State.answer_kept (hm.sub rfl) ?_
  refine State.setTdc_kept (hm.sub rfl) ?_
  exact h0

theorem execTdcStampRead_kept {m : Nat} {a0} {a1} {a2} {t : State} (hm : Sub 4573968388980760 m) (h : execTdcStampRead a0 a1 a2 = .next t) : Kept m a2 t := by
  rw [live_next h]
  have h2 : Kept m a2 a2 := kept_refl
  refine State.readBy_kept (hm.sub rfl) ?_ ?_
  · exact h2
  · intro y1 k2
    refine State.readTdc_kept (hm.sub rfl) ?_
    exact k2


end Sys2Proof.Machine
end

