-- ==== Sys2Proof/Laws/KeptSnap.lean ====
section
/-!
SUPPORT. What each operation of Machine/Snap.lean may change: one lemma per operation, its mask of parts and register blocks in `hm`.
-/
namespace Sys2Proof.Machine

theorem State.setSc_kept {m : Nat} {s0 : State} {a0} {a1} {a2} (hm : Sub 128 m) (h0 : Kept m s0 a0) : Kept m s0 (State.setSc a0 a1 a2) := by
  unfold State.setSc
  refine kept_snap (hm.bit rfl) ?_
  exact h0

theorem State.setStream_kept {m : Nat} {s0 : State} {a0} {a1} {a2} (hm : Sub 128 m) (h0 : Kept m s0 a0) : Kept m s0 (State.setStream a0 a1 a2) := by
  unfold State.setStream
  refine kept_snap (hm.bit rfl) ?_
  exact h0

theorem State.putSnap_kept {m : Nat} {s0 : State} {a0} {a1} {a2} (hm : Sub 128 m) (h0 : Kept m s0 a0) : Kept m s0 (State.putSnap a0 a1 a2) := by
  unfold State.putSnap
  refine State.setSc_kept (hm.sub rfl) ?_
  exact h0

theorem State.learn_kept {m : Nat} {s0 : State} {a0} {a1} {a2} {a3} (hm : Sub 128 m) (h0 : Kept m s0 a0) : Kept m s0 (State.learn a0 a1 a2 a3) := by
  unfold State.learn
  refine kept_ite ?_ ?_
  · extract_lets -merge -useContext +onlyGivenNames r1
    try clear_value r1
    extract_lets -merge -useContext +onlyGivenNames h2
    try clear_value h2
    extract_lets -merge -useContext +onlyGivenNames r13
    try clear_value r13
    extract_lets -merge -useContext +onlyGivenNames r24
    try clear_value r24
    refine State.setStream_kept (hm.sub rfl) ?_
    exact h0
  · exact h0

theorem State.spillAmended_kept {m : Nat} {s0 : State} {a0} {a1} (hm : Sub 128 m) (h0 : Kept m s0 a0) : Kept m s0 (State.spillAmended a0 a1) := by
  unfold State.spillAmended
  extract_lets -merge -useContext +onlyGivenNames cands1
  try clear_value cands1
  refine kept_foldl ?_ ?_
  · exact h0
  · intro x4 y2 k3
    refine kept_ite ?_ ?_
    · exact k3
    · extract_lets -merge -useContext +onlyGivenNames k5
      try clear_value k5
      refine State.putSnap_kept (hm.sub rfl) ?_
      exact k3

theorem State.dropAmend_kept {m : Nat} {s0 : State} {a0} (hm : Sub 128 m) (h0 : Kept m s0 a0) : Kept m s0 (State.dropAmend a0) := by
  unfold State.dropAmend
  extract_lets -merge -useContext +onlyGivenNames cands1
  try clear_value cands1
  split
  · exact h0
  · extract_lets -merge -useContext +onlyGivenNames o2
    try clear_value o2
    refine State.setSc_kept (hm.sub rfl) ?_
    exact h0

theorem State.noteSpill_kept {m : Nat} {s0 : State} {a0} {a1} (hm : Sub 70437464178696 m) (h0 : Kept m s0 a0) (h1 : Kept m s0 a1) : Kept m s0 (State.noteSpill a0 a1) := by
  unfold State.noteSpill
  refine kept_ite ?_ ?_
  · refine State.raise_kept (hm.sub rfl) rfl (hm.bit rfl) ?_
    exact h1
  · exact h1

theorem State.takeSlots_kept {m : Nat} {s0 : State} {a0} {a1} {a2} {a3} (hm : Sub 128 m) (h0 : Kept m s0 a0) : Kept m s0 ((State.takeSlots a0 a1 a2 a3).1) := by
  induction a3 generalizing a0 with
  | zero =>
    unfold State.takeSlots
    exact kept_ite_fst h0 (State.spillAmended_kept (hm.sub rfl) h0)
  | succ n ih =>
    unfold State.takeSlots
    refine kept_ite_fst h0 ?_
    refine kept_ite_fst ?_ ?_
    · exact ih (State.dropAmend_kept (hm.sub rfl) (State.spillAmended_kept (hm.sub rfl) h0))
    · exact State.spillAmended_kept (hm.sub rfl) h0

theorem State.openSnap_kept {m : Nat} {s0 : State} {a0} {a1} {a2} {a3} (hm : Sub 351912441938056 m) (h0 : Kept m s0 a0) : Kept m s0 (State.openSnap a0 a1 a2 a3) := by
  unfold State.openSnap
  extract_lets -merge -useContext +onlyGivenNames rate1
  try clear_value rate1
  extract_lets -merge -useContext +onlyGivenNames inst2
  try clear_value inst2
  extract_lets -merge -useContext +onlyGivenNames ms3
  try clear_value ms3
  extract_lets -merge -useContext +onlyGivenNames keep4
  try clear_value keep4
  extract_lets -merge -useContext +onlyGivenNames s5
  try clear_value s5
  extract_lets -merge -useContext +onlyGivenNames s6
  have k_s6 : Kept m s0 s6 := by
    unfold s6
    refine kept_chd (hm.bit rfl) ?_
    exact h0
  clear_value s6
  extract_lets -merge -useContext +onlyGivenNames w7
  try clear_value w7
  extract_lets -merge -useContext +onlyGivenNames head8
  try clear_value head8
  split
  · rename_i z9 z10 z11 e12
    have k13 : Kept m s0 z9 := by
      refine kept_pair_fst e12 ?_
      refine State.takeSlots_kept (hm.sub rfl) ?_
      exact k_s6
    extract_lets -merge -useContext +onlyGivenNames x14
    try clear_value x14
    extract_lets -merge -useContext +onlyGivenNames c15
    try clear_value c15
    extract_lets -merge -useContext +onlyGivenNames s216
    have k_s216 : Kept m s0 s216 := by
      unfold s216
      refine State.setSc_kept (hm.sub rfl) ?_
      exact k13
    clear_value s216
    extract_lets -merge -useContext +onlyGivenNames changed17
    try clear_value changed17
    extract_lets -merge -useContext +onlyGivenNames s318
    have k_s318 : Kept m s0 s318 := by
      unfold s318
      refine kept_ite ?_ ?_
      · refine State.sendDelta_kept (hm.sub rfl) ?_
        exact k_s216
      · exact k_s216
    clear_value s318
    refine State.noteSpill_kept (hm.sub rfl) ?_ ?_
    · exact k_s6
    · refine State.setVal_kept (hm.sub rfl) (show _ / 1048576 % 32 = 4 by unfold Reg.SNAP_SCnWCUR; omega) (hm.bit rfl) ?_
      exact k_s318

theorem execSnapshotOpen_kept {m : Nat} {a0} {a1} {a2} {t : State} (hm : Sub 351912441938060 m) (h : execSnapshotOpen a0 a1 a2 = .next t) : Kept m a2 t := by
  rw [liveAt_next h]
  have h2 : ∀ n, Kept m a2 (a2.advanceNs n) := fun _ => State.advanceNs_kept (hm.sub rfl) kept_refl
  refine kept_ite ?_ ?_
  · split
    · refine kept_ite ?_ ?_
      · refine State.openSnap_kept (hm.sub rfl) ?_
        exact (h2 _)
      · exact (h2 _)
  · exact (h2 _)

theorem State.placeIn_kept {m : Nat} {s0 : State} {a0} {a1} {a2} {a3} {a4} (hm : Sub 70437464178824 m) (h0 : Kept m s0 a0) : Kept m s0 (State.placeIn a0 a1 a2 a3 a4) := by
  unfold State.placeIn
  refine kept_ite ?_ ?_
  · refine State.bump_kept (hm.sub rfl) (show _ / 1048576 % 32 = 4 by unfold Reg.SNAP_SCnNOTMEMB; omega) (hm.bit rfl) ?_
    exact h0
  · refine kept_ite ?_ ?_
    · refine State.bump_kept (hm.sub rfl) (show _ / 1048576 % 32 = 4 by unfold Reg.SNAP_SCnDUP; omega) (hm.bit rfl) ?_
      exact h0
    · extract_lets -merge -useContext +onlyGivenNames late1
      try clear_value late1
      extract_lets -merge -useContext +onlyGivenNames s12
      have k_s12 : Kept m s0 s12 := by
        unfold s12
        refine kept_ite ?_ ?_
        · refine State.bump_kept (hm.sub rfl) (show _ / 1048576 % 32 = 4 by unfold Reg.SNAP_SCnLATE; omega) (hm.bit rfl) ?_
          exact h0
        · exact h0
      clear_value s12
      refine kept_ite ?_ ?_
      · refine State.bump_kept (hm.sub rfl) (show _ / 1048576 % 32 = 4 by unfold Reg.SNAP_SCnSTALE; omega) (hm.bit rfl) ?_
        exact k_s12
      · refine kept_ite ?_ ?_
        · refine State.raise_kept (hm.sub rfl) rfl (hm.bit rfl) ?_
          refine State.putSnap_kept (hm.sub rfl) ?_
          exact k_s12
        · refine State.putSnap_kept (hm.sub rfl) ?_
          exact k_s12

theorem State.placePast_kept {m : Nat} {s0 : State} {a0} {a1} {a2} {a3} (hm : Sub 68719476864 m) (h0 : Kept m s0 a0) : Kept m s0 (State.placePast a0 a1 a2 a3) := by
  unfold State.placePast
  split
  · refine kept_ite ?_ ?_
    · refine State.bump_kept (hm.sub rfl) (show _ / 1048576 % 32 = 4 by unfold Reg.SNAP_SCnNOTMEMB; omega) (hm.bit rfl) ?_
      exact h0
    · refine kept_ite ?_ ?_
      · refine State.bump_kept (hm.sub rfl) (show _ / 1048576 % 32 = 4 by unfold Reg.SNAP_SCnDUP; omega) (hm.bit rfl) ?_
        exact h0
      · extract_lets -merge -useContext +onlyGivenNames c1
        try clear_value c1
        extract_lets -merge -useContext +onlyGivenNames s12
        have k_s12 : Kept m s0 s12 := by
          unfold s12
          refine State.setSc_kept (hm.sub rfl) ?_
          exact h0
        clear_value s12
        refine State.bump_kept (hm.sub rfl) (show _ / 1048576 % 32 = 4 by unfold Reg.SNAP_SCnSTALE; omega) (hm.bit rfl) ?_
        refine State.bump_kept (hm.sub rfl) (show _ / 1048576 % 32 = 4 by unfold Reg.SNAP_SCnLATE; omega) (hm.bit rfl) ?_
        exact k_s12
  · refine State.bump_kept (hm.sub rfl) (show _ / 1048576 % 32 = 4 by unfold Reg.SNAP_SCnSTALE; omega) (hm.bit rfl) ?_
    exact h0

theorem State.placeFrame_kept {m : Nat} {s0 : State} {a0} {a1} {a2} {a3} (hm : Sub 351912441938056 m) (h0 : Kept m s0 a0) : Kept m s0 (State.placeFrame a0 a1 a2 a3) := by
  unfold State.placeFrame
  refine kept_ite ?_ ?_
  · exact h0
  · split
    · extract_lets -merge -useContext +onlyGivenNames inst1
      try clear_value inst1
      refine kept_ite ?_ ?_
      · refine State.bump_kept (hm.sub rfl) (show _ / 1048576 % 32 = 4 by unfold Reg.SNAP_SCnOFFGRID; omega) (hm.bit rfl) ?_
        exact h0
      · refine kept_ite ?_ ?_
        · refine State.bump_kept (hm.sub rfl) (show _ / 1048576 % 32 = 4 by unfold Reg.SNAP_SCnEARLY; omega) (hm.bit rfl) ?_
          exact h0
        · extract_lets -merge -useContext +onlyGivenNames s12
          have k_s12 : Kept m s0 s12 := by
            unfold s12
            refine State.learn_kept (hm.sub rfl) ?_
            exact h0
          clear_value s12
          split
          · refine State.placeIn_kept (hm.sub rfl) ?_
            exact k_s12
          · refine kept_ite ?_ ?_
            · extract_lets -merge -useContext +onlyGivenNames s23
              have k_s23 : Kept m s0 s23 := by
                unfold s23
                refine State.openSnap_kept (hm.sub rfl) ?_
                exact k_s12
              clear_value s23
              split
              · refine State.placeIn_kept (hm.sub rfl) ?_
                exact k_s23
              · exact k_s23
            · refine State.placePast_kept (hm.sub rfl) ?_
              exact k_s12

theorem State.toSub_kept {m : Nat} {s0 : State} {a0} {a1} {a2} (hm : Sub 70437464178826 m) (h0 : Kept m s0 a0) : Kept m s0 (State.toSub a0 a1 a2) := by
  unfold State.toSub
  extract_lets -merge -useContext +onlyGivenNames ctl1
  try clear_value ctl1
  extract_lets -merge -useContext +onlyGivenNames kinds2
  try clear_value kinds2
  refine kept_ite ?_ ?_
  · exact h0
  · extract_lets -merge -useContext +onlyGivenNames size3
    try clear_value size3
    extract_lets -merge -useContext +onlyGivenNames head4
    try clear_value head4
    extract_lets -merge -useContext +onlyGivenNames tail5
    try clear_value tail5
    extract_lets -merge -useContext +onlyGivenNames d6
    try clear_value d6
    extract_lets -merge -useContext +onlyGivenNames own7
    try clear_value own7
    refine kept_ite ?_ ?_
    · extract_lets -merge -useContext +onlyGivenNames n8
      try clear_value n8
      refine State.raise_kept (hm.sub rfl) rfl (hm.bit rfl) ?_
      refine State.bump_kept (hm.sub rfl) (show _ / 1048576 % 32 = 4 by unfold Reg.SNAP_SUBkDROP; omega) (hm.bit rfl) ?_
      refine kept_snap (hm.bit rfl) ?_
      exact h0
    · extract_lets -merge -useContext +onlyGivenNames x9
      try clear_value x9
      extract_lets -merge -useContext +onlyGivenNames buf10
      try clear_value buf10
      extract_lets -merge -useContext +onlyGivenNames cap11
      try clear_value cap11
      extract_lets -merge -useContext +onlyGivenNames n12
      try clear_value n12
      extract_lets -merge -useContext +onlyGivenNames s113
      have k_s113 : Kept m s0 s113 := by
        unfold s113
        refine State.putHost_kept (hm.sub rfl) ?_
        exact h0
      clear_value s113
      extract_lets -merge -useContext +onlyGivenNames s214
      have k_s214 : Kept m s0 s214 := by
        unfold s214
        refine State.putHost_kept (hm.sub rfl) ?_
        exact k_s113
      clear_value s214
      extract_lets -merge -useContext +onlyGivenNames s315
      have k_s315 : Kept m s0 s315 := by
        unfold s315
        refine State.setVal_kept (hm.sub rfl) (show _ / 1048576 % 32 = 4 by unfold Reg.SNAP_SUBkHEAD; omega) (hm.bit rfl) ?_
        exact k_s214
      clear_value s315
      refine State.event_kept (hm.sub rfl) ?_
      refine kept_snap (hm.bit rfl) ?_
      exact k_s315

theorem State.toSubs_kept {m : Nat} {s0 : State} {a0} {a1} (hm : Sub 70437464178826 m) (h0 : Kept m s0 a0) : Kept m s0 (State.toSubs a0 a1) := by
  unfold State.toSubs
  refine kept_foldl ?_ ?_
  · exact h0
  · intro x3 y1 k2
    refine State.toSub_kept (hm.sub rfl) ?_
    exact k2

theorem State.setLast_kept {m : Nat} {s0 : State} {a0} {a1} (hm : Sub 128 m) (h0 : Kept m s0 a0) : Kept m s0 (State.setLast a0 a1) := by
  unfold State.setLast
  extract_lets -merge -useContext +onlyGivenNames l1
  try clear_value l1
  refine State.setSc_kept (hm.sub rfl) ?_
  exact h0

theorem State.readLast_kept {m : Nat} {s0 : State} {a0} {a1} {a2} (hm : Sub 16777344 m) (h0 : Kept m s0 a0) : Kept m s0 (State.readLast a0 a1 a2) := by
  unfold State.readLast
  extract_lets -merge -useContext +onlyGivenNames key1
  try clear_value key1
  extract_lets -merge -useContext +onlyGivenNames old2
  try clear_value old2
  extract_lets -merge -useContext +onlyGivenNames ws3
  try clear_value ws3
  refine State.answer_kept (hm.sub rfl) ?_
  refine kept_snap (hm.bit rfl) ?_
  exact h0

theorem execLastRead_kept {m : Nat} {a0} {a1} {a2} {t : State} (hm : Sub 4573968388980872 m) (h : execLastRead a0 a1 a2 = .next t) : Kept m a2 t := by
  rw [live_next h]
  have h2 : Kept m a2 a2 := kept_refl
  refine State.readBy_kept (hm.sub rfl) ?_ ?_
  · exact h2
  · intro y1 k2
    refine State.readLast_kept (hm.sub rfl) ?_
    exact k2

theorem State.freeSnap_kept {m : Nat} {s0 : State} {a0} {a1} {a2} (hm : Sub 128 m) (h0 : Kept m s0 a0) : Kept m s0 (State.freeSnap a0 a1 a2) := by
  unfold State.freeSnap
  extract_lets -merge -useContext +onlyGivenNames c1
  try clear_value c1
  refine State.setSc_kept (hm.sub rfl) ?_
  exact h0

theorem execPromotionComplete_kept {m : Nat} {a0} {a1} {a2} {t : State} (hm : Sub 132 m) (h : execPromotionComplete a0 a1 a2 = .next t) : Kept m a2 t := by
  rw [liveAt_next h]
  have h2 : ∀ n, Kept m a2 (a2.advanceNs n) := fun _ => State.advanceNs_kept (hm.sub rfl) kept_refl
  split
  · refine kept_ite ?_ ?_
    · refine State.putSnap_kept (hm.sub rfl) ?_
      exact (h2 _)
    · exact (h2 _)
  · exact (h2 _)

theorem subBody_kept {m : Nat} {s0 : State} {a0} {a1} {a2} {a3} {a4} {a5} {a6} (hm : Sub 68720001152 m) (h6 : Kept m s0 a6) : Kept m s0 ((subBody a0 a1 a2 a3 a4 a5 a6).1) := by
  unfold subBody
  split
  · refine kept_mkp_fst ?_
    exact h6
  · refine kept_ite_fst ?_ ?_
    · refine kept_mkp_fst ?_
      exact h6
    · refine kept_ite_fst ?_ ?_
      · refine kept_mkp_fst ?_
        exact h6
      · extract_lets -merge -useContext +onlyGivenNames s11
        have k_s11 : Kept m s0 s11 := by
          unfold s11
          refine State.setVal_kept (hm.sub rfl) (show _ / 1048576 % 32 = 4 by unfold Reg.SNAP_SUBkBASEHI; omega) (hm.bit rfl) ?_
          refine State.setVal_kept (hm.sub rfl) (show _ / 1048576 % 32 = 4 by unfold Reg.SNAP_SUBkBASELO; omega) (hm.bit rfl) ?_
          refine State.setVal_kept (hm.sub rfl) (show _ / 1048576 % 32 = 4 by unfold Reg.SNAP_SUBkCTL; omega) (hm.bit rfl) ?_
          exact h6
        clear_value s11
        extract_lets -merge -useContext +onlyGivenNames s22
        have k_s22 : Kept m s0 s22 := by
          unfold s22
          refine State.setVal_kept (hm.sub rfl) (show _ / 1048576 % 32 = 4 by unfold Reg.SNAP_SUBkTAIL; omega) (hm.bit rfl) ?_
          refine State.setVal_kept (hm.sub rfl) (show _ / 1048576 % 32 = 4 by unfold Reg.SNAP_SUBkHEAD; omega) (hm.bit rfl) ?_
          refine State.setVal_kept (hm.sub rfl) (show _ / 1048576 % 32 = 4 by unfold Reg.SNAP_SUBkSIZE; omega) (hm.bit rfl) ?_
          exact k_s11
        clear_value s22
        extract_lets -merge -useContext +onlyGivenNames cfg3
        try clear_value cfg3
        extract_lets -merge -useContext +onlyGivenNames cfg14
        try clear_value cfg14
        extract_lets -merge -useContext +onlyGivenNames s35
        try clear_value s35
        extract_lets -merge -useContext +onlyGivenNames s36
        try clear_value s36
        extract_lets -merge -useContext +onlyGivenNames s37
        have k_s37 : Kept m s0 s37 := by
          unfold s37
          refine kept_mk ?_ (.inr rfl) (.inr rfl) (.inr rfl) (.inr rfl) (.inr rfl) (.inl (hm.bit rfl)) (.inr rfl) (.inr rfl) (.inr rfl) (.inr rfl) (.inr rfl) (.inr rfl) (.inr rfl) (.inr rfl) (.inr rfl) (.inr rfl) (.inr rfl) (.inl (hm.bit rfl)) (.inr rfl) (.inr rfl) (.inr rfl) (.inr rfl) (.inr rfl) (.inr rfl) (.inr rfl) (.inr rfl)
          exact k_s22
        clear_value s37
        refine kept_mkp_fst ?_
        exact k_s37

theorem State.subscribe_kept {m : Nat} {s0 : State} {a0} {a1} {a2} {a3} {a4} {a5} {a6} {a7} (hm : Sub 633391731441800 m) (h0 : Kept m s0 a0) : Kept m s0 (State.subscribe a0 a1 a2 a3 a4 a5 a6 a7) := by
  unfold State.subscribe
  refine State.hostCmd_kept (hm.sub rfl) ?_ ?_
  · exact h0
  · intro y1 k2
    refine subBody_kept (hm.sub rfl) ?_
    exact k2

theorem execSnapSubscribe_kept {m : Nat} {a0} {a1} {a2} {a3} {a4} {a5} {a6} {a7} {t : State} (hm : Sub 633391731441800 m) (h : execSnapSubscribe a0 a1 a2 a3 a4 a5 a6 a7 = .next t) : Kept m a7 t := by
  rw [live_next h]
  have h7 : Kept m a7 a7 := kept_refl
  refine State.subscribe_kept (hm.sub rfl) ?_
  exact h7

theorem unsubBody_kept {m : Nat} {s0 : State} {a0} {a1} (hm : Sub 68719476736 m) (h1 : Kept m s0 a1) : Kept m s0 ((unsubBody a0 a1).1) := by
  unfold unsubBody
  refine kept_ite_fst ?_ ?_
  · refine kept_mkp_fst ?_
    exact h1
  · refine kept_mkp_fst ?_
    refine State.setVal_kept (hm.sub rfl) (show _ / 1048576 % 32 = 4 by unfold Reg.SNAP_SUBkCTL; omega) (hm.bit rfl) ?_
    exact h1

theorem State.unsubscribe_kept {m : Nat} {s0 : State} {a0} {a1} {a2} (hm : Sub 633391731441672 m) (h0 : Kept m s0 a0) : Kept m s0 (State.unsubscribe a0 a1 a2) := by
  unfold State.unsubscribe
  refine State.hostCmd_kept (hm.sub rfl) ?_ ?_
  · exact h0
  · intro y1 k2
    refine unsubBody_kept (hm.sub rfl) ?_
    exact k2

theorem execSnapUnsubscribe_kept {m : Nat} {a0} {a1} {a2} {t : State} (hm : Sub 633391731441672 m) (h : execSnapUnsubscribe a0 a1 a2 = .next t) : Kept m a2 t := by
  rw [live_next h]
  have h2 : Kept m a2 a2 := kept_refl
  refine State.unsubscribe_kept (hm.sub rfl) ?_
  exact h2

theorem State.writePwval_kept {m : Nat} {s0 : State} {a0} {a1} (hm : Sub 281474977759360 m) (h0 : Kept m s0 a0) : Kept m s0 (State.writePwval a0 a1) := by
  unfold State.writePwval
  extract_lets -merge -useContext +onlyGivenNames vid1
  try clear_value vid1
  refine State.sendDelta_kept (hm.sub rfl) ?_
  refine State.setStream_kept (hm.sub rfl) ?_
  exact h0

theorem execWeightWrite_kept {m : Nat} {a0} {a1} {a2} {t : State} (hm : Sub 4855443349962888 m) (h : execWeightWrite a0 a1 a2 = .next t) : Kept m a2 t := by
  rw [live_next h]
  have h2 : Kept m a2 a2 := kept_refl
  refine State.writeBy_kept (hm.sub rfl) ?_ ?_
  · exact h2
  · intro y1 k2
    refine State.writePwval_kept (hm.sub rfl) ?_
    exact k2

theorem State.setPstate_kept {m : Nat} {s0 : State} {a0} {a1} {a2} {a3} {a4} {a5} (hm : Sub 68719476736 m) (h0 : Kept m s0 a0) : Kept m s0 (State.setPstate a0 a1 a2 a3 a4 a5) := by
  unfold State.setPstate
  refine State.setVal_kept (hm.sub rfl) (show _ / 1048576 % 32 = 4 by unfold Reg.SNAP_SCnPSTATE; omega) (hm.bit rfl) ?_
  exact h0

theorem State.changeLevel_kept {m : Nat} {s0 : State} {a0} {a1} {a2} {a3} {a4} {a5} {a6} (hm : Sub 914862397456520 m) (h0 : Kept m s0 a0) : Kept m s0 (State.changeLevel a0 a1 a2 a3 a4 a5 a6) := by
  unfold State.changeLevel
  extract_lets -merge -useContext +onlyGivenNames old1
  try clear_value old1
  extract_lets -merge -useContext +onlyGivenNames s12
  try clear_value s12
  extract_lets -merge -useContext +onlyGivenNames s13
  have k_s13 : Kept m s0 s13 := by
    unfold s13
    refine State.setSc_kept (hm.sub rfl) ?_
    refine State.setPstate_kept (hm.sub rfl) ?_
    exact h0
  clear_value s13
  extract_lets -merge -useContext +onlyGivenNames s24
  have k_s24 : Kept m s0 s24 := by
    unfold s24
    refine State.offer_kept (hm.sub rfl) ?_
    exact k_s13
  clear_value s24
  extract_lets -merge -useContext +onlyGivenNames s25
  have k_s25 : Kept m s0 s25 := by
    unfold s25
    refine kept_ite ?_ ?_
    · exact k_s13
    · refine kept_ite ?_ ?_
      · refine State.raise_kept (hm.sub rfl) rfl (hm.bit rfl) ?_
        exact k_s24
      · exact k_s24
  clear_value s25
  refine State.sendDelta_kept (hm.sub rfl) ?_
  exact k_s25

theorem State.writeLevel_kept {m : Nat} {s0 : State} {a0} {a1} {a2} (hm : Sub 914862397456520 m) (h0 : Kept m s0 a0) : Kept m s0 (State.writeLevel a0 a1 a2) := by
  unfold State.writeLevel
  refine kept_ite ?_ ?_
  · refine State.cfgErr_kept (hm.sub rfl) rfl (hm.bit rfl) ?_
    exact h0
  · refine State.changeLevel_kept (hm.sub rfl) ?_
    exact h0

theorem execLevelWrite_kept {m : Nat} {a0} {a1} {a2} {a3} {t : State} (hm : Sub 5418462024958088 m) (h : execLevelWrite a0 a1 a2 a3 = .next t) : Kept m a3 t := by
  rw [live_next h]
  have h3 : Kept m a3 a3 := kept_refl
  refine State.writeBy_kept (hm.sub rfl) ?_ ?_
  · exact h3
  · intro y1 k2
    refine State.writeLevel_kept (hm.sub rfl) ?_
    exact k2

theorem execLevelRelax_kept {m : Nat} {a0} {a1} {a2} {t : State} (hm : Sub 914862397456524 m) (h : execLevelRelax a0 a1 a2 = .next t) : Kept m a2 t := by
  rw [liveAt_next h]
  have h2 : ∀ n, Kept m a2 (a2.advanceNs n) := fun _ => State.advanceNs_kept (hm.sub rfl) kept_refl
  extract_lets -merge -useContext +onlyGivenNames pr1
  try clear_value pr1
  extract_lets -merge -useContext +onlyGivenNames l2
  try clear_value l2
  refine kept_ite ?_ ?_
  · exact (h2 _)
  · refine State.changeLevel_kept (hm.sub rfl) ?_
    exact (h2 _)

theorem execDebtLeak_kept {m : Nat} {a0} {a1} {t : State} (hm : Sub 281543697235972 m) (h : execDebtLeak a0 a1 = .next t) : Kept m a1 t := by
  rw [liveAt_next h]
  have h1 : ∀ n, Kept m a1 (a1.advanceNs n) := fun _ => State.advanceNs_kept (hm.sub rfl) kept_refl
  refine kept_ite ?_ ?_
  · exact (h1 _)
  · refine kept_foldl ?_ ?_
    · exact (h1 _)
    · intro x3 y1 k2
      refine kept_ite ?_ ?_
      · exact k2
      · extract_lets -merge -useContext +onlyGivenNames l4
        try clear_value l4
        refine State.sendDelta_kept (hm.sub rfl) ?_
        refine State.setPstate_kept (hm.sub rfl) ?_
        exact k2


end Sys2Proof.Machine
end

