-- ==== Sys2Proof/Laws/KeptPublish.lean ====
section
/-!
SUPPORT. What each operation of Machine/Publish.lean may change: one lemma per operation, its mask of parts and register blocks in `hm`.
-/
namespace Sys2Proof.Machine

theorem State.setChan_kept {m : Nat} {s0 : State} {a0} {a1} {a2} (hm : Sub 2048 m) (h0 : Kept m s0 a0) : Kept m s0 (State.setChan a0 a1 a2) := by
  unfold State.setChan
  refine kept_alm (hm.bit rfl) ?_
  exact h0

theorem State.setPub_kept {m : Nat} {s0 : State} {a0} {a1} {a2} (hm : Sub 2048 m) (h0 : Kept m s0 a0) : Kept m s0 (State.setPub a0 a1 a2) := by
  unfold State.setPub
  refine kept_alm (hm.bit rfl) ?_
  exact h0

theorem State.pubSend_kept {m : Nat} {s0 : State} {a0} {a1} {a2} (hm : Sub 71485436198952 m) (h0 : Kept m s0 a0) : Kept m s0 (State.pubSend a0 a1 a2) := by
  unfold State.pubSend
  refine kept_ite ?_ ?_
  · refine State.raise_kept (hm.sub rfl) rfl (hm.bit rfl) ?_
    refine State.bump_kept (hm.sub rfl) rfl (hm.bit rfl) ?_
    refine State.bump_kept (hm.sub rfl) (show _ / 1048576 % 32 = 2 by unfold Reg.ETH_PnTXDROPE; omega) (hm.bit rfl) ?_
    exact h0
  · refine State.send_kept (hm.sub rfl) ?_
    exact h0

theorem State.gooseOut_kept {m : Nat} {s0 : State} {a0} {a1} {a2} {a3} {a4} {a5} (hm : Sub 352960413960232 m) (h0 : Kept m s0 a0) : Kept m s0 (State.gooseOut a0 a1 a2 a3 a4 a5) := by
  unfold State.gooseOut
  extract_lets -merge -useContext +onlyGivenNames s11
  have k_s11 : Kept m s0 s11 := by
    unfold s11
    refine State.setVal_kept (hm.sub rfl) (show _ / 1048576 % 32 = 8 by unfold Reg.ALM_GPjSQ; omega) (hm.bit rfl) ?_
    refine State.setVal_kept (hm.sub rfl) (show _ / 1048576 % 32 = 8 by unfold Reg.ALM_GPjST; omega) (hm.bit rfl) ?_
    refine State.setPub_kept (hm.sub rfl) ?_
    exact h0
  clear_value s11
  extract_lets -merge -useContext +onlyGivenNames s22
  have k_s22 : Kept m s0 s22 := by
    unfold s22
    refine kept_foldl ?_ ?_
    · exact k_s11
    · intro x5 y3 k4
      refine kept_ite ?_ ?_
      · refine State.pubSend_kept (hm.sub rfl) ?_
        refine State.bump_kept (hm.sub rfl) rfl (hm.bit rfl) ?_
        exact k4
      · exact k4
  clear_value s22
  refine State.sendDelta_kept (hm.sub rfl) ?_
  exact k_s22

theorem State.pubChange_kept {m : Nat} {s0 : State} {a0} {a1} {a2} {a3} (hm : Sub 352960413960232 m) (h0 : Kept m s0 a0) : Kept m s0 (State.pubChange a0 a1 a2 a3) := by
  unfold State.pubChange
  extract_lets -merge -useContext +onlyGivenNames gap1
  try clear_value gap1
  extract_lets -merge -useContext +onlyGivenNames g12
  try clear_value g12
  refine State.gooseOut_kept (hm.sub rfl) ?_
  exact h0

theorem State.pubSweep_kept {m : Nat} {s0 : State} {a0} (hm : Sub 352960413960232 m) (h0 : Kept m s0 a0) : Kept m s0 (State.pubSweep a0) := by
  unfold State.pubSweep
  refine kept_ite ?_ ?_
  · exact h0
  · refine kept_foldl ?_ ?_
    · exact h0
    · intro x3 y1 k2
      split
      · refine kept_ite ?_ ?_
        · exact k2
        · refine State.pubChange_kept (hm.sub rfl) ?_
          exact k2
      · exact k2

theorem State.pubAll_kept {m : Nat} {s0 : State} {a0} {a1} (hm : Sub 352960413960232 m) (h0 : Kept m s0 a0) : Kept m s0 (State.pubAll a0 a1) := by
  unfold State.pubAll
  refine kept_ite ?_ ?_
  · exact h0
  · refine kept_foldl ?_ ?_
    · exact h0
    · intro x3 y1 k2
      split
      · refine State.pubChange_kept (hm.sub rfl) ?_
        exact k2
      · exact k2

theorem execGooseRepeat_kept {m : Nat} {a0} {a1} {a2} {t : State} (hm : Sub 352960413960236 m) (h : execGooseRepeat a0 a1 a2 = .next t) : Kept m a2 t := by
  rw [liveAt_next h]
  have h2 : ∀ n, Kept m a2 (a2.advanceNs n) := fun _ => State.advanceNs_kept (hm.sub rfl) kept_refl
  split
  · split
    · refine kept_ite ?_ ?_
      · exact (h2 _)
      · extract_lets -merge -useContext +onlyGivenNames gap1
        try clear_value gap1
        extract_lets -merge -useContext +onlyGivenNames g12
        try clear_value g12
        refine State.gooseOut_kept (hm.sub rfl) ?_
        exact (h2 _)
    · exact (h2 _)
  · exact (h2 _)

theorem State.sendNotice_kept {m : Nat} {s0 : State} {a0} {a1} {a2} {a3} (hm : Sub 352960413960232 m) (h0 : Kept m s0 a0) : Kept m s0 (State.sendNotice a0 a1 a2 a3) := by
  unfold State.sendNotice
  extract_lets -merge -useContext +onlyGivenNames tag1
  try clear_value tag1
  extract_lets -merge -useContext +onlyGivenNames key2
  try clear_value key2
  refine kept_ite ?_ ?_
  · refine State.raise_kept (hm.sub rfl) rfl (hm.bit rfl) ?_
    exact h0
  · extract_lets -merge -useContext +onlyGivenNames b3
    try clear_value b3
    extract_lets -merge -useContext +onlyGivenNames p4
    try clear_value p4
    extract_lets -merge -useContext +onlyGivenNames s15
    have k_s15 : Kept m s0 s15 := by
      unfold s15
      refine kept_foldl ?_ ?_
      · exact h0
      · intro x8 y6 k7
        refine kept_ite ?_ ?_
        · exact k7
        · refine kept_foldl ?_ ?_
          · refine State.bump_kept (hm.sub rfl) rfl (hm.bit rfl) ?_
            exact k7
          · intro x11 y9 k10
            refine kept_ite ?_ ?_
            · refine State.pubSend_kept (hm.sub rfl) ?_
              exact k10
            · exact k10
    clear_value s15
    extract_lets -merge -useContext +onlyGivenNames s212
    have k_s212 : Kept m s0 s212 := by
      unfold s212
      refine State.setVal_kept (hm.sub rfl) rfl (hm.bit rfl) ?_
      exact k_s15
    clear_value s212
    refine State.sendDelta_kept (hm.sub rfl) ?_
    refine kept_alm (hm.bit rfl) ?_
    exact k_s212

theorem State.sendEntries_kept {m : Nat} {s0 : State} {a0} {a1} {a2} (hm : Sub 352960413960232 m) (h2 : Kept m s0 a2) : Kept m s0 (State.sendEntries a0 a1 a2) := by
  induction a0 generalizing a1 a2 with
  | zero => exact h2
  | succ n ih =>
    unfold State.sendEntries
    exact kept_ite h2 (ih (State.sendNotice_kept (hm.sub rfl) h2))

theorem State.publish_kept {m : Nat} {s0 : State} {a0} (hm : Sub 352960413960232 m) (h0 : Kept m s0 a0) : Kept m s0 (State.publish a0) := by
  unfold State.publish
  extract_lets -merge -useContext +onlyGivenNames s11
  have k_s11 : Kept m s0 s11 := by
    unfold s11
    refine State.pubSweep_kept (hm.sub rfl) ?_
    exact h0
  clear_value s11
  extract_lets -merge -useContext +onlyGivenNames es2
  try clear_value es2
  extract_lets -merge -useContext +onlyGivenNames s23
  try clear_value s23
  extract_lets -merge -useContext +onlyGivenNames s24
  have k_s24 : Kept m s0 s24 := by
    unfold s24
    refine kept_alm (hm.bit rfl) ?_
    exact k_s11
  clear_value s24
  refine kept_ite ?_ ?_
  · refine State.sendEntries_kept (hm.sub rfl) ?_
    exact k_s24
  · exact k_s24

theorem execNoticeRefresh_kept {m : Nat} {a0} {a1} {t : State} (hm : Sub 352960413960236 m) (h : execNoticeRefresh a0 a1 = .next t) : Kept m a1 t := by
  rw [liveAt_next h]
  have h1 : ∀ n, Kept m a1 (a1.advanceNs n) := fun _ => State.advanceNs_kept (hm.sub rfl) kept_refl
  extract_lets -merge -useContext +onlyGivenNames r1
  try clear_value r1
  refine kept_ite ?_ ?_
  · refine State.sendNotice_kept (hm.sub rfl) ?_
    exact (h1 _)
  · exact (h1 _)


end Sys2Proof.Machine
end

