-- ==== Sys2Proof/Laws/KeptAlarm.lean ====
section
/-!
SUPPORT. What each operation of Machine/Alarm.lean may change: one lemma per operation, its mask of parts and register blocks in `hm`.
-/
namespace Sys2Proof.Machine

theorem State.setPin_kept {m : Nat} {s0 : State} {a0} {a1} {a2} (hm : Sub 2048 m) (h0 : Kept m s0 a0) : Kept m s0 (State.setPin a0 a1 a2) := by
  unfold State.setPin
  refine kept_alm (hm.bit rfl) ?_
  exact h0

theorem State.updPin_kept {m : Nat} {s0 : State} {a0} {a1} (hm : Sub 2048 m) (h0 : Kept m s0 a0) : Kept m s0 (State.updPin a0 a1) := by
  unfold State.updPin
  extract_lets -merge -useContext +onlyGivenNames p1
  try clear_value p1
  extract_lets -merge -useContext +onlyGivenNames on2
  try clear_value on2
  extract_lets -merge -useContext +onlyGivenNames want3
  extract_lets -merge -useContext +onlyGivenNames minon4
  try clear_value minon4
  extract_lets -merge -useContext +onlyGivenNames since5
  try clear_value since5
  extract_lets -merge -useContext +onlyGivenNames p16
  try clear_value p16
  extract_lets -merge -useContext +onlyGivenNames s17
  have k_s17 : Kept m s0 s17 := by
    unfold s17
    refine State.setPin_kept (hm.sub rfl) ?_
    exact h0
  clear_value s17
  refine kept_ite ?_ ?_
  · exact k_s17
  · refine State.setPin_kept (hm.sub rfl) ?_
    exact k_s17

theorem State.updPins_kept {m : Nat} {s0 : State} {a0} (hm : Sub 2048 m) (h0 : Kept m s0 a0) : Kept m s0 (State.updPins a0) := by
  unfold State.updPins
  refine kept_foldl ?_ ?_
  · exact h0
  · intro x3 y1 k2
    refine State.updPin_kept (hm.sub rfl) ?_
    exact k2

theorem execMinonExpiry_kept {m : Nat} {a0} {a1} {a2} {t : State} (hm : Sub 2052 m) (h : execMinonExpiry a0 a1 a2 = .next t) : Kept m a2 t := by
  rw [liveAt_next h]
  have h2 : ∀ n, Kept m a2 (a2.advanceNs n) := fun _ => State.advanceNs_kept (hm.sub rfl) kept_refl
  refine kept_ite ?_ ?_
  · refine State.updPin_kept (hm.sub rfl) ?_
    exact (h2 _)
  · exact (h2 _)

theorem execOverloadDetect_kept {m : Nat} {a0} {a1} {a2} {t : State} (hm : Sub 71468256331788 m) (h : execOverloadDetect a0 a1 a2 = .next t) : Kept m a2 t := by
  rw [liveAt_next h]
  have h2 : ∀ n, Kept m a2 (a2.advanceNs n) := fun _ => State.advanceNs_kept (hm.sub rfl) kept_refl
  refine kept_ite ?_ ?_
  · refine State.bump_kept (hm.sub rfl) rfl (hm.bit rfl) ?_
    refine State.raise_kept (hm.sub rfl) rfl (hm.bit rfl) ?_
    refine State.setPin_kept (hm.sub rfl) ?_
    exact (h2 _)
  · exact (h2 _)

theorem State.almTake_kept {m : Nat} {s0 : State} {a0} {a1} (hm : Sub 71468256331784 m) (h0 : Kept m s0 a0) : Kept m s0 (State.almTake a0 a1) := by
  unfold State.almTake
  extract_lets -merge -useContext +onlyGivenNames ch1
  try clear_value ch1
  extract_lets -merge -useContext +onlyGivenNames others2
  try clear_value others2
  split
  · refine kept_ite ?_ ?_
    · refine State.raise_kept (hm.sub rfl) rfl (hm.bit rfl) ?_
      refine State.bump_kept (hm.sub rfl) rfl (hm.bit rfl) ?_
      exact h0
    · refine kept_ite ?_ ?_
      · exact h0
      · extract_lets -merge -useContext +onlyGivenNames drove3
        try clear_value drove3
        extract_lets -merge -useContext +onlyGivenNames c4
        try clear_value c4
        extract_lets -merge -useContext +onlyGivenNames c5
        try clear_value c5
        refine State.setChan_kept (hm.sub rfl) ?_
        exact h0
  · refine kept_ite ?_ ?_
    · refine State.raise_kept (hm.sub rfl) rfl (hm.bit rfl) ?_
      refine State.bump_kept (hm.sub rfl) rfl (hm.bit rfl) ?_
      exact h0
    · refine State.setChan_kept (hm.sub rfl) ?_
      exact h0
  · refine State.setChan_kept (hm.sub rfl) ?_
    exact h0
  · extract_lets -merge -useContext +onlyGivenNames held6
    try clear_value held6
    refine State.setChan_kept (hm.sub rfl) ?_
    exact h0

theorem State.almEvent_kept {m : Nat} {s0 : State} {a0} {a1} {a2} {a3} {a4} (hm : Sub 633318700222472 m) (h0 : Kept m s0 a0) : Kept m s0 (State.almEvent a0 a1 a2 a3 a4) := by
  unfold State.almEvent
  extract_lets -merge -useContext +onlyGivenNames ch1
  try clear_value ch1
  extract_lets -merge -useContext +onlyGivenNames cfg2
  try clear_value cfg2
  extract_lets -merge -useContext +onlyGivenNames e3
  try clear_value e3
  extract_lets -merge -useContext +onlyGivenNames s14
  try clear_value s14
  extract_lets -merge -useContext +onlyGivenNames s15
  have k_s15 : Kept m s0 s15 := by
    unfold s15
    refine kept_ite ?_ ?_
    · refine kept_alm (hm.bit rfl) ?_
      exact h0
    · exact h0
  clear_value s15
  extract_lets -merge -useContext +onlyGivenNames s26
  have k_s26 : Kept m s0 s26 := by
    unfold s26
    refine kept_ite ?_ ?_
    · refine State.event_kept (hm.sub rfl) ?_
      exact k_s15
    · exact k_s15
  clear_value s26
  refine kept_ite ?_ ?_
  · refine State.offer_kept (hm.sub rfl) ?_
    exact k_s26
  · exact k_s26

theorem State.evalChan_kept {m : Nat} {s0 : State} {a0} {a1} {a2} (hm : Sub 634418211883016 m) (h0 : Kept m s0 a0) : Kept m s0 (State.evalChan a0 a1 a2) := by
  unfold State.evalChan
  refine kept_ite ?_ ?_
  · exact h0
  · extract_lets -merge -useContext +onlyGivenNames ch1
    try clear_value ch1
    extract_lets -merge -useContext +onlyGivenNames en2
    try clear_value en2
    extract_lets -merge -useContext +onlyGivenNames cs3
    try clear_value cs3
    extract_lets -merge -useContext +onlyGivenNames keys4
    try clear_value keys4
    extract_lets -merge -useContext +onlyGivenNames was5
    try clear_value was5
    extract_lets -merge -useContext +onlyGivenNames rets6
    try clear_value rets6
    extract_lets -merge -useContext +onlyGivenNames confs7
    try clear_value confs7
    extract_lets -merge -useContext +onlyGivenNames lost8
    try clear_value lost8
    extract_lets -merge -useContext +onlyGivenNames normal9
    try clear_value normal9
    extract_lets -merge -useContext +onlyGivenNames cond10
    try clear_value cond10
    extract_lets -merge -useContext +onlyGivenNames held11
    try clear_value held11
    extract_lets -merge -useContext +onlyGivenNames pinCond12
    try clear_value pinCond12
    extract_lets -merge -useContext +onlyGivenNames kept13
    try clear_value kept13
    extract_lets -merge -useContext +onlyGivenNames hend14
    try clear_value hend14
    extract_lets -merge -useContext +onlyGivenNames gone15
    try clear_value gone15
    extract_lets -merge -useContext +onlyGivenNames latched16
    try clear_value latched16
    extract_lets -merge -useContext +onlyGivenNames active17
    try clear_value active17
    extract_lets -merge -useContext +onlyGivenNames sets18
    try clear_value sets18
    extract_lets -merge -useContext +onlyGivenNames x19
    try clear_value x19
    extract_lets -merge -useContext +onlyGivenNames shy20
    try clear_value shy20
    extract_lets -merge -useContext +onlyGivenNames prov21
    try clear_value prov21
    extract_lets -merge -useContext +onlyGivenNames ch122
    try clear_value ch122
    extract_lets -merge -useContext +onlyGivenNames n23
    try clear_value n23
    extract_lets -merge -useContext +onlyGivenNames s124
    have k_s124 : Kept m s0 s124 := by
      unfold s124
      refine State.setChan_kept (hm.sub rfl) ?_
      exact h0
    clear_value s124
    extract_lets -merge -useContext +onlyGivenNames s225
    have k_s225 : Kept m s0 s225 := by
      unfold s225
      refine kept_foldl ?_ ?_
      · exact k_s124
      · intro x28 y26 k27
        refine State.almEvent_kept (hm.sub rfl) ?_
        refine State.bump_kept (hm.sub rfl) rfl (hm.bit rfl) ?_
        exact k27
    clear_value s225
    extract_lets -merge -useContext +onlyGivenNames s329
    have k_s329 : Kept m s0 s329 := by
      unfold s329
      refine kept_foldl ?_ ?_
      · exact k_s225
      · intro x32 y30 k31
        refine State.almEvent_kept (hm.sub rfl) ?_
        exact k31
    clear_value s329
    refine kept_ite ?_ ?_
    · extract_lets -merge -useContext +onlyGivenNames named33
      try clear_value named33
      refine State.capSend_kept (hm.sub rfl) ?_
      refine State.almEvent_kept (hm.sub rfl) ?_
      refine State.bump_kept (hm.sub rfl) (show _ / 1048576 % 32 = 8 by unfold Reg.ALM_ALCkRAISES; omega) (hm.bit rfl) ?_
      exact k_s329
    · refine kept_ite ?_ ?_
      · refine State.almEvent_kept (hm.sub rfl) ?_
        exact k_s329
      · exact k_s329

theorem State.alarms_kept {m : Nat} {s0 : State} {a0} {a1} (hm : Sub 915910369511464 m) (h0 : Kept m s0 a0) : Kept m s0 (State.alarms a0 a1) := by
  unfold State.alarms
  extract_lets -merge -useContext +onlyGivenNames s11
  have k_s11 : Kept m s0 s11 := by
    unfold s11
    refine kept_foldl ?_ ?_
    · exact h0
    · intro x4 y2 k3
      refine State.almTake_kept (hm.sub rfl) ?_
      exact k3
  clear_value s11
  extract_lets -merge -useContext +onlyGivenNames s25
  have k_s25 : Kept m s0 s25 := by
    unfold s25
    refine kept_foldl ?_ ?_
    · exact k_s11
    · intro x8 y6 k7
      refine State.evalChan_kept (hm.sub rfl) ?_
      exact k7
  clear_value s25
  refine State.publish_kept (hm.sub rfl) ?_
  refine State.updPins_kept (hm.sub rfl) ?_
  exact k_s25

theorem State.almAll_kept {m : Nat} {s0 : State} {a0} (hm : Sub 915910369511464 m) (h0 : Kept m s0 a0) : Kept m s0 (State.almAll a0) := by
  unfold State.almAll
  refine State.publish_kept (hm.sub rfl) ?_
  refine State.updPins_kept (hm.sub rfl) ?_
  refine kept_foldl ?_ ?_
  · exact h0
  · intro x3 y1 k2
    refine State.evalChan_kept (hm.sub rfl) ?_
    exact k2

theorem execPinHoldExpiry_kept {m : Nat} {a0} {a1} {a2} {t : State} (hm : Sub 915910369511468 m) (h : execPinHoldExpiry a0 a1 a2 = .next t) : Kept m a2 t := by
  rw [liveAt_next h]
  have h2 : ∀ n, Kept m a2 (a2.advanceNs n) := fun _ => State.advanceNs_kept (hm.sub rfl) kept_refl
  refine kept_ite ?_ ?_
  · refine State.publish_kept (hm.sub rfl) ?_
    refine State.updPins_kept (hm.sub rfl) ?_
    refine State.evalChan_kept (hm.sub rfl) ?_
    exact (h2 _)
  · exact (h2 _)

theorem State.sayMuted_kept {m : Nat} {s0 : State} {a0} (hm : Sub 352960413960232 m) (h0 : Kept m s0 a0) : Kept m s0 (State.sayMuted a0) := by
  unfold State.sayMuted
  extract_lets -merge -useContext +onlyGivenNames s11
  have k_s11 : Kept m s0 s11 := by
    unfold s11
    refine State.pubAll_kept (hm.sub rfl) ?_
    exact h0
  clear_value s11
  refine kept_ite ?_ ?_
  · refine State.sendNotice_kept (hm.sub rfl) ?_
    exact k_s11
  · exact k_s11

theorem State.sayUnmuted_kept {m : Nat} {s0 : State} {a0} (hm : Sub 352960413960232 m) (h0 : Kept m s0 a0) : Kept m s0 (State.sayUnmuted a0) := by
  unfold State.sayUnmuted
  extract_lets -merge -useContext +onlyGivenNames s11
  have k_s11 : Kept m s0 s11 := by
    unfold s11
    refine State.pubAll_kept (hm.sub rfl) ?_
    refine State.updPins_kept (hm.sub rfl) ?_
    exact h0
  clear_value s11
  refine kept_ite ?_ ?_
  · refine State.sendNotice_kept (hm.sub rfl) ?_
    exact k_s11
  · exact k_s11

theorem State.withMuting_kept {m : Nat} {s0 : State} {a0} {a1} (hm : Sub 352960413960232 m) (h0 : Kept m s0 a0) (h1 : ∀ y0, Kept m s0 y0 → Kept m s0 (a1 y0)) : Kept m s0 (State.withMuting a0 a1) := by
  unfold State.withMuting
  extract_lets -merge -useContext +onlyGivenNames s11
  have k_s11 : Kept m s0 s11 := by
    unfold s11
    refine h1 _ ?_
    exact h0
  clear_value s11
  refine kept_ite ?_ ?_
  · refine State.updPins_kept (hm.sub rfl) ?_
    refine h1 _ ?_
    refine State.sayMuted_kept (hm.sub rfl) ?_
    exact h0
  · refine kept_ite ?_ ?_
    · refine State.sayUnmuted_kept (hm.sub rfl) ?_
      exact k_s11
    · refine State.updPins_kept (hm.sub rfl) ?_
      exact k_s11

theorem State.ackChan_kept {m : Nat} {s0 : State} {a0} {a1} (hm : Sub 634418211883016 m) (h0 : Kept m s0 a0) : Kept m s0 (State.ackChan a0 a1) := by
  unfold State.ackChan
  extract_lets -merge -useContext +onlyGivenNames ch1
  try clear_value ch1
  extract_lets -merge -useContext +onlyGivenNames s12
  have k_s12 : Kept m s0 s12 := by
    unfold s12
    refine State.bump_kept (hm.sub rfl) rfl (hm.bit rfl) ?_
    refine State.setChan_kept (hm.sub rfl) ?_
    exact h0
  clear_value s12
  refine State.evalChan_kept (hm.sub rfl) ?_
  refine State.almEvent_kept (hm.sub rfl) ?_
  exact k_s12

theorem ackBody_kept {m : Nat} {s0 : State} {a0} {a1} (hm : Sub 915910369511464 m) (h1 : Kept m s0 a1) : Kept m s0 ((ackBody a0 a1).1) := by
  unfold ackBody
  refine kept_ite_fst ?_ ?_
  · refine kept_mkp_fst ?_
    exact h1
  · extract_lets -merge -useContext +onlyGivenNames ks1
    try clear_value ks1
    extract_lets -merge -useContext +onlyGivenNames s12
    have k_s12 : Kept m s0 s12 := by
      unfold s12
      refine State.publish_kept (hm.sub rfl) ?_
      refine State.updPins_kept (hm.sub rfl) ?_
      refine kept_foldl ?_ ?_
      · exact h1
      · intro x5 y3 k4
        refine State.ackChan_kept (hm.sub rfl) ?_
        exact k4
    clear_value s12
    extract_lets -merge -useContext +onlyGivenNames s26
    have k_s26 : Kept m s0 s26 := by
      unfold s26
      refine kept_ite ?_ ?_
      · exact k_s12
      · refine State.sendDelta_kept (hm.sub rfl) ?_
        exact k_s12
    clear_value s26
    extract_lets -merge -useContext +onlyGivenNames m7
    try clear_value m7
    refine kept_mkp_fst ?_
    exact k_s26

theorem State.almAck_kept {m : Nat} {s0 : State} {a0} {a1} {a2} (hm : Sub 915914681255976 m) (h0 : Kept m s0 a0) : Kept m s0 (State.almAck a0 a1 a2) := by
  unfold State.almAck
  refine State.hostCmd_kept (hm.sub rfl) ?_ ?_
  · exact h0
  · intro y1 k2
    refine ackBody_kept (hm.sub rfl) ?_
    exact k2

theorem execAlmAck_kept {m : Nat} {a0} {a1} {a2} {t : State} (hm : Sub 915914681255976 m) (h : execAlmAck a0 a1 a2 = .next t) : Kept m a2 t := by
  rw [live_next h]
  have h2 : Kept m a2 a2 := kept_refl
  refine State.almAck_kept (hm.sub rfl) ?_
  exact h2

theorem alcAddr_blk (k : Nat) (r : AlcReg) : alcAddr k r / 1048576 % 32 = 8 := by
  cases r
  · show Reg.ALM_ALCkCFG k / 1048576 % 32 = 8
    unfold Reg.ALM_ALCkCFG; omega
  · show Reg.ALM_ALCkSRC k / 1048576 % 32 = 8
    unfold Reg.ALM_ALCkSRC; omega
  · show Reg.ALM_ALCkDIN k / 1048576 % 32 = 8
    unfold Reg.ALM_ALCkDIN; omega

theorem State.writeAlc_kept {m : Nat} {s0 : State} {a0} {a1} {a2} {a3} (hm : Sub 18446744069418289192 m) (h0 : Kept m s0 a0) : Kept m s0 (State.writeAlc a0 a1 a2 a3) := by
  unfold State.writeAlc
  split
  · exact h0
  · refine kept_ite ?_ ?_
    · refine State.cfgErr_kept (hm.sub rfl) rfl (hm.bit rfl) ?_
      exact h0
    · extract_lets -merge -useContext +onlyGivenNames a1
      try clear_value a1
      extract_lets -merge -useContext +onlyGivenNames s12
      have k_s12 : Kept m s0 s12 := by
        unfold s12
        refine State.setReg_kept (hm.sub rfl) rfl (hm.all rfl _) ?_
        exact h0
      clear_value s12
      refine State.sendDelta_kept (hm.sub rfl) ?_
      refine State.publish_kept (hm.sub rfl) ?_
      refine State.updPins_kept (hm.sub rfl) ?_
      refine State.evalChan_kept (hm.sub rfl) ?_
      exact k_s12

theorem execAlcConfigWrite_kept {m : Nat} {a0} {a1} {a2} {a3} {a4} {t : State} (hm : Sub 18446744069418420264 m) (h : execAlcConfigWrite a0 a1 a2 a3 a4 = .next t) : Kept m a4 t := by
  rw [live_next h]
  have h4 : Kept m a4 a4 := kept_refl
  refine State.writeBy_kept (hm.sub rfl) ?_ ?_
  · exact h4
  · intro y1 k2
    refine kept_ite ?_ ?_
    · refine State.writeAlc_kept (hm.sub rfl) ?_
      exact k2
    · exact k2

theorem execDinChange_kept {m : Nat} {a0} {a1} {a2} {a3} {t : State} (hm : Sub 915910369511468 m) (h : execDinChange a0 a1 a2 a3 = .next t) : Kept m a3 t := by
  rw [liveAt_next h]
  have h3 : ∀ n, Kept m a3 (a3.advanceNs n) := fun _ => State.advanceNs_kept (hm.sub rfl) kept_refl
  refine kept_ite ?_ ?_
  · exact (h3 _)
  · extract_lets -merge -useContext +onlyGivenNames s11
    try clear_value s11
    extract_lets -merge -useContext +onlyGivenNames s12
    have k_s12 : Kept m a3 s12 := by
      unfold s12
      refine kept_alm (hm.bit rfl) ?_
      exact (h3 _)
    clear_value s12
    refine State.almAll_kept (hm.sub rfl) ?_
    refine State.event_kept (hm.sub rfl) ?_
    exact k_s12

theorem State.writeDincfg_kept {m : Nat} {s0 : State} {a0} {a1} (hm : Sub 915910369511464 m) (h0 : Kept m s0 a0) : Kept m s0 (State.writeDincfg a0 a1) := by
  unfold State.writeDincfg
  extract_lets -merge -useContext +onlyGivenNames s11
  have k_s11 : Kept m s0 s11 := by
    unfold s11
    refine State.plainWrite_kept (hm.sub rfl) rfl (hm.bit rfl) rfl (hm.bit rfl) ?_
    exact h0
  clear_value s11
  refine State.almAll_kept (hm.sub rfl) ?_
  refine kept_alm (hm.bit rfl) ?_
  exact k_s11

theorem State.almClear_kept {m : Nat} {s0 : State} {a0} (hm : Sub 2048 m) (h0 : Kept m s0 a0) : Kept m s0 (State.almClear a0) := by
  unfold State.almClear
  extract_lets -merge -useContext +onlyGivenNames s11
  try clear_value s11
  extract_lets -merge -useContext +onlyGivenNames s12
  try clear_value s12
  extract_lets -merge -useContext +onlyGivenNames s13
  have k_s13 : Kept m s0 s13 := by
    unfold s13
    refine kept_foldl ?_ ?_
    · exact h0
    · intro x6 y4 k5
      extract_lets -merge -useContext +onlyGivenNames subs7
      try clear_value subs7
      extract_lets -merge -useContext +onlyGivenNames s28
      have k_s28 : Kept m s0 s28 := by
        unfold s28
        refine State.setChan_kept (hm.sub rfl) ?_
        exact k5
      clear_value s28
      extract_lets -merge -useContext +onlyGivenNames cs9
      try clear_value cs9
      extract_lets -merge -useContext +onlyGivenNames on10
      try clear_value on10
      refine State.setChan_kept (hm.sub rfl) ?_
      exact k_s28
  clear_value s13
  refine State.updPins_kept (hm.sub rfl) ?_
  exact k_s13


end Sys2Proof.Machine
end

