-- ==== Sys2Proof/Laws/KeptVertex.lean ====
section
/-!
SUPPORT. What each operation of Machine/Vertex.lean may change: one lemma per operation, its mask of parts and register blocks in `hm`.
-/
namespace Sys2Proof.Machine

theorem State.putRow_kept {m : Nat} {s0 : State} {a0} {a1} {a2} {a3} {a4} (hm : Sub 1 m) (h0 : Kept m s0 a0) : Kept m s0 (State.putRow a0 a1 a2 a3 a4) := by
  unfold State.putRow
  refine State.putDev_kept (hm.sub rfl) ?_
  exact h0

theorem State.writeRow_kept {m : Nat} {s0 : State} {a0} {a1} {a2} {a3} {a4} (hm : Sub 1 m) (h0 : Kept m s0 a0) : Kept m s0 (State.writeRow a0 a1 a2 a3 a4) := by
  unfold State.writeRow
  extract_lets -merge -useContext +onlyGivenNames last1
  try clear_value last1
  extract_lets -merge -useContext +onlyGivenNames grow2
  try clear_value grow2
  extract_lets -merge -useContext +onlyGivenNames own3
  try clear_value own3
  extract_lets -merge -useContext +onlyGivenNames dts4
  try clear_value dts4
  extract_lets -merge -useContext +onlyGivenNames s15
  have k_s15 : Kept m s0 s15 := by
    unfold s15
    refine State.putRow_kept (hm.sub rfl) ?_
    refine State.putRow_kept (hm.sub rfl) ?_
    exact h0
  clear_value s15
  extract_lets -merge -useContext +onlyGivenNames s26
  have k_s26 : Kept m s0 s26 := by
    unfold s26
    refine State.putRow_kept (hm.sub rfl) ?_
    refine State.putDev_kept (hm.sub rfl) ?_
    exact k_s15
  clear_value s26
  refine kept_foldl ?_ ?_
  · exact k_s26
  · intro x9 y7 k8
    refine State.putRow_kept (hm.sub rfl) ?_
    refine State.putRow_kept (hm.sub rfl) ?_
    exact k8

theorem State.writeStreamRow_kept {m : Nat} {s0 : State} {a0} {a1} {a2} {a3} (hm : Sub 1 m) (h0 : Kept m s0 a0) : Kept m s0 (State.writeStreamRow a0 a1 a2 a3) := by
  unfold State.writeStreamRow
  extract_lets -merge -useContext +onlyGivenNames q1
  try clear_value q1
  extract_lets -merge -useContext +onlyGivenNames ps2
  try clear_value ps2
  refine State.writeRow_kept (hm.sub rfl) ?_
  exact h0


end Sys2Proof.Machine
end

