-- ==== Sys2Proof/Laws/KeptIngest.lean ====
section
/-!
SUPPORT. What each operation of Machine/Ingest.lean may change: one lemma per operation, its mask of parts and register blocks in `hm`.
-/
namespace Sys2Proof.Machine

theorem State.takeRx_kept {m : Nat} {s0 : State} {a0} {a1} (hm : Sub 32 m) (h0 : Kept m s0 a0) : Kept m s0 (State.takeRx a0 a1) := by
  unfold State.takeRx
  extract_lets -merge -useContext +onlyGivenNames p1
  try clear_value p1
  split
  · exact h0
  · refine State.setPort_kept (hm.sub rfl) ?_
    exact h0

theorem State.parse_kept {m : Nat} {s0 : State} {a0} {a1} {a2} {a3} (hm : Sub 34359738400 m) (h0 : Kept m s0 a0) (h3 : ∀ y0 y1 y2, Kept m s0 y0 → Kept m s0 (a3 y0 y1 y2)) : Kept m s0 (State.parse a0 a1 a2 a3) := by
  unfold State.parse
  split
  · exact h0
  · split
    · exact h0
    · refine kept_ite ?_ ?_
      · exact h0
      · extract_lets -merge -useContext +onlyGivenNames s11
        have k_s11 : Kept m s0 s11 := by
          unfold s11
          refine State.takeRx_kept (hm.sub rfl) ?_
          exact h0
        clear_value s11
        refine kept_ite ?_ ?_
        · refine State.bump_kept (hm.sub rfl) rfl (hm.bit rfl) ?_
          exact k_s11
        · refine h3 _ _ _ ?_
          exact k_s11

theorem State.cacheErr_kept {m : Nat} {s0 : State} {a0} (hm : Sub 70403171549192 m) (h0 : Kept m s0 a0) : Kept m s0 (State.cacheErr a0) := by
  unfold State.cacheErr
  refine State.raise_kept (hm.sub rfl) rfl (hm.bit rfl) ?_
  refine State.doubleBitAnywhere_kept (hm.sub rfl) ?_
  exact h0

theorem State.c37Blocks_kept {m : Nat} {s0 : State} {a0} {a1} {a2} {a3} {a4} {a5} {a6} {a7} {a8} {a9} {a10} {a11} {a12} (hm : Sub 351946801676424 m) (h0 : Kept m s0 a0) : Kept m s0 ((State.c37Blocks a0 a1 a2 a3 a4 a5 a6 a7 a8 a9 a10 a11 a12).1) := by
  induction a10 generalizing a0 a11 a12 with
  | nil => exact h0
  | cons d ds ih =>
    unfold State.c37Blocks
    refine ih ?_
    split
    · exact State.bump_kept (hm.sub rfl) rfl (hm.bit rfl) h0
    · refine kept_ite_fst (State.bump_kept (hm.sub rfl) rfl (hm.bit rfl) h0) ?_
      refine kept_ite_fst (State.bump_kept (hm.sub rfl) rfl (hm.bit rfl) h0) ?_
      refine State.placeFrame_kept (hm.sub rfl) ?_
      exact kept_ite (State.raise_kept (hm.sub rfl) rfl (hm.bit rfl) h0) h0

theorem State.c37_kept {m : Nat} {s0 : State} {a0} {a1} {a2} {a3} {a4} {a5} {a6} (hm : Sub 351946801676424 m) (h0 : Kept m s0 a0) : Kept m s0 (State.c37 a0 a1 a2 a3 a4 a5 a6) := by
  unfold State.c37
  extract_lets -merge -useContext +onlyGivenNames size1
  try clear_value size1
  refine kept_ite ?_ ?_
  · refine State.bump_kept (hm.sub rfl) rfl (hm.bit rfl) ?_
    exact h0
  · refine kept_ite ?_ ?_
    · refine State.bump_kept (hm.sub rfl) rfl (hm.bit rfl) ?_
      exact h0
    · extract_lets -merge -useContext +onlyGivenNames idcode2
      try clear_value idcode2
      split
      · refine State.bump_kept (hm.sub rfl) rfl (hm.bit rfl) ?_
        exact h0
      · split
        · refine State.bump_kept (hm.sub rfl) rfl (hm.bit rfl) ?_
          exact h0
        · refine kept_ite ?_ ?_
          · refine State.bump_kept (hm.sub rfl) rfl (hm.bit rfl) ?_
            exact h0
          · extract_lets -merge -useContext +onlyGivenNames fs3
            try clear_value fs3
            refine kept_ite ?_ ?_
            · refine State.bump_kept (hm.sub rfl) rfl (hm.bit rfl) ?_
              exact h0
            · extract_lets -merge -useContext +onlyGivenNames mtime4
              try clear_value mtime4
              split
              · rename_i z5 z6 e7
                have k8 : Kept m s0 z5 := by
                  refine kept_pair_fst e7 ?_
                  refine State.c37Blocks_kept (hm.sub rfl) ?_
                  exact h0
                refine kept_ite ?_ ?_
                · refine State.bump_kept (hm.sub rfl) rfl (hm.bit rfl) ?_
                  exact k8
                · exact k8

theorem State.asdu_kept {m : Nat} {s0 : State} {a0} {a1} {a2} {a3} {a4} {a5} (hm : Sub 351946801676424 m) (h0 : Kept m s0 a0) : Kept m s0 ((State.asdu a0 a1 a2 a3 a4 a5).1) := by
  unfold State.asdu
  split
  · refine kept_mkp_fst ?_
    refine State.bump_kept (hm.sub rfl) rfl (hm.bit rfl) ?_
    exact h0
  · extract_lets -merge -useContext +onlyGivenNames d1
    try clear_value d1
    extract_lets -merge -useContext +onlyGivenNames bad2
    try clear_value bad2
    extract_lets -merge -useContext +onlyGivenNames time3
    try clear_value time3
    refine kept_ite_fst ?_ ?_
    · refine kept_mkp_fst ?_
      refine State.bump_kept (hm.sub rfl) rfl (hm.bit rfl) ?_
      exact h0
    · split
      · refine kept_mkp_fst ?_
        refine State.bump_kept (hm.sub rfl) rfl (hm.bit rfl) ?_
        exact h0
      · refine kept_ite_fst ?_ ?_
        · refine kept_mkp_fst ?_
          refine State.bump_kept (hm.sub rfl) rfl (hm.bit rfl) ?_
          exact h0
        · refine kept_ite_fst ?_ ?_
          · refine kept_mkp_fst ?_
            refine State.raise_kept (hm.sub rfl) rfl (hm.bit rfl) ?_
            refine State.bump_kept (hm.sub rfl) rfl (hm.bit rfl) ?_
            exact h0
          · split
            · refine kept_mkp_fst ?_
              refine State.bump_kept (hm.sub rfl) rfl (hm.bit rfl) ?_
              exact h0
            · refine kept_ite_fst ?_ ?_
              · refine kept_mkp_fst ?_
                refine State.bump_kept (hm.sub rfl) rfl (hm.bit rfl) ?_
                exact h0
              · extract_lets -merge -useContext +onlyGivenNames changed4
                extract_lets -merge -useContext +onlyGivenNames s15
                have k_s15 : Kept m s0 s15 := by
                  unfold s15
                  refine kept_ite ?_ ?_
                  · refine State.raise_kept (hm.sub rfl) rfl (hm.bit rfl) ?_
                    exact h0
                  · exact h0
                clear_value s15
                extract_lets -merge -useContext +onlyGivenNames f6
                try clear_value f6
                extract_lets -merge -useContext +onlyGivenNames f7
                try clear_value f7
                refine kept_mkp_fst ?_
                refine State.placeFrame_kept (hm.sub rfl) ?_
                exact k_s15

theorem State.rsv_kept {m : Nat} {s0 : State} {a0} {a1} {a2} {a3} {a4} {a5} (hm : Sub 351946801676424 m) (h0 : Kept m s0 a0) : Kept m s0 (State.rsv a0 a1 a2 a3 a4 a5) := by
  unfold State.rsv
  refine kept_ite ?_ ?_
  · refine State.bump_kept (hm.sub rfl) rfl (hm.bit rfl) ?_
    exact h0
  · refine kept_ite ?_ ?_
    · refine State.bump_kept (hm.sub rfl) rfl (hm.bit rfl) ?_
      exact h0
    · split
      · rename_i z1 z2 e3
        have k4 : Kept m s0 z1 := by
          refine kept_pair_fst e3 ?_
          refine kept_foldl_fst ?_ ?_
          · refine kept_mkp_fst ?_
            exact h0
          · intro x7 y5 k6
            split
            · rename_i z8 z9 e10
              have k11 : Kept m s0 z8 := by
                refine kept_pair_fst e10 ?_
                refine State.asdu_kept (hm.sub rfl) ?_
                exact k6
              refine kept_mkp_fst ?_
              exact k11
        refine kept_ite ?_ ?_
        · refine State.bump_kept (hm.sub rfl) rfl (hm.bit rfl) ?_
          exact k4
        · exact k4

theorem State.vtdApply_kept {m : Nat} {s0 : State} {a0} {a1} {a2} {a3} {a4} {a5} {a6} {a7} {a8} (hm : Sub 34359738433 m) (h0 : Kept m s0 a0) : Kept m s0 (State.vtdApply a0 a1 a2 a3 a4 a5 a6 a7 a8) := by
  unfold State.vtdApply
  extract_lets -merge -useContext +onlyGivenNames s11
  try clear_value s11
  extract_lets -merge -useContext +onlyGivenNames s12
  have k_s12 : Kept m s0 s12 := by
    unfold s12
    refine kept_ing (hm.bit rfl) ?_
    exact h0
  clear_value s12
  extract_lets -merge -useContext +onlyGivenNames s23
  have k_s23 : Kept m s0 s23 := by
    unfold s23
    refine State.bumpBy_kept (hm.sub rfl) rfl (hm.bit rfl) ?_
    exact k_s12
  clear_value s23
  refine kept_ite ?_ ?_
  · refine State.putRow_kept (hm.sub rfl) ?_
    exact k_s23
  · split
    · refine State.writeRow_kept (hm.sub rfl) ?_
      refine State.bumpBy_kept (hm.sub rfl) rfl (hm.bit rfl) ?_
      exact k_s23

theorem State.vtd_kept {m : Nat} {s0 : State} {a0} {a1} {a2} {a3} {a4} (hm : Sub 70403104440393 m) (h0 : Kept m s0 a0) : Kept m s0 (State.vtd a0 a1 a2 a3 a4) := by
  unfold State.vtd
  extract_lets -merge -useContext +onlyGivenNames ver1
  try clear_value ver1
  extract_lets -merge -useContext +onlyGivenNames flags2
  try clear_value flags2
  extract_lets -merge -useContext +onlyGivenNames nent3
  try clear_value nent3
  extract_lets -merge -useContext +onlyGivenNames hb4
  extract_lets -merge -useContext +onlyGivenNames tagged5
  extract_lets -merge -useContext +onlyGivenNames vid6
  try clear_value vid6
  extract_lets -merge -useContext +onlyGivenNames seq7
  try clear_value seq7
  extract_lets -merge -useContext +onlyGivenNames len8
  try clear_value len8
  refine kept_ite ?_ ?_
  · refine State.bump_kept (hm.sub rfl) rfl (hm.bit rfl) ?_
    exact h0
  · refine kept_ite ?_ ?_
    · refine State.bump_kept (hm.sub rfl) rfl (hm.bit rfl) ?_
      exact h0
    · split
      · refine State.bump_kept (hm.sub rfl) rfl (hm.bit rfl) ?_
        exact h0
      · extract_lets -merge -useContext +onlyGivenNames ms9
        try clear_value ms9
        extract_lets -merge -useContext +onlyGivenNames time10
        try clear_value time10
        refine kept_ite ?_ ?_
        · refine State.bump_kept (hm.sub rfl) rfl (hm.bit rfl) ?_
          exact h0
        · refine kept_ite ?_ ?_
          · refine State.bump_kept (hm.sub rfl) rfl (hm.bit rfl) ?_
            exact h0
          · refine kept_ite ?_ ?_
            · refine State.bump_kept (hm.sub rfl) rfl (hm.bit rfl) ?_
              exact h0
            · refine kept_ite ?_ ?_
              · refine State.bump_kept (hm.sub rfl) rfl (hm.bit rfl) ?_
                exact h0
              · extract_lets -merge -useContext +onlyGivenNames r11
                try clear_value r11
                refine kept_ite ?_ ?_
                · refine State.raise_kept (hm.sub rfl) rfl (hm.bit rfl) ?_
                  refine State.bump_kept (hm.sub rfl) rfl (hm.bit rfl) ?_
                  exact h0
                · extract_lets -merge -useContext +onlyGivenNames s112
                  have k_s112 : Kept m s0 s112 := by
                    unfold s112
                    refine kept_ite ?_ ?_
                    · refine State.bump_kept (hm.sub rfl) rfl (hm.bit rfl) ?_
                      exact h0
                    · exact h0
                  clear_value s112
                  extract_lets -merge -useContext +onlyGivenNames resync13
                  split
                  · refine State.vtdApply_kept (hm.sub rfl) ?_
                    refine kept_ite ?_ ?_
                    · refine State.bump_kept (hm.sub rfl) rfl (hm.bit rfl) ?_
                      exact k_s112
                    · exact k_s112
                  · extract_lets -merge -useContext +onlyGivenNames d14
                    try clear_value d14
                    refine kept_ite ?_ ?_
                    · refine State.bump_kept (hm.sub rfl) rfl (hm.bit rfl) ?_
                      exact k_s112
                    · refine State.vtdApply_kept (hm.sub rfl) ?_
                      refine kept_ite ?_ ?_
                      · refine State.bump_kept (hm.sub rfl) rfl (hm.bit rfl) ?_
                        exact k_s112
                      · exact k_s112

theorem execVtdDatagram_kept {m : Nat} {a0} {a1} {a2} {a3} {t : State} (hm : Sub 70403171549293 m) (h : execVtdDatagram a0 a1 a2 a3 = .next t) : Kept m a3 t := by
  rw [liveAt_next h]
  have h3 : ∀ n, Kept m a3 (a3.advanceNs n) := fun _ => State.advanceNs_kept (hm.sub rfl) kept_refl
  refine State.parse_kept (hm.sub rfl) ?_ ?_
  · exact (h3 _)
  · intro y1 y2 y3 k4
    refine kept_ite ?_ ?_
    · refine State.cacheErr_kept (hm.sub rfl) ?_
      exact k4
    · refine State.vtd_kept (hm.sub rfl) ?_
      exact k4

theorem State.fwDatagram_kept {m : Nat} {s0 : State} {a0} {a1} {a2} {a3} (hm : Sub 351946801676489 m) (h0 : Kept m s0 a0) : Kept m s0 (State.fwDatagram a0 a1 a2 a3) := by
  unfold State.fwDatagram
  refine kept_ite ?_ ?_
  · refine State.bump_kept (hm.sub rfl) rfl (hm.bit rfl) ?_
    exact h0
  · split
    · refine kept_ite ?_ ?_
      · refine State.c37_kept (hm.sub rfl) ?_
        exact h0
      · exact h0
    · refine State.vtd_kept (hm.sub rfl) ?_
      exact h0
    · split
      · refine State.rsv_kept (hm.sub rfl) ?_
        exact h0
      · exact h0
    · exact h0

theorem State.fragment_kept {m : Nat} {s0 : State} {a0} {a1} {a2} {a3} (hm : Sub 351946801676489 m) (h0 : Kept m s0 a0) : Kept m s0 (State.fragment a0 a1 a2 a3) := by
  unfold State.fragment
  extract_lets -merge -useContext +onlyGivenNames old1
  try clear_value old1
  extract_lets -merge -useContext +onlyGivenNames total2
  try clear_value total2
  extract_lets -merge -useContext +onlyGivenNames f3
  try clear_value f3
  extract_lets -merge -useContext +onlyGivenNames rest4
  try clear_value rest4
  split
  · refine kept_ite ?_ ?_
    · refine State.fwDatagram_kept (hm.sub rfl) ?_
      refine kept_ing (hm.bit rfl) ?_
      exact h0
    · refine kept_ing (hm.bit rfl) ?_
      exact h0
  · refine kept_ing (hm.bit rfl) ?_
    exact h0

theorem State.fwFrame_kept {m : Nat} {s0 : State} {a0} {a1} {a2} (hm : Sub 351946801676521 m) (h0 : Kept m s0 a0) : Kept m s0 (State.fwFrame a0 a1 a2) := by
  unfold State.fwFrame
  split
  · exact h0
  · extract_lets -merge -useContext +onlyGivenNames left1
    try clear_value left1
    refine kept_ite ?_ ?_
    · exact h0
    · extract_lets -merge -useContext +onlyGivenNames s12
      have k_s12 : Kept m s0 s12 := by
        unfold s12
        refine State.takeRx_kept (hm.sub rfl) ?_
        exact h0
      clear_value s12
      split
      · exact k_s12
      · refine kept_ite ?_ ?_
        · exact k_s12
        · refine kept_ite ?_ ?_
          · refine State.fragment_kept (hm.sub rfl) ?_
            refine State.bump_kept (hm.sub rfl) rfl (hm.bit rfl) ?_
            exact k_s12
          · refine kept_ite ?_ ?_
            · refine State.fwDatagram_kept (hm.sub rfl) ?_
              refine State.bump_kept (hm.sub rfl) rfl (hm.bit rfl) ?_
              exact k_s12
            · exact k_s12

theorem execFragmentTimeout_kept {m : Nat} {a0} {a1} {t : State} (hm : Sub 34359738436 m) (h : execFragmentTimeout a0 a1 = .next t) : Kept m a1 t := by
  rw [liveAt_next h]
  have h1 : ∀ n, Kept m a1 (a1.advanceNs n) := fun _ => State.advanceNs_kept (hm.sub rfl) kept_refl
  extract_lets -merge -useContext +onlyGivenNames late1
  try clear_value late1
  refine State.bumpBy_kept (hm.sub rfl) rfl (hm.bit rfl) ?_
  refine kept_ing (hm.bit rfl) ?_
  exact (h1 _)

theorem State.mapStreams_kept {m : Nat} {s0 : State} {a0} {a1} (hm : Sub 64 m) (h0 : Kept m s0 a0) : Kept m s0 (State.mapStreams a0 a1) := by
  unfold State.mapStreams
  refine kept_ing (hm.bit rfl) ?_
  exact h0

theorem State.rateRule_kept {m : Nat} {s0 : State} {a0} {a1} {a2} (hm : Sub 70403104440392 m) (h0 : Kept m s0 a0) : Kept m s0 (State.rateRule a0 a1 a2) := by
  unfold State.rateRule
  extract_lets -merge -useContext +onlyGivenNames bad1
  try clear_value bad1
  extract_lets -merge -useContext +onlyGivenNames hit2
  try clear_value hit2
  extract_lets -merge -useContext +onlyGivenNames s13
  have k_s13 : Kept m s0 s13 := by
    unfold s13
    refine State.mapStreams_kept (hm.sub rfl) ?_
    exact h0
  clear_value s13
  refine kept_foldl ?_ ?_
  · exact k_s13
  · intro x6 y4 k5
    refine State.raise_kept (hm.sub rfl) rfl (hm.bit rfl) ?_
    exact k5

theorem State.install_kept {m : Nat} {s0 : State} {a0} {a1} {a2} (hm : Sub 70403104440392 m) (h0 : Kept m s0 a0) : Kept m s0 (State.install a0 a1 a2) := by
  unfold State.install
  split
  · exact h0
  · refine State.rateRule_kept (hm.sub rfl) ?_
    refine kept_ing (hm.bit rfl) ?_
    exact h0

theorem execConfigurationFrame_kept {m : Nat} {a0} {a1} {a2} {a3} {t : State} (hm : Sub 70403104440396 m) (h : execConfigurationFrame a0 a1 a2 a3 = .next t) : Kept m a3 t := by
  rw [liveAt_next h]
  have h3 : ∀ n, Kept m a3 (a3.advanceNs n) := fun _ => State.advanceNs_kept (hm.sub rfl) kept_refl
  refine State.install_kept (hm.sub rfl) ?_
  exact (h3 _)

theorem State.bindKid_kept {m : Nat} {s0 : State} {a0} {a1} {a2} (hm : Sub 34359738368 m) (h0 : Kept m s0 a0) : Kept m s0 (State.bindKid a0 a1 a2) := by
  unfold State.bindKid
  extract_lets -merge -useContext +onlyGivenNames valid1
  extract_lets -merge -useContext +onlyGivenNames place2
  try clear_value place2
  split
  · exact h0
  · refine State.setVal_kept (hm.sub rfl) (show _ / 1048576 % 32 = 3 by unfold Reg.ING_KIDSLOTk; omega) (hm.bit rfl) ?_
    refine State.setVal_kept (hm.sub rfl) (show _ / 1048576 % 32 = 3 by unfold Reg.ING_KIDMAPk; omega) (hm.bit rfl) ?_
    exact h0

theorem execGdoiKeyBind_kept {m : Nat} {a0} {a1} {a2} {t : State} (hm : Sub 34359738368 m) (h : execGdoiKeyBind a0 a1 a2 = .next t) : Kept m a2 t := by
  rw [live_next h]
  have h2 : Kept m a2 a2 := kept_refl
  refine State.bindKid_kept (hm.sub rfl) ?_
  exact h2

theorem State.freshStream_kept {m : Nat} {s0 : State} {a0} {a1} (hm : Sub 128 m) (h0 : Kept m s0 a0) : Kept m s0 (State.freshStream a0 a1) := by
  unfold State.freshStream
  refine State.setStream_kept (hm.sub rfl) ?_
  exact h0

theorem State.request_kept {m : Nat} {s0 : State} {a0} {a1} (hm : Sub 67108928 m) (h0 : Kept m s0 a0) : Kept m s0 (State.request a0 a1) := by
  unfold State.request
  split
  · rename_i z1 z2 e3
    have k4 : Kept m s0 z2 := by
      refine kept_pair_snd e3 ?_
      refine State.draw_kept (hm.sub rfl) ?_
      exact h0
    extract_lets -merge -useContext +onlyGivenNames c5
    try clear_value c5
    refine kept_ing (hm.bit rfl) ?_
    exact k4

theorem State.freeDesc_kept {m : Nat} {s0 : State} {a0} {a1} (hm : Sub 64 m) (h0 : Kept m s0 a0) : Kept m s0 (State.freeDesc a0 a1) := by
  unfold State.freeDesc
  refine kept_ite ?_ ?_
  · exact h0
  · refine kept_ing (hm.bit rfl) ?_
    exact h0

theorem State.addStream_kept {m : Nat} {s0 : State} {a0} {a1} {a2} (hm : Sub 67109056 m) (h0 : Kept m s0 a0) : Kept m s0 (State.addStream a0 a1 a2) := by
  unfold State.addStream
  extract_lets -merge -useContext +onlyGivenNames old1
  try clear_value old1
  extract_lets -merge -useContext +onlyGivenNames s12
  try clear_value s12
  extract_lets -merge -useContext +onlyGivenNames s13
  have k_s13 : Kept m s0 s13 := by
    unfold s13
    refine kept_ing (hm.bit rfl) ?_
    exact h0
  clear_value s13
  extract_lets -merge -useContext +onlyGivenNames s24
  have k_s24 : Kept m s0 s24 := by
    unfold s24
    split
    · refine State.freeDesc_kept (hm.sub rfl) ?_
      refine kept_ite ?_ ?_
      · exact k_s13
      · refine State.freshStream_kept (hm.sub rfl) ?_
        refine State.freshStream_kept (hm.sub rfl) ?_
        exact k_s13
    · refine State.freshStream_kept (hm.sub rfl) ?_
      exact k_s13
  clear_value s24
  refine kept_ite ?_ ?_
  · refine State.request_kept (hm.sub rfl) ?_
    exact k_s24
  · exact k_s24

theorem addBody_kept {m : Nat} {s0 : State} {a0} {a1} {a2} (hm : Sub 281475044868288 m) (h2 : Kept m s0 a2) : Kept m s0 ((addBody a0 a1 a2).1) := by
  unfold addBody
  extract_lets -merge -useContext +onlyGivenNames e1
  try clear_value e1
  extract_lets -merge -useContext +onlyGivenNames replace2
  extract_lets -merge -useContext +onlyGivenNames last3
  try clear_value last3
  extract_lets -merge -useContext +onlyGivenNames telem4
  try clear_value telem4
  refine kept_ite_fst ?_ ?_
  · refine kept_mkp_fst ?_
    exact h2
  · refine kept_ite_fst ?_ ?_
    · refine kept_mkp_fst ?_
      exact h2
    · refine kept_ite_fst ?_ ?_
      · extract_lets -merge -useContext +onlyGivenNames vs5
        try clear_value vs5
        extract_lets -merge -useContext +onlyGivenNames same6
        try clear_value same6
        refine kept_ite_fst ?_ ?_
        · refine kept_mkp_fst ?_
          exact h2
        · extract_lets -merge -useContext +onlyGivenNames new7
          try clear_value new7
          extract_lets -merge -useContext +onlyGivenNames s18
          have k_s18 : Kept m s0 s18 := by
            unfold s18
            refine kept_foldl ?_ ?_
            · exact h2
            · intro x11 y9 k10
              extract_lets -merge -useContext +onlyGivenNames fresh12
              try clear_value fresh12
              refine kept_ing (hm.bit rfl) ?_
              exact k10
          clear_value s18
          refine kept_mkp_fst ?_
          refine State.sendDelta_kept (hm.sub rfl) ?_
          exact k_s18
      · refine kept_ite_fst ?_ ?_
        · refine kept_mkp_fst ?_
          exact h2
        · refine kept_ite_fst ?_ ?_
          · refine kept_mkp_fst ?_
            refine State.sendDelta_kept (hm.sub rfl) ?_
            exact h2
          · extract_lets -merge -useContext +onlyGivenNames has13
            try clear_value has13
            split
            · refine kept_mkp_fst ?_
              exact h2
            · refine kept_ite_fst ?_ ?_
              · refine kept_mkp_fst ?_
                exact h2
              · refine kept_mkp_fst ?_
                refine State.sendDelta_kept (hm.sub rfl) ?_
                refine State.addStream_kept (hm.sub rfl) ?_
                exact h2

theorem State.sourceAdd_kept {m : Nat} {s0 : State} {a0} {a1} {a2} {a3} (hm : Sub 914798056833224 m) (h0 : Kept m s0 a0) : Kept m s0 (State.sourceAdd a0 a1 a2 a3) := by
  unfold State.sourceAdd
  refine State.hostCmd_kept (hm.sub rfl) ?_ ?_
  · exact h0
  · intro y1 k2
    refine addBody_kept (hm.sub rfl) ?_
    exact k2

theorem execSourceAdd_kept {m : Nat} {a0} {a1} {a2} {a3} {t : State} (hm : Sub 914798056833224 m) (h : execSourceAdd a0 a1 a2 a3 = .next t) : Kept m a3 t := by
  rw [live_next h]
  have h3 : Kept m a3 a3 := kept_refl
  refine State.sourceAdd_kept (hm.sub rfl) ?_
  exact h3

theorem State.dropStream_kept {m : Nat} {s0 : State} {a0} {a1} (hm : Sub 192 m) (h0 : Kept m s0 a0) : Kept m s0 (State.dropStream a0 a1) := by
  unfold State.dropStream
  extract_lets -merge -useContext +onlyGivenNames keep1
  try clear_value keep1
  extract_lets -merge -useContext +onlyGivenNames s12
  try clear_value s12
  extract_lets -merge -useContext +onlyGivenNames s13
  have k_s13 : Kept m s0 s13 := by
    unfold s13
    refine State.freshStream_kept (hm.sub rfl) ?_
    refine kept_ing (hm.bit rfl) ?_
    exact h0
  clear_value s13
  extract_lets -merge -useContext +onlyGivenNames s24
  try clear_value s24
  extract_lets -merge -useContext +onlyGivenNames s25
  have k_s25 : Kept m s0 s25 := by
    unfold s25
    refine kept_ite ?_ ?_
    · refine kept_ing (hm.bit rfl) ?_
      exact k_s13
    · exact k_s13
  clear_value s25
  refine State.freeDesc_kept (hm.sub rfl) ?_
  exact k_s25

theorem removeBody_kept {m : Nat} {s0 : State} {a0} {a1} {a2} {a3} (hm : Sub 281509337497792 m) (h3 : Kept m s0 a3) : Kept m s0 ((removeBody a0 a1 a2 a3).1) := by
  unfold removeBody
  extract_lets -merge -useContext +onlyGivenNames e1
  try clear_value e1
  extract_lets -merge -useContext +onlyGivenNames last2
  try clear_value last2
  refine kept_ite_fst ?_ ?_
  · refine kept_mkp_fst ?_
    exact h3
  · refine kept_ite_fst ?_ ?_
    · refine kept_mkp_fst ?_
      exact h3
    · extract_lets -merge -useContext +onlyGivenNames gone3
      try clear_value gone3
      refine kept_ite_fst ?_ ?_
      · refine kept_mkp_fst ?_
        exact h3
      · extract_lets -merge -useContext +onlyGivenNames s14
        have k_s14 : Kept m s0 s14 := by
          unfold s14
          refine kept_ite ?_ ?_
          · refine kept_foldl ?_ ?_
            · exact h3
            · intro x7 y5 k6
              refine kept_ing (hm.bit rfl) ?_
              exact k6
          · refine kept_foldl ?_ ?_
            · exact h3
            · intro x10 y8 k9
              refine State.dropStream_kept (hm.sub rfl) ?_
              exact k9
        clear_value s14
        extract_lets -merge -useContext +onlyGivenNames s211
        try clear_value s211
        extract_lets -merge -useContext +onlyGivenNames s212
        have k_s212 : Kept m s0 s212 := by
          unfold s212
          refine kept_ing (hm.bit rfl) ?_
          exact k_s14
        clear_value s212
        refine kept_mkp_fst ?_
        refine State.sendDelta_kept (hm.sub rfl) ?_
        refine State.setFld_kept (hm.sub rfl) rfl (hm.bit rfl) ?_
        exact k_s212

theorem State.sourceRemove_kept {m : Nat} {s0 : State} {a0} {a1} {a2} {a3} (hm : Sub 914832349462728 m) (h0 : Kept m s0 a0) : Kept m s0 (State.sourceRemove a0 a1 a2 a3) := by
  unfold State.sourceRemove
  refine State.hostCmd_kept (hm.sub rfl) ?_ ?_
  · exact h0
  · intro y1 k2
    refine removeBody_kept (hm.sub rfl) ?_
    exact k2

theorem execSourceRemove_kept {m : Nat} {a0} {a1} {a2} {a3} {t : State} (hm : Sub 914832349462728 m) (h : execSourceRemove a0 a1 a2 a3 = .next t) : Kept m a3 t := by
  rw [live_next h]
  have h3 : Kept m a3 a3 := kept_refl
  refine State.sourceRemove_kept (hm.sub rfl) ?_
  exact h3

theorem State.drained_kept {m : Nat} {s0 : State} {a0} {a1} (hm : Sub 633357371703368 m) (h0 : Kept m s0 a0) : Kept m s0 (State.drained a0 a1) := by
  unfold State.drained
  split
  · exact h0
  · extract_lets -merge -useContext +onlyGivenNames rest1
    try clear_value rest1
    extract_lets -merge -useContext +onlyGivenNames s12
    try clear_value s12
    extract_lets -merge -useContext +onlyGivenNames s13
    have k_s13 : Kept m s0 s13 := by
      unfold s13
      refine kept_ing (hm.bit rfl) ?_
      exact h0
    clear_value s13
    refine State.completeDelta_kept (hm.sub rfl) ?_
    refine State.setFld_kept (hm.sub rfl) rfl (hm.bit rfl) ?_
    exact k_s13

theorem execSourceRemoveDrained_kept {m : Nat} {a0} {a1} {a2} {t : State} (hm : Sub 633357371703372 m) (h : execSourceRemoveDrained a0 a1 a2 = .next t) : Kept m a2 t := by
  rw [liveAt_next h]
  have h2 : ∀ n, Kept m a2 (a2.advanceNs n) := fun _ => State.advanceNs_kept (hm.sub rfl) kept_refl
  refine State.drained_kept (hm.sub rfl) ?_
  exact (h2 _)


end Sys2Proof.Machine
end

