-- ==== Sys2Proof/Laws/KeptTopology.lean ====
section
/-!
SUPPORT. What each operation of Machine/Topology.lean may change: one lemma per operation, its mask of parts and register blocks in `hm`.
-/
namespace Sys2Proof.Machine

theorem State.putFac_kept {m : Nat} {s0 : State} {a0} {a1} {a2} {a3} (hm : Sub 1 m) (h0 : Kept m s0 a0) : Kept m s0 (State.putFac a0 a1 a2 a3) := by
  unfold State.putFac
  refine State.putDev_kept (hm.sub rfl) ?_
  exact h0

theorem State.putEdge_kept {m : Nat} {s0 : State} {a0} {a1} {a2} {a3} (hm : Sub 1 m) (h0 : Kept m s0 a0) : Kept m s0 (State.putEdge a0 a1 a2 a3) := by
  unfold State.putEdge
  refine State.putDev_kept (hm.sub rfl) ?_
  exact h0

theorem State.putEdgeState_kept {m : Nat} {s0 : State} {a0} {a1} {a2} {a3} (hm : Sub 1 m) (h0 : Kept m s0 a0) : Kept m s0 (State.putEdgeState a0 a1 a2 a3) := by
  unfold State.putEdgeState
  extract_lets -merge -useContext +onlyGivenNames w1
  try clear_value w1
  refine State.putEdge_kept (hm.sub rfl) ?_
  refine State.putEdge_kept (hm.sub rfl) ?_
  exact h0

theorem State.setHull_kept {m : Nat} {s0 : State} {a0} {a1} {a2} (hm : Sub 256 m) (h0 : Kept m s0 a0) : Kept m s0 (State.setHull a0 a1 a2) := by
  unfold State.setHull
  refine kept_topo (hm.bit rfl) ?_
  exact h0

theorem State.vset_kept {m : Nat} {s0 : State} {a0} {a1} {a2} (hm : Sub 1 m) (h0 : Kept m s0 a0) : Kept m s0 (State.vset a0 a1 a2) := by
  unfold State.vset
  extract_lets -merge -useContext +onlyGivenNames w1
  try clear_value w1
  extract_lets -merge -useContext +onlyGivenNames old2
  try clear_value old2
  extract_lets -merge -useContext +onlyGivenNames new3
  try clear_value new3
  extract_lets -merge -useContext +onlyGivenNames s14
  have k_s14 : Kept m s0 s14 := by
    unfold s14
    refine State.putRow_kept (hm.sub rfl) ?_
    refine State.putRow_kept (hm.sub rfl) ?_
    exact h0
  clear_value s14
  refine kept_ite ?_ ?_
  · exact k_s14
  · refine State.putDev_kept (hm.sub rfl) ?_
    refine State.putDev_kept (hm.sub rfl) ?_
    refine State.putRow_kept (hm.sub rfl) ?_
    exact k_s14

theorem State.applyOp_kept {m : Nat} {s0 : State} {a0} {a1} (hm : Sub 257 m) (h0 : Kept m s0 a0) : Kept m s0 (State.applyOp a0 a1) := by
  unfold State.applyOp
  extract_lets -merge -useContext +onlyGivenNames k1
  try clear_value k1
  split
  · refine State.vset_kept (hm.sub rfl) ?_
    exact h0
  · refine State.putFac_kept (hm.sub rfl) ?_
    refine State.putFac_kept (hm.sub rfl) ?_
    refine State.putFac_kept (hm.sub rfl) ?_
    exact h0
  · refine State.putDev_kept (hm.sub rfl) ?_
    exact h0
  · refine State.setHull_kept (hm.sub rfl) ?_
    exact h0
  · refine State.setHull_kept (hm.sub rfl) ?_
    exact h0
  · refine State.putEdge_kept (hm.sub rfl) ?_
    refine State.putEdge_kept (hm.sub rfl) ?_
    refine State.putEdge_kept (hm.sub rfl) ?_
    exact h0
  · refine State.putDev_kept (hm.sub rfl) ?_
    exact h0
  · refine State.putEdge_kept (hm.sub rfl) ?_
    exact h0

theorem State.applyOps_kept {m : Nat} {s0 : State} {a0} {a1} (hm : Sub 257 m) (h0 : Kept m s0 a0) : Kept m s0 (State.applyOps a0 a1) := by
  unfold State.applyOps
  refine kept_foldl ?_ ?_
  · exact h0
  · intro x3 y1 k2
    refine State.applyOp_kept (hm.sub rfl) ?_
    exact k2

theorem editBody_kept {m : Nat} {s0 : State} {a0} {a1} {a2} {a3} (hm : Sub 281612416712961 m) (h3 : Kept m s0 a3) : Kept m s0 ((editBody a0 a1 a2 a3).1) := by
  unfold editBody
  refine kept_ite_fst ?_ ?_
  · refine kept_mkp_fst ?_
    exact h3
  · refine kept_ite_fst ?_ ?_
    · refine kept_mkp_fst ?_
      exact h3
    · extract_lets -merge -useContext +onlyGivenNames bytes1
      try clear_value bytes1
      extract_lets -merge -useContext +onlyGivenNames ops2
      try clear_value ops2
      split
      · refine kept_mkp_fst ?_
        exact h3
      · extract_lets -merge -useContext +onlyGivenNames s13
        try clear_value s13
        extract_lets -merge -useContext +onlyGivenNames s14
        have k_s14 : Kept m s0 s14 := by
          unfold s14
          refine kept_topo (hm.bit rfl) ?_
          exact h3
        clear_value s14
        refine kept_mkp_fst ?_
        refine State.sendDelta_kept (hm.sub rfl) ?_
        refine State.setFld_kept (hm.sub rfl) rfl (hm.bit rfl) ?_
        exact k_s14

theorem State.topoEdit_kept {m : Nat} {s0 : State} {a0} {a1} {a2} {a3} (hm : Sub 914935428677897 m) (h0 : Kept m s0 a0) : Kept m s0 (State.topoEdit a0 a1 a2 a3) := by
  unfold State.topoEdit
  refine State.hostCmd_kept (hm.sub rfl) ?_ ?_
  · exact h0
  · intro y1 k2
    refine editBody_kept (hm.sub rfl) ?_
    exact k2

theorem execTopoEdit_kept {m : Nat} {a0} {a1} {a2} {a3} {t : State} (hm : Sub 914935428677897 m) (h : execTopoEdit a0 a1 a2 a3 = .next t) : Kept m a3 t := by
  rw [live_next h]
  have h3 : Kept m a3 a3 := kept_refl
  refine State.topoEdit_kept (hm.sub rfl) ?_
  exact h3

theorem State.recount_kept {m : Nat} {s0 : State} {a0} (hm : Sub 257 m) (h0 : Kept m s0 a0) : Kept m s0 (State.recount a0) := by
  unfold State.recount
  extract_lets -merge -useContext +onlyGivenNames vcap1
  try clear_value vcap1
  extract_lets -merge -useContext +onlyGivenNames rows2
  try clear_value rows2
  extract_lets -merge -useContext +onlyGivenNames s13
  have k_s13 : Kept m s0 s13 := by
    unfold s13
    refine kept_foldl ?_ ?_
    · exact h0
    · intro x6 y4 k5
      extract_lets -merge -useContext +onlyGivenNames n7
      try clear_value n7
      refine State.putFac_kept (hm.sub rfl) ?_
      exact k5
  clear_value s13
  refine kept_foldl ?_ ?_
  · exact k_s13
  · intro x10 y8 k9
    extract_lets -merge -useContext +onlyGivenNames x11
    try clear_value x11
    refine State.setHull_kept (hm.sub rfl) ?_
    exact k9

theorem State.evalEdge_kept {m : Nat} {s0 : State} {a0} {a1} {a2} {a3} (hm : Sub 70506183655689 m) (h0 : Kept m s0 a0) (h1 : Kept m s0 a1) : Kept m s0 (State.evalEdge a0 a1 a2 a3) := by
  unfold State.evalEdge
  extract_lets -merge -useContext +onlyGivenNames new1
  try clear_value new1
  extract_lets -merge -useContext +onlyGivenNames s12
  have k_s12 : Kept m s0 s12 := by
    unfold s12
    refine kept_ite ?_ ?_
    · refine State.raise_kept (hm.sub rfl) rfl (hm.bit rfl) ?_
      exact h0
    · exact h0
  clear_value s12
  refine kept_ite ?_ ?_
  · exact k_s12
  · refine kept_ite ?_ ?_
    · exact k_s12
    · extract_lets -merge -useContext +onlyGivenNames s23
      have k_s23 : Kept m s0 s23 := by
        unfold s23
        refine State.bump_kept (hm.sub rfl) rfl (hm.bit rfl) ?_
        refine State.putEdgeState_kept (hm.sub rfl) ?_
        exact k_s12
      clear_value s23
      refine kept_topo (hm.bit rfl) ?_
      exact k_s23

theorem State.gather_kept {m : Nat} {s0 : State} {a0} (hm : Sub 351981161414921 m) (h0 : Kept m s0 a0) : Kept m s0 (State.gather a0) := by
  unfold State.gather
  extract_lets -merge -useContext +onlyGivenNames batch1
  try clear_value batch1
  extract_lets -merge -useContext +onlyGivenNames ops2
  try clear_value ops2
  extract_lets -merge -useContext +onlyGivenNames trial3
  have k_trial3 : Kept m s0 trial3 := by
    unfold trial3
    refine State.applyOps_kept (hm.sub rfl) ?_
    exact h0
  clear_value trial3
  extract_lets -merge -useContext +onlyGivenNames fresh4
  try clear_value fresh4
  extract_lets -merge -useContext +onlyGivenNames s15
  have k_s15 : Kept m s0 s15 := by
    unfold s15
    refine kept_foldl ?_ ?_
    · exact h0
    · intro x8 y6 k7
      refine kept_ite ?_ ?_
      · refine State.evalEdge_kept (hm.sub rfl) ?_ ?_
        · exact k7
        · exact k_trial3
      · exact k7
  clear_value s15
  extract_lets -merge -useContext +onlyGivenNames s29
  have k_s29 : Kept m s0 s29 := by
    unfold s29
    refine kept_foldl ?_ ?_
    · exact k_s15
    · intro x12 y10 k11
      refine State.evalEdge_kept (hm.sub rfl) ?_ ?_
      · exact k11
      · exact k_trial3
  clear_value s29
  extract_lets -merge -useContext +onlyGivenNames before13
  try clear_value before13
  extract_lets -merge -useContext +onlyGivenNames changed14
  try clear_value changed14
  extract_lets -merge -useContext +onlyGivenNames firsts15
  try clear_value firsts15
  extract_lets -merge -useContext +onlyGivenNames next16
  try clear_value next16
  extract_lets -merge -useContext +onlyGivenNames told17
  try clear_value told17
  extract_lets -merge -useContext +onlyGivenNames s2a18
  have k_s2a18 : Kept m s0 s2a18 := by
    unfold s2a18
    refine kept_ite ?_ ?_
    · exact k_s29
    · refine State.sendDelta_kept (hm.sub rfl) ?_
      exact k_s29
  clear_value s2a18
  extract_lets -merge -useContext +onlyGivenNames s319
  have k_s319 : Kept m s0 s319 := by
    unfold s319
    refine kept_ite ?_ ?_
    · refine State.sendDelta_kept (hm.sub rfl) ?_
      exact k_s2a18
    · exact k_s2a18
  clear_value s319
  refine kept_ite ?_ ?_
  · exact k_s319
  · extract_lets -merge -useContext +onlyGivenNames t220
    have k_t220 : Kept m s0 t220 := by
      unfold t220
      refine kept_foldl ?_ ?_
      · refine State.applyOps_kept (hm.sub rfl) ?_
        exact k_s319
      · intro x23 y21 k22
        refine State.putEdgeState_kept (hm.sub rfl) ?_
        exact k22
    clear_value t220
    extract_lets -merge -useContext +onlyGivenNames m24
    try clear_value m24
    extract_lets -merge -useContext +onlyGivenNames splits25
    try clear_value splits25
    extract_lets -merge -useContext +onlyGivenNames w26
    try clear_value w26
    extract_lets -merge -useContext +onlyGivenNames s427
    try clear_value s427
    extract_lets -merge -useContext +onlyGivenNames s428
    have k_s428 : Kept m s0 s428 := by
      unfold s428
      refine kept_topo (hm.bit rfl) ?_
      exact k_s319
    clear_value s428
    refine State.setFld_kept (hm.sub rfl) rfl (hm.bit rfl) ?_
    exact k_s428

theorem State.commitWork_kept {m : Nat} {s0 : State} {a0} {a1} (hm : Sub 633460450918665 m) (h0 : Kept m s0 a0) : Kept m s0 (State.commitWork a0 a1) := by
  unfold State.commitWork
  extract_lets -merge -useContext +onlyGivenNames ops1
  try clear_value ops1
  extract_lets -merge -useContext +onlyGivenNames s12
  have k_s12 : Kept m s0 s12 := by
    unfold s12
    refine kept_foldl ?_ ?_
    · refine State.applyOps_kept (hm.sub rfl) ?_
      exact h0
    · intro x5 y3 k4
      refine State.putEdgeState_kept (hm.sub rfl) ?_
      exact k4
  clear_value s12
  extract_lets -merge -useContext +onlyGivenNames s26
  have k_s26 : Kept m s0 s26 := by
    unfold s26
    refine kept_ite ?_ ?_
    · refine State.recount_kept (hm.sub rfl) ?_
      exact k_s12
    · exact k_s12
  clear_value s26
  extract_lets -merge -useContext +onlyGivenNames gen7
  try clear_value gen7
  extract_lets -merge -useContext +onlyGivenNames g8
  try clear_value g8
  extract_lets -merge -useContext +onlyGivenNames s39
  try clear_value s39
  extract_lets -merge -useContext +onlyGivenNames s310
  have k_s310 : Kept m s0 s310 := by
    unfold s310
    refine kept_topo (hm.bit rfl) ?_
    exact k_s26
  clear_value s310
  extract_lets -merge -useContext +onlyGivenNames s411
  have k_s411 : Kept m s0 s411 := by
    unfold s411
    refine State.bump_kept (hm.sub rfl) rfl (hm.bit rfl) ?_
    refine State.setVal_kept (hm.sub rfl) rfl (hm.bit rfl) ?_
    refine State.setVal_kept (hm.sub rfl) rfl (hm.bit rfl) ?_
    refine State.setVal_kept (hm.sub rfl) rfl (hm.bit rfl) ?_
    refine State.setVal_kept (hm.sub rfl) rfl (hm.bit rfl) ?_
    exact k_s310
  clear_value s411
  extract_lets -merge -useContext +onlyGivenNames s512
  have k_s512 : Kept m s0 s512 := by
    unfold s512
    refine State.bumpBy_kept (hm.sub rfl) rfl (hm.bit rfl) ?_
    refine State.bumpBy_kept (hm.sub rfl) rfl (hm.bit rfl) ?_
    refine State.bumpBy_kept (hm.sub rfl) rfl (hm.bit rfl) ?_
    exact k_s411
  clear_value s512
  split
  · exact k_s512
  · extract_lets -merge -useContext +onlyGivenNames s613
    have k_s613 : Kept m s0 s613 := by
      unfold s613
      refine State.setFld_kept (hm.sub rfl) rfl (hm.bit rfl) ?_
      exact k_s512
    clear_value s613
    split
    · refine State.completeDelta_kept (hm.sub rfl) ?_
      exact k_s613
    · exact k_s613

theorem State.dropTicks_kept {m : Nat} {s0 : State} {a0} (hm : Sub 1048576 m) (h0 : Kept m s0 a0) : Kept m s0 (State.dropTicks a0) := by
  unfold State.dropTicks
  extract_lets -merge -useContext +onlyGivenNames keep1
  try clear_value keep1
  refine kept_chd (hm.bit rfl) ?_
  exact h0

theorem State.followTick_kept {m : Nat} {s0 : State} {a0} (hm : Sub 633460451967241 m) (h0 : Kept m s0 a0) : Kept m s0 (State.followTick a0) := by
  unfold State.followTick
  extract_lets -merge -useContext +onlyGivenNames es1
  try clear_value es1
  extract_lets -merge -useContext +onlyGivenNames due2
  try clear_value due2
  extract_lets -merge -useContext +onlyGivenNames batch3
  try clear_value batch3
  extract_lets -merge -useContext +onlyGivenNames s14
  have k_s14 : Kept m s0 s14 := by
    unfold s14
    refine State.dropTicks_kept (hm.sub rfl) ?_
    exact h0
  clear_value s14
  extract_lets -merge -useContext +onlyGivenNames s25
  try clear_value s25
  extract_lets -merge -useContext +onlyGivenNames s26
  have k_s26 : Kept m s0 s26 := by
    unfold s26
    refine kept_topo (hm.bit rfl) ?_
    exact k_s14
  clear_value s26
  refine kept_ite ?_ ?_
  · exact k_s26
  · extract_lets -merge -useContext +onlyGivenNames ops7
    try clear_value ops7
    extract_lets -merge -useContext +onlyGivenNames trial8
    have k_trial8 : Kept m s0 trial8 := by
      unfold trial8
      refine State.applyOps_kept (hm.sub rfl) ?_
      exact k_s26
    clear_value trial8
    extract_lets -merge -useContext +onlyGivenNames fresh9
    try clear_value fresh9
    extract_lets -merge -useContext +onlyGivenNames s310
    have k_s310 : Kept m s0 s310 := by
      unfold s310
      refine kept_foldl ?_ ?_
      · exact k_s26
      · intro x13 y11 k12
        extract_lets -merge -useContext +onlyGivenNames s414
        have k_s414 : Kept m s0 s414 := by
          unfold s414
          refine kept_ite ?_ ?_
          · refine State.raise_kept (hm.sub rfl) rfl (hm.bit rfl) ?_
            exact k12
          · exact k12
        clear_value s414
        refine kept_ite ?_ ?_
        · exact k_s414
        · refine State.bump_kept (hm.sub rfl) rfl (hm.bit rfl) ?_
          exact k_s414
    clear_value s310
    extract_lets -merge -useContext +onlyGivenNames firsts15
    try clear_value firsts15
    extract_lets -merge -useContext +onlyGivenNames m16
    try clear_value m16
    refine State.commitWork_kept (hm.sub rfl) ?_
    exact k_s310

theorem State.topoTick_kept {m : Nat} {s0 : State} {a0} (hm : Sub 914935428677897 m) (h0 : Kept m s0 a0) : Kept m s0 (State.topoTick a0) := by
  unfold State.topoTick
  split
  · refine State.gather_kept (hm.sub rfl) ?_
    exact h0
  · refine kept_ite ?_ ?_
    · extract_lets -merge -useContext +onlyGivenNames s11
      have k_s11 : Kept m s0 s11 := by
        unfold s11
        refine kept_foldl ?_ ?_
        · exact h0
        · intro x4 y2 k3
          refine State.evalEdge_kept (hm.sub rfl) ?_ ?_
          · exact k3
          · exact h0
      clear_value s11
      refine State.raise_kept (hm.sub rfl) rfl (hm.bit rfl) ?_
      refine State.bump_kept (hm.sub rfl) rfl (hm.bit rfl) ?_
      exact k_s11
    · refine State.gather_kept (hm.sub rfl) ?_
      refine State.commitWork_kept (hm.sub rfl) ?_
      exact h0

theorem execTopologyTick_kept {m : Nat} {a0} {a1} {t : State} (hm : Sub 914935428677901 m) (h : execTopologyTick a0 a1 = .next t) : Kept m a1 t := by
  rw [liveAt_next h]
  have h1 : ∀ n, Kept m a1 (a1.advanceNs n) := fun _ => State.advanceNs_kept (hm.sub rfl) kept_refl
  refine kept_ite ?_ ?_
  · exact (h1 _)
  · refine kept_ite ?_ ?_
    · refine State.followTick_kept (hm.sub rfl) ?_
      exact (h1 _)
    · refine State.topoTick_kept (hm.sub rfl) ?_
      refine State.dropTicks_kept (hm.sub rfl) ?_
      exact (h1 _)

theorem execSplitRecomputeDone_kept {m : Nat} {a0} {a1} {t : State} (hm : Sub 137438953476 m) (h : execSplitRecomputeDone a0 a1 = .next t) : Kept m a1 t := by
  rw [liveAt_next h]
  have h1 : ∀ n, Kept m a1 (a1.advanceNs n) := fun _ => State.advanceNs_kept (hm.sub rfl) kept_refl
  refine State.setFld_kept (hm.sub rfl) rfl (hm.bit rfl) ?_
  exact (h1 _)

theorem State.readRow_kept {m : Nat} {s0 : State} {a0} {a1} {a2} {a3} (hm : Sub 70506183655433 m) (h0 : Kept m s0 a0) : Kept m s0 ((State.readRow a0 a1 a2 a3).1) := by
  unfold State.readRow
  extract_lets -merge -useContext +onlyGivenNames bad1
  try clear_value bad1
  extract_lets -merge -useContext +onlyGivenNames age2
  try clear_value age2
  extract_lets -merge -useContext +onlyGivenNames w3
  try clear_value w3
  extract_lets -merge -useContext +onlyGivenNames s14
  have k_s14 : Kept m s0 s14 := by
    unfold s14
    refine State.putRow_kept (hm.sub rfl) ?_
    exact h0
  clear_value s14
  refine kept_ite_fst ?_ ?_
  · refine kept_mkp_fst ?_
    refine State.raiseInfo_kept (hm.sub rfl) rfl (hm.bit rfl) ?_
    refine State.bump_kept (hm.sub rfl) rfl (hm.bit rfl) ?_
    refine State.doubleBit_kept (hm.sub rfl) ?_
    exact k_s14
  · refine kept_mkp_fst ?_
    exact k_s14

theorem State.readRows_kept {m : Nat} {s0 : State} {a0} {a1} {a2} {a3} (hm : Sub 70506183655433 m) (h0 : Kept m s0 a0) : Kept m s0 ((State.readRows a0 a1 a2 a3).1) := by
  induction a3 generalizing a0 with
  | nil => exact h0
  | cons v vs ih =>
    unfold State.readRows
    exact ih (State.readRow_kept (hm.sub rfl) h0)

theorem State.startPass_kept {m : Nat} {s0 : State} {a0} {a1} (hm : Sub 70506183721225 m) (h0 : Kept m s0 a0) : Kept m s0 (State.startPass a0 a1) := by
  unfold State.startPass
  extract_lets -merge -useContext +onlyGivenNames tref1
  try clear_value tref1
  extract_lets -merge -useContext +onlyGivenNames m2
  try clear_value m2
  extract_lets -merge -useContext +onlyGivenNames takes3
  try clear_value takes3
  extract_lets -merge -useContext +onlyGivenNames vids4
  try clear_value vids4
  split
  · rename_i z5 z6 e7
    have k8 : Kept m s0 z5 := by
      refine kept_pair_fst e7 ?_
      refine State.readRows_kept (hm.sub rfl) ?_
      exact h0
    extract_lets -merge -useContext +onlyGivenNames pass9
    try clear_value pass9
    extract_lets -merge -useContext +onlyGivenNames parts10
    try clear_value parts10
    extract_lets -merge -useContext +onlyGivenNames count11
    try clear_value count11
    extract_lets -merge -useContext +onlyGivenNames facs12
    try clear_value facs12
    extract_lets -merge -useContext +onlyGivenNames hulls13
    try clear_value hulls13
    extract_lets -merge -useContext +onlyGivenNames s214
    try clear_value s214
    extract_lets -merge -useContext +onlyGivenNames s215
    have k_s215 : Kept m s0 s215 := by
      unfold s215
      refine kept_topo (hm.bit rfl) ?_
      exact k8
    clear_value s215
    refine State.kernelBoundary_kept (hm.sub rfl) ?_
    refine State.setFld_kept (hm.sub rfl) rfl (hm.bit rfl) ?_
    exact k_s215

theorem execAggregationPass_kept {m : Nat} {a0} {a1} {a2} {t : State} (hm : Sub 70506183721229 m) (h : execAggregationPass a0 a1 a2 = .next t) : Kept m a2 t := by
  rw [liveAt_next h]
  have h2 : ∀ n, Kept m a2 (a2.advanceNs n) := fun _ => State.advanceNs_kept (hm.sub rfl) kept_refl
  refine kept_ite ?_ ?_
  · exact (h2 _)
  · refine kept_ite ?_ ?_
    · refine State.raise_kept (hm.sub rfl) rfl (hm.bit rfl) ?_
      refine State.bump_kept (hm.sub rfl) rfl (hm.bit rfl) ?_
      exact (h2 _)
    · refine State.startPass_kept (hm.sub rfl) ?_
      exact (h2 _)

theorem State.abandonPass_kept {m : Nat} {s0 : State} {a0} (hm : Sub 137438953728 m) (h0 : Kept m s0 a0) : Kept m s0 (State.abandonPass a0) := by
  unfold State.abandonPass
  refine State.setFld_kept (hm.sub rfl) rfl (hm.bit rfl) ?_
  refine kept_topo (hm.bit rfl) ?_
  exact h0

theorem State.endPass_kept {m : Nat} {s0 : State} {a0} {a1} (hm : Sub 351981161415433 m) (h0 : Kept m s0 a0) : Kept m s0 (State.endPass a0 a1) := by
  unfold State.endPass
  extract_lets -merge -useContext +onlyGivenNames c1
  try clear_value c1
  extract_lets -merge -useContext +onlyGivenNames s12
  have k_s12 : Kept m s0 s12 := by
    unfold s12
    refine kept_foldl ?_ ?_
    · exact h0
    · intro x5 y3 k4
      refine State.putDev_kept (hm.sub rfl) ?_
      exact k4
  clear_value s12
  extract_lets -merge -useContext +onlyGivenNames s26
  have k_s26 : Kept m s0 s26 := by
    unfold s26
    refine kept_foldl ?_ ?_
    · exact k_s12
    · intro x9 y7 k8
      refine State.setHull_kept (hm.sub rfl) ?_
      exact k8
  clear_value s26
  extract_lets -merge -useContext +onlyGivenNames pass10
  try clear_value pass10
  extract_lets -merge -useContext +onlyGivenNames s311
  have k_s311 : Kept m s0 s311 := by
    unfold s311
    refine State.setVal_kept (hm.sub rfl) rfl (hm.bit rfl) ?_
    refine State.setVal_kept (hm.sub rfl) rfl (hm.bit rfl) ?_
    refine State.setFld_kept (hm.sub rfl) rfl (hm.bit rfl) ?_
    refine State.abandonPass_kept (hm.sub rfl) ?_
    exact k_s26
  clear_value s311
  extract_lets -merge -useContext +onlyGivenNames counts12
  try clear_value counts12
  extract_lets -merge -useContext +onlyGivenNames pc13
  try clear_value pc13
  extract_lets -merge -useContext +onlyGivenNames s414
  try clear_value s414
  extract_lets -merge -useContext +onlyGivenNames s415
  have k_s415 : Kept m s0 s415 := by
    unfold s415
    refine kept_ite ?_ ?_
    · exact k_s311
    · refine kept_det (hm.bit rfl) ?_
      exact k_s311
  clear_value s415
  refine State.sendDelta_kept (hm.sub rfl) ?_
  refine State.event_kept (hm.sub rfl) ?_
  exact k_s415

theorem execAggregationPassComplete_kept {m : Nat} {a0} {a1} {t : State} (hm : Sub 351981161415437 m) (h : execAggregationPassComplete a0 a1 = .next t) : Kept m a1 t := by
  rw [liveAt_next h]
  have h1 : ∀ n, Kept m a1 (a1.advanceNs n) := fun _ => State.advanceNs_kept (hm.sub rfl) kept_refl
  split
  · exact (h1 _)
  · refine kept_ite ?_ ?_
    · refine State.endPass_kept (hm.sub rfl) ?_
      exact (h1 _)
    · refine State.abandonPass_kept (hm.sub rfl) ?_
      exact (h1 _)


end Sys2Proof.Machine
end

