-- ==== Sys2Proof/Laws/KeptDetect.lean ====
section
/-!
SUPPORT. What each operation of Machine/Detect.lean may change: one lemma per operation, its mask of parts and register blocks in `hm`.
-/
namespace Sys2Proof.Machine

theorem State.detInactive_kept {m : Nat} {s0 : State} {a0} {a1} (hm : Sub 512 m) (h0 : Kept m s0 a0) : Kept m s0 (State.detInactive a0 a1) := by
  unfold State.detInactive
  refine kept_ite ?_ ?_
  · refine kept_det (hm.bit rfl) ?_
    exact h0
  · refine kept_det (hm.bit rfl) ?_
    exact h0

theorem State.detWrite_kept {m : Nat} {s0 : State} {a0} {a1} (hm : Sub 281474977759744 m) (h0 : Kept m s0 a0) : Kept m s0 (State.detWrite a0 a1) := by
  unfold State.detWrite
  refine kept_ite ?_ ?_
  · refine kept_det (hm.bit rfl) ?_
    exact h0
  · refine State.sendDelta_kept (hm.sub rfl) ?_
    refine State.detInactive_kept (hm.sub rfl) ?_
    exact h0

theorem State.writeDetParam_kept {m : Nat} {s0 : State} {a0} {a1} {a2} (hm : Sub 352118600368648 m) (h0 : Kept m s0 a0) : Kept m s0 (State.writeDetParam a0 a1 a2) := by
  unfold State.writeDetParam
  split
  · exact h0
  · refine kept_ite ?_ ?_
    · refine State.cfgErr_kept (hm.sub rfl) rfl (hm.bit rfl) ?_
      exact h0
    · refine State.detWrite_kept (hm.sub rfl) ?_
      exact h0

theorem State.detTcmdWrite_kept {m : Nat} {s0 : State} {a0} (hm : Sub 352118600368648 m) (h0 : Kept m s0 a0) : Kept m s0 (State.detTcmdWrite a0) := by
  unfold State.detTcmdWrite
  extract_lets -merge -useContext +onlyGivenNames t1
  try clear_value t1
  extract_lets -merge -useContext +onlyGivenNames i2
  try clear_value i2
  extract_lets -merge -useContext +onlyGivenNames w3
  try clear_value w3
  extract_lets -merge -useContext +onlyGivenNames hi4
  try clear_value hi4
  extract_lets -merge -useContext +onlyGivenNames lo5
  try clear_value lo5
  refine kept_ite ?_ ?_
  · refine State.cfgErr_kept (hm.sub rfl) rfl (hm.bit rfl) ?_
    exact h0
  · refine kept_ite ?_ ?_
    · refine State.raise_kept (hm.sub rfl) rfl (hm.bit rfl) ?_
      exact h0
    · refine kept_ite ?_ ?_
      · refine State.cfgErr_kept (hm.sub rfl) rfl (hm.bit rfl) ?_
        exact h0
      · refine State.detWrite_kept (hm.sub rfl) ?_
        exact h0

theorem execDetTcmdWrite_kept {m : Nat} {a0} {a1} {t : State} (hm : Sub 4855718227870216 m) (h : execDetTcmdWrite a0 a1 = .next t) : Kept m a1 t := by
  rw [live_next h]
  have h1 : Kept m a1 a1 := kept_refl
  refine State.writeBy_kept (hm.sub rfl) ?_ ?_
  · exact h1
  · intro y1 k2
    refine State.detTcmdWrite_kept (hm.sub rfl) ?_
    exact k2

theorem State.putTvals_kept {m : Nat} {s0 : State} {a0} {a1} (hm : Sub 274877906944 m) (h0 : Kept m s0 a0) : Kept m s0 (State.putTvals a0 a1) := by
  unfold State.putTvals
  refine kept_foldl ?_ ?_
  · exact h0
  · intro x3 y1 k2
    refine State.setVal_kept (hm.sub rfl) (show _ / 1048576 % 32 = 6 by unfold Reg.DET_TVALj; omega) (hm.bit rfl) ?_
    exact k2

theorem State.detTcmdRead_kept {m : Nat} {s0 : State} {a0} (hm : Sub 70643622608904 m) (h0 : Kept m s0 a0) : Kept m s0 (State.detTcmdRead a0) := by
  unfold State.detTcmdRead
  refine kept_ite ?_ ?_
  · refine State.cfgErr_kept (hm.sub rfl) rfl (hm.bit rfl) ?_
    exact h0
  · extract_lets -merge -useContext +onlyGivenNames t1
    try clear_value t1
    refine State.putTvals_kept (hm.sub rfl) ?_
    exact h0

theorem execDetTcmdRead_kept {m : Nat} {a0} {a1} {t : State} (hm : Sub 4574243250110472 m) (h : execDetTcmdRead a0 a1 = .next t) : Kept m a1 t := by
  rw [live_next h]
  have h1 : Kept m a1 a1 := kept_refl
  refine State.writeBy_kept (hm.sub rfl) ?_ ?_
  · exact h1
  · intro y1 k2
    refine State.detTcmdRead_kept (hm.sub rfl) ?_
    exact k2

theorem State.dropHistory_kept {m : Nat} {s0 : State} {a0} {a1} (hm : Sub 512 m) (h0 : Kept m s0 a0) : Kept m s0 (State.dropHistory a0 a1) := by
  unfold State.dropHistory
  refine kept_det (hm.bit rfl) ?_
  exact h0

theorem State.checkSeq_kept {m : Nat} {s0 : State} {a0} {a1} {a2} (hm : Sub 512 m) (h0 : Kept m s0 a0) : Kept m s0 (State.checkSeq a0 a1 a2) := by
  unfold State.checkSeq
  split
  · exact h0
  · refine kept_ite ?_ ?_
    · exact h0
    · refine State.dropHistory_kept (hm.sub rfl) ?_
      exact h0

theorem State.cohere_kept {m : Nat} {s0 : State} {a0} {a1} (hm : Sub 70781061562888 m) (h0 : Kept m s0 a0) : Kept m s0 ((State.cohere a0 a1).1) := by
  unfold State.cohere
  extract_lets -merge -useContext +onlyGivenNames s1
  have k_s1 : Kept m s0 s1 := by
    unfold s1
    refine kept_ite ?_ ?_
    · exact h0
    · refine State.checkSeq_kept (hm.sub rfl) ?_
      exact h0
  clear_value s1
  extract_lets -merge -useContext +onlyGivenNames b2
  try clear_value b2
  split
  · extract_lets -merge -useContext +onlyGivenNames hs3
    try clear_value hs3
    extract_lets -merge -useContext +onlyGivenNames s14
    have k_s14 : Kept m s0 s14 := by
      unfold s14
      refine kept_foldl ?_ ?_
      · exact k_s1
      · intro x7 y5 k6
        refine kept_ite ?_ ?_
        · refine State.raise_kept (hm.sub rfl) rfl (hm.bit rfl) ?_
          refine State.bump_kept (hm.sub rfl) rfl (hm.bit rfl) ?_
          exact k6
        · exact k6
    clear_value s14
    extract_lets -merge -useContext +onlyGivenNames s28
    have k_s28 : Kept m s0 s28 := by
      unfold s28
      refine kept_ite ?_ ?_
      · refine State.raise_kept (hm.sub rfl) rfl (hm.bit rfl) ?_
        exact k_s14
      · exact k_s14
    clear_value s28
    extract_lets -merge -useContext +onlyGivenNames ds9
    try clear_value ds9
    extract_lets -merge -useContext +onlyGivenNames s310
    try clear_value s310
    extract_lets -merge -useContext +onlyGivenNames s311
    have k_s311 : Kept m s0 s311 := by
      unfold s311
      refine kept_ite ?_ ?_
      · exact k_s28
      · refine kept_det (hm.bit rfl) ?_
        exact k_s28
    clear_value s311
    refine kept_mkp_fst ?_
    exact k_s311

theorem execCohereComplete_kept {m : Nat} {a0} {a1} {a2} {a3} {t : State} (hm : Sub 70781061562892 m) (h : execCohereComplete a0 a1 a2 a3 = .next t) : Kept m a3 t := by
  rw [liveAt_next h]
  have h3 : ∀ n, Kept m a3 (a3.advanceNs n) := fun _ => State.advanceNs_kept (hm.sub rfl) kept_refl
  split
  · exact (h3 _)
  · split
    · rename_i z1 z2 e3
      have k4 : Kept m a3 z1 := by
        refine kept_pair_fst e3 ?_
        refine State.cohere_kept (hm.sub rfl) ?_
        exact (h3 _)
      refine kept_det (hm.bit rfl) ?_
      exact k4

theorem State.setSubj_kept {m : Nat} {s0 : State} {a0} {a1} {a2} {a3} (hm : Sub 512 m) (h0 : Kept m s0 a0) : Kept m s0 (State.setSubj a0 a1 a2 a3) := by
  unfold State.setSubj
  refine kept_det (hm.bit rfl) ?_
  exact h0

theorem State.keepRun_kept {m : Nat} {s0 : State} {a0} {a1} {a2} {a3} (hm : Sub 512 m) (h0 : Kept m s0 a0) : Kept m s0 (State.keepRun a0 a1 a2 a3) := by
  unfold State.keepRun
  extract_lets -merge -useContext +onlyGivenNames b1
  try clear_value b1
  extract_lets -merge -useContext +onlyGivenNames us2
  try clear_value us2
  extract_lets -merge -useContext +onlyGivenNames s13
  have k_s13 : Kept m s0 s13 := by
    unfold s13
    refine kept_foldl ?_ ?_
    · exact h0
    · intro x6 y4 k5
      refine State.setSubj_kept (hm.sub rfl) ?_
      exact k5
  clear_value s13
  extract_lets -merge -useContext +onlyGivenNames prev7
  try clear_value prev7
  refine kept_det (hm.bit rfl) ?_
  exact k_s13


end Sys2Proof.Machine
end

