-- ==== Sys2Proof/Laws/KeptDispatcher.lean ====
section
/-!
SUPPORT. What each operation of Machine/Dispatcher.lean may change: one lemma per operation, its mask of parts and register blocks in `hm`.
-/
namespace Sys2Proof.Machine

theorem State.setTask_kept {m : Nat} {s0 : State} {a0} {a1} {a2} (hm : Sub 262144 m) (h0 : Kept m s0 a0) : Kept m s0 (State.setTask a0 a1 a2) := by
  unfold State.setTask
  refine kept_tsk (hm.bit rfl) ?_
  exact h0

theorem State.setLevel_kept {m : Nat} {s0 : State} {a0} {a1} {a2} (hm : Sub 262144 m) (h0 : Kept m s0 a0) : Kept m s0 (State.setLevel a0 a1 a2) := by
  unfold State.setLevel
  refine kept_tsk (hm.bit rfl) ?_
  exact h0

theorem State.setRun_kept {m : Nat} {s0 : State} {a0} {a1} {a2} (hm : Sub 262144 m) (h0 : Kept m s0 a0) : Kept m s0 (State.setRun a0 a1 a2) := by
  unfold State.setRun
  refine kept_tsk (hm.bit rfl) ?_
  exact h0

theorem State.preemptFor_kept {m : Nat} {s0 : State} {a0} {a1} (hm : Sub 140737488486400 m) (h0 : Kept m s0 a0) : Kept m s0 (State.preemptFor a0 a1) := by
  unfold State.preemptFor
  refine kept_ite ?_ ?_
  · exact h0
  · extract_lets -merge -useContext +onlyGivenNames t1
    try clear_value t1
    extract_lets -merge -useContext +onlyGivenNames may2
    try clear_value may2
    extract_lets -merge -useContext +onlyGivenNames pick3
    try clear_value pick3
    split
    · exact h0
    · refine kept_ite ?_ ?_
      · exact h0
      · refine State.bump_kept (hm.sub rfl) rfl (hm.bit rfl) ?_
        refine State.setCore_kept (hm.sub rfl) ?_
        exact h0

theorem State.clearPreempt_kept {m : Nat} {s0 : State} {a0} {a1} (hm : Sub 131072 m) (h0 : Kept m s0 a0) : Kept m s0 (State.clearPreempt a0 a1) := by
  unfold State.clearPreempt
  refine State.setCore_kept (hm.sub rfl) ?_
  exact h0

theorem State.makeReady_kept {m : Nat} {s0 : State} {a0} {a1} {a2} (hm : Sub 140737488748544 m) (h0 : Kept m s0 a0) : Kept m s0 (State.makeReady a0 a1 a2) := by
  unfold State.makeReady
  extract_lets -merge -useContext +onlyGivenNames t1
  try clear_value t1
  extract_lets -merge -useContext +onlyGivenNames l2
  try clear_value l2
  refine State.preemptFor_kept (hm.sub rfl) ?_
  refine State.setLevel_kept (hm.sub rfl) ?_
  refine State.setTask_kept (hm.sub rfl) ?_
  exact h0

theorem State.unqueue_kept {m : Nat} {s0 : State} {a0} {a1} (hm : Sub 262144 m) (h0 : Kept m s0 a0) : Kept m s0 (State.unqueue a0 a1) := by
  unfold State.unqueue
  extract_lets -merge -useContext +onlyGivenNames t1
  try clear_value t1
  extract_lets -merge -useContext +onlyGivenNames s12
  have k_s12 : Kept m s0 s12 := by
    unfold s12
    refine State.setLevel_kept (hm.sub rfl) ?_
    exact h0
  clear_value s12
  refine kept_tsk (hm.bit rfl) ?_
  exact k_s12

theorem State.tskReady_kept {m : Nat} {s0 : State} {a0} {a1} (hm : Sub 140737488748544 m) (h0 : Kept m s0 a0) : Kept m s0 (State.tskReady a0 a1) := by
  unfold State.tskReady
  extract_lets -merge -useContext +onlyGivenNames t1
  try clear_value t1
  split
  · refine State.makeReady_kept (hm.sub rfl) ?_
    exact h0
  · refine State.setTask_kept (hm.sub rfl) ?_
    exact h0
  · exact h0
  · exact h0

theorem State.tskDelay_kept {m : Nat} {s0 : State} {a0} {a1} {a2} (hm : Sub 211106233319432 m) (h0 : Kept m s0 a0) : Kept m s0 (State.tskDelay a0 a1 a2) := by
  unfold State.tskDelay
  refine kept_ite ?_ ?_
  · refine State.cfgErr_kept (hm.sub rfl) rfl (hm.bit rfl) ?_
    exact h0
  · extract_lets -merge -useContext +onlyGivenNames t1
    try clear_value t1
    split
    · extract_lets -merge -useContext +onlyGivenNames s12
      have k_s12 : Kept m s0 s12 := by
        unfold s12
        refine State.setTask_kept (hm.sub rfl) ?_
        exact h0
      clear_value s12
      refine kept_tsk (hm.bit rfl) ?_
      exact k_s12
    · exact h0
    · exact h0
    · exact h0

theorem State.tskCancel_kept {m : Nat} {s0 : State} {a0} {a1} (hm : Sub 262144 m) (h0 : Kept m s0 a0) : Kept m s0 (State.tskCancel a0 a1) := by
  unfold State.tskCancel
  extract_lets -merge -useContext +onlyGivenNames t1
  try clear_value t1
  split
  · exact h0
  · refine State.setTask_kept (hm.sub rfl) ?_
    exact h0
  · refine State.setTask_kept (hm.sub rfl) ?_
    refine State.unqueue_kept (hm.sub rfl) ?_
    exact h0
  · refine State.setTask_kept (hm.sub rfl) ?_
    refine State.unqueue_kept (hm.sub rfl) ?_
    exact h0

theorem State.tskDone_kept {m : Nat} {s0 : State} {a0} {a1} {a2} {a3} {a4} (hm : Sub 211106233450504 m) (h0 : Kept m s0 a0) : Kept m s0 (State.tskDone a0 a1 a2 a3 a4) := by
  unfold State.tskDone
  split
  · refine State.raise_kept (hm.sub rfl) rfl (hm.bit rfl) ?_
    exact h0
  · refine kept_ite ?_ ?_
    · refine State.raise_kept (hm.sub rfl) rfl (hm.bit rfl) ?_
      exact h0
    · extract_lets -merge -useContext +onlyGivenNames t1
      try clear_value t1
      extract_lets -merge -useContext +onlyGivenNames s12
      have k_s12 : Kept m s0 s12 := by
        unfold s12
        refine State.clearPreempt_kept (hm.sub rfl) ?_
        refine State.setRun_kept (hm.sub rfl) ?_
        exact h0
      clear_value s12
      refine kept_ite ?_ ?_
      · refine State.makeReady_kept (hm.sub rfl) ?_
        exact k_s12
      · refine kept_ite ?_ ?_
        · refine State.makeReady_kept (hm.sub rfl) ?_
          refine State.setTask_kept (hm.sub rfl) ?_
          exact k_s12
        · refine State.setTask_kept (hm.sub rfl) ?_
          exact k_s12

theorem State.tskNext_kept {m : Nat} {s0 : State} {a0} {a1} (hm : Sub 140737505525760 m) (h0 : Kept m s0 a0) : Kept m s0 (State.tskNext a0 a1) := by
  unfold State.tskNext
  split
  · refine State.answer_kept (hm.sub rfl) ?_
    exact h0
  · extract_lets -merge -useContext +onlyGivenNames s01
    have k_s01 : Kept m s0 s01 := by
      unfold s01
      refine State.clearPreempt_kept (hm.sub rfl) ?_
      exact h0
    clear_value s01
    extract_lets -merge -useContext +onlyGivenNames order2
    try clear_value order2
    split
    · extract_lets -merge -useContext +onlyGivenNames passed3
      try clear_value passed3
      refine State.answer_kept (hm.sub rfl) ?_
      refine State.bumpBy_kept (hm.sub rfl) rfl (hm.bit rfl) ?_
      refine State.setCore_kept (hm.sub rfl) ?_
      exact k_s01
    · extract_lets -merge -useContext +onlyGivenNames t4
      try clear_value t4
      extract_lets -merge -useContext +onlyGivenNames passed5
      try clear_value passed5
      extract_lets -merge -useContext +onlyGivenNames s16
      have k_s16 : Kept m s0 s16 := by
        unfold s16
        refine State.setRun_kept (hm.sub rfl) ?_
        refine State.setTask_kept (hm.sub rfl) ?_
        refine State.unqueue_kept (hm.sub rfl) ?_
        exact k_s01
      clear_value s16
      extract_lets -merge -useContext +onlyGivenNames s27
      try clear_value s27
      extract_lets -merge -useContext +onlyGivenNames s28
      have k_s28 : Kept m s0 s28 := by
        unfold s28
        refine State.setCore_kept (hm.sub rfl) ?_
        exact k_s16
      clear_value s28
      extract_lets -merge -useContext +onlyGivenNames s39
      try clear_value s39
      extract_lets -merge -useContext +onlyGivenNames s310
      have k_s310 : Kept m s0 s310 := by
        unfold s310
        refine kept_tsk (hm.bit rfl) ?_
        exact k_s28
      clear_value s310
      refine State.answer_kept (hm.sub rfl) ?_
      refine State.bumpBy_kept (hm.sub rfl) rfl (hm.bit rfl) ?_
      refine State.bump_kept (hm.sub rfl) rfl (hm.bit rfl) ?_
      exact k_s310

theorem State.tskTick_kept {m : Nat} {s0 : State} {a0} {a1} (hm : Sub 211106233450504 m) (h0 : Kept m s0 a0) : Kept m s0 (State.tskTick a0 a1) := by
  unfold State.tskTick
  refine kept_ite ?_ ?_
  · exact h0
  · extract_lets -merge -useContext +onlyGivenNames s11
    try clear_value s11
    extract_lets -merge -useContext +onlyGivenNames s12
    have k_s12 : Kept m s0 s12 := by
      unfold s12
      refine kept_tsk (hm.bit rfl) ?_
      exact h0
    clear_value s12
    extract_lets -merge -useContext +onlyGivenNames s23
    have k_s23 : Kept m s0 s23 := by
      unfold s23
      refine kept_ite ?_ ?_
      · refine State.raise_kept (hm.sub rfl) rfl (hm.bit rfl) ?_
        refine State.bumpBy_kept (hm.sub rfl) rfl (hm.bit rfl) ?_
        exact k_s12
      · exact k_s12
    clear_value s23
    refine kept_foldl ?_ ?_
    · exact k_s23
    · intro x6 y4 k5
      refine State.makeReady_kept (hm.sub rfl) ?_
      refine kept_tsk (hm.bit rfl) ?_
      exact k5

theorem State.onTask_kept {m : Nat} {s0 : State} {a0} {a1} {a2} {a3} (hm : Sub 211106233057288 m) (h0 : Kept m s0 a0) (h3 : ∀ y0 y1, Kept m s0 y1 → Kept m s0 (a3 y0 y1)) : Kept m s0 (State.onTask a0 a1 a2 a3) := by
  unfold State.onTask
  extract_lets -merge -useContext +onlyGivenNames n1
  try clear_value n1
  refine kept_ite ?_ ?_
  · refine h3 _ _ ?_
    exact h0
  · refine State.raise_kept (hm.sub rfl) rfl (hm.bit rfl) ?_
    exact h0

theorem State.tskOp_kept {m : Nat} {s0 : State} {a0} {a1} {a2} {a3} (hm : Sub 211106250227720 m) (h0 : Kept m s0 a0) : Kept m s0 (State.tskOp a0 a1 a2 a3) := by
  unfold State.tskOp
  split
  · refine kept_ite ?_ ?_
    · refine State.onTask_kept (hm.sub rfl) ?_ ?_
      · exact h0
      · intro y1 y2 k3
        refine State.tskReady_kept (hm.sub rfl) ?_
        exact k3
    · exact h0
  · refine kept_ite ?_ ?_
    · refine State.onTask_kept (hm.sub rfl) ?_ ?_
      · exact h0
      · intro y4 y5 k6
        refine State.tskDelay_kept (hm.sub rfl) ?_
        exact k6
    · exact h0
  · refine kept_ite ?_ ?_
    · refine State.onTask_kept (hm.sub rfl) ?_ ?_
      · exact h0
      · intro y7 y8 k9
        refine State.tskDone_kept (hm.sub rfl) ?_
        exact k9
    · exact h0
  · refine kept_ite ?_ ?_
    · refine State.onTask_kept (hm.sub rfl) ?_ ?_
      · exact h0
      · intro y10 y11 k12
        refine State.tskDone_kept (hm.sub rfl) ?_
        exact k12
    · exact h0
  · refine kept_ite ?_ ?_
    · refine State.tskNext_kept (hm.sub rfl) ?_
      exact h0
    · exact h0

theorem execReady_kept {m : Nat} {a0} {a1} {a2} {t : State} (hm : Sub 4714705860821000 m) (h : execReady a0 a1 a2 = .next t) : Kept m a2 t := by
  rw [live_next h]
  have h2 : Kept m a2 a2 := kept_refl
  refine State.writeBy_kept (hm.sub rfl) ?_ ?_
  · exact h2
  · intro y1 k2
    refine State.onTask_kept (hm.sub rfl) ?_ ?_
    · exact k2
    · intro y3 y4 k5
      refine State.tskReady_kept (hm.sub rfl) ?_
      exact k5

theorem execDelay_kept {m : Nat} {a0} {a1} {a2} {t : State} (hm : Sub 4714705860821000 m) (h : execDelay a0 a1 a2 = .next t) : Kept m a2 t := by
  rw [live_next h]
  have h2 : Kept m a2 a2 := kept_refl
  refine State.writeBy_kept (hm.sub rfl) ?_ ?_
  · exact h2
  · intro y1 k2
    refine State.onTask_kept (hm.sub rfl) ?_ ?_
    · exact k2
    · intro y3 y4 k5
      refine State.tskDelay_kept (hm.sub rfl) ?_
      exact k5

theorem execCancel_kept {m : Nat} {a0} {a1} {a2} {a3} {a4} {t : State} (hm : Sub 4714705877598216 m) (h : execCancel a0 a1 a2 a3 a4 = .next t) : Kept m a4 t := by
  rw [live_next h]
  have h4 : Kept m a4 a4 := kept_refl
  refine State.writeBy_kept (hm.sub rfl) ?_ ?_
  · exact h4
  · intro y1 k2
    extract_lets -merge -useContext +onlyGivenNames s13
    have k_s13 : Kept m a4 s13 := by
      unfold s13
      refine kept_foldl ?_ ?_
      · refine State.tskTick_kept (hm.sub rfl) ?_
        exact k2
      · intro x6 y4 k5
        refine State.tskOp_kept (hm.sub rfl) ?_
        exact k5
    clear_value s13
    extract_lets -merge -useContext +onlyGivenNames n7
    try clear_value n7
    extract_lets -merge -useContext +onlyGivenNames s28
    have k_s28 : Kept m a4 s28 := by
      unfold s28
      refine State.onTask_kept (hm.sub rfl) ?_ ?_
      · exact k_s13
      · intro y9 y10 k11
        refine State.tskCancel_kept (hm.sub rfl) ?_
        exact k11
    clear_value s28
    extract_lets -merge -useContext +onlyGivenNames s312
    have k_s312 : Kept m a4 s312 := by
      unfold s312
      refine kept_ite ?_ ?_
      · refine State.bump_kept (hm.sub rfl) rfl (hm.bit rfl) ?_
        exact k_s28
      · exact k_s28
    clear_value s312
    extract_lets -merge -useContext +onlyGivenNames s413
    have k_s413 : Kept m a4 s413 := by
      unfold s413
      refine kept_foldl ?_ ?_
      · exact k_s312
      · intro x16 y14 k15
        refine State.tskOp_kept (hm.sub rfl) ?_
        exact k15
    clear_value s413
    refine kept_foldl ?_ ?_
    · exact k_s413
    · intro x19 y17 k18
      refine State.tskOp_kept (hm.sub rfl) ?_
      exact k18

theorem execNext_kept {m : Nat} {a0} {a1} {t : State} (hm : Sub 4714705877598216 m) (h : execNext a0 a1 = .next t) : Kept m a1 t := by
  rw [live_next h]
  have h1 : Kept m a1 a1 := kept_refl
  refine State.readBy_kept (hm.sub rfl) ?_ ?_
  · exact h1
  · intro y1 k2
    refine State.tskNext_kept (hm.sub rfl) ?_
    exact k2

theorem execDone_kept {m : Nat} {a0} {a1} {a2} {t : State} (hm : Sub 4714705860821000 m) (h : execDone a0 a1 a2 = .next t) : Kept m a2 t := by
  rw [live_next h]
  have h2 : Kept m a2 a2 := kept_refl
  refine State.writeBy_kept (hm.sub rfl) ?_ ?_
  · exact h2
  · intro y1 k2
    refine State.onTask_kept (hm.sub rfl) ?_ ?_
    · exact k2
    · intro y3 y4 k5
      refine State.tskDone_kept (hm.sub rfl) ?_
      exact k5

theorem execYield_kept {m : Nat} {a0} {a1} {a2} {t : State} (hm : Sub 4714705860821000 m) (h : execYield a0 a1 a2 = .next t) : Kept m a2 t := by
  rw [live_next h]
  have h2 : Kept m a2 a2 := kept_refl
  refine State.writeBy_kept (hm.sub rfl) ?_ ?_
  · exact h2
  · intro y1 k2
    refine State.onTask_kept (hm.sub rfl) ?_ ?_
    · exact k2
    · intro y3 y4 k5
      refine State.tskDone_kept (hm.sub rfl) ?_
      exact k5

theorem execDispatcherTick_kept {m : Nat} {a0} {a1} {t : State} (hm : Sub 211106233450504 m) (h : execDispatcherTick a0 a1 = .next t) : Kept m a1 t := by
  rw [live_next h]
  have h1 : Kept m a1 a1 := kept_refl
  refine State.tskTick_kept (hm.sub rfl) ?_
  exact h1

theorem State.writeDval_kept {m : Nat} {s0 : State} {a0} {a1} {a2} {a3} (hm : Sub 211106233319432 m) (h0 : Kept m s0 a0) : Kept m s0 (State.writeDval a0 a1 a2 a3) := by
  unfold State.writeDval
  extract_lets -merge -useContext +onlyGivenNames n1
  try clear_value n1
  extract_lets -merge -useContext +onlyGivenNames t2
  try clear_value t2
  refine kept_ite ?_ ?_
  · refine State.raise_kept (hm.sub rfl) rfl (hm.bit rfl) ?_
    exact h0
  · refine kept_ite ?_ ?_
    · refine State.cfgErr_kept (hm.sub rfl) rfl (hm.bit rfl) ?_
      exact h0
    · split
      · refine State.setTask_kept (hm.sub rfl) ?_
        exact h0
      · extract_lets -merge -useContext +onlyGivenNames flow3
        try clear_value flow3
        refine kept_ite ?_ ?_
        · refine State.raise_kept (hm.sub rfl) rfl (hm.bit rfl) ?_
          exact h0
        · refine State.setTask_kept (hm.sub rfl) ?_
          exact h0
      · extract_lets -merge -useContext +onlyGivenNames c4
        try clear_value c4
        refine kept_ite ?_ ?_
        · refine State.cfgErr_kept (hm.sub rfl) rfl (hm.bit rfl) ?_
          exact h0
        · refine kept_ite ?_ ?_
          · refine kept_ite ?_ ?_
            · refine State.raise_kept (hm.sub rfl) rfl (hm.bit rfl) ?_
              exact h0
            · refine State.setTask_kept (hm.sub rfl) ?_
              exact h0
          · refine kept_ite ?_ ?_
            · refine State.raise_kept (hm.sub rfl) rfl (hm.bit rfl) ?_
              exact h0
            · refine State.setTask_kept (hm.sub rfl) ?_
              exact h0
      · refine State.setTask_kept (hm.sub rfl) ?_
        exact h0


end Sys2Proof.Machine
end

