-- ==== Sys2Proof/Laws/KeptEvents.lean ====
section
/-!
SUPPORT. What each operation of Machine/Events.lean may change: one lemma per operation, its mask of parts and register blocks in `hm`.
-/
namespace Sys2Proof.Machine

theorem State.reroute_kept {m : Nat} {s0 : State} {a0} {a1} (hm : Sub 70368744701960 m) (h0 : Kept m s0 a0) : Kept m s0 (State.reroute a0 a1) := by
  unfold State.reroute
  extract_lets -merge -useContext +onlyGivenNames t1
  try clear_value t1
  extract_lets -merge -useContext +onlyGivenNames go2
  try clear_value go2
  extract_lets -merge -useContext +onlyGivenNames stay3
  try clear_value stay3
  extract_lets -merge -useContext +onlyGivenNames fb4
  try clear_value fb4
  refine kept_ite ?_ ?_
  · exact h0
  · extract_lets -merge -useContext +onlyGivenNames s15
    have k_s15 : Kept m s0 s15 := by
      unfold s15
      refine State.setTarget_kept (hm.sub rfl) ?_
      exact h0
    clear_value s15
    extract_lets -merge -useContext +onlyGivenNames s26
    have k_s26 : Kept m s0 s26 := by
      unfold s26
      refine kept_foldl ?_ ?_
      · exact k_s15
      · intro x9 y7 k8
        refine State.addPend_kept (hm.sub rfl) ?_
        exact k8
    clear_value s26
    refine State.raise_kept (hm.sub rfl) rfl (hm.bit rfl) ?_
    refine State.bumpBy_kept (hm.sub rfl) rfl (hm.bit rfl) ?_
    exact k_s26

theorem State.postRecord_kept {m : Nat} {s0 : State} {a0} {a1} {a2} (hm : Sub 4573968388849675 m) (h0 : Kept m s0 a0) : Kept m s0 (State.postRecord a0 a1 a2) := by
  unfold State.postRecord
  extract_lets -merge -useContext +onlyGivenNames t1
  try clear_value t1
  refine kept_ite ?_ ?_
  · exact h0
  · split
    · exact h0
    · extract_lets -merge -useContext +onlyGivenNames slot2
      try clear_value slot2
      extract_lets -merge -useContext +onlyGivenNames a3
      try clear_value a3
      refine kept_ite ?_ ?_
      · extract_lets -merge -useContext +onlyGivenNames s14
        have k_s14 : Kept m s0 s14 := by
          unfold s14
          refine State.raise_kept (hm.sub rfl) rfl (hm.bit rfl) ?_
          refine State.setFld_kept (hm.sub rfl) (show _ / 1048576 % 32 = 14 by unfold Reg.EVC_TGTnCTL; omega) (hm.bit rfl) ?_
          exact h0
        clear_value s14
        refine State.reroute_kept (hm.sub rfl) ?_
        refine kept_ite ?_ ?_
        · refine State.raise_kept (hm.sub rfl) rfl (hm.bit rfl) ?_
          exact k_s14
        · exact k_s14
      · extract_lets -merge -useContext +onlyGivenNames bytes5
        try clear_value bytes5
        extract_lets -merge -useContext +onlyGivenNames s16
        have k_s16 : Kept m s0 s16 := by
          unfold s16
          refine kept_ite ?_ ?_
          · refine State.putHost_kept (hm.sub rfl) ?_
            exact h0
          · refine State.putDev_kept (hm.sub rfl) ?_
            exact h0
        clear_value s16
        extract_lets -merge -useContext +onlyGivenNames t17
        try clear_value t17
        refine State.refreshIrq_kept (hm.sub rfl) ?_
        refine State.bump_kept (hm.sub rfl) rfl (hm.bit rfl) ?_
        refine State.setVal_kept (hm.sub rfl) (show _ / 1048576 % 32 = 14 by unfold Reg.EVC_TGTnHEAD; omega) (hm.bit rfl) ?_
        refine State.setTarget_kept (hm.sub rfl) ?_
        exact k_s16

theorem State.assertLevel_kept {m : Nat} {s0 : State} {a0} {a1} {a2} (hm : Sub 70368744701952 m) (h0 : Kept m s0 a0) : Kept m s0 (State.assertLevel a0 a1 a2) := by
  unfold State.assertLevel
  refine kept_ite ?_ ?_
  · exact h0
  · refine State.pendEvent_kept (hm.sub rfl) ?_
    exact h0

theorem State.freeRing_kept {m : Nat} {s0 : State} {a0} {a1} (hm : Sub 70368744701952 m) (h0 : Kept m s0 a0) : Kept m s0 (State.freeRing a0 a1) := by
  unfold State.freeRing
  extract_lets -merge -useContext +onlyGivenNames t1
  try clear_value t1
  extract_lets -merge -useContext +onlyGivenNames ring2
  try clear_value ring2
  extract_lets -merge -useContext +onlyGivenNames tail3
  try clear_value tail3
  refine State.setVal_kept (hm.sub rfl) (show _ / 1048576 % 32 = 14 by unfold Reg.EVC_TGTnTAIL; omega) (hm.bit rfl) ?_
  refine State.setTarget_kept (hm.sub rfl) ?_
  exact h0

theorem State.completeRec_kept {m : Nat} {s0 : State} {a0} {a1} {a2} (hm : Sub 70368744701952 m) (h0 : Kept m s0 a0) : Kept m s0 (State.completeRec a0 a1 a2) := by
  unfold State.completeRec
  extract_lets -merge -useContext +onlyGivenNames t1
  try clear_value t1
  extract_lets -merge -useContext +onlyGivenNames hit2
  try clear_value hit2
  extract_lets -merge -useContext +onlyGivenNames ring3
  try clear_value ring3
  extract_lets -merge -useContext +onlyGivenNames s14
  have k_s14 : Kept m s0 s14 := by
    unfold s14
    refine State.freeRing_kept (hm.sub rfl) ?_
    refine State.setTarget_kept (hm.sub rfl) ?_
    exact h0
  clear_value s14
  split
  · refine kept_ite ?_ ?_
    · refine State.assertLevel_kept (hm.sub rfl) ?_
      exact k_s14
    · exact k_s14
  · exact k_s14

theorem execEventEdge_kept {m : Nat} {a0} {a1} {a2} {t : State} (hm : Sub 70368744701960 m) (h : execEventEdge a0 a1 a2 = .next t) : Kept m a2 t := by
  rw [live_next h]
  have h2 : Kept m a2 a2 := kept_refl
  refine kept_ite ?_ ?_
  · extract_lets -merge -useContext +onlyGivenNames s11
    try clear_value s11
    extract_lets -merge -useContext +onlyGivenNames s12
    have k_s12 : Kept m a2 s12 := by
      unfold s12
      refine kept_evc (hm.bit rfl) ?_
      exact h2
    clear_value s12
    refine State.assertLevel_kept (hm.sub rfl) ?_
    exact k_s12
  · refine State.event_kept (hm.sub rfl) ?_
    exact h2

theorem execRecordPost_kept {m : Nat} {a0} {a1} {a2} {t : State} (hm : Sub 4573968388849675 m) (h : execRecordPost a0 a1 a2 = .next t) : Kept m a2 t := by
  rw [live_next h]
  have h2 : Kept m a2 a2 := kept_refl
  refine State.postRecord_kept (hm.sub rfl) ?_
  exact h2

theorem State.claimOf_kept {m : Nat} {s0 : State} {a0} {a1} (hm : Sub 17301504 m) (h0 : Kept m s0 a0) : Kept m s0 (State.claimOf a0 a1) := by
  unfold State.claimOf
  extract_lets -merge -useContext +onlyGivenNames t1
  try clear_value t1
  refine kept_ite ?_ ?_
  · refine State.answer_kept (hm.sub rfl) ?_
    exact h0
  · split
    · refine State.answer_kept (hm.sub rfl) ?_
      exact h0
    · extract_lets -merge -useContext +onlyGivenNames t12
      try clear_value t12
      refine State.answer_kept (hm.sub rfl) ?_
      refine State.refreshIrq_kept (hm.sub rfl) ?_
      refine State.setTarget_kept (hm.sub rfl) ?_
      exact h0

theorem execClaim_kept {m : Nat} {a0} {a1} {a2} {t : State} (hm : Sub 4573968388980744 m) (h : execClaim a0 a1 a2 = .next t) : Kept m a2 t := by
  rw [live_next h]
  have h2 : Kept m a2 a2 := kept_refl
  refine State.readBy_kept (hm.sub rfl) ?_ ?_
  · exact h2
  · intro y1 k2
    refine State.claimOf_kept (hm.sub rfl) ?_
    exact k2

theorem State.orderFault_kept {m : Nat} {s0 : State} {a0} {a1} {a2} {a3} (hm : Sub 70368744701960 m) (h0 : Kept m s0 a0) : Kept m s0 (State.orderFault a0 a1 a2 a3) := by
  unfold State.orderFault
  refine State.bump_kept (hm.sub rfl) rfl (hm.bit rfl) ?_
  refine State.raise_kept (hm.sub rfl) rfl (hm.bit rfl) ?_
  refine State.event_kept (hm.sub rfl) ?_
  refine State.setTarget_kept (hm.sub rfl) ?_
  exact h0

theorem State.doneOf_kept {m : Nat} {s0 : State} {a0} {a1} {a2} (hm : Sub 70368761479176 m) (h0 : Kept m s0 a0) : Kept m s0 (State.doneOf a0 a1 a2) := by
  unfold State.doneOf
  extract_lets -merge -useContext +onlyGivenNames t1
  try clear_value t1
  extract_lets -merge -useContext +onlyGivenNames idx2
  try clear_value idx2
  refine kept_ite ?_ ?_
  · exact h0
  · split
    · refine kept_ite ?_ ?_
      · extract_lets -merge -useContext +onlyGivenNames s13
        have k_s13 : Kept m s0 s13 := by
          unfold s13
          refine kept_ite ?_ ?_
          · refine State.raise_kept (hm.sub rfl) rfl (hm.bit rfl) ?_
            refine State.bump_kept (hm.sub rfl) rfl (hm.bit rfl) ?_
            exact h0
          · exact h0
        clear_value s13
        refine State.refreshIrq_kept (hm.sub rfl) ?_
        refine State.completeRec_kept (hm.sub rfl) ?_
        refine State.setTarget_kept (hm.sub rfl) ?_
        exact k_s13
      · refine State.orderFault_kept (hm.sub rfl) ?_
        exact h0
    · refine State.orderFault_kept (hm.sub rfl) ?_
      exact h0

theorem execTgtDone_kept {m : Nat} {a0} {a1} {a2} {a3} {t : State} (hm : Sub 4573968388980744 m) (h : execTgtDone a0 a1 a2 a3 = .next t) : Kept m a3 t := by
  rw [live_next h]
  have h3 : Kept m a3 a3 := kept_refl
  refine State.writeBy_kept (hm.sub rfl) ?_ ?_
  · exact h3
  · intro y1 k2
    refine State.doneOf_kept (hm.sub rfl) ?_
    exact k2

theorem State.resetStack_kept {m : Nat} {s0 : State} {a0} {a1} (hm : Sub 70368761479168 m) (h0 : Kept m s0 a0) : Kept m s0 (State.resetStack a0 a1) := by
  unfold State.resetStack
  extract_lets -merge -useContext +onlyGivenNames t1
  try clear_value t1
  extract_lets -merge -useContext +onlyGivenNames claimed2
  try clear_value claimed2
  extract_lets -merge -useContext +onlyGivenNames s13
  have k_s13 : Kept m s0 s13 := by
    unfold s13
    refine State.setTarget_kept (hm.sub rfl) ?_
    exact h0
  clear_value s13
  refine State.refreshIrq_kept (hm.sub rfl) ?_
  refine kept_foldl ?_ ?_
  · exact k_s13
  · intro x6 y4 k5
    refine State.completeRec_kept (hm.sub rfl) ?_
    exact k5

theorem execTgtReset_kept {m : Nat} {a0} {a1} {a2} {a3} {t : State} (hm : Sub 4573968388980744 m) (h : execTgtReset a0 a1 a2 a3 = .next t) : Kept m a3 t := by
  rw [live_next h]
  have h3 : Kept m a3 a3 := kept_refl
  refine State.writeBy_kept (hm.sub rfl) ?_ ?_
  · exact h3
  · intro y1 k2
    refine kept_ite ?_ ?_
    · refine State.resetStack_kept (hm.sub rfl) ?_
      exact k2
    · exact k2

theorem State.writeSwset_kept {m : Nat} {s0 : State} {a0} {a1} (hm : Sub 70368744701952 m) (h0 : Kept m s0 a0) : Kept m s0 (State.writeSwset a0 a1) := by
  unfold State.writeSwset
  extract_lets -merge -useContext +onlyGivenNames src1
  try clear_value src1
  extract_lets -merge -useContext +onlyGivenNames s12
  try clear_value s12
  extract_lets -merge -useContext +onlyGivenNames s13
  have k_s13 : Kept m s0 s13 := by
    unfold s13
    refine kept_evc (hm.bit rfl) ?_
    exact h0
  clear_value s13
  refine State.assertLevel_kept (hm.sub rfl) ?_
  exact k_s13

theorem execSwset_kept {m : Nat} {a0} {a1} {a2} {t : State} (hm : Sub 4573968372203528 m) (h : execSwset a0 a1 a2 = .next t) : Kept m a2 t := by
  rw [live_next h]
  have h2 : Kept m a2 a2 := kept_refl
  refine State.writeBy_kept (hm.sub rfl) ?_ ?_
  · exact h2
  · intro y1 k2
    refine State.writeSwset_kept (hm.sub rfl) ?_
    exact k2

theorem State.writeSwclr_kept {m : Nat} {s0 : State} {a0} {a1} (hm : Sub 524288 m) (h0 : Kept m s0 a0) : Kept m s0 (State.writeSwclr a0 a1) := by
  unfold State.writeSwclr
  refine kept_evc (hm.bit rfl) ?_
  exact h0

theorem execSwclr_kept {m : Nat} {a0} {a1} {a2} {t : State} (hm : Sub 4573968372203528 m) (h : execSwclr a0 a1 a2 = .next t) : Kept m a2 t := by
  rw [live_next h]
  have h2 : Kept m a2 a2 := kept_refl
  refine State.writeBy_kept (hm.sub rfl) ?_ ?_
  · exact h2
  · intro y1 k2
    refine State.writeSwclr_kept (hm.sub rfl) ?_
    exact k2

theorem execRerouteExpiry_kept {m : Nat} {a0} {a1} {a2} {t : State} (hm : Sub 70368744701964 m) (h : execRerouteExpiry a0 a1 a2 = .next t) : Kept m a2 t := by
  rw [liveAt_next h]
  have h2 : ∀ n, Kept m a2 (a2.advanceNs n) := fun _ => State.advanceNs_kept (hm.sub rfl) kept_refl
  refine kept_ite ?_ ?_
  · refine State.reroute_kept (hm.sub rfl) ?_
    exact (h2 _)
  · exact (h2 _)

theorem State.retarget_kept {m : Nat} {s0 : State} {a0} {a1} {a2} {a3} (hm : Sub 524288 m) (h0 : Kept m s0 a0) : Kept m s0 (State.retarget a0 a1 a2 a3) := by
  unfold State.retarget
  split
  · exact h0
  · split
    · exact h0
    · extract_lets -merge -useContext +onlyGivenNames t1
      try clear_value t1
      extract_lets -merge -useContext +onlyGivenNames left2
      try clear_value left2
      extract_lets -merge -useContext +onlyGivenNames s13
      have k_s13 : Kept m s0 s13 := by
        unfold s13
        refine State.setTarget_kept (hm.sub rfl) ?_
        exact h0
      clear_value s13
      refine State.addPend_kept (hm.sub rfl) ?_
      exact k_s13

theorem State.writeSrccfg_kept {m : Nat} {s0 : State} {a0} {a1} (hm : Sub 70368744701960 m) (h0 : Kept m s0 a0) : Kept m s0 (State.writeSrccfg a0 a1) := by
  unfold State.writeSrccfg
  extract_lets -merge -useContext +onlyGivenNames src1
  try clear_value src1
  extract_lets -merge -useContext +onlyGivenNames fault2
  try clear_value fault2
  refine kept_ite ?_ ?_
  · refine State.cfgErr_kept (hm.sub rfl) rfl (hm.bit rfl) ?_
    exact h0
  · extract_lets -merge -useContext +onlyGivenNames keep3
    try clear_value keep3
    extract_lets -merge -useContext +onlyGivenNames s14
    try clear_value s14
    extract_lets -merge -useContext +onlyGivenNames s15
    have k_s15 : Kept m s0 s15 := by
      unfold s15
      refine kept_evc (hm.bit rfl) ?_
      exact h0
    clear_value s15
    extract_lets -merge -useContext +onlyGivenNames cfg6
    try clear_value cfg6
    extract_lets -merge -useContext +onlyGivenNames s27
    have k_s27 : Kept m s0 s27 := by
      unfold s27
      refine State.retarget_kept (hm.sub rfl) ?_
      exact k_s15
    clear_value s27
    refine kept_ite ?_ ?_
    · refine State.assertLevel_kept (hm.sub rfl) ?_
      exact k_s27
    · exact k_s27

theorem execAccessFault_kept {m : Nat} {a0} {a1} {a2} {a3} {t : State} (hm : Sub 70368761610248 m) (h : execAccessFault a0 a1 a2 a3 = .next t) : Kept m a3 t := by
  rw [live_next h]
  have h3 : Kept m a3 a3 := kept_refl
  refine kept_ite ?_ ?_
  · extract_lets -merge -useContext +onlyGivenNames s11
    have k_s11 : Kept m a3 s11 := by
      unfold s11
      refine State.accessFault_kept (hm.sub rfl) ?_
      exact h3
    clear_value s11
    refine kept_ite ?_ ?_
    · exact k_s11
    · refine State.answer_kept (hm.sub rfl) ?_
      exact k_s11
  · exact h3

theorem execBusError_kept {m : Nat} {a0} {a1} {a2} {a3} {t : State} (hm : Sub 70368744833032 m) (h : execBusError a0 a1 a2 a3 = .next t) : Kept m a3 t := by
  rw [live_next h]
  have h3 : Kept m a3 a3 := kept_refl
  refine kept_ite ?_ ?_
  · refine State.takeExc_kept (hm.sub rfl) ?_
    refine State.doubleBit_kept (hm.sub rfl) ?_
    exact h3
  · refine kept_ite ?_ ?_
    · refine State.takeExc_kept (hm.sub rfl) ?_
      exact h3
    · exact h3

theorem execAlignmentException_kept {m : Nat} {a0} {a1} {t : State} (hm : Sub 131072 m) (h : execAlignmentException a0 a1 = .next t) : Kept m a1 t := by
  rw [live_next h]
  have h1 : Kept m a1 a1 := kept_refl
  refine State.takeExc_kept (hm.sub rfl) ?_
  exact h1

theorem execIllegalInstruction_kept {m : Nat} {a0} {a1} {t : State} (hm : Sub 131072 m) (h : execIllegalInstruction a0 a1 = .next t) : Kept m a1 t := by
  rw [live_next h]
  have h1 : Kept m a1 a1 := kept_refl
  refine State.takeExc_kept (hm.sub rfl) ?_
  exact h1

theorem execImaskWrite_kept {m : Nat} {a0} {a1} {a2} {t : State} (hm : Sub 131072 m) (h : execImaskWrite a0 a1 a2 = .next t) : Kept m a2 t := by
  rw [live_next h]
  have h2 : Kept m a2 a2 := kept_refl
  extract_lets -merge -useContext +onlyGivenNames s11
  try clear_value s11
  extract_lets -merge -useContext +onlyGivenNames s12
  have k_s12 : Kept m a2 s12 := by
    unfold s12
    refine State.setCore_kept (hm.sub rfl) ?_
    exact h2
  clear_value s12
  split
  · refine State.takeExc_kept (hm.sub rfl) ?_
    exact k_s12
  · exact k_s12


end Sys2Proof.Machine
end

