-- ==== Sys2Proof/Laws/KeptFilter.lean ====
section
/-!
SUPPORT. What each operation of Machine/Filter.lean may change: one lemma per operation, its mask of parts and register blocks in `hm`.
-/
namespace Sys2Proof.Machine

theorem State.setFltChan_kept {m : Nat} {s0 : State} {a0} {a1} {a2} (hm : Sub 8192 m) (h0 : Kept m s0 a0) : Kept m s0 (State.setFltChan a0 a1 a2) := by
  unfold State.setFltChan
  refine kept_flt (hm.bit rfl) ?_
  exact h0

theorem State.setLane_kept {m : Nat} {s0 : State} {a0} {a1} {a2} (hm : Sub 8192 m) (h0 : Kept m s0 a0) : Kept m s0 (State.setLane a0 a1 a2) := by
  unfold State.setLane
  refine kept_flt (hm.bit rfl) ?_
  exact h0

theorem State.laneChange_kept {m : Nat} {s0 : State} {a0} {a1} {a2} (hm : Sub 915910369511464 m) (h0 : Kept m s0 a0) : Kept m s0 (State.laneChange a0 a1 a2) := by
  unfold State.laneChange
  extract_lets -merge -useContext +onlyGivenNames c1
  try clear_value c1
  extract_lets -merge -useContext +onlyGivenNames s12
  have k_s12 : Kept m s0 s12 := by
    unfold s12
    refine State.alarms_kept (hm.sub rfl) ?_
    exact h0
  clear_value s12
  refine kept_ite ?_ ?_
  · refine State.event_kept (hm.sub rfl) ?_
    exact k_s12
  · exact k_s12

theorem State.laneStep_kept {m : Nat} {s0 : State} {a0} {a1} {a2} {a3} {a4} (hm : Sub 920308416030760 m) (h0 : Kept m s0 a0) : Kept m s0 (State.laneStep a0 a1 a2 a3 a4) := by
  unfold State.laneStep
  extract_lets -merge -useContext +onlyGivenNames cfg1
  try clear_value cfg1
  extract_lets -merge -useContext +onlyGivenNames q2
  try clear_value q2
  extract_lets -merge -useContext +onlyGivenNames thr3
  try clear_value thr3
  extract_lets -merge -useContext +onlyGivenNames rel4
  try clear_value rel4
  extract_lets -merge -useContext +onlyGivenNames x5
  try clear_value x5
  extract_lets -merge -useContext +onlyGivenNames beyond6
  extract_lets -merge -useContext +onlyGivenNames back7
  refine kept_ite ?_ ?_
  · refine State.setLane_kept (hm.sub rfl) ?_
    exact h0
  · refine kept_ite ?_ ?_
    · refine kept_ite ?_ ?_
      · refine State.setLane_kept (hm.sub rfl) ?_
        exact h0
      · refine kept_ite ?_ ?_
        · refine State.setLane_kept (hm.sub rfl) ?_
          exact h0
        · extract_lets -merge -useContext +onlyGivenNames s18
          have k_s18 : Kept m s0 s18 := by
            unfold s18
            refine State.bump_kept (hm.sub rfl) (show _ / 1048576 % 32 = 10 by unfold Reg.FLT_PRVkCNT; omega) (hm.bit rfl) ?_
            refine State.setVal_kept (hm.sub rfl) (show _ / 1048576 % 32 = 10 by unfold Reg.FLT_PRVkTSFR; omega) (hm.bit rfl) ?_
            refine State.setVal_kept (hm.sub rfl) (show _ / 1048576 % 32 = 10 by unfold Reg.FLT_PRVkTSHI; omega) (hm.bit rfl) ?_
            refine State.setVal_kept (hm.sub rfl) (show _ / 1048576 % 32 = 10 by unfold Reg.FLT_PRVkTSLO; omega) (hm.bit rfl) ?_
            refine State.setLane_kept (hm.sub rfl) ?_
            exact h0
          clear_value s18
          refine State.laneChange_kept (hm.sub rfl) ?_
          refine State.capSend_kept (hm.sub rfl) ?_
          exact k_s18
    · refine kept_ite ?_ ?_
      · refine State.setLane_kept (hm.sub rfl) ?_
        exact h0
      · refine kept_ite ?_ ?_
        · refine State.setLane_kept (hm.sub rfl) ?_
          exact h0
        · refine State.laneChange_kept (hm.sub rfl) ?_
          refine State.setLane_kept (hm.sub rfl) ?_
          exact h0

theorem State.laneValue_kept {m : Nat} {s0 : State} {a0} {a1} {a2} {a3} {a4} {a5} (hm : Sub 920308416030760 m) (h0 : Kept m s0 a0) : Kept m s0 (State.laneValue a0 a1 a2 a3 a4 a5) := by
  unfold State.laneValue
  refine kept_ite ?_ ?_
  · exact h0
  · refine kept_foldl ?_ ?_
    · exact h0
    · intro x3 y1 k2
      extract_lets -merge -useContext +onlyGivenNames cfg4
      try clear_value cfg4
      refine kept_ite ?_ ?_
      · refine State.laneStep_kept (hm.sub rfl) ?_
        exact k2
      · exact k2

theorem State.cycleEnd_kept {m : Nat} {s0 : State} {a0} {a1} {a2} {a3} (hm : Sub 920308416030760 m) (h0 : Kept m s0 a0) : Kept m s0 (State.cycleEnd a0 a1 a2 a3) := by
  unfold State.cycleEnd
  extract_lets -merge -useContext +onlyGivenNames r1
  try clear_value r1
  extract_lets -merge -useContext +onlyGivenNames s12
  have k_s12 : Kept m s0 s12 := by
    unfold s12
    refine State.setVal_kept (hm.sub rfl) (show _ / 1048576 % 32 = 10 by unfold Reg.FLT_CHcPKMIN; omega) (hm.bit rfl) ?_
    refine State.setVal_kept (hm.sub rfl) (show _ / 1048576 % 32 = 10 by unfold Reg.FLT_CHcPKMAX; omega) (hm.bit rfl) ?_
    refine State.setVal_kept (hm.sub rfl) (show _ / 1048576 % 32 = 10 by unfold Reg.FLT_CHcRMSC; omega) (hm.bit rfl) ?_
    exact h0
  clear_value s12
  refine State.laneValue_kept (hm.sub rfl) ?_
  refine State.setFltChan_kept (hm.sub rfl) ?_
  exact k_s12

theorem State.aggEnd_kept {m : Nat} {s0 : State} {a0} {a1} {a2} (hm : Sub 4398046519296 m) (h0 : Kept m s0 a0) : Kept m s0 (State.aggEnd a0 a1 a2) := by
  unfold State.aggEnd
  extract_lets -merge -useContext +onlyGivenNames s11
  have k_s11 : Kept m s0 s11 := by
    unfold s11
    refine State.setVal_kept (hm.sub rfl) (show _ / 1048576 % 32 = 10 by unfold Reg.FLT_CHcRMSA; omega) (hm.bit rfl) ?_
    exact h0
  clear_value s11
  refine State.setFltChan_kept (hm.sub rfl) ?_
  exact k_s11

theorem State.detectSample_kept {m : Nat} {s0 : State} {a0} {a1} {a2} {a3} (hm : Sub 920308416030760 m) (h0 : Kept m s0 a0) : Kept m s0 (State.detectSample a0 a1 a2 a3) := by
  unfold State.detectSample
  refine kept_ite ?_ ?_
  · exact h0
  · extract_lets -merge -useContext +onlyGivenNames f1
    try clear_value f1
    extract_lets -merge -useContext +onlyGivenNames cyc2
    try clear_value cyc2
    extract_lets -merge -useContext +onlyGivenNames agg3
    try clear_value agg3
    extract_lets -merge -useContext +onlyGivenNames s14
    have k_s14 : Kept m s0 s14 := by
      unfold s14
      split
      · refine kept_ite ?_ ?_
        · exact h0
        · refine State.cycleEnd_kept (hm.sub rfl) ?_
          exact h0
      · exact h0
    clear_value s14
    extract_lets -merge -useContext +onlyGivenNames s25
    have k_s25 : Kept m s0 s25 := by
      unfold s25
      split
      · refine kept_ite ?_ ?_
        · exact k_s14
        · refine State.aggEnd_kept (hm.sub rfl) ?_
          exact k_s14
      · exact k_s14
    clear_value s25
    extract_lets -merge -useContext +onlyGivenNames x6
    try clear_value x6
    extract_lets -merge -useContext +onlyGivenNames a7
    try clear_value a7
    extract_lets -merge -useContext +onlyGivenNames dk8
    try clear_value dk8
    extract_lets -merge -useContext +onlyGivenNames env9
    try clear_value env9
    extract_lets -merge -useContext +onlyGivenNames s310
    have k_s310 : Kept m s0 s310 := by
      unfold s310
      refine State.setFltChan_kept (hm.sub rfl) ?_
      exact k_s25
    clear_value s310
    extract_lets -merge -useContext +onlyGivenNames s411
    have k_s411 : Kept m s0 s411 := by
      unfold s411
      refine State.setVal_kept (hm.sub rfl) (show _ / 1048576 % 32 = 10 by unfold Reg.FLT_CHcENV; omega) (hm.bit rfl) ?_
      refine State.setVal_kept (hm.sub rfl) (show _ / 1048576 % 32 = 10 by unfold Reg.FLT_CHcPKHOLD; omega) (hm.bit rfl) ?_
      exact k_s310
    clear_value s411
    refine State.laneValue_kept (hm.sub rfl) ?_
    exact k_s411

theorem State.satCount_kept {m : Nat} {s0 : State} {a0} {a1} {a2} (hm : Sub 74766791213064 m) (h0 : Kept m s0 a0) : Kept m s0 (State.satCount a0 a1 a2) := by
  unfold State.satCount
  refine kept_ite ?_ ?_
  · refine State.raise_kept (hm.sub rfl) rfl (hm.bit rfl) ?_
    refine State.bump_kept (hm.sub rfl) (show _ / 1048576 % 32 = 10 by unfold Reg.FLT_CHcSAT; omega) (hm.bit rfl) ?_
    exact h0
  · exact h0

theorem State.tap1_kept {m : Nat} {s0 : State} {a0} {a1} {a2} {a3} {a4} {a5} (hm : Sub 937900669249577 m) (h0 : Kept m s0 a0) : Kept m s0 (State.tap1 a0 a1 a2 a3 a4 a5) := by
  unfold State.tap1
  extract_lets -merge -useContext +onlyGivenNames x1
  try clear_value x1
  extract_lets -merge -useContext +onlyGivenNames keep2
  try clear_value keep2
  extract_lets -merge -useContext +onlyGivenNames s13
  have k_s13 : Kept m s0 s13 := by
    unfold s13
    refine State.setFltChan_kept (hm.sub rfl) ?_
    exact h0
  clear_value s13
  extract_lets -merge -useContext +onlyGivenNames s24
  have k_s24 : Kept m s0 s24 := by
    unfold s24
    refine State.detectSample_kept (hm.sub rfl) ?_
    refine State.satCount_kept (hm.sub rfl) ?_
    exact k_s13
  clear_value s24
  extract_lets -merge -useContext +onlyGivenNames s35
  have k_s35 : Kept m s0 s35 := by
    unfold s35
    refine State.laneValue_kept (hm.sub rfl) ?_
    refine State.laneValue_kept (hm.sub rfl) ?_
    exact k_s24
  clear_value s35
  refine State.capSample_kept (hm.sub rfl) ?_
  exact k_s35

theorem State.emit_kept {m : Nat} {s0 : State} {a0} {a1} {a2} {a3} (hm : Sub 937900669249577 m) (h3 : Kept m s0 a3) : Kept m s0 (State.emit a0 a1 a2 a3) := by
  induction a2 generalizing a3 with
  | zero => exact h3
  | succ n ih =>
    unfold State.emit
    extract_lets -merge -useContext +onlyGivenNames x8
    split
    · extract_lets -merge -useContext +onlyGivenNames f9
      extract_lets -merge -useContext +onlyGivenNames inst10
      extract_lets -merge -useContext +onlyGivenNames tp11
      refine kept_ite ?_ ?_
      · split
        · refine ih ?_
          refine State.tap1_kept (hm.sub rfl) ?_
          exact h3
      · exact h3
    · exact h3

theorem State.firOut_kept {m : Nat} {s0 : State} {a0} {a1} {a2} {a3} (hm : Sub 937900669249577 m) (h0 : Kept m s0 a0) : Kept m s0 (State.firOut a0 a1 a2 a3) := by
  unfold State.firOut
  extract_lets -merge -useContext +onlyGivenNames x1
  try clear_value x1
  extract_lets -merge -useContext +onlyGivenNames cfg2
  try clear_value cfg2
  extract_lets -merge -useContext +onlyGivenNames bank3
  try clear_value bank3
  split
  · split
    · extract_lets -merge -useContext +onlyGivenNames delay4
      try clear_value delay4
      extract_lets -merge -useContext +onlyGivenNames tau5
      try clear_value tau5
      extract_lets -merge -useContext +onlyGivenNames o6
      try clear_value o6
      extract_lets -merge -useContext +onlyGivenNames next7
      try clear_value next7
      extract_lets -merge -useContext +onlyGivenNames st18
      have k_st18 : Kept m s0 st18 := by
        unfold st18
        refine State.setFltChan_kept (hm.sub rfl) ?_
        exact h0
      clear_value st18
      extract_lets -merge -useContext +onlyGivenNames st29
      have k_st29 : Kept m s0 st29 := by
        unfold st29
        refine State.laneValue_kept (hm.sub rfl) ?_
        refine State.satCount_kept (hm.sub rfl) ?_
        exact k_st18
      clear_value st29
      refine State.emit_kept (hm.sub rfl) ?_
      refine State.capSample_kept (hm.sub rfl) ?_
      exact k_st29

theorem State.modBit_kept {m : Nat} {s0 : State} {a0} {a1} {a2} {a3} {a4} (hm : Sub 937900669249577 m) (h0 : Kept m s0 a0) : Kept m s0 (State.modBit a0 a1 a2 a3 a4) := by
  unfold State.modBit
  extract_lets -merge -useContext +onlyGivenNames x1
  try clear_value x1
  extract_lets -merge -useContext +onlyGivenNames cfg2
  try clear_value cfg2
  extract_lets -merge -useContext +onlyGivenNames nn3
  try clear_value nn3
  extract_lets -merge -useContext +onlyGivenNames settling4
  try clear_value settling4
  extract_lets -merge -useContext +onlyGivenNames inv5
  try clear_value inv5
  extract_lets -merge -useContext +onlyGivenNames bit6
  try clear_value bit6
  extract_lets -merge -useContext +onlyGivenNames integ7
  try clear_value integ7
  extract_lets -merge -useContext +onlyGivenNames clean8
  try clear_value clean8
  extract_lets -merge -useContext +onlyGivenNames x19
  try clear_value x19
  refine kept_ite ?_ ?_
  · refine State.setFltChan_kept (hm.sub rfl) ?_
    exact h0
  · split
    · split
      · extract_lets -merge -useContext +onlyGivenNames w10
        try clear_value w10
        extract_lets -merge -useContext +onlyGivenNames x211
        try clear_value x211
        refine kept_ite ?_ ?_
        · refine State.setFltChan_kept (hm.sub rfl) ?_
          exact h0
        · refine State.firOut_kept (hm.sub rfl) ?_
          refine State.setFltChan_kept (hm.sub rfl) ?_
          exact h0

theorem State.modBits_kept {m : Nat} {s0 : State} {a0} {a1} {a2} {a3} {a4} (hm : Sub 937900669249577 m) (h4 : Kept m s0 a4) : Kept m s0 (State.modBits a0 a1 a2 a3 a4) := by
  induction a3 generalizing a4 with
  | nil => exact h4
  | cons b r ih =>
    unfold State.modBits
    exact ih (State.modBit_kept (hm.sub rfl) h4)

theorem execFilterSample_kept {m : Nat} {a0} {a1} {a2} {a3} {a4} {t : State} (hm : Sub 937900669249581 m) (h : execFilterSample a0 a1 a2 a3 a4 = .next t) : Kept m a4 t := by
  rw [liveAt_next h]
  have h4 : ∀ n, Kept m a4 (a4.advanceNs n) := fun _ => State.advanceNs_kept (hm.sub rfl) kept_refl
  refine kept_ite ?_ ?_
  · exact (h4 _)
  · refine State.modBits_kept (hm.sub rfl) ?_
    exact (h4 _)

theorem State.writeBankcmd_kept {m : Nat} {s0 : State} {a0} {a1} (hm : Sub 74766791221256 m) (h0 : Kept m s0 a0) : Kept m s0 (State.writeBankcmd a0 a1) := by
  unfold State.writeBankcmd
  refine kept_ite ?_ ?_
  · exact h0
  · refine kept_ite ?_ ?_
    · refine State.cfgErr_kept (hm.sub rfl) rfl (hm.bit rfl) ?_
      exact h0
    · refine kept_flt (hm.bit rfl) ?_
      exact h0

theorem execSwap_kept {m : Nat} {a0} {a1} {a2} {t : State} (hm : Sub 4578366418722824 m) (h : execSwap a0 a1 a2 = .next t) : Kept m a2 t := by
  rw [live_next h]
  have h2 : Kept m a2 a2 := kept_refl
  refine State.writeBy_kept (hm.sub rfl) ?_ ?_
  · exact h2
  · intro y1 k2
    refine State.writeBankcmd_kept (hm.sub rfl) ?_
    exact k2

theorem State.swapBanks_kept {m : Nat} {s0 : State} {a0} (hm : Sub 8192 m) (h0 : Kept m s0 a0) : Kept m s0 (State.swapBanks a0) := by
  unfold State.swapBanks
  extract_lets -merge -useContext +onlyGivenNames f1
  try clear_value f1
  split
  · refine kept_flt (hm.bit rfl) ?_
    exact h0

theorem execFltBankSwapApply_kept {m : Nat} {a0} {a1} {t : State} (hm : Sub 8196 m) (h : execFltBankSwapApply a0 a1 = .next t) : Kept m a1 t := by
  rw [liveAt_next h]
  have h1 : ∀ n, Kept m a1 (a1.advanceNs n) := fun _ => State.advanceNs_kept (hm.sub rfl) kept_refl
  refine kept_ite ?_ ?_
  · refine State.swapBanks_kept (hm.sub rfl) ?_
    exact (h1 _)
  · exact (h1 _)

theorem State.nextCoef_kept {m : Nat} {s0 : State} {a0} (hm : Sub 4398046511104 m) (h0 : Kept m s0 a0) : Kept m s0 (State.nextCoef a0) := by
  unfold State.nextCoef
  extract_lets -merge -useContext +onlyGivenNames v1
  try clear_value v1
  extract_lets -merge -useContext +onlyGivenNames n2
  try clear_value n2
  refine State.setFld_kept (hm.sub rfl) rfl (hm.bit rfl) ?_
  exact h0

theorem State.putCoef_kept {m : Nat} {s0 : State} {a0} {a1} {a2} {a3} {a4} {a5} (hm : Sub 8192 m) (h0 : Kept m s0 a0) : Kept m s0 (State.putCoef a0 a1 a2 a3 a4 a5) := by
  unfold State.putCoef
  extract_lets -merge -useContext +onlyGivenNames dflt1
  try clear_value dflt1
  extract_lets -merge -useContext +onlyGivenNames coefs2
  try clear_value coefs2
  refine kept_flt (hm.bit rfl) ?_
  exact h0

theorem State.writeCval_kept {m : Nat} {s0 : State} {a0} {a1} (hm : Sub 74766791221256 m) (h0 : Kept m s0 a0) : Kept m s0 (State.writeCval a0 a1) := by
  unfold State.writeCval
  refine kept_ite ?_ ?_
  · refine State.cfgErr_kept (hm.sub rfl) rfl (hm.bit rfl) ?_
    exact h0
  · extract_lets -merge -useContext +onlyGivenNames w1
    try clear_value w1
    refine State.nextCoef_kept (hm.sub rfl) ?_
    refine State.putCoef_kept (hm.sub rfl) ?_
    exact h0

theorem State.readCval_kept {m : Nat} {s0 : State} {a0} (hm : Sub 4398063288320 m) (h0 : Kept m s0 a0) : Kept m s0 (State.readCval a0) := by
  unfold State.readCval
  extract_lets -merge -useContext +onlyGivenNames w1
  try clear_value w1
  refine State.answer_kept (hm.sub rfl) ?_
  refine State.nextCoef_kept (hm.sub rfl) ?_
  exact h0

theorem execCoefficientAccess_kept {m : Nat} {a0} {a1} {a2} {t : State} (hm : Sub 4578366435500040 m) (h : execCoefficientAccess a0 a1 a2 = .next t) : Kept m a2 t := by
  rw [live_next h]
  have h2 : Kept m a2 a2 := kept_refl
  split
  · refine State.writeBy_kept (hm.sub rfl) ?_ ?_
    · exact h2
    · intro y1 k2
      refine State.writeCval_kept (hm.sub rfl) ?_
      exact k2
  · refine State.readBy_kept (hm.sub rfl) ?_ ?_
    · exact h2
    · intro y3 k4
      refine State.readCval_kept (hm.sub rfl) ?_
      exact k4

theorem State.writeCsel_kept {m : Nat} {s0 : State} {a0} {a1} (hm : Sub 74766791213064 m) (h0 : Kept m s0 a0) : Kept m s0 (State.writeCsel a0 a1) := by
  unfold State.writeCsel
  refine kept_ite ?_ ?_
  · refine State.cfgErr_kept (hm.sub rfl) rfl (hm.bit rfl) ?_
    exact h0
  · refine State.plainWrite_kept (hm.sub rfl) rfl (hm.bit rfl) rfl (hm.bit rfl) ?_
    exact h0

theorem State.writePtrim_kept {m : Nat} {s0 : State} {a0} {a1} {a2} (hm : Sub 74766791213064 m) (h0 : Kept m s0 a0) : Kept m s0 (State.writePtrim a0 a1 a2) := by
  unfold State.writePtrim
  refine kept_ite ?_ ?_
  · refine State.plainWrite_kept (hm.sub rfl) rfl (hm.bit rfl) (show _ / 1048576 % 32 = 10 by unfold Reg.FLT_CHcPTRIM; omega) (hm.bit rfl) ?_
    exact h0
  · refine State.cfgErr_kept (hm.sub rfl) rfl (hm.bit rfl) ?_
    exact h0

theorem execPtrimWrite_kept {m : Nat} {a0} {a1} {a2} {a3} {t : State} (hm : Sub 4578366418714632 m) (h : execPtrimWrite a0 a1 a2 a3 = .next t) : Kept m a3 t := by
  rw [live_next h]
  have h3 : Kept m a3 a3 := kept_refl
  refine State.writeBy_kept (hm.sub rfl) ?_ ?_
  · exact h3
  · intro y1 k2
    refine kept_ite ?_ ?_
    · refine State.writePtrim_kept (hm.sub rfl) ?_
      exact k2
    · exact k2

theorem State.clearHistory_kept {m : Nat} {s0 : State} {a0} {a1} {a2} (hm : Sub 8192 m) (h0 : Kept m s0 a0) : Kept m s0 (State.clearHistory a0 a1 a2) := by
  unfold State.clearHistory
  extract_lets -merge -useContext +onlyGivenNames x1
  try clear_value x1
  refine State.setFltChan_kept (hm.sub rfl) ?_
  exact h0

theorem State.sync_kept {m : Nat} {s0 : State} {a0} {a1} (hm : Sub 74766791221256 m) (h0 : Kept m s0 a0) : Kept m s0 (State.sync a0 a1) := by
  unfold State.sync
  extract_lets -merge -useContext +onlyGivenNames s11
  have k_s11 : Kept m s0 s11 := by
    unfold s11
    refine kept_foldl ?_ ?_
    · exact h0
    · intro x4 y2 k3
      refine kept_ite ?_ ?_
      · refine State.clearHistory_kept (hm.sub rfl) ?_
        refine State.setFltChan_kept (hm.sub rfl) ?_
        exact k3
      · exact k3
  clear_value s11
  extract_lets -merge -useContext +onlyGivenNames s25
  have k_s25 : Kept m s0 s25 := by
    unfold s25
    refine State.bump_kept (hm.sub rfl) rfl (hm.bit rfl) ?_
    refine State.setVal_kept (hm.sub rfl) rfl (hm.bit rfl) ?_
    refine State.setVal_kept (hm.sub rfl) rfl (hm.bit rfl) ?_
    refine State.setVal_kept (hm.sub rfl) rfl (hm.bit rfl) ?_
    exact k_s11
  clear_value s25
  extract_lets -merge -useContext +onlyGivenNames s36
  have k_s36 : Kept m s0 s36 := by
    unfold s36
    refine State.raise_kept (hm.sub rfl) rfl (hm.bit rfl) ?_
    exact k_s25
  clear_value s36
  refine kept_flt (hm.bit rfl) ?_
  exact k_s36

theorem State.syncAsked_kept {m : Nat} {s0 : State} {a0} {a1} (hm : Sub 74766791221256 m) (h0 : Kept m s0 a0) : Kept m s0 (State.syncAsked a0 a1) := by
  unfold State.syncAsked
  refine kept_ite ?_ ?_
  · exact h0
  · refine State.sync_kept (hm.sub rfl) ?_
    exact h0

theorem execDecsync_kept {m : Nat} {a0} {a1} {a2} {a3} {t : State} (hm : Sub 4578366418722828 m) (h : execDecsync a0 a1 a2 a3 = .next t) : Kept m a3 t := by
  rw [liveAt_next h]
  have h3 : ∀ n, Kept m a3 (a3.advanceNs n) := fun _ => State.advanceNs_kept (hm.sub rfl) kept_refl
  split
  · refine kept_ite ?_ ?_
    · refine State.syncAsked_kept (hm.sub rfl) ?_
      exact (h3 _)
    · exact (h3 _)
  · refine State.writeBy_kept (hm.sub rfl) ?_ ?_
    · exact (h3 _)
    · intro y1 k2
      refine State.syncAsked_kept (hm.sub rfl) ?_
      exact k2

theorem execModPllRelock_kept {m : Nat} {a0} {a1} {a2} {t : State} (hm : Sub 12292 m) (h : execModPllRelock a0 a1 a2 = .next t) : Kept m a2 t := by
  rw [liveAt_next h]
  have h2 : ∀ n, Kept m a2 (a2.advanceNs n) := fun _ => State.advanceNs_kept (hm.sub rfl) kept_refl
  refine kept_ite ?_ ?_
  · exact (h2 _)
  · refine kept_foldl ?_ ?_
    · refine State.modRelock_kept (hm.sub rfl) ?_
      exact (h2 _)
    · intro x3 y1 k2
      refine State.clearHistory_kept (hm.sub rfl) ?_
      exact k2

theorem State.fltTimeStep_kept {m : Nat} {s0 : State} {a0} (hm : Sub 8192 m) (h0 : Kept m s0 a0) : Kept m s0 (State.fltTimeStep a0) := by
  unfold State.fltTimeStep
  refine kept_foldl ?_ ?_
  · exact h0
  · intro x3 y1 k2
    refine kept_ite ?_ ?_
    · exact k2
    · refine State.setFltChan_kept (hm.sub rfl) ?_
      exact k2

theorem State.fltStop_kept {m : Nat} {s0 : State} {a0} (hm : Sub 8192 m) (h0 : Kept m s0 a0) : Kept m s0 (State.fltStop a0) := by
  unfold State.fltStop
  refine kept_flt (hm.bit rfl) ?_
  exact h0

theorem State.fltClear_kept {m : Nat} {s0 : State} {a0} (hm : Sub 4398046519296 m) (h0 : Kept m s0 a0) : Kept m s0 (State.fltClear a0) := by
  unfold State.fltClear
  extract_lets -merge -useContext +onlyGivenNames s11
  have k_s11 : Kept m s0 s11 := by
    unfold s11
    refine State.fltStop_kept (hm.sub rfl) ?_
    exact h0
  clear_value s11
  extract_lets -merge -useContext +onlyGivenNames s22
  have k_s22 : Kept m s0 s22 := by
    unfold s22
    refine kept_foldl ?_ ?_
    · exact k_s11
    · intro x5 y3 k4
      refine State.setVal_kept (hm.sub rfl) (show _ / 1048576 % 32 = 10 by unfold Reg.FLT_CHcENV; omega) (hm.bit rfl) ?_
      refine State.setVal_kept (hm.sub rfl) (show _ / 1048576 % 32 = 10 by unfold Reg.FLT_CHcPKHOLD; omega) (hm.bit rfl) ?_
      refine State.setVal_kept (hm.sub rfl) (show _ / 1048576 % 32 = 10 by unfold Reg.FLT_CHcPKMIN; omega) (hm.bit rfl) ?_
      refine State.setVal_kept (hm.sub rfl) (show _ / 1048576 % 32 = 10 by unfold Reg.FLT_CHcPKMAX; omega) (hm.bit rfl) ?_
      refine State.setVal_kept (hm.sub rfl) (show _ / 1048576 % 32 = 10 by unfold Reg.FLT_CHcRMSA; omega) (hm.bit rfl) ?_
      refine State.setVal_kept (hm.sub rfl) (show _ / 1048576 % 32 = 10 by unfold Reg.FLT_CHcRMSC; omega) (hm.bit rfl) ?_
      exact k4
  clear_value s22
  refine kept_flt (hm.bit rfl) ?_
  exact k_s22

theorem State.phCheck_kept {m : Nat} {s0 : State} {a0} (hm : Sub 74766791221256 m) (h0 : Kept m s0 a0) : Kept m s0 (State.phCheck a0) := by
  unfold State.phCheck
  extract_lets -merge -useContext +onlyGivenNames en1
  try clear_value en1
  extract_lets -merge -useContext +onlyGivenNames s12
  try clear_value s12
  extract_lets -merge -useContext +onlyGivenNames s13
  have k_s13 : Kept m s0 s13 := by
    unfold s13
    refine kept_flt (hm.bit rfl) ?_
    exact h0
  clear_value s13
  refine kept_ite ?_ ?_
  · refine State.raise_kept (hm.sub rfl) rfl (hm.bit rfl) ?_
    exact k_s13
  · exact k_s13

theorem State.placeLocal_kept {m : Nat} {s0 : State} {a0} {a1} (hm : Sub 356310488514696 m) (h0 : Kept m s0 a0) : Kept m s0 (State.placeLocal a0 a1) := by
  unfold State.placeLocal
  split
  · extract_lets -merge -useContext +onlyGivenNames half1
    try clear_value half1
    refine State.kernelBoundary_kept (hm.sub rfl) ?_
    refine State.bump_kept (hm.sub rfl) rfl (hm.bit rfl) ?_
    refine State.placeFrame_kept (hm.sub rfl) ?_
    exact h0
  · exact h0

theorem State.writeLane_kept {m : Nat} {s0 : State} {a0} {a1} {a2} {a3} {k2} (hm : Sub 74766791213064 m) (b2a : a2 / 1048576 % 32 = k2) (b2b : m.testBit (32 + k2) = true) (h0 : Kept m s0 a0) : Kept m s0 (State.writeLane a0 a1 a2 a3) := by
  unfold State.writeLane
  extract_lets -merge -useContext +onlyGivenNames get1
  try clear_value get1
  extract_lets -merge -useContext +onlyGivenNames cfg2
  try clear_value cfg2
  refine kept_ite ?_ ?_
  · refine State.cfgErr_kept (hm.sub rfl) rfl (hm.bit rfl) ?_
    exact h0
  · refine State.plainWrite_kept (hm.sub rfl) rfl (hm.bit rfl) b2a b2b ?_
    exact h0

theorem State.writeChain_kept {m : Nat} {s0 : State} {a0} {a1} {a2} {a3} {k2} (hm : Sub 74766791221256 m) (b2a : a2 / 1048576 % 32 = k2) (b2b : m.testBit (32 + k2) = true) (h0 : Kept m s0 a0) : Kept m s0 (State.writeChain a0 a1 a2 a3) := by
  unfold State.writeChain
  refine kept_ite ?_ ?_
  · refine State.plainWrite_kept (hm.sub rfl) rfl (hm.bit rfl) b2a b2b ?_
    exact h0
  · extract_lets -merge -useContext +onlyGivenNames cfg1
    try clear_value cfg1
    extract_lets -merge -useContext +onlyGivenNames fix2
    try clear_value fix2
    extract_lets -merge -useContext +onlyGivenNames f3
    try clear_value f3
    refine kept_ite ?_ ?_
    · refine State.cfgErr_kept (hm.sub rfl) rfl (hm.bit rfl) ?_
      exact h0
    · refine State.setFltChan_kept (hm.sub rfl) ?_
      refine State.plainWrite_kept (hm.sub rfl) rfl (hm.bit rfl) b2a b2b ?_
      exact h0

theorem State.writeFltCfg_kept {m : Nat} {s0 : State} {a0} {a1} (hm : Sub 74766791221256 m) (h0 : Kept m s0 a0) : Kept m s0 (State.writeFltCfg a0 a1) := by
  unfold State.writeFltCfg
  extract_lets -merge -useContext +onlyGivenNames s11
  have k_s11 : Kept m s0 s11 := by
    unfold s11
    refine State.plainWrite_kept (hm.sub rfl) rfl (hm.bit rfl) rfl (hm.bit rfl) ?_
    exact h0
  clear_value s11
  refine kept_ite ?_ ?_
  · exact k_s11
  · refine State.fltStop_kept (hm.sub rfl) ?_
    exact k_s11


end Sys2Proof.Machine
end

