-- ==== Sys2Proof/Laws/KeptMeter.lean ====
section
/-!
SUPPORT. What each operation of Machine/Meter.lean may change: one lemma per operation, its mask of parts and register blocks in `hm`.
-/
namespace Sys2Proof.Machine

theorem State.mtrCheck_kept {m : Nat} {s0 : State} {a0} (hm : Sub 79164837740552 m) (h0 : Kept m s0 a0) : Kept m s0 (State.mtrCheck a0) := by
  unfold State.mtrCheck
  extract_lets -merge -useContext +onlyGivenNames ok1
  try clear_value ok1
  extract_lets -merge -useContext +onlyGivenNames s12
  try clear_value s12
  extract_lets -merge -useContext +onlyGivenNames s13
  have k_s13 : Kept m s0 s13 := by
    unfold s13
    refine kept_mtr (hm.bit rfl) ?_
    exact h0
  clear_value s13
  refine kept_ite ?_ ?_
  · exact k_s13
  · refine State.raise_kept (hm.sub rfl) rfl (hm.bit rfl) ?_
    exact k_s13

theorem State.mtrSpan_kept {m : Nat} {s0 : State} {a0} (hm : Sub 16384 m) (h0 : Kept m s0 a0) : Kept m s0 (State.mtrSpan a0) := by
  unfold State.mtrSpan
  refine kept_ite ?_ ?_
  · exact h0
  · extract_lets -merge -useContext +onlyGivenNames g1
    try clear_value g1
    refine kept_mtr (hm.bit rfl) ?_
    exact h0

theorem State.accumulate_kept {m : Nat} {s0 : State} {a0} {a1} (hm : Sub 16384 m) (h0 : Kept m s0 a0) : Kept m s0 (State.accumulate a0 a1) := by
  unfold State.accumulate
  extract_lets -merge -useContext +onlyGivenNames acc1
  try clear_value acc1
  refine kept_mtr (hm.bit rfl) ?_
  exact h0

theorem State.setPulse_kept {m : Nat} {s0 : State} {a0} {a1} {a2} (hm : Sub 16384 m) (h0 : Kept m s0 a0) : Kept m s0 (State.setPulse a0 a1 a2) := by
  unfold State.setPulse
  refine kept_mtr (hm.bit rfl) ?_
  exact h0

theorem State.duePulses_kept {m : Nat} {s0 : State} {a0} {a1} {a2} (hm : Sub 79164837740552 m) (h0 : Kept m s0 a0) : Kept m s0 (State.duePulses a0 a1 a2) := by
  unfold State.duePulses
  refine kept_ite ?_ ?_
  · exact h0
  · refine kept_ite ?_ ?_
    · refine State.bumpBy_kept (hm.sub rfl) (show _ / 1048576 % 32 = 11 by unfold Reg.MTR_PLSnDROP; omega) (hm.bit rfl) ?_
      exact h0
    · extract_lets -merge -useContext +onlyGivenNames x1
      try clear_value x1
      extract_lets -merge -useContext +onlyGivenNames room2
      try clear_value room2
      extract_lets -merge -useContext +onlyGivenNames s13
      have k_s13 : Kept m s0 s13 := by
        unfold s13
        refine State.setPulse_kept (hm.sub rfl) ?_
        exact h0
      clear_value s13
      refine kept_ite ?_ ?_
      · exact k_s13
      · refine State.raise_kept (hm.sub rfl) rfl (hm.bit rfl) ?_
        refine State.bumpBy_kept (hm.sub rfl) (show _ / 1048576 % 32 = 11 by unfold Reg.MTR_PLSnDROP; omega) (hm.bit rfl) ?_
        exact k_s13

theorem State.pulseTake_kept {m : Nat} {s0 : State} {a0} {a1} {a2} (hm : Sub 79164837740552 m) (h0 : Kept m s0 a0) : Kept m s0 (State.pulseTake a0 a1 a2) := by
  unfold State.pulseTake
  extract_lets -merge -useContext +onlyGivenNames cfg1
  try clear_value cfg1
  extract_lets -merge -useContext +onlyGivenNames a2
  try clear_value a2
  extract_lets -merge -useContext +onlyGivenNames mine3
  try clear_value mine3
  extract_lets -merge -useContext +onlyGivenNames x4
  try clear_value x4
  extract_lets -merge -useContext +onlyGivenNames res5
  try clear_value res5
  extract_lets -merge -useContext +onlyGivenNames q6
  try clear_value q6
  refine State.duePulses_kept (hm.sub rfl) ?_
  refine State.setPulse_kept (hm.sub rfl) ?_
  exact h0

theorem State.pulseStart_kept {m : Nat} {s0 : State} {a0} {a1} (hm : Sub 8796093038592 m) (h0 : Kept m s0 a0) : Kept m s0 (State.pulseStart a0 a1) := by
  unfold State.pulseStart
  extract_lets -merge -useContext +onlyGivenNames x1
  try clear_value x1
  extract_lets -merge -useContext +onlyGivenNames width2
  try clear_value width2
  extract_lets -merge -useContext +onlyGivenNames rested3
  try clear_value rested3
  refine kept_ite ?_ ?_
  · exact h0
  · refine kept_ite ?_ ?_
    · refine State.bump_kept (hm.sub rfl) (show _ / 1048576 % 32 = 11 by unfold Reg.MTR_PLSnDROP; omega) (hm.bit rfl) ?_
      refine State.setPulse_kept (hm.sub rfl) ?_
      exact h0
    · refine kept_ite ?_ ?_
      · exact h0
      · refine State.bump_kept (hm.sub rfl) (show _ / 1048576 % 32 = 11 by unfold Reg.MTR_PLSnCNT; omega) (hm.bit rfl) ?_
        refine State.setPulse_kept (hm.sub rfl) ?_
        exact h0

theorem execPulseStart_kept {m : Nat} {a0} {a1} {a2} {t : State} (hm : Sub 8796093038596 m) (h : execPulseStart a0 a1 a2 = .next t) : Kept m a2 t := by
  rw [liveAt_next h]
  have h2 : ∀ n, Kept m a2 (a2.advanceNs n) := fun _ => State.advanceNs_kept (hm.sub rfl) kept_refl
  refine kept_ite ?_ ?_
  · refine State.pulseStart_kept (hm.sub rfl) ?_
    exact (h2 _)
  · exact (h2 _)

theorem execPulseEnd_kept {m : Nat} {a0} {a1} {a2} {t : State} (hm : Sub 16388 m) (h : execPulseEnd a0 a1 a2 = .next t) : Kept m a2 t := by
  rw [liveAt_next h]
  have h2 : ∀ n, Kept m a2 (a2.advanceNs n) := fun _ => State.advanceNs_kept (hm.sub rfl) kept_refl
  split
  · refine kept_ite ?_ ?_
    · refine State.setPulse_kept (hm.sub rfl) ?_
      exact (h2 _)
    · exact (h2 _)
  · exact (h2 _)

theorem State.saveBegin_kept {m : Nat} {s0 : State} {a0} (hm : Sub 16384 m) (h0 : Kept m s0 a0) : Kept m s0 (State.saveBegin a0) := by
  unfold State.saveBegin
  extract_lets -merge -useContext +onlyGivenNames seq1
  try clear_value seq1
  extract_lets -merge -useContext +onlyGivenNames w2
  try clear_value w2
  refine kept_mtr (hm.bit rfl) ?_
  exact h0

theorem State.saveEnd_kept {m : Nat} {s0 : State} {a0} {a1} (hm : Sub 642119113392136 m) (h0 : Kept m s0 a0) : Kept m s0 (State.saveEnd a0 a1) := by
  unfold State.saveEnd
  split
  · refine kept_ite ?_ ?_
    · refine kept_ite ?_ ?_
      · refine State.surprise_kept (hm.sub rfl) ?_
        exact h0
      · refine State.loseSave_kept (hm.sub rfl) ?_
        exact h0
    · extract_lets -merge -useContext +onlyGivenNames s21
      try clear_value s21
      extract_lets -merge -useContext +onlyGivenNames s22
      try clear_value s22
      extract_lets -merge -useContext +onlyGivenNames s23
      have k_s23 : Kept m s0 s23 := by
        unfold s23
        refine kept_mk ?_ (.inr rfl) (.inr rfl) (.inr rfl) (.inr rfl) (.inr rfl) (.inr rfl) (.inr rfl) (.inr rfl) (.inr rfl) (.inr rfl) (.inr rfl) (.inr rfl) (.inl (hm.bit rfl)) (.inr rfl) (.inr rfl) (.inr rfl) (.inr rfl) (.inr rfl) (.inr rfl) (.inl (hm.bit rfl)) (.inr rfl) (.inr rfl) (.inr rfl) (.inr rfl) (.inr rfl) (.inr rfl)
        exact h0
      clear_value s23
      extract_lets -merge -useContext +onlyGivenNames s34
      try clear_value s34
      extract_lets -merge -useContext +onlyGivenNames s35
      try clear_value s35
      extract_lets -merge -useContext +onlyGivenNames s36
      have k_s36 : Kept m s0 s36 := by
        unfold s36
        refine kept_ite ?_ ?_
        · refine State.wearBy_kept (hm.sub rfl) ?_
          refine kept_mk ?_ (.inr rfl) (.inr rfl) (.inr rfl) (.inr rfl) (.inr rfl) (.inr rfl) (.inr rfl) (.inr rfl) (.inr rfl) (.inr rfl) (.inr rfl) (.inr rfl) (.inl (hm.bit rfl)) (.inr rfl) (.inr rfl) (.inr rfl) (.inr rfl) (.inr rfl) (.inr rfl) (.inl (hm.bit rfl)) (.inr rfl) (.inr rfl) (.inr rfl) (.inr rfl) (.inr rfl) (.inr rfl)
          exact k_s23
        · exact k_s23
      clear_value s36
      extract_lets -merge -useContext +onlyGivenNames s47
      have k_s47 : Kept m s0 s47 := by
        unfold s47
        refine State.setVal_kept (hm.sub rfl) rfl (hm.bit rfl) ?_
        refine State.setVal_kept (hm.sub rfl) rfl (hm.bit rfl) ?_
        exact k_s36
      clear_value s47
      refine kept_ite ?_ ?_
      · refine State.event_kept (hm.sub rfl) ?_
        exact k_s47
      · exact k_s47
  · exact h0

theorem execSaveWriteComplete_kept {m : Nat} {a0} {a1} {a2} {t : State} (hm : Sub 642119113392140 m) (h : execSaveWriteComplete a0 a1 a2 = .next t) : Kept m a2 t := by
  rw [liveAt_next h]
  have h2 : ∀ n, Kept m a2 (a2.advanceNs n) := fun _ => State.advanceNs_kept (hm.sub rfl) kept_refl
  refine State.saveEnd_kept (hm.sub rfl) ?_
  exact (h2 _)

theorem State.saveInstant_kept {m : Nat} {s0 : State} {a0} (hm : Sub 79164837740552 m) (h0 : Kept m s0 a0) : Kept m s0 (State.saveInstant a0) := by
  unfold State.saveInstant
  extract_lets -merge -useContext +onlyGivenNames every1
  try clear_value every1
  refine kept_ite ?_ ?_
  · exact h0
  · refine kept_ite ?_ ?_
    · refine State.raise_kept (hm.sub rfl) rfl (hm.bit rfl) ?_
      refine State.bump_kept (hm.sub rfl) rfl (hm.bit rfl) ?_
      exact h0
    · extract_lets -merge -useContext +onlyGivenNames k2
      try clear_value k2
      extract_lets -merge -useContext +onlyGivenNames done3
      try clear_value done3
      refine kept_ite ?_ ?_
      · refine State.saveBegin_kept (hm.sub rfl) ?_
        exact h0
      · refine kept_mtr (hm.bit rfl) ?_
        exact h0

theorem execSaveInstant_kept {m : Nat} {a0} {a1} {t : State} (hm : Sub 79164837740556 m) (h : execSaveInstant a0 a1 = .next t) : Kept m a1 t := by
  rw [liveAt_next h]
  have h1 : ∀ n, Kept m a1 (a1.advanceNs n) := fun _ => State.advanceNs_kept (hm.sub rfl) kept_refl
  refine State.saveInstant_kept (hm.sub rfl) ?_
  exact (h1 _)

theorem State.meterSaveNow_kept {m : Nat} {s0 : State} {a0} (hm : Sub 642119113392136 m) (h0 : Kept m s0 a0) : Kept m s0 (State.meterSaveNow a0) := by
  unfold State.meterSaveNow
  refine State.saveEnd_kept (hm.sub rfl) ?_
  refine State.saveBegin_kept (hm.sub rfl) ?_
  refine kept_mtr (hm.bit rfl) ?_
  exact h0

theorem State.saveDue_kept {m : Nat} {s0 : State} {a0} {a1} {a2} (hm : Sub 16384 m) (h0 : Kept m s0 a0) : Kept m s0 (State.saveDue a0 a1 a2) := by
  unfold State.saveDue
  split
  · refine kept_ite ?_ ?_
    · refine State.saveBegin_kept (hm.sub rfl) ?_
      exact h0
    · exact h0
  · exact h0

theorem State.setMtrAgg_kept {m : Nat} {s0 : State} {a0} {a1} {a2} (hm : Sub 16384 m) (h0 : Kept m s0 a0) : Kept m s0 (State.setMtrAgg a0 a1 a2) := by
  unfold State.setMtrAgg
  refine kept_mtr (hm.bit rfl) ?_
  exact h0

theorem State.aggAdd_kept {m : Nat} {s0 : State} {a0} {a1} (hm : Sub 16384 m) (h0 : Kept m s0 a0) : Kept m s0 (State.aggAdd a0 a1) := by
  unfold State.aggAdd
  extract_lets -merge -useContext +onlyGivenNames g1
  try clear_value g1
  extract_lets -merge -useContext +onlyGivenNames w2
  try clear_value w2
  refine State.setMtrAgg_kept (hm.sub rfl) ?_
  exact h0

theorem State.aggShow_kept {m : Nat} {s0 : State} {a0} {a1} {a2} (hm : Sub 8796093038592 m) (h0 : Kept m s0 a0) : Kept m s0 (State.aggShow a0 a1 a2) := by
  unfold State.aggShow
  extract_lets -merge -useContext +onlyGivenNames g1
  try clear_value g1
  refine kept_ite ?_ ?_
  · exact h0
  · extract_lets -merge -useContext +onlyGivenNames m2
    try clear_value m2
    extract_lets -merge -useContext +onlyGivenNames pf3
    try clear_value pf3
    extract_lets -merge -useContext +onlyGivenNames s14
    have k_s14 : Kept m s0 s14 := by
      unfold s14
      refine State.setVal_kept (hm.sub rfl) (show _ / 1048576 % 32 = 11 by unfold Reg.MTR_PpP; omega) (hm.bit rfl) ?_
      refine State.setVal_kept (hm.sub rfl) (show _ / 1048576 % 32 = 11 by unfold Reg.MTR_PpIRMS; omega) (hm.bit rfl) ?_
      refine State.setVal_kept (hm.sub rfl) (show _ / 1048576 % 32 = 11 by unfold Reg.MTR_PpVRMS; omega) (hm.bit rfl) ?_
      exact h0
    clear_value s14
    extract_lets -merge -useContext +onlyGivenNames s25
    have k_s25 : Kept m s0 s25 := by
      unfold s25
      refine State.setVal_kept (hm.sub rfl) (show _ / 1048576 % 32 = 11 by unfold Reg.MTR_PpS; omega) (hm.bit rfl) ?_
      refine State.setVal_kept (hm.sub rfl) (show _ / 1048576 % 32 = 11 by unfold Reg.MTR_PpQ1; omega) (hm.bit rfl) ?_
      refine State.setVal_kept (hm.sub rfl) (show _ / 1048576 % 32 = 11 by unfold Reg.MTR_PpP1; omega) (hm.bit rfl) ?_
      exact k_s14
    clear_value s25
    refine State.setMtrAgg_kept (hm.sub rfl) ?_
    refine State.setVal_kept (hm.sub rfl) (show _ / 1048576 % 32 = 11 by unfold Reg.MTR_PpAGG; omega) (hm.bit rfl) ?_
    refine State.setVal_kept (hm.sub rfl) (show _ / 1048576 % 32 = 11 by unfold Reg.MTR_PpPF; omega) (hm.bit rfl) ?_
    exact k_s25

theorem State.skipElems_kept {m : Nat} {s0 : State} {a0} {a1} (hm : Sub 79164837740552 m) (h0 : Kept m s0 a0) : Kept m s0 (State.skipElems a0 a1) := by
  unfold State.skipElems
  refine kept_foldl ?_ ?_
  · exact h0
  · intro x3 y1 k2
    extract_lets -merge -useContext +onlyGivenNames last4
    try clear_value last4
    extract_lets -merge -useContext +onlyGivenNames s15
    have k_s15 : Kept m s0 s15 := by
      unfold s15
      refine State.raise_kept (hm.sub rfl) rfl (hm.bit rfl) ?_
      refine State.bump_kept (hm.sub rfl) rfl (hm.bit rfl) ?_
      exact k2
    clear_value s15
    refine kept_mtr (hm.bit rfl) ?_
    exact k_s15

theorem State.gapEnd_kept {m : Nat} {s0 : State} {a0} {a1} (hm : Sub 642114793259016 m) (h0 : Kept m s0 a0) : Kept m s0 (State.gapEnd a0 a1) := by
  unfold State.gapEnd
  split
  · extract_lets -merge -useContext +onlyGivenNames x1
    try clear_value x1
    extract_lets -merge -useContext +onlyGivenNames s12
    try clear_value s12
    extract_lets -merge -useContext +onlyGivenNames s13
    have k_s13 : Kept m s0 s13 := by
      unfold s13
      refine kept_mtr (hm.bit rfl) ?_
      exact h0
    clear_value s13
    refine State.offer_kept (hm.sub rfl) ?_
    refine State.bump_kept (hm.sub rfl) rfl (hm.bit rfl) ?_
    exact k_s13
  · exact h0

theorem State.followSign_kept {m : Nat} {s0 : State} {a0} {a1} (hm : Sub 8796093038592 m) (h0 : Kept m s0 a0) : Kept m s0 (State.followSign a0 a1) := by
  unfold State.followSign
  refine kept_ite ?_ ?_
  · exact h0
  · extract_lets -merge -useContext +onlyGivenNames neg1
    try clear_value neg1
    extract_lets -merge -useContext +onlyGivenNames s12
    try clear_value s12
    extract_lets -merge -useContext +onlyGivenNames s13
    have k_s13 : Kept m s0 s13 := by
      unfold s13
      refine kept_mtr (hm.bit rfl) ?_
      exact h0
    clear_value s13
    refine kept_ite ?_ ?_
    · refine State.bump_kept (hm.sub rfl) rfl (hm.bit rfl) ?_
      exact k_s13
    · exact k_s13

theorem State.registerCycle_kept {m : Nat} {s0 : State} {a0} {a1} {a2} {a3} (hm : Sub 642114793259016 m) (h0 : Kept m s0 a0) : Kept m s0 (State.registerCycle a0 a1 a2 a3) := by
  unfold State.registerCycle
  extract_lets -merge -useContext +onlyGivenNames lastE1
  try clear_value lastE1
  extract_lets -merge -useContext +onlyGivenNames s12
  have k_s12 : Kept m s0 s12 := by
    unfold s12
    refine State.followSign_kept (hm.sub rfl) ?_
    refine State.accumulate_kept (hm.sub rfl) ?_
    refine State.gapEnd_kept (hm.sub rfl) ?_
    exact h0
  clear_value s12
  refine kept_mtr (hm.bit rfl) ?_
  exact k_s12

theorem State.meterCycle_kept {m : Nat} {s0 : State} {a0} {a1} (hm : Sub 642114793324552 m) (h0 : Kept m s0 a0) : Kept m s0 (State.meterCycle a0 a1) := by
  unfold State.meterCycle
  extract_lets -merge -useContext +onlyGivenNames s1
  have k_s1 : Kept m s0 s1 := by
    unfold s1
    refine State.kernelBoundary_kept (hm.sub rfl) ?_
    refine State.saveDue_kept (hm.sub rfl) ?_
    exact h0
  clear_value s1
  split
  · extract_lets -merge -useContext +onlyGivenNames fm2
    try clear_value fm2
    extract_lets -merge -useContext +onlyGivenNames clean3
    try clear_value clean3
    extract_lets -merge -useContext +onlyGivenNames t4
    try clear_value t4
    extract_lets -merge -useContext +onlyGivenNames t5
    try clear_value t5
    extract_lets -merge -useContext +onlyGivenNames amounts6
    try clear_value amounts6
    extract_lets -merge -useContext +onlyGivenNames sat7
    try clear_value sat7
    extract_lets -merge -useContext +onlyGivenNames s18
    have k_s18 : Kept m s0 s18 := by
      unfold s18
      refine State.setVal_kept (hm.sub rfl) rfl (hm.bit rfl) ?_
      refine State.skipElems_kept (hm.sub rfl) ?_
      exact k_s1
    clear_value s18
    extract_lets -merge -useContext +onlyGivenNames s29
    have k_s29 : Kept m s0 s29 := by
      unfold s29
      refine kept_ite ?_ ?_
      · refine State.bump_kept (hm.sub rfl) rfl (hm.bit rfl) ?_
        exact k_s18
      · exact k_s18
    clear_value s29
    extract_lets -merge -useContext +onlyGivenNames s310
    have k_s310 : Kept m s0 s310 := by
      unfold s310
      refine kept_ite ?_ ?_
      · refine State.registerCycle_kept (hm.sub rfl) ?_
        exact k_s29
      · exact k_s29
    clear_value s310
    extract_lets -merge -useContext +onlyGivenNames s411
    have k_s411 : Kept m s0 s411 := by
      unfold s411
      refine kept_foldl ?_ ?_
      · exact k_s310
      · intro x14 y12 k13
        refine State.pulseTake_kept (hm.sub rfl) ?_
        exact k13
    clear_value s411
    extract_lets -merge -useContext +onlyGivenNames s515
    have k_s515 : Kept m s0 s515 := by
      unfold s515
      refine kept_foldl ?_ ?_
      · exact k_s411
      · intro x18 y16 k17
        refine State.aggAdd_kept (hm.sub rfl) ?_
        exact k17
    clear_value s515
    extract_lets -merge -useContext +onlyGivenNames last19
    extract_lets -merge -useContext +onlyGivenNames s620
    have k_s620 : Kept m s0 s620 := by
      unfold s620
      refine kept_ite ?_ ?_
      · refine kept_foldl ?_ ?_
        · exact k_s515
        · intro x23 y21 k22
          refine State.aggShow_kept (hm.sub rfl) ?_
          exact k22
      · exact k_s515
    clear_value s620
    extract_lets -merge -useContext +onlyGivenNames old24
    try clear_value old24
    refine State.saveDue_kept (hm.sub rfl) ?_
    refine kept_mtr (hm.bit rfl) ?_
    exact k_s620

theorem execMeterCycleRegister_kept {m : Nat} {a0} {a1} {a2} {t : State} (hm : Sub 642114793324556 m) (h : execMeterCycleRegister a0 a1 a2 = .next t) : Kept m a2 t := by
  rw [liveAt_next h]
  have h2 : ∀ n, Kept m a2 (a2.advanceNs n) := fun _ => State.advanceNs_kept (hm.sub rfl) kept_refl
  extract_lets -merge -useContext +onlyGivenNames fresh1
  try clear_value fresh1
  refine kept_ite ?_ ?_
  · refine State.meterCycle_kept (hm.sub rfl) ?_
    exact (h2 _)
  · exact (h2 _)

theorem State.mtrTimeStep_kept {m : Nat} {s0 : State} {a0} (hm : Sub 642114793332744 m) (h0 : Kept m s0 a0) : Kept m s0 (State.mtrTimeStep a0) := by
  unfold State.mtrTimeStep
  extract_lets -merge -useContext +onlyGivenNames s11
  have k_s11 : Kept m s0 s11 := by
    unfold s11
    refine kept_ite ?_ ?_
    · refine kept_foldl ?_ ?_
      · exact h0
      · intro x4 y2 k3
        refine State.meterCycle_kept (hm.sub rfl) ?_
        exact k3
    · exact h0
  clear_value s11
  extract_lets -merge -useContext +onlyGivenNames s25
  have k_s25 : Kept m s0 s25 := by
    unfold s25
    refine kept_foldl ?_ ?_
    · exact k_s11
    · intro x8 y6 k7
      refine kept_ite ?_ ?_
      · exact k7
      · refine State.setFltChan_kept (hm.sub rfl) ?_
        exact k7
  clear_value s25
  refine kept_mtr (hm.bit rfl) ?_
  exact k_s25

theorem State.readCyclo_kept {m : Nat} {s0 : State} {a0} {a1} (hm : Sub 16793600 m) (h0 : Kept m s0 a0) : Kept m s0 (State.readCyclo a0 a1) := by
  unfold State.readCyclo
  extract_lets -merge -useContext +onlyGivenNames l1
  try clear_value l1
  refine State.answer_kept (hm.sub rfl) ?_
  refine kept_mtr (hm.bit rfl) ?_
  exact h0

theorem execCycloRead_kept {m : Nat} {a0} {a1} {t : State} (hm : Sub 4573968388997128 m) (h : execCycloRead a0 a1 = .next t) : Kept m a1 t := by
  rw [live_next h]
  have h1 : Kept m a1 a1 := kept_refl
  refine State.readBy_kept (hm.sub rfl) ?_ ?_
  · exact h1
  · intro y1 k2
    refine State.readCyclo_kept (hm.sub rfl) ?_
    exact k2

theorem State.writeClrcmd_kept {m : Nat} {s0 : State} {a0} {a1} (hm : Sub 642114793259016 m) (h0 : Kept m s0 a0) : Kept m s0 (State.writeClrcmd a0 a1) := by
  unfold State.writeClrcmd
  refine kept_ite ?_ ?_
  · extract_lets -merge -useContext +onlyGivenNames s11
    have k_s11 : Kept m s0 s11 := by
      unfold s11
      refine State.offer_kept (hm.sub rfl) ?_
      exact h0
    clear_value s11
    extract_lets -merge -useContext +onlyGivenNames pulses2
    try clear_value pulses2
    refine State.raise_kept (hm.sub rfl) rfl (hm.bit rfl) ?_
    refine kept_mtr (hm.bit rfl) ?_
    exact k_s11
  · refine State.cfgErr_kept (hm.sub rfl) rfl (hm.bit rfl) ?_
    exact h0

theorem execClrcmd_kept {m : Nat} {a0} {a1} {a2} {t : State} (hm : Sub 5145714420760584 m) (h : execClrcmd a0 a1 a2 = .next t) : Kept m a2 t := by
  rw [live_next h]
  have h2 : Kept m a2 a2 := kept_refl
  refine State.writeBy_kept (hm.sub rfl) ?_ ?_
  · exact h2
  · intro y1 k2
    refine State.writeClrcmd_kept (hm.sub rfl) ?_
    exact k2

theorem State.writeCal_kept {m : Nat} {s0 : State} {a0} {a1} {a2} {a3} {k1} (hm : Sub 79164837740552 m) (b1a : a1 / 1048576 % 32 = k1) (b1b : m.testBit (32 + k1) = true) (h0 : Kept m s0 a0) : Kept m s0 (State.writeCal a0 a1 a2 a3) := by
  unfold State.writeCal
  refine kept_ite ?_ ?_
  · refine State.cfgErr_kept (hm.sub rfl) rfl (hm.bit rfl) ?_
    exact h0
  · extract_lets -merge -useContext +onlyGivenNames next1
    try clear_value next1
    extract_lets -merge -useContext +onlyGivenNames o2
    try clear_value o2
    refine State.setVal_kept (hm.sub rfl) b1a b1b ?_
    refine kept_mtr (hm.bit rfl) ?_
    exact h0

theorem State.writePulse_kept {m : Nat} {s0 : State} {a0} {a1} {a2} {a3} {k2} (hm : Sub 79164837740552 m) (b2a : a2 / 1048576 % 32 = k2) (b2b : m.testBit (32 + k2) = true) (h0 : Kept m s0 a0) : Kept m s0 (State.writePulse a0 a1 a2 a3) := by
  unfold State.writePulse
  extract_lets -merge -useContext +onlyGivenNames s11
  have k_s11 : Kept m s0 s11 := by
    unfold s11
    refine State.plainWrite_kept (hm.sub rfl) rfl (hm.bit rfl) b2a b2b ?_
    exact h0
  clear_value s11
  extract_lets -merge -useContext +onlyGivenNames what2
  try clear_value what2
  extract_lets -merge -useContext +onlyGivenNames refused3
  try clear_value refused3
  refine kept_ite ?_ ?_
  · refine State.setPulse_kept (hm.sub rfl) ?_
    exact k_s11
  · exact k_s11

theorem State.writeMtrCtl_kept {m : Nat} {s0 : State} {a0} {a1} (hm : Sub 79164837740552 m) (h0 : Kept m s0 a0) : Kept m s0 (State.writeMtrCtl a0 a1) := by
  unfold State.writeMtrCtl
  refine State.mtrSpan_kept (hm.sub rfl) ?_
  refine State.plainWrite_kept (hm.sub rfl) rfl (hm.bit rfl) rfl (hm.bit rfl) ?_
  exact h0

theorem State.restoreSave_kept {m : Nat} {s0 : State} {a0} {a1} {a2} {a3} {a4} (hm : Sub 79164839837704 m) (h0 : Kept m s0 a0) : Kept m s0 (State.restoreSave a0 a1 a2 a3 a4) := by
  unfold State.restoreSave
  extract_lets -merge -useContext +onlyGivenNames acc1
  try clear_value acc1
  extract_lets -merge -useContext +onlyGivenNames pulses2
  try clear_value pulses2
  extract_lets -merge -useContext +onlyGivenNames g3
  try clear_value g3
  extract_lets -merge -useContext +onlyGivenNames m4
  try clear_value m4
  extract_lets -merge -useContext +onlyGivenNames m5
  try clear_value m5
  extract_lets -merge -useContext +onlyGivenNames s16
  try clear_value s16
  extract_lets -merge -useContext +onlyGivenNames s17
  have k_s17 : Kept m s0 s17 := by
    unfold s17
    refine State.setVal_kept (hm.sub rfl) rfl (hm.bit rfl) ?_
    refine kept_mk ?_ (.inr rfl) (.inr rfl) (.inr rfl) (.inr rfl) (.inr rfl) (.inr rfl) (.inr rfl) (.inr rfl) (.inr rfl) (.inr rfl) (.inr rfl) (.inr rfl) (.inl (hm.bit rfl)) (.inr rfl) (.inr rfl) (.inr rfl) (.inr rfl) (.inr rfl) (.inr rfl) (.inl (hm.bit rfl)) (.inr rfl) (.inr rfl) (.inr rfl) (.inr rfl) (.inr rfl) (.inr rfl)
    exact h0
  clear_value s17
  refine kept_ite ?_ ?_
  · exact k_s17
  · refine State.raise_kept (hm.sub rfl) rfl (hm.bit rfl) ?_
    exact k_s17

theorem State.meterRestore_kept {m : Nat} {s0 : State} {a0} {a1} (hm : Sub 642114793259016 m) (h0 : Kept m s0 a0) : Kept m s0 (State.meterRestore a0 a1) := by
  unfold State.meterRestore
  split
  · refine kept_ite ?_ ?_
    · refine State.restoreSave_kept (hm.sub rfl) ?_
      exact h0
    · refine State.restoreSave_kept (hm.sub rfl) ?_
      exact h0
  · refine State.restoreSave_kept (hm.sub rfl) ?_
    exact h0
  · refine State.restoreSave_kept (hm.sub rfl) ?_
    exact h0
  · refine State.offer_kept (hm.sub rfl) ?_
    refine State.raise_kept (hm.sub rfl) rfl (hm.bit rfl) ?_
    exact h0


end Sys2Proof.Machine
end

