-- ==== Sys2Proof/Laws/KeptModal.lean ====
section
/-!
SUPPORT. What each operation of Machine/Modal.lean may change: one lemma per operation, its mask of parts and register blocks in `hm`.
-/
namespace Sys2Proof.Machine

theorem State.modInactive_kept {m : Nat} {s0 : State} {a0} {a1} (hm : Sub 1024 m) (h0 : Kept m s0 a0) : Kept m s0 (State.modInactive a0 a1) := by
  unfold State.modInactive
  refine kept_ite ?_ ?_
  · refine kept_modal (hm.bit rfl) ?_
    exact h0
  · refine kept_modal (hm.bit rfl) ?_
    exact h0

theorem State.modWrite_kept {m : Nat} {s0 : State} {a0} {a1} (hm : Sub 281474977760256 m) (h0 : Kept m s0 a0) : Kept m s0 (State.modWrite a0 a1) := by
  unfold State.modWrite
  refine kept_ite ?_ ?_
  · refine kept_modal (hm.bit rfl) ?_
    exact h0
  · refine State.sendDelta_kept (hm.sub rfl) ?_
    refine State.modInactive_kept (hm.sub rfl) ?_
    exact h0

theorem State.writeModParam_kept {m : Nat} {s0 : State} {a0} {a1} {a2} (hm : Sub 352393478276104 m) (h0 : Kept m s0 a0) : Kept m s0 (State.writeModParam a0 a1 a2) := by
  unfold State.writeModParam
  split
  · exact h0
  · refine kept_ite ?_ ?_
    · refine State.cfgErr_kept (hm.sub rfl) rfl (hm.bit rfl) ?_
      exact h0
    · refine State.modWrite_kept (hm.sub rfl) ?_
      exact h0

theorem State.setBaseline_kept {m : Nat} {s0 : State} {a0} {a1} {a2} (hm : Sub 1024 m) (h0 : Kept m s0 a0) : Kept m s0 (State.setBaseline a0 a1 a2) := by
  unfold State.setBaseline
  refine kept_modal (hm.bit rfl) ?_
  exact h0

theorem State.hostBaseline_kept {m : Nat} {s0 : State} {a0} {a1} {a2} {a3} (hm : Sub 1024 m) (h0 : Kept m s0 a0) : Kept m s0 (State.hostBaseline a0 a1 a2 a3) := by
  unfold State.hostBaseline
  extract_lets -merge -useContext +onlyGivenNames s11
  have k_s11 : Kept m s0 s11 := by
    unfold s11
    refine State.setBaseline_kept (hm.sub rfl) ?_
    exact h0
  clear_value s11
  refine kept_modal (hm.bit rfl) ?_
  exact k_s11

theorem State.modTcmdWrite_kept {m : Nat} {s0 : State} {a0} (hm : Sub 352393478276104 m) (h0 : Kept m s0 a0) : Kept m s0 (State.modTcmdWrite a0) := by
  unfold State.modTcmdWrite
  extract_lets -merge -useContext +onlyGivenNames t1
  try clear_value t1
  extract_lets -merge -useContext +onlyGivenNames i2
  try clear_value i2
  extract_lets -merge -useContext +onlyGivenNames w3
  try clear_value w3
  refine kept_ite ?_ ?_
  · refine State.cfgErr_kept (hm.sub rfl) rfl (hm.bit rfl) ?_
    exact h0
  · refine kept_ite ?_ ?_
    · refine State.raise_kept (hm.sub rfl) rfl (hm.bit rfl) ?_
      exact h0
    · refine kept_ite ?_ ?_
      · refine State.sendDelta_kept (hm.sub rfl) ?_
        refine State.hostBaseline_kept (hm.sub rfl) ?_
        exact h0
      · refine State.modWrite_kept (hm.sub rfl) ?_
        exact h0

theorem execModalTcmdWrite_kept {m : Nat} {a0} {a1} {t : State} (hm : Sub 4855993105777672 m) (h : execModalTcmdWrite a0 a1 = .next t) : Kept m a1 t := by
  rw [live_next h]
  have h1 : Kept m a1 a1 := kept_refl
  refine State.writeBy_kept (hm.sub rfl) ?_ ?_
  · exact h1
  · intro y1 k2
    refine State.modTcmdWrite_kept (hm.sub rfl) ?_
    exact k2

theorem State.putModTvals_kept {m : Nat} {s0 : State} {a0} {a1} (hm : Sub 549755813888 m) (h0 : Kept m s0 a0) : Kept m s0 (State.putModTvals a0 a1) := by
  unfold State.putModTvals
  refine kept_foldl ?_ ?_
  · exact h0
  · intro x3 y1 k2
    refine State.setVal_kept (hm.sub rfl) (show _ / 1048576 % 32 = 7 by unfold Reg.MODAL_TVALj; omega) (hm.bit rfl) ?_
    exact k2

theorem State.modTcmdRead_kept {m : Nat} {s0 : State} {a0} (hm : Sub 549755813888 m) (h0 : Kept m s0 a0) : Kept m s0 (State.modTcmdRead a0) := by
  unfold State.modTcmdRead
  extract_lets -merge -useContext +onlyGivenNames t1
  try clear_value t1
  extract_lets -merge -useContext +onlyGivenNames i2
  try clear_value i2
  refine kept_ite ?_ ?_
  · refine State.putModTvals_kept (hm.sub rfl) ?_
    exact h0
  · refine State.putModTvals_kept (hm.sub rfl) ?_
    exact h0

theorem execModalTcmdRead_kept {m : Nat} {a0} {a1} {t : State} (hm : Sub 4574518128017416 m) (h : execModalTcmdRead a0 a1 = .next t) : Kept m a1 t := by
  rw [live_next h]
  have h1 : Kept m a1 a1 := kept_refl
  refine State.writeBy_kept (hm.sub rfl) ?_ ?_
  · exact h1
  · intro y1 k2
    refine State.modTcmdRead_kept (hm.sub rfl) ?_
    exact k2

theorem State.setMchan_kept {m : Nat} {s0 : State} {a0} {a1} {a2} {a3} (hm : Sub 1024 m) (h0 : Kept m s0 a0) : Kept m s0 (State.setMchan a0 a1 a2 a3) := by
  unfold State.setMchan
  refine kept_modal (hm.bit rfl) ?_
  exact h0

theorem State.feedBand_kept {m : Nat} {s0 : State} {a0} {a1} {a2} {a3} {a4} {a5} {a6} (hm : Sub 1024 m) (h0 : Kept m s0 a0) : Kept m s0 ((State.feedBand a0 a1 a2 a3 a4 a5 a6).1) := by
  unfold State.feedBand
  extract_lets -merge -useContext +onlyGivenNames e1
  try clear_value e1
  extract_lets -merge -useContext +onlyGivenNames d2
  try clear_value d2
  extract_lets -merge -useContext +onlyGivenNames gap3
  try clear_value gap3
  extract_lets -merge -useContext +onlyGivenNames keep4
  try clear_value keep4
  extract_lets -merge -useContext +onlyGivenNames m5
  try clear_value m5
  refine kept_ite_fst ?_ ?_
  · refine kept_mkp_fst ?_
    refine State.setMchan_kept (hm.sub rfl) ?_
    exact h0
  · extract_lets -merge -useContext +onlyGivenNames k6
    try clear_value k6
    extract_lets -merge -useContext +onlyGivenNames span7
    try clear_value span7
    extract_lets -merge -useContext +onlyGivenNames env8
    try clear_value env8
    extract_lets -merge -useContext +onlyGivenNames before9
    try clear_value before9
    extract_lets -merge -useContext +onlyGivenNames m110
    try clear_value m110
    refine kept_mkp_fst ?_
    refine State.setMchan_kept (hm.sub rfl) ?_
    exact h0

theorem State.setMAlarm_kept {m : Nat} {s0 : State} {a0} {a1} {a2} {a3} {a4} (hm : Sub 1024 m) (h0 : Kept m s0 a0) : Kept m s0 (State.setMAlarm a0 a1 a2 a3 a4) := by
  unfold State.setMAlarm
  refine kept_modal (hm.bit rfl) ?_
  exact h0

theorem State.feedGroup_kept {m : Nat} {s0 : State} {a0} {a1} {a2} {a3} {a4} {a5} {a6} {a7} {a8} (hm : Sub 549755814912 m) (h0 : Kept m s0 a0) : Kept m s0 (State.feedGroup a0 a1 a2 a3 a4 a5 a6 a7 a8) := by
  unfold State.feedGroup
  extract_lets -merge -useContext +onlyGivenNames ge1
  try clear_value ge1
  extract_lets -merge -useContext +onlyGivenNames chans2
  try clear_value chans2
  split
  · rename_i z3 z4 e5
    have k6 : Kept m s0 z3 := by
      refine kept_pair_fst e5 ?_
      refine kept_foldl_fst ?_ ?_
      · refine kept_mkp_fst ?_
        exact h0
      · intro x9 y7 k8
        extract_lets -merge -useContext +onlyGivenNames r10
        have k_r10 : Kept m s0 r10.1 := by
          unfold r10
          refine State.feedBand_kept (hm.sub rfl) ?_
          exact k8
        clear_value r10
        refine kept_mkp_fst ?_
        exact k_r10
    extract_lets -merge -useContext +onlyGivenNames tests11
    try clear_value tests11
    extract_lets -merge -useContext +onlyGivenNames big12
    try clear_value big12
    extract_lets -merge -useContext +onlyGivenNames s213
    try clear_value s213
    extract_lets -merge -useContext +onlyGivenNames s214
    have k_s214 : Kept m s0 s214 := by
      unfold s214
      refine kept_ite ?_ ?_
      · refine kept_modal (hm.bit rfl) ?_
        exact k6
      · exact k6
    clear_value s214
    extract_lets -merge -useContext +onlyGivenNames hits15
    try clear_value hits15
    extract_lets -merge -useContext +onlyGivenNames s316
    have k_s316 : Kept m s0 s316 := by
      unfold s316
      refine State.bumpBy_kept (hm.sub rfl) rfl (hm.bit rfl) ?_
      exact k_s214
    clear_value s316
    split
    · refine kept_ite ?_ ?_
      · exact k_s316
      · extract_lets -merge -useContext +onlyGivenNames w17
        try clear_value w17
        refine kept_modal (hm.bit rfl) ?_
        exact k_s316
    · exact k_s316

theorem State.dueUpdate_kept {m : Nat} {s0 : State} {a0} {a1} {a2} {a3} {a4} {a5} {a6} {a7} {a8} (hm : Sub 70918500516872 m) (h0 : Kept m s0 a0) : Kept m s0 (State.dueUpdate a0 a1 a2 a3 a4 a5 a6 a7 a8) := by
  unfold State.dueUpdate
  refine kept_ite ?_ ?_
  · exact h0
  · refine kept_ite ?_ ?_
    · refine State.raise_kept (hm.sub rfl) rfl (hm.bit rfl) ?_
      exact h0
    · extract_lets -merge -useContext +onlyGivenNames d1
      try clear_value d1
      extract_lets -merge -useContext +onlyGivenNames iv2
      try clear_value iv2
      extract_lets -merge -useContext +onlyGivenNames upTo3
      try clear_value upTo3
      extract_lets -merge -useContext +onlyGivenNames hi4
      try clear_value hi4
      extract_lets -merge -useContext +onlyGivenNames lo5
      try clear_value lo5
      extract_lets -merge -useContext +onlyGivenNames busy6
      try clear_value busy6
      extract_lets -merge -useContext +onlyGivenNames skipped7
      try clear_value skipped7
      extract_lets -merge -useContext +onlyGivenNames s18
      have k_s18 : Kept m s0 s18 := by
        unfold s18
        refine kept_ite ?_ ?_
        · exact h0
        · refine State.raise_kept (hm.sub rfl) rfl (hm.bit rfl) ?_
          refine State.bumpBy_kept (hm.sub rfl) rfl (hm.bit rfl) ?_
          exact h0
      clear_value s18
      refine kept_ite ?_ ?_
      · exact k_s18
      · extract_lets -merge -useContext +onlyGivenNames u9
        try clear_value u9
        split
        · extract_lets -merge -useContext +onlyGivenNames r10
          try clear_value r10
          refine kept_modal (hm.bit rfl) ?_
          exact k_s18

theorem State.dropEnvelopes_kept {m : Nat} {s0 : State} {a0} {a1} {a2} (hm : Sub 1024 m) (h0 : Kept m s0 a0) : Kept m s0 (State.dropEnvelopes a0 a1 a2) := by
  unfold State.dropEnvelopes
  refine kept_foldl ?_ ?_
  · exact h0
  · intro x3 y1 k2
    refine kept_foldl ?_ ?_
    · exact k2
    · intro x6 y4 k5
      refine State.setMchan_kept (hm.sub rfl) ?_
      exact k5

theorem State.modalRelease_kept {m : Nat} {s0 : State} {a0} {a1} {a2} {a3} (hm : Sub 70918500516872 m) (h0 : Kept m s0 a0) : Kept m s0 (State.modalRelease a0 a1 a2 a3) := by
  unfold State.modalRelease
  extract_lets -merge -useContext +onlyGivenNames bk1
  try clear_value bk1
  extract_lets -merge -useContext +onlyGivenNames rate2
  try clear_value rate2
  extract_lets -merge -useContext +onlyGivenNames idx3
  try clear_value idx3
  extract_lets -merge -useContext +onlyGivenNames follows4
  try clear_value follows4
  extract_lets -merge -useContext +onlyGivenNames s5
  have k_s5 : Kept m s0 s5 := by
    unfold s5
    refine kept_ite ?_ ?_
    · exact h0
    · refine State.dropEnvelopes_kept (hm.sub rfl) ?_
      exact h0
  clear_value s5
  extract_lets -merge -useContext +onlyGivenNames groups6
  try clear_value groups6
  extract_lets -merge -useContext +onlyGivenNames fed7
  have k_fed7 : Kept m s0 fed7 := by
    unfold fed7
    refine kept_foldl ?_ ?_
    · exact k_s5
    · intro x10 y8 k9
      refine kept_foldl ?_ ?_
      · exact k9
      · intro x13 y11 k12
        refine kept_ite ?_ ?_
        · exact k12
        · refine State.feedGroup_kept (hm.sub rfl) ?_
          exact k12
  clear_value fed7
  extract_lets -merge -useContext +onlyGivenNames due14
  have k_due14 : Kept m s0 due14 := by
    unfold due14
    refine kept_foldl ?_ ?_
    · exact k_fed7
    · intro x17 y15 k16
      refine kept_foldl ?_ ?_
      · exact k16
      · intro x20 y18 k19
        refine State.dueUpdate_kept (hm.sub rfl) ?_
        exact k19
  clear_value due14
  refine kept_modal (hm.bit rfl) ?_
  exact k_due14

theorem State.modalSwap_kept {m : Nat} {s0 : State} {a0} {a1} {a2} (hm : Sub 1024 m) (h0 : Kept m s0 a0) : Kept m s0 (State.modalSwap a0 a1 a2) := by
  unfold State.modalSwap
  extract_lets -merge -useContext +onlyGivenNames new1
  try clear_value new1
  extract_lets -merge -useContext +onlyGivenNames old2
  try clear_value old2
  extract_lets -merge -useContext +onlyGivenNames x3
  try clear_value x3
  refine kept_foldl ?_ ?_
  · exact h0
  · intro x6 y4 k5
    refine kept_foldl ?_ ?_
    · exact k5
    · intro x9 y7 k8
      refine State.setMchan_kept (hm.sub rfl) ?_
      exact k8

theorem State.setTrack_kept {m : Nat} {s0 : State} {a0} {a1} {a2} {a3} {a4} (hm : Sub 1024 m) (h0 : Kept m s0 a0) : Kept m s0 (State.setTrack a0 a1 a2 a3 a4) := by
  unfold State.setTrack
  refine kept_modal (hm.bit rfl) ?_
  exact h0

theorem State.modRecord_kept {m : Nat} {s0 : State} {a0} {a1} {a2} {a3} {a4} (hm : Sub 70918500517385 m) (h0 : Kept m s0 a0) : Kept m s0 (State.modRecord a0 a1 a2 a3 a4) := by
  unfold State.modRecord
  extract_lets -merge -useContext +onlyGivenNames i1
  try clear_value i1
  extract_lets -merge -useContext +onlyGivenNames s12
  have k_s12 : Kept m s0 s12 := by
    unfold s12
    refine State.putDev_kept (hm.sub rfl) ?_
    exact h0
  clear_value s12
  extract_lets -merge -useContext +onlyGivenNames s23
  have k_s23 : Kept m s0 s23 := by
    unfold s23
    refine State.setVal_kept (hm.sub rfl) rfl (hm.bit rfl) ?_
    exact k_s12
  clear_value s23
  extract_lets -merge -useContext +onlyGivenNames s34
  have k_s34 : Kept m s0 s34 := by
    unfold s34
    refine kept_ite ?_ ?_
    · exact k_s23
    · refine State.raise_kept (hm.sub rfl) rfl (hm.bit rfl) ?_
      refine State.bump_kept (hm.sub rfl) rfl (hm.bit rfl) ?_
      exact k_s23
  clear_value s34
  extract_lets -merge -useContext +onlyGivenNames s45
  have k_s45 : Kept m s0 s45 := by
    unfold s45
    refine State.bump_kept (hm.sub rfl) (ite_blk rfl rfl) (hm.bit rfl) ?_
    exact k_s34
  clear_value s45
  extract_lets -merge -useContext +onlyGivenNames rel6
  try clear_value rel6
  refine kept_mk ?_ (.inr rfl) (.inr rfl) (.inr rfl) (.inr rfl) (.inr rfl) (.inr rfl) (.inr rfl) (.inl (hm.bit rfl)) (.inl (hm.bit rfl)) (.inr rfl) (.inr rfl) (.inr rfl) (.inr rfl) (.inr rfl) (.inr rfl) (.inr rfl) (.inr rfl) (.inr rfl) (.inr rfl) (.inr rfl) (.inr rfl) (.inr rfl) (.inr rfl) (.inr rfl) (.inr rfl) (.inr rfl)
  exact k_s45

theorem State.clearRecord_kept {m : Nat} {s0 : State} {a0} {a1} {a2} {a3} {a4} {a5} {a6} (hm : Sub 67108864 m) (h0 : Kept m s0 a0) : Kept m s0 ((State.clearRecord a0 a1 a2 a3 a4 a5 a6).1) := by
  unfold State.clearRecord
  extract_lets -merge -useContext +onlyGivenNames f1
  try clear_value f1
  refine kept_mkp_fst ?_
  refine kept_free (hm.bit rfl) ?_
  exact h0

theorem State.modVerdicts_kept {m : Nat} {s0 : State} {a0} {a1} {a2} {a3} {a4} (hm : Sub 916460125326889 m) (h0 : Kept m s0 a0) : Kept m s0 (State.modVerdicts a0 a1 a2 a3 a4) := by
  unfold State.modVerdicts
  refine kept_ite ?_ ?_
  · exact h0
  · refine State.alarms_kept (hm.sub rfl) ?_
    refine kept_foldl ?_ ?_
    · exact h0
    · intro x3 y1 k2
      refine State.modRecord_kept (hm.sub rfl) ?_
      exact k2

theorem State.modAnnounce_kept {m : Nat} {s0 : State} {a0} {a1} {a2} {a3} (hm : Sub 70368744702984 m) (h0 : Kept m s0 a0) : Kept m s0 (State.modAnnounce a0 a1 a2 a3) := by
  unfold State.modAnnounce
  extract_lets -merge -useContext +onlyGivenNames more1
  try clear_value more1
  extract_lets -merge -useContext +onlyGivenNames grows2
  try clear_value grows2
  extract_lets -merge -useContext +onlyGivenNames s13
  have k_s13 : Kept m s0 s13 := by
    unfold s13
    refine kept_ite ?_ ?_
    · refine State.event_kept (hm.sub rfl) ?_
      exact h0
    · exact h0
  clear_value s13
  refine kept_ite ?_ ?_
  · extract_lets -merge -useContext +onlyGivenNames s24
    have k_s24 : Kept m s0 s24 := by
      unfold s24
      refine State.event_kept (hm.sub rfl) ?_
      exact k_s13
    clear_value s24
    refine kept_modal (hm.bit rfl) ?_
    exact k_s24
  · exact k_s13

theorem State.putReport_kept {m : Nat} {s0 : State} {a0} {a1} (hm : Sub 70918500516873 m) (h0 : Kept m s0 a0) : Kept m s0 (State.putReport a0 a1) := by
  unfold State.putReport
  extract_lets -merge -useContext +onlyGivenNames i1
  try clear_value i1
  extract_lets -merge -useContext +onlyGivenNames s12
  have k_s12 : Kept m s0 s12 := by
    unfold s12
    refine State.setVal_kept (hm.sub rfl) rfl (hm.bit rfl) ?_
    refine State.putDev_kept (hm.sub rfl) ?_
    exact h0
  clear_value s12
  extract_lets -merge -useContext +onlyGivenNames s23
  have k_s23 : Kept m s0 s23 := by
    unfold s23
    refine kept_ite ?_ ?_
    · exact k_s12
    · refine State.raise_kept (hm.sub rfl) rfl (hm.bit rfl) ?_
      refine State.bump_kept (hm.sub rfl) rfl (hm.bit rfl) ?_
      exact k_s12
  clear_value s23
  refine kept_modal (hm.bit rfl) ?_
  exact k_s23

theorem State.learnBases_kept {m : Nat} {s0 : State} {a0} {a1} {a2} {a3} (hm : Sub 281474977760256 m) (h0 : Kept m s0 a0) : Kept m s0 (State.learnBases a0 a1 a2 a3) := by
  unfold State.learnBases
  extract_lets -merge -useContext +onlyGivenNames ge1
  try clear_value ge1
  extract_lets -merge -useContext +onlyGivenNames es2
  try clear_value es2
  refine State.sendDelta_kept (hm.sub rfl) ?_
  refine kept_foldl ?_ ?_
  · exact h0
  · intro x5 y3 k4
    refine State.setBaseline_kept (hm.sub rfl) ?_
    exact k4

theorem State.updAlarm_kept {m : Nat} {s0 : State} {a0} {a1} {a2} {a3} {a4} {a5} (hm : Sub 67109888 m) (h0 : Kept m s0 a0) : Kept m s0 ((State.updAlarm a0 a1 a2 a3 a4 a5).1) := by
  unfold State.updAlarm
  extract_lets -merge -useContext +onlyGivenNames ge1
  try clear_value ge1
  refine kept_ite_fst ?_ ?_
  · refine kept_mkp_fst ?_
    exact h0
  · extract_lets -merge -useContext +onlyGivenNames mconf2
    try clear_value mconf2
    extract_lets -merge -useContext +onlyGivenNames mclr3
    try clear_value mclr3
    extract_lets -merge -useContext +onlyGivenNames a4
    try clear_value a4
    extract_lets -merge -useContext +onlyGivenNames hit5
    try clear_value hit5
    split
    · extract_lets -merge -useContext +onlyGivenNames upd6
      try clear_value upd6
      split
      · refine kept_mkp_fst ?_
        refine State.setMAlarm_kept (hm.sub rfl) ?_
        exact h0
      · split
        · extract_lets -merge -useContext +onlyGivenNames alc7
          try clear_value alc7
          refine kept_mkp_fst ?_
          refine State.setMAlarm_kept (hm.sub rfl) ?_
          exact h0
      · split
        · rename_i z8 z9 e10
          have k11 : Kept m s0 z8 := by
            refine kept_pair_fst e10 ?_
            refine State.clearRecord_kept (hm.sub rfl) ?_
            refine State.setMAlarm_kept (hm.sub rfl) ?_
            exact h0
          refine kept_mkp_fst ?_
          exact k11

theorem State.modReady_kept {m : Nat} {s0 : State} {a0} {a1} (hm : Sub 916460192435753 m) (h0 : Kept m s0 a0) : Kept m s0 (State.modReady a0 a1) := by
  unfold State.modReady
  extract_lets -merge -useContext +onlyGivenNames bk1
  try clear_value bk1
  extract_lets -merge -useContext +onlyGivenNames ge2
  try clear_value ge2
  extract_lets -merge -useContext +onlyGivenNames g3
  try clear_value g3
  extract_lets -merge -useContext +onlyGivenNames b4
  try clear_value b4
  extract_lets -merge -useContext +onlyGivenNames rate5
  try clear_value rate5
  extract_lets -merge -useContext +onlyGivenNames nodata6
  try clear_value nodata6
  extract_lets -merge -useContext +onlyGivenNames partl7
  try clear_value partl7
  split
  · extract_lets -merge -useContext +onlyGivenNames rest8
    try clear_value rest8
    extract_lets -merge -useContext +onlyGivenNames s19
    try clear_value s19
    extract_lets -merge -useContext +onlyGivenNames s110
    have k_s110 : Kept m s0 s110 := by
      unfold s110
      refine kept_modal (hm.bit rfl) ?_
      exact h0
    clear_value s110
    extract_lets -merge -useContext +onlyGivenNames s211
    have k_s211 : Kept m s0 s211 := by
      unfold s211
      refine State.bumpBy_kept (hm.sub rfl) rfl (hm.bit rfl) ?_
      refine State.bumpBy_kept (hm.sub rfl) rfl (hm.bit rfl) ?_
      refine State.bumpBy_kept (hm.sub rfl) rfl (hm.bit rfl) ?_
      refine State.bump_kept (hm.sub rfl) rfl (hm.bit rfl) ?_
      exact k_s110
    clear_value s211
    extract_lets -merge -useContext +onlyGivenNames s312
    have k_s312 : Kept m s0 s312 := by
      unfold s312
      refine kept_ite ?_ ?_
      · refine State.raise_kept (hm.sub rfl) rfl (hm.bit rfl) ?_
        refine State.bump_kept (hm.sub rfl) rfl (hm.bit rfl) ?_
        exact k_s211
      · exact k_s211
    clear_value s312
    extract_lets -merge -useContext +onlyGivenNames es13
    try clear_value es13
    extract_lets -merge -useContext +onlyGivenNames old14
    try clear_value old14
    extract_lets -merge -useContext +onlyGivenNames hits15
    try clear_value hits15
    extract_lets -merge -useContext +onlyGivenNames chans16
    try clear_value chans16
    extract_lets -merge -useContext +onlyGivenNames shapes17
    try clear_value shapes17
    extract_lets -merge -useContext +onlyGivenNames tops18
    try clear_value tops18
    extract_lets -merge -useContext +onlyGivenNames new19
    try clear_value new19
    extract_lets -merge -useContext +onlyGivenNames s420
    have k_s420 : Kept m s0 s420 := by
      unfold s420
      refine kept_foldl ?_ ?_
      · exact k_s312
      · intro x23 y21 k22
        refine State.setTrack_kept (hm.sub rfl) ?_
        exact k22
    clear_value s420
    extract_lets -merge -useContext +onlyGivenNames freed24
    try clear_value freed24
    extract_lets -merge -useContext +onlyGivenNames s525
    have k_s525 : Kept m s0 s525 := by
      unfold s525
      refine State.bumpBy_kept (hm.sub rfl) rfl (hm.bit rfl) ?_
      refine State.bumpBy_kept (hm.sub rfl) rfl (hm.bit rfl) ?_
      exact k_s420
    clear_value s525
    extract_lets -merge -useContext +onlyGivenNames matched26
    try clear_value matched26
    extract_lets -merge -useContext +onlyGivenNames met27
    try clear_value met27
    split
    · rename_i z28 z29 e30
      have k31 : Kept m s0 z28 := by
        refine kept_pair_fst e30 ?_
        refine kept_foldl_fst ?_ ?_
        · refine kept_mkp_fst ?_
          exact k_s525
        · intro x34 y32 k33
          extract_lets -merge -useContext +onlyGivenNames q35
          have k_q35 : Kept m s0 q35.1 := by
            unfold q35
            refine State.updAlarm_kept (hm.sub rfl) ?_
            exact k33
          clear_value q35
          refine kept_mkp_fst ?_
          exact k_q35
      split
      · rename_i z36 z37 e38
        have k39 : Kept m s0 z36 := by
          refine kept_pair_fst e38 ?_
          refine kept_foldl_fst ?_ ?_
          · refine kept_mkp_fst ?_
            exact k31
          · intro x42 y40 k41
            extract_lets -merge -useContext +onlyGivenNames a43
            try clear_value a43
            extract_lets -merge -useContext +onlyGivenNames q44
            have k_q44 : Kept m s0 q44.1 := by
              unfold q44
              refine State.clearRecord_kept (hm.sub rfl) ?_
              refine State.setMAlarm_kept (hm.sub rfl) ?_
              exact k41
            clear_value q44
            refine kept_mkp_fst ?_
            exact k_q44
        extract_lets -merge -useContext +onlyGivenNames quiet45
        try clear_value quiet45
        extract_lets -merge -useContext +onlyGivenNames learns46
        try clear_value learns46
        extract_lets -merge -useContext +onlyGivenNames s847
        have k_s847 : Kept m s0 s847 := by
          unfold s847
          refine kept_ite ?_ ?_
          · refine State.learnBases_kept (hm.sub rfl) ?_
            exact k39
          · exact k39
        clear_value s847
        extract_lets -merge -useContext +onlyGivenNames s948
        have k_s948 : Kept m s0 s948 := by
          unfold s948
          refine State.putReport_kept (hm.sub rfl) ?_
          exact k_s847
        clear_value s948
        extract_lets -merge -useContext +onlyGivenNames s1049
        have k_s1049 : Kept m s0 s1049 := by
          unfold s1049
          refine kept_foldl ?_ ?_
          · exact k_s948
          · intro x52 y50 k51
            refine State.putDev_kept (hm.sub rfl) ?_
            exact k51
        clear_value s1049
        extract_lets -merge -useContext +onlyGivenNames s1153
        try clear_value s1153
        extract_lets -merge -useContext +onlyGivenNames s1154
        have k_s1154 : Kept m s0 s1154 := by
          unfold s1154
          refine kept_modal (hm.bit rfl) ?_
          exact k_s1049
        clear_value s1154
        extract_lets -merge -useContext +onlyGivenNames took55
        try clear_value took55
        extract_lets -merge -useContext +onlyGivenNames s1256
        have k_s1256 : Kept m s0 s1256 := by
          unfold s1256
          refine kept_ite ?_ ?_
          · refine State.setVal_kept (hm.sub rfl) rfl (hm.bit rfl) ?_
            exact k_s1154
          · exact k_s1154
        clear_value s1256
        refine State.modAnnounce_kept (hm.sub rfl) ?_
        refine State.modVerdicts_kept (hm.sub rfl) ?_
        exact k_s1256

theorem execModalUpdateReady_kept {m : Nat} {a0} {a1} {a2} {a3} {t : State} (hm : Sub 916460192435757 m) (h : execModalUpdateReady a0 a1 a2 a3 = .next t) : Kept m a3 t := by
  rw [liveAt_next h]
  have h3 : ∀ n, Kept m a3 (a3.advanceNs n) := fun _ => State.advanceNs_kept (hm.sub rfl) kept_refl
  split
  · refine State.modReady_kept (hm.sub rfl) ?_
    exact (h3 _)
  · exact (h3 _)

theorem State.growthReady_kept {m : Nat} {s0 : State} {a0} {a1} (hm : Sub 916460125326889 m) (h0 : Kept m s0 a0) : Kept m s0 (State.growthReady a0 a1) := by
  unfold State.growthReady
  extract_lets -merge -useContext +onlyGivenNames ge1
  try clear_value ge1
  extract_lets -merge -useContext +onlyGivenNames alc2
  try clear_value alc2
  extract_lets -merge -useContext +onlyGivenNames rest3
  try clear_value rest3
  extract_lets -merge -useContext +onlyGivenNames s14
  try clear_value s14
  extract_lets -merge -useContext +onlyGivenNames s15
  have k_s15 : Kept m s0 s15 := by
    unfold s15
    refine kept_modal (hm.bit rfl) ?_
    exact h0
  clear_value s15
  extract_lets -merge -useContext +onlyGivenNames s26
  have k_s26 : Kept m s0 s26 := by
    unfold s26
    refine State.setMAlarm_kept (hm.sub rfl) ?_
    exact k_s15
  clear_value s26
  extract_lets -merge -useContext +onlyGivenNames v7
  try clear_value v7
  refine State.modAnnounce_kept (hm.sub rfl) ?_
  refine State.modVerdicts_kept (hm.sub rfl) ?_
  exact k_s26

theorem execGrowthHit_kept {m : Nat} {a0} {a1} {a2} {a3} {t : State} (hm : Sub 916460125326893 m) (h : execGrowthHit a0 a1 a2 a3 = .next t) : Kept m a3 t := by
  rw [liveAt_next h]
  have h3 : ∀ n, Kept m a3 (a3.advanceNs n) := fun _ => State.advanceNs_kept (hm.sub rfl) kept_refl
  split
  · refine State.growthReady_kept (hm.sub rfl) ?_
    exact (h3 _)
  · exact (h3 _)

theorem State.modalClear_kept {m : Nat} {s0 : State} {a0} (hm : Sub 1024 m) (h0 : Kept m s0 a0) : Kept m s0 (State.modalClear a0) := by
  unfold State.modalClear
  refine kept_modal (hm.bit rfl) ?_
  exact h0


end Sys2Proof.Machine
end

