-- ==== Sys2Proof/Laws/KeptVerdicts.lean ====
section
/-!
SUPPORT. What each operation of Machine/Verdicts.lean may change: one lemma per operation, its mask of parts and register blocks in `hm`.
-/
namespace Sys2Proof.Machine

theorem Verdict.counter_blk (v : Verdict) : v.counter / 1048576 % 32 = 6 := by
  unfold Verdict.counter
  split <;> rfl

theorem State.putVerdict_kept {m : Nat} {s0 : State} {a0} {a1} {a2} {a3} (hm : Sub 70643622609417 m) (h0 : Kept m s0 a0) : Kept m s0 (State.putVerdict a0 a1 a2 a3) := by
  unfold State.putVerdict
  extract_lets -merge -useContext +onlyGivenNames i1
  try clear_value i1
  extract_lets -merge -useContext +onlyGivenNames s12
  have k_s12 : Kept m s0 s12 := by
    unfold s12
    refine State.putDev_kept (hm.sub rfl) ?_
    exact h0
  clear_value s12
  extract_lets -merge -useContext +onlyGivenNames s23
  have k_s23 : Kept m s0 s23 := by
    unfold s23
    refine State.bump_kept (hm.sub rfl) (Verdict.counter_blk _) (hm.bit rfl) ?_
    refine State.setVal_kept (hm.sub rfl) rfl (hm.bit rfl) ?_
    exact k_s12
  clear_value s23
  extract_lets -merge -useContext +onlyGivenNames s34
  have k_s34 : Kept m s0 s34 := by
    unfold s34
    refine kept_ite ?_ ?_
    · exact k_s23
    · refine State.raise_kept (hm.sub rfl) rfl (hm.bit rfl) ?_
      refine State.bump_kept (hm.sub rfl) rfl (hm.bit rfl) ?_
      exact k_s23
  clear_value s34
  refine kept_det (hm.bit rfl) ?_
  exact k_s34

theorem State.outcome_kept {m : Nat} {s0 : State} {a0} {a1} (hm : Sub 633387419697160 m) (h0 : Kept m s0 a0) : Kept m s0 (State.outcome a0 a1) := by
  unfold State.outcome
  extract_lets -merge -useContext +onlyGivenNames s11
  have k_s11 : Kept m s0 s11 := by
    unfold s11
    refine State.offer_kept (hm.sub rfl) ?_
    exact h0
  clear_value s11
  split
  · refine State.bump_kept (hm.sub rfl) (show _ / 1048576 % 32 = 4 by unfold Reg.SNAP_SCnRETRACT; omega) (hm.bit rfl) ?_
    exact k_s11
  · refine State.bump_kept (hm.sub rfl) (show _ / 1048576 % 32 = 4 by unfold Reg.SNAP_SCnLATERAISE; omega) (hm.bit rfl) ?_
    exact k_s11
  · refine State.bump_kept (hm.sub rfl) (show _ / 1048576 % 32 = 4 by unfold Reg.SNAP_SCnREVISED; omega) (hm.bit rfl) ?_
    exact k_s11
  · exact k_s11

theorem State.charge_kept {m : Nat} {s0 : State} {a0} {a1} {a2} (hm : Sub 914862397456520 m) (h0 : Kept m s0 a0) : Kept m s0 (State.charge a0 a1 a2) := by
  unfold State.charge
  extract_lets -merge -useContext +onlyGivenNames d1
  try clear_value d1
  refine kept_ite ?_ ?_
  · refine State.bump_kept (hm.sub rfl) (show _ / 1048576 % 32 = 4 by unfold Reg.SNAP_SCnTIGHTEN; omega) (hm.bit rfl) ?_
    refine State.raise_kept (hm.sub rfl) rfl (hm.bit rfl) ?_
    refine State.changeLevel_kept (hm.sub rfl) ?_
    exact h0
  · extract_lets -merge -useContext +onlyGivenNames v2
    try clear_value v2
    refine State.sendDelta_kept (hm.sub rfl) ?_
    refine State.setSc_kept (hm.sub rfl) ?_
    refine State.setPstate_kept (hm.sub rfl) ?_
    exact h0

theorem State.noteRun_kept {m : Nat} {s0 : State} {a0} {a1} (hm : Sub 274877906944 m) (h0 : Kept m s0 a0) : Kept m s0 (State.noteRun a0 a1) := by
  unfold State.noteRun
  extract_lets -merge -useContext +onlyGivenNames took1
  try clear_value took1
  refine kept_ite ?_ ?_
  · refine State.setVal_kept (hm.sub rfl) rfl (hm.bit rfl) ?_
    exact h0
  · exact h0

theorem State.noteData_kept {m : Nat} {s0 : State} {a0} {a1} {a2} (hm : Sub 70643622608904 m) (h0 : Kept m s0 a0) : Kept m s0 (State.noteData a0 a1 a2) := by
  unfold State.noteData
  extract_lets -merge -useContext +onlyGivenNames s11
  have k_s11 : Kept m s0 s11 := by
    unfold s11
    refine State.bumpBy_kept (hm.sub rfl) rfl (hm.bit rfl) ?_
    exact h0
  clear_value s11
  refine kept_ite ?_ ?_
  · refine State.raise_kept (hm.sub rfl) rfl (hm.bit rfl) ?_
    exact k_s11
  · exact k_s11

theorem State.ringEvent_kept {m : Nat} {s0 : State} {a0} {a1} (hm : Sub 70368744701960 m) (h0 : Kept m s0 a0) : Kept m s0 (State.ringEvent a0 a1) := by
  unfold State.ringEvent
  refine kept_ite ?_ ?_
  · refine State.event_kept (hm.sub rfl) ?_
    exact h0
  · exact h0

theorem State.provVerdicts_kept {m : Nat} {s0 : State} {a0} {a1} {a2} (hm : Sub 916185247418921 m) (h0 : Kept m s0 a0) : Kept m s0 (State.provVerdicts a0 a1 a2) := by
  unfold State.provVerdicts
  extract_lets -merge -useContext +onlyGivenNames vs1
  try clear_value vs1
  extract_lets -merge -useContext +onlyGivenNames k2
  try clear_value k2
  extract_lets -merge -useContext +onlyGivenNames s13
  have k_s13 : Kept m s0 s13 := by
    unfold s13
    refine kept_foldl ?_ ?_
    · refine State.bump_kept (hm.sub rfl) rfl (hm.bit rfl) ?_
      exact h0
    · intro x6 y4 k5
      refine State.putVerdict_kept (hm.sub rfl) ?_
      exact k5
  clear_value s13
  extract_lets -merge -useContext +onlyGivenNames level7
  try clear_value level7
  extract_lets -merge -useContext +onlyGivenNames ps8
  try clear_value ps8
  extract_lets -merge -useContext +onlyGivenNames s29
  try clear_value s29
  extract_lets -merge -useContext +onlyGivenNames s210
  have k_s210 : Kept m s0 s210 := by
    unfold s210
    refine kept_det (hm.bit rfl) ?_
    exact k_s13
  clear_value s210
  refine State.ringEvent_kept (hm.sub rfl) ?_
  refine State.alarms_kept (hm.sub rfl) ?_
  exact k_s210

theorem State.finalVerdicts_kept {m : Nat} {s0 : State} {a0} {a1} {a2} {a3} (hm : Sub 916253966895785 m) (h0 : Kept m s0 a0) : Kept m s0 (State.finalVerdicts a0 a1 a2 a3) := by
  unfold State.finalVerdicts
  extract_lets -merge -useContext +onlyGivenNames vs1
  try clear_value vs1
  extract_lets -merge -useContext +onlyGivenNames fs2
  try clear_value fs2
  extract_lets -merge -useContext +onlyGivenNames ps3
  try clear_value ps3
  extract_lets -merge -useContext +onlyGivenNames isP4
  try clear_value isP4
  extract_lets -merge -useContext +onlyGivenNames takeover5
  try clear_value takeover5
  extract_lets -merge -useContext +onlyGivenNames outs6
  try clear_value outs6
  extract_lets -merge -useContext +onlyGivenNames s17
  have k_s17 : Kept m s0 s17 := by
    unfold s17
    refine State.bump_kept (hm.sub rfl) rfl (hm.bit rfl) ?_
    exact h0
  clear_value s17
  extract_lets -merge -useContext +onlyGivenNames mark8
  try clear_value mark8
  extract_lets -merge -useContext +onlyGivenNames s29
  have k_s29 : Kept m s0 s29 := by
    unfold s29
    refine kept_foldl ?_ ?_
    · exact k_s17
    · intro x12 y10 k11
      refine State.putVerdict_kept (hm.sub rfl) ?_
      exact k11
  clear_value s29
  extract_lets -merge -useContext +onlyGivenNames recs13
  try clear_value recs13
  extract_lets -merge -useContext +onlyGivenNames gone14
  try clear_value gone14
  extract_lets -merge -useContext +onlyGivenNames k15
  try clear_value k15
  extract_lets -merge -useContext +onlyGivenNames xs16
  try clear_value xs16
  extract_lets -merge -useContext +onlyGivenNames s317
  have k_s317 : Kept m s0 s317 := by
    unfold s317
    refine kept_foldl ?_ ?_
    · exact k_s29
    · intro x20 y18 k19
      refine State.outcome_kept (hm.sub rfl) ?_
      exact k19
  clear_value s317
  extract_lets -merge -useContext +onlyGivenNames s421
  have k_s421 : Kept m s0 s421 := by
    unfold s421
    refine State.alarms_kept (hm.sub rfl) ?_
    exact k_s317
  clear_value s421
  extract_lets -merge -useContext +onlyGivenNames s522
  have k_s522 : Kept m s0 s522 := by
    unfold s522
    refine kept_foldl ?_ ?_
    · exact k_s421
    · intro x25 y23 k24
      refine kept_ite ?_ ?_
      · refine State.charge_kept (hm.sub rfl) ?_
        exact k24
      · exact k24
  clear_value s522
  extract_lets -merge -useContext +onlyGivenNames s626
  try clear_value s626
  extract_lets -merge -useContext +onlyGivenNames s627
  have k_s627 : Kept m s0 s627 := by
    unfold s627
    refine kept_det (hm.bit rfl) ?_
    exact k_s522
  clear_value s627
  refine State.ringEvent_kept (hm.sub rfl) ?_
  refine State.keepRun_kept (hm.sub rfl) ?_
  exact k_s627

theorem State.verdictsReady_kept {m : Nat} {s0 : State} {a0} {a1} (hm : Sub 916253966895785 m) (h0 : Kept m s0 a0) : Kept m s0 (State.verdictsReady a0 a1) := by
  unfold State.verdictsReady
  split
  · extract_lets -merge -useContext +onlyGivenNames s11
    try clear_value s11
    extract_lets -merge -useContext +onlyGivenNames s12
    have k_s12 : Kept m s0 s12 := by
      unfold s12
      refine kept_det (hm.bit rfl) ?_
      exact h0
    clear_value s12
    extract_lets -merge -useContext +onlyGivenNames s23
    have k_s23 : Kept m s0 s23 := by
      unfold s23
      refine State.noteData_kept (hm.sub rfl) ?_
      exact k_s12
    clear_value s23
    refine State.noteRun_kept (hm.sub rfl) ?_
    refine kept_ite ?_ ?_
    · refine State.provVerdicts_kept (hm.sub rfl) ?_
      exact k_s23
    · refine State.finalVerdicts_kept (hm.sub rfl) ?_
      exact k_s23

theorem execVerdictReady_kept {m : Nat} {a0} {a1} {a2} {a3} {t : State} (hm : Sub 916253966895789 m) (h : execVerdictReady a0 a1 a2 a3 = .next t) : Kept m a3 t := by
  rw [liveAt_next h]
  have h3 : ∀ n, Kept m a3 (a3.advanceNs n) := fun _ => State.advanceNs_kept (hm.sub rfl) kept_refl
  split
  · exact (h3 _)
  · refine kept_ite ?_ ?_
    · refine State.verdictsReady_kept (hm.sub rfl) ?_
      exact (h3 _)
    · exact (h3 _)

theorem State.discardRaises_kept {m : Nat} {s0 : State} {a0} {a1} {a2} (hm : Sub 915979088988712 m) (h0 : Kept m s0 a0) : Kept m s0 (State.discardRaises a0 a1 a2) := by
  unfold State.discardRaises
  extract_lets -merge -useContext +onlyGivenNames ps1
  try clear_value ps1
  extract_lets -merge -useContext +onlyGivenNames s12
  have k_s12 : Kept m s0 s12 := by
    unfold s12
    refine kept_foldl ?_ ?_
    · exact h0
    · intro x5 y3 k4
      refine State.outcome_kept (hm.sub rfl) ?_
      exact k4
  clear_value s12
  extract_lets -merge -useContext +onlyGivenNames s26
  try clear_value s26
  extract_lets -merge -useContext +onlyGivenNames s27
  have k_s27 : Kept m s0 s27 := by
    unfold s27
    refine kept_det (hm.bit rfl) ?_
    exact k_s12
  clear_value s27
  refine kept_ite ?_ ?_
  · exact k_s27
  · refine State.alarms_kept (hm.sub rfl) ?_
    exact k_s27

theorem State.detCopied_kept {m : Nat} {s0 : State} {a0} (hm : Sub 281749855666688 m) (h0 : Kept m s0 a0) : Kept m s0 (State.detCopied a0) := by
  unfold State.detCopied
  extract_lets -merge -useContext +onlyGivenNames s11
  try clear_value s11
  extract_lets -merge -useContext +onlyGivenNames s12
  try clear_value s12
  extract_lets -merge -useContext +onlyGivenNames s13
  have k_s13 : Kept m s0 s13 := by
    unfold s13
    refine kept_det (hm.bit rfl) ?_
    exact h0
  clear_value s13
  refine kept_foldl ?_ ?_
  · refine State.setFld_kept (hm.sub rfl) rfl (hm.bit rfl) ?_
    exact k_s13
  · intro x6 y4 k5
    refine State.detWrite_kept (hm.sub rfl) ?_
    exact k5

theorem State.modCopied_kept {m : Nat} {s0 : State} {a0} (hm : Sub 282024733574144 m) (h0 : Kept m s0 a0) : Kept m s0 (State.modCopied a0) := by
  unfold State.modCopied
  extract_lets -merge -useContext +onlyGivenNames s11
  try clear_value s11
  extract_lets -merge -useContext +onlyGivenNames s12
  try clear_value s12
  extract_lets -merge -useContext +onlyGivenNames s13
  have k_s13 : Kept m s0 s13 := by
    unfold s13
    refine kept_modal (hm.bit rfl) ?_
    exact h0
  clear_value s13
  refine kept_foldl ?_ ?_
  · refine State.setFld_kept (hm.sub rfl) rfl (hm.bit rfl) ?_
    exact k_s13
  · intro x6 y4 k5
    refine State.modWrite_kept (hm.sub rfl) ?_
    exact k5

theorem execBankCopyComplete_kept {m : Nat} {a0} {a1} {a2} {t : State} (hm : Sub 282299611481604 m) (h : execBankCopyComplete a0 a1 a2 = .next t) : Kept m a2 t := by
  rw [liveAt_next h]
  have h2 : ∀ n, Kept m a2 (a2.advanceNs n) := fun _ => State.advanceNs_kept (hm.sub rfl) kept_refl
  refine kept_ite ?_ ?_
  · refine kept_ite ?_ ?_
    · refine State.modCopied_kept (hm.sub rfl) ?_
      exact (h2 _)
    · exact (h2 _)
  · refine kept_ite ?_ ?_
    · refine State.detCopied_kept (hm.sub rfl) ?_
      exact (h2 _)
    · exact (h2 _)

theorem State.detClear_kept {m : Nat} {s0 : State} {a0} (hm : Sub 512 m) (h0 : Kept m s0 a0) : Kept m s0 (State.detClear a0) := by
  unfold State.detClear
  refine kept_det (hm.bit rfl) ?_
  exact h0


end Sys2Proof.Machine
end

