-- ==== Sys2Proof/Laws/KeptLattice.lean ====
section
/-!
SUPPORT. What each operation of Machine/Lattice.lean may change: one lemma per operation, its mask of parts and register blocks in `hm`.
-/
namespace Sys2Proof.Machine

theorem State.setQueue_kept {m : Nat} {s0 : State} {a0} {a1} {a2} (hm : Sub 65536 m) (h0 : Kept m s0 a0) : Kept m s0 (State.setQueue a0 a1 a2) := by
  unfold State.setQueue
  refine kept_lat (hm.bit rfl) ?_
  exact h0

theorem State.writeQcmd_kept {m : Nat} {s0 : State} {a0} {a1} (hm : Sub 35184372154368 m) (h0 : Kept m s0 a0) : Kept m s0 (State.writeQcmd a0 a1) := by
  unfold State.writeQcmd
  refine kept_ite ?_ ?_
  · refine State.bump_kept (hm.sub rfl) rfl (hm.bit rfl) ?_
    refine State.setQueue_kept (hm.sub rfl) ?_
    exact h0
  · exact h0

theorem execFlush_kept {m : Nat} {a0} {a1} {a2} {t : State} (hm : Sub 4609152744357896 m) (h : execFlush a0 a1 a2 = .next t) : Kept m a2 t := by
  rw [live_next h]
  have h2 : Kept m a2 a2 := kept_refl
  refine State.writeBy_kept (hm.sub rfl) ?_ ?_
  · exact h2
  · intro y1 k2
    refine State.writeQcmd_kept (hm.sub rfl) ?_
    exact k2

theorem State.drainQueues_kept {m : Nat} {s0 : State} {a0} (hm : Sub 65536 m) (h0 : Kept m s0 a0) : Kept m s0 (State.drainQueues a0) := by
  unfold State.drainQueues
  refine kept_foldl ?_ ?_
  · exact h0
  · intro x3 y1 k2
    refine kept_ite ?_ ?_
    · refine State.setQueue_kept (hm.sub rfl) ?_
      exact k2
    · exact k2

theorem State.setCtlHold_kept {m : Nat} {s0 : State} {a0} {a1} {a2} (hm : Sub 65536 m) (h0 : Kept m s0 a0) : Kept m s0 (State.setCtlHold a0 a1 a2) := by
  unfold State.setCtlHold
  refine kept_lat (hm.bit rfl) ?_
  exact h0

theorem State.ctlFire_kept {m : Nat} {s0 : State} {a0} {a1} {a2} (hm : Sub 105553116856328 m) (h0 : Kept m s0 a0) : Kept m s0 (State.ctlFire a0 a1 a2) := by
  unfold State.ctlFire
  refine kept_ite ?_ ?_
  · split
    · refine State.setCtlHold_kept (hm.sub rfl) ?_
      exact h0
    · refine State.setCtlHold_kept (hm.sub rfl) ?_
      exact h0
  · refine State.raise_kept (hm.sub rfl) rfl (hm.bit rfl) ?_
    exact h0

theorem State.ctlEnter_kept {m : Nat} {s0 : State} {a0} {a1} {a2} (hm : Sub 35184372154368 m) (h0 : Kept m s0 a0) : Kept m s0 (State.ctlEnter a0 a1 a2) := by
  unfold State.ctlEnter
  split
  · exact h0
  · extract_lets -merge -useContext +onlyGivenNames full1
    extract_lets -merge -useContext +onlyGivenNames s12
    have k_s12 : Kept m s0 s12 := by
      unfold s12
      refine kept_ite ?_ ?_
      · refine State.bump_kept (hm.sub rfl) rfl (hm.bit rfl) ?_
        exact h0
      · exact h0
    clear_value s12
    refine kept_ite ?_ ?_
    · exact k_s12
    · refine State.setQueue_kept (hm.sub rfl) ?_
      refine State.setCtlHold_kept (hm.sub rfl) ?_
      exact k_s12

theorem execCtrlItemEnqueue_kept {m : Nat} {a0} {a1} {a2} {a3} {t : State} (hm : Sub 35184372154372 m) (h : execCtrlItemEnqueue a0 a1 a2 a3 = .next t) : Kept m a3 t := by
  rw [liveAt_next h]
  have h3 : ∀ n, Kept m a3 (a3.advanceNs n) := fun _ => State.advanceNs_kept (hm.sub rfl) kept_refl
  refine kept_ite ?_ ?_
  · refine State.ctlEnter_kept (hm.sub rfl) ?_
    exact (h3 _)
  · exact (h3 _)

theorem State.swapFinish_kept {m : Nat} {s0 : State} {a0} (hm : Sub 106377750577160 m) (h0 : Kept m s0 a0) : Kept m s0 (State.swapFinish a0) := by
  unfold State.swapFinish
  extract_lets -merge -useContext +onlyGivenNames s11
  try clear_value s11
  extract_lets -merge -useContext +onlyGivenNames s12
  have k_s12 : Kept m s0 s12 := by
    unfold s12
    refine kept_lat (hm.bit rfl) ?_
    exact h0
  clear_value s12
  extract_lets -merge -useContext +onlyGivenNames s23
  have k_s23 : Kept m s0 s23 := by
    unfold s23
    refine State.bump_kept (hm.sub rfl) rfl (hm.bit rfl) ?_
    refine State.setFld_kept (hm.sub rfl) rfl (hm.bit rfl) ?_
    refine State.setFld_kept (hm.sub rfl) rfl (hm.bit rfl) ?_
    exact k_s12
  clear_value s23
  refine kept_ite ?_ ?_
  · refine State.event_kept (hm.sub rfl) ?_
    exact k_s23
  · exact k_s23

theorem State.swapCheck_kept {m : Nat} {s0 : State} {a0} (hm : Sub 106377750577160 m) (h0 : Kept m s0 a0) : Kept m s0 (State.swapCheck a0) := by
  unfold State.swapCheck
  refine kept_ite ?_ ?_
  · refine State.swapFinish_kept (hm.sub rfl) ?_
    exact h0
  · exact h0

theorem State.swapClass_kept {m : Nat} {s0 : State} {a0} {a1} (hm : Sub 106377750578184 m) (h0 : Kept m s0 a0) : Kept m s0 (State.swapClass a0 a1) := by
  unfold State.swapClass
  refine kept_ite ?_ ?_
  · exact h0
  · extract_lets -merge -useContext +onlyGivenNames s11
    try clear_value s11
    extract_lets -merge -useContext +onlyGivenNames s12
    have k_s12 : Kept m s0 s12 := by
      unfold s12
      refine kept_lat (hm.bit rfl) ?_
      exact h0
    clear_value s12
    refine State.swapCheck_kept (hm.sub rfl) ?_
    refine State.modalSwap_kept (hm.sub rfl) ?_
    exact k_s12

theorem State.swapAtRelease_kept {m : Nat} {s0 : State} {a0} {a1} {a2} (hm : Sub 106377750578184 m) (h0 : Kept m s0 a0) : Kept m s0 (State.swapAtRelease a0 a1 a2) := by
  unfold State.swapAtRelease
  split
  · refine kept_ite ?_ ?_
    · refine State.swapClass_kept (hm.sub rfl) ?_
      exact h0
    · exact h0
  · refine State.swapClass_kept (hm.sub rfl) ?_
    exact h0

theorem State.swapBegin_kept {m : Nat} {s0 : State} {a0} {a1} (hm : Sub 106377750578184 m) (h0 : Kept m s0 a0) : Kept m s0 (State.swapBegin a0 a1) := by
  unfold State.swapBegin
  extract_lets -merge -useContext +onlyGivenNames off1
  try clear_value off1
  extract_lets -merge -useContext +onlyGivenNames s12
  try clear_value s12
  extract_lets -merge -useContext +onlyGivenNames s13
  have k_s13 : Kept m s0 s13 := by
    unfold s13
    refine kept_lat (hm.bit rfl) ?_
    exact h0
  clear_value s13
  refine kept_ite ?_ ?_
  · extract_lets -merge -useContext +onlyGivenNames s24
    have k_s24 : Kept m s0 s24 := by
      unfold s24
      refine kept_foldl ?_ ?_
      · exact k_s13
      · intro x7 y5 k6
        refine State.modalSwap_kept (hm.sub rfl) ?_
        exact k6
    clear_value s24
    refine State.swapFinish_kept (hm.sub rfl) ?_
    refine kept_lat (hm.bit rfl) ?_
    exact k_s24
  · refine State.swapCheck_kept (hm.sub rfl) ?_
    exact k_s13

theorem State.writeSwapcmd_kept {m : Nat} {s0 : State} {a0} {a1} (hm : Sub 387852728337416 m) (h0 : Kept m s0 a0) : Kept m s0 (State.writeSwapcmd a0 a1) := by
  unfold State.writeSwapcmd
  refine kept_ite ?_ ?_
  · exact h0
  · refine kept_ite ?_ ?_
    · refine State.cfgErr_kept (hm.sub rfl) rfl (hm.bit rfl) ?_
      exact h0
    · extract_lets -merge -useContext +onlyGivenNames seqs1
      try clear_value seqs1
      refine State.swapBegin_kept (hm.sub rfl) ?_
      refine State.sendDelta_kept (hm.sub rfl) ?_
      exact h0

theorem execLatticeSwap_kept {m : Nat} {a0} {a1} {a2} {t : State} (hm : Sub 4891452355838984 m) (h : execLatticeSwap a0 a1 a2 = .next t) : Kept m a2 t := by
  rw [live_next h]
  have h2 : Kept m a2 a2 := kept_refl
  refine State.writeBy_kept (hm.sub rfl) ?_ ?_
  · exact h2
  · intro y1 k2
    refine State.writeSwapcmd_kept (hm.sub rfl) ?_
    exact k2

theorem execSwapClassTimeout_kept {m : Nat} {a0} {a1} {a2} {t : State} (hm : Sub 106377750578188 m) (h : execSwapClassTimeout a0 a1 a2 = .next t) : Kept m a2 t := by
  rw [liveAt_next h]
  have h2 : ∀ n, Kept m a2 (a2.advanceNs n) := fun _ => State.advanceNs_kept (hm.sub rfl) kept_refl
  refine kept_ite ?_ ?_
  · refine State.swapClass_kept (hm.sub rfl) ?_
    exact (h2 _)
  · exact (h2 _)

theorem State.stopTile_kept {m : Nat} {s0 : State} {a0} {a1} {a2} (hm : Sub 105553116872712 m) (h0 : Kept m s0 a0) : Kept m s0 (State.stopTile a0 a1 a2) := by
  unfold State.stopTile
  extract_lets -merge -useContext +onlyGivenNames s11
  try clear_value s11
  extract_lets -merge -useContext +onlyGivenNames s12
  have k_s12 : Kept m s0 s12 := by
    unfold s12
    refine kept_lat (hm.bit rfl) ?_
    exact h0
  clear_value s12
  refine State.mtrSpan_kept (hm.sub rfl) ?_
  refine State.event_kept (hm.sub rfl) ?_
  refine State.raise_kept (hm.sub rfl) rfl (hm.bit rfl) ?_
  refine State.bump_kept (hm.sub rfl) rfl (hm.bit rfl) ?_
  exact k_s12

theorem State.writeLatCtl_kept {m : Nat} {s0 : State} {a0} {a1} (hm : Sub 105690555744520 m) (h0 : Kept m s0 a0) : Kept m s0 (State.writeLatCtl a0 a1) := by
  unfold State.writeLatCtl
  refine kept_ite ?_ ?_
  · refine State.cfgErr_kept (hm.sub rfl) rfl (hm.bit rfl) ?_
    exact h0
  · extract_lets -merge -useContext +onlyGivenNames s11
    have k_s11 : Kept m s0 s11 := by
      unfold s11
      refine State.plainWrite_kept (hm.sub rfl) rfl (hm.bit rfl) rfl (hm.bit rfl) ?_
      exact h0
    clear_value s11
    refine kept_ite ?_ ?_
    · exact k_s11
    · refine State.abandonPass_kept (hm.sub rfl) ?_
      exact k_s11


end Sys2Proof.Machine
end

