-- ==== Sys2Proof/Laws/KeptRelease.lean ====
section
/-!
SUPPORT. What each operation of Machine/Release.lean may change: one lemma per operation, its mask of parts and register blocks in `hm`.
-/
namespace Sys2Proof.Machine

theorem State.sendDigest_kept {m : Nat} {s0 : State} {a0} {a1} {a2} {a3} (hm : Sub 281474977759232 m) (h0 : Kept m s0 a0) : Kept m s0 (State.sendDigest a0 a1 a2 a3) := by
  unfold State.sendDigest
  refine kept_ite ?_ ?_
  · exact h0
  · extract_lets -merge -useContext +onlyGivenNames vh1
    try clear_value vh1
    extract_lets -merge -useContext +onlyGivenNames s12
    have k_s12 : Kept m s0 s12 := by
      unfold s12
      refine State.chdSend_kept (hm.sub rfl) ?_
      refine State.bump_kept (hm.sub rfl) rfl (hm.bit rfl) ?_
      exact h0
    clear_value s12
    refine kept_ite ?_ ?_
    · exact k_s12
    · refine State.setVal_kept (hm.sub rfl) (show _ / 1048576 % 32 = 16 by unfold Reg.CHD_DIGSEQn; omega) (hm.bit rfl) ?_
      exact k_s12

theorem State.loseSync_kept {m : Nat} {s0 : State} {a0} (hm : Sub 351843722461192 m) (h0 : Kept m s0 a0) : Kept m s0 (State.loseSync a0) := by
  unfold State.loseSync
  extract_lets -merge -useContext +onlyGivenNames c1
  try clear_value c1
  extract_lets -merge -useContext +onlyGivenNames s12
  have k_s12 : Kept m s0 s12 := by
    unfold s12
    refine kept_chd (hm.bit rfl) ?_
    exact h0
  clear_value s12
  refine kept_ite ?_ ?_
  · exact k_s12
  · extract_lets -merge -useContext +onlyGivenNames s23
    have k_s23 : Kept m s0 s23 := by
      unfold s23
      refine State.raise_kept (hm.sub rfl) rfl (hm.bit rfl) ?_
      exact k_s12
    clear_value s23
    refine kept_ite ?_ ?_
    · refine State.chdSend_kept (hm.sub rfl) ?_
      exact k_s23
    · exact k_s23

theorem State.checkVhash_kept {m : Nat} {s0 : State} {a0} {a1} {a2} (hm : Sub 914793677979656 m) (h0 : Kept m s0 a0) : Kept m s0 (State.checkVhash a0 a1 a2) := by
  unfold State.checkVhash
  extract_lets -merge -useContext +onlyGivenNames own1
  try clear_value own1
  refine kept_ite ?_ ?_
  · refine State.loseSync_kept (hm.sub rfl) ?_
    refine State.offer_kept (hm.sub rfl) ?_
    refine State.bump_kept (hm.sub rfl) rfl (hm.bit rfl) ?_
    refine State.raise_kept (hm.sub rfl) rfl (hm.bit rfl) ?_
    exact h0
  · refine kept_ite ?_ ?_
    · exact h0
    · extract_lets -merge -useContext +onlyGivenNames q2
      try clear_value q2
      refine kept_ite ?_ ?_
      · refine State.event_kept (hm.sub rfl) ?_
        refine kept_chd (hm.bit rfl) ?_
        exact h0
      · refine kept_chd (hm.bit rfl) ?_
        exact h0

theorem State.noteMember_kept {m : Nat} {s0 : State} {a0} {a1} {a2} {a3} (hm : Sub 70437464178825 m) (h0 : Kept m s0 a0) : Kept m s0 (State.noteMember a0 a1 a2 a3) := by
  unfold State.noteMember
  extract_lets -merge -useContext +onlyGivenNames r1
  try clear_value r1
  split
  · extract_lets -merge -useContext +onlyGivenNames dig2
    try clear_value dig2
    extract_lets -merge -useContext +onlyGivenNames s13
    have k_s13 : Kept m s0 s13 := by
      unfold s13
      refine State.setStream_kept (hm.sub rfl) ?_
      exact h0
    clear_value s13
    refine kept_ite ?_ ?_
    · exact k_s13
    · refine State.writeStreamRow_kept (hm.sub rfl) ?_
      exact k_s13
  · extract_lets -merge -useContext +onlyGivenNames m4
    try clear_value m4
    extract_lets -merge -useContext +onlyGivenNames gone5
    try clear_value gone5
    extract_lets -merge -useContext +onlyGivenNames s16
    have k_s16 : Kept m s0 s16 := by
      unfold s16
      refine State.bump_kept (hm.sub rfl) (show _ / 1048576 % 32 = 4 by unfold Reg.SNAP_SCnMISSING; omega) (hm.bit rfl) ?_
      refine State.setStream_kept (hm.sub rfl) ?_
      exact h0
    clear_value s16
    refine kept_ite ?_ ?_
    · refine State.raiseInfo_kept (hm.sub rfl) rfl (hm.bit rfl) ?_
      exact k_s16
    · exact k_s16

theorem State.promoteHead_kept {m : Nat} {s0 : State} {a0} {a1} (hm : Sub 128 m) (h0 : Kept m s0 a0) : Kept m s0 (State.promoteHead a0 a1) := by
  unfold State.promoteHead
  split
  · refine kept_ite ?_ ?_
    · exact h0
    · refine State.putSnap_kept (hm.sub rfl) ?_
      exact h0
  · exact h0

theorem State.releaseFinal_kept {m : Nat} {s0 : State} {a0} {a1} {a2} {a3} (hm : Sub 405513701000843 m) (h0 : Kept m s0 a0) : Kept m s0 (State.releaseFinal a0 a1 a2 a3) := by
  unfold State.releaseFinal
  extract_lets -merge -useContext +onlyGivenNames hit1
  try clear_value hit1
  extract_lets -merge -useContext +onlyGivenNames s02
  have k_s02 : Kept m s0 s02 := by
    unfold s02
    refine kept_ite ?_ ?_
    · refine State.doubleBitAnywhere_kept (hm.sub rfl) ?_
      exact h0
    · exact h0
  clear_value s02
  extract_lets -merge -useContext +onlyGivenNames x3
  try clear_value x3
  extract_lets -merge -useContext +onlyGivenNames x4
  try clear_value x4
  extract_lets -merge -useContext +onlyGivenNames s15
  have k_s15 : Kept m s0 s15 := by
    unfold s15
    refine State.swapAtRelease_kept (hm.sub rfl) ?_
    refine State.putSnap_kept (hm.sub rfl) ?_
    exact k_s02
  clear_value s15
  extract_lets -merge -useContext +onlyGivenNames bank6
  try clear_value bank6
  extract_lets -merge -useContext +onlyGivenNames s27
  have k_s27 : Kept m s0 s27 := by
    unfold s27
    refine kept_foldl ?_ ?_
    · exact k_s15
    · intro x10 y8 k9
      refine State.noteMember_kept (hm.sub rfl) ?_
      exact k9
  clear_value s27
  extract_lets -merge -useContext +onlyGivenNames r11
  try clear_value r11
  extract_lets -merge -useContext +onlyGivenNames s312
  have k_s312 : Kept m s0 s312 := by
    unfold s312
    refine State.setLast_kept (hm.sub rfl) ?_
    refine State.toSubs_kept (hm.sub rfl) ?_
    refine State.setVal_kept (hm.sub rfl) (show _ / 1048576 % 32 = 4 by unfold Reg.SNAP_SCnSEQ; omega) (hm.bit rfl) ?_
    refine State.bump_kept (hm.sub rfl) (show _ / 1048576 % 32 = 4 by unfold Reg.SNAP_SCnRELEASED; omega) (hm.bit rfl) ?_
    exact k_s27
  clear_value s312
  extract_lets -merge -useContext +onlyGivenNames run13
  try clear_value run13
  extract_lets -merge -useContext +onlyGivenNames s414
  try clear_value s414
  extract_lets -merge -useContext +onlyGivenNames s415
  have k_s415 : Kept m s0 s415 := by
    unfold s415
    refine kept_det (hm.bit rfl) ?_
    exact k_s312
  clear_value s415
  extract_lets -merge -useContext +onlyGivenNames s516
  have k_s516 : Kept m s0 s516 := by
    unfold s516
    refine State.sendDigest_kept (hm.sub rfl) ?_
    refine State.capFinal_kept (hm.sub rfl) ?_
    refine State.modalRelease_kept (hm.sub rfl) ?_
    exact k_s415
  clear_value s516
  extract_lets -merge -useContext +onlyGivenNames s617
  have k_s617 : Kept m s0 s617 := by
    unfold s617
    refine kept_ite ?_ ?_
    · refine State.freeSnap_kept (hm.sub rfl) ?_
      exact k_s516
    · exact k_s516
  clear_value s617
  refine State.promoteHead_kept (hm.sub rfl) ?_
  exact k_s617

theorem State.waitPromotion_kept {m : Nat} {s0 : State} {a0} {a1} {a2} (hm : Sub 70437464178824 m) (h0 : Kept m s0 a0) : Kept m s0 (State.waitPromotion a0 a1 a2) := by
  unfold State.waitPromotion
  refine kept_ite ?_ ?_
  · exact h0
  · refine State.raise_kept (hm.sub rfl) rfl (hm.bit rfl) ?_
    refine State.bump_kept (hm.sub rfl) (show _ / 1048576 % 32 = 4 by unfold Reg.SNAP_SCnPROMOWAIT; omega) (hm.bit rfl) ?_
    refine State.putSnap_kept (hm.sub rfl) ?_
    exact h0

theorem State.releaseProv_kept {m : Nat} {s0 : State} {a0} {a1} {a2} {a3} (hm : Sub 387921447814794 m) (h0 : Kept m s0 a0) : Kept m s0 (State.releaseProv a0 a1 a2 a3) := by
  unfold State.releaseProv
  extract_lets -merge -useContext +onlyGivenNames s11
  have k_s11 : Kept m s0 s11 := by
    unfold s11
    refine State.swapAtRelease_kept (hm.sub rfl) ?_
    exact h0
  clear_value s11
  extract_lets -merge -useContext +onlyGivenNames bank2
  try clear_value bank2
  extract_lets -merge -useContext +onlyGivenNames y3
  try clear_value y3
  extract_lets -merge -useContext +onlyGivenNames p4
  try clear_value p4
  extract_lets -merge -useContext +onlyGivenNames z5
  try clear_value z5
  extract_lets -merge -useContext +onlyGivenNames s26
  have k_s26 : Kept m s0 s26 := by
    unfold s26
    refine State.putSnap_kept (hm.sub rfl) ?_
    exact k_s11
  clear_value s26
  extract_lets -merge -useContext +onlyGivenNames r7
  try clear_value r7
  extract_lets -merge -useContext +onlyGivenNames s38
  have k_s38 : Kept m s0 s38 := by
    unfold s38
    refine State.setLast_kept (hm.sub rfl) ?_
    refine State.toSubs_kept (hm.sub rfl) ?_
    refine State.bump_kept (hm.sub rfl) (show _ / 1048576 % 32 = 4 by unfold Reg.SNAP_SCnPROV; omega) (hm.bit rfl) ?_
    exact k_s26
  clear_value s38
  extract_lets -merge -useContext +onlyGivenNames run9
  try clear_value run9
  extract_lets -merge -useContext +onlyGivenNames pcfg10
  try clear_value pcfg10
  extract_lets -merge -useContext +onlyGivenNames any11
  try clear_value any11
  extract_lets -merge -useContext +onlyGivenNames s412
  try clear_value s412
  extract_lets -merge -useContext +onlyGivenNames s413
  have k_s413 : Kept m s0 s413 := by
    unfold s413
    refine kept_ite ?_ ?_
    · refine kept_det (hm.bit rfl) ?_
      exact k_s38
    · exact k_s38
  clear_value s413
  refine State.sendDigest_kept (hm.sub rfl) ?_
  exact k_s413

theorem State.dropDigest_kept {m : Nat} {s0 : State} {a0} {a1} {a2} {a3} (hm : Sub 1048576 m) (h0 : Kept m s0 a0) : Kept m s0 (State.dropDigest a0 a1 a2 a3) := by
  unfold State.dropDigest
  refine kept_chd (hm.bit rfl) ?_
  exact h0

theorem State.followed_kept {m : Nat} {s0 : State} {a0} {a1} {a2} {a3} (hm : Sub 281474977759232 m) (h0 : Kept m s0 a0) : Kept m s0 (State.followed a0 a1 a2 a3) := by
  unfold State.followed
  extract_lets -merge -useContext +onlyGivenNames s11
  have k_s11 : Kept m s0 s11 := by
    unfold s11
    refine State.bump_kept (hm.sub rfl) rfl (hm.bit rfl) ?_
    refine State.dropDigest_kept (hm.sub rfl) ?_
    exact h0
  clear_value s11
  refine kept_ite ?_ ?_
  · exact k_s11
  · refine State.setVal_kept (hm.sub rfl) (show _ / 1048576 % 32 = 16 by unfold Reg.CHD_DIGSEQn; omega) (hm.bit rfl) ?_
    refine State.dropDigest_kept (hm.sub rfl) ?_
    exact k_s11

theorem State.followProv_kept {m : Nat} {s0 : State} {a0} {a1} {a2} {a3} (hm : Sub 387921447814794 m) (h0 : Kept m s0 a0) : Kept m s0 (State.followProv a0 a1 a2 a3) := by
  unfold State.followProv
  split
  · refine kept_ite ?_ ?_
    · exact h0
    · refine State.followed_kept (hm.sub rfl) ?_
      refine State.releaseProv_kept (hm.sub rfl) ?_
      exact h0
  · exact h0

theorem State.followFinal_kept {m : Nat} {s0 : State} {a0} {a1} {a2} {a3} {a4} (hm : Sub 968463656519307 m) (h0 : Kept m s0 a0) : Kept m s0 (State.followFinal a0 a1 a2 a3 a4) := by
  unfold State.followFinal
  split
  · refine kept_ite ?_ ?_
    · exact h0
    · refine kept_ite ?_ ?_
      · refine State.waitPromotion_kept (hm.sub rfl) ?_
        exact h0
      · extract_lets -merge -useContext +onlyGivenNames s11
        have k_s11 : Kept m s0 s11 := by
          unfold s11
          refine State.checkVhash_kept (hm.sub rfl) ?_
          exact h0
        clear_value s11
        refine State.followed_kept (hm.sub rfl) ?_
        refine State.releaseFinal_kept (hm.sub rfl) ?_
        exact k_s11
  · exact h0

theorem State.followClass_kept {m : Nat} {s0 : State} {a0} {a1} {a2} {a3} (hm : Sub 968463656519307 m) (h0 : Kept m s0 a0) : Kept m s0 (State.followClass a0 a1 a2 a3) := by
  induction a3 generalizing a0 with
  | zero => exact h0
  | succ n ih =>
    unfold State.followClass
    split
    · exact h0
    · refine kept_ite ?_ ?_
      · exact h0
      · extract_lets -merge -useContext +onlyGivenNames s11
        have k_s11 : Kept m s0 s11 := by
          unfold s11
          refine State.followProv_kept (hm.sub rfl) ?_
          exact h0
        clear_value s11
        split
        · exact k_s11
        · extract_lets -merge -useContext +onlyGivenNames s22
          have k_s22 : Kept m s0 s22 := by
            unfold s22
            refine State.followFinal_kept (hm.sub rfl) ?_
            exact k_s11
          clear_value s22
          split
          · refine kept_ite ?_ ?_
            · exact k_s22
            · refine ih ?_
              exact k_s22
          · exact k_s22

theorem State.followDigests_kept {m : Nat} {s0 : State} {a0} (hm : Sub 968463656519307 m) (h0 : Kept m s0 a0) : Kept m s0 (State.followDigests a0) := by
  unfold State.followDigests
  refine kept_ite ?_ ?_
  · exact h0
  · refine kept_foldl ?_ ?_
    · exact h0
    · intro x3 y1 k2
      refine State.followClass_kept (hm.sub rfl) ?_
      exact k2

theorem execFinalRelease_kept {m : Nat} {a0} {a1} {a2} {a3} {t : State} (hm : Sub 968463656519311 m) (h : execFinalRelease a0 a1 a2 a3 = .next t) : Kept m a3 t := by
  rw [liveAt_next h]
  have h3 : ∀ n, Kept m a3 (a3.advanceNs n) := fun _ => State.advanceNs_kept (hm.sub rfl) kept_refl
  refine kept_ite ?_ ?_
  · exact (h3 _)
  · split
    · exact (h3 _)
    · refine kept_ite ?_ ?_
      · refine State.followClass_kept (hm.sub rfl) ?_
        exact (h3 _)
      · refine kept_ite ?_ ?_
        · exact (h3 _)
        · refine kept_ite ?_ ?_
          · refine State.waitPromotion_kept (hm.sub rfl) ?_
            exact (h3 _)
          · refine State.releaseFinal_kept (hm.sub rfl) ?_
            exact (h3 _)

theorem execProvisionalRelease_kept {m : Nat} {a0} {a1} {a2} {t : State} (hm : Sub 387921447814798 m) (h : execProvisionalRelease a0 a1 a2 = .next t) : Kept m a2 t := by
  rw [liveAt_next h]
  have h2 : ∀ n, Kept m a2 (a2.advanceNs n) := fun _ => State.advanceNs_kept (hm.sub rfl) kept_refl
  refine kept_ite ?_ ?_
  · exact (h2 _)
  · split
    · exact (h2 _)
    · refine kept_ite ?_ ?_
      · refine State.followProv_kept (hm.sub rfl) ?_
        exact (h2 _)
      · refine kept_ite ?_ ?_
        · refine State.releaseProv_kept (hm.sub rfl) ?_
          exact (h2 _)
        · exact (h2 _)

theorem execAmendHorizon_kept {m : Nat} {a0} {a1} {a2} {t : State} (hm : Sub 70437464178830 m) (h : execAmendHorizon a0 a1 a2 = .next t) : Kept m a2 t := by
  rw [liveAt_next h]
  have h2 : ∀ n, Kept m a2 (a2.advanceNs n) := fun _ => State.advanceNs_kept (hm.sub rfl) kept_refl
  split
  · exact (h2 _)
  · refine kept_ite ?_ ?_
    · extract_lets -merge -useContext +onlyGivenNames s11
      have k_s11 : Kept m a2 s11 := by
        unfold s11
        refine State.toSubs_kept (hm.sub rfl) ?_
        exact (h2 _)
      clear_value s11
      refine State.freeSnap_kept (hm.sub rfl) ?_
      refine State.bump_kept (hm.sub rfl) (show _ / 1048576 % 32 = 4 by unfold Reg.SNAP_SCnAMENDED; omega) (hm.bit rfl) ?_
      exact k_s11
    · refine State.freeSnap_kept (hm.sub rfl) ?_
      exact (h2 _)

theorem State.discardClass_kept {m : Nat} {s0 : State} {a0} {a1} (hm : Sub 915979088988840 m) (h0 : Kept m s0 a0) : Kept m s0 (State.discardClass a0 a1) := by
  unfold State.discardClass
  extract_lets -merge -useContext +onlyGivenNames c1
  try clear_value c1
  extract_lets -merge -useContext +onlyGivenNames gone2
  try clear_value gone2
  refine kept_ite ?_ ?_
  · exact h0
  · extract_lets -merge -useContext +onlyGivenNames s13
    have k_s13 : Kept m s0 s13 := by
      unfold s13
      refine State.setSc_kept (hm.sub rfl) ?_
      exact h0
    clear_value s13
    refine State.capDiscard_kept (hm.sub rfl) ?_
    refine State.discardRaises_kept (hm.sub rfl) ?_
    exact k_s13

theorem State.discardAll_kept {m : Nat} {s0 : State} {a0} (hm : Sub 915979088988840 m) (h0 : Kept m s0 a0) : Kept m s0 (State.discardAll a0) := by
  unfold State.discardAll
  extract_lets -merge -useContext +onlyGivenNames s11
  have k_s11 : Kept m s0 s11 := by
    unfold s11
    refine kept_foldl ?_ ?_
    · exact h0
    · intro x4 y2 k3
      refine State.discardClass_kept (hm.sub rfl) ?_
      exact k3
  clear_value s11
  refine kept_chd (hm.bit rfl) ?_
  exact k_s11

theorem State.discardAtStep_kept {m : Nat} {s0 : State} {a0} (hm : Sub 915979088988840 m) (h0 : Kept m s0 a0) : Kept m s0 (State.discardAtStep a0) := by
  unfold State.discardAtStep
  extract_lets -merge -useContext +onlyGivenNames x1
  try clear_value x1
  extract_lets -merge -useContext +onlyGivenNames s12
  have k_s12 : Kept m s0 s12 := by
    unfold s12
    refine State.bumpBy_kept (hm.sub rfl) rfl (hm.bit rfl) ?_
    refine State.discardAll_kept (hm.sub rfl) ?_
    exact h0
  clear_value s12
  refine kept_foldl ?_ ?_
  · exact k_s12
  · intro x5 y3 k4
    refine kept_ite ?_ ?_
    · refine State.setSc_kept (hm.sub rfl) ?_
      exact k4
    · exact k4


end Sys2Proof.Machine
end

