-- ==== Sys2Proof/Laws/KeptTimeEvents.lean ====
section
/-!
SUPPORT. What each operation of Machine/TimeEvents.lean may change: one lemma per operation, its mask of parts and register blocks in `hm`.
-/
namespace Sys2Proof.Machine

theorem State.stepped_kept {m : Nat} {s0 : State} {a0} (hm : Sub 915987678931640 m) (h0 : Kept m s0 a0) : Kept m s0 (State.stepped a0) := by
  unfold State.stepped
  extract_lets -merge -useContext +onlyGivenNames s11
  try clear_value s11
  extract_lets -merge -useContext +onlyGivenNames s12
  have k_s12 : Kept m s0 s12 := by
    unfold s12
    refine kept_tb (hm.bit rfl) ?_
    exact h0
  clear_value s12
  extract_lets -merge -useContext +onlyGivenNames s23
  have k_s23 : Kept m s0 s23 := by
    unfold s23
    refine State.raise_kept (hm.sub rfl) rfl (hm.bit rfl) ?_
    refine State.bump_kept (hm.sub rfl) rfl (hm.bit rfl) ?_
    refine State.setFld_kept (hm.sub rfl) rfl (hm.bit rfl) ?_
    exact k_s12
  clear_value s23
  refine State.fltTimeStep_kept (hm.sub rfl) ?_
  refine State.capTimeStep_kept (hm.sub rfl) ?_
  refine State.discardAtStep_kept (hm.sub rfl) ?_
  exact k_s23

theorem State.shiftTimers_kept {m : Nat} {s0 : State} {a0} {a1} (hm : Sub 12142776 m) (h0 : Kept m s0 a0) : Kept m s0 (State.shiftTimers a0 a1) := by
  unfold State.shiftTimers
  extract_lets -merge -useContext +onlyGivenNames c1
  try clear_value c1
  extract_lets -merge -useContext +onlyGivenNames y2
  try clear_value y2
  extract_lets -merge -useContext +onlyGivenNames y3
  try clear_value y3
  extract_lets -merge -useContext +onlyGivenNames b4
  try clear_value b4
  extract_lets -merge -useContext +onlyGivenNames b5
  try clear_value b5
  extract_lets -merge -useContext +onlyGivenNames u6
  try clear_value u6
  extract_lets -merge -useContext +onlyGivenNames u7
  try clear_value u7
  extract_lets -merge -useContext +onlyGivenNames h8
  try clear_value h8
  extract_lets -merge -useContext +onlyGivenNames h9
  try clear_value h9
  extract_lets -merge -useContext +onlyGivenNames l10
  try clear_value l10
  extract_lets -merge -useContext +onlyGivenNames l11
  try clear_value l11
  extract_lets -merge -useContext +onlyGivenNames e12
  try clear_value e12
  extract_lets -merge -useContext +onlyGivenNames e13
  try clear_value e13
  extract_lets -merge -useContext +onlyGivenNames a14
  try clear_value a14
  extract_lets -merge -useContext +onlyGivenNames a15
  try clear_value a15
  extract_lets -merge -useContext +onlyGivenNames n16
  try clear_value n16
  extract_lets -merge -useContext +onlyGivenNames n17
  try clear_value n17
  extract_lets -merge -useContext +onlyGivenNames m18
  try clear_value m18
  extract_lets -merge -useContext +onlyGivenNames m19
  try clear_value m19
  extract_lets -merge -useContext +onlyGivenNames t20
  try clear_value t20
  extract_lets -merge -useContext +onlyGivenNames t21
  try clear_value t21
  extract_lets -merge -useContext +onlyGivenNames s122
  try clear_value s122
  extract_lets -merge -useContext +onlyGivenNames s123
  have k_s123 : Kept m s0 s123 := by
    unfold s123
    refine kept_mk ?_ (.inr rfl) (.inl (hm.bit rfl)) (.inl (hm.bit rfl)) (.inl (hm.bit rfl)) (.inr rfl) (.inl (hm.bit rfl)) (.inr rfl) (.inr rfl) (.inr rfl) (.inl (hm.bit rfl)) (.inr rfl) (.inr rfl) (.inl (hm.bit rfl)) (.inr rfl) (.inl (hm.bit rfl)) (.inr rfl) (.inr rfl) (.inl (hm.bit rfl)) (.inl (hm.bit rfl)) (.inl (hm.bit rfl)) (.inr rfl) (.inl (hm.bit rfl)) (.inr rfl) (.inr rfl) (.inr rfl) (.inr rfl)
    exact h0
  clear_value s123
  refine kept_foldl ?_ ?_
  · exact k_s123
  · intro x26 y24 k25
    extract_lets -merge -useContext +onlyGivenNames t27
    try clear_value t27
    split
    · refine State.setTarget_kept (hm.sub rfl) ?_
      exact k25
    · exact k25

theorem State.tbTick_kept {m : Nat} {s0 : State} {a0} (hm : Sub 924783780424380 m) (h0 : Kept m s0 a0) : Kept m s0 (State.tbTick a0) := by
  unfold State.tbTick
  extract_lets -merge -useContext +onlyGivenNames t1
  try clear_value t1
  refine kept_ite ?_ ?_
  · extract_lets -merge -useContext +onlyGivenNames s12
    have k_s12 : Kept m s0 s12 := by
      unfold s12
      refine State.mtrTimeStep_kept (hm.sub rfl) ?_
      exact h0
    clear_value s12
    refine State.commitIncr_kept (hm.sub rfl) ?_
    refine State.stepped_kept (hm.sub rfl) ?_
    refine State.shiftTimers_kept (hm.sub rfl) ?_
    refine kept_now (hm.bit rfl) ?_
    exact k_s12
  · refine State.commitIncr_kept (hm.sub rfl) ?_
    refine kept_now (hm.bit rfl) ?_
    exact h0

theorem execIncrementCommit_kept {m : Nat} {a0} {t : State} (hm : Sub 924783780424380 m) (h : execIncrementCommit a0 = .next t) : Kept m a0 t := by
  rw [live_next h]
  have h0 : Kept m a0 a0 := kept_refl
  refine kept_ite ?_ ?_
  · refine State.tbTick_kept (hm.sub rfl) ?_
    exact h0
  · exact h0

theorem execStepApply_kept {m : Nat} {a0} {t : State} (hm : Sub 924783780424380 m) (h : execStepApply a0 = .next t) : Kept m a0 t := by
  rw [live_next h]
  have h0 : Kept m a0 a0 := kept_refl
  refine kept_ite ?_ ?_
  · refine State.tbTick_kept (hm.sub rfl) ?_
    exact h0
  · exact h0

theorem State.fireCmp_kept {m : Nat} {s0 : State} {a0} {a1} (hm : Sub 70377334636568 m) (h0 : Kept m s0 a0) : Kept m s0 ((State.fireCmp a0 a1).1) := by
  unfold State.fireCmp
  extract_lets -merge -useContext +onlyGivenNames d1
  try clear_value d1
  extract_lets -merge -useContext +onlyGivenNames s12
  have k_s12 : Kept m s0 s12 := by
    unfold s12
    refine State.setFld_kept (hm.sub rfl) (show _ / 1048576 % 32 = 1 by unfold Reg.TB_CMPnSTAT; omega) (hm.bit rfl) ?_
    refine State.bump_kept (hm.sub rfl) (show _ / 1048576 % 32 = 1 by unfold Reg.TB_CMPnCNT; omega) (hm.bit rfl) ?_
    exact h0
  clear_value s12
  extract_lets -merge -useContext +onlyGivenNames periodic3
  try clear_value periodic3
  extract_lets -merge -useContext +onlyGivenNames per4
  try clear_value per4
  extract_lets -merge -useContext +onlyGivenNames skip5
  try clear_value skip5
  extract_lets -merge -useContext +onlyGivenNames late6
  try clear_value late6
  extract_lets -merge -useContext +onlyGivenNames s27
  try clear_value s27
  extract_lets -merge -useContext +onlyGivenNames s28
  have k_s28 : Kept m s0 s28 := by
    unfold s28
    refine kept_ite ?_ ?_
    · refine State.bumpBy_kept (hm.sub rfl) (show _ / 1048576 % 32 = 1 by unfold Reg.TB_CMPnSKIP; omega) (hm.bit rfl) ?_
      refine State.setVal_kept (hm.sub rfl) (show _ / 1048576 % 32 = 1 by unfold Reg.TB_CMPnTGTF; omega) (hm.bit rfl) ?_
      refine State.setVal_kept (hm.sub rfl) (show _ / 1048576 % 32 = 1 by unfold Reg.TB_CMPnTGT; omega) (hm.bit rfl) ?_
      refine State.setCmpTarget_kept (hm.sub rfl) ?_
      exact k_s12
    · refine State.setFld_kept (hm.sub rfl) (show _ / 1048576 % 32 = 1 by unfold Reg.TB_CMPnSTAT; omega) (hm.bit rfl) ?_
      exact k_s12
  clear_value s28
  extract_lets -merge -useContext +onlyGivenNames s39
  have k_s39 : Kept m s0 s39 := by
    unfold s39
    refine kept_ite ?_ ?_
    · refine State.raise_kept (hm.sub rfl) rfl (hm.bit rfl) ?_
      refine State.setFld_kept (hm.sub rfl) (show _ / 1048576 % 32 = 1 by unfold Reg.TB_CMPnSTAT; omega) (hm.bit rfl) ?_
      exact k_s28
    · exact k_s28
  clear_value s39
  refine kept_mkp_fst ?_
  exact k_s39

theorem fireAll_kept {m : Nat} {s0 : State} {a0} {a1} (hm : Sub 70377334636568 m) (h1 : Kept m s0 a1) : Kept m s0 ((fireAll a0 a1).1) := by
  induction a0 generalizing a1 with
  | nil => exact h1
  | cons n ns ih =>
    unfold fireAll
    exact ih (State.fireCmp_kept (hm.sub rfl) h1)

theorem State.deliver_kept {m : Nat} {s0 : State} {a0} {a1} {a2} {a3} (hm : Sub 248489628897288 m) (h0 : Kept m s0 a0) : Kept m s0 (State.deliver a0 a1 a2 a3) := by
  unfold State.deliver
  split
  · exact h0
  · split
    · refine State.auxTrigger_kept (hm.sub rfl) ?_
      exact h0
    · refine State.auxTrigger_kept (hm.sub rfl) ?_
      exact h0
    · refine State.capSend_kept (hm.sub rfl) ?_
      exact h0
    · refine State.ctlFire_kept (hm.sub rfl) ?_
      exact h0
    · refine State.tskTick_kept (hm.sub rfl) ?_
      exact h0
    · exact h0

theorem State.deliverAll_kept {m : Nat} {s0 : State} {a0} {a1} (hm : Sub 248489628897304 m) (h0 : Kept m s0 a0) : Kept m s0 (State.deliverAll a0 a1) := by
  unfold State.deliverAll
  extract_lets -merge -useContext +onlyGivenNames s11
  have k_s11 : Kept m s0 s11 := by
    unfold s11
    refine kept_foldl ?_ ?_
    · exact h0
    · intro x4 y2 k3
      refine kept_foldl ?_ ?_
      · exact k3
      · intro x7 y5 k6
        refine State.deliver_kept (hm.sub rfl) ?_
        exact k6
  clear_value s11
  refine kept_foldl ?_ ?_
  · exact k_s11
  · intro x10 y8 k9
    extract_lets -merge -useContext +onlyGivenNames ctl11
    try clear_value ctl11
    extract_lets -merge -useContext +onlyGivenNames s212
    have k_s212 : Kept m s0 s212 := by
      unfold s212
      refine kept_ite ?_ ?_
      · refine State.fireTpo_kept (hm.sub rfl) ?_
        exact k9
      · exact k9
    clear_value s212
    refine kept_ite ?_ ?_
    · refine State.event_kept (hm.sub rfl) ?_
      exact k_s212
    · exact k_s212

theorem State.compare_kept {m : Nat} {s0 : State} {a0} (hm : Sub 248498218831896 m) (h0 : Kept m s0 a0) : Kept m s0 (State.compare a0) := by
  unfold State.compare
  split
  · rename_i z1 z2 e3
    have k4 : Kept m s0 z1 := by
      refine kept_pair_fst e3 ?_
      refine fireAll_kept (hm.sub rfl) ?_
      exact h0
    refine State.deliverAll_kept (hm.sub rfl) ?_
    exact k4

theorem execCompareFire_kept {m : Nat} {a0} {a1} {a2} {t : State} (hm : Sub 248498218831900 m) (h : execCompareFire a0 a1 a2 = .next t) : Kept m a2 t := by
  rw [live_next h]
  have h2 : Kept m a2 a2 := kept_refl
  refine State.compare_kept (hm.sub rfl) ?_
  refine kept_now (hm.bit rfl) ?_
  exact h2

theorem State.stampEdge_kept {m : Nat} {s0 : State} {a0} {a1} {a2} (hm : Sub 70377334636568 m) (h0 : Kept m s0 a0) : Kept m s0 (State.stampEdge a0 a1 a2) := by
  unfold State.stampEdge
  extract_lets -merge -useContext +onlyGivenNames cfg1
  try clear_value cfg1
  extract_lets -merge -useContext +onlyGivenNames d2
  try clear_value d2
  extract_lets -merge -useContext +onlyGivenNames n3
  try clear_value n3
  refine kept_ite ?_ ?_
  · refine State.setTdc_kept (hm.sub rfl) ?_
    exact h0
  · extract_lets -merge -useContext +onlyGivenNames d14
    try clear_value d14
    extract_lets -merge -useContext +onlyGivenNames close5
    try clear_value close5
    refine kept_ite ?_ ?_
    · refine State.bump_kept (hm.sub rfl) (show _ / 1048576 % 32 = 1 by unfold Reg.TB_TDCkDROP; omega) (hm.bit rfl) ?_
      refine State.setTdc_kept (hm.sub rfl) ?_
      exact h0
    · refine kept_ite ?_ ?_
      · refine State.raise_kept (hm.sub rfl) rfl (hm.bit rfl) ?_
        refine State.bump_kept (hm.sub rfl) (show _ / 1048576 % 32 = 1 by unfold Reg.TB_TDCkDROP; omega) (hm.bit rfl) ?_
        refine State.setTdc_kept (hm.sub rfl) ?_
        exact h0
      · extract_lets -merge -useContext +onlyGivenNames y6
        try clear_value y6
        extract_lets -merge -useContext +onlyGivenNames e7
        try clear_value e7
        refine State.setTdc_kept (hm.sub rfl) ?_
        exact h0

theorem State.tdcEdge_kept {m : Nat} {s0 : State} {a0} {a1} {a2} {a3} (hm : Sub 70377334669336 m) (h0 : Kept m s0 a0) : Kept m s0 (State.tdcEdge a0 a1 a2 a3) := by
  unfold State.tdcEdge
  extract_lets -merge -useContext +onlyGivenNames cfg1
  try clear_value cfg1
  refine kept_ite ?_ ?_
  · exact h0
  · extract_lets -merge -useContext +onlyGivenNames s12
    have k_s12 : Kept m s0 s12 := by
      unfold s12
      refine State.stampEdge_kept (hm.sub rfl) ?_
      exact h0
    clear_value s12
    refine kept_ite ?_ ?_
    · refine State.capSend_kept (hm.sub rfl) ?_
      exact k_s12
    · exact k_s12

theorem execTdcEdge_kept {m : Nat} {a0} {a1} {a2} {a3} {a4} {t : State} (hm : Sub 70377334669340 m) (h : execTdcEdge a0 a1 a2 a3 a4 = .next t) : Kept m a4 t := by
  rw [liveAt_next h]
  have h4 : ∀ n, Kept m a4 (a4.advanceNs n) := fun _ => State.advanceNs_kept (hm.sub rfl) kept_refl
  refine kept_ite ?_ ?_
  · refine State.tdcEdge_kept (hm.sub rfl) ?_
    exact (h4 _)
  · exact (h4 _)

theorem execHoldoverUpdate_kept {m : Nat} {a0} {a1} {a2} {t : State} (hm : Sub 8589934612 m) (h : execHoldoverUpdate a0 a1 a2 = .next t) : Kept m a2 t := by
  rw [liveAt_next h]
  have h2 : ∀ n, Kept m a2 (a2.advanceNs n) := fun _ => State.advanceNs_kept (hm.sub rfl) kept_refl
  refine State.holdUpdate_kept (hm.sub rfl) ?_
  exact (h2 _)


end Sys2Proof.Machine
end

