-- ==== Sys2Proof/Laws/KeptFrames.lean ====
section
/-!
SUPPORT. What each operation of Machine/Frames.lean may change: one lemma per operation, its mask of parts and register blocks in `hm`.
-/
namespace Sys2Proof.Machine

theorem execC37DataFrame_kept {m : Nat} {a0} {a1} {a2} {a3} {t : State} (hm : Sub 968498016257711 m) (h : execC37DataFrame a0 a1 a2 a3 = .next t) : Kept m a3 t := by
  rw [liveAt_next h]
  have h3 : ∀ n, Kept m a3 (a3.advanceNs n) := fun _ => State.advanceNs_kept (hm.sub rfl) kept_refl
  refine State.followDigests_kept (hm.sub rfl) ?_
  refine State.parse_kept (hm.sub rfl) ?_ ?_
  · exact (h3 _)
  · intro y1 y2 y3 k4
    refine kept_ite ?_ ?_
    · refine State.cacheErr_kept (hm.sub rfl) ?_
      exact k4
    · refine State.c37_kept (hm.sub rfl) ?_
      exact k4

theorem execRsvSpdu_kept {m : Nat} {a0} {a1} {a2} {a3} {a4} {t : State} (hm : Sub 968498016257711 m) (h : execRsvSpdu a0 a1 a2 a3 a4 = .next t) : Kept m a4 t := by
  rw [liveAt_next h]
  have h4 : ∀ n, Kept m a4 (a4.advanceNs n) := fun _ => State.advanceNs_kept (hm.sub rfl) kept_refl
  refine kept_ite ?_ ?_
  · exact (h4 _)
  · refine State.followDigests_kept (hm.sub rfl) ?_
    refine State.parse_kept (hm.sub rfl) ?_ ?_
    · exact (h4 _)
    · intro y1 y2 y3 k4
      refine kept_ite ?_ ?_
      · refine State.cacheErr_kept (hm.sub rfl) ?_
        exact k4
      · refine State.rsv_kept (hm.sub rfl) ?_
        exact k4

theorem execFirmwarePathFrame_kept {m : Nat} {a0} {a1} {a2} {t : State} (hm : Sub 968498016257775 m) (h : execFirmwarePathFrame a0 a1 a2 = .next t) : Kept m a2 t := by
  rw [liveAt_next h]
  have h2 : ∀ n, Kept m a2 (a2.advanceNs n) := fun _ => State.advanceNs_kept (hm.sub rfl) kept_refl
  refine State.followDigests_kept (hm.sub rfl) ?_
  split
  · refine State.fwFrame_kept (hm.sub rfl) ?_
    exact (h2 _)
  · refine State.c37_kept (hm.sub rfl) ?_
    refine State.bump_kept (hm.sub rfl) rfl (hm.bit rfl) ?_
    exact (h2 _)

theorem execLocalPhasorPlace_kept {m : Nat} {a0} {a1} {a2} {t : State} (hm : Sub 972861703030415 m) (h : execLocalPhasorPlace a0 a1 a2 = .next t) : Kept m a2 t := by
  rw [liveAt_next h]
  have h2 : ∀ n, Kept m a2 (a2.advanceNs n) := fun _ => State.advanceNs_kept (hm.sub rfl) kept_refl
  refine kept_ite ?_ ?_
  · refine State.followDigests_kept (hm.sub rfl) ?_
    refine State.placeLocal_kept (hm.sub rfl) ?_
    exact (h2 _)
  · exact (h2 _)


end Sys2Proof.Machine
end

