-- ==== Sys2Proof/Laws/KeptModes.lean ====
section
/-!
SUPPORT. What each operation of Machine/Modes.lean may change: one lemma per operation, its mask of parts and register blocks in `hm`.
-/
namespace Sys2Proof.Machine

theorem State.setRole_kept {m : Nat} {s0 : State} {a0} {a1} (hm : Sub 70368745750536 m) (h0 : Kept m s0 a0) : Kept m s0 (State.setRole a0 a1) := by
  unfold State.setRole
  refine kept_ite ?_ ?_
  · exact h0
  · extract_lets -merge -useContext +onlyGivenNames s11
    try clear_value s11
    extract_lets -merge -useContext +onlyGivenNames s12
    have k_s12 : Kept m s0 s12 := by
      unfold s12
      refine kept_chd (hm.bit rfl) ?_
      exact h0
    clear_value s12
    refine kept_ite ?_ ?_
    · refine State.event_kept (hm.sub rfl) ?_
      exact k_s12
    · exact k_s12

theorem State.enterWith_kept {m : Nat} {s0 : State} {a0} {a1} {a2} {a3} (hm : Sub 946907240790953 m) (h0 : Kept m s0 a0) (h3 : ∀ y0, Kept m s0 y0 → Kept m s0 (a3 y0)) : Kept m s0 (State.enterWith a0 a1 a2 a3) := by
  unfold State.enterWith
  extract_lets -merge -useContext +onlyGivenNames old1
  try clear_value old1
  extract_lets -merge -useContext +onlyGivenNames s02
  have k_s02 : Kept m s0 s02 := by
    unfold s02
    refine kept_ite ?_ ?_
    · refine State.flush_kept (hm.sub rfl) ?_
      refine State.meterSaveNow_kept (hm.sub rfl) ?_
      exact h0
    · exact h0
  clear_value s02
  extract_lets -merge -useContext +onlyGivenNames s13
  have k_s13 : Kept m s0 s13 := by
    unfold s13
    refine State.withMuting_kept (hm.sub rfl) ?_ ?_
    · exact k_s02
    · intro y4 k5
      refine State.setMode_kept (hm.sub rfl) ?_
      refine h3 _ ?_
      exact k5
  clear_value s13
  extract_lets -merge -useContext +onlyGivenNames s26
  have k_s26 : Kept m s0 s26 := by
    unfold s26
    refine kept_ite ?_ ?_
    · refine State.discardAll_kept (hm.sub rfl) ?_
      exact k_s13
    · exact k_s13
  clear_value s26
  extract_lets -merge -useContext +onlyGivenNames s37
  have k_s37 : Kept m s0 s37 := by
    unfold s37
    refine kept_ite ?_ ?_
    · refine State.mtrCheck_kept (hm.sub rfl) ?_
      refine State.phCheck_kept (hm.sub rfl) ?_
      exact k_s26
    · exact k_s26
  clear_value s37
  extract_lets -merge -useContext +onlyGivenNames s48
  have k_s48 : Kept m s0 s48 := by
    unfold s48
    refine kept_ite ?_ ?_
    · refine State.fltStop_kept (hm.sub rfl) ?_
      refine State.afeGate_kept (hm.sub rfl) ?_
      exact k_s37
    · exact k_s37
  clear_value s48
  extract_lets -merge -useContext +onlyGivenNames s59
  have k_s59 : Kept m s0 s59 := by
    unfold s59
    refine kept_ite ?_ ?_
    · refine State.restartModulators_kept (hm.sub rfl) ?_
      exact k_s48
    · exact k_s48
  clear_value s59
  extract_lets -merge -useContext +onlyGivenNames s610
  have k_s610 : Kept m s0 s610 := by
    unfold s610
    refine State.mtrSpan_kept (hm.sub rfl) ?_
    refine State.capMode_kept (hm.sub rfl) ?_
    exact k_s59
  clear_value s610
  extract_lets -merge -useContext +onlyGivenNames s711
  have k_s711 : Kept m s0 s711 := by
    unfold s711
    refine kept_ite ?_ ?_
    · exact k_s610
    · refine State.abandonPass_kept (hm.sub rfl) ?_
      exact k_s610
  clear_value s711
  extract_lets -merge -useContext +onlyGivenNames s812
  have k_s812 : Kept m s0 s812 := by
    unfold s812
    refine kept_ite ?_ ?_
    · refine State.loseSync_kept (hm.sub rfl) ?_
      exact k_s711
    · exact k_s711
  clear_value s812
  extract_lets -merge -useContext +onlyGivenNames s913
  have k_s913 : Kept m s0 s913 := by
    unfold s913
    refine kept_ite ?_ ?_
    · refine State.setRole_kept (hm.sub rfl) ?_
      exact k_s812
    · exact k_s812
  clear_value s913
  refine kept_sys (hm.bit rfl) ?_
  exact k_s913

theorem State.enterMode_kept {m : Nat} {s0 : State} {a0} {a1} {a2} (hm : Sub 946907240790953 m) (h0 : Kept m s0 a0) : Kept m s0 (State.enterMode a0 a1 a2) := by
  unfold State.enterMode
  refine State.enterWith_kept (hm.sub rfl) ?_ ?_
  · exact h0
  · intro y1 k2
    exact k2

theorem State.finishModeSet_kept {m : Nat} {s0 : State} {a0} {a1} {a2} (hm : Sub 633323011964936 m) (h0 : Kept m s0 a0) : Kept m s0 (State.finishModeSet a0 a1 a2) := by
  unfold State.finishModeSet
  split
  · refine State.complete_kept (hm.sub rfl) ?_
    refine kept_sys (hm.bit rfl) ?_
    exact h0
  · exact h0

theorem State.enterLockout_kept {m : Nat} {s0 : State} {a0} {a1} (hm : Sub 946907240790953 m) (h0 : Kept m s0 a0) : Kept m s0 (State.enterLockout a0 a1) := by
  unfold State.enterLockout
  refine kept_ite ?_ ?_
  · exact h0
  · refine State.finishModeSet_kept (hm.sub rfl) ?_
    refine State.raise_kept (hm.sub rfl) rfl (hm.bit rfl) ?_
    refine State.enterMode_kept (hm.sub rfl) ?_
    exact h0

theorem State.enterShadow_kept {m : Nat} {s0 : State} {a0} {a1} (hm : Sub 946907240790953 m) (h0 : Kept m s0 a0) : Kept m s0 (State.enterShadow a0 a1) := by
  unfold State.enterShadow
  extract_lets -merge -useContext +onlyGivenNames s11
  have k_s11 : Kept m s0 s11 := by
    unfold s11
    refine State.enterWith_kept (hm.sub rfl) ?_ ?_
    · exact h0
    · intro y2 k3
      refine State.setRole_kept (hm.sub rfl) ?_
      refine kept_chd (hm.bit rfl) ?_
      exact k3
  clear_value s11
  refine kept_ite ?_ ?_
  · refine State.chdSend_kept (hm.sub rfl) ?_
    exact k_s11
  · exact k_s11

theorem State.enterServing_kept {m : Nat} {s0 : State} {a0} {a1} (hm : Sub 946907240790953 m) (h0 : Kept m s0 a0) : Kept m s0 (State.enterServing a0 a1) := by
  unfold State.enterServing
  refine State.enterWith_kept (hm.sub rfl) ?_ ?_
  · exact h0
  · intro y1 k2
    refine kept_ite ?_ ?_
    · refine State.setRole_kept (hm.sub rfl) ?_
      refine kept_chd (hm.bit rfl) ?_
      exact k2
    · exact k2

theorem State.leaveSettle_kept {m : Nat} {s0 : State} {a0} {a1} (hm : Sub 946907240790953 m) (h0 : Kept m s0 a0) : Kept m s0 ((State.leaveSettle a0 a1).1) := by
  unfold State.leaveSettle
  refine kept_ite_fst ?_ ?_
  · refine kept_mkp_fst ?_
    refine State.enterShadow_kept (hm.sub rfl) ?_
    exact h0
  · refine kept_ite_fst ?_ ?_
    · refine kept_mkp_fst ?_
      refine kept_sys (hm.bit rfl) ?_
      exact h0
    · refine kept_mkp_fst ?_
      refine State.enterServing_kept (hm.sub rfl) ?_
      exact h0

theorem State.aonPut_kept {m : Nat} {s0 : State} {a0} {a1} {a2} (hm : Sub 8 m) (h0 : Kept m s0 a0) : Kept m s0 (State.aonPut a0 a1 a2) := by
  unfold State.aonPut
  refine kept_sys (hm.bit rfl) ?_
  exact h0

theorem State.askDormant_kept {m : Nat} {s0 : State} {a0} {a1} (hm : Sub 642119113392137 m) (h0 : Kept m s0 a0) : Kept m s0 (State.askDormant a0 a1) := by
  unfold State.askDormant
  extract_lets -merge -useContext +onlyGivenNames s11
  have k_s11 : Kept m s0 s11 := by
    unfold s11
    refine State.setFld_kept (hm.sub rfl) rfl (hm.bit rfl) ?_
    refine State.flush_kept (hm.sub rfl) ?_
    refine State.meterSaveNow_kept (hm.sub rfl) ?_
    exact h0
  clear_value s11
  extract_lets -merge -useContext +onlyGivenNames s22
  have k_s22 : Kept m s0 s22 := by
    unfold s22
    refine State.aonPut_kept (hm.sub rfl) ?_
    exact k_s11
  clear_value s22
  refine kept_sys (hm.bit rfl) ?_
  exact k_s22

theorem modeSetBody_kept {m : Nat} {s0 : State} {a0} {a1} {a2} (hm : Sub 9954106495531945 m) (h2 : Kept m s0 a2) : Kept m s0 ((modeSetBody a0 a1 a2).1) := by
  unfold modeSetBody
  refine kept_ite_fst ?_ ?_
  · refine kept_mkp_fst ?_
    exact h2
  · refine kept_ite_fst ?_ ?_
    · refine kept_mkp_fst ?_
      exact h2
    · refine kept_ite_fst ?_ ?_
      · refine kept_mkp_fst ?_
        refine State.raise_kept (hm.sub rfl) rfl (hm.bit rfl) ?_
        exact h2
      · split
        · refine kept_mkp_fst ?_
          refine State.askDormant_kept (hm.sub rfl) ?_
          exact h2
        · split
          · rename_i z1 z2 e3
            have k4 : Kept m s0 z1 := by
              refine kept_pair_fst e3 ?_
              refine State.leaveSettle_kept (hm.sub rfl) ?_
              exact h2
            refine kept_ite_fst ?_ ?_
            · refine kept_mkp_fst ?_
              exact k4
            · refine kept_mkp_fst ?_
              refine kept_sys (hm.bit rfl) ?_
              exact k4
        · refine kept_mkp_fst ?_
          refine State.enterShadow_kept (hm.sub rfl) ?_
          exact h2
        · refine kept_mkp_fst ?_
          refine State.enterWith_kept (hm.sub rfl) ?_ ?_
          · exact h2
          · intro y5 k6
            refine State.setRole_kept (hm.sub rfl) ?_
            exact k6
        · refine kept_mkp_fst ?_
          refine State.enterMode_kept (hm.sub rfl) ?_
          exact h2

theorem State.modeSet_kept {m : Nat} {s0 : State} {a0} {a1} {a2} (hm : Sub 9954106495531945 m) (h0 : Kept m s0 a0) : Kept m s0 (State.modeSet a0 a1 a2) := by
  unfold State.modeSet
  split
  · refine State.hostCmd_kept (hm.sub rfl) ?_ ?_
    · exact h0
    · intro y1 k2
      refine modeSetBody_kept (hm.sub rfl) ?_
      exact k2
  · refine State.hostCmd_kept (hm.sub rfl) ?_ ?_
    · exact h0
    · intro y3 k4
      refine kept_mkp_fst ?_
      exact k4

theorem execModeSet_kept {m : Nat} {a0} {a1} {a2} {t : State} (hm : Sub 9954106495531945 m) (h : execModeSet a0 a1 a2 = .next t) : Kept m a2 t := by
  rw [live_next h]
  have h2 : Kept m a2 a2 := kept_refl
  refine State.modeSet_kept (hm.sub rfl) ?_
  exact h2

theorem execSettleExit_kept {m : Nat} {a0} {a1} {t : State} (hm : Sub 946907240790957 m) (h : execSettleExit a0 a1 = .next t) : Kept m a1 t := by
  rw [liveAt_next h]
  have h1 : ∀ n, Kept m a1 (a1.advanceNs n) := fun _ => State.advanceNs_kept (hm.sub rfl) kept_refl
  refine kept_ite ?_ ?_
  · refine State.leaveSettle_kept (hm.sub rfl) ?_
    exact (h1 _)
  · exact (h1 _)

theorem execSettlemaxExpiry_kept {m : Nat} {a0} {a1} {t : State} (hm : Sub 946907240790957 m) (h : execSettlemaxExpiry a0 a1 = .next t) : Kept m a1 t := by
  rw [liveAt_next h]
  have h1 : ∀ n, Kept m a1 (a1.advanceNs n) := fun _ => State.advanceNs_kept (hm.sub rfl) kept_refl
  refine kept_ite ?_ ?_
  · extract_lets -merge -useContext +onlyGivenNames s11
    try clear_value s11
    extract_lets -merge -useContext +onlyGivenNames s12
    have k_s12 : Kept m a1 s12 := by
      unfold s12
      refine kept_sys (hm.bit rfl) ?_
      exact (h1 _)
    clear_value s12
    refine State.raise_kept (hm.sub rfl) rfl (hm.bit rfl) ?_
    refine State.enterMode_kept (hm.sub rfl) ?_
    exact k_s12
  · exact (h1 _)

theorem State.endSearch_kept {m : Nat} {s0 : State} {a0} (hm : Sub 946907240790953 m) (h0 : Kept m s0 a0) : Kept m s0 (State.endSearch a0) := by
  unfold State.endSearch
  split
  · exact h0
  · extract_lets -merge -useContext +onlyGivenNames cause1
    try clear_value cause1
    refine kept_ite ?_ ?_
    · refine State.finishModeSet_kept (hm.sub rfl) ?_
      refine State.enterShadow_kept (hm.sub rfl) ?_
      exact h0
    · refine kept_ite ?_ ?_
      · refine State.finishModeSet_kept (hm.sub rfl) ?_
        refine State.enterServing_kept (hm.sub rfl) ?_
        exact h0
      · exact h0

theorem execActivePartnerTimeout_kept {m : Nat} {a0} {a1} {t : State} (hm : Sub 946907240790957 m) (h : execActivePartnerTimeout a0 a1 = .next t) : Kept m a1 t := by
  rw [liveAt_next h]
  have h1 : ∀ n, Kept m a1 (a1.advanceNs n) := fun _ => State.advanceNs_kept (hm.sub rfl) kept_refl
  refine State.endSearch_kept (hm.sub rfl) ?_
  exact (h1 _)

theorem State.sourceLost_kept {m : Nat} {s0 : State} {a0} (hm : Sub 946915830725561 m) (h0 : Kept m s0 a0) : Kept m s0 (State.sourceLost a0) := by
  unfold State.sourceLost
  refine kept_ite ?_ ?_
  · exact h0
  · extract_lets -merge -useContext +onlyGivenNames x1
    try clear_value x1
    extract_lets -merge -useContext +onlyGivenNames s12
    try clear_value s12
    extract_lets -merge -useContext +onlyGivenNames s13
    have k_s13 : Kept m s0 s13 := by
      unfold s13
      refine State.setFld_kept (hm.sub rfl) rfl (hm.bit rfl) ?_
      refine kept_tb (hm.bit rfl) ?_
      exact h0
    clear_value s13
    refine kept_ite ?_ ?_
    · refine State.enterMode_kept (hm.sub rfl) ?_
      refine kept_sys (hm.bit rfl) ?_
      exact k_s13
    · exact k_s13

theorem execTimeSourceLost_kept {m : Nat} {a0} {a1} {t : State} (hm : Sub 946915830725565 m) (h : execTimeSourceLost a0 a1 = .next t) : Kept m a1 t := by
  rw [liveAt_next h]
  have h1 : ∀ n, Kept m a1 (a1.advanceNs n) := fun _ => State.advanceNs_kept (hm.sub rfl) kept_refl
  refine State.sourceLost_kept (hm.sub rfl) ?_
  exact (h1 _)

theorem State.askStep_kept {m : Nat} {s0 : State} {a0} {a1} (hm : Sub 70377334636568 m) (h0 : Kept m s0 a0) : Kept m s0 (State.askStep a0 a1) := by
  unfold State.askStep
  refine kept_ite ?_ ?_
  · refine State.writeStepcmd_kept (hm.sub rfl) ?_
    refine State.setVal_kept (hm.sub rfl) rfl (hm.bit rfl) ?_
    exact h0
  · extract_lets -merge -useContext +onlyGivenNames t1
    try clear_value t1
    refine State.writeStepcmd_kept (hm.sub rfl) ?_
    refine State.setVal_kept (hm.sub rfl) rfl (hm.bit rfl) ?_
    refine State.setVal_kept (hm.sub rfl) rfl (hm.bit rfl) ?_
    refine State.setVal_kept (hm.sub rfl) rfl (hm.bit rfl) ?_
    exact h0

theorem State.sourceBack_kept {m : Nat} {s0 : State} {a0} {a1} (hm : Sub 946915830725561 m) (h0 : Kept m s0 a0) : Kept m s0 (State.sourceBack a0 a1) := by
  unfold State.sourceBack
  extract_lets -merge -useContext +onlyGivenNames s11
  try clear_value s11
  extract_lets -merge -useContext +onlyGivenNames s12
  have k_s12 : Kept m s0 s12 := by
    unfold s12
    refine State.setFld_kept (hm.sub rfl) rfl (hm.bit rfl) ?_
    refine kept_tb (hm.bit rfl) ?_
    exact h0
  clear_value s12
  refine kept_ite ?_ ?_
  · exact h0
  · refine kept_ite ?_ ?_
    · refine kept_ite ?_ ?_
      · refine State.enterMode_kept (hm.sub rfl) ?_
        exact k_s12
      · exact k_s12
    · refine kept_ite ?_ ?_
      · refine State.askStep_kept (hm.sub rfl) ?_
        refine State.enterMode_kept (hm.sub rfl) ?_
        exact k_s12
      · refine kept_ite ?_ ?_
        · refine State.askStep_kept (hm.sub rfl) ?_
          exact k_s12
        · exact k_s12

theorem execTimeSourceReturn_kept {m : Nat} {a0} {a1} {a2} {t : State} (hm : Sub 946915830725565 m) (h : execTimeSourceReturn a0 a1 a2 = .next t) : Kept m a2 t := by
  rw [liveAt_next h]
  have h2 : ∀ n, Kept m a2 (a2.advanceNs n) := fun _ => State.advanceNs_kept (hm.sub rfl) kept_refl
  refine State.sourceBack_kept (hm.sub rfl) ?_
  exact (h2 _)

theorem execLockout_kept {m : Nat} {a0} {a1} {t : State} (hm : Sub 946907240790957 m) (h : execLockout a0 a1 = .next t) : Kept m a1 t := by
  rw [liveAt_next h]
  have h1 : ∀ n, Kept m a1 (a1.advanceNs n) := fun _ => State.advanceNs_kept (hm.sub rfl) kept_refl
  refine State.enterLockout_kept (hm.sub rfl) ?_
  exact (h1 _)

theorem execTileFault_kept {m : Nat} {a0} {a1} {a2} {t : State} (hm : Sub 982091612945325 m) (h : execTileFault a0 a1 a2 = .next t) : Kept m a2 t := by
  rw [liveAt_next h]
  have h2 : ∀ n, Kept m a2 (a2.advanceNs n) := fun _ => State.advanceNs_kept (hm.sub rfl) kept_refl
  split
  · refine kept_ite ?_ ?_
    · exact (h2 _)
    · refine State.enterLockout_kept (hm.sub rfl) ?_
      refine State.stopTile_kept (hm.sub rfl) ?_
      exact (h2 _)
  · exact (h2 _)


end Sys2Proof.Machine
end

