-- ==== Sys2Proof/Laws/KeptPower.lean ====
section
/-!
SUPPORT. What each operation of Machine/Power.lean may change: one lemma per operation, its mask of parts and register blocks in `hm`.
-/
namespace Sys2Proof.Machine

theorem State.checkWindow_kept {m : Nat} {s0 : State} {a0} (hm : Sub 8 m) (h0 : Kept m s0 a0) : Kept m s0 (State.checkWindow a0) := by
  unfold State.checkWindow
  extract_lets -merge -useContext +onlyGivenNames y1
  try clear_value y1
  extract_lets -merge -useContext +onlyGivenNames ks2
  try clear_value ks2
  extract_lets -merge -useContext +onlyGivenNames asks3
  try clear_value asks3
  refine kept_ite ?_ ?_
  · refine kept_sys (hm.bit rfl) ?_
    exact h0
  · exact h0

theorem State.cancelDormant_kept {m : Nat} {s0 : State} {a0} (hm : Sub 70373039669256 m) (h0 : Kept m s0 a0) : Kept m s0 (State.cancelDormant a0) := by
  unfold State.cancelDormant
  refine kept_ite ?_ ?_
  · extract_lets -merge -useContext +onlyGivenNames s11
    have k_s11 : Kept m s0 s11 := by
      unfold s11
      refine State.setFld_kept (hm.sub rfl) rfl (hm.bit rfl) ?_
      exact h0
    clear_value s11
    extract_lets -merge -useContext +onlyGivenNames v2
    try clear_value v2
    extract_lets -merge -useContext +onlyGivenNames pend3
    try clear_value pend3
    extract_lets -merge -useContext +onlyGivenNames tr4
    try clear_value tr4
    extract_lets -merge -useContext +onlyGivenNames s25
    try clear_value s25
    extract_lets -merge -useContext +onlyGivenNames s26
    have k_s26 : Kept m s0 s26 := by
      unfold s26
      refine kept_sys (hm.bit rfl) ?_
      exact k_s11
    clear_value s26
    refine State.raise_kept (hm.sub rfl) rfl (hm.bit rfl) ?_
    exact k_s26
  · exact h0

theorem execWait_kept {m : Nat} {a0} {a1} {a2} {t : State} (hm : Sub 70373039800328 m) (h : execWait a0 a1 a2 = .next t) : Kept m a2 t := by
  rw [live_next h]
  have h2 : Kept m a2 a2 := kept_refl
  extract_lets -merge -useContext +onlyGivenNames c1
  try clear_value c1
  extract_lets -merge -useContext +onlyGivenNames m2
  try clear_value m2
  extract_lets -merge -useContext +onlyGivenNames s13
  have k_s13 : Kept m a2 s13 := by
    unfold s13
    refine State.setCore_kept (hm.sub rfl) ?_
    exact h2
  clear_value s13
  refine kept_ite ?_ ?_
  · refine State.cancelDormant_kept (hm.sub rfl) ?_
    exact k_s13
  · refine State.checkWindow_kept (hm.sub rfl) ?_
    refine State.refreshSleep_kept (hm.sub rfl) ?_
    refine State.setCore_kept (hm.sub rfl) ?_
    exact k_s13

theorem State.wakeCore_kept {m : Nat} {s0 : State} {a0} {a1} (hm : Sub 655360 m) (h0 : Kept m s0 a0) : Kept m s0 (State.wakeCore a0 a1) := by
  unfold State.wakeCore
  extract_lets -merge -useContext +onlyGivenNames c1
  try clear_value c1
  split
  · exact h0
  · extract_lets -merge -useContext +onlyGivenNames s22
    have k_s22 : Kept m s0 s22 := by
      unfold s22
      refine State.refreshSleep_kept (hm.sub rfl) ?_
      refine State.setCore_kept (hm.sub rfl) ?_
      exact h0
    clear_value s22
    refine kept_ite ?_ ?_
    · refine State.takeExc_kept (hm.sub rfl) ?_
      refine State.setCore_kept (hm.sub rfl) ?_
      exact k_s22
    · exact k_s22

theorem execWarmStart_kept {m : Nat} {a0} {a1} {t : State} (hm : Sub 70373039800328 m) (h : execWarmStart a0 a1 = .next t) : Kept m a1 t := by
  rw [live_next h]
  have h1 : Kept m a1 a1 := kept_refl
  refine kept_ite ?_ ?_
  · exact h1
  · split
    · refine kept_ite ?_ ?_
      · refine State.cancelDormant_kept (hm.sub rfl) ?_
        refine State.wakeCore_kept (hm.sub rfl) ?_
        exact h1
      · exact h1
    · exact h1

theorem execAonWriteArrives_kept {m : Nat} {a0} {a1} {t : State} (hm : Sub 633323011964936 m) (h : execAonWriteArrives a0 a1 = .next t) : Kept m a1 t := by
  rw [live_next h]
  have h1 : Kept m a1 a1 := kept_refl
  split
  · exact h1
  · extract_lets -merge -useContext +onlyGivenNames s11
    try clear_value s11
    extract_lets -merge -useContext +onlyGivenNames s12
    have k_s12 : Kept m a1 s12 := by
      unfold s12
      refine kept_sys (hm.bit rfl) ?_
      exact h1
    clear_value s12
    extract_lets -merge -useContext +onlyGivenNames s23
    have k_s23 : Kept m a1 s23 := by
      unfold s23
      refine kept_ite ?_ ?_
      · refine State.finishModeSet_kept (hm.sub rfl) ?_
        exact k_s12
      · exact k_s12
    clear_value s23
    extract_lets -merge -useContext +onlyGivenNames s34
    try clear_value s34
    extract_lets -merge -useContext +onlyGivenNames s35
    have k_s35 : Kept m a1 s35 := by
      unfold s35
      refine kept_ite ?_ ?_
      · refine kept_sys (hm.bit rfl) ?_
        exact k_s23
      · exact k_s23
    clear_value s35
    refine State.checkWindow_kept (hm.sub rfl) ?_
    exact k_s35

theorem execDormantEntry_kept {m : Nat} {a0} {a1} {t : State} (hm : Sub 946907240790957 m) (h : execDormantEntry a0 a1 = .next t) : Kept m a1 t := by
  rw [liveAt_next h]
  have h1 : ∀ n, Kept m a1 (a1.advanceNs n) := fun _ => State.advanceNs_kept (hm.sub rfl) kept_refl
  split
  · exact (h1 _)
  · refine kept_ite ?_ ?_
    · extract_lets -merge -useContext +onlyGivenNames s11
      try clear_value s11
      extract_lets -merge -useContext +onlyGivenNames s12
      have k_s12 : Kept m a1 s12 := by
        unfold s12
        refine kept_sys (hm.bit rfl) ?_
        exact (h1 _)
      clear_value s12
      refine State.enterMode_kept (hm.sub rfl) ?_
      exact k_s12
    · exact (h1 _)

theorem execI2cAddressMatch_kept {m : Nat} {a0} {a1} {a2} {t : State} (hm : Sub 70373039669260 m) (h : execI2cAddressMatch a0 a1 a2 = .next t) : Kept m a2 t := by
  rw [liveAt_next h]
  have h2 : ∀ n, Kept m a2 (a2.advanceNs n) := fun _ => State.advanceNs_kept (hm.sub rfl) kept_refl
  refine kept_ite ?_ ?_
  · exact (h2 _)
  · refine kept_ite ?_ ?_
    · refine kept_sys (hm.bit rfl) ?_
      exact (h2 _)
    · refine kept_ite ?_ ?_
      · refine State.raise_kept (hm.sub rfl) rfl (hm.bit rfl) ?_
        refine State.bump_kept (hm.sub rfl) rfl (hm.bit rfl) ?_
        exact (h2 _)
      · exact (h2 _)

theorem execWakeN_kept {m : Nat} {a0} {a1} {a2} {t : State} (hm : Sub 70368744701964 m) (h : execWakeN a0 a1 a2 = .next t) : Kept m a2 t := by
  rw [liveAt_next h]
  have h2 : ∀ n, Kept m a2 (a2.advanceNs n) := fun _ => State.advanceNs_kept (hm.sub rfl) kept_refl
  extract_lets -merge -useContext +onlyGivenNames falling1
  try clear_value falling1
  extract_lets -merge -useContext +onlyGivenNames s12
  try clear_value s12
  extract_lets -merge -useContext +onlyGivenNames s13
  have k_s13 : Kept m a2 s13 := by
    unfold s13
    refine kept_sys (hm.bit rfl) ?_
    exact (h2 _)
  clear_value s13
  refine kept_ite ?_ ?_
  · refine State.event_kept (hm.sub rfl) ?_
    exact k_s13
  · exact k_s13

theorem execAonAlarm_kept {m : Nat} {a0} {a1} {a2} {t : State} (hm : Sub 12 m) (h : execAonAlarm a0 a1 a2 = .next t) : Kept m a2 t := by
  rw [liveAt_next h]
  have h2 : ∀ n, Kept m a2 (a2.advanceNs n) := fun _ => State.advanceNs_kept (hm.sub rfl) kept_refl
  extract_lets -merge -useContext +onlyGivenNames y1
  try clear_value y1
  extract_lets -merge -useContext +onlyGivenNames alm2
  try clear_value alm2
  extract_lets -merge -useContext +onlyGivenNames c3
  try clear_value c3
  extract_lets -merge -useContext +onlyGivenNames hit4
  try clear_value hit4
  refine kept_sys (hm.bit rfl) ?_
  exact (h2 _)

theorem State.wakeTimers_kept {m : Nat} {s0 : State} {a0} {a1} (hm : Sub 524296 m) (h0 : Kept m s0 a0) : Kept m s0 (State.wakeTimers a0 a1) := by
  unfold State.wakeTimers
  extract_lets -merge -useContext +onlyGivenNames e1
  try clear_value e1
  extract_lets -merge -useContext +onlyGivenNames e2
  try clear_value e2
  extract_lets -merge -useContext +onlyGivenNames s13
  try clear_value s13
  extract_lets -merge -useContext +onlyGivenNames s14
  have k_s14 : Kept m s0 s14 := by
    unfold s14
    refine kept_mk ?_ (.inr rfl) (.inl (hm.bit rfl)) (.inr rfl) (.inr rfl) (.inr rfl) (.inr rfl) (.inr rfl) (.inr rfl) (.inr rfl) (.inr rfl) (.inr rfl) (.inr rfl) (.inr rfl) (.inr rfl) (.inr rfl) (.inr rfl) (.inr rfl) (.inl (hm.bit rfl)) (.inr rfl) (.inr rfl) (.inr rfl) (.inr rfl) (.inr rfl) (.inr rfl) (.inr rfl) (.inr rfl)
    exact h0
  clear_value s14
  refine kept_foldl ?_ ?_
  · exact k_s14
  · intro x7 y5 k6
    extract_lets -merge -useContext +onlyGivenNames t8
    try clear_value t8
    split
    · refine State.setTarget_kept (hm.sub rfl) ?_
      exact k6
    · exact k6

theorem State.takeOffAccesses_kept {m : Nat} {s0 : State} {a0} (hm : Sub 4573968372072456 m) (h0 : Kept m s0 a0) : Kept m s0 (State.takeOffAccesses a0) := by
  unfold State.takeOffAccesses
  split
  · exact h0
  · extract_lets -merge -useContext +onlyGivenNames s11
    have k_s11 : Kept m s0 s11 := by
      unfold s11
      refine State.setVal_kept (hm.sub rfl) rfl (hm.bit rfl) ?_
      refine State.bumpBy_kept (hm.sub rfl) rfl (hm.bit rfl) ?_
      refine State.raise_kept (hm.sub rfl) rfl (hm.bit rfl) ?_
      exact h0
    clear_value s11
    extract_lets -merge -useContext +onlyGivenNames s22
    have k_s22 : Kept m s0 s22 := by
      unfold s22
      refine State.setVal_kept (hm.sub rfl) rfl (hm.bit rfl) ?_
      exact k_s11
    clear_value s22
    extract_lets -merge -useContext +onlyGivenNames x3
    have k_x3 : Kept m s0 x3 := by
      unfold x3
      refine State.event_kept (hm.sub rfl) ?_
      exact k_s22
    clear_value x3
    refine kept_sys (hm.bit rfl) ?_
    exact k_x3

theorem State.wakeUp_kept {m : Nat} {s0 : State} {a0} {a1} (hm : Sub 5450506868292521 m) (h0 : Kept m s0 a0) : Kept m s0 (State.wakeUp a0 a1) := by
  unfold State.wakeUp
  extract_lets -merge -useContext +onlyGivenNames edges1
  try clear_value edges1
  extract_lets -merge -useContext +onlyGivenNames s12
  have k_s12 : Kept m s0 s12 := by
    unfold s12
    refine State.enterMode_kept (hm.sub rfl) ?_
    refine State.wakeTimers_kept (hm.sub rfl) ?_
    exact h0
  clear_value s12
  extract_lets -merge -useContext +onlyGivenNames s23
  have k_s23 : Kept m s0 s23 := by
    unfold s23
    refine State.event_kept (hm.sub rfl) ?_
    refine State.bump_kept (hm.sub rfl) rfl (hm.bit rfl) ?_
    refine State.setVal_kept (hm.sub rfl) rfl (hm.bit rfl) ?_
    exact k_s12
  clear_value s23
  extract_lets -merge -useContext +onlyGivenNames s34
  try clear_value s34
  extract_lets -merge -useContext +onlyGivenNames s35
  have k_s35 : Kept m s0 s35 := by
    unfold s35
    refine kept_sys (hm.bit rfl) ?_
    exact k_s23
  clear_value s35
  extract_lets -merge -useContext +onlyGivenNames s46
  have k_s46 : Kept m s0 s46 := by
    unfold s46
    refine State.takeOffAccesses_kept (hm.sub rfl) ?_
    refine kept_foldl ?_ ?_
    · exact k_s35
    · intro x9 y7 k8
      refine State.pendEvent_kept (hm.sub rfl) ?_
      exact k8
  clear_value s46
  extract_lets -merge -useContext +onlyGivenNames s510
  try clear_value s510
  extract_lets -merge -useContext +onlyGivenNames s511
  have k_s511 : Kept m s0 s511 := by
    unfold s511
    refine kept_ite ?_ ?_
    · refine State.event_kept (hm.sub rfl) ?_
      refine kept_hif (hm.bit rfl) ?_
      exact k_s46
    · exact k_s46
  clear_value s511
  refine kept_foldl ?_ ?_
  · exact k_s511
  · intro x14 y12 k13
    split
    · refine kept_ite ?_ ?_
      · refine State.wakeCore_kept (hm.sub rfl) ?_
        exact k13
      · exact k13
    · exact k13

theorem execWake_kept {m : Nat} {a0} {a1} {t : State} (hm : Sub 5450506868292525 m) (h : execWake a0 a1 = .next t) : Kept m a1 t := by
  rw [liveAt_next h]
  have h1 : ∀ n, Kept m a1 (a1.advanceNs n) := fun _ => State.advanceNs_kept (hm.sub rfl) kept_refl
  refine kept_ite ?_ ?_
  · refine State.wakeUp_kept (hm.sub rfl) ?_
    exact (h1 _)
  · exact (h1 _)

theorem State.deviceReset_kept {m : Nat} {s0 s : State} {c : ResetCause} (hm : Sub 18446744069448138749 m) (h : Kept m s0 s) : Kept m s0 (s.deviceReset c) := by
  have base : ∀ (t : State), t.regs = [] → t.devMem = [] → t.hostMem = s.hostMem → t.free = s.free → t.supplyOk = s.supplyOk → t.pending = s.pending → Kept m s0 t := by
    intro t hr hd hh hf hs hp
    exact
      { regs := fun a => .inl (hm.all rfl a)
        devMem := .inl (hm.bit rfl)
        hostMem := chg_trans h.hostMem (.inr hh)
        free := chg_trans h.free (.inr hf)
        pending := chg_trans h.pending (.inr hp)
        supplyOk := chg_trans h.supplyOk (.inr hs)
        wfRegs := fun _ => by rw [hr]; rfl
        wfDev := fun _ => by rw [hd]; rfl
        wfHost := fun w => by rw [hh]; exact h.wfHost w
        now := .inl (hm.bit rfl)
        sys := .inl (hm.bit rfl)
        tb := .inl (hm.bit rfl)
        eth := .inl (hm.bit rfl)
        ing := .inl (hm.bit rfl)
        snap := .inl (hm.bit rfl)
        topo := .inl (hm.bit rfl)
        det := .inl (hm.bit rfl)
        modal := .inl (hm.bit rfl)
        alm := .inl (hm.bit rfl)
        afe := .inl (hm.bit rfl)
        flt := .inl (hm.bit rfl)
        mtr := .inl (hm.bit rfl)
        cap := .inl (hm.bit rfl)
        lat := .inl (hm.bit rfl)
        cores := .inl (hm.bit rfl)
        tsk := .inl (hm.bit rfl)
        evc := .inl (hm.bit rfl)
        chd := .inl (hm.bit rfl)
        ldg := .inl (hm.bit rfl)
        key := .inl (hm.bit rfl)
        upd := .inl (hm.bit rfl)
        hif := .inl (hm.bit rfl) }
  unfold State.deviceReset
  refine kept_ite ?_ ?_
  · refine State.setVal_kept (hm.sub rfl) rfl (hm.bit rfl) ?_
    exact base _ rfl rfl rfl rfl rfl rfl
  · refine State.setVal_kept (hm.sub rfl) rfl (hm.bit rfl) ?_
    refine State.setVal_kept (hm.sub rfl) rfl (hm.bit rfl) ?_
    refine State.setVal_kept (hm.sub rfl) rfl (hm.bit rfl) ?_
    refine State.setVal_kept (hm.sub rfl) rfl (hm.bit rfl) ?_
    refine State.setVal_kept (hm.sub rfl) rfl (hm.bit rfl) ?_
    exact base _ rfl rfl rfl rfl rfl rfl

theorem execPowerOnReset_kept {m : Nat} {s t : State} (hm : Sub 18446744069481693181 m) (h : execPowerOnReset s = .next t) : Kept m s t := by
  unfold execPowerOnReset at h
  cases h
  exact kept_supplyOk (hm.bit rfl) (State.deviceReset_kept (hm.sub rfl) kept_refl)

theorem execResetPin_kept {m : Nat} {a0} {t : State} (hm : Sub 18446744069448138749 m) (h : execResetPin a0 = .next t) : Kept m a0 t := by
  rw [live_next h]
  have h0 : Kept m a0 a0 := kept_refl
  refine State.deviceReset_kept (hm.sub rfl) ?_
  exact h0

theorem State.writeRstcmd_kept {m : Nat} {s0 : State} {a0} {a1} (hm : Sub 18446744069448138749 m) (h0 : Kept m s0 a0) : Kept m s0 (State.writeRstcmd a0 a1) := by
  unfold State.writeRstcmd
  refine kept_ite ?_ ?_
  · refine State.cfgErr_kept (hm.sub rfl) rfl (hm.bit rfl) ?_
    exact h0
  · refine kept_ite ?_ ?_
    · refine State.deviceReset_kept (hm.sub rfl) ?_
      refine State.flush_kept (hm.sub rfl) ?_
      refine State.meterSaveNow_kept (hm.sub rfl) ?_
      exact h0
    · exact h0

theorem execDevrst_kept {m : Nat} {a0} {a1} {a2} {t : State} (hm : Sub 18446744069448138749 m) (h : execDevrst a0 a1 a2 = .next t) : Kept m a2 t := by
  rw [live_next h]
  have h2 : Kept m a2 a2 := kept_refl
  refine State.writeBy_kept (hm.sub rfl) ?_ ?_
  · exact h2
  · intro y1 k2
    refine State.writeRstcmd_kept (hm.sub rfl) ?_
    exact k2

theorem execWatchdogExpiry_kept {m : Nat} {a0} {a1} {t : State} (hm : Sub 18446744069448138749 m) (h : execWatchdogExpiry a0 a1 = .next t) : Kept m a1 t := by
  rw [liveAt_next h]
  have h1 : ∀ n, Kept m a1 (a1.advanceNs n) := fun _ => State.advanceNs_kept (hm.sub rfl) kept_refl
  extract_lets -merge -useContext +onlyGivenNames w1
  try clear_value w1
  refine kept_ite ?_ ?_
  · refine State.deviceReset_kept (hm.sub rfl) ?_
    exact (h1 _)
  · exact (h1 _)

theorem execWdkick_kept {m : Nat} {a0} {a1} {a2} {t : State} (hm : Sub 4573968372203528 m) (h : execWdkick a0 a1 a2 = .next t) : Kept m a2 t := by
  rw [live_next h]
  have h2 : Kept m a2 a2 := kept_refl
  refine State.writeBy_kept (hm.sub rfl) ?_ ?_
  · exact h2
  · intro y1 k2
    refine kept_sys (hm.bit rfl) ?_
    exact k2

theorem execSupplyFail_kept {m : Nat} {a0} {t : State} (hm : Sub 33554432 m) (h : execSupplyFail a0 = .next t) : Kept m a0 t := by
  rw [live_next h]
  have h0 : Kept m a0 a0 := kept_refl
  refine kept_supplyOk (hm.bit rfl) ?_
  exact h0

theorem State.perst_kept {m : Nat} {s0 : State} {a0} (hm : Sub 4574041403293704 m) (h0 : Kept m s0 a0) : Kept m s0 (State.perst a0) := by
  unfold State.perst
  extract_lets -merge -useContext +onlyGivenNames s11
  have k_s11 : Kept m s0 s11 := by
    unfold s11
    refine State.setVal_kept (hm.sub rfl) rfl (hm.bit rfl) ?_
    refine State.setVal_kept (hm.sub rfl) rfl (hm.bit rfl) ?_
    exact h0
  clear_value s11
  extract_lets -merge -useContext +onlyGivenNames h2
  try clear_value h2
  extract_lets -merge -useContext +onlyGivenNames progs3
  try clear_value progs3
  extract_lets -merge -useContext +onlyGivenNames s24
  have k_s24 : Kept m s0 s24 := by
    unfold s24
    refine kept_hif (hm.bit rfl) ?_
    exact k_s11
  clear_value s24
  extract_lets -merge -useContext +onlyGivenNames s35
  have k_s35 : Kept m s0 s35 := by
    unfold s35
    refine kept_foldl ?_ ?_
    · exact k_s24
    · intro x8 y6 k7
      extract_lets -merge -useContext +onlyGivenNames v9
      try clear_value v9
      refine kept_ite ?_ ?_
      · refine State.setVal_kept (hm.sub rfl) (show _ / 1048576 % 32 = 4 by unfold Reg.SNAP_SUBkCTL; omega) (hm.bit rfl) ?_
        exact k7
      · exact k7
  clear_value s35
  extract_lets -merge -useContext +onlyGivenNames s410
  have k_s410 : Kept m s0 s410 := by
    unfold s410
    refine kept_foldl ?_ ?_
    · exact k_s35
    · intro x13 y11 k12
      refine State.refreshSleep_kept (hm.sub rfl) ?_
      refine State.setFld_kept (hm.sub rfl) (show _ / 1048576 % 32 = 14 by unfold Reg.EVC_TGTnCTL; omega) (hm.bit rfl) ?_
      exact k12
  clear_value s410
  extract_lets -merge -useContext +onlyGivenNames s514
  have k_s514 : Kept m s0 s514 := by
    unfold s514
    refine State.raise_kept (hm.sub rfl) rfl (hm.bit rfl) ?_
    refine State.bump_kept (hm.sub rfl) rfl (hm.bit rfl) ?_
    refine State.setVal_kept (hm.sub rfl) rfl (hm.bit rfl) ?_
    exact k_s410
  clear_value s514
  refine kept_ite ?_ ?_
  · refine kept_hif (hm.bit rfl) ?_
    exact k_s514
  · refine State.event_kept (hm.sub rfl) ?_
    exact k_s514

theorem execPciePerst_kept {m : Nat} {a0} {a1} {t : State} (hm : Sub 4574041403293708 m) (h : execPciePerst a0 a1 = .next t) : Kept m a1 t := by
  rw [liveAt_next h]
  have h1 : ∀ n, Kept m a1 (a1.advanceNs n) := fun _ => State.advanceNs_kept (hm.sub rfl) kept_refl
  refine State.perst_kept (hm.sub rfl) ?_
  exact (h1 _)


end Sys2Proof.Machine
end

