-- ==== Sys2Proof/Laws/KeptUpdate.lean ====
section
/-!
SUPPORT. What each operation of Machine/Update.lean may change: one lemma per operation, its mask of parts and register blocks in `hm`.
-/
namespace Sys2Proof.Machine

theorem State.setUState_kept {m : Nat} {s0 : State} {a0} {a1} (hm : Sub 70368753090568 m) (h0 : Kept m s0 a0) : Kept m s0 (State.setUState a0 a1) := by
  unfold State.setUState
  refine State.event_kept (hm.sub rfl) ?_
  refine kept_upd (hm.bit rfl) ?_
  exact h0

theorem State.relay_kept {m : Nat} {s0 : State} {a0} {a1} (hm : Sub 8388608 m) (h0 : Kept m s0 a0) : Kept m s0 (State.relay a0 a1) := by
  unfold State.relay
  refine kept_upd (hm.bit rfl) ?_
  exact h0

theorem State.report_kept {m : Nat} {s0 : State} {a0} (hm : Sub 8388608 m) (h0 : Kept m s0 a0) : Kept m s0 (State.report a0) := by
  unfold State.report
  refine kept_ite ?_ ?_
  · exact h0
  · extract_lets -merge -useContext +onlyGivenNames u1
    try clear_value u1
    refine State.relay_kept (hm.sub rfl) ?_
    exact h0

theorem State.failSession_kept {m : Nat} {s0 : State} {a0} {a1} {a2} (hm : Sub 2322168566775816 m) (h0 : Kept m s0 a0) : Kept m s0 (State.failSession a0 a1 a2) := by
  unfold State.failSession
  refine State.report_kept (hm.sub rfl) ?_
  refine State.raise_kept (hm.sub rfl) rfl (hm.bit rfl) ?_
  refine State.setUState_kept (hm.sub rfl) ?_
  refine kept_upd (hm.bit rfl) ?_
  exact h0

theorem State.writeCtl_kept {m : Nat} {s0 : State} {a0} {a1} (hm : Sub 8388608 m) (h0 : Kept m s0 a0) : Kept m s0 (State.writeCtl a0 a1) := by
  unfold State.writeCtl
  refine kept_upd (hm.bit rfl) ?_
  exact h0

theorem State.checkStoring_kept {m : Nat} {s0 : State} {a0} (hm : Sub 70368753090568 m) (h0 : Kept m s0 a0) : Kept m s0 (State.checkStoring a0) := by
  unfold State.checkStoring
  refine kept_ite ?_ ?_
  · refine State.setUState_kept (hm.sub rfl) ?_
    refine State.writeCtl_kept (hm.sub rfl) ?_
    exact h0
  · exact h0

theorem State.takeBlock_kept {m : Nat} {s0 : State} {a0} {a1} {a2} (hm : Sub 2251799822073857 m) (h0 : Kept m s0 a0) : Kept m s0 (State.takeBlock a0 a1 a2) := by
  unfold State.takeBlock
  extract_lets -merge -useContext +onlyGivenNames s11
  have k_s11 : Kept m s0 s11 := by
    unfold s11
    refine State.bump_kept (hm.sub rfl) rfl (hm.bit rfl) ?_
    refine State.putDev_kept (hm.sub rfl) ?_
    exact h0
  clear_value s11
  extract_lets -merge -useContext +onlyGivenNames s22
  try clear_value s22
  extract_lets -merge -useContext +onlyGivenNames s23
  have k_s23 : Kept m s0 s23 := by
    unfold s23
    refine kept_upd (hm.bit rfl) ?_
    exact k_s11
  clear_value s23
  refine kept_ite ?_ ?_
  · refine State.bump_kept (hm.sub rfl) rfl (hm.bit rfl) ?_
    refine State.relay_kept (hm.sub rfl) ?_
    exact k_s23
  · exact k_s23

theorem State.takeManifest_kept {m : Nat} {s0 : State} {a0} {a1} (hm : Sub 70368753090569 m) (h0 : Kept m s0 a0) : Kept m s0 (State.takeManifest a0 a1) := by
  unfold State.takeManifest
  extract_lets -merge -useContext +onlyGivenNames s11
  try clear_value s11
  extract_lets -merge -useContext +onlyGivenNames s12
  have k_s12 : Kept m s0 s12 := by
    unfold s12
    refine State.putDev_kept (hm.sub rfl) ?_
    refine kept_upd (hm.bit rfl) ?_
    exact h0
  clear_value s12
  extract_lets -merge -useContext +onlyGivenNames s23
  have k_s23 : Kept m s0 s23 := by
    unfold s23
    refine kept_ite ?_ ?_
    · refine State.relay_kept (hm.sub rfl) ?_
      exact k_s12
    · exact k_s12
  clear_value s23
  refine State.setUState_kept (hm.sub rfl) ?_
  exact k_s23

theorem State.newSession_kept {m : Nat} {s0 : State} {a0} {a1} {a2} {a3} (hm : Sub 70368753090568 m) (h0 : Kept m s0 a0) : Kept m s0 (State.newSession a0 a1 a2 a3) := by
  unfold State.newSession
  refine State.setUState_kept (hm.sub rfl) ?_
  refine kept_upd (hm.bit rfl) ?_
  exact h0

theorem updateBeginBody_kept {m : Nat} {s0 : State} {a0} {a1} {a2} {a3} (hm : Sub 2322168566775817 m) (h3 : Kept m s0 a3) : Kept m s0 ((updateBeginBody a0 a1 a2 a3).1) := by
  unfold updateBeginBody
  refine kept_ite_fst ?_ ?_
  · refine kept_mkp_fst ?_
    exact h3
  · refine kept_ite_fst ?_ ?_
    · refine kept_mkp_fst ?_
      exact h3
    · refine kept_ite_fst ?_ ?_
      · refine kept_mkp_fst ?_
        refine kept_upd (hm.bit rfl) ?_
        exact h3
      · extract_lets -merge -useContext +onlyGivenNames head1
        try clear_value head1
        extract_lets -merge -useContext +onlyGivenNames m2
        try clear_value m2
        refine kept_ite_fst ?_ ?_
        · refine kept_mkp_fst ?_
          exact h3
        · extract_lets -merge -useContext +onlyGivenNames s13
          have k_s13 : Kept m s0 s13 := by
            unfold s13
            refine State.newSession_kept (hm.sub rfl) ?_
            exact h3
          clear_value s13
          split
          · extract_lets -merge -useContext +onlyGivenNames s24
            try clear_value s24
            extract_lets -merge -useContext +onlyGivenNames s25
            have k_s25 : Kept m s0 s25 := by
              unfold s25
              refine State.raise_kept (hm.sub rfl) rfl (hm.bit rfl) ?_
              refine State.setUState_kept (hm.sub rfl) ?_
              refine kept_upd (hm.bit rfl) ?_
              exact k_s13
            clear_value s25
            refine kept_mkp_fst ?_
            refine State.raise_kept (hm.sub rfl) rfl (hm.bit rfl) ?_
            exact k_s25
          · extract_lets -merge -useContext +onlyGivenNames s26
            have k_s26 : Kept m s0 s26 := by
              unfold s26
              refine State.takeManifest_kept (hm.sub rfl) ?_
              exact k_s13
            clear_value s26
            extract_lets -merge -useContext +onlyGivenNames s37
            have k_s37 : Kept m s0 s37 := by
              unfold s37
              refine kept_foldl ?_ ?_
              · exact k_s26
              · intro x10 y8 k9
                refine kept_ite ?_ ?_
                · extract_lets -merge -useContext +onlyGivenNames b11
                  try clear_value b11
                  refine kept_ite ?_ ?_
                  · refine State.takeBlock_kept (hm.sub rfl) ?_
                    exact k9
                  · refine State.failSession_kept (hm.sub rfl) ?_
                    refine State.raise_kept (hm.sub rfl) rfl (hm.bit rfl) ?_
                    refine State.bumpBy_kept (hm.sub rfl) rfl (hm.bit rfl) ?_
                    exact k9
                · exact k9
            clear_value s37
            extract_lets -merge -useContext +onlyGivenNames s412
            have k_s412 : Kept m s0 s412 := by
              unfold s412
              refine kept_ite ?_ ?_
              · refine State.checkStoring_kept (hm.sub rfl) ?_
                exact k_s37
              · exact k_s37
            clear_value s412
            refine kept_mkp_fst ?_
            exact k_s412

theorem State.updateBegin_kept {m : Nat} {s0 : State} {a0} {a1} {a2} {a3} {a4} (hm : Sub 2885122834038793 m) (h0 : Kept m s0 a0) : Kept m s0 (State.updateBegin a0 a1 a2 a3 a4) := by
  unfold State.updateBegin
  refine State.hostCmd_kept (hm.sub rfl) ?_ ?_
  · exact h0
  · intro y1 k2
    refine updateBeginBody_kept (hm.sub rfl) ?_
    exact k2

theorem execUpdateBegin_kept {m : Nat} {a0} {a1} {a2} {a3} {a4} {t : State} (hm : Sub 2885122834038793 m) (h : execUpdateBegin a0 a1 a2 a3 a4 = .next t) : Kept m a4 t := by
  rw [live_next h]
  have h4 : Kept m a4 a4 := kept_refl
  refine State.updateBegin_kept (hm.sub rfl) ?_
  exact h4

theorem State.onRelay_kept {m : Nat} {s0 : State} {a0} {a1} {a2} (hm : Sub 2251799813685248 m) (h0 : Kept m s0 a0) (h2 : ∀ y0, Kept m s0 y0 → Kept m s0 (a2 y0)) : Kept m s0 (State.onRelay a0 a1 a2) := by
  unfold State.onRelay
  refine kept_ite ?_ ?_
  · refine h2 _ ?_
    exact h0
  · refine State.bump_kept (hm.sub rfl) rfl (hm.bit rfl) ?_
    exact h0

theorem State.relayHello_kept {m : Nat} {s0 : State} {a0} {a1} {a2} {a3} {a4} (hm : Sub 2322168566775816 m) (h0 : Kept m s0 a0) : Kept m s0 (State.relayHello a0 a1 a2 a3 a4) := by
  unfold State.relayHello
  extract_lets -merge -useContext +onlyGivenNames v1
  try clear_value v1
  extract_lets -merge -useContext +onlyGivenNames s12
  have k_s12 : Kept m s0 s12 := by
    unfold s12
    refine kept_ite ?_ ?_
    · refine State.raise_kept (hm.sub rfl) rfl (hm.bit rfl) ?_
      exact h0
    · exact h0
  clear_value s12
  extract_lets -merge -useContext +onlyGivenNames s23
  try clear_value s23
  extract_lets -merge -useContext +onlyGivenNames s24
  try clear_value s24
  extract_lets -merge -useContext +onlyGivenNames s25
  have k_s25 : Kept m s0 s25 := by
    unfold s25
    refine kept_ite ?_ ?_
    · refine kept_upd (hm.bit rfl) ?_
      exact k_s12
    · refine kept_upd (hm.bit rfl) ?_
      exact k_s12
  clear_value s25
  refine kept_ite ?_ ?_
  · refine kept_ite ?_ ?_
    · refine State.raise_kept (hm.sub rfl) rfl (hm.bit rfl) ?_
      exact k_s25
    · refine kept_upd (hm.bit rfl) ?_
      exact k_s25
  · exact k_s25

theorem execRelayHello_kept {m : Nat} {a0} {a1} {a2} {a3} {a4} {t : State} (hm : Sub 2322168566775816 m) (h : execRelayHello a0 a1 a2 a3 a4 = .next t) : Kept m a4 t := by
  rw [live_next h]
  have h4 : Kept m a4 a4 := kept_refl
  refine kept_ite ?_ ?_
  · refine State.relayHello_kept (hm.sub rfl) ?_
    exact h4
  · refine State.bump_kept (hm.sub rfl) rfl (hm.bit rfl) ?_
    exact h4

theorem State.manifestFrag_kept {m : Nat} {s0 : State} {a0} {a1} {a2} (hm : Sub 2322168566775817 m) (h0 : Kept m s0 a0) : Kept m s0 (State.manifestFrag a0 a1 a2) := by
  unfold State.manifestFrag
  extract_lets -merge -useContext +onlyGivenNames u1
  try clear_value u1
  extract_lets -merge -useContext +onlyGivenNames armed2
  try clear_value armed2
  extract_lets -merge -useContext +onlyGivenNames start3
  try clear_value start3
  refine kept_ite ?_ ?_
  · exact h0
  · refine kept_ite ?_ ?_
    · refine State.raise_kept (hm.sub rfl) rfl (hm.bit rfl) ?_
      exact h0
    · extract_lets -merge -useContext +onlyGivenNames s14
      have k_s14 : Kept m s0 s14 := by
        unfold s14
        refine kept_ite ?_ ?_
        · refine State.newSession_kept (hm.sub rfl) ?_
          exact h0
        · exact h0
      clear_value s14
      extract_lets -merge -useContext +onlyGivenNames s25
      try clear_value s25
      extract_lets -merge -useContext +onlyGivenNames s26
      have k_s26 : Kept m s0 s26 := by
        unfold s26
        refine kept_upd (hm.bit rfl) ?_
        exact k_s14
      clear_value s26
      extract_lets -merge -useContext +onlyGivenNames n7
      try clear_value n7
      extract_lets -merge -useContext +onlyGivenNames held8
      try clear_value held8
      refine kept_ite ?_ ?_
      · exact k_s26
      · extract_lets -merge -useContext +onlyGivenNames m9
        try clear_value m9
        split
        · refine State.failSession_kept (hm.sub rfl) ?_
          refine State.raise_kept (hm.sub rfl) rfl (hm.bit rfl) ?_
          exact k_s26
        · refine State.checkStoring_kept (hm.sub rfl) ?_
          refine State.takeManifest_kept (hm.sub rfl) ?_
          exact k_s26

theorem execManifest_kept {m : Nat} {a0} {a1} {a2} {a3} {t : State} (hm : Sub 2322168566775821 m) (h : execManifest a0 a1 a2 a3 = .next t) : Kept m a3 t := by
  rw [liveAt_next h]
  have h3 : ∀ n, Kept m a3 (a3.advanceNs n) := fun _ => State.advanceNs_kept (hm.sub rfl) kept_refl
  refine State.onRelay_kept (hm.sub rfl) ?_ ?_
  · exact (h3 _)
  · intro y1 k2
    refine kept_ite ?_ ?_
    · refine State.manifestFrag_kept (hm.sub rfl) ?_
      exact k2
    · exact k2

theorem State.sendNak_kept {m : Nat} {s0 : State} {a0} {a1} {a2} (hm : Sub 2251799822073856 m) (h0 : Kept m s0 a0) : Kept m s0 (State.sendNak a0 a1 a2) := by
  unfold State.sendNak
  refine State.bump_kept (hm.sub rfl) rfl (hm.bit rfl) ?_
  refine State.relay_kept (hm.sub rfl) ?_
  exact h0

theorem State.blockFrag_kept {m : Nat} {s0 : State} {a0} {a1} {a2} (hm : Sub 2322168566775817 m) (h0 : Kept m s0 a0) : Kept m s0 (State.blockFrag a0 a1 a2) := by
  unfold State.blockFrag
  extract_lets -merge -useContext +onlyGivenNames u1
  try clear_value u1
  refine kept_ite ?_ ?_
  · exact h0
  · extract_lets -merge -useContext +onlyGivenNames held02
    try clear_value held02
    extract_lets -merge -useContext +onlyGivenNames held3
    try clear_value held3
    extract_lets -merge -useContext +onlyGivenNames s14
    have k_s14 : Kept m s0 s14 := by
      unfold s14
      refine kept_upd (hm.bit rfl) ?_
      exact h0
    clear_value s14
    refine kept_ite ?_ ?_
    · extract_lets -merge -useContext +onlyGivenNames bytes5
      try clear_value bytes5
      refine kept_ite ?_ ?_
      · refine State.checkStoring_kept (hm.sub rfl) ?_
        refine State.takeBlock_kept (hm.sub rfl) ?_
        exact k_s14
      · extract_lets -merge -useContext +onlyGivenNames n6
        try clear_value n6
        extract_lets -merge -useContext +onlyGivenNames s27
        try clear_value s27
        extract_lets -merge -useContext +onlyGivenNames s28
        have k_s28 : Kept m s0 s28 := by
          unfold s28
          refine kept_upd (hm.bit rfl) ?_
          exact k_s14
        clear_value s28
        extract_lets -merge -useContext +onlyGivenNames s39
        have k_s39 : Kept m s0 s39 := by
          unfold s39
          refine State.raise_kept (hm.sub rfl) rfl (hm.bit rfl) ?_
          refine State.bump_kept (hm.sub rfl) rfl (hm.bit rfl) ?_
          exact k_s28
        clear_value s39
        refine kept_ite ?_ ?_
        · refine State.failSession_kept (hm.sub rfl) ?_
          exact k_s39
        · refine State.sendNak_kept (hm.sub rfl) ?_
          exact k_s39
    · exact k_s14

theorem execBlock_kept {m : Nat} {a0} {a1} {a2} {a3} {t : State} (hm : Sub 2322168566775821 m) (h : execBlock a0 a1 a2 a3 = .next t) : Kept m a3 t := by
  rw [liveAt_next h]
  have h3 : ∀ n, Kept m a3 (a3.advanceNs n) := fun _ => State.advanceNs_kept (hm.sub rfl) kept_refl
  refine State.onRelay_kept (hm.sub rfl) ?_ ?_
  · exact (h3 _)
  · intro y1 k2
    refine kept_ite ?_ ?_
    · refine State.blockFrag_kept (hm.sub rfl) ?_
      exact k2
    · exact k2

theorem execNakTimer_kept {m : Nat} {a0} {a1} {a2} {t : State} (hm : Sub 2251799822073860 m) (h : execNakTimer a0 a1 a2 = .next t) : Kept m a2 t := by
  rw [liveAt_next h]
  have h2 : ∀ n, Kept m a2 (a2.advanceNs n) := fun _ => State.advanceNs_kept (hm.sub rfl) kept_refl
  extract_lets -merge -useContext +onlyGivenNames held1
  try clear_value held1
  refine kept_ite ?_ ?_
  · refine State.sendNak_kept (hm.sub rfl) ?_
    exact (h2 _)
  · exact (h2 _)

theorem execNak_kept {m : Nat} {a0} {a1} {a2} {t : State} (hm : Sub 2251799822073856 m) (h : execNak a0 a1 a2 = .next t) : Kept m a2 t := by
  rw [live_next h]
  have h2 : Kept m a2 a2 := kept_refl
  refine State.onRelay_kept (hm.sub rfl) ?_ ?_
  · exact h2
  · intro y1 k2
    refine kept_ite ?_ ?_
    · exact k2
    · extract_lets -merge -useContext +onlyGivenNames frags3
      try clear_value frags3
      refine State.bump_kept (hm.sub rfl) rfl (hm.bit rfl) ?_
      refine kept_foldl ?_ ?_
      · exact k2
      · intro x6 y4 k5
        refine State.relay_kept (hm.sub rfl) ?_
        exact k5

theorem execReport_kept {m : Nat} {a0} {a1} {a2} {t : State} (hm : Sub 2322168566775816 m) (h : execReport a0 a1 a2 = .next t) : Kept m a2 t := by
  rw [live_next h]
  have h2 : Kept m a2 a2 := kept_refl
  refine State.onRelay_kept (hm.sub rfl) ?_ ?_
  · exact h2
  · intro y1 k2
    refine kept_ite ?_ ?_
    · exact k2
    · extract_lets -merge -useContext +onlyGivenNames s13
      have k_s13 : Kept m a2 s13 := by
        unfold s13
        refine State.event_kept (hm.sub rfl) ?_
        exact k2
      clear_value s13
      refine kept_ite ?_ ?_
      · exact k_s13
      · refine State.relay_kept (hm.sub rfl) ?_
        exact k_s13

theorem State.abortSession_kept {m : Nat} {s0 : State} {a0} (hm : Sub 70368753090568 m) (h0 : Kept m s0 a0) : Kept m s0 (State.abortSession a0) := by
  unfold State.abortSession
  refine kept_ite ?_ ?_
  · exact h0
  · extract_lets -merge -useContext +onlyGivenNames s11
    have k_s11 : Kept m s0 s11 := by
      unfold s11
      refine kept_ite ?_ ?_
      · refine State.relay_kept (hm.sub rfl) ?_
        exact h0
      · exact h0
    clear_value s11
    refine State.setUState_kept (hm.sub rfl) ?_
    refine kept_upd (hm.bit rfl) ?_
    exact k_s11

theorem execAbort_kept {m : Nat} {a0} {a1} {t : State} (hm : Sub 6825768194277384 m) (h : execAbort a0 a1 = .next t) : Kept m a1 t := by
  rw [live_next h]
  have h1 : Kept m a1 a1 := kept_refl
  split
  · refine State.onRelay_kept (hm.sub rfl) ?_ ?_
    · exact h1
    · intro y1 k2
      refine kept_ite ?_ ?_
      · refine State.abortSession_kept (hm.sub rfl) ?_
        exact k2
      · exact k2
  · refine State.writeBy_kept (hm.sub rfl) ?_ ?_
    · exact h1
    · intro y3 k4
      refine kept_ite ?_ ?_
      · refine State.abortSession_kept (hm.sub rfl) ?_
        exact k4
      · exact k4

theorem execStoreComplete_kept {m : Nat} {a0} {a1} {a2} {t : State} (hm : Sub 2322168566775820 m) (h : execStoreComplete a0 a1 a2 = .next t) : Kept m a2 t := by
  rw [liveAt_next h]
  have h2 : ∀ n, Kept m a2 (a2.advanceNs n) := fun _ => State.advanceNs_kept (hm.sub rfl) kept_refl
  refine kept_ite ?_ ?_
  · exact (h2 _)
  · refine kept_ite ?_ ?_
    · refine State.failSession_kept (hm.sub rfl) ?_
      refine State.raise_kept (hm.sub rfl) rfl (hm.bit rfl) ?_
      exact (h2 _)
    · extract_lets -merge -useContext +onlyGivenNames m1
      try clear_value m1
      extract_lets -merge -useContext +onlyGivenNames act2
      try clear_value act2
      extract_lets -merge -useContext +onlyGivenNames dst3
      try clear_value dst3
      extract_lets -merge -useContext +onlyGivenNames copied4
      try clear_value copied4
      split
      · refine State.failSession_kept (hm.sub rfl) ?_
        exact (h2 _)
      · extract_lets -merge -useContext +onlyGivenNames f15
        try clear_value f15
        extract_lets -merge -useContext +onlyGivenNames f26
        try clear_value f26
        extract_lets -merge -useContext +onlyGivenNames s17
        try clear_value s17
        extract_lets -merge -useContext +onlyGivenNames s18
        have k_s18 : Kept m a2 s18 := by
          unfold s18
          refine kept_upd (hm.bit rfl) ?_
          exact (h2 _)
        clear_value s18
        refine State.report_kept (hm.sub rfl) ?_
        refine State.setUState_kept (hm.sub rfl) ?_
        refine State.writeCtl_kept (hm.sub rfl) ?_
        exact k_s18

theorem activateBody_kept {m : Nat} {s0 : State} {a0} {a1} (hm : Sub 2893918927077385 m) (h1 : Kept m s0 a1) : Kept m s0 ((activateBody a0 a1).1) := by
  unfold activateBody
  refine kept_ite_fst ?_ ?_
  · refine kept_mkp_fst ?_
    exact h1
  · refine kept_ite_fst ?_ ?_
    · refine kept_mkp_fst ?_
      exact h1
    · extract_lets -merge -useContext +onlyGivenNames c1
      try clear_value c1
      extract_lets -merge -useContext +onlyGivenNames s12
      have k_s12 : Kept m s0 s12 := by
        unfold s12
        refine State.writeCtl_kept (hm.sub rfl) ?_
        exact h1
      clear_value s12
      extract_lets -merge -useContext +onlyGivenNames s23
      have k_s23 : Kept m s0 s23 := by
        unfold s23
        refine State.flush_kept (hm.sub rfl) ?_
        refine State.meterSaveNow_kept (hm.sub rfl) ?_
        refine State.offer_kept (hm.sub rfl) ?_
        exact k_s12
      clear_value s23
      refine kept_mkp_fst ?_
      refine State.bump_kept (hm.sub rfl) rfl (hm.bit rfl) ?_
      refine kept_upd (hm.bit rfl) ?_
      exact k_s23

theorem State.activate_kept {m : Nat} {s0 : State} {a0} {a1} (hm : Sub 2893918927077385 m) (h0 : Kept m s0 a0) : Kept m s0 (State.activate a0 a1) := by
  unfold State.activate
  refine State.hostCmd_kept (hm.sub rfl) ?_ ?_
  · exact h0
  · intro y1 k2
    refine activateBody_kept (hm.sub rfl) ?_
    exact k2

theorem execActivate_kept {m : Nat} {a0} {a1} {t : State} (hm : Sub 2893918927077385 m) (h : execActivate a0 a1 = .next t) : Kept m a1 t := by
  rw [live_next h]
  have h1 : Kept m a1 a1 := kept_refl
  refine State.activate_kept (hm.sub rfl) ?_
  exact h1

theorem execTrialExpiry_kept {m : Nat} {a0} {a1} {t : State} (hm : Sub 18446744069448138749 m) (h : execTrialExpiry a0 a1 = .next t) : Kept m a1 t := by
  rw [liveAt_next h]
  have h1 : ∀ n, Kept m a1 (a1.advanceNs n) := fun _ => State.advanceNs_kept (hm.sub rfl) kept_refl
  split
  · refine kept_ite ?_ ?_
    · refine State.deviceReset_kept (hm.sub rfl) ?_
      exact (h1 _)
    · exact (h1 _)
  · exact (h1 _)

theorem State.confirm_kept {m : Nat} {s0 : State} {a0} (hm : Sub 946907240790953 m) (h0 : Kept m s0 a0) : Kept m s0 (State.confirm a0) := by
  unfold State.confirm
  extract_lets -merge -useContext +onlyGivenNames s11
  try clear_value s11
  extract_lets -merge -useContext +onlyGivenNames s12
  have k_s12 : Kept m s0 s12 := by
    unfold s12
    refine kept_upd (hm.bit rfl) ?_
    exact h0
  clear_value s12
  extract_lets -merge -useContext +onlyGivenNames s23
  try clear_value s23
  extract_lets -merge -useContext +onlyGivenNames s24
  have k_s24 : Kept m s0 s24 := by
    unfold s24
    refine State.writeCtl_kept (hm.sub rfl) ?_
    exact k_s12
  clear_value s24
  extract_lets -merge -useContext +onlyGivenNames s2a5
  try clear_value s2a5
  extract_lets -merge -useContext +onlyGivenNames s2a6
  have k_s2a6 : Kept m s0 s2a6 := by
    unfold s2a6
    refine kept_upd (hm.bit rfl) ?_
    exact k_s24
  clear_value s2a6
  extract_lets -merge -useContext +onlyGivenNames s37
  have k_s37 : Kept m s0 s37 := by
    unfold s37
    refine State.offer_kept (hm.sub rfl) ?_
    exact k_s2a6
  clear_value s37
  refine kept_ite ?_ ?_
  · refine State.enterMode_kept (hm.sub rfl) ?_
    exact k_s37
  · exact k_s37

theorem confirmBody_kept {m : Nat} {s0 : State} {a0} (hm : Sub 946907240790953 m) (h0 : Kept m s0 a0) : Kept m s0 ((confirmBody a0).1) := by
  unfold confirmBody
  refine kept_ite_fst ?_ ?_
  · refine kept_mkp_fst ?_
    exact h0
  · refine kept_ite_fst ?_ ?_
    · refine kept_mkp_fst ?_
      exact h0
    · refine kept_mkp_fst ?_
      refine State.confirm_kept (hm.sub rfl) ?_
      exact h0

theorem State.healthConfirm_kept {m : Nat} {s0 : State} {a0} {a1} (hm : Sub 946907240790953 m) (h0 : Kept m s0 a0) : Kept m s0 (State.healthConfirm a0 a1) := by
  unfold State.healthConfirm
  refine State.hostCmd_kept (hm.sub rfl) ?_ ?_
  · exact h0
  · intro y1 k2
    refine confirmBody_kept (hm.sub rfl) ?_
    exact k2

theorem execHealthConfirm_kept {m : Nat} {a0} {a1} {t : State} (hm : Sub 946907240790953 m) (h : execHealthConfirm a0 a1 = .next t) : Kept m a1 t := by
  rw [live_next h]
  have h1 : Kept m a1 a1 := kept_refl
  refine State.healthConfirm_kept (hm.sub rfl) ?_
  exact h1

theorem execSelfok_kept {m : Nat} {a0} {a1} {a2} {a3} {t : State} (hm : Sub 946907240790957 m) (h : execSelfok a0 a1 a2 a3 = .next t) : Kept m a3 t := by
  rw [liveAt_next h]
  have h3 : ∀ n, Kept m a3 (a3.advanceNs n) := fun _ => State.advanceNs_kept (hm.sub rfl) kept_refl
  extract_lets -merge -useContext +onlyGivenNames m1
  try clear_value m1
  extract_lets -merge -useContext +onlyGivenNames versions2
  try clear_value versions2
  extract_lets -merge -useContext +onlyGivenNames cart3
  try clear_value cart3
  refine kept_ite ?_ ?_
  · extract_lets -merge -useContext +onlyGivenNames s14
    try clear_value s14
    extract_lets -merge -useContext +onlyGivenNames s15
    have k_s15 : Kept m a3 s15 := by
      unfold s15
      refine kept_upd (hm.bit rfl) ?_
      exact (h3 _)
    clear_value s15
    refine kept_ite ?_ ?_
    · refine State.confirm_kept (hm.sub rfl) ?_
      exact k_s15
    · exact k_s15
  · exact (h3 _)

theorem State.bootControl_kept {m : Nat} {s0 : State} {a0} (hm : Sub 2322168566775816 m) (h0 : Kept m s0 a0) : Kept m s0 (State.bootControl a0) := by
  unfold State.bootControl
  extract_lets -merge -useContext +onlyGivenNames c1
  try clear_value c1
  refine kept_ite ?_ ?_
  · exact h0
  · refine kept_ite ?_ ?_
    · extract_lets -merge -useContext +onlyGivenNames s12
      have k_s12 : Kept m s0 s12 := by
        unfold s12
        refine State.writeCtl_kept (hm.sub rfl) ?_
        exact h0
      clear_value s12
      refine kept_upd (hm.bit rfl) ?_
      exact k_s12
    · extract_lets -merge -useContext +onlyGivenNames s13
      have k_s13 : Kept m s0 s13 := by
        unfold s13
        refine State.writeCtl_kept (hm.sub rfl) ?_
        exact h0
      clear_value s13
      extract_lets -merge -useContext +onlyGivenNames s24
      try clear_value s24
      extract_lets -merge -useContext +onlyGivenNames s25
      have k_s25 : Kept m s0 s25 := by
        unfold s25
        refine kept_upd (hm.bit rfl) ?_
        exact k_s13
      clear_value s25
      refine State.raise_kept (hm.sub rfl) rfl (hm.bit rfl) ?_
      refine State.bump_kept (hm.sub rfl) rfl (hm.bit rfl) ?_
      exact k_s25


end Sys2Proof.Machine
end

