-- ==== Sys2Proof/Laws/KeptPair.lean ====
section
/-!
SUPPORT. What each operation of Machine/Pair.lean may change: one lemma per operation, its mask of parts and register blocks in `hm`.
-/
namespace Sys2Proof.Machine

theorem State.setPeer_kept {m : Nat} {s0 : State} {a0} {a1} {a2} (hm : Sub 1048576 m) (h0 : Kept m s0 a0) : Kept m s0 (State.setPeer a0 a1 a2) := by
  unfold State.setPeer
  split
  · refine kept_chd (hm.bit rfl) ?_
    exact h0
  · refine kept_chd (hm.bit rfl) ?_
    exact h0
  · refine kept_chd (hm.bit rfl) ?_
    exact h0

theorem State.unfence_kept {m : Nat} {s0 : State} {a0} (hm : Sub 352960413960232 m) (h0 : Kept m s0 a0) : Kept m s0 (State.unfence a0) := by
  unfold State.unfence
  refine State.withMuting_kept (hm.sub rfl) ?_ ?_
  · exact h0
  · intro y1 k2
    refine kept_chd (hm.bit rfl) ?_
    exact k2

theorem State.noteMsg_kept {m : Nat} {s0 : State} {a0} {a1} (hm : Sub 352960413960232 m) (h0 : Kept m s0 a0) : Kept m s0 (State.noteMsg a0 a1) := by
  unfold State.noteMsg
  extract_lets -merge -useContext +onlyGivenNames s11
  try clear_value s11
  extract_lets -merge -useContext +onlyGivenNames s12
  have k_s12 : Kept m s0 s12 := by
    unfold s12
    refine State.setPeer_kept (hm.sub rfl) ?_
    exact h0
  clear_value s12
  extract_lets -merge -useContext +onlyGivenNames s23
  try clear_value s23
  extract_lets -merge -useContext +onlyGivenNames s24
  have k_s24 : Kept m s0 s24 := by
    unfold s24
    refine kept_chd (hm.bit rfl) ?_
    exact k_s12
  clear_value s24
  refine kept_ite ?_ ?_
  · refine State.unfence_kept (hm.sub rfl) ?_
    exact k_s24
  · exact k_s24

theorem State.onChd_kept {m : Nat} {s0 : State} {a0} {a1} {a2} {a3} (hm : Sub 352960413960232 m) (h0 : Kept m s0 a0) (h3 : ∀ y0, Kept m s0 y0 → Kept m s0 (a3 y0)) : Kept m s0 (State.onChd a0 a1 a2 a3) := by
  unfold State.onChd
  refine kept_ite ?_ ?_
  · exact h0
  · refine kept_ite ?_ ?_
    · refine State.bump_kept (hm.sub rfl) rfl (hm.bit rfl) ?_
      exact h0
    · refine kept_ite ?_ ?_
      · exact h0
      · extract_lets -merge -useContext +onlyGivenNames dup1
        try clear_value dup1
        refine kept_ite ?_ ?_
        · refine State.bump_kept (hm.sub rfl) rfl (hm.bit rfl) ?_
          exact h0
        · refine h3 _ ?_
          refine State.noteMsg_kept (hm.sub rfl) ?_
          exact h0

theorem State.sendOn_kept {m : Nat} {s0 : State} {a0} {a1} {a2} (hm : Sub 1048576 m) (h0 : Kept m s0 a0) : Kept m s0 (State.sendOn a0 a1 a2) := by
  unfold State.sendOn
  split
  · refine State.chdSend_kept (hm.sub rfl) ?_
    exact h0
  · refine State.chdSend_kept (hm.sub rfl) ?_
    exact h0
  · refine State.chdSend_kept (hm.sub rfl) ?_
    exact h0

theorem State.sendHello_kept {m : Nat} {s0 : State} {a0} {a1} (hm : Sub 1048576 m) (h0 : Kept m s0 a0) : Kept m s0 (State.sendHello a0 a1) := by
  unfold State.sendHello
  refine State.sendOn_kept (hm.sub rfl) ?_
  exact h0

theorem State.releaseHeld_kept {m : Nat} {s0 : State} {a0} (hm : Sub 633323011964936 m) (h0 : Kept m s0 a0) : Kept m s0 (State.releaseHeld a0) := by
  unfold State.releaseHeld
  extract_lets -merge -useContext +onlyGivenNames p1
  try clear_value p1
  extract_lets -merge -useContext +onlyGivenNames ok2
  try clear_value ok2
  extract_lets -merge -useContext +onlyGivenNames go3
  try clear_value go3
  extract_lets -merge -useContext +onlyGivenNames s14
  try clear_value s14
  extract_lets -merge -useContext +onlyGivenNames s15
  have k_s15 : Kept m s0 s15 := by
    unfold s15
    refine kept_hif (hm.bit rfl) ?_
    exact h0
  clear_value s15
  refine kept_foldl ?_ ?_
  · exact k_s15
  · intro x8 y6 k7
    refine State.complete_kept (hm.sub rfl) ?_
    exact k7

theorem State.dropHeld_kept {m : Nat} {s0 : State} {a0} (hm : Sub 16777216 m) (h0 : Kept m s0 a0) : Kept m s0 (State.dropHeld a0) := by
  unfold State.dropHeld
  extract_lets -merge -useContext +onlyGivenNames progs1
  try clear_value progs1
  refine kept_hif (hm.bit rfl) ?_
  exact h0

theorem State.abandonSwitch_kept {m : Nat} {s0 : State} {a0} {a1} (hm : Sub 633323013013512 m) (h0 : Kept m s0 a0) : Kept m s0 (State.abandonSwitch a0 a1) := by
  unfold State.abandonSwitch
  extract_lets -merge -useContext +onlyGivenNames s11
  try clear_value s11
  extract_lets -merge -useContext +onlyGivenNames s12
  have k_s12 : Kept m s0 s12 := by
    unfold s12
    refine kept_chd (hm.bit rfl) ?_
    exact h0
  clear_value s12
  split
  · refine State.complete_kept (hm.sub rfl) ?_
    exact k_s12
  · exact k_s12

theorem State.deposed_kept {m : Nat} {s0 : State} {a0} {a1} (hm : Sub 946907240790953 m) (h0 : Kept m s0 a0) : Kept m s0 (State.deposed a0 a1) := by
  unfold State.deposed
  extract_lets -merge -useContext +onlyGivenNames role1
  have k_role1 : ∀ y0, Kept m s0 y0 → Kept m s0 (role1 y0) := by
    intro y2 k3
    unfold role1
    refine State.setRole_kept (hm.sub rfl) ?_
    refine kept_chd (hm.bit rfl) ?_
    exact k3
  clear_value role1
  extract_lets -merge -useContext +onlyGivenNames s14
  have k_s14 : Kept m s0 s14 := by
    unfold s14
    refine kept_ite ?_ ?_
    · refine k_role1 _ ?_
      refine State.dropHeld_kept (hm.sub rfl) ?_
      exact h0
    · refine State.enterWith_kept (hm.sub rfl) ?_ ?_
      · refine State.dropHeld_kept (hm.sub rfl) ?_
        exact h0
      · intro y5 k6
        refine k_role1 _ ?_
        exact k6
  clear_value s14
  refine State.setVal_kept (hm.sub rfl) rfl (hm.bit rfl) ?_
  refine State.abandonSwitch_kept (hm.sub rfl) ?_
  refine State.raise_kept (hm.sub rfl) rfl (hm.bit rfl) ?_
  refine State.finishModeSet_kept (hm.sub rfl) ?_
  refine State.raise_kept (hm.sub rfl) rfl (hm.bit rfl) ?_
  exact k_s14

theorem State.meetEpoch_kept {m : Nat} {s0 : State} {a0} {a1} {a2} {a3} (hm : Sub 946907240790953 m) (h0 : Kept m s0 a0) : Kept m s0 (State.meetEpoch a0 a1 a2 a3) := by
  unfold State.meetEpoch
  refine kept_ite ?_ ?_
  · exact h0
  · extract_lets -merge -useContext +onlyGivenNames take1
    have k_take1 : Kept m s0 take1 := by
      unfold take1
      refine State.setVal_kept (hm.sub rfl) rfl (hm.bit rfl) ?_
      exact h0
    clear_value take1
    split
    · refine kept_ite ?_ ?_
      · refine State.deposed_kept (hm.sub rfl) ?_
        exact h0
      · refine kept_ite ?_ ?_
        · refine State.deposed_kept (hm.sub rfl) ?_
          exact h0
        · refine kept_ite ?_ ?_
          · refine kept_ite ?_ ?_
            · exact k_take1
            · refine State.deposed_kept (hm.sub rfl) ?_
              exact h0
          · exact h0
    · refine State.offer_kept (hm.sub rfl) ?_
      exact k_take1
    · refine kept_ite ?_ ?_
      · exact k_take1
      · exact h0

theorem execDepose_kept {m : Nat} {a0} {a1} {a2} {a3} {t : State} (hm : Sub 946907240790957 m) (h : execDepose a0 a1 a2 a3 = .next t) : Kept m a3 t := by
  rw [liveAt_next h]
  have h3 : ∀ n, Kept m a3 (a3.advanceNs n) := fun _ => State.advanceNs_kept (hm.sub rfl) kept_refl
  refine State.onChd_kept (hm.sub rfl) ?_ ?_
  · exact (h3 _)
  · intro y1 k2
    refine kept_ite ?_ ?_
    · refine State.deposed_kept (hm.sub rfl) ?_
      exact k2
    · refine kept_ite ?_ ?_
      · exact k2
      · refine State.meetEpoch_kept (hm.sub rfl) ?_
        exact k2

theorem execUnfence_kept {m : Nat} {a0} {a1} {a2} {t : State} (hm : Sub 946907240790957 m) (h : execUnfence a0 a1 a2 = .next t) : Kept m a2 t := by
  rw [liveAt_next h]
  have h2 : ∀ n, Kept m a2 (a2.advanceNs n) := fun _ => State.advanceNs_kept (hm.sub rfl) kept_refl
  refine State.onChd_kept (hm.sub rfl) ?_ ?_
  · exact (h2 _)
  · intro y1 k2
    refine State.meetEpoch_kept (hm.sub rfl) ?_
    exact k2

theorem execFenceTExpiry_kept {m : Nat} {a0} {a1} {t : State} (hm : Sub 352960413960236 m) (h : execFenceTExpiry a0 a1 = .next t) : Kept m a1 t := by
  rw [liveAt_next h]
  have h1 : ∀ n, Kept m a1 (a1.advanceNs n) := fun _ => State.advanceNs_kept (hm.sub rfl) kept_refl
  refine kept_ite ?_ ?_
  · extract_lets -merge -useContext +onlyGivenNames s11
    have k_s11 : Kept m a1 s11 := by
      unfold s11
      refine State.withMuting_kept (hm.sub rfl) ?_ ?_
      · exact (h1 _)
      · intro y2 k3
        refine kept_chd (hm.bit rfl) ?_
        exact k3
    clear_value s11
    refine State.bump_kept (hm.sub rfl) rfl (hm.bit rfl) ?_
    refine State.raise_kept (hm.sub rfl) rfl (hm.bit rfl) ?_
    exact k_s11
  · exact (h1 _)

theorem State.formPair_kept {m : Nat} {s0 : State} {a0} (hm : Sub 914793676931080 m) (h0 : Kept m s0 a0) : Kept m s0 (State.formPair a0) := by
  unfold State.formPair
  extract_lets -merge -useContext +onlyGivenNames u1
  try clear_value u1
  extract_lets -merge -useContext +onlyGivenNames top2
  try clear_value top2
  extract_lets -merge -useContext +onlyGivenNames stands3
  try clear_value stands3
  extract_lets -merge -useContext +onlyGivenNames e4
  try clear_value e4
  refine kept_ite ?_ ?_
  · exact h0
  · refine State.offer_kept (hm.sub rfl) ?_
    refine State.setVal_kept (hm.sub rfl) rfl (hm.bit rfl) ?_
    exact h0

theorem State.hello_kept {m : Nat} {s0 : State} {a0} {a1} {a2} (hm : Sub 946907240790953 m) (h0 : Kept m s0 a0) : Kept m s0 (State.hello a0 a1 a2) := by
  unfold State.hello
  extract_lets -merge -useContext +onlyGivenNames v1
  try clear_value v1
  extract_lets -merge -useContext +onlyGivenNames old2
  try clear_value old2
  refine kept_ite ?_ ?_
  · refine State.raise_kept (hm.sub rfl) rfl (hm.bit rfl) ?_
    refine State.setPeer_kept (hm.sub rfl) ?_
    exact h0
  · refine kept_ite ?_ ?_
    · refine State.cfgErr_kept (hm.sub rfl) rfl (hm.bit rfl) ?_
      refine State.setPeer_kept (hm.sub rfl) ?_
      exact h0
    · extract_lets -merge -useContext +onlyGivenNames s13
      have k_s13 : Kept m s0 s13 := by
        unfold s13
        refine State.setPeer_kept (hm.sub rfl) ?_
        exact h0
      clear_value s13
      split
      · extract_lets -merge -useContext +onlyGivenNames both4
        try clear_value both4
        refine kept_ite ?_ ?_
        · refine State.formPair_kept (hm.sub rfl) ?_
          exact k_s13
        · refine State.meetEpoch_kept (hm.sub rfl) ?_
          exact k_s13
      · refine State.meetEpoch_kept (hm.sub rfl) ?_
        exact k_s13
      · extract_lets -merge -useContext +onlyGivenNames mis5
        try clear_value mis5
        extract_lets -merge -useContext +onlyGivenNames s26
        try clear_value s26
        extract_lets -merge -useContext +onlyGivenNames s27
        have k_s27 : Kept m s0 s27 := by
          unfold s27
          refine kept_chd (hm.bit rfl) ?_
          exact k_s13
        clear_value s27
        extract_lets -merge -useContext +onlyGivenNames s38
        have k_s38 : Kept m s0 s38 := by
          unfold s38
          refine kept_ite ?_ ?_
          · refine State.raise_kept (hm.sub rfl) rfl (hm.bit rfl) ?_
            exact k_s27
          · exact k_s27
        clear_value s38
        extract_lets -merge -useContext +onlyGivenNames s49
        have k_s49 : Kept m s0 s49 := by
          unfold s49
          refine State.meetEpoch_kept (hm.sub rfl) ?_
          exact k_s38
        clear_value s49
        refine kept_ite ?_ ?_
        · refine State.chdSend_kept (hm.sub rfl) ?_
          exact k_s49
        · exact k_s49

theorem execHelloReceived_kept {m : Nat} {a0} {a1} {a2} {a3} {t : State} (hm : Sub 946907240790957 m) (h : execHelloReceived a0 a1 a2 a3 = .next t) : Kept m a3 t := by
  rw [liveAt_next h]
  have h3 : ∀ n, Kept m a3 (a3.advanceNs n) := fun _ => State.advanceNs_kept (hm.sub rfl) kept_refl
  refine State.onChd_kept (hm.sub rfl) ?_ ?_
  · exact (h3 _)
  · intro y1 k2
    refine State.hello_kept (hm.sub rfl) ?_
    exact k2

theorem execChordLaneUp_kept {m : Nat} {a0} {a1} {t : State} (hm : Sub 1048576 m) (h : execChordLaneUp a0 a1 = .next t) : Kept m a1 t := by
  rw [live_next h]
  have h1 : Kept m a1 a1 := kept_refl
  refine kept_ite ?_ ?_
  · exact h1
  · extract_lets -merge -useContext +onlyGivenNames s11
    try clear_value s11
    extract_lets -merge -useContext +onlyGivenNames s12
    have k_s12 : Kept m a1 s12 := by
      unfold s12
      refine kept_chd (hm.bit rfl) ?_
      exact h1
    clear_value s12
    refine kept_ite ?_ ?_
    · refine State.sendHello_kept (hm.sub rfl) ?_
      exact k_s12
    · exact k_s12

theorem execLaneDown_kept {m : Nat} {a0} {a1} {t : State} (hm : Sub 351843722461192 m) (h : execLaneDown a0 a1 = .next t) : Kept m a1 t := by
  rw [live_next h]
  have h1 : Kept m a1 a1 := kept_refl
  refine kept_ite ?_ ?_
  · refine State.raise_kept (hm.sub rfl) rfl (hm.bit rfl) ?_
    refine kept_chd (hm.bit rfl) ?_
    exact h1
  · exact h1

theorem State.heartbeatSend_kept {m : Nat} {s0 : State} {a0} (hm : Sub 281474977759232 m) (h0 : Kept m s0 a0) : Kept m s0 (State.heartbeatSend a0) := by
  unfold State.heartbeatSend
  extract_lets -merge -useContext +onlyGivenNames links1
  try clear_value links1
  extract_lets -merge -useContext +onlyGivenNames again2
  try clear_value again2
  extract_lets -merge -useContext +onlyGivenNames s13
  have k_s13 : Kept m s0 s13 := by
    unfold s13
    refine kept_foldl ?_ ?_
    · exact h0
    · intro x6 y4 k5
      extract_lets -merge -useContext +onlyGivenNames p7
      try clear_value p7
      refine kept_ite ?_ ?_
      · refine kept_ite ?_ ?_
        · refine State.sendHello_kept (hm.sub rfl) ?_
          exact k5
        · exact k5
      · extract_lets -merge -useContext +onlyGivenNames late8
        try clear_value late8
        extract_lets -merge -useContext +onlyGivenNames s29
        have k_s29 : Kept m s0 s29 := by
          unfold s29
          refine kept_ite ?_ ?_
          · refine State.bump_kept (hm.sub rfl) rfl (hm.bit rfl) ?_
            exact k5
          · exact k5
        clear_value s29
        refine State.sendOn_kept (hm.sub rfl) ?_
        exact k_s29
  clear_value s13
  refine kept_ite ?_ ?_
  · refine kept_chd (hm.bit rfl) ?_
    exact k_s13
  · exact k_s13

theorem execHeartbeatSend_kept {m : Nat} {a0} {a1} {t : State} (hm : Sub 281474977759236 m) (h : execHeartbeatSend a0 a1 = .next t) : Kept m a1 t := by
  rw [liveAt_next h]
  have h1 : ∀ n, Kept m a1 (a1.advanceNs n) := fun _ => State.advanceNs_kept (hm.sub rfl) kept_refl
  refine kept_ite ?_ ?_
  · refine State.heartbeatSend_kept (hm.sub rfl) ?_
    exact (h1 _)
  · exact (h1 _)

theorem State.heartbeat_kept {m : Nat} {s0 : State} {a0} {a1} {a2} (hm : Sub 946907240790953 m) (h0 : Kept m s0 a0) : Kept m s0 (State.heartbeat a0 a1 a2) := by
  unfold State.heartbeat
  extract_lets -merge -useContext +onlyGivenNames old1
  try clear_value old1
  extract_lets -merge -useContext +onlyGivenNames s12
  have k_s12 : Kept m s0 s12 := by
    unfold s12
    refine State.meetEpoch_kept (hm.sub rfl) ?_
    refine State.setPeer_kept (hm.sub rfl) ?_
    exact h0
  clear_value s12
  split
  · refine kept_ite ?_ ?_
    · refine kept_chd (hm.bit rfl) ?_
      exact k_s12
    · exact k_s12
  · exact k_s12
  · extract_lets -merge -useContext +onlyGivenNames s23
    have k_s23 : Kept m s0 s23 := by
      unfold s23
      refine State.releaseHeld_kept (hm.sub rfl) ?_
      exact k_s12
    clear_value s23
    extract_lets -merge -useContext +onlyGivenNames s34
    have k_s34 : Kept m s0 s34 := by
      unfold s34
      refine kept_ite ?_ ?_
      · refine State.chdSend_kept (hm.sub rfl) ?_
        exact k_s23
      · exact k_s23
    clear_value s34
    refine kept_ite ?_ ?_
    · refine State.endSearch_kept (hm.sub rfl) ?_
      exact k_s34
    · exact k_s34

theorem execHeartbeatReceived_kept {m : Nat} {a0} {a1} {a2} {a3} {t : State} (hm : Sub 946907240790957 m) (h : execHeartbeatReceived a0 a1 a2 a3 = .next t) : Kept m a3 t := by
  rw [liveAt_next h]
  have h3 : ∀ n, Kept m a3 (a3.advanceNs n) := fun _ => State.advanceNs_kept (hm.sub rfl) kept_refl
  refine State.onChd_kept (hm.sub rfl) ?_ ?_
  · exact (h3 _)
  · intro y1 k2
    refine kept_ite ?_ ?_
    · refine State.heartbeat_kept (hm.sub rfl) ?_
      exact k2
    · exact k2

theorem State.promoteUnit_kept {m : Nat} {s0 : State} {a0} {a1} {a2} {a3} (hm : Sub 914793677979656 m) (h0 : Kept m s0 a0) : Kept m s0 (State.promoteUnit a0 a1 a2 a3) := by
  unfold State.promoteUnit
  extract_lets -merge -useContext +onlyGivenNames e1
  try clear_value e1
  extract_lets -merge -useContext +onlyGivenNames std2
  try clear_value std2
  extract_lets -merge -useContext +onlyGivenNames s13
  have k_s13 : Kept m s0 s13 := by
    unfold s13
    refine State.setVal_kept (hm.sub rfl) rfl (hm.bit rfl) ?_
    exact h0
  clear_value s13
  extract_lets -merge -useContext +onlyGivenNames s24
  have k_s24 : Kept m s0 s24 := by
    unfold s24
    refine State.sendOn_kept (hm.sub rfl) ?_
    exact k_s13
  clear_value s24
  extract_lets -merge -useContext +onlyGivenNames s35
  have k_s35 : Kept m s0 s35 := by
    unfold s35
    refine State.sendOn_kept (hm.sub rfl) ?_
    exact k_s24
  clear_value s35
  extract_lets -merge -useContext +onlyGivenNames s46
  have k_s46 : Kept m s0 s46 := by
    unfold s46
    refine State.setPeer_kept (hm.sub rfl) ?_
    exact k_s35
  clear_value s46
  extract_lets -merge -useContext +onlyGivenNames s57
  have k_s57 : Kept m s0 s57 := by
    unfold s57
    refine State.setPeer_kept (hm.sub rfl) ?_
    exact k_s46
  clear_value s57
  extract_lets -merge -useContext +onlyGivenNames s68
  try clear_value s68
  extract_lets -merge -useContext +onlyGivenNames s69
  have k_s69 : Kept m s0 s69 := by
    unfold s69
    refine kept_chd (hm.bit rfl) ?_
    exact k_s57
  clear_value s69
  refine State.offer_kept (hm.sub rfl) ?_
  refine State.bump_kept (hm.sub rfl) rfl (hm.bit rfl) ?_
  exact k_s69

theorem State.evaluate_kept {m : Nat} {s0 : State} {a0} (hm : Sub 914793677979656 m) (h0 : Kept m s0 a0) : Kept m s0 (State.evaluate a0) := by
  unfold State.evaluate
  split
  · exact h0
  · extract_lets -merge -useContext +onlyGivenNames a1
    try clear_value a1
    extract_lets -merge -useContext +onlyGivenNames b2
    try clear_value b2
    refine kept_ite ?_ ?_
    · exact h0
    · extract_lets -merge -useContext +onlyGivenNames near3
      try clear_value near3
      refine kept_ite ?_ ?_
      · refine State.promoteUnit_kept (hm.sub rfl) ?_
        exact h0
      · refine kept_chd (hm.bit rfl) ?_
        exact h0

theorem execRefereeEvaluate_kept {m : Nat} {a0} {a1} {t : State} (hm : Sub 914793677979660 m) (h : execRefereeEvaluate a0 a1 = .next t) : Kept m a1 t := by
  rw [liveAt_next h]
  have h1 : ∀ n, Kept m a1 (a1.advanceNs n) := fun _ => State.advanceNs_kept (hm.sub rfl) kept_refl
  refine kept_ite ?_ ?_
  · refine State.evaluate_kept (hm.sub rfl) ?_
    exact (h1 _)
  · exact (h1 _)

theorem State.markTaken_kept {m : Nat} {s0 : State} {a0} (hm : Sub 128 m) (h0 : Kept m s0 a0) : Kept m s0 (State.markTaken a0) := by
  unfold State.markTaken
  refine kept_foldl ?_ ?_
  · exact h0
  · intro x3 y1 k2
    extract_lets -merge -useContext +onlyGivenNames c4
    try clear_value c4
    refine State.setSc_kept (hm.sub rfl) ?_
    exact k2

theorem State.takeSnaps_kept {m : Nat} {s0 : State} {a0} {a1} {a2} (hm : Sub 968463656519307 m) (h0 : Kept m s0 a0) : Kept m s0 (State.takeSnaps a0 a1 a2) := by
  induction a2 generalizing a0 with
  | zero => exact h0
  | succ n ih =>
    unfold State.takeSnaps
    split
    · exact h0
    · extract_lets -merge -useContext +onlyGivenNames s11
      have k_s11 : Kept m s0 s11 := by
        unfold s11
        refine kept_ite ?_ ?_
        · refine State.followFinal_kept (hm.sub rfl) ?_
          exact h0
        · refine kept_ite ?_ ?_
          · exact h0
          · refine kept_ite ?_ ?_
            · refine State.waitPromotion_kept (hm.sub rfl) ?_
              exact h0
            · refine State.releaseFinal_kept (hm.sub rfl) ?_
              exact h0
      clear_value s11
      split
      · refine kept_ite ?_ ?_
        · exact k_s11
        · refine ih ?_
          exact k_s11
      · exact k_s11

theorem State.promoted_kept {m : Nat} {s0 : State} {a0} {a1} {a2} (hm : Sub 982916246667179 m) (h0 : Kept m s0 a0) : Kept m s0 (State.promoted a0 a1 a2) := by
  unfold State.promoted
  extract_lets -merge -useContext +onlyGivenNames s01
  try clear_value s01
  extract_lets -merge -useContext +onlyGivenNames s02
  have k_s02 : Kept m s0 s02 := by
    unfold s02
    refine kept_sys (hm.bit rfl) ?_
    exact h0
  clear_value s02
  extract_lets -merge -useContext +onlyGivenNames s13
  have k_s13 : Kept m s0 s13 := by
    unfold s13
    refine State.enterWith_kept (hm.sub rfl) ?_ ?_
    · refine State.abandonSwitch_kept (hm.sub rfl) ?_
      refine State.markTaken_kept (hm.sub rfl) ?_
      exact k_s02
    · intro y4 k5
      extract_lets -merge -useContext +onlyGivenNames t6
      try clear_value t6
      extract_lets -merge -useContext +onlyGivenNames t7
      have k_t7 : Kept m s0 t7 := by
        unfold t7
        refine kept_chd (hm.bit rfl) ?_
        exact k5
      clear_value t7
      refine State.setRole_kept (hm.sub rfl) ?_
      refine State.setVal_kept (hm.sub rfl) rfl (hm.bit rfl) ?_
      exact k_t7
  clear_value s13
  extract_lets -merge -useContext +onlyGivenNames s28
  have k_s28 : Kept m s0 s28 := by
    unfold s28
    refine State.raise_kept (hm.sub rfl) rfl (hm.bit rfl) ?_
    refine State.bump_kept (hm.sub rfl) rfl (hm.bit rfl) ?_
    refine State.setVal_kept (hm.sub rfl) rfl (hm.bit rfl) ?_
    refine State.setVal_kept (hm.sub rfl) rfl (hm.bit rfl) ?_
    exact k_s13
  clear_value s28
  extract_lets -merge -useContext +onlyGivenNames s39
  have k_s39 : Kept m s0 s39 := by
    unfold s39
    refine State.offer_kept (hm.sub rfl) ?_
    exact k_s28
  clear_value s39
  refine kept_foldl ?_ ?_
  · exact k_s39
  · intro x12 y10 k11
    refine State.takeSnaps_kept (hm.sub rfl) ?_
    exact k11

theorem execPromote_kept {m : Nat} {a0} {a1} {a2} {a3} {a4} {t : State} (hm : Sub 982916246667183 m) (h : execPromote a0 a1 a2 a3 a4 = .next t) : Kept m a4 t := by
  rw [liveAt_next h]
  have h4 : ∀ n, Kept m a4 (a4.advanceNs n) := fun _ => State.advanceNs_kept (hm.sub rfl) kept_refl
  refine State.onChd_kept (hm.sub rfl) ?_ ?_
  · exact (h4 _)
  · intro y1 k2
    refine kept_ite ?_ ?_
    · refine State.promoted_kept (hm.sub rfl) ?_
      exact k2
    · exact k2

theorem execChordLost_kept {m : Nat} {a0} {a1} {t : State} (hm : Sub 914797989724172 m) (h : execChordLost a0 a1 = .next t) : Kept m a1 t := by
  rw [liveAt_next h]
  have h1 : ∀ n, Kept m a1 (a1.advanceNs n) := fun _ => State.advanceNs_kept (hm.sub rfl) kept_refl
  refine kept_ite ?_ ?_
  · exact (h1 _)
  · extract_lets -merge -useContext +onlyGivenNames s11
    try clear_value s11
    extract_lets -merge -useContext +onlyGivenNames s12
    have k_s12 : Kept m a1 s12 := by
      unfold s12
      refine State.raise_kept (hm.sub rfl) rfl (hm.bit rfl) ?_
      refine State.setPeer_kept (hm.sub rfl) ?_
      exact (h1 _)
    clear_value s12
    extract_lets -merge -useContext +onlyGivenNames s23
    have k_s23 : Kept m a1 s23 := by
      unfold s23
      refine kept_ite ?_ ?_
      · refine State.loseSync_kept (hm.sub rfl) ?_
        exact k_s12
      · exact k_s12
    clear_value s23
    refine State.releaseHeld_kept (hm.sub rfl) ?_
    exact k_s23

theorem execRefereeLost_kept {m : Nat} {a0} {a1} {t : State} (hm : Sub 351843721412620 m) (h : execRefereeLost a0 a1 = .next t) : Kept m a1 t := by
  rw [liveAt_next h]
  have h1 : ∀ n, Kept m a1 (a1.advanceNs n) := fun _ => State.advanceNs_kept (hm.sub rfl) kept_refl
  refine kept_ite ?_ ?_
  · exact (h1 _)
  · refine State.raise_kept (hm.sub rfl) rfl (hm.bit rfl) ?_
    exact (h1 _)

theorem switchBody_kept {m : Nat} {s0 : State} {a0} {a1} {a2} {a3} (hm : Sub 1048576 m) (h3 : Kept m s0 a3) : Kept m s0 ((switchBody a0 a1 a2 a3).1) := by
  unfold switchBody
  refine kept_ite_fst ?_ ?_
  · refine kept_mkp_fst ?_
    exact h3
  · refine kept_ite_fst ?_ ?_
    · refine kept_mkp_fst ?_
      exact h3
    · refine kept_ite_fst ?_ ?_
      · refine kept_mkp_fst ?_
        exact h3
      · refine kept_ite_fst ?_ ?_
        · refine kept_mkp_fst ?_
          exact h3
        · extract_lets -merge -useContext +onlyGivenNames x1
          try clear_value x1
          extract_lets -merge -useContext +onlyGivenNames s12
          try clear_value s12
          extract_lets -merge -useContext +onlyGivenNames s13
          have k_s13 : Kept m s0 s13 := by
            unfold s13
            refine kept_chd (hm.bit rfl) ?_
            exact h3
          clear_value s13
          refine kept_mkp_fst ?_
          refine State.chdSend_kept (hm.sub rfl) ?_
          exact k_s13

theorem State.switchover_kept {m : Nat} {s0 : State} {a0} {a1} (hm : Sub 633323013013512 m) (h0 : Kept m s0 a0) : Kept m s0 (State.switchover a0 a1) := by
  unfold State.switchover
  refine State.hostCmd_kept (hm.sub rfl) ?_ ?_
  · exact h0
  · intro y1 k2
    refine switchBody_kept (hm.sub rfl) ?_
    exact k2

theorem State.switchback_kept {m : Nat} {s0 : State} {a0} {a1} (hm : Sub 633323013013512 m) (h0 : Kept m s0 a0) : Kept m s0 (State.switchback a0 a1) := by
  unfold State.switchback
  refine State.hostCmd_kept (hm.sub rfl) ?_ ?_
  · exact h0
  · intro y1 k2
    refine switchBody_kept (hm.sub rfl) ?_
    exact k2

theorem execSwitchover_kept {m : Nat} {a0} {a1} {t : State} (hm : Sub 633323013013512 m) (h : execSwitchover a0 a1 = .next t) : Kept m a1 t := by
  rw [live_next h]
  have h1 : Kept m a1 a1 := kept_refl
  refine State.switchover_kept (hm.sub rfl) ?_
  exact h1

theorem execSwitchback_kept {m : Nat} {a0} {a1} {t : State} (hm : Sub 633323013013512 m) (h : execSwitchback a0 a1 = .next t) : Kept m a1 t := by
  rw [live_next h]
  have h1 : Kept m a1 a1 := kept_refl
  refine State.switchback_kept (hm.sub rfl) ?_
  exact h1

theorem State.switchMsg_kept {m : Nat} {s0 : State} {a0} {a1} (hm : Sub 1048576 m) (h0 : Kept m s0 a0) : Kept m s0 (State.switchMsg a0 a1) := by
  unfold State.switchMsg
  split
  · refine kept_ite ?_ ?_
    · refine State.chdSend_kept (hm.sub rfl) ?_
      refine kept_chd (hm.bit rfl) ?_
      exact h0
    · exact h0
  · refine kept_ite ?_ ?_
    · refine kept_chd (hm.bit rfl) ?_
      exact h0
    · exact h0
  · exact h0

theorem execSwitchMsg_kept {m : Nat} {a0} {a1} {a2} {a3} {t : State} (hm : Sub 946907240790957 m) (h : execSwitchMsg a0 a1 a2 a3 = .next t) : Kept m a3 t := by
  rw [liveAt_next h]
  have h3 : ∀ n, Kept m a3 (a3.advanceNs n) := fun _ => State.advanceNs_kept (hm.sub rfl) kept_refl
  refine State.onChd_kept (hm.sub rfl) ?_ ?_
  · exact (h3 _)
  · intro y1 k2
    split
    · refine State.switchMsg_kept (hm.sub rfl) ?_
      refine State.meetEpoch_kept (hm.sub rfl) ?_
      exact k2
    · exact k2

theorem State.handOver_kept {m : Nat} {s0 : State} {a0} {a1} (hm : Sub 946907240790953 m) (h0 : Kept m s0 a0) : Kept m s0 (State.handOver a0 a1) := by
  unfold State.handOver
  extract_lets -merge -useContext +onlyGivenNames s11
  have k_s11 : Kept m s0 s11 := by
    unfold s11
    refine State.enterWith_kept (hm.sub rfl) ?_ ?_
    · exact h0
    · intro y2 k3
      extract_lets -merge -useContext +onlyGivenNames t4
      try clear_value t4
      extract_lets -merge -useContext +onlyGivenNames t5
      have k_t5 : Kept m s0 t5 := by
        unfold t5
        refine kept_chd (hm.bit rfl) ?_
        exact k3
      clear_value t5
      refine State.setRole_kept (hm.sub rfl) ?_
      refine State.setVal_kept (hm.sub rfl) rfl (hm.bit rfl) ?_
      exact k_t5
  clear_value s11
  extract_lets -merge -useContext +onlyGivenNames s26
  have k_s26 : Kept m s0 s26 := by
    unfold s26
    refine State.releaseHeld_kept (hm.sub rfl) ?_
    refine State.bump_kept (hm.sub rfl) rfl (hm.bit rfl) ?_
    exact k_s11
  clear_value s26
  split
  · refine State.complete_kept (hm.sub rfl) ?_
    refine kept_chd (hm.bit rfl) ?_
    exact k_s26
  · exact k_s26

theorem State.takeOver_kept {m : Nat} {s0 : State} {a0} {a1} (hm : Sub 946907240790953 m) (h0 : Kept m s0 a0) : Kept m s0 (State.takeOver a0 a1) := by
  unfold State.takeOver
  extract_lets -merge -useContext +onlyGivenNames s01
  try clear_value s01
  extract_lets -merge -useContext +onlyGivenNames s02
  have k_s02 : Kept m s0 s02 := by
    unfold s02
    refine kept_sys (hm.bit rfl) ?_
    exact h0
  clear_value s02
  extract_lets -merge -useContext +onlyGivenNames s13
  have k_s13 : Kept m s0 s13 := by
    unfold s13
    refine State.enterWith_kept (hm.sub rfl) ?_ ?_
    · exact k_s02
    · intro y4 k5
      extract_lets -merge -useContext +onlyGivenNames t6
      try clear_value t6
      extract_lets -merge -useContext +onlyGivenNames t7
      have k_t7 : Kept m s0 t7 := by
        unfold t7
        refine kept_chd (hm.bit rfl) ?_
        exact k5
      clear_value t7
      refine State.setRole_kept (hm.sub rfl) ?_
      refine State.setVal_kept (hm.sub rfl) rfl (hm.bit rfl) ?_
      exact k_t7
  clear_value s13
  refine State.bump_kept (hm.sub rfl) rfl (hm.bit rfl) ?_
  exact k_s13

theorem State.atHandover_kept {m : Nat} {s0 : State} {a0} (hm : Sub 946907240790953 m) (h0 : Kept m s0 a0) : Kept m s0 (State.atHandover a0) := by
  unfold State.atHandover
  split
  · exact h0
  · refine kept_ite ?_ ?_
    · exact h0
    · split
      · refine kept_ite ?_ ?_
        · refine State.handOver_kept (hm.sub rfl) ?_
          exact h0
        · refine State.abandonSwitch_kept (hm.sub rfl) ?_
          exact h0
      · refine kept_ite ?_ ?_
        · refine State.takeOver_kept (hm.sub rfl) ?_
          exact h0
        · refine State.abandonSwitch_kept (hm.sub rfl) ?_
          exact h0
      · refine State.abandonSwitch_kept (hm.sub rfl) ?_
        exact h0

theorem execHandoverInstant_kept {m : Nat} {a0} {a1} {t : State} (hm : Sub 946907240790957 m) (h : execHandoverInstant a0 a1 = .next t) : Kept m a1 t := by
  rw [liveAt_next h]
  have h1 : ∀ n, Kept m a1 (a1.advanceNs n) := fun _ => State.advanceNs_kept (hm.sub rfl) kept_refl
  refine State.atHandover_kept (hm.sub rfl) ?_
  exact (h1 _)


end Sys2Proof.Machine
end

