-- ==== Sys2Proof/Laws/KeptTransfer.lean ====
section
/-!
SUPPORT. What each operation of Machine/Transfer.lean may change: one lemma per operation, its mask of parts and register blocks in `hm`.
-/
namespace Sys2Proof.Machine

theorem State.onPartner_kept {m : Nat} {s0 : State} {a0} {a1} {a2} {a3} (hm : Sub 946907240790953 m) (h0 : Kept m s0 a0) (h3 : ∀ y0, Kept m s0 y0 → Kept m s0 (a3 y0)) : Kept m s0 (State.onPartner a0 a1 a2 a3) := by
  unfold State.onPartner
  refine State.onChd_kept (hm.sub rfl) ?_ ?_
  · exact h0
  · intro y1 k2
    split
    · refine kept_ite ?_ ?_
      · refine h3 _ ?_
        refine State.meetEpoch_kept (hm.sub rfl) ?_
        exact k2
      · exact k2
    · exact k2

theorem State.askMissing_kept {m : Nat} {s0 : State} {a0} {a1} {a2} (hm : Sub 281474977759232 m) (h0 : Kept m s0 a0) : Kept m s0 (State.askMissing a0 a1 a2) := by
  unfold State.askMissing
  split
  · extract_lets -merge -useContext +onlyGivenNames ms1
    try clear_value ms1
    refine kept_ite ?_ ?_
    · exact h0
    · extract_lets -merge -useContext +onlyGivenNames ds2
      try clear_value ds2
      refine State.chdSend_kept (hm.sub rfl) ?_
      refine State.bumpBy_kept (hm.sub rfl) rfl (hm.bit rfl) ?_
      refine kept_chd (hm.bit rfl) ?_
      exact h0
  · exact h0

theorem State.takeDigest_kept {m : Nat} {s0 : State} {a0} {a1} {a2} (hm : Sub 968463656519307 m) (h0 : Kept m s0 a0) : Kept m s0 (State.takeDigest a0 a1 a2) := by
  unfold State.takeDigest
  refine kept_ite ?_ ?_
  · exact h0
  · extract_lets -merge -useContext +onlyGivenNames w1
    try clear_value w1
    extract_lets -merge -useContext +onlyGivenNames s12
    have k_s12 : Kept m s0 s12 := by
      unfold s12
      refine State.dropDigest_kept (hm.sub rfl) ?_
      exact h0
    clear_value s12
    extract_lets -merge -useContext +onlyGivenNames s23
    try clear_value s23
    extract_lets -merge -useContext +onlyGivenNames s24
    have k_s24 : Kept m s0 s24 := by
      unfold s24
      refine kept_chd (hm.bit rfl) ?_
      exact k_s12
    clear_value s24
    refine State.askMissing_kept (hm.sub rfl) ?_
    refine State.followDigests_kept (hm.sub rfl) ?_
    exact k_s24

theorem execDigest_kept {m : Nat} {a0} {a1} {a2} {a3} {t : State} (hm : Sub 982916246667183 m) (h : execDigest a0 a1 a2 a3 = .next t) : Kept m a3 t := by
  rw [liveAt_next h]
  have h3 : ∀ n, Kept m a3 (a3.advanceNs n) := fun _ => State.advanceNs_kept (hm.sub rfl) kept_refl
  refine State.onPartner_kept (hm.sub rfl) ?_ ?_
  · exact (h3 _)
  · intro y1 k2
    refine State.takeDigest_kept (hm.sub rfl) ?_
    exact k2

theorem execProvdig_kept {m : Nat} {a0} {a1} {a2} {a3} {t : State} (hm : Sub 982916246667183 m) (h : execProvdig a0 a1 a2 a3 = .next t) : Kept m a3 t := by
  rw [liveAt_next h]
  have h3 : ∀ n, Kept m a3 (a3.advanceNs n) := fun _ => State.advanceNs_kept (hm.sub rfl) kept_refl
  refine State.onPartner_kept (hm.sub rfl) ?_ ?_
  · exact (h3 _)
  · intro y1 k2
    refine kept_ite ?_ ?_
    · refine State.takeDigest_kept (hm.sub rfl) ?_
      exact k2
    · exact k2

theorem State.mirrorOut_kept {m : Nat} {s0 : State} {a0} {a1} {a2} {a3} (hm : Sub 281474977759232 m) (h0 : Kept m s0 a0) : Kept m s0 (State.mirrorOut a0 a1 a2 a3) := by
  unfold State.mirrorOut
  refine kept_foldl ?_ ?_
  · exact h0
  · intro x3 y1 k2
    split
    · refine State.chdSend_kept (hm.sub rfl) ?_
      refine State.bump_kept (hm.sub rfl) rfl (hm.bit rfl) ?_
      exact k2
    · exact k2

theorem execMissreq_kept {m : Nat} {a0} {a1} {a2} {a3} {a4} {a5} {t : State} (hm : Sub 946907240790957 m) (h : execMissreq a0 a1 a2 a3 a4 a5 = .next t) : Kept m a5 t := by
  rw [liveAt_next h]
  have h5 : ∀ n, Kept m a5 (a5.advanceNs n) := fun _ => State.advanceNs_kept (hm.sub rfl) kept_refl
  refine State.onPartner_kept (hm.sub rfl) ?_ ?_
  · exact (h5 _)
  · intro y1 k2
    refine kept_ite ?_ ?_
    · refine State.mirrorOut_kept (hm.sub rfl) ?_
      exact k2
    · exact k2

theorem State.mirrorIn_kept {m : Nat} {s0 : State} {a0} {a1} {a2} {a3} {a4} (hm : Sub 968463656519307 m) (h0 : Kept m s0 a0) : Kept m s0 (State.mirrorIn a0 a1 a2 a3 a4) := by
  unfold State.mirrorIn
  split
  · exact h0
  · split
    · exact h0
    · refine kept_ite ?_ ?_
      · exact h0
      · refine State.followDigests_kept (hm.sub rfl) ?_
        refine State.putSnap_kept (hm.sub rfl) ?_
        exact h0

theorem execMirror_kept {m : Nat} {a0} {a1} {a2} {a3} {a4} {a5} {a6} {t : State} (hm : Sub 982916246667183 m) (h : execMirror a0 a1 a2 a3 a4 a5 a6 = .next t) : Kept m a6 t := by
  rw [liveAt_next h]
  have h6 : ∀ n, Kept m a6 (a6.advanceNs n) := fun _ => State.advanceNs_kept (hm.sub rfl) kept_refl
  refine State.onPartner_kept (hm.sub rfl) ?_ ?_
  · exact (h6 _)
  · intro y1 k2
    refine State.mirrorIn_kept (hm.sub rfl) ?_
    exact k2

theorem State.mirwait_kept {m : Nat} {s0 : State} {a0} {a1} {a2} (hm : Sub 968463656519307 m) (h0 : Kept m s0 a0) : Kept m s0 (State.mirwait a0 a1 a2) := by
  unfold State.mirwait
  extract_lets -merge -useContext +onlyGivenNames waited1
  split
  · exact h0
  · refine kept_ite ?_ ?_
    · exact h0
    · split
      · refine kept_ite ?_ ?_
        · refine State.loseSync_kept (hm.sub rfl) ?_
          refine State.raise_kept (hm.sub rfl) rfl (hm.bit rfl) ?_
          refine State.followFinal_kept (hm.sub rfl) ?_
          exact h0
        · exact h0
      · refine kept_ite ?_ ?_
        · refine State.loseSync_kept (hm.sub rfl) ?_
          refine State.raise_kept (hm.sub rfl) rfl (hm.bit rfl) ?_
          refine State.followProv_kept (hm.sub rfl) ?_
          exact h0
        · exact h0
      · exact h0

theorem execMirwaitExpiry_kept {m : Nat} {a0} {a1} {a2} {a3} {t : State} (hm : Sub 968463656519311 m) (h : execMirwaitExpiry a0 a1 a2 a3 = .next t) : Kept m a3 t := by
  rw [liveAt_next h]
  have h3 : ∀ n, Kept m a3 (a3.advanceNs n) := fun _ => State.advanceNs_kept (hm.sub rfl) kept_refl
  refine State.mirwait_kept (hm.sub rfl) ?_
  exact (h3 _)

theorem State.mirrorSources_kept {m : Nat} {s0 : State} {a0} {a1} {a2} {a3} (hm : Sub 281509404606656 m) (h0 : Kept m s0 a0) : Kept m s0 (State.mirrorSources a0 a1 a2 a3) := by
  unfold State.mirrorSources
  refine kept_ite ?_ ?_
  · refine addBody_kept (hm.sub rfl) ?_
    exact h0
  · extract_lets -merge -useContext +onlyGivenNames s11
    have k_s11 : Kept m s0 s11 := by
      unfold s11
      refine removeBody_kept (hm.sub rfl) ?_
      exact h0
    clear_value s11
    refine State.setFld_kept (hm.sub rfl) rfl (hm.bit rfl) ?_
    refine kept_ing (hm.bit rfl) ?_
    exact k_s11

theorem State.mirrorMembers_kept {m : Nat} {s0 : State} {a0} {a1} {a2} (hm : Sub 1048704 m) (h0 : Kept m s0 a0) : Kept m s0 (State.mirrorMembers a0 a1 a2) := by
  unfold State.mirrorMembers
  extract_lets -merge -useContext +onlyGivenNames ms1
  try clear_value ms1
  extract_lets -merge -useContext +onlyGivenNames c2
  try clear_value c2
  refine kept_ite ?_ ?_
  · refine State.setSc_kept (hm.sub rfl) ?_
    exact h0
  · refine kept_chd (hm.bit rfl) ?_
    exact h0

theorem State.mirrorAck_kept {m : Nat} {s0 : State} {a0} {a1} {a2} {a3} (hm : Sub 634418211883016 m) (h0 : Kept m s0 a0) : Kept m s0 (State.mirrorAck a0 a1 a2 a3) := by
  unfold State.mirrorAck
  extract_lets -merge -useContext +onlyGivenNames ch1
  try clear_value ch1
  refine State.evalChan_kept (hm.sub rfl) ?_
  refine State.setChan_kept (hm.sub rfl) ?_
  exact h0

theorem State.applyDelta_kept {m : Nat} {s0 : State} {a0} {a1} (hm : Sub 18446744069485465576 m) (h0 : Kept m s0 a0) : Kept m s0 (State.applyDelta a0 a1) := by
  unfold State.applyDelta
  split
  · refine State.detWrite_kept (hm.sub rfl) ?_
    exact h0
  · refine State.modWrite_kept (hm.sub rfl) ?_
    exact h0
  · refine kept_ite ?_ ?_
    · exact h0
    · refine State.swapBegin_kept (hm.sub rfl) ?_
      exact h0
  · refine State.setVal_kept (hm.sub rfl) rfl (hm.all rfl _) ?_
    exact h0
  · refine State.setStream_kept (hm.sub rfl) ?_
    exact h0
  · refine State.setSc_kept (hm.sub rfl) ?_
    refine State.setPstate_kept (hm.sub rfl) ?_
    exact h0
  · refine kept_foldl ?_ ?_
    · exact h0
    · intro x3 y1 k2
      refine State.setBaseline_kept (hm.sub rfl) ?_
      exact k2
  · refine State.almAll_kept (hm.sub rfl) ?_
    refine State.setVal_kept (hm.sub rfl) rfl (hm.all rfl _) ?_
    exact h0
  · refine State.publish_kept (hm.sub rfl) ?_
    refine State.updPins_kept (hm.sub rfl) ?_
    refine kept_foldl ?_ ?_
    · exact h0
    · intro x6 y4 k5
      refine State.mirrorAck_kept (hm.sub rfl) ?_
      exact k5
  · refine State.setVal_kept (hm.sub rfl) rfl (hm.bit rfl) ?_
    refine kept_foldl ?_ ?_
    · exact h0
    · intro x9 y7 k8
      refine State.setVal_kept (hm.sub rfl) (show _ / 1048576 % 32 = 8 by unfold Reg.ALM_GPjSQ; omega) (hm.bit rfl) ?_
      refine State.setVal_kept (hm.sub rfl) (show _ / 1048576 % 32 = 8 by unfold Reg.ALM_GPjST; omega) (hm.bit rfl) ?_
      exact k8
  · refine State.mirrorSources_kept (hm.sub rfl) ?_
    exact h0
  · refine State.mirrorMembers_kept (hm.sub rfl) ?_
    exact h0
  · refine State.setFld_kept (hm.sub rfl) rfl (hm.bit rfl) ?_
    refine kept_topo (hm.bit rfl) ?_
    exact h0
  · refine kept_chd (hm.bit rfl) ?_
    exact h0
  · refine kept_chd (hm.bit rfl) ?_
    exact h0
  · extract_lets -merge -useContext +onlyGivenNames p10
    try clear_value p10
    refine kept_det (hm.bit rfl) ?_
    exact h0

theorem execDelta_kept {m : Nat} {a0} {a1} {a2} {a3} {a4} {t : State} (hm : Sub 18446744069510660077 m) (h : execDelta a0 a1 a2 a3 a4 = .next t) : Kept m a4 t := by
  rw [liveAt_next h]
  have h4 : ∀ n, Kept m a4 (a4.advanceNs n) := fun _ => State.advanceNs_kept (hm.sub rfl) kept_refl
  refine State.onPartner_kept (hm.sub rfl) ?_ ?_
  · exact (h4 _)
  · intro y1 k2
    refine kept_ite ?_ ?_
    · extract_lets -merge -useContext +onlyGivenNames s13
      have k_s13 : Kept m a4 s13 := by
        unfold s13
        refine State.applyDelta_kept (hm.sub rfl) ?_
        exact k2
      clear_value s13
      refine State.bump_kept (hm.sub rfl) rfl (hm.bit rfl) ?_
      refine kept_chd (hm.bit rfl) ?_
      exact k_s13
    · exact k2

theorem State.sendParts_kept {m : Nat} {s0 : State} {a0} {a1} {a2} {a3} (hm : Sub 1048576 m) (h0 : Kept m s0 a0) : Kept m s0 (State.sendParts a0 a1 a2 a3) := by
  induction a2 generalizing a0 a1 a3 with
  | zero => exact h0
  | succ n ih =>
    unfold State.sendParts
    exact kept_ite h0 (ih (State.chdSend_kept (hm.sub rfl) h0))

theorem State.transferOut_kept {m : Nat} {s0 : State} {a0} (hm : Sub 281474977759232 m) (h0 : Kept m s0 a0) : Kept m s0 (State.transferOut a0) := by
  unfold State.transferOut
  extract_lets -merge -useContext +onlyGivenNames l1
  try clear_value l1
  extract_lets -merge -useContext +onlyGivenNames s12
  have k_s12 : Kept m s0 s12 := by
    unfold s12
    refine State.sendParts_kept (hm.sub rfl) ?_
    exact h0
  clear_value s12
  refine State.bump_kept (hm.sub rfl) rfl (hm.bit rfl) ?_
  refine State.chdSend_kept (hm.sub rfl) ?_
  exact k_s12

theorem execSyncreq_kept {m : Nat} {a0} {a1} {a2} {t : State} (hm : Sub 946907240790957 m) (h : execSyncreq a0 a1 a2 = .next t) : Kept m a2 t := by
  rw [liveAt_next h]
  have h2 : ∀ n, Kept m a2 (a2.advanceNs n) := fun _ => State.advanceNs_kept (hm.sub rfl) kept_refl
  refine State.onPartner_kept (hm.sub rfl) ?_ ?_
  · exact (h2 _)
  · intro y1 k2
    refine kept_ite ?_ ?_
    · refine State.transferOut_kept (hm.sub rfl) ?_
      exact k2
    · exact k2

theorem State.transferClear_kept {m : Nat} {s0 : State} {a0} (hm : Sub 1052481 m) (h0 : Kept m s0 a0) : Kept m s0 (State.transferClear a0) := by
  unfold State.transferClear
  extract_lets -merge -useContext +onlyGivenNames z1
  have k_z1 : ∀ y0 y1 y2, Kept m s0 y2 → Kept m s0 (z1 y0 y1 y2) := by
    intro y2 y3 y4 k5
    unfold z1
    refine State.putDev_kept (hm.sub rfl) ?_
    exact k5
  clear_value z1
  extract_lets -merge -useContext +onlyGivenNames s16
  have k_s16 : Kept m s0 s16 := by
    unfold s16
    refine kept_foldl ?_ ?_
    · exact h0
    · intro x9 y7 k8
      refine k_z1 _ _ _ ?_
      exact k8
  clear_value s16
  extract_lets -merge -useContext +onlyGivenNames s210
  have k_s210 : Kept m s0 s210 := by
    unfold s210
    refine kept_foldl ?_ ?_
    · exact k_s16
    · intro x13 y11 k12
      refine k_z1 _ _ _ ?_
      exact k12
  clear_value s210
  refine kept_mk ?_ (.inr rfl) (.inr rfl) (.inr rfl) (.inr rfl) (.inl (hm.bit rfl)) (.inr rfl) (.inl (hm.bit rfl)) (.inl (hm.bit rfl)) (.inl (hm.bit rfl)) (.inl (hm.bit rfl)) (.inr rfl) (.inr rfl) (.inr rfl) (.inr rfl) (.inr rfl) (.inr rfl) (.inr rfl) (.inr rfl) (.inl (hm.bit rfl)) (.inr rfl) (.inr rfl) (.inr rfl) (.inr rfl) (.inr rfl) (.inr rfl) (.inr rfl)
  exact k_s210

theorem State.putEntry_kept {m : Nat} {s0 : State} {a0} {a1} (hm : Sub 67108928 m) (h0 : Kept m s0 a0) : Kept m s0 (State.putEntry a0 a1) := by
  unfold State.putEntry
  extract_lets -merge -useContext +onlyGivenNames e1
  try clear_value e1
  refine kept_ite ?_ ?_
  · refine kept_ing (hm.bit rfl) ?_
    exact h0
  · split
    · extract_lets -merge -useContext +onlyGivenNames s12
      try clear_value s12
      extract_lets -merge -useContext +onlyGivenNames s13
      have k_s13 : Kept m s0 s13 := by
        unfold s13
        refine kept_ing (hm.bit rfl) ?_
        exact h0
      clear_value s13
      refine kept_ite ?_ ?_
      · refine State.request_kept (hm.sub rfl) ?_
        exact k_s13
      · exact k_s13
    · exact h0

theorem State.takeItem_kept {m : Nat} {s0 : State} {a0} {a1} (hm : Sub 18446744069482811329 m) (h0 : Kept m s0 a0) : Kept m s0 (State.takeItem a0 a1) := by
  unfold State.takeItem
  split
  · refine State.setVal_kept (hm.sub rfl) rfl (hm.all rfl _) ?_
    exact h0
  · refine State.putEntry_kept (hm.sub rfl) ?_
    exact h0
  · refine State.putDev_kept (hm.sub rfl) ?_
    exact h0
  · refine State.setHull_kept (hm.sub rfl) ?_
    exact h0
  · extract_lets -merge -useContext +onlyGivenNames m1
    try clear_value m1
    refine kept_topo (hm.bit rfl) ?_
    exact h0
  · refine State.setStream_kept (hm.sub rfl) ?_
    exact h0
  · refine State.setChan_kept (hm.sub rfl) ?_
    exact h0
  · extract_lets -merge -useContext +onlyGivenNames c2
    try clear_value c2
    refine State.setChan_kept (hm.sub rfl) ?_
    exact h0
  · refine State.setSc_kept (hm.sub rfl) ?_
    refine State.setPstate_kept (hm.sub rfl) ?_
    exact h0
  · refine State.setBaseline_kept (hm.sub rfl) ?_
    exact h0
  · refine kept_ite ?_ ?_
    · refine kept_det (hm.bit rfl) ?_
      exact h0
    · refine kept_det (hm.bit rfl) ?_
      exact h0
  · refine kept_ite ?_ ?_
    · refine kept_modal (hm.bit rfl) ?_
      exact h0
    · refine kept_modal (hm.bit rfl) ?_
      exact h0
  · refine kept_lat (hm.bit rfl) ?_
    exact h0
  · extract_lets -merge -useContext +onlyGivenNames old3
    try clear_value old3
    refine kept_det (hm.bit rfl) ?_
    exact h0
  · extract_lets -merge -useContext +onlyGivenNames x4
    try clear_value x4
    refine kept_det (hm.bit rfl) ?_
    exact h0
  · refine kept_det (hm.bit rfl) ?_
    exact h0
  · extract_lets -merge -useContext +onlyGivenNames x5
    try clear_value x5
    refine kept_det (hm.bit rfl) ?_
    exact h0
  · extract_lets -merge -useContext +onlyGivenNames p6
    try clear_value p6
    refine kept_det (hm.bit rfl) ?_
    exact h0
  · refine kept_det (hm.bit rfl) ?_
    exact h0
  · extract_lets -merge -useContext +onlyGivenNames x7
    try clear_value x7
    refine kept_modal (hm.bit rfl) ?_
    exact h0
  · extract_lets -merge -useContext +onlyGivenNames x8
    try clear_value x8
    refine kept_modal (hm.bit rfl) ?_
    exact h0
  · extract_lets -merge -useContext +onlyGivenNames x9
    try clear_value x9
    refine kept_modal (hm.bit rfl) ?_
    exact h0
  · refine kept_modal (hm.bit rfl) ?_
    exact h0
  · refine kept_modal (hm.bit rfl) ?_
    exact h0
  · refine kept_chd (hm.bit rfl) ?_
    exact h0

theorem execStatePart_kept {m : Nat} {a0} {a1} {a2} {a3} {a4} {t : State} (hm : Sub 18446744069510660077 m) (h : execStatePart a0 a1 a2 a3 a4 = .next t) : Kept m a4 t := by
  rw [liveAt_next h]
  have h4 : ∀ n, Kept m a4 (a4.advanceNs n) := fun _ => State.advanceNs_kept (hm.sub rfl) kept_refl
  refine State.onPartner_kept (hm.sub rfl) ?_ ?_
  · exact (h4 _)
  · intro y1 k2
    refine kept_ite ?_ ?_
    · refine kept_foldl ?_ ?_
      · refine kept_ite ?_ ?_
        · refine State.transferClear_kept (hm.sub rfl) ?_
          exact k2
        · exact k2
      · intro x5 y3 k4
        refine State.takeItem_kept (hm.sub rfl) ?_
        exact k4
    · exact k2

theorem State.almSettle_kept {m : Nat} {s0 : State} {a0} (hm : Sub 2048 m) (h0 : Kept m s0 a0) : Kept m s0 (State.almSettle a0) := by
  unfold State.almSettle
  refine State.updPins_kept (hm.sub rfl) ?_
  refine kept_foldl ?_ ?_
  · exact h0
  · intro x3 y1 k2
    extract_lets -merge -useContext +onlyGivenNames ch4
    try clear_value ch4
    extract_lets -merge -useContext +onlyGivenNames cs5
    try clear_value cs5
    extract_lets -merge -useContext +onlyGivenNames on6
    try clear_value on6
    extract_lets -merge -useContext +onlyGivenNames pin7
    try clear_value pin7
    extract_lets -merge -useContext +onlyGivenNames active8
    try clear_value active8
    refine State.setChan_kept (hm.sub rfl) ?_
    exact k2

theorem State.syncdone_kept {m : Nat} {s0 : State} {a0} {a1} (hm : Sub 351843722463240 m) (h0 : Kept m s0 a0) : Kept m s0 (State.syncdone a0 a1) := by
  unfold State.syncdone
  extract_lets -merge -useContext +onlyGivenNames named1
  try clear_value named1
  extract_lets -merge -useContext +onlyGivenNames s12
  try clear_value s12
  extract_lets -merge -useContext +onlyGivenNames s13
  have k_s13 : Kept m s0 s13 := by
    unfold s13
    refine State.bump_kept (hm.sub rfl) rfl (hm.bit rfl) ?_
    refine State.almSettle_kept (hm.sub rfl) ?_
    refine kept_chd (hm.bit rfl) ?_
    exact h0
  clear_value s13
  refine kept_ite ?_ ?_
  · exact k_s13
  · refine kept_ite ?_ ?_
    · refine State.event_kept (hm.sub rfl) ?_
      refine kept_chd (hm.bit rfl) ?_
      exact k_s13
    · refine kept_chd (hm.bit rfl) ?_
      exact k_s13

theorem execSyncdone_kept {m : Nat} {a0} {a1} {a2} {a3} {t : State} (hm : Sub 946907240790957 m) (h : execSyncdone a0 a1 a2 a3 = .next t) : Kept m a3 t := by
  rw [liveAt_next h]
  have h3 : ∀ n, Kept m a3 (a3.advanceNs n) := fun _ => State.advanceNs_kept (hm.sub rfl) kept_refl
  refine State.onPartner_kept (hm.sub rfl) ?_ ?_
  · exact (h3 _)
  · intro y1 k2
    refine kept_ite ?_ ?_
    · refine State.syncdone_kept (hm.sub rfl) ?_
      exact k2
    · exact k2


end Sys2Proof.Machine
end

