-- ==== Sys2Proof/Laws/KeptViews.lean ====
section
/-!
SUPPORT. What each operation of Machine/Views.lean may change: one lemma per operation, its mask of parts and register blocks in `hm`.
-/
namespace Sys2Proof.Machine

theorem State.readRc_kept {m : Nat} {s0 : State} {a0} {a1} {a2} {k1} (hm : Sub 16777216 m) (b1a : a1 / 1048576 % 32 = k1) (b1b : m.testBit (32 + k1) = true) (h0 : Kept m s0 a0) : Kept m s0 (State.readRc a0 a1 a2) := by
  unfold State.readRc
  refine State.answer_kept (hm.sub rfl) ?_
  refine State.setVal_kept (hm.sub rfl) b1a b1b ?_
  exact h0

theorem State.readReg_kept {m : Nat} {s0 : State} {a0} {a1} {a2} {k2} (hm : Sub 164926761881776 m) (b2a : a2 / 1048576 % 32 = k2) (b2b : m.testBit (32 + k2) = true) (h0 : Kept m s0 a0) : Kept m s0 (State.readReg a0 a1 a2) := by
  unfold State.readReg
  extract_lets -merge -useContext +onlyGivenNames plain1
  have k_plain1 : Kept m s0 plain1 := by
    unfold plain1
    refine kept_ite ?_ ?_
    · refine State.readRc_kept (hm.sub rfl) b2a b2b ?_
      exact h0
    · refine State.answer_kept (hm.sub rfl) ?_
      exact h0
  clear_value plain1
  split
  · refine kept_ite ?_ ?_
    · refine State.readNow_kept (hm.sub rfl) ?_
      exact h0
    · refine kept_ite ?_ ?_
      · refine State.readNow_kept (hm.sub rfl) ?_
        exact h0
      · refine kept_ite ?_ ?_
        · refine State.readTdc_kept (hm.sub rfl) ?_
          exact h0
        · exact k_plain1
  · refine kept_ite ?_ ?_
    · refine State.readTxStamp_kept (hm.sub rfl) ?_
      exact h0
    · exact k_plain1
  · refine kept_ite ?_ ?_
    · refine State.readLast_kept (hm.sub rfl) ?_
      exact h0
    · exact k_plain1
  · refine kept_ite ?_ ?_
    · refine State.readAuxdata_kept (hm.sub rfl) ?_
      exact h0
    · exact k_plain1
  · refine kept_ite ?_ ?_
    · refine State.readCval_kept (hm.sub rfl) ?_
      exact h0
    · exact k_plain1
  · refine kept_ite ?_ ?_
    · refine State.readCyclo_kept (hm.sub rfl) ?_
      exact h0
    · exact k_plain1
  · refine kept_ite ?_ ?_
    · refine State.readMval_kept (hm.sub rfl) ?_
      exact h0
    · exact k_plain1
  · refine kept_ite ?_ ?_
    · refine State.claimOf_kept (hm.sub rfl) ?_
      exact h0
    · exact k_plain1
  · refine kept_ite ?_ ?_
    · refine State.tskNext_kept (hm.sub rfl) ?_
      exact h0
    · exact k_plain1
  · exact k_plain1


end Sys2Proof.Machine
end

