-- ==== Sys2Proof/Laws/KeptRegWrite.lean ====
section
/-!
SUPPORT. What each operation of Machine/RegWrite.lean may change: one lemma per operation, its mask of parts and register blocks in `hm`.
-/
namespace Sys2Proof.Machine

theorem State.writeIf_kept {m : Nat} {s0 : State} {a0} {a1} {a2} {a3} {a4} {k1} {k3} (hm : Sub 70368744701960 m) (b1a : a1.addr / 1048576 % 32 = k1) (b1b : m.testBit (32 + k1) = true) (b3a : a3 / 1048576 % 32 = k3) (b3b : m.testBit (32 + k3) = true) (h0 : Kept m s0 a0) : Kept m s0 (State.writeIf a0 a1 a2 a3 a4) := by
  unfold State.writeIf
  refine kept_ite ?_ ?_
  · refine State.plainWrite_kept (hm.sub rfl) b1a b1b b3a b3b ?_
    exact h0
  · refine State.cfgErr_kept (hm.sub rfl) b1a b1b ?_
    exact h0

theorem State.writeAon_kept {m : Nat} {s0 : State} {a0} {a1} {a2} {a3} {k2} (hm : Sub 70373039669256 m) (b2a : a2 / 1048576 % 32 = k2) (b2b : m.testBit (32 + k2) = true) (h0 : Kept m s0 a0) : Kept m s0 (State.writeAon a0 a1 a2 a3) := by
  unfold State.writeAon
  refine kept_ite ?_ ?_
  · extract_lets -merge -useContext +onlyGivenNames s11
    have k_s11 : Kept m s0 s11 := by
      unfold s11
      refine State.plainWrite_kept (hm.sub rfl) rfl (hm.bit rfl) b2a b2b ?_
      exact h0
    clear_value s11
    refine State.aonPut_kept (hm.sub rfl) ?_
    exact k_s11
  · refine State.cfgErr_kept (hm.sub rfl) rfl (hm.bit rfl) ?_
    exact h0

theorem State.writeSys_kept {m : Nat} {s0 : State} {a0} {a1} {a2} {k1} (hm : Sub 18446744069448138749 m) (b1a : a1 / 1048576 % 32 = k1) (b1b : m.testBit (32 + k1) = true) (h0 : Kept m s0 a0) : Kept m s0 (State.writeSys a0 a1 a2) := by
  unfold State.writeSys
  refine kept_ite ?_ ?_
  · refine kept_ite ?_ ?_
    · refine State.cfgErr_kept (hm.sub rfl) rfl (hm.bit rfl) ?_
      exact h0
    · refine State.writeAon_kept (hm.sub rfl) b1a b1b ?_
      exact h0
  · refine kept_ite ?_ ?_
    · refine State.writeAon_kept (hm.sub rfl) b1a b1b ?_
      exact h0
    · refine kept_ite ?_ ?_
      · refine State.writeAon_kept (hm.sub rfl) b1a b1b ?_
        exact h0
      · refine kept_ite ?_ ?_
        · refine State.writeAon_kept (hm.sub rfl) b1a b1b ?_
          exact h0
        · refine kept_ite ?_ ?_
          · refine State.writeIf_kept (hm.sub rfl) rfl (hm.bit rfl) b1a b1b ?_
            exact h0
          · refine kept_ite ?_ ?_
            · refine State.writeRstcmd_kept (hm.sub rfl) ?_
              exact h0
            · refine kept_ite ?_ ?_
              · refine kept_sys (hm.bit rfl) ?_
                exact h0
              · refine kept_ite ?_ ?_
                · refine State.writeTrimreload_kept (hm.sub rfl) ?_
                  exact h0
                · refine kept_ite ?_ ?_
                  · refine kept_ite ?_ ?_
                    · refine State.syncAsked_kept (hm.sub rfl) ?_
                      exact h0
                    · exact h0
                  · refine State.plainWrite_kept (hm.sub rfl) rfl (hm.bit rfl) b1a b1b ?_
                    exact h0

theorem State.writeCmp_kept {m : Nat} {s0 : State} {a0} {a1} {a2} {a3} {k2} (hm : Sub 70377334636568 m) (b2a : a2 / 1048576 % 32 = k2) (b2b : m.testBit (32 + k2) = true) (h0 : Kept m s0 a0) : Kept m s0 (State.writeCmp a0 a1 a2 a3) := by
  unfold State.writeCmp
  extract_lets -merge -useContext +onlyGivenNames n1
  try clear_value n1
  refine State.cmpWrite_kept (hm.sub rfl) ?_ ?_
  · exact h0
  · intro y2 k3
    refine kept_ite ?_ ?_
    · refine State.writeCmpCtl_kept (hm.sub rfl) ?_
      exact k3
    · refine kept_ite ?_ ?_
      · refine State.writeCmpTgt_kept (hm.sub rfl) ?_
        exact k3
      · refine kept_ite ?_ ?_
        · refine State.writeIf_kept (hm.sub rfl) rfl (hm.bit rfl) b2a b2b ?_
          exact k3
        · refine State.plainWrite_kept (hm.sub rfl) rfl (hm.bit rfl) b2a b2b ?_
          exact k3

theorem State.writeTb_kept {m : Nat} {s0 : State} {a0} {a1} {a2} {a3} {k2} (hm : Sub 70377334636568 m) (b2a : a2 / 1048576 % 32 = k2) (b2b : m.testBit (32 + k2) = true) (h0 : Kept m s0 a0) : Kept m s0 (State.writeTb a0 a1 a2 a3) := by
  unfold State.writeTb
  refine kept_ite ?_ ?_
  · refine State.writeTbCtl_kept (hm.sub rfl) ?_
    exact h0
  · refine kept_ite ?_ ?_
    · refine State.writeIncri_kept (hm.sub rfl) ?_
      exact h0
    · refine kept_ite ?_ ?_
      · refine State.writeStepcmd_kept (hm.sub rfl) ?_
        exact h0
      · refine kept_ite ?_ ?_
        · refine State.writeLeapshi_kept (hm.sub rfl) ?_
          exact h0
        · refine kept_ite ?_ ?_
          · refine State.writeHolderr_kept (hm.sub rfl) ?_
            exact h0
          · refine kept_ite ?_ ?_
            · refine State.writeCmp_kept (hm.sub rfl) b2a b2b ?_
              exact h0
            · refine kept_ite ?_ ?_
              · refine State.writeIf_kept (hm.sub rfl) rfl (hm.bit rfl) b2a b2b ?_
                exact h0
              · refine kept_ite ?_ ?_
                · refine State.writeIf_kept (hm.sub rfl) rfl (hm.bit rfl) b2a b2b ?_
                  exact h0
                · refine State.plainWrite_kept (hm.sub rfl) rfl (hm.bit rfl) b2a b2b ?_
                  exact h0

theorem State.keepWrite_kept {m : Nat} {s0 : State} {a0} {a1} {a2} {a3} {k1} {k2} (hm : Sub 70368744701960 m) (b1a : a1.addr / 1048576 % 32 = k1) (b1b : m.testBit (32 + k1) = true) (b2a : a2 / 1048576 % 32 = k2) (b2b : m.testBit (32 + k2) = true) (h0 : Kept m s0 a0) : Kept m s0 (State.keepWrite a0 a1 a2 a3) := by
  unfold State.keepWrite
  split
  · exact h0
  · extract_lets -merge -useContext +onlyGivenNames new1
    try clear_value new1
    extract_lets -merge -useContext +onlyGivenNames s12
    have k_s12 : Kept m s0 s12 := by
      unfold s12
      refine State.setReg_kept (hm.sub rfl) b2a b2b ?_
      exact h0
    clear_value s12
    refine kept_ite ?_ ?_
    · exact k_s12
    · refine State.cfgErr_kept (hm.sub rfl) b1a b1b ?_
      exact k_s12

theorem State.writeEth_kept {m : Nat} {s0 : State} {a0} {a1} {a2} {k1} (hm : Sub 70385924571176 m) (b1a : a1 / 1048576 % 32 = k1) (b1b : m.testBit (32 + k1) = true) (h0 : Kept m s0 a0) : Kept m s0 (State.writeEth a0 a1 a2) := by
  unfold State.writeEth
  extract_lets -merge -useContext +onlyGivenNames n1
  try clear_value n1
  refine kept_ite ?_ ?_
  · exact h0
  · refine kept_ite ?_ ?_
    · refine State.writePortCtl_kept (hm.sub rfl) ?_
      exact h0
    · refine kept_ite ?_ ?_
      · refine State.writePreempt_kept (hm.sub rfl) ?_
        exact h0
      · refine State.keepWrite_kept (hm.sub rfl) (show _ / 1048576 % 32 = 2 by unfold E.ETH Reg.ETH_PnERRSTAT; simp only []; omega) (hm.bit rfl) b1a b1b ?_
        exact h0

theorem State.writePolicy_kept {m : Nat} {s0 : State} {a0} {a1} {a2} {k1} (hm : Sub 351912441937928 m) (b1a : a1 / 1048576 % 32 = k1) (b1b : m.testBit (32 + k1) = true) (h0 : Kept m s0 a0) : Kept m s0 (State.writePolicy a0 a1 a2) := by
  unfold State.writePolicy
  extract_lets -merge -useContext +onlyGivenNames s11
  have k_s11 : Kept m s0 s11 := by
    unfold s11
    refine State.plainWrite_kept (hm.sub rfl) rfl (hm.bit rfl) b1a b1b ?_
    exact h0
  clear_value s11
  refine kept_ite ?_ ?_
  · refine State.sendDelta_kept (hm.sub rfl) ?_
    exact k_s11
  · exact k_s11

theorem State.writeClass_kept {m : Nat} {s0 : State} {a0} {a1} {a2} {a3} {k2} (hm : Sub 914862397456520 m) (b2a : a2 / 1048576 % 32 = k2) (b2b : m.testBit (32 + k2) = true) (h0 : Kept m s0 a0) : Kept m s0 (State.writeClass a0 a1 a2 a3) := by
  unfold State.writeClass
  refine kept_ite ?_ ?_
  · extract_lets -merge -useContext +onlyGivenNames rate1
    try clear_value rate1
    refine State.writeIf_kept (hm.sub rfl) rfl (hm.bit rfl) b2a b2b ?_
    exact h0
  · refine kept_ite ?_ ?_
    · refine State.writeIf_kept (hm.sub rfl) rfl (hm.bit rfl) b2a b2b ?_
      exact h0
    · refine kept_ite ?_ ?_
      · refine State.writeIf_kept (hm.sub rfl) rfl (hm.bit rfl) b2a b2b ?_
        exact h0
      · refine kept_ite ?_ ?_
        · refine State.writeLevel_kept (hm.sub rfl) ?_
          exact h0
        · refine kept_ite ?_ ?_
          · refine State.writePolicy_kept (hm.sub rfl) b2a b2b ?_
            exact h0
          · refine State.plainWrite_kept (hm.sub rfl) rfl (hm.bit rfl) b2a b2b ?_
            exact h0

theorem State.writeSnap_kept {m : Nat} {s0 : State} {a0} {a1} {a2} {k1} (hm : Sub 914862397456520 m) (b1a : a1 / 1048576 % 32 = k1) (b1b : m.testBit (32 + k1) = true) (h0 : Kept m s0 a0) : Kept m s0 (State.writeSnap a0 a1 a2) := by
  unfold State.writeSnap
  refine kept_ite ?_ ?_
  · refine State.writeIf_kept (hm.sub rfl) rfl (hm.bit rfl) b1a b1b ?_
    exact h0
  · refine kept_ite ?_ ?_
    · refine State.writeIf_kept (hm.sub rfl) rfl (hm.bit rfl) b1a b1b ?_
      exact h0
    · refine kept_ite ?_ ?_
      · refine State.writePwval_kept (hm.sub rfl) ?_
        exact h0
      · refine kept_ite ?_ ?_
        · refine State.writePolicy_kept (hm.sub rfl) b1a b1b ?_
          exact h0
        · refine kept_ite ?_ ?_
          · refine State.writeClass_kept (hm.sub rfl) b1a b1b ?_
            exact h0
          · refine State.plainWrite_kept (hm.sub rfl) rfl (hm.bit rfl) b1a b1b ?_
            exact h0

theorem State.writeTopo_kept {m : Nat} {s0 : State} {a0} {a1} {a2} {k1} (hm : Sub 70506183655432 m) (b1a : a1 / 1048576 % 32 = k1) (b1b : m.testBit (32 + k1) = true) (h0 : Kept m s0 a0) : Kept m s0 (State.writeTopo a0 a1 a2) := by
  unfold State.writeTopo
  refine State.writeIf_kept (hm.sub rfl) rfl (hm.bit rfl) b1a b1b ?_
  exact h0

theorem State.writeDet_kept {m : Nat} {s0 : State} {a0} {a1} {a2} {k1} (hm : Sub 352118600368648 m) (b1a : a1 / 1048576 % 32 = k1) (b1b : m.testBit (32 + k1) = true) (h0 : Kept m s0 a0) : Kept m s0 (State.writeDet a0 a1 a2) := by
  unfold State.writeDet
  refine kept_ite ?_ ?_
  · extract_lets -merge -useContext +onlyGivenNames s11
    have k_s11 : Kept m s0 s11 := by
      unfold s11
      refine kept_ite ?_ ?_
      · refine State.detTcmdWrite_kept (hm.sub rfl) ?_
        exact h0
      · exact h0
    clear_value s11
    refine kept_ite ?_ ?_
    · refine State.detTcmdRead_kept (hm.sub rfl) ?_
      exact k_s11
    · exact k_s11
  · refine kept_ite ?_ ?_
    · refine State.writeDetParam_kept (hm.sub rfl) ?_
      exact h0
    · refine State.plainWrite_kept (hm.sub rfl) rfl (hm.bit rfl) b1a b1b ?_
      exact h0

theorem State.writeModal_kept {m : Nat} {s0 : State} {a0} {a1} {a2} {k1} (hm : Sub 352393478276104 m) (b1a : a1 / 1048576 % 32 = k1) (b1b : m.testBit (32 + k1) = true) (h0 : Kept m s0 a0) : Kept m s0 (State.writeModal a0 a1 a2) := by
  unfold State.writeModal
  refine kept_ite ?_ ?_
  · extract_lets -merge -useContext +onlyGivenNames s11
    have k_s11 : Kept m s0 s11 := by
      unfold s11
      refine kept_ite ?_ ?_
      · refine State.modTcmdWrite_kept (hm.sub rfl) ?_
        exact h0
      · exact h0
    clear_value s11
    refine kept_ite ?_ ?_
    · refine State.modTcmdRead_kept (hm.sub rfl) ?_
      exact k_s11
    · exact k_s11
  · refine kept_ite ?_ ?_
    · refine State.writeModParam_kept (hm.sub rfl) ?_
      exact h0
    · refine State.plainWrite_kept (hm.sub rfl) rfl (hm.bit rfl) b1a b1b ?_
      exact h0

theorem State.writeAlm_kept {m : Nat} {s0 : State} {a0} {a1} {a2} {k1} (hm : Sub 18446744069418289192 m) (b1a : a1 / 1048576 % 32 = k1) (b1b : m.testBit (32 + k1) = true) (h0 : Kept m s0 a0) : Kept m s0 (State.writeAlm a0 a1 a2) := by
  unfold State.writeAlm
  split
  · refine State.writeAlc_kept (hm.sub rfl) ?_
    exact h0
  · refine kept_ite ?_ ?_
    · refine kept_ite ?_ ?_
      · refine State.writeDincfg_kept (hm.sub rfl) ?_
        exact h0
      · refine State.cfgErr_kept (hm.sub rfl) rfl (hm.bit rfl) ?_
        exact h0
    · refine kept_ite ?_ ?_
      · refine State.almAll_kept (hm.sub rfl) ?_
        refine State.plainWrite_kept (hm.sub rfl) rfl (hm.bit rfl) b1a b1b ?_
        exact h0
      · refine kept_ite ?_ ?_
        · refine State.updPins_kept (hm.sub rfl) ?_
          refine State.plainWrite_kept (hm.sub rfl) rfl (hm.bit rfl) b1a b1b ?_
          exact h0
        · refine State.plainWrite_kept (hm.sub rfl) rfl (hm.bit rfl) b1a b1b ?_
          exact h0

theorem State.writeAfe_kept {m : Nat} {s0 : State} {a0} {a1} {a2} {k1} (hm : Sub 72567767961608 m) (b1a : a1 / 1048576 % 32 = k1) (b1b : m.testBit (32 + k1) = true) (h0 : Kept m s0 a0) : Kept m s0 (State.writeAfe a0 a1 a2) := by
  unfold State.writeAfe
  refine kept_ite ?_ ?_
  · refine State.writeMchen_kept (hm.sub rfl) ?_
    exact h0
  · refine kept_ite ?_ ?_
    · refine State.writeAuxcfg_kept (hm.sub rfl) ?_
      exact h0
    · refine kept_ite ?_ ?_
      · refine State.writeAuxcmd_kept (hm.sub rfl) ?_
        exact h0
      · refine kept_ite ?_ ?_
        · refine State.writeIf_kept (hm.sub rfl) rfl (hm.bit rfl) b1a b1b ?_
          exact h0
        · refine State.plainWrite_kept (hm.sub rfl) rfl (hm.bit rfl) b1a b1b ?_
          exact h0

theorem State.writeFlt_kept {m : Nat} {s0 : State} {a0} {a1} {a2} {k1} (hm : Sub 74766791221256 m) (b1a : a1 / 1048576 % 32 = k1) (b1b : m.testBit (32 + k1) = true) (h0 : Kept m s0 a0) : Kept m s0 (State.writeFlt a0 a1 a2) := by
  unfold State.writeFlt
  extract_lets -merge -useContext +onlyGivenNames c1
  try clear_value c1
  extract_lets -merge -useContext +onlyGivenNames k2
  try clear_value k2
  refine kept_ite ?_ ?_
  · refine State.writeFltCfg_kept (hm.sub rfl) ?_
    exact h0
  · refine kept_ite ?_ ?_
    · refine State.writeBankcmd_kept (hm.sub rfl) ?_
      exact h0
    · refine kept_ite ?_ ?_
      · refine State.writeCsel_kept (hm.sub rfl) ?_
        exact h0
      · refine kept_ite ?_ ?_
        · refine State.writeCval_kept (hm.sub rfl) ?_
          exact h0
        · refine kept_ite ?_ ?_
          · refine kept_ite ?_ ?_
            · refine State.writeChain_kept (hm.sub rfl) b1a b1b ?_
              exact h0
            · refine kept_ite ?_ ?_
              · refine State.writePtrim_kept (hm.sub rfl) ?_
                exact h0
              · refine State.plainWrite_kept (hm.sub rfl) rfl (hm.bit rfl) b1a b1b ?_
                exact h0
          · refine kept_ite ?_ ?_
            · refine State.writeLane_kept (hm.sub rfl) b1a b1b ?_
              exact h0
            · refine State.plainWrite_kept (hm.sub rfl) rfl (hm.bit rfl) b1a b1b ?_
              exact h0

theorem State.writeMtr_kept {m : Nat} {s0 : State} {a0} {a1} {a2} {k1} (hm : Sub 642114793259016 m) (b1a : a1 / 1048576 % 32 = k1) (b1b : m.testBit (32 + k1) = true) (h0 : Kept m s0 a0) : Kept m s0 (State.writeMtr a0 a1 a2) := by
  unfold State.writeMtr
  extract_lets -merge -useContext +onlyGivenNames n1
  try clear_value n1
  extract_lets -merge -useContext +onlyGivenNames gain2
  try clear_value gain2
  extract_lets -merge -useContext +onlyGivenNames off3
  try clear_value off3
  refine kept_ite ?_ ?_
  · refine State.writeMtrCtl_kept (hm.sub rfl) ?_
    exact h0
  · refine kept_ite ?_ ?_
    · refine State.writeIf_kept (hm.sub rfl) rfl (hm.bit rfl) b1a b1b ?_
      exact h0
    · refine kept_ite ?_ ?_
      · refine State.writeClrcmd_kept (hm.sub rfl) ?_
        exact h0
      · refine kept_ite ?_ ?_
        · refine State.writeCal_kept (hm.sub rfl) b1a b1b ?_
          exact h0
        · refine kept_ite ?_ ?_
          · refine State.writePulse_kept (hm.sub rfl) b1a b1b ?_
            exact h0
          · refine State.plainWrite_kept (hm.sub rfl) rfl (hm.bit rfl) b1a b1b ?_
            exact h0

theorem State.writeCap_kept {m : Nat} {s0 : State} {a0} {a1} {a2} {k1} (hm : Sub 87960997888009 m) (b1a : a1 / 1048576 % 32 = k1) (b1b : m.testBit (32 + k1) = true) (h0 : Kept m s0 a0) : Kept m s0 (State.writeCap a0 a1 a2) := by
  unfold State.writeCap
  extract_lets -merge -useContext +onlyGivenNames b1
  try clear_value b1
  refine kept_ite ?_ ?_
  · refine State.writeCapCtl_kept (hm.sub rfl) ?_
    exact h0
  · refine kept_ite ?_ ?_
    · refine State.writeHosttrig_kept (hm.sub rfl) ?_
      exact h0
    · refine kept_ite ?_ ?_
      · refine State.writeCapRelease_kept (hm.sub rfl) ?_
        exact h0
      · refine kept_ite ?_ ?_
        · refine State.writeCapStop_kept (hm.sub rfl) ?_
          exact h0
        · refine kept_ite ?_ ?_
          · refine State.writeMval_kept (hm.sub rfl) ?_
            exact h0
          · refine kept_ite ?_ ?_
            · refine kept_ite ?_ ?_
              · refine kept_ite ?_ ?_
                · refine State.cfgErr_kept (hm.sub rfl) rfl (hm.bit rfl) ?_
                  exact h0
                · refine State.writeCapBuf_kept (hm.sub rfl) b1a b1b ?_
                  exact h0
              · refine kept_ite ?_ ?_
                · refine State.writeCapBuf_kept (hm.sub rfl) b1a b1b ?_
                  exact h0
                · refine State.plainWrite_kept (hm.sub rfl) rfl (hm.bit rfl) b1a b1b ?_
                  exact h0
            · refine kept_ite ?_ ?_
              · refine State.writeCapBuf_kept (hm.sub rfl) b1a b1b ?_
                exact h0
              · refine State.plainWrite_kept (hm.sub rfl) rfl (hm.bit rfl) b1a b1b ?_
                exact h0

theorem State.writeLat_kept {m : Nat} {s0 : State} {a0} {a1} {a2} {k1} (hm : Sub 387990167291144 m) (b1a : a1 / 1048576 % 32 = k1) (b1b : m.testBit (32 + k1) = true) (h0 : Kept m s0 a0) : Kept m s0 (State.writeLat a0 a1 a2) := by
  unfold State.writeLat
  refine kept_ite ?_ ?_
  · refine State.writeLatCtl_kept (hm.sub rfl) ?_
    exact h0
  · refine kept_ite ?_ ?_
    · refine State.writeSwapcmd_kept (hm.sub rfl) ?_
      exact h0
    · refine kept_ite ?_ ?_
      · refine State.writeQcmd_kept (hm.sub rfl) ?_
        exact h0
      · refine State.plainWrite_kept (hm.sub rfl) rfl (hm.bit rfl) b1a b1b ?_
        exact h0

theorem State.writeEvcCtl_kept {m : Nat} {s0 : State} {a0} {a1} (hm : Sub 70368744701960 m) (h0 : Kept m s0 a0) : Kept m s0 (State.writeEvcCtl a0 a1) := by
  unfold State.writeEvcCtl
  extract_lets -merge -useContext +onlyGivenNames was1
  try clear_value was1
  extract_lets -merge -useContext +onlyGivenNames s12
  have k_s12 : Kept m s0 s12 := by
    unfold s12
    refine State.plainWrite_kept (hm.sub rfl) rfl (hm.bit rfl) rfl (hm.bit rfl) ?_
    exact h0
  clear_value s12
  extract_lets -merge -useContext +onlyGivenNames on3
  try clear_value on3
  refine kept_ite ?_ ?_
  · refine kept_evc (hm.bit rfl) ?_
    exact k_s12
  · refine kept_ite ?_ ?_
    · refine kept_foldl ?_ ?_
      · exact k_s12
      · intro x6 y4 k5
        extract_lets -merge -useContext +onlyGivenNames t7
        try clear_value t7
        split
        · refine State.setTarget_kept (hm.sub rfl) ?_
          exact k5
        · exact k5
    · exact k_s12

theorem State.writeTarget_kept {m : Nat} {s0 : State} {a0} {a1} {a2} {a3} {k2} (hm : Sub 70368761479176 m) (b2a : a2 / 1048576 % 32 = k2) (b2b : m.testBit (32 + k2) = true) (h0 : Kept m s0 a0) : Kept m s0 (State.writeTarget a0 a1 a2 a3) := by
  unfold State.writeTarget
  refine kept_ite ?_ ?_
  · refine State.refreshSleep_kept (hm.sub rfl) ?_
    refine State.plainWrite_kept (hm.sub rfl) rfl (hm.bit rfl) b2a b2b ?_
    exact h0
  · refine kept_ite ?_ ?_
    · refine State.writeIf_kept (hm.sub rfl) rfl (hm.bit rfl) b2a b2b ?_
      exact h0
    · refine kept_ite ?_ ?_
      · refine State.doneOf_kept (hm.sub rfl) ?_
        exact h0
      · refine kept_ite ?_ ?_
        · refine kept_ite ?_ ?_
          · refine State.resetStack_kept (hm.sub rfl) ?_
            exact h0
          · exact h0
        · refine State.plainWrite_kept (hm.sub rfl) rfl (hm.bit rfl) b2a b2b ?_
          exact h0

theorem State.writeEvc_kept {m : Nat} {s0 : State} {a0} {a1} {a2} {k1} (hm : Sub 70368761479176 m) (b1a : a1 / 1048576 % 32 = k1) (b1b : m.testBit (32 + k1) = true) (h0 : Kept m s0 a0) : Kept m s0 (State.writeEvc a0 a1 a2) := by
  unfold State.writeEvc
  refine kept_ite ?_ ?_
  · refine State.writeEvcCtl_kept (hm.sub rfl) ?_
    exact h0
  · refine kept_ite ?_ ?_
    · refine State.writeSrccfg_kept (hm.sub rfl) ?_
      exact h0
    · refine kept_ite ?_ ?_
      · refine State.writeSwset_kept (hm.sub rfl) ?_
        exact h0
      · refine kept_ite ?_ ?_
        · refine State.writeSwclr_kept (hm.sub rfl) ?_
          exact h0
        · refine kept_ite ?_ ?_
          · refine State.writeTarget_kept (hm.sub rfl) b1a b1b ?_
            exact h0
          · refine State.plainWrite_kept (hm.sub rfl) rfl (hm.bit rfl) b1a b1b ?_
            exact h0

theorem State.writeTskCtl_kept {m : Nat} {s0 : State} {a0} {a1} (hm : Sub 211106233188360 m) (h0 : Kept m s0 a0) : Kept m s0 (State.writeTskCtl a0 a1) := by
  unfold State.writeTskCtl
  extract_lets -merge -useContext +onlyGivenNames s11
  have k_s11 : Kept m s0 s11 := by
    unfold s11
    refine State.plainWrite_kept (hm.sub rfl) rfl (hm.bit rfl) rfl (hm.bit rfl) ?_
    exact h0
  clear_value s11
  refine kept_ite ?_ ?_
  · exact k_s11
  · refine kept_foldl ?_ ?_
    · exact k_s11
    · intro x4 y2 k3
      refine State.clearPreempt_kept (hm.sub rfl) ?_
      exact k3

theorem State.writeTsk_kept {m : Nat} {s0 : State} {a0} {a1} {a2} {a3} {k2} (hm : Sub 211106233450504 m) (b2a : a2 / 1048576 % 32 = k2) (b2b : m.testBit (32 + k2) = true) (h0 : Kept m s0 a0) : Kept m s0 (State.writeTsk a0 a1 a2 a3) := by
  unfold State.writeTsk
  refine kept_ite ?_ ?_
  · refine State.writeTskCtl_kept (hm.sub rfl) ?_
    exact h0
  · refine kept_ite ?_ ?_
    · refine State.onTask_kept (hm.sub rfl) ?_ ?_
      · exact h0
      · intro y1 y2 k3
        refine State.tskReady_kept (hm.sub rfl) ?_
        exact k3
    · refine kept_ite ?_ ?_
      · refine State.onTask_kept (hm.sub rfl) ?_ ?_
        · exact h0
        · intro y4 y5 k6
          refine State.tskCancel_kept (hm.sub rfl) ?_
          exact k6
      · refine kept_ite ?_ ?_
        · refine State.onTask_kept (hm.sub rfl) ?_ ?_
          · exact h0
          · intro y7 y8 k9
            refine State.tskDelay_kept (hm.sub rfl) ?_
            exact k9
        · refine kept_ite ?_ ?_
          · refine State.onTask_kept (hm.sub rfl) ?_ ?_
            · exact h0
            · intro y10 y11 k12
              refine State.tskDone_kept (hm.sub rfl) ?_
              exact k12
          · refine kept_ite ?_ ?_
            · refine State.onTask_kept (hm.sub rfl) ?_ ?_
              · exact h0
              · intro y13 y14 k15
                refine State.tskDone_kept (hm.sub rfl) ?_
                exact k15
            · refine kept_ite ?_ ?_
              · refine State.writeDval_kept (hm.sub rfl) ?_
                exact h0
              · refine State.plainWrite_kept (hm.sub rfl) rfl (hm.bit rfl) b2a b2b ?_
                exact h0

theorem State.writeLdg_kept {m : Nat} {s0 : State} {a0} {a1} {a2} {k1} (hm : Sub 633318700220424 m) (b1a : a1 / 1048576 % 32 = k1) (b1b : m.testBit (32 + k1) = true) (h0 : Kept m s0 a0) : Kept m s0 (State.writeLdg a0 a1 a2) := by
  unfold State.writeLdg
  refine kept_ite ?_ ?_
  · refine State.writeRdcmd_kept (hm.sub rfl) ?_
    exact h0
  · refine State.plainWrite_kept (hm.sub rfl) rfl (hm.bit rfl) b1a b1b ?_
    exact h0

theorem State.writeUpd_kept {m : Nat} {s0 : State} {a0} {a1} {a2} {k1} (hm : Sub 2322168566775816 m) (b1a : a1 / 1048576 % 32 = k1) (b1b : m.testBit (32 + k1) = true) (h0 : Kept m s0 a0) : Kept m s0 (State.writeUpd a0 a1 a2) := by
  unfold State.writeUpd
  refine kept_ite ?_ ?_
  · refine kept_ite ?_ ?_
    · refine State.abortSession_kept (hm.sub rfl) ?_
      exact h0
    · exact h0
  · refine State.plainWrite_kept (hm.sub rfl) rfl (hm.bit rfl) b1a b1b ?_
    exact h0

theorem State.writeNoc_kept {m : Nat} {s0 : State} {a0} {a1} {a2} {k1} (hm : Sub 9077567999442952 m) (b1a : a1 / 1048576 % 32 = k1) (b1b : m.testBit (32 + k1) = true) (h0 : Kept m s0 a0) : Kept m s0 (State.writeNoc a0 a1 a2) := by
  unfold State.writeNoc
  extract_lets -merge -useContext +onlyGivenNames k1
  try clear_value k1
  extract_lets -merge -useContext +onlyGivenNames c2
  try clear_value c2
  extract_lets -merge -useContext +onlyGivenNames ok3
  try clear_value ok3
  refine State.writeIf_kept (hm.sub rfl) rfl (hm.bit rfl) b1a b1b ?_
  exact h0

theorem State.writeBlock_kept {m : Nat} {s0 : State} {a0} {a1} {a2} {a3} {k2} (hm : Sub 18446744069515247613 m) (b2a : a2 / 1048576 % 32 = k2) (b2b : m.testBit (32 + k2) = true) (h0 : Kept m s0 a0) : Kept m s0 (State.writeBlock a0 a1 a2 a3) := by
  unfold State.writeBlock
  split
  · refine State.writeSys_kept (hm.sub rfl) b2a b2b ?_
    exact h0
  · refine State.writeTb_kept (hm.sub rfl) b2a b2b ?_
    exact h0
  · refine State.writeEth_kept (hm.sub rfl) b2a b2b ?_
    exact h0
  · refine State.plainWrite_kept (hm.sub rfl) rfl (hm.bit rfl) b2a b2b ?_
    exact h0
  · refine State.writeSnap_kept (hm.sub rfl) b2a b2b ?_
    exact h0
  · refine State.writeTopo_kept (hm.sub rfl) b2a b2b ?_
    exact h0
  · refine State.writeDet_kept (hm.sub rfl) b2a b2b ?_
    exact h0
  · refine State.writeModal_kept (hm.sub rfl) b2a b2b ?_
    exact h0
  · refine State.writeAlm_kept (hm.sub rfl) b2a b2b ?_
    exact h0
  · refine State.writeAfe_kept (hm.sub rfl) b2a b2b ?_
    exact h0
  · refine State.writeFlt_kept (hm.sub rfl) b2a b2b ?_
    exact h0
  · refine State.writeMtr_kept (hm.sub rfl) b2a b2b ?_
    exact h0
  · refine State.writeCap_kept (hm.sub rfl) b2a b2b ?_
    exact h0
  · refine State.writeLat_kept (hm.sub rfl) b2a b2b ?_
    exact h0
  · refine State.writeEvc_kept (hm.sub rfl) b2a b2b ?_
    exact h0
  · refine State.writeTsk_kept (hm.sub rfl) b2a b2b ?_
    exact h0
  · refine State.writeIf_kept (hm.sub rfl) rfl (hm.bit rfl) b2a b2b ?_
    exact h0
  · refine State.writeLdg_kept (hm.sub rfl) b2a b2b ?_
    exact h0
  · refine State.plainWrite_kept (hm.sub rfl) rfl (hm.bit rfl) b2a b2b ?_
    exact h0
  · refine State.writeUpd_kept (hm.sub rfl) b2a b2b ?_
    exact h0
  · refine State.writeNoc_kept (hm.sub rfl) b2a b2b ?_
    exact h0
  · exact h0


end Sys2Proof.Machine
end

