-- ==== Sys2Proof/Laws/KeptImageLoad.lean ====
section
/-!
SUPPORT. What each operation of Machine/ImageLoad.lean may change: one lemma per operation, its mask of parts and register blocks in `hm`.
-/
namespace Sys2Proof.Machine

theorem State.tryBlock_kept {m : Nat} {s0 : State} {a0} {a1} {a2} {k1} (hm : Sub 18446744069515247613 m) (b1a : a1 / 1048576 % 32 = k1) (b1b : m.testBit (32 + k1) = true) (h0 : Kept m s0 a0) : Kept m s0 ((State.tryBlock a0 a1 a2).2) := by
  unfold State.tryBlock
  split
  · refine kept_mkp_snd ?_
    exact h0
  · refine kept_ite_snd ?_ ?_
    · refine kept_mkp_snd ?_
      exact h0
    · extract_lets -merge -useContext +onlyGivenNames s11
      have k_s11 : Kept m s0 s11 := by
        unfold s11
        refine State.writeBlock_kept (hm.sub rfl) b1a b1b ?_
        refine State.setFld_kept (hm.sub rfl) rfl (hm.all rfl _) ?_
        exact h0
      clear_value s11
      refine kept_mkp_snd ?_
      exact k_s11

theorem State.tryBlocks_kept {m : Nat} {s0 : State} {a0} {a1} (hm : Sub 18446744069515247613 m) (h0 : Kept m s0 a0) : Kept m s0 ((State.tryBlocks a0 a1).2) := by
  induction a1 generalizing a0 with
  | nil => exact h0
  | cons p rest ih =>
    obtain ⟨r, a, v⟩ := p
    have k := State.tryBlock_kept (a1 := a) (a2 := v) (hm.sub rfl) rfl (hm.all rfl _) h0
    unfold State.tryBlocks
    split
    · next e => exact kept_pair_snd e k
    · next e => exact ih (kept_pair_snd e k)

theorem State.imageTiles_kept {m : Nat} {s0 : State} {a0} {a1} (hm : Sub 65553 m) (h0 : Kept m s0 a0) : Kept m s0 (State.imageTiles a0 a1) := by
  unfold State.imageTiles
  extract_lets -merge -useContext +onlyGivenNames ts1
  try clear_value ts1
  extract_lets -merge -useContext +onlyGivenNames put2
  try clear_value put2
  extract_lets -merge -useContext +onlyGivenNames s13
  try clear_value s13
  extract_lets -merge -useContext +onlyGivenNames s14
  have k_s14 : Kept m s0 s14 := by
    unfold s14
    refine kept_lat (hm.bit rfl) ?_
    exact h0
  clear_value s14
  extract_lets -merge -useContext +onlyGivenNames banks5
  try clear_value banks5
  extract_lets -merge -useContext +onlyGivenNames sram6
  have k_sram6 : ∀ y0 y1, Kept m s0 y0 → Kept m s0 (sram6 y0 y1) := by
    intro y7 y8 k9
    unfold sram6
    extract_lets -merge -useContext +onlyGivenNames bank10
    try clear_value bank10
    refine State.putDev_kept (hm.sub rfl) ?_
    exact k9
  clear_value sram6
  extract_lets -merge -useContext +onlyGivenNames s211
  have k_s211 : Kept m s0 s211 := by
    unfold s211
    refine kept_foldl ?_ ?_
    · exact k_s14
    · intro x14 y12 k13
      refine k_sram6 _ _ ?_
      exact k13
  clear_value s211
  refine kept_tb (hm.bit rfl) ?_
  exact k_s211

theorem State.imageRows_kept {m : Nat} {s0 : State} {a0} {a1} (hm : Sub 1 m) (h0 : Kept m s0 a0) : Kept m s0 (State.imageRows a0 a1) := by
  unfold State.imageRows
  refine kept_foldl ?_ ?_
  · exact h0
  · intro x3 y1 k2
    extract_lets -merge -useContext +onlyGivenNames w4
    try clear_value w4
    extract_lets -merge -useContext +onlyGivenNames w15
    try clear_value w15
    extract_lets -merge -useContext +onlyGivenNames w26
    try clear_value w26
    extract_lets -merge -useContext +onlyGivenNames rated7
    try clear_value rated7
    refine State.putDev_kept (hm.sub rfl) ?_
    exact k2

theorem State.imageTables_kept {m : Nat} {s0 : State} {a0} {a1} {a2} (hm : Sub 70506183655753 m) (h0 : Kept m s0 a0) : Kept m s0 (State.imageTables a0 a1 a2) := by
  unfold State.imageTables
  extract_lets -merge -useContext +onlyGivenNames facs1
  try clear_value facs1
  extract_lets -merge -useContext +onlyGivenNames edgs2
  try clear_value edgs2
  extract_lets -merge -useContext +onlyGivenNames huls3
  try clear_value huls3
  extract_lets -merge -useContext +onlyGivenNames regs4
  try clear_value regs4
  extract_lets -merge -useContext +onlyGivenNames orphan5
  try clear_value orphan5
  extract_lets -merge -useContext +onlyGivenNames n6
  try clear_value n6
  extract_lets -merge -useContext +onlyGivenNames maps7
  try clear_value maps7
  extract_lets -merge -useContext +onlyGivenNames batch8
  try clear_value batch8
  extract_lets -merge -useContext +onlyGivenNames s19
  try clear_value s19
  extract_lets -merge -useContext +onlyGivenNames s110
  try clear_value s110
  extract_lets -merge -useContext +onlyGivenNames s111
  have k_s111 : Kept m s0 s111 := by
    unfold s111
    refine kept_mk ?_ (.inr rfl) (.inr rfl) (.inr rfl) (.inr rfl) (.inl (hm.bit rfl)) (.inr rfl) (.inl (hm.bit rfl)) (.inr rfl) (.inr rfl) (.inr rfl) (.inr rfl) (.inr rfl) (.inr rfl) (.inr rfl) (.inr rfl) (.inr rfl) (.inr rfl) (.inr rfl) (.inr rfl) (.inr rfl) (.inr rfl) (.inr rfl) (.inr rfl) (.inr rfl) (.inr rfl) (.inr rfl)
    exact h0
  clear_value s111
  extract_lets -merge -useContext +onlyGivenNames s212
  have k_s212 : Kept m s0 s212 := by
    unfold s212
    refine kept_foldl ?_ ?_
    · exact k_s111
    · intro x15 y13 k14
      refine State.putDev_kept (hm.sub rfl) ?_
      exact k14
  clear_value s212
  extract_lets -merge -useContext +onlyGivenNames s316
  have k_s316 : Kept m s0 s316 := by
    unfold s316
    refine kept_foldl ?_ ?_
    · exact k_s212
    · intro x19 y17 k18
      refine State.putDev_kept (hm.sub rfl) ?_
      exact k18
  clear_value s316
  extract_lets -merge -useContext +onlyGivenNames s420
  have k_s420 : Kept m s0 s420 := by
    unfold s420
    refine kept_foldl ?_ ?_
    · exact k_s316
    · intro x23 y21 k22
      extract_lets -merge -useContext +onlyGivenNames w24
      try clear_value w24
      refine State.putEdge_kept (hm.sub rfl) ?_
      exact k22
  clear_value s420
  extract_lets -merge -useContext +onlyGivenNames s525
  have k_s525 : Kept m s0 s525 := by
    unfold s525
    refine State.imageRows_kept (hm.sub rfl) ?_
    exact k_s420
  clear_value s525
  extract_lets -merge -useContext +onlyGivenNames s626
  have k_s626 : Kept m s0 s626 := by
    unfold s626
    refine State.setVal_kept (hm.sub rfl) rfl (hm.bit rfl) ?_
    refine State.setVal_kept (hm.sub rfl) rfl (hm.bit rfl) ?_
    refine State.setVal_kept (hm.sub rfl) rfl (hm.bit rfl) ?_
    exact k_s525
  clear_value s626
  extract_lets -merge -useContext +onlyGivenNames s727
  have k_s727 : Kept m s0 s727 := by
    unfold s727
    refine State.abandonPass_kept (hm.sub rfl) ?_
    refine State.recount_kept (hm.sub rfl) ?_
    exact k_s626
  clear_value s727
  extract_lets -merge -useContext +onlyGivenNames m28
  try clear_value m28
  extract_lets -merge -useContext +onlyGivenNames g29
  try clear_value g29
  extract_lets -merge -useContext +onlyGivenNames s830
  try clear_value s830
  extract_lets -merge -useContext +onlyGivenNames s831
  have k_s831 : Kept m s0 s831 := by
    unfold s831
    refine kept_topo (hm.bit rfl) ?_
    exact k_s727
  clear_value s831
  extract_lets -merge -useContext +onlyGivenNames s932
  have k_s932 : Kept m s0 s932 := by
    unfold s932
    refine State.bump_kept (hm.sub rfl) rfl (hm.bit rfl) ?_
    refine State.setVal_kept (hm.sub rfl) rfl (hm.bit rfl) ?_
    refine State.setVal_kept (hm.sub rfl) rfl (hm.bit rfl) ?_
    refine State.setVal_kept (hm.sub rfl) rfl (hm.bit rfl) ?_
    refine State.setVal_kept (hm.sub rfl) rfl (hm.bit rfl) ?_
    exact k_s831
  clear_value s932
  extract_lets -merge -useContext +onlyGivenNames s1033
  have k_s1033 : Kept m s0 s1033 := by
    unfold s1033
    refine State.setFld_kept (hm.sub rfl) rfl (hm.bit rfl) ?_
    exact k_s932
  clear_value s1033
  refine kept_ite ?_ ?_
  · exact k_s1033
  · refine State.raise_kept (hm.sub rfl) rfl (hm.bit rfl) ?_
    refine State.bumpBy_kept (hm.sub rfl) rfl (hm.bit rfl) ?_
    exact k_s1033

theorem State.imageCoefs_kept {m : Nat} {s0 : State} {a0} {a1} {a2} (hm : Sub 8192 m) (h0 : Kept m s0 a0) : Kept m s0 (State.imageCoefs a0 a1 a2) := by
  unfold State.imageCoefs
  extract_lets -merge -useContext +onlyGivenNames bytes1
  try clear_value bytes1
  refine kept_foldl ?_ ?_
  · exact h0
  · intro x4 y2 k3
    refine State.putCoef_kept (hm.sub rfl) ?_
    exact k3

theorem State.imageBanks_kept {m : Nat} {s0 : State} {a0} {a1} (hm : Sub 824633730560 m) (h0 : Kept m s0 a0) : Kept m s0 (State.imageBanks a0 a1) := by
  unfold State.imageBanks
  extract_lets -merge -useContext +onlyGivenNames s11
  try clear_value s11
  extract_lets -merge -useContext +onlyGivenNames s12
  try clear_value s12
  extract_lets -merge -useContext +onlyGivenNames s13
  try clear_value s13
  extract_lets -merge -useContext +onlyGivenNames s14
  have k_s14 : Kept m s0 s14 := by
    unfold s14
    refine kept_mk ?_ (.inr rfl) (.inr rfl) (.inr rfl) (.inr rfl) (.inr rfl) (.inr rfl) (.inr rfl) (.inl (hm.bit rfl)) (.inl (hm.bit rfl)) (.inr rfl) (.inr rfl) (.inl (hm.bit rfl)) (.inr rfl) (.inr rfl) (.inr rfl) (.inr rfl) (.inr rfl) (.inr rfl) (.inr rfl) (.inr rfl) (.inr rfl) (.inr rfl) (.inr rfl) (.inr rfl) (.inr rfl) (.inr rfl)
    exact h0
  clear_value s14
  extract_lets -merge -useContext +onlyGivenNames s25
  have k_s25 : Kept m s0 s25 := by
    unfold s25
    refine State.setFld_kept (hm.sub rfl) rfl (hm.bit rfl) ?_
    refine State.setFld_kept (hm.sub rfl) rfl (hm.bit rfl) ?_
    exact k_s14
  clear_value s25
  refine kept_foldl ?_ ?_
  · exact k_s25
  · intro x8 y6 k7
    refine State.imageCoefs_kept (hm.sub rfl) ?_
    refine State.imageCoefs_kept (hm.sub rfl) ?_
    exact k7

theorem State.imageClasses_kept {m : Nat} {s0 : State} {a0} (hm : Sub 68719476864 m) (h0 : Kept m s0 a0) : Kept m s0 (State.imageClasses a0) := by
  unfold State.imageClasses
  refine kept_foldl ?_ ?_
  · exact h0
  · intro x3 y1 k2
    refine State.setSc_kept (hm.sub rfl) ?_
    refine State.setPstate_kept (hm.sub rfl) ?_
    exact k2

theorem State.imageClears_kept {m : Nat} {s0 : State} {a0} (hm : Sub 4466766032512 m) (h0 : Kept m s0 a0) : Kept m s0 (State.imageClears a0) := by
  unfold State.imageClears
  refine State.capImage_kept (hm.sub rfl) ?_
  refine State.imageClasses_kept (hm.sub rfl) ?_
  refine State.fltClear_kept (hm.sub rfl) ?_
  refine State.almClear_kept (hm.sub rfl) ?_
  refine State.modalClear_kept (hm.sub rfl) ?_
  refine State.detClear_kept (hm.sub rfl) ?_
  exact h0

theorem State.imageReport_kept {m : Nat} {s0 : State} {a0} {a1} {a2} (hm : Sub 35184372154368 m) (h0 : Kept m s0 a0) : Kept m s0 (State.imageReport a0 a1 a2) := by
  unfold State.imageReport
  extract_lets -merge -useContext +onlyGivenNames ts1
  try clear_value ts1
  extract_lets -merge -useContext +onlyGivenNames s12
  have k_s12 : Kept m s0 s12 := by
    unfold s12
    refine State.setVal_kept (hm.sub rfl) rfl (hm.bit rfl) ?_
    refine State.setVal_kept (hm.sub rfl) rfl (hm.bit rfl) ?_
    refine State.setVal_kept (hm.sub rfl) rfl (hm.bit rfl) ?_
    exact h0
  clear_value s12
  extract_lets -merge -useContext +onlyGivenNames s23
  have k_s23 : Kept m s0 s23 := by
    unfold s23
    refine kept_foldl ?_ ?_
    · exact k_s12
    · intro x6 y4 k5
      refine State.setVal_kept (hm.sub rfl) (show _ / 1048576 % 32 = 13 by unfold Reg.LAT_KCNTk; omega) (hm.bit rfl) ?_
      exact k5
  clear_value s23
  refine kept_lat (hm.bit rfl) ?_
  exact k_s23

theorem State.applyImage_kept {m : Nat} {s0 : State} {a0} {a1} {a2} (hm : Sub 18446744069515247613 m) (h0 : Kept m s0 a0) : Kept m s0 (State.applyImage a0 a1 a2) := by
  unfold State.applyImage
  extract_lets -merge -useContext +onlyGivenNames s11
  have k_s11 : Kept m s0 s11 := by
    unfold s11
    refine State.imageTiles_kept (hm.sub rfl) ?_
    exact h0
  clear_value s11
  extract_lets -merge -useContext +onlyGivenNames s22
  have k_s22 : Kept m s0 s22 := by
    unfold s22
    refine kept_foldl ?_ ?_
    · exact k_s11
    · intro x5 y3 k4
      refine State.writeBlock_kept (hm.sub rfl) rfl (hm.all rfl _) ?_
      exact k4
  clear_value s22
  extract_lets -merge -useContext +onlyGivenNames s36
  have k_s36 : Kept m s0 s36 := by
    unfold s36
    refine State.imageBanks_kept (hm.sub rfl) ?_
    refine State.imageTables_kept (hm.sub rfl) ?_
    exact k_s22
  clear_value s36
  refine State.imageReport_kept (hm.sub rfl) ?_
  refine State.imageClears_kept (hm.sub rfl) ?_
  exact k_s36

theorem State.loadFailed_kept {m : Nat} {s0 : State} {a0} {a1} (hm : Sub 105553116790792 m) (h0 : Kept m s0 a0) : Kept m s0 (State.loadFailed a0 a1) := by
  unfold State.loadFailed
  refine State.raise_kept (hm.sub rfl) rfl (hm.bit rfl) ?_
  refine State.setVal_kept (hm.sub rfl) rfl (hm.bit rfl) ?_
  exact h0

theorem State.noImage_kept {m : Nat} {s0 : State} {a0} (hm : Sub 35184372154368 m) (h0 : Kept m s0 a0) : Kept m s0 (State.noImage a0) := by
  unfold State.noImage
  extract_lets -merge -useContext +onlyGivenNames s11
  try clear_value s11
  extract_lets -merge -useContext +onlyGivenNames s12
  have k_s12 : Kept m s0 s12 := by
    unfold s12
    refine kept_lat (hm.bit rfl) ?_
    exact h0
  clear_value s12
  refine kept_foldl ?_ ?_
  · refine State.setVal_kept (hm.sub rfl) rfl (hm.bit rfl) ?_
    refine State.setVal_kept (hm.sub rfl) rfl (hm.bit rfl) ?_
    refine State.setVal_kept (hm.sub rfl) rfl (hm.bit rfl) ?_
    exact k_s12
  · intro x5 y3 k4
    refine State.setVal_kept (hm.sub rfl) (show _ / 1048576 % 32 = 13 by unfold Reg.LAT_KCNTk; omega) (hm.bit rfl) ?_
    exact k4

theorem State.loadImage_kept {m : Nat} {s0 : State} {a0} {a1} {a2} (hm : Sub 18446744069515247613 m) (h0 : Kept m s0 a0) : Kept m s0 ((State.loadImage a0 a1 a2).1) := by
  unfold State.loadImage
  split
  · refine kept_mkp_fst ?_
    refine State.loadFailed_kept (hm.sub rfl) ?_
    exact h0
  · extract_lets -merge -useContext +onlyGivenNames s11
    have k_s11 : Kept m s0 s11 := by
      unfold s11
      refine State.applyImage_kept (hm.sub rfl) ?_
      exact h0
    clear_value s11
    split
    · refine kept_mkp_fst ?_
      refine State.loadFailed_kept (hm.sub rfl) ?_
      refine State.noImage_kept (hm.sub rfl) ?_
      exact k_s11
    · extract_lets -merge -useContext +onlyGivenNames s22
      try clear_value s22
      extract_lets -merge -useContext +onlyGivenNames s23
      have k_s23 : Kept m s0 s23 := by
        unfold s23
        refine kept_lat (hm.bit rfl) ?_
        exact k_s11
      clear_value s23
      refine kept_mkp_fst ?_
      refine State.bump_kept (hm.sub rfl) rfl (hm.bit rfl) ?_
      refine State.setVal_kept (hm.sub rfl) rfl (hm.bit rfl) ?_
      exact k_s23

theorem imageLoadBody_kept {m : Nat} {s0 : State} {a0} {a1} {a2} {a3} {a4} {a5} {a6} (hm : Sub 65536 m) (h6 : Kept m s0 a6) : Kept m s0 ((imageLoadBody a0 a1 a2 a3 a4 a5 a6).1) := by
  unfold imageLoadBody
  refine kept_ite_fst ?_ ?_
  · refine kept_mkp_fst ?_
    exact h6
  · extract_lets -merge -useContext +onlyGivenNames image1
    try clear_value image1
    refine kept_mkp_fst ?_
    refine kept_lat (hm.bit rfl) ?_
    exact h6

theorem State.imageLoad_kept {m : Nat} {s0 : State} {a0} {a1} {a2} {a3} {a4} {a5} {a6} (hm : Sub 633323012030472 m) (h0 : Kept m s0 a0) : Kept m s0 (State.imageLoad a0 a1 a2 a3 a4 a5 a6) := by
  unfold State.imageLoad
  refine State.hostCmd_kept (hm.sub rfl) ?_ ?_
  · exact h0
  · intro y1 k2
    refine imageLoadBody_kept (hm.sub rfl) ?_
    exact k2

theorem execImageLoad_kept {m : Nat} {a0} {a1} {a2} {a3} {a4} {a5} {a6} {t : State} (hm : Sub 633323012030472 m) (h : execImageLoad a0 a1 a2 a3 a4 a5 a6 = .next t) : Kept m a6 t := by
  rw [live_next h]
  have h6 : Kept m a6 a6 := kept_refl
  refine State.imageLoad_kept (hm.sub rfl) ?_
  exact h6

theorem State.finishLoad_kept {m : Nat} {s0 : State} {a0} (hm : Sub 18446744069515247613 m) (h0 : Kept m s0 a0) : Kept m s0 (State.finishLoad a0) := by
  unfold State.finishLoad
  split
  · exact h0
  · split
    · rename_i z1 z2 e3
      have k4 : Kept m s0 z1 := by
        refine kept_pair_fst e3 ?_
        refine State.loadImage_kept (hm.sub rfl) ?_
        exact h0
      extract_lets -merge -useContext +onlyGivenNames s25
      try clear_value s25
      extract_lets -merge -useContext +onlyGivenNames s26
      have k_s26 : Kept m s0 s26 := by
        unfold s26
        refine kept_lat (hm.bit rfl) ?_
        exact k4
      clear_value s26
      extract_lets -merge -useContext +onlyGivenNames st7
      try clear_value st7
      refine State.complete_kept (hm.sub rfl) ?_
      exact k_s26


end Sys2Proof.Machine
end

