-- ==== Sys2Proof/Laws/KeptHostInterface.lean ====
section
/-!
SUPPORT. What each operation of Machine/HostInterface.lean may change: one lemma per operation, its mask of parts and register blocks in `hm`.
-/
namespace Sys2Proof.Machine

theorem State.cmdNop_kept {m : Nat} {s0 : State} {a0} {a1} (hm : Sub 633323011964936 m) (h0 : Kept m s0 a0) : Kept m s0 (State.cmdNop a0 a1) := by
  unfold State.cmdNop
  refine State.hostCmd_kept (hm.sub rfl) ?_ ?_
  · exact h0
  · intro y1 k2
    refine kept_mkp_fst ?_
    exact k2

theorem State.cmdArg_kept {m : Nat} {s0 : State} {a0} {a1} {a2} (hm : Sub 633323011964936 m) (h0 : Kept m s0 a0) : Kept m s0 (State.cmdArg a0 a1 a2) := by
  unfold State.cmdArg
  refine State.hostCmd_kept (hm.sub rfl) ?_ ?_
  · exact h0
  · intro y1 k2
    refine kept_mkp_fst ?_
    exact k2

theorem State.startEntry_kept {m : Nat} {s0 : State} {a0} {a1} (hm : Sub 13331840580058091 m) (h0 : Kept m s0 a0) : Kept m s0 (State.startEntry a0 a1) := by
  unfold State.startEntry
  extract_lets -merge -useContext +onlyGivenNames code1
  try clear_value code1
  extract_lets -merge -useContext +onlyGivenNames h2
  try clear_value h2
  extract_lets -merge -useContext +onlyGivenNames a3
  try clear_value a3
  refine kept_ite ?_ ?_
  · refine State.cmdArg_kept (hm.sub rfl) ?_
    exact h0
  · split
    · refine State.cmdNop_kept (hm.sub rfl) ?_
      exact h0
    · refine State.modeSet_kept (hm.sub rfl) ?_
      exact h0
    · refine State.imageLoad_kept (hm.sub rfl) ?_
      exact h0
    · refine State.subscribe_kept (hm.sub rfl) ?_
      exact h0
    · refine State.unsubscribe_kept (hm.sub rfl) ?_
      exact h0
    · refine State.sourceAdd_kept (hm.sub rfl) ?_
      exact h0
    · refine State.sourceRemove_kept (hm.sub rfl) ?_
      exact h0
    · refine State.topoEdit_kept (hm.sub rfl) ?_
      exact h0
    · refine State.almAck_kept (hm.sub rfl) ?_
      exact h0
    · refine State.capArm_kept (hm.sub rfl) ?_
      exact h0
    · refine State.capRead_kept (hm.sub rfl) ?_
      exact h0
    · refine State.ledgerEject_kept (hm.sub rfl) ?_
      exact h0
    · refine State.ledgerAccept_kept (hm.sub rfl) ?_
      exact h0
    · refine State.keyUpdate_kept (hm.sub rfl) ?_
      exact h0
    · refine State.updateBegin_kept (hm.sub rfl) ?_
      exact h0
    · refine State.activate_kept (hm.sub rfl) ?_
      exact h0
    · refine State.healthConfirm_kept (hm.sub rfl) ?_
      exact h0
    · refine State.switchover_kept (hm.sub rfl) ?_
      exact h0
    · refine State.switchback_kept (hm.sub rfl) ?_
      exact h0
    · refine State.trimReload_kept (hm.sub rfl) ?_
      exact h0

theorem State.takeCmd_kept {m : Nat} {s0 : State} {a0} (hm : Sub 17835440207428587 m) (h0 : Kept m s0 a0) : Kept m s0 (State.takeCmd a0) := by
  unfold State.takeCmd
  extract_lets -merge -useContext +onlyGivenNames h1
  try clear_value h1
  extract_lets -merge -useContext +onlyGivenNames e2
  try clear_value e2
  refine State.startEntry_kept (hm.sub rfl) ?_
  refine State.setVal_kept (hm.sub rfl) rfl (hm.bit rfl) ?_
  exact h0

theorem State.takeCmds_kept {m : Nat} {s0 : State} {a0} {a1} (hm : Sub 17835440207428587 m) (h1 : Kept m s0 a1) : Kept m s0 (State.takeCmds a0 a1) := by
  induction a0 generalizing a1 with
  | zero => exact h1
  | succ n ih =>
    unfold State.takeCmds
    exact kept_ite (ih (State.takeCmd_kept (hm.sub rfl) h1)) h1

theorem State.pumpCmds_kept {m : Nat} {s0 : State} {a0} (hm : Sub 17835440207428587 m) (h0 : Kept m s0 a0) : Kept m s0 (State.pumpCmds a0) := by
  unfold State.pumpCmds
  refine State.takeCmds_kept (hm.sub rfl) ?_
  exact h0

theorem State.writeDrvver_kept {m : Nat} {s0 : State} {a0} {a1} (hm : Sub 4573968372072456 m) (h0 : Kept m s0 a0) : Kept m s0 (State.writeDrvver a0 a1) := by
  unfold State.writeDrvver
  refine kept_ite ?_ ?_
  · refine State.cfgErr_kept (hm.sub rfl) rfl (hm.bit rfl) ?_
    exact h0
  · extract_lets -merge -useContext +onlyGivenNames a1
    try clear_value a1
    extract_lets -merge -useContext +onlyGivenNames s12
    have k_s12 : Kept m s0 s12 := by
      unfold s12
      refine State.event_kept (hm.sub rfl) ?_
      refine State.setVal_kept (hm.sub rfl) rfl (hm.bit rfl) ?_
      refine State.setVal_kept (hm.sub rfl) rfl (hm.bit rfl) ?_
      exact h0
    clear_value s12
    refine kept_ite ?_ ?_
    · refine State.raise_kept (hm.sub rfl) rfl (hm.bit rfl) ?_
      exact k_s12
    · exact k_s12

theorem State.writeMsix_kept {m : Nat} {s0 : State} {a0} {a1} {a2} (hm : Sub 16777216 m) (h0 : Kept m s0 a0) : Kept m s0 (State.writeMsix a0 a1 a2) := by
  unfold State.writeMsix
  refine kept_ite ?_ ?_
  · extract_lets -merge -useContext +onlyGivenNames i1
    try clear_value i1
    extract_lets -merge -useContext +onlyGivenNames w2
    try clear_value w2
    extract_lets -merge -useContext +onlyGivenNames s13
    try clear_value s13
    extract_lets -merge -useContext +onlyGivenNames s14
    have k_s14 : Kept m s0 s14 := by
      unfold s14
      refine kept_hif (hm.bit rfl) ?_
      exact h0
    clear_value s14
    refine kept_ite ?_ ?_
    · refine kept_hif (hm.bit rfl) ?_
      exact k_s14
    · exact k_s14
  · exact h0

theorem State.writeHifCtl_kept {m : Nat} {s0 : State} {a0} {a1} (hm : Sub 17835440207428587 m) (h0 : Kept m s0 a0) : Kept m s0 (State.writeHifCtl a0 a1) := by
  unfold State.writeHifCtl
  refine kept_ite ?_ ?_
  · refine State.cfgErr_kept (hm.sub rfl) rfl (hm.bit rfl) ?_
    exact h0
  · refine State.pumpCmds_kept (hm.sub rfl) ?_
    refine State.plainWrite_kept (hm.sub rfl) rfl (hm.bit rfl) rfl (hm.bit rfl) ?_
    exact h0

theorem State.writeCmdtail_kept {m : Nat} {s0 : State} {a0} {a1} (hm : Sub 17835440207428587 m) (h0 : Kept m s0 a0) : Kept m s0 (State.writeCmdtail a0 a1) := by
  unfold State.writeCmdtail
  refine State.pumpCmds_kept (hm.sub rfl) ?_
  refine State.plainWrite_kept (hm.sub rfl) rfl (hm.bit rfl) rfl (hm.bit rfl) ?_
  exact h0

theorem State.writeHif_kept {m : Nat} {s0 : State} {a0} {a1} {a2} {k1} (hm : Sub 17835440207428587 m) (b1a : a1 / 1048576 % 32 = k1) (b1b : m.testBit (32 + k1) = true) (h0 : Kept m s0 a0) : Kept m s0 (State.writeHif a0 a1 a2) := by
  unfold State.writeHif
  refine kept_ite ?_ ?_
  · refine State.writeHifCtl_kept (hm.sub rfl) ?_
    exact h0
  · refine kept_ite ?_ ?_
    · refine State.writeDrvver_kept (hm.sub rfl) ?_
      exact h0
    · refine kept_ite ?_ ?_
      · refine State.writeCmdtail_kept (hm.sub rfl) ?_
        exact h0
      · refine kept_ite ?_ ?_
        · refine State.writeIf_kept (hm.sub rfl) rfl (hm.bit rfl) b1a b1b ?_
          exact h0
        · refine kept_ite ?_ ?_
          · refine State.writeMsix_kept (hm.sub rfl) ?_
            exact h0
          · refine State.plainWrite_kept (hm.sub rfl) rfl (hm.bit rfl) b1a b1b ?_
            exact h0

theorem State.writeReg_kept {m : Nat} {s0 : State} {a0} {a1} {a2} {a3} {k2} (hm : Sub 18446744069515247615 m) (b2a : a2 / 1048576 % 32 = k2) (b2b : m.testBit (32 + k2) = true) (h0 : Kept m s0 a0) : Kept m s0 (State.writeReg a0 a1 a2 a3) := by
  unfold State.writeReg
  refine kept_ite ?_ ?_
  · refine State.writeHif_kept (hm.sub rfl) b2a b2b ?_
    exact h0
  · refine State.writeBlock_kept (hm.sub rfl) b2a b2b ?_
    exact h0

theorem State.coreStore_kept {m : Nat} {s0 : State} {a0} {a1} {a2} {a3} (hm : Sub 105553116921865 m) (h0 : Kept m s0 a0) : Kept m s0 (State.coreStore a0 a1 a2 a3) := by
  unfold State.coreStore
  split
  · exact h0
  · refine kept_ite ?_ ?_
    · refine State.putDev_kept (hm.sub rfl) ?_
      exact h0
    · refine State.cfgErr_kept (hm.sub rfl) rfl (hm.bit rfl) ?_
      exact h0
  · refine State.takeExc_kept (hm.sub rfl) ?_
    exact h0
  · refine State.putDev_kept (hm.sub rfl) ?_
    exact h0

theorem State.hostStore_kept {m : Nat} {s0 : State} {a0} {a1} {a2} (hm : Sub 4573968372072457 m) (h0 : Kept m s0 a0) : Kept m s0 (State.hostStore a0 a1 a2) := by
  unfold State.hostStore
  split
  · refine kept_ite ?_ ?_
    · extract_lets -merge -useContext +onlyGivenNames room1
      try clear_value room1
      extract_lets -merge -useContext +onlyGivenNames s12
      have k_s12 : Kept m s0 s12 := by
        unfold s12
        refine State.putDev_kept (hm.sub rfl) ?_
        exact h0
      clear_value s12
      refine kept_ite ?_ ?_
      · refine State.raise_kept (hm.sub rfl) rfl (hm.bit rfl) ?_
        exact k_s12
      · exact k_s12
    · refine State.raise_kept (hm.sub rfl) rfl (hm.bit rfl) ?_
      exact h0
  · refine State.raise_kept (hm.sub rfl) rfl (hm.bit rfl) ?_
    exact h0
  · refine State.raise_kept (hm.sub rfl) rfl (hm.bit rfl) ?_
    exact h0
  · refine State.raise_kept (hm.sub rfl) rfl (hm.bit rfl) ?_
    exact h0

theorem State.busWrite_kept {m : Nat} {s0 : State} {a0} {a1} {a2} {a3} {a4} {k2} (hm : Sub 18446744069515247615 m) (b2a : a2 / 1048576 % 32 = k2) (b2b : m.testBit (32 + k2) = true) (h0 : Kept m s0 a0) : Kept m s0 (State.busWrite a0 a1 a2 a3 a4) := by
  unfold State.busWrite
  refine kept_ite ?_ ?_
  · refine State.writeBy_kept (hm.sub rfl) ?_ ?_
    · exact h0
    · intro y1 k2
      refine kept_ite ?_ ?_
      · refine State.writeReg_kept (hm.sub rfl) b2a b2b ?_
        exact k2
      · exact k2
  · split
    · refine kept_ite ?_ ?_
      · refine State.takeExc_kept (hm.sub rfl) ?_
        exact h0
      · refine State.writeBy_kept (hm.sub rfl) ?_ ?_
        · exact h0
        · intro y3 k4
          refine State.coreStore_kept (hm.sub rfl) ?_
          exact k4
    · refine State.writeBy_kept (hm.sub rfl) ?_ ?_
      · exact h0
      · intro y5 k6
        refine State.hostStore_kept (hm.sub rfl) ?_
        exact k6

theorem State.busRead_kept {m : Nat} {s0 : State} {a0} {a1} {a2} {a3} (hm : Sub 4573968456089608 m) (h0 : Kept m s0 a0) (h3 : ∀ y0, Kept m s0 y0 → Kept m s0 (a3 y0)) : Kept m s0 (State.busRead a0 a1 a2 a3) := by
  unfold State.busRead
  extract_lets -merge -useContext +onlyGivenNames w1
  try clear_value w1
  split
  · refine State.readBy_kept (hm.sub rfl) ?_ ?_
    · exact h0
    · intro y2 k3
      refine h3 _ ?_
      exact k3
  · refine kept_ite ?_ ?_
    · refine State.readBy_kept (hm.sub rfl) ?_ ?_
      · exact h0
      · intro y4 k5
        exact k5
    · refine State.answer_kept (hm.sub rfl) ?_
      refine State.takeExc_kept (hm.sub rfl) ?_
      exact h0
  · refine State.readBy_kept (hm.sub rfl) ?_ ?_
    · exact h0
    · intro y6 k7
      refine State.answer_kept (hm.sub rfl) ?_
      refine State.draw_kept (hm.sub rfl) ?_
      exact k7
  · refine State.readBy_kept (hm.sub rfl) ?_ ?_
    · exact h0
    · intro y8 k9
      refine State.answer_kept (hm.sub rfl) ?_
      exact k9
  · refine State.readBy_kept (hm.sub rfl) ?_ ?_
    · exact h0
    · intro y10 k11
      refine State.answer_kept (hm.sub rfl) ?_
      exact k11
  · refine State.readBy_kept (hm.sub rfl) ?_ ?_
    · exact h0
    · intro y12 k13
      refine State.answer_kept (hm.sub rfl) ?_
      exact k13
  · refine State.readBy_kept (hm.sub rfl) ?_ ?_
    · exact h0
    · intro y14 k15
      refine State.answer_kept (hm.sub rfl) ?_
      exact k15
  · refine State.readBy_kept (hm.sub rfl) ?_ ?_
    · exact h0
    · intro y16 k17
      refine State.answer_kept (hm.sub rfl) ?_
      refine State.raise_kept (hm.sub rfl) rfl (hm.bit rfl) ?_
      exact k17

theorem execRegisterWrite_kept {m : Nat} {a0} {a1} {a2} {a3} {a4} {t : State} (hm : Sub 18446744069515247615 m) (h : execRegisterWrite a0 a1 a2 a3 a4 = .next t) : Kept m a4 t := by
  rw [live_next h]
  have h4 : Kept m a4 a4 := kept_refl
  refine State.busWrite_kept (hm.sub rfl) rfl (hm.all rfl _) ?_
  exact h4

theorem execRcCounterRead_kept {m : Nat} {a0} {a1} {a2} {a3} {t : State} (hm : Sub 18446744069499408568 m) (h : execRcCounterRead a0 a1 a2 a3 = .next t) : Kept m a3 t := by
  rw [live_next h]
  have h3 : Kept m a3 a3 := kept_refl
  refine State.busRead_kept (hm.sub rfl) ?_ ?_
  · exact h3
  · intro y1 k2
    extract_lets -merge -useContext +onlyGivenNames a3
    try clear_value a3
    refine kept_ite ?_ ?_
    · refine State.readRc_kept (hm.sub rfl) rfl (hm.all rfl _) ?_
      exact k2
    · refine State.readReg_kept (hm.sub rfl) rfl (hm.all rfl _) ?_
      exact k2

theorem execBar2Write_kept {m : Nat} {a0} {a1} {a2} {t : State} (hm : Sub 4573968372203529 m) (h : execBar2Write a0 a1 a2 = .next t) : Kept m a2 t := by
  rw [live_next h]
  have h2 : Kept m a2 a2 := kept_refl
  split
  · refine State.writeBy_kept (hm.sub rfl) ?_ ?_
    · exact h2
    · intro y1 k2
      refine State.hostStore_kept (hm.sub rfl) ?_
      exact k2
  · refine State.writeBy_kept (hm.sub rfl) ?_ ?_
    · exact h2
    · intro y3 k4
      refine State.raise_kept (hm.sub rfl) rfl (hm.bit rfl) ?_
      exact k4

theorem execCommandDoorbell_kept {m : Nat} {a0} {a1} {a2} {t : State} (hm : Sub 17835440207559659 m) (h : execCommandDoorbell a0 a1 a2 = .next t) : Kept m a2 t := by
  rw [live_next h]
  have h2 : Kept m a2 a2 := kept_refl
  refine State.writeBy_kept (hm.sub rfl) ?_ ?_
  · exact h2
  · intro y1 k2
    refine State.writeCmdtail_kept (hm.sub rfl) ?_
    exact k2

theorem execNop_kept {m : Nat} {a0} {a1} {t : State} (hm : Sub 633323011964936 m) (h : execNop a0 a1 = .next t) : Kept m a1 t := by
  rw [live_next h]
  have h1 : Kept m a1 a1 := kept_refl
  refine State.cmdNop_kept (hm.sub rfl) ?_
  exact h1

theorem execDrvverWrite_kept {m : Nat} {a0} {a1} {a2} {t : State} (hm : Sub 4573968372203528 m) (h : execDrvverWrite a0 a1 a2 = .next t) : Kept m a2 t := by
  rw [live_next h]
  have h2 : Kept m a2 a2 := kept_refl
  refine State.writeBy_kept (hm.sub rfl) ?_ ?_
  · exact h2
  · intro y1 k2
    refine State.writeDrvver_kept (hm.sub rfl) ?_
    exact k2

theorem State.writeCpl_kept {m : Nat} {s0 : State} {a0} {a1} (hm : Sub 4503599644147714 m) (h0 : Kept m s0 a0) : Kept m s0 (State.writeCpl a0 a1) := by
  unfold State.writeCpl
  extract_lets -merge -useContext +onlyGivenNames head1
  try clear_value head1
  extract_lets -merge -useContext +onlyGivenNames next2
  try clear_value next2
  extract_lets -merge -useContext +onlyGivenNames s13
  have k_s13 : Kept m s0 s13 := by
    unfold s13
    refine State.setVal_kept (hm.sub rfl) rfl (hm.bit rfl) ?_
    refine State.putHost_kept (hm.sub rfl) ?_
    exact h0
  clear_value s13
  extract_lets -merge -useContext +onlyGivenNames s24
  try clear_value s24
  extract_lets -merge -useContext +onlyGivenNames s25
  have k_s25 : Kept m s0 s25 := by
    unfold s25
    refine kept_hif (hm.bit rfl) ?_
    exact k_s13
  clear_value s25
  extract_lets -merge -useContext +onlyGivenNames s36
  have k_s36 : Kept m s0 s36 := by
    unfold s36
    refine State.bump_kept (hm.sub rfl) rfl (hm.bit rfl) ?_
    exact k_s25
  clear_value s36
  extract_lets -merge -useContext +onlyGivenNames s47
  have k_s47 : Kept m s0 s47 := by
    unfold s47
    refine kept_ite ?_ ?_
    · exact k_s36
    · refine State.bump_kept (hm.sub rfl) rfl (hm.bit rfl) ?_
      exact k_s36
  clear_value s47
  refine kept_ite ?_ ?_
  · refine State.sendMsix_kept (hm.sub rfl) ?_
    exact k_s47
  · exact k_s47

theorem State.restartIfDue_kept {m : Nat} {s0 : State} {a0} (hm : Sub 18446744069448138749 m) (h0 : Kept m s0 a0) : Kept m s0 (State.restartIfDue a0) := by
  unfold State.restartIfDue
  refine kept_ite ?_ ?_
  · refine State.deviceReset_kept (hm.sub rfl) ?_
    refine State.flush_kept (hm.sub rfl) ?_
    exact h0
  · exact h0

theorem State.completionDue_kept {m : Nat} {s0 : State} {a0} {a1} (hm : Sub 18446744069515247615 m) (h0 : Kept m s0 a0) : Kept m s0 (State.completionDue a0 a1) := by
  unfold State.completionDue
  refine kept_ite ?_ ?_
  · exact h0
  · split
    · refine State.finishLoad_kept (hm.sub rfl) ?_
      exact h0
    · refine kept_ite ?_ ?_
      · refine State.raise_kept (hm.sub rfl) rfl (hm.bit rfl) ?_
        exact h0
      · refine kept_ite ?_ ?_
        · refine State.raise_kept (hm.sub rfl) rfl (hm.bit rfl) ?_
          exact h0
        · refine State.restartIfDue_kept (hm.sub rfl) ?_
          refine State.writeCpl_kept (hm.sub rfl) ?_
          exact h0

theorem execCompletionWrite_kept {m : Nat} {a0} {a1} {t : State} (hm : Sub 18446744069515247615 m) (h : execCompletionWrite a0 a1 = .next t) : Kept m a1 t := by
  rw [live_next h]
  have h1 : Kept m a1 a1 := kept_refl
  refine State.pumpCmds_kept (hm.sub rfl) ?_
  refine State.completionDue_kept (hm.sub rfl) ?_
  exact h1

theorem State.i2cNak_kept {m : Nat} {s0 : State} {a0} (hm : Sub 4573968372072456 m) (h0 : Kept m s0 a0) : Kept m s0 (State.i2cNak a0) := by
  unfold State.i2cNak
  refine State.raise_kept (hm.sub rfl) rfl (hm.bit rfl) ?_
  refine State.bump_kept (hm.sub rfl) rfl (hm.bit rfl) ?_
  exact h0

theorem State.i2cWrites_kept {m : Nat} {s0 : State} {a0} {a1} (hm : Sub 18446744069515247615 m) (h0 : Kept m s0 a0) : Kept m s0 ((State.i2cWrites a0 a1).1) := by
  induction a1 generalizing a0 with
  | nil => exact h0
  | cons w ws ih =>
    unfold State.i2cWrites
    refine kept_ite_fst h0 ?_
    refine ih ?_
    exact kept_hif (hm.bit rfl) (State.busWrite_kept (hm.sub rfl) rfl (hm.all rfl _) h0)

theorem State.i2cReads_kept {m : Nat} {s0 : State} {a0} {a1} {a2} (hm : Sub 18446744069499408568 m) (h1 : Kept m s0 a1) : Kept m s0 ((State.i2cReads a0 a1 a2).1) := by
  induction a0 generalizing a1 a2 with
  | zero => exact h1
  | succ n ih =>
    unfold State.i2cReads
    refine kept_ite_fst h1 ?_
    refine ih ?_
    refine kept_hif (hm.bit rfl) ?_
    exact State.busRead_kept (hm.sub rfl) h1 (fun y k => State.readReg_kept (hm.sub rfl) rfl (hm.all rfl _) k)

theorem State.i2cRead_kept {m : Nat} {s0 : State} {a0} {a1} (hm : Sub 18446744069499408568 m) (h0 : Kept m s0 a0) : Kept m s0 ((State.i2cRead a0 a1).1) := by
  unfold State.i2cRead
  refine kept_ite_fst ?_ ?_
  · refine kept_mkp_fst ?_
    exact h0
  · split
    · rename_i z1 z2 z3 e4
      have k5 : Kept m s0 z1 := by
        refine kept_pair_fst e4 ?_
        refine State.i2cReads_kept (hm.sub rfl) ?_
        exact h0
      refine kept_mkp_fst ?_
      refine State.answer_kept (hm.sub rfl) ?_
      exact k5

theorem State.i2cTransfer_kept {m : Nat} {s0 : State} {a0} {a1} {a2} (hm : Sub 18446744069515247615 m) (h0 : Kept m s0 a0) : Kept m s0 (State.i2cTransfer a0 a1 a2) := by
  unfold State.i2cTransfer
  extract_lets -merge -useContext +onlyGivenNames ptr1
  try clear_value ptr1
  refine kept_ite ?_ ?_
  · refine State.i2cNak_kept (hm.sub rfl) ?_
    exact h0
  · extract_lets -merge -useContext +onlyGivenNames s12
    try clear_value s12
    extract_lets -merge -useContext +onlyGivenNames s13
    have k_s13 : Kept m s0 s13 := by
      unfold s13
      refine kept_ite ?_ ?_
      · exact h0
      · refine kept_hif (hm.bit rfl) ?_
        exact h0
    clear_value s13
    split
    · rename_i z4 z5 e6
      have k7 : Kept m s0 z4 := by
        refine kept_pair_fst e6 ?_
        refine State.i2cWrites_kept (hm.sub rfl) ?_
        exact k_s13
      refine kept_ite ?_ ?_
      · refine State.i2cNak_kept (hm.sub rfl) ?_
        exact k7
      · split
        · rename_i z8 z9 e10
          have k11 : Kept m s0 z8 := by
            refine kept_pair_fst e10 ?_
            refine State.i2cRead_kept (hm.sub rfl) ?_
            exact k7
          refine kept_ite ?_ ?_
          · refine State.bump_kept (hm.sub rfl) rfl (hm.bit rfl) ?_
            exact k11
          · refine State.i2cNak_kept (hm.sub rfl) ?_
            exact k11

theorem execI2cTransfer_kept {m : Nat} {a0} {a1} {a2} {t : State} (hm : Sub 18446744069515247615 m) (h : execI2cTransfer a0 a1 a2 = .next t) : Kept m a2 t := by
  rw [live_next h]
  have h2 : Kept m a2 a2 := kept_refl
  refine kept_ite ?_ ?_
  · exact h2
  · refine kept_ite ?_ ?_
    · refine State.bump_kept (hm.sub rfl) rfl (hm.bit rfl) ?_
      exact h2
    · refine State.i2cTransfer_kept (hm.sub rfl) ?_
      exact h2

theorem State.refreshHostTargets_kept {m : Nat} {s0 : State} {a0} (hm : Sub 524288 m) (h0 : Kept m s0 a0) : Kept m s0 (State.refreshHostTargets a0) := by
  unfold State.refreshHostTargets
  refine kept_foldl ?_ ?_
  · exact h0
  · intro x3 y1 k2
    refine State.refreshSleep_kept (hm.sub rfl) ?_
    exact k2

theorem execPcieLinkDown_kept {m : Nat} {a0} {a1} {t : State} (hm : Sub 17301508 m) (h : execPcieLinkDown a0 a1 = .next t) : Kept m a1 t := by
  rw [liveAt_next h]
  have h1 : ∀ n, Kept m a1 (a1.advanceNs n) := fun _ => State.advanceNs_kept (hm.sub rfl) kept_refl
  refine State.refreshHostTargets_kept (hm.sub rfl) ?_
  refine kept_hif (hm.bit rfl) ?_
  exact (h1 _)

theorem execPcieLinkUp_kept {m : Nat} {a0} {a1} {a2} {t : State} (hm : Sub 17301504 m) (h : execPcieLinkUp a0 a1 a2 = .next t) : Kept m a2 t := by
  rw [live_next h]
  have h2 : Kept m a2 a2 := kept_refl
  refine State.refreshHostTargets_kept (hm.sub rfl) ?_
  refine kept_hif (hm.bit rfl) ?_
  exact h2


end Sys2Proof.Machine
end

