-- ==== Sys2Proof/Laws/KeptStartUp.lean ====
section
/-!
SUPPORT. What each operation of Machine/StartUp.lean may change: one lemma per operation, its mask of parts and register blocks in `hm`.
-/
namespace Sys2Proof.Machine

theorem State.bootFail_kept {m : Nat} {s0 : State} {a0} {a1} (hm : Sub 946907240790953 m) (h0 : Kept m s0 a0) : Kept m s0 (State.bootFail a0 a1) := by
  unfold State.bootFail
  split
  · rename_i z1 z2 e3
    have k4 : Kept m s0 z2 := by
      refine kept_pair_snd e3 ?_
      refine State.draw_kept (hm.sub rfl) ?_
      exact h0
    extract_lets -merge -useContext +onlyGivenNames s25
    have k_s25 : Kept m s0 s25 := by
      unfold s25
      refine State.raise_kept (hm.sub rfl) rfl (hm.bit rfl) ?_
      refine State.setVal_kept (hm.sub rfl) rfl (hm.bit rfl) ?_
      exact k4
    clear_value s25
    refine State.raise_kept (hm.sub rfl) rfl (hm.bit rfl) ?_
    refine State.enterMode_kept (hm.sub rfl) ?_
    exact k_s25

theorem State.firmwareWrites_kept {m : Nat} {s0 : State} {a0} {a1} (hm : Sub 18446744069515247613 m) (h0 : Kept m s0 a0) : Kept m s0 (State.firmwareWrites a0 a1) := by
  unfold State.firmwareWrites
  extract_lets -merge -useContext +onlyGivenNames m1
  try clear_value m1
  extract_lets -merge -useContext +onlyGivenNames s12
  try clear_value s12
  extract_lets -merge -useContext +onlyGivenNames s13
  have k_s13 : Kept m s0 s13 := by
    unfold s13
    refine kept_sys (hm.bit rfl) ?_
    exact h0
  clear_value s13
  extract_lets -merge -useContext +onlyGivenNames s24
  have k_s24 : Kept m s0 s24 := by
    unfold s24
    refine kept_foldl ?_ ?_
    · exact k_s13
    · intro x7 y5 k6
      refine State.writeBlock_kept (hm.sub rfl) rfl (hm.all rfl _) ?_
      exact k6
  clear_value s24
  refine kept_sys (hm.bit rfl) ?_
  exact k_s24

theorem State.startCart_kept {m : Nat} {s0 : State} {a0} {a1} (hm : Sub 633323020353544 m) (h0 : Kept m s0 a0) : Kept m s0 (State.startCart a0 a1) := by
  unfold State.startCart
  split
  · refine kept_ldg (hm.bit rfl) ?_
    exact h0
  · extract_lets -merge -useContext +onlyGivenNames known1
    try clear_value known1
    extract_lets -merge -useContext +onlyGivenNames c12
    try clear_value c12
    extract_lets -merge -useContext +onlyGivenNames s13
    try clear_value s13
    extract_lets -merge -useContext +onlyGivenNames s14
    have k_s14 : Kept m s0 s14 := by
      unfold s14
      refine kept_ldg (hm.bit rfl) ?_
      exact h0
    clear_value s14
    extract_lets -merge -useContext +onlyGivenNames s25
    have k_s25 : Kept m s0 s25 := by
      unfold s25
      refine State.readIdentity_kept (hm.sub rfl) ?_
      refine State.beginAttach_kept (hm.sub rfl) ?_
      exact k_s14
    clear_value s25
    refine kept_ite ?_ ?_
    · refine kept_ldg (hm.bit rfl) ?_
      exact k_s25
    · refine kept_ldg (hm.bit rfl) ?_
      exact k_s25

theorem State.startSettings_kept {m : Nat} {s0 : State} {a0} {a1} (hm : Sub 18446744069515247613 m) (h0 : Kept m s0 a0) : Kept m s0 (State.startSettings a0 a1) := by
  unfold State.startSettings
  extract_lets -merge -useContext +onlyGivenNames fresh1
  try clear_value fresh1
  extract_lets -merge -useContext +onlyGivenNames s12
  have k_s12 : Kept m s0 s12 := by
    unfold s12
    refine State.firmwareWrites_kept (hm.sub rfl) ?_
    exact h0
  clear_value s12
  refine kept_ite ?_ ?_
  · extract_lets -merge -useContext +onlyGivenNames c3
    try clear_value c3
    extract_lets -merge -useContext +onlyGivenNames s24
    have k_s24 : Kept m s0 s24 := by
      unfold s24
      refine State.writeCtl_kept (hm.sub rfl) ?_
      exact k_s12
    clear_value s24
    refine State.offer_kept (hm.sub rfl) ?_
    refine kept_mk ?_ (.inr rfl) (.inr rfl) (.inr rfl) (.inr rfl) (.inr rfl) (.inr rfl) (.inr rfl) (.inr rfl) (.inr rfl) (.inr rfl) (.inr rfl) (.inr rfl) (.inr rfl) (.inr rfl) (.inr rfl) (.inr rfl) (.inr rfl) (.inr rfl) (.inr rfl) (.inl (hm.bit rfl)) (.inr rfl) (.inl (hm.bit rfl)) (.inr rfl) (.inr rfl) (.inr rfl) (.inr rfl)
    exact k_s24
  · refine kept_ite ?_ ?_
    · refine State.firmwareWrites_kept (hm.sub rfl) ?_
      exact k_s12
    · exact k_s12

theorem State.startStep5_kept {m : Nat} {s0 : State} {a0} {a1} {a2} (hm : Sub 18446744069515247613 m) (h0 : Kept m s0 a0) : Kept m s0 (State.startStep5 a0 a1 a2) := by
  unfold State.startStep5
  extract_lets -merge -useContext +onlyGivenNames s11
  have k_s11 : Kept m s0 s11 := by
    unfold s11
    refine State.startSettings_kept (hm.sub rfl) ?_
    refine State.startCart_kept (hm.sub rfl) ?_
    exact h0
  clear_value s11
  extract_lets -merge -useContext +onlyGivenNames s22
  have k_s22 : Kept m s0 s22 := by
    unfold s22
    refine kept_ite ?_ ?_
    · refine State.offer_kept (hm.sub rfl) ?_
      exact k_s11
    · exact k_s11
  clear_value s22
  refine State.reseed_kept (hm.sub rfl) ?_
  refine State.meterRestore_kept (hm.sub rfl) ?_
  refine State.restoreKeys_kept (hm.sub rfl) ?_
  exact k_s22

theorem State.startTarget_kept {m : Nat} {s0 : State} {a0} (hm : Sub 9954106495531945 m) (h0 : Kept m s0 a0) : Kept m s0 (State.startTarget a0) := by
  unfold State.startTarget
  extract_lets -merge -useContext +onlyGivenNames target1
  try clear_value target1
  refine kept_ite ?_ ?_
  · exact h0
  · refine kept_ite ?_ ?_
    · refine kept_ite ?_ ?_
      · refine kept_ite ?_ ?_
        · refine State.enterWith_kept (hm.sub rfl) ?_ ?_
          · exact h0
          · intro y2 k3
            refine State.setRole_kept (hm.sub rfl) ?_
            exact k3
        · refine State.raise_kept (hm.sub rfl) rfl (hm.bit rfl) ?_
          exact h0
      · exact h0
    · refine kept_ite ?_ ?_
      · exact h0
      · refine kept_ite ?_ ?_
        · refine State.enterMode_kept (hm.sub rfl) ?_
          exact h0
        · refine State.raise_kept (hm.sub rfl) rfl (hm.bit rfl) ?_
          exact h0

theorem State.startStep6_kept {m : Nat} {s0 : State} {a0} {a1} (hm : Sub 18446744069515247613 m) (h0 : Kept m s0 a0) : Kept m s0 (State.startStep6 a0 a1) := by
  unfold State.startStep6
  split
  · rename_i z1 z2 e3
    have k4 : Kept m s0 z1 := by
      refine kept_pair_fst e3 ?_
      refine State.loadImage_kept (hm.sub rfl) ?_
      refine State.enterMode_kept (hm.sub rfl) ?_
      exact h0
    split
    · split
      · rename_i z5 z6 e7
        have k8 : Kept m s0 z6 := by
          refine kept_pair_snd e7 ?_
          refine State.draw_kept (hm.sub rfl) ?_
          exact k4
        refine State.raise_kept (hm.sub rfl) rfl (hm.bit rfl) ?_
        refine State.setVal_kept (hm.sub rfl) rfl (hm.bit rfl) ?_
        exact k8
    · refine State.startTarget_kept (hm.sub rfl) ?_
      exact k4

theorem State.loadedVersions_kept {m : Nat} {s0 : State} {a0} (hm : Sub 51606716416 m) (h0 : Kept m s0 a0) : Kept m s0 (State.loadedVersions a0) := by
  unfold State.loadedVersions
  extract_lets -merge -useContext +onlyGivenNames ver1
  try clear_value ver1
  split
  · rename_i z2 z3 e4
    have k5 : Kept m s0 z3 := by
      refine kept_pair_snd e4 ?_
      refine State.draw_kept (hm.sub rfl) ?_
      refine State.setVal_kept (hm.sub rfl) rfl (hm.bit rfl) ?_
      exact h0
    refine State.setFld_kept (hm.sub rfl) rfl (hm.bit rfl) ?_
    exact k5

theorem State.startUp_kept {m : Nat} {s0 : State} {a0} {a1} (hm : Sub 18446744069515247613 m) (h0 : Kept m s0 a0) : Kept m s0 (State.startUp a0 a1) := by
  unfold State.startUp
  extract_lets -merge -useContext +onlyGivenNames s11
  have k_s11 : Kept m s0 s11 := by
    unfold s11
    refine State.bootControl_kept (hm.sub rfl) ?_
    exact h0
  clear_value s11
  extract_lets -merge -useContext +onlyGivenNames fell2
  try clear_value fell2
  extract_lets -merge -useContext +onlyGivenNames s23
  have k_s23 : Kept m s0 s23 := by
    unfold s23
    refine State.copyTrim_kept (hm.sub rfl) ?_
    exact k_s11
  clear_value s23
  extract_lets -merge -useContext +onlyGivenNames failed4
  have k_failed4 : ∀ y0, Kept m s0 (failed4 y0) := by
    intro y5
    unfold failed4
    refine State.bootFail_kept (hm.sub rfl) ?_
    refine kept_ite ?_ ?_
    · refine State.offer_kept (hm.sub rfl) ?_
      exact k_s23
    · exact k_s23
  clear_value failed4
  refine kept_ite ?_ ?_
  · exact k_failed4 _
  · refine kept_ite ?_ ?_
    · exact k_failed4 _
    · extract_lets -merge -useContext +onlyGivenNames s37
      try clear_value s37
      extract_lets -merge -useContext +onlyGivenNames s38
      try clear_value s38
      extract_lets -merge -useContext +onlyGivenNames s39
      have k_s39 : Kept m s0 s39 := by
        unfold s39
        refine kept_mk ?_ (.inr rfl) (.inl (hm.bit rfl)) (.inr rfl) (.inr rfl) (.inr rfl) (.inr rfl) (.inr rfl) (.inr rfl) (.inr rfl) (.inr rfl) (.inr rfl) (.inr rfl) (.inr rfl) (.inr rfl) (.inr rfl) (.inr rfl) (.inr rfl) (.inr rfl) (.inr rfl) (.inr rfl) (.inr rfl) (.inl (hm.bit rfl)) (.inr rfl) (.inr rfl) (.inr rfl) (.inr rfl)
        exact k_s23
      clear_value s39
      refine State.startStep6_kept (hm.sub rfl) ?_
      refine State.startStep5_kept (hm.sub rfl) ?_
      refine State.loadedVersions_kept (hm.sub rfl) ?_
      exact k_s39

theorem execStartup_kept {m : Nat} {a0} {a1} {a2} {t : State} (hm : Sub 18446744069515247613 m) (h : execStartup a0 a1 a2 = .next t) : Kept m a2 t := by
  rw [liveAt_next h]
  have h2 : ∀ n, Kept m a2 (a2.advanceNs n) := fun _ => State.advanceNs_kept (hm.sub rfl) kept_refl
  refine kept_ite ?_ ?_
  · refine State.startUp_kept (hm.sub rfl) ?_
    exact (h2 _)
  · exact (h2 _)


end Sys2Proof.Machine
end

