-- ==== Sys2Proof/Laws/KeptStep.lean ====
section
/-!
SUPPORT. What each operation of Machine/Step.lean may change: one lemma per operation, its mask of parts and register blocks in `hm`.
-/
namespace Sys2Proof.Machine

theorem State.idle_kept {m : Nat} {s0 : State} {a0} (hm : Sub 18446744069515247615 m) (h0 : Kept m s0 a0) : Kept m s0 (State.idle a0) := by
  unfold State.idle
  refine State.pumpCmds_kept (hm.sub rfl) ?_
  refine State.restartIfDue_kept (hm.sub rfl) ?_
  refine State.finishLoad_kept (hm.sub rfl) ?_
  refine State.drainQueues_kept (hm.sub rfl) ?_
  refine State.tbTick_kept (hm.sub rfl) ?_
  exact h0

theorem State.withPending_kept {m : Nat} {s0 : State} {a0} {a1} (hm : Sub 134217728 m) (h0 : Kept m s0 a0) : Kept m s0 (State.withPending a0 a1) := by
  unfold State.withPending
  refine kept_pending (hm.bit rfl) ?_
  exact h0


end Sys2Proof.Machine
end

