-- ==== Sys2Proof/Laws/State.lean ====
section
/-!
SUPPORT. The small lemmas of the state's updates: what each plain update leaves in every part, and a register read after a write.
-/
namespace Sys2Proof.Machine

variable {s : State} {a b n k : Nat} {v : Word} {f g : Fld} {x y : Nat}

@[simp] theorem State.setReg_devMem : (s.setReg a v).devMem = s.devMem := rfl
@[simp] theorem State.setReg_hostMem : (s.setReg a v).hostMem = s.hostMem := rfl
@[simp] theorem State.setReg_now : (s.setReg a v).now = s.now := rfl
@[simp] theorem State.setReg_sys : (s.setReg a v).sys = s.sys := rfl
@[simp] theorem State.setReg_tb : (s.setReg a v).tb = s.tb := rfl
@[simp] theorem State.setReg_eth : (s.setReg a v).eth = s.eth := rfl
@[simp] theorem State.setReg_ing : (s.setReg a v).ing = s.ing := rfl
@[simp] theorem State.setReg_snap : (s.setReg a v).snap = s.snap := rfl
@[simp] theorem State.setReg_topo : (s.setReg a v).topo = s.topo := rfl
@[simp] theorem State.setReg_det : (s.setReg a v).det = s.det := rfl
@[simp] theorem State.setReg_modal : (s.setReg a v).modal = s.modal := rfl
@[simp] theorem State.setReg_alm : (s.setReg a v).alm = s.alm := rfl
@[simp] theorem State.setReg_afe : (s.setReg a v).afe = s.afe := rfl
@[simp] theorem State.setReg_flt : (s.setReg a v).flt = s.flt := rfl
@[simp] theorem State.setReg_mtr : (s.setReg a v).mtr = s.mtr := rfl
@[simp] theorem State.setReg_cap : (s.setReg a v).cap = s.cap := rfl
@[simp] theorem State.setReg_lat : (s.setReg a v).lat = s.lat := rfl
@[simp] theorem State.setReg_cores : (s.setReg a v).cores = s.cores := rfl
@[simp] theorem State.setReg_tsk : (s.setReg a v).tsk = s.tsk := rfl
@[simp] theorem State.setReg_evc : (s.setReg a v).evc = s.evc := rfl
@[simp] theorem State.setReg_chd : (s.setReg a v).chd = s.chd := rfl
@[simp] theorem State.setReg_ldg : (s.setReg a v).ldg = s.ldg := rfl
@[simp] theorem State.setReg_key : (s.setReg a v).key = s.key := rfl
@[simp] theorem State.setReg_upd : (s.setReg a v).upd = s.upd := rfl
@[simp] theorem State.setReg_hif : (s.setReg a v).hif = s.hif := rfl
@[simp] theorem State.setReg_supplyOk : (s.setReg a v).supplyOk = s.supplyOk := rfl
@[simp] theorem State.setReg_free : (s.setReg a v).free = s.free := rfl
@[simp] theorem State.setReg_pending : (s.setReg a v).pending = s.pending := rfl

@[simp] theorem State.setVal_devMem : (s.setVal a n).devMem = s.devMem := rfl
@[simp] theorem State.setVal_hostMem : (s.setVal a n).hostMem = s.hostMem := rfl
@[simp] theorem State.setVal_now : (s.setVal a n).now = s.now := rfl
@[simp] theorem State.setVal_sys : (s.setVal a n).sys = s.sys := rfl
@[simp] theorem State.setVal_tb : (s.setVal a n).tb = s.tb := rfl
@[simp] theorem State.setVal_eth : (s.setVal a n).eth = s.eth := rfl
@[simp] theorem State.setVal_ing : (s.setVal a n).ing = s.ing := rfl
@[simp] theorem State.setVal_snap : (s.setVal a n).snap = s.snap := rfl
@[simp] theorem State.setVal_topo : (s.setVal a n).topo = s.topo := rfl
@[simp] theorem State.setVal_det : (s.setVal a n).det = s.det := rfl
@[simp] theorem State.setVal_modal : (s.setVal a n).modal = s.modal := rfl
@[simp] theorem State.setVal_alm : (s.setVal a n).alm = s.alm := rfl
@[simp] theorem State.setVal_afe : (s.setVal a n).afe = s.afe := rfl
@[simp] theorem State.setVal_flt : (s.setVal a n).flt = s.flt := rfl
@[simp] theorem State.setVal_mtr : (s.setVal a n).mtr = s.mtr := rfl
@[simp] theorem State.setVal_cap : (s.setVal a n).cap = s.cap := rfl
@[simp] theorem State.setVal_lat : (s.setVal a n).lat = s.lat := rfl
@[simp] theorem State.setVal_cores : (s.setVal a n).cores = s.cores := rfl
@[simp] theorem State.setVal_tsk : (s.setVal a n).tsk = s.tsk := rfl
@[simp] theorem State.setVal_evc : (s.setVal a n).evc = s.evc := rfl
@[simp] theorem State.setVal_chd : (s.setVal a n).chd = s.chd := rfl
@[simp] theorem State.setVal_ldg : (s.setVal a n).ldg = s.ldg := rfl
@[simp] theorem State.setVal_key : (s.setVal a n).key = s.key := rfl
@[simp] theorem State.setVal_upd : (s.setVal a n).upd = s.upd := rfl
@[simp] theorem State.setVal_hif : (s.setVal a n).hif = s.hif := rfl
@[simp] theorem State.setVal_supplyOk : (s.setVal a n).supplyOk = s.supplyOk := rfl
@[simp] theorem State.setVal_free : (s.setVal a n).free = s.free := rfl
@[simp] theorem State.setVal_pending : (s.setVal a n).pending = s.pending := rfl

@[simp] theorem State.setFld_devMem : (s.setFld a f x).devMem = s.devMem := rfl
@[simp] theorem State.setFld_hostMem : (s.setFld a f x).hostMem = s.hostMem := rfl
@[simp] theorem State.setFld_now : (s.setFld a f x).now = s.now := rfl
@[simp] theorem State.setFld_sys : (s.setFld a f x).sys = s.sys := rfl
@[simp] theorem State.setFld_tb : (s.setFld a f x).tb = s.tb := rfl
@[simp] theorem State.setFld_eth : (s.setFld a f x).eth = s.eth := rfl
@[simp] theorem State.setFld_ing : (s.setFld a f x).ing = s.ing := rfl
@[simp] theorem State.setFld_snap : (s.setFld a f x).snap = s.snap := rfl
@[simp] theorem State.setFld_topo : (s.setFld a f x).topo = s.topo := rfl
@[simp] theorem State.setFld_det : (s.setFld a f x).det = s.det := rfl
@[simp] theorem State.setFld_modal : (s.setFld a f x).modal = s.modal := rfl
@[simp] theorem State.setFld_alm : (s.setFld a f x).alm = s.alm := rfl
@[simp] theorem State.setFld_afe : (s.setFld a f x).afe = s.afe := rfl
@[simp] theorem State.setFld_flt : (s.setFld a f x).flt = s.flt := rfl
@[simp] theorem State.setFld_mtr : (s.setFld a f x).mtr = s.mtr := rfl
@[simp] theorem State.setFld_cap : (s.setFld a f x).cap = s.cap := rfl
@[simp] theorem State.setFld_lat : (s.setFld a f x).lat = s.lat := rfl
@[simp] theorem State.setFld_cores : (s.setFld a f x).cores = s.cores := rfl
@[simp] theorem State.setFld_tsk : (s.setFld a f x).tsk = s.tsk := rfl
@[simp] theorem State.setFld_evc : (s.setFld a f x).evc = s.evc := rfl
@[simp] theorem State.setFld_chd : (s.setFld a f x).chd = s.chd := rfl
@[simp] theorem State.setFld_ldg : (s.setFld a f x).ldg = s.ldg := rfl
@[simp] theorem State.setFld_key : (s.setFld a f x).key = s.key := rfl
@[simp] theorem State.setFld_upd : (s.setFld a f x).upd = s.upd := rfl
@[simp] theorem State.setFld_hif : (s.setFld a f x).hif = s.hif := rfl
@[simp] theorem State.setFld_supplyOk : (s.setFld a f x).supplyOk = s.supplyOk := rfl
@[simp] theorem State.setFld_free : (s.setFld a f x).free = s.free := rfl
@[simp] theorem State.setFld_pending : (s.setFld a f x).pending = s.pending := rfl

@[simp] theorem State.bumpBy_devMem : (s.bumpBy a n).devMem = s.devMem := rfl
@[simp] theorem State.bumpBy_hostMem : (s.bumpBy a n).hostMem = s.hostMem := rfl
@[simp] theorem State.bumpBy_now : (s.bumpBy a n).now = s.now := rfl
@[simp] theorem State.bumpBy_sys : (s.bumpBy a n).sys = s.sys := rfl
@[simp] theorem State.bumpBy_tb : (s.bumpBy a n).tb = s.tb := rfl
@[simp] theorem State.bumpBy_eth : (s.bumpBy a n).eth = s.eth := rfl
@[simp] theorem State.bumpBy_ing : (s.bumpBy a n).ing = s.ing := rfl
@[simp] theorem State.bumpBy_snap : (s.bumpBy a n).snap = s.snap := rfl
@[simp] theorem State.bumpBy_topo : (s.bumpBy a n).topo = s.topo := rfl
@[simp] theorem State.bumpBy_det : (s.bumpBy a n).det = s.det := rfl
@[simp] theorem State.bumpBy_modal : (s.bumpBy a n).modal = s.modal := rfl
@[simp] theorem State.bumpBy_alm : (s.bumpBy a n).alm = s.alm := rfl
@[simp] theorem State.bumpBy_afe : (s.bumpBy a n).afe = s.afe := rfl
@[simp] theorem State.bumpBy_flt : (s.bumpBy a n).flt = s.flt := rfl
@[simp] theorem State.bumpBy_mtr : (s.bumpBy a n).mtr = s.mtr := rfl
@[simp] theorem State.bumpBy_cap : (s.bumpBy a n).cap = s.cap := rfl
@[simp] theorem State.bumpBy_lat : (s.bumpBy a n).lat = s.lat := rfl
@[simp] theorem State.bumpBy_cores : (s.bumpBy a n).cores = s.cores := rfl
@[simp] theorem State.bumpBy_tsk : (s.bumpBy a n).tsk = s.tsk := rfl
@[simp] theorem State.bumpBy_evc : (s.bumpBy a n).evc = s.evc := rfl
@[simp] theorem State.bumpBy_chd : (s.bumpBy a n).chd = s.chd := rfl
@[simp] theorem State.bumpBy_ldg : (s.bumpBy a n).ldg = s.ldg := rfl
@[simp] theorem State.bumpBy_key : (s.bumpBy a n).key = s.key := rfl
@[simp] theorem State.bumpBy_upd : (s.bumpBy a n).upd = s.upd := rfl
@[simp] theorem State.bumpBy_hif : (s.bumpBy a n).hif = s.hif := rfl
@[simp] theorem State.bumpBy_supplyOk : (s.bumpBy a n).supplyOk = s.supplyOk := rfl
@[simp] theorem State.bumpBy_free : (s.bumpBy a n).free = s.free := rfl
@[simp] theorem State.bumpBy_pending : (s.bumpBy a n).pending = s.pending := rfl

@[simp] theorem State.bump_devMem : (s.bump a).devMem = s.devMem := rfl
@[simp] theorem State.bump_hostMem : (s.bump a).hostMem = s.hostMem := rfl
@[simp] theorem State.bump_now : (s.bump a).now = s.now := rfl
@[simp] theorem State.bump_sys : (s.bump a).sys = s.sys := rfl
@[simp] theorem State.bump_tb : (s.bump a).tb = s.tb := rfl
@[simp] theorem State.bump_eth : (s.bump a).eth = s.eth := rfl
@[simp] theorem State.bump_ing : (s.bump a).ing = s.ing := rfl
@[simp] theorem State.bump_snap : (s.bump a).snap = s.snap := rfl
@[simp] theorem State.bump_topo : (s.bump a).topo = s.topo := rfl
@[simp] theorem State.bump_det : (s.bump a).det = s.det := rfl
@[simp] theorem State.bump_modal : (s.bump a).modal = s.modal := rfl
@[simp] theorem State.bump_alm : (s.bump a).alm = s.alm := rfl
@[simp] theorem State.bump_afe : (s.bump a).afe = s.afe := rfl
@[simp] theorem State.bump_flt : (s.bump a).flt = s.flt := rfl
@[simp] theorem State.bump_mtr : (s.bump a).mtr = s.mtr := rfl
@[simp] theorem State.bump_cap : (s.bump a).cap = s.cap := rfl
@[simp] theorem State.bump_lat : (s.bump a).lat = s.lat := rfl
@[simp] theorem State.bump_cores : (s.bump a).cores = s.cores := rfl
@[simp] theorem State.bump_tsk : (s.bump a).tsk = s.tsk := rfl
@[simp] theorem State.bump_evc : (s.bump a).evc = s.evc := rfl
@[simp] theorem State.bump_chd : (s.bump a).chd = s.chd := rfl
@[simp] theorem State.bump_ldg : (s.bump a).ldg = s.ldg := rfl
@[simp] theorem State.bump_key : (s.bump a).key = s.key := rfl
@[simp] theorem State.bump_upd : (s.bump a).upd = s.upd := rfl
@[simp] theorem State.bump_hif : (s.bump a).hif = s.hif := rfl
@[simp] theorem State.bump_supplyOk : (s.bump a).supplyOk = s.supplyOk := rfl
@[simp] theorem State.bump_free : (s.bump a).free = s.free := rfl
@[simp] theorem State.bump_pending : (s.bump a).pending = s.pending := rfl

@[simp] theorem State.putDev_regs {l : List Byte} : (s.putDev a l).regs = s.regs := rfl
@[simp] theorem State.putDev_hostMem {l : List Byte} : (s.putDev a l).hostMem = s.hostMem := rfl
@[simp] theorem State.putDev_now {l : List Byte} : (s.putDev a l).now = s.now := rfl
@[simp] theorem State.putDev_sys {l : List Byte} : (s.putDev a l).sys = s.sys := rfl
@[simp] theorem State.putDev_tb {l : List Byte} : (s.putDev a l).tb = s.tb := rfl
@[simp] theorem State.putDev_eth {l : List Byte} : (s.putDev a l).eth = s.eth := rfl
@[simp] theorem State.putDev_ing {l : List Byte} : (s.putDev a l).ing = s.ing := rfl
@[simp] theorem State.putDev_snap {l : List Byte} : (s.putDev a l).snap = s.snap := rfl
@[simp] theorem State.putDev_topo {l : List Byte} : (s.putDev a l).topo = s.topo := rfl
@[simp] theorem State.putDev_det {l : List Byte} : (s.putDev a l).det = s.det := rfl
@[simp] theorem State.putDev_modal {l : List Byte} : (s.putDev a l).modal = s.modal := rfl
@[simp] theorem State.putDev_alm {l : List Byte} : (s.putDev a l).alm = s.alm := rfl
@[simp] theorem State.putDev_afe {l : List Byte} : (s.putDev a l).afe = s.afe := rfl
@[simp] theorem State.putDev_flt {l : List Byte} : (s.putDev a l).flt = s.flt := rfl
@[simp] theorem State.putDev_mtr {l : List Byte} : (s.putDev a l).mtr = s.mtr := rfl
@[simp] theorem State.putDev_cap {l : List Byte} : (s.putDev a l).cap = s.cap := rfl
@[simp] theorem State.putDev_lat {l : List Byte} : (s.putDev a l).lat = s.lat := rfl
@[simp] theorem State.putDev_cores {l : List Byte} : (s.putDev a l).cores = s.cores := rfl
@[simp] theorem State.putDev_tsk {l : List Byte} : (s.putDev a l).tsk = s.tsk := rfl
@[simp] theorem State.putDev_evc {l : List Byte} : (s.putDev a l).evc = s.evc := rfl
@[simp] theorem State.putDev_chd {l : List Byte} : (s.putDev a l).chd = s.chd := rfl
@[simp] theorem State.putDev_ldg {l : List Byte} : (s.putDev a l).ldg = s.ldg := rfl
@[simp] theorem State.putDev_key {l : List Byte} : (s.putDev a l).key = s.key := rfl
@[simp] theorem State.putDev_upd {l : List Byte} : (s.putDev a l).upd = s.upd := rfl
@[simp] theorem State.putDev_hif {l : List Byte} : (s.putDev a l).hif = s.hif := rfl
@[simp] theorem State.putDev_supplyOk {l : List Byte} : (s.putDev a l).supplyOk = s.supplyOk := rfl
@[simp] theorem State.putDev_free {l : List Byte} : (s.putDev a l).free = s.free := rfl
@[simp] theorem State.putDev_pending {l : List Byte} : (s.putDev a l).pending = s.pending := rfl
@[simp] theorem State.putDev_reg {l : List Byte} {r : Nat} : (s.putDev a l).reg r = s.reg r := rfl
@[simp] theorem State.putDev_val {l : List Byte} {r : Nat} : (s.putDev a l).val r = s.val r := rfl
@[simp] theorem State.putDev_fld {l : List Byte} {r : Nat} : (s.putDev a l).fld r f = s.fld r f := rfl
@[simp] theorem State.putDev_flag {l : List Byte} {r : Nat} : (s.putDev a l).flag r f = s.flag r f := rfl

@[simp] theorem State.putHost_regs {l : List Byte} : (s.putHost a l).regs = s.regs := rfl
@[simp] theorem State.putHost_devMem {l : List Byte} : (s.putHost a l).devMem = s.devMem := rfl
@[simp] theorem State.putHost_now {l : List Byte} : (s.putHost a l).now = s.now := rfl
@[simp] theorem State.putHost_sys {l : List Byte} : (s.putHost a l).sys = s.sys := rfl
@[simp] theorem State.putHost_tb {l : List Byte} : (s.putHost a l).tb = s.tb := rfl
@[simp] theorem State.putHost_eth {l : List Byte} : (s.putHost a l).eth = s.eth := rfl
@[simp] theorem State.putHost_ing {l : List Byte} : (s.putHost a l).ing = s.ing := rfl
@[simp] theorem State.putHost_snap {l : List Byte} : (s.putHost a l).snap = s.snap := rfl
@[simp] theorem State.putHost_topo {l : List Byte} : (s.putHost a l).topo = s.topo := rfl
@[simp] theorem State.putHost_det {l : List Byte} : (s.putHost a l).det = s.det := rfl
@[simp] theorem State.putHost_modal {l : List Byte} : (s.putHost a l).modal = s.modal := rfl
@[simp] theorem State.putHost_alm {l : List Byte} : (s.putHost a l).alm = s.alm := rfl
@[simp] theorem State.putHost_afe {l : List Byte} : (s.putHost a l).afe = s.afe := rfl
@[simp] theorem State.putHost_flt {l : List Byte} : (s.putHost a l).flt = s.flt := rfl
@[simp] theorem State.putHost_mtr {l : List Byte} : (s.putHost a l).mtr = s.mtr := rfl
@[simp] theorem State.putHost_cap {l : List Byte} : (s.putHost a l).cap = s.cap := rfl
@[simp] theorem State.putHost_lat {l : List Byte} : (s.putHost a l).lat = s.lat := rfl
@[simp] theorem State.putHost_cores {l : List Byte} : (s.putHost a l).cores = s.cores := rfl
@[simp] theorem State.putHost_tsk {l : List Byte} : (s.putHost a l).tsk = s.tsk := rfl
@[simp] theorem State.putHost_evc {l : List Byte} : (s.putHost a l).evc = s.evc := rfl
@[simp] theorem State.putHost_chd {l : List Byte} : (s.putHost a l).chd = s.chd := rfl
@[simp] theorem State.putHost_ldg {l : List Byte} : (s.putHost a l).ldg = s.ldg := rfl
@[simp] theorem State.putHost_key {l : List Byte} : (s.putHost a l).key = s.key := rfl
@[simp] theorem State.putHost_upd {l : List Byte} : (s.putHost a l).upd = s.upd := rfl
@[simp] theorem State.putHost_hif {l : List Byte} : (s.putHost a l).hif = s.hif := rfl
@[simp] theorem State.putHost_supplyOk {l : List Byte} : (s.putHost a l).supplyOk = s.supplyOk := rfl
@[simp] theorem State.putHost_free {l : List Byte} : (s.putHost a l).free = s.free := rfl
@[simp] theorem State.putHost_pending {l : List Byte} : (s.putHost a l).pending = s.pending := rfl
@[simp] theorem State.putHost_reg {l : List Byte} {r : Nat} : (s.putHost a l).reg r = s.reg r := rfl
@[simp] theorem State.putHost_val {l : List Byte} {r : Nat} : (s.putHost a l).val r = s.val r := rfl
@[simp] theorem State.putHost_fld {l : List Byte} {r : Nat} : (s.putHost a l).fld r f = s.fld r f := rfl
@[simp] theorem State.putHost_flag {l : List Byte} {r : Nat} : (s.putHost a l).flag r f = s.flag r f := rfl

@[simp] theorem State.setTarget_regs {t : EvcTarget} : (s.setTarget n t).regs = s.regs := rfl
@[simp] theorem State.setTarget_devMem {t : EvcTarget} : (s.setTarget n t).devMem = s.devMem := rfl
@[simp] theorem State.setTarget_hostMem {t : EvcTarget} : (s.setTarget n t).hostMem = s.hostMem := rfl
@[simp] theorem State.setTarget_now {t : EvcTarget} : (s.setTarget n t).now = s.now := rfl
@[simp] theorem State.setTarget_sys {t : EvcTarget} : (s.setTarget n t).sys = s.sys := rfl
@[simp] theorem State.setTarget_tb {t : EvcTarget} : (s.setTarget n t).tb = s.tb := rfl
@[simp] theorem State.setTarget_eth {t : EvcTarget} : (s.setTarget n t).eth = s.eth := rfl
@[simp] theorem State.setTarget_ing {t : EvcTarget} : (s.setTarget n t).ing = s.ing := rfl
@[simp] theorem State.setTarget_snap {t : EvcTarget} : (s.setTarget n t).snap = s.snap := rfl
@[simp] theorem State.setTarget_topo {t : EvcTarget} : (s.setTarget n t).topo = s.topo := rfl
@[simp] theorem State.setTarget_det {t : EvcTarget} : (s.setTarget n t).det = s.det := rfl
@[simp] theorem State.setTarget_modal {t : EvcTarget} : (s.setTarget n t).modal = s.modal := rfl
@[simp] theorem State.setTarget_alm {t : EvcTarget} : (s.setTarget n t).alm = s.alm := rfl
@[simp] theorem State.setTarget_afe {t : EvcTarget} : (s.setTarget n t).afe = s.afe := rfl
@[simp] theorem State.setTarget_flt {t : EvcTarget} : (s.setTarget n t).flt = s.flt := rfl
@[simp] theorem State.setTarget_mtr {t : EvcTarget} : (s.setTarget n t).mtr = s.mtr := rfl
@[simp] theorem State.setTarget_cap {t : EvcTarget} : (s.setTarget n t).cap = s.cap := rfl
@[simp] theorem State.setTarget_lat {t : EvcTarget} : (s.setTarget n t).lat = s.lat := rfl
@[simp] theorem State.setTarget_cores {t : EvcTarget} : (s.setTarget n t).cores = s.cores := rfl
@[simp] theorem State.setTarget_tsk {t : EvcTarget} : (s.setTarget n t).tsk = s.tsk := rfl
@[simp] theorem State.setTarget_chd {t : EvcTarget} : (s.setTarget n t).chd = s.chd := rfl
@[simp] theorem State.setTarget_ldg {t : EvcTarget} : (s.setTarget n t).ldg = s.ldg := rfl
@[simp] theorem State.setTarget_key {t : EvcTarget} : (s.setTarget n t).key = s.key := rfl
@[simp] theorem State.setTarget_upd {t : EvcTarget} : (s.setTarget n t).upd = s.upd := rfl
@[simp] theorem State.setTarget_hif {t : EvcTarget} : (s.setTarget n t).hif = s.hif := rfl
@[simp] theorem State.setTarget_supplyOk {t : EvcTarget} : (s.setTarget n t).supplyOk = s.supplyOk := rfl
@[simp] theorem State.setTarget_free {t : EvcTarget} : (s.setTarget n t).free = s.free := rfl
@[simp] theorem State.setTarget_pending {t : EvcTarget} : (s.setTarget n t).pending = s.pending := rfl
@[simp] theorem State.setTarget_reg {t : EvcTarget} {r : Nat} : (s.setTarget n t).reg r = s.reg r := rfl
@[simp] theorem State.setTarget_val {t : EvcTarget} {r : Nat} : (s.setTarget n t).val r = s.val r := rfl
@[simp] theorem State.setTarget_fld {t : EvcTarget} {r : Nat} : (s.setTarget n t).fld r f = s.fld r f := rfl
@[simp] theorem State.setTarget_flag {t : EvcTarget} {r : Nat} : (s.setTarget n t).flag r f = s.flag r f := rfl

@[simp] theorem State.setCore_regs {c : Core} : (s.setCore k c).regs = s.regs := rfl
@[simp] theorem State.setCore_devMem {c : Core} : (s.setCore k c).devMem = s.devMem := rfl
@[simp] theorem State.setCore_hostMem {c : Core} : (s.setCore k c).hostMem = s.hostMem := rfl
@[simp] theorem State.setCore_now {c : Core} : (s.setCore k c).now = s.now := rfl
@[simp] theorem State.setCore_sys {c : Core} : (s.setCore k c).sys = s.sys := rfl
@[simp] theorem State.setCore_tb {c : Core} : (s.setCore k c).tb = s.tb := rfl
@[simp] theorem State.setCore_eth {c : Core} : (s.setCore k c).eth = s.eth := rfl
@[simp] theorem State.setCore_ing {c : Core} : (s.setCore k c).ing = s.ing := rfl
@[simp] theorem State.setCore_snap {c : Core} : (s.setCore k c).snap = s.snap := rfl
@[simp] theorem State.setCore_topo {c : Core} : (s.setCore k c).topo = s.topo := rfl
@[simp] theorem State.setCore_det {c : Core} : (s.setCore k c).det = s.det := rfl
@[simp] theorem State.setCore_modal {c : Core} : (s.setCore k c).modal = s.modal := rfl
@[simp] theorem State.setCore_alm {c : Core} : (s.setCore k c).alm = s.alm := rfl
@[simp] theorem State.setCore_afe {c : Core} : (s.setCore k c).afe = s.afe := rfl
@[simp] theorem State.setCore_flt {c : Core} : (s.setCore k c).flt = s.flt := rfl
@[simp] theorem State.setCore_mtr {c : Core} : (s.setCore k c).mtr = s.mtr := rfl
@[simp] theorem State.setCore_cap {c : Core} : (s.setCore k c).cap = s.cap := rfl
@[simp] theorem State.setCore_lat {c : Core} : (s.setCore k c).lat = s.lat := rfl
@[simp] theorem State.setCore_tsk {c : Core} : (s.setCore k c).tsk = s.tsk := rfl
@[simp] theorem State.setCore_evc {c : Core} : (s.setCore k c).evc = s.evc := rfl
@[simp] theorem State.setCore_chd {c : Core} : (s.setCore k c).chd = s.chd := rfl
@[simp] theorem State.setCore_ldg {c : Core} : (s.setCore k c).ldg = s.ldg := rfl
@[simp] theorem State.setCore_key {c : Core} : (s.setCore k c).key = s.key := rfl
@[simp] theorem State.setCore_upd {c : Core} : (s.setCore k c).upd = s.upd := rfl
@[simp] theorem State.setCore_hif {c : Core} : (s.setCore k c).hif = s.hif := rfl
@[simp] theorem State.setCore_supplyOk {c : Core} : (s.setCore k c).supplyOk = s.supplyOk := rfl
@[simp] theorem State.setCore_free {c : Core} : (s.setCore k c).free = s.free := rfl
@[simp] theorem State.setCore_pending {c : Core} : (s.setCore k c).pending = s.pending := rfl
@[simp] theorem State.setCore_reg {c : Core} {r : Nat} : (s.setCore k c).reg r = s.reg r := rfl
@[simp] theorem State.setCore_val {c : Core} {r : Nat} : (s.setCore k c).val r = s.val r := rfl
@[simp] theorem State.setCore_fld {c : Core} {r : Nat} : (s.setCore k c).fld r f = s.fld r f := rfl
@[simp] theorem State.setCore_flag {c : Core} {r : Nat} : (s.setCore k c).flag r f = s.flag r f := rfl

@[simp] theorem State.answer_regs {ws : List Nat} : (s.answer ws).regs = s.regs := rfl
@[simp] theorem State.answer_devMem {ws : List Nat} : (s.answer ws).devMem = s.devMem := rfl
@[simp] theorem State.answer_hostMem {ws : List Nat} : (s.answer ws).hostMem = s.hostMem := rfl
@[simp] theorem State.answer_now {ws : List Nat} : (s.answer ws).now = s.now := rfl
@[simp] theorem State.answer_sys {ws : List Nat} : (s.answer ws).sys = s.sys := rfl
@[simp] theorem State.answer_tb {ws : List Nat} : (s.answer ws).tb = s.tb := rfl
@[simp] theorem State.answer_eth {ws : List Nat} : (s.answer ws).eth = s.eth := rfl
@[simp] theorem State.answer_ing {ws : List Nat} : (s.answer ws).ing = s.ing := rfl
@[simp] theorem State.answer_snap {ws : List Nat} : (s.answer ws).snap = s.snap := rfl
@[simp] theorem State.answer_topo {ws : List Nat} : (s.answer ws).topo = s.topo := rfl
@[simp] theorem State.answer_det {ws : List Nat} : (s.answer ws).det = s.det := rfl
@[simp] theorem State.answer_modal {ws : List Nat} : (s.answer ws).modal = s.modal := rfl
@[simp] theorem State.answer_alm {ws : List Nat} : (s.answer ws).alm = s.alm := rfl
@[simp] theorem State.answer_afe {ws : List Nat} : (s.answer ws).afe = s.afe := rfl
@[simp] theorem State.answer_flt {ws : List Nat} : (s.answer ws).flt = s.flt := rfl
@[simp] theorem State.answer_mtr {ws : List Nat} : (s.answer ws).mtr = s.mtr := rfl
@[simp] theorem State.answer_cap {ws : List Nat} : (s.answer ws).cap = s.cap := rfl
@[simp] theorem State.answer_lat {ws : List Nat} : (s.answer ws).lat = s.lat := rfl
@[simp] theorem State.answer_cores {ws : List Nat} : (s.answer ws).cores = s.cores := rfl
@[simp] theorem State.answer_tsk {ws : List Nat} : (s.answer ws).tsk = s.tsk := rfl
@[simp] theorem State.answer_evc {ws : List Nat} : (s.answer ws).evc = s.evc := rfl
@[simp] theorem State.answer_chd {ws : List Nat} : (s.answer ws).chd = s.chd := rfl
@[simp] theorem State.answer_ldg {ws : List Nat} : (s.answer ws).ldg = s.ldg := rfl
@[simp] theorem State.answer_key {ws : List Nat} : (s.answer ws).key = s.key := rfl
@[simp] theorem State.answer_upd {ws : List Nat} : (s.answer ws).upd = s.upd := rfl
@[simp] theorem State.answer_supplyOk {ws : List Nat} : (s.answer ws).supplyOk = s.supplyOk := rfl
@[simp] theorem State.answer_free {ws : List Nat} : (s.answer ws).free = s.free := rfl
@[simp] theorem State.answer_pending {ws : List Nat} : (s.answer ws).pending = s.pending := rfl
@[simp] theorem State.answer_reg {ws : List Nat} {r : Nat} : (s.answer ws).reg r = s.reg r := rfl
@[simp] theorem State.answer_val {ws : List Nat} {r : Nat} : (s.answer ws).val r = s.val r := rfl
@[simp] theorem State.answer_fld {ws : List Nat} {r : Nat} : (s.answer ws).fld r f = s.fld r f := rfl
@[simp] theorem State.answer_flag {ws : List Nat} {r : Nat} : (s.answer ws).flag r f = s.flag r f := rfl

@[simp] theorem State.advanceNs_regs  : (s.advanceNs n).regs = s.regs := rfl
@[simp] theorem State.advanceNs_devMem  : (s.advanceNs n).devMem = s.devMem := rfl
@[simp] theorem State.advanceNs_hostMem  : (s.advanceNs n).hostMem = s.hostMem := rfl
@[simp] theorem State.advanceNs_sys  : (s.advanceNs n).sys = s.sys := rfl
@[simp] theorem State.advanceNs_tb  : (s.advanceNs n).tb = s.tb := rfl
@[simp] theorem State.advanceNs_eth  : (s.advanceNs n).eth = s.eth := rfl
@[simp] theorem State.advanceNs_ing  : (s.advanceNs n).ing = s.ing := rfl
@[simp] theorem State.advanceNs_snap  : (s.advanceNs n).snap = s.snap := rfl
@[simp] theorem State.advanceNs_topo  : (s.advanceNs n).topo = s.topo := rfl
@[simp] theorem State.advanceNs_det  : (s.advanceNs n).det = s.det := rfl
@[simp] theorem State.advanceNs_modal  : (s.advanceNs n).modal = s.modal := rfl
@[simp] theorem State.advanceNs_alm  : (s.advanceNs n).alm = s.alm := rfl
@[simp] theorem State.advanceNs_afe  : (s.advanceNs n).afe = s.afe := rfl
@[simp] theorem State.advanceNs_flt  : (s.advanceNs n).flt = s.flt := rfl
@[simp] theorem State.advanceNs_mtr  : (s.advanceNs n).mtr = s.mtr := rfl
@[simp] theorem State.advanceNs_cap  : (s.advanceNs n).cap = s.cap := rfl
@[simp] theorem State.advanceNs_lat  : (s.advanceNs n).lat = s.lat := rfl
@[simp] theorem State.advanceNs_cores  : (s.advanceNs n).cores = s.cores := rfl
@[simp] theorem State.advanceNs_tsk  : (s.advanceNs n).tsk = s.tsk := rfl
@[simp] theorem State.advanceNs_evc  : (s.advanceNs n).evc = s.evc := rfl
@[simp] theorem State.advanceNs_chd  : (s.advanceNs n).chd = s.chd := rfl
@[simp] theorem State.advanceNs_ldg  : (s.advanceNs n).ldg = s.ldg := rfl
@[simp] theorem State.advanceNs_key  : (s.advanceNs n).key = s.key := rfl
@[simp] theorem State.advanceNs_upd  : (s.advanceNs n).upd = s.upd := rfl
@[simp] theorem State.advanceNs_hif  : (s.advanceNs n).hif = s.hif := rfl
@[simp] theorem State.advanceNs_supplyOk  : (s.advanceNs n).supplyOk = s.supplyOk := rfl
@[simp] theorem State.advanceNs_free  : (s.advanceNs n).free = s.free := rfl
@[simp] theorem State.advanceNs_pending  : (s.advanceNs n).pending = s.pending := rfl
@[simp] theorem State.advanceNs_reg  {r : Nat} : (s.advanceNs n).reg r = s.reg r := rfl
@[simp] theorem State.advanceNs_val  {r : Nat} : (s.advanceNs n).val r = s.val r := rfl
@[simp] theorem State.advanceNs_fld  {r : Nat} : (s.advanceNs n).fld r f = s.fld r f := rfl
@[simp] theorem State.advanceNs_flag  {r : Nat} : (s.advanceNs n).flag r f = s.flag r f := rfl

@[simp] theorem State.withPending_regs {q : List Instr} : (s.withPending q).regs = s.regs := rfl
@[simp] theorem State.withPending_devMem {q : List Instr} : (s.withPending q).devMem = s.devMem := rfl
@[simp] theorem State.withPending_hostMem {q : List Instr} : (s.withPending q).hostMem = s.hostMem := rfl
@[simp] theorem State.withPending_now {q : List Instr} : (s.withPending q).now = s.now := rfl
@[simp] theorem State.withPending_sys {q : List Instr} : (s.withPending q).sys = s.sys := rfl
@[simp] theorem State.withPending_tb {q : List Instr} : (s.withPending q).tb = s.tb := rfl
@[simp] theorem State.withPending_eth {q : List Instr} : (s.withPending q).eth = s.eth := rfl
@[simp] theorem State.withPending_ing {q : List Instr} : (s.withPending q).ing = s.ing := rfl
@[simp] theorem State.withPending_snap {q : List Instr} : (s.withPending q).snap = s.snap := rfl
@[simp] theorem State.withPending_topo {q : List Instr} : (s.withPending q).topo = s.topo := rfl
@[simp] theorem State.withPending_det {q : List Instr} : (s.withPending q).det = s.det := rfl
@[simp] theorem State.withPending_modal {q : List Instr} : (s.withPending q).modal = s.modal := rfl
@[simp] theorem State.withPending_alm {q : List Instr} : (s.withPending q).alm = s.alm := rfl
@[simp] theorem State.withPending_afe {q : List Instr} : (s.withPending q).afe = s.afe := rfl
@[simp] theorem State.withPending_flt {q : List Instr} : (s.withPending q).flt = s.flt := rfl
@[simp] theorem State.withPending_mtr {q : List Instr} : (s.withPending q).mtr = s.mtr := rfl
@[simp] theorem State.withPending_cap {q : List Instr} : (s.withPending q).cap = s.cap := rfl
@[simp] theorem State.withPending_lat {q : List Instr} : (s.withPending q).lat = s.lat := rfl
@[simp] theorem State.withPending_cores {q : List Instr} : (s.withPending q).cores = s.cores := rfl
@[simp] theorem State.withPending_tsk {q : List Instr} : (s.withPending q).tsk = s.tsk := rfl
@[simp] theorem State.withPending_evc {q : List Instr} : (s.withPending q).evc = s.evc := rfl
@[simp] theorem State.withPending_chd {q : List Instr} : (s.withPending q).chd = s.chd := rfl
@[simp] theorem State.withPending_ldg {q : List Instr} : (s.withPending q).ldg = s.ldg := rfl
@[simp] theorem State.withPending_key {q : List Instr} : (s.withPending q).key = s.key := rfl
@[simp] theorem State.withPending_upd {q : List Instr} : (s.withPending q).upd = s.upd := rfl
@[simp] theorem State.withPending_hif {q : List Instr} : (s.withPending q).hif = s.hif := rfl
@[simp] theorem State.withPending_supplyOk {q : List Instr} : (s.withPending q).supplyOk = s.supplyOk := rfl
@[simp] theorem State.withPending_free {q : List Instr} : (s.withPending q).free = s.free := rfl
@[simp] theorem State.withPending_reg {q : List Instr} {r : Nat} : (s.withPending q).reg r = s.reg r := rfl
@[simp] theorem State.withPending_val {q : List Instr} {r : Nat} : (s.withPending q).val r = s.val r := rfl
@[simp] theorem State.withPending_fld {q : List Instr} {r : Nat} : (s.withPending q).fld r f = s.fld r f := rfl
@[simp] theorem State.withPending_flag {q : List Instr} {r : Nat} : (s.withPending q).flag r f = s.flag r f := rfl

@[simp] theorem State.withPending_pending {q : List Instr} : (s.withPending q).pending = q := rfl

@[simp] theorem State.answer_rdata {ws : List Nat} : (s.answer ws).hif.rdata = ws := rfl

/-! ### Registers -/

theorem State.reg_setReg : (s.setReg a v).reg b = if b = a then v else s.reg b := tget_tput

@[simp] theorem State.reg_setReg_same : (s.setReg a v).reg a = v := tget_tput_same

theorem State.reg_setReg_other (h : b ≠ a) : (s.setReg a v).reg b = s.reg b := tget_tput_other h

@[simp] theorem State.val_setVal_same : (s.setVal a n).val a = n % 2 ^ 32 := by
  simp [State.val, State.setVal]

theorem State.val_setVal_small (h : n < 2 ^ 32) : (s.setVal a n).val a = n := by
  rw [State.val_setVal_same, Nat.mod_eq_of_lt h]

theorem State.val_setVal_other (h : b ≠ a) : (s.setVal a n).val b = s.val b := by
  unfold State.val State.setVal; rw [State.reg_setReg_other h]

theorem State.reg_setVal_other (h : b ≠ a) : (s.setVal a n).reg b = s.reg b := State.reg_setReg_other h

theorem State.reg_setFld_other (h : b ≠ a) : (s.setFld a f x).reg b = s.reg b := State.reg_setReg_other h

theorem State.reg_bump_other (h : b ≠ a) : (s.bump a).reg b = s.reg b := State.reg_setReg_other h

theorem State.reg_bumpBy_other (h : b ≠ a) : (s.bumpBy a n).reg b = s.reg b := State.reg_setReg_other h

/-- A counter raised by one saturates (R49 and its like). -/
@[simp] theorem State.val_bump_same : (s.bump a).val a = min (s.val a + 1) 0xFFFFFFFF := by
  unfold State.bump State.bumpBy
  rw [State.val_setVal_same, Nat.mod_eq_of_lt]
  have := Nat.min_le_right (s.val a + 1) 0xFFFFFFFF
  omega

theorem State.fld_of_reg {t : State} (h : t.reg a = s.reg a) : t.fld a f = s.fld a f := by unfold State.fld; rw [h]

theorem State.val_of_reg {t : State} (h : t.reg a = s.reg a) : t.val a = s.val a := by unfold State.val; rw [h]

theorem State.flag_of_reg {t : State} (h : t.reg a = s.reg a) : t.flag a f = s.flag a f := by unfold State.flag State.fld; rw [h]

/-- The bits of a field in a word. -/
theorem and_mask (v lo w : Nat) : v &&& ((2 ^ w - 1) * 2 ^ lo) = v / 2 ^ lo % 2 ^ w * 2 ^ lo := by
  apply Nat.eq_of_testBit_eq
  intro i
  rw [Nat.testBit_and, Nat.testBit_mul_two_pow, Nat.testBit_mul_two_pow, Nat.testBit_two_pow_sub_one, Nat.testBit_mod_two_pow,
    Nat.testBit_div_two_pow]
  by_cases h : lo ≤ i
  · have : i - lo + lo = i := by omega
    simp [h, Bool.and_comm]
  · simp [h]

/-- A word with a field replaced, as a number. -/
theorem Fld.into_toNat (f : Fld) (v : Word) (x : Nat) (h : f.lo + f.width ≤ 32) :
    (f.into v x).toNat = v.toNat / 2 ^ (f.lo + f.width) * 2 ^ (f.lo + f.width) + x % 2 ^ f.width * 2 ^ f.lo + v.toNat % 2 ^ f.lo := by
  obtain ⟨lo, w⟩ := f
  simp only at h ⊢
  have hv : v.toNat < 2 ^ 32 := v.isLt
  have hx : x % 2 ^ w < 2 ^ w := Nat.mod_lt _ (Nat.two_pow_pos w)
  have hd : v.toNat = v.toNat / 2 ^ (lo + w) * 2 ^ (lo + w) + v.toNat / 2 ^ lo % 2 ^ w * 2 ^ lo + v.toNat % 2 ^ lo := by
    have h1 := Nat.div_add_mod v.toNat (2 ^ lo)
    have h2 := Nat.div_add_mod (v.toNat / 2 ^ lo) (2 ^ w)
    rw [Nat.div_div_eq_div_mul, ← Nat.pow_add] at h2
    have h3 : v.toNat / 2 ^ (lo + w) * 2 ^ (lo + w) = 2 ^ lo * (2 ^ w * (v.toNat / 2 ^ (lo + w))) := by
      rw [Nat.pow_add]; ring
    have h4 : 2 ^ lo * (v.toNat / 2 ^ lo) = 2 ^ lo * (2 ^ w * (v.toNat / 2 ^ (lo + w))) + v.toNat / 2 ^ lo % 2 ^ w * 2 ^ lo := by
      conv_lhs => rw [← h2]
      ring
    omega
  have hl : v.toNat % 2 ^ lo < 2 ^ lo := Nat.mod_lt _ (Nat.two_pow_pos lo)
  have hq : v.toNat / 2 ^ (lo + w) < 2 ^ (32 - (lo + w)) := by
    rw [Nat.div_lt_iff_lt_mul (Nat.two_pow_pos _), ← Nat.pow_add]
    rwa [show 32 - (lo + w) + (lo + w) = 32 by omega]
  have hb : v.toNat / 2 ^ (lo + w) * 2 ^ (lo + w) + x % 2 ^ w * 2 ^ lo + v.toNat % 2 ^ lo < 2 ^ 32 := by
    have e1 : (v.toNat / 2 ^ (lo + w) + 1) * 2 ^ (lo + w) ≤ 2 ^ (32 - (lo + w)) * 2 ^ (lo + w) := Nat.mul_le_mul_right _ hq
    rw [← Nat.pow_add, show 32 - (lo + w) + (lo + w) = 32 by omega] at e1
    have e2 : (x % 2 ^ w + 1) * 2 ^ lo ≤ 2 ^ w * 2 ^ lo := Nat.mul_le_mul_right _ hx
    rw [← Nat.pow_add, Nat.add_comm w lo] at e2
    have e3 := Nat.add_mul (v.toNat / 2 ^ (lo + w)) 1 (2 ^ (lo + w))
    have e4 := Nat.add_mul (x % 2 ^ w) 1 (2 ^ lo)
    omega
  unfold Fld.into
  simp only [and_mask, BitVec.toNat_ofNat]
  rw [Nat.mod_eq_of_lt (a := _ + _)]
  · omega
  · omega

/-- A field written reads back, when it lies inside the word. -/
theorem Fld.of_into (f : Fld) (v : Word) (x : Nat) (h : f.lo + f.width ≤ 32) : f.of (f.into v x) = x % 2 ^ f.width := by
  unfold Fld.of bitsOf
  rw [Fld.into_toNat f v x h, Nat.shiftRight_eq_div_pow]
  obtain ⟨lo, w⟩ := f
  simp only
  have hx : x % 2 ^ w < 2 ^ w := Nat.mod_lt _ (Nat.two_pow_pos w)
  have : v.toNat / 2 ^ (lo + w) * 2 ^ (lo + w) + x % 2 ^ w * 2 ^ lo + v.toNat % 2 ^ lo
      = v.toNat % 2 ^ lo + 2 ^ lo * (2 ^ w * (v.toNat / 2 ^ (lo + w)) + x % 2 ^ w) := by rw [Nat.pow_add]; ring
  rw [this, Nat.add_mul_div_left _ _ (Nat.two_pow_pos lo), Nat.div_eq_of_lt (Nat.mod_lt _ (Nat.two_pow_pos lo)), Nat.zero_add,
    Nat.mul_add_mod, Nat.mod_mod]

/-- A field beside the one written keeps its value. -/
theorem Fld.of_into_other (f g : Fld) (v : Word) (x : Nat) (h : f.lo + f.width ≤ 32) (d : g.lo + g.width ≤ f.lo ∨ f.lo + f.width ≤ g.lo) :
    g.of (f.into v x) = g.of v := by
  have key : ∀ i, i < f.lo ∨ f.lo + f.width ≤ i → (f.into v x).toNat.testBit i = v.toNat.testBit i := by
    intro i hi
    rw [Fld.into_toNat f v x h]
    obtain ⟨lo, w⟩ := f
    simp only at *
    have e : v.toNat / 2 ^ (lo + w) * 2 ^ (lo + w) + x % 2 ^ w * 2 ^ lo + v.toNat % 2 ^ lo
      = 2 ^ lo * (2 ^ w * (v.toNat / 2 ^ (lo + w)) + x % 2 ^ w) + v.toNat % 2 ^ lo := by rw [Nat.pow_add]; ring
    rw [e, Nat.testBit_two_pow_mul_add _ (Nat.mod_lt _ (Nat.two_pow_pos lo))]
    rcases hi with hi | hi
    · rw [if_pos hi, Nat.testBit_mod_two_pow]; simp [hi]
    · rw [if_neg (by omega), Nat.testBit_two_pow_mul_add _ (Nat.mod_lt _ (Nat.two_pow_pos w)), if_neg (by omega), Nat.testBit_div_two_pow]
      congr 1; omega
  unfold Fld.of bitsOf
  apply Nat.eq_of_testBit_eq
  intro i
  rw [Nat.testBit_mod_two_pow, Nat.testBit_mod_two_pow, Nat.testBit_shiftRight, Nat.testBit_shiftRight]
  by_cases hi : i < g.width
  · rw [key _ (by omega)]
  · simp [hi]

@[simp] theorem State.reg_setFld_same : (s.setFld a f x).reg a = f.into (s.reg a) x := State.reg_setReg_same

theorem State.fld_setFld_same (h : f.lo + f.width ≤ 32) : (s.setFld a f x).fld a f = x % 2 ^ f.width := by
  unfold State.fld; rw [State.reg_setFld_same, Fld.of_into _ _ _ h]

theorem State.fld_setFld_other (h : f.lo + f.width ≤ 32) (d : g.lo + g.width ≤ f.lo ∨ f.lo + f.width ≤ g.lo) :
    (s.setFld a f x).fld a g = s.fld a g := by
  unfold State.fld; rw [State.reg_setFld_same, Fld.of_into_other _ _ _ _ h d]

/-! ### Running a meaning -/

/-- A meaning on a device whose supplies hold. -/
theorem State.live_powered {h : State → State} (p : s.powered) : s.live h = .next (h s) := if_pos p

theorem State.liveAt_powered {h : State → State} (p : s.powered) : s.liveAt n h = .next (h (s.advanceNs n)) := if_pos p

/-- A meaning on a device whose supplies have failed. -/
theorem State.live_failed {h : State → State} (p : s.supplyOk = false) : s.live h = .fault .supplyFailed := by
  unfold State.live; rw [p]; rfl

theorem State.liveAt_failed {h : State → State} (p : s.supplyOk = false) : s.liveAt n h = .fault .supplyFailed := State.live_failed p

/-- A write by a requester that may make it, to a block that is on, has its effect. -/
theorem State.writeBy_may {r : Requester} {h : State → State} (p : s.mayWrite r a n) : s.writeBy r a n h = h s := by
  unfold State.mayWrite at p
  unfold State.writeBy
  cases r <;> simp_all

/-- A read by a requester that may make it, of a block that is on, has its effect. -/
theorem State.readBy_may {r : Requester} {h : State → State} (p : s.mayRead r a) : s.readBy r a h = h s := by
  unfold State.mayRead at p
  unfold State.readBy
  cases r <;> simp_all

end Sys2Proof.Machine
end

