-- ==== Sys2Proof/Laws/Ops.lean ====
section
/-!
SUPPORT. What the shared operations leave alone, part by part: an event, a sticky bit, a ledger record, a completion, a message, an
exception; and the register blocks they touch.
-/
namespace Sys2Proof.Machine

variable {s : State}

@[simp] theorem State.event_devMem {src info : Nat} : (s.event src info).devMem = s.devMem :=
  (State.event_kept (m := 70368744701960) rfl kept_refl).devMem.resolve_left (by decide)
@[simp] theorem State.event_hostMem {src info : Nat} : (s.event src info).hostMem = s.hostMem :=
  (State.event_kept (m := 70368744701960) rfl kept_refl).hostMem.resolve_left (by decide)
@[simp] theorem State.event_now {src info : Nat} : (s.event src info).now = s.now :=
  (State.event_kept (m := 70368744701960) rfl kept_refl).now.resolve_left (by decide)
@[simp] theorem State.event_tb {src info : Nat} : (s.event src info).tb = s.tb :=
  (State.event_kept (m := 70368744701960) rfl kept_refl).tb.resolve_left (by decide)
@[simp] theorem State.event_eth {src info : Nat} : (s.event src info).eth = s.eth :=
  (State.event_kept (m := 70368744701960) rfl kept_refl).eth.resolve_left (by decide)
@[simp] theorem State.event_ing {src info : Nat} : (s.event src info).ing = s.ing :=
  (State.event_kept (m := 70368744701960) rfl kept_refl).ing.resolve_left (by decide)
@[simp] theorem State.event_snap {src info : Nat} : (s.event src info).snap = s.snap :=
  (State.event_kept (m := 70368744701960) rfl kept_refl).snap.resolve_left (by decide)
@[simp] theorem State.event_topo {src info : Nat} : (s.event src info).topo = s.topo :=
  (State.event_kept (m := 70368744701960) rfl kept_refl).topo.resolve_left (by decide)
@[simp] theorem State.event_det {src info : Nat} : (s.event src info).det = s.det :=
  (State.event_kept (m := 70368744701960) rfl kept_refl).det.resolve_left (by decide)
@[simp] theorem State.event_modal {src info : Nat} : (s.event src info).modal = s.modal :=
  (State.event_kept (m := 70368744701960) rfl kept_refl).modal.resolve_left (by decide)
@[simp] theorem State.event_alm {src info : Nat} : (s.event src info).alm = s.alm :=
  (State.event_kept (m := 70368744701960) rfl kept_refl).alm.resolve_left (by decide)
@[simp] theorem State.event_afe {src info : Nat} : (s.event src info).afe = s.afe :=
  (State.event_kept (m := 70368744701960) rfl kept_refl).afe.resolve_left (by decide)
@[simp] theorem State.event_flt {src info : Nat} : (s.event src info).flt = s.flt :=
  (State.event_kept (m := 70368744701960) rfl kept_refl).flt.resolve_left (by decide)
@[simp] theorem State.event_mtr {src info : Nat} : (s.event src info).mtr = s.mtr :=
  (State.event_kept (m := 70368744701960) rfl kept_refl).mtr.resolve_left (by decide)
@[simp] theorem State.event_cap {src info : Nat} : (s.event src info).cap = s.cap :=
  (State.event_kept (m := 70368744701960) rfl kept_refl).cap.resolve_left (by decide)
@[simp] theorem State.event_lat {src info : Nat} : (s.event src info).lat = s.lat :=
  (State.event_kept (m := 70368744701960) rfl kept_refl).lat.resolve_left (by decide)
@[simp] theorem State.event_cores {src info : Nat} : (s.event src info).cores = s.cores :=
  (State.event_kept (m := 70368744701960) rfl kept_refl).cores.resolve_left (by decide)
@[simp] theorem State.event_tsk {src info : Nat} : (s.event src info).tsk = s.tsk :=
  (State.event_kept (m := 70368744701960) rfl kept_refl).tsk.resolve_left (by decide)
@[simp] theorem State.event_chd {src info : Nat} : (s.event src info).chd = s.chd :=
  (State.event_kept (m := 70368744701960) rfl kept_refl).chd.resolve_left (by decide)
@[simp] theorem State.event_ldg {src info : Nat} : (s.event src info).ldg = s.ldg :=
  (State.event_kept (m := 70368744701960) rfl kept_refl).ldg.resolve_left (by decide)
@[simp] theorem State.event_key {src info : Nat} : (s.event src info).key = s.key :=
  (State.event_kept (m := 70368744701960) rfl kept_refl).key.resolve_left (by decide)
@[simp] theorem State.event_upd {src info : Nat} : (s.event src info).upd = s.upd :=
  (State.event_kept (m := 70368744701960) rfl kept_refl).upd.resolve_left (by decide)
@[simp] theorem State.event_hif {src info : Nat} : (s.event src info).hif = s.hif :=
  (State.event_kept (m := 70368744701960) rfl kept_refl).hif.resolve_left (by decide)
@[simp] theorem State.event_supplyOk {src info : Nat} : (s.event src info).supplyOk = s.supplyOk :=
  (State.event_kept (m := 70368744701960) rfl kept_refl).supplyOk.resolve_left (by decide)
@[simp] theorem State.event_free {src info : Nat} : (s.event src info).free = s.free :=
  (State.event_kept (m := 70368744701960) rfl kept_refl).free.resolve_left (by decide)
@[simp] theorem State.event_pending {src info : Nat} : (s.event src info).pending = s.pending :=
  (State.event_kept (m := 70368744701960) rfl kept_refl).pending.resolve_left (by decide)
/-- Registers it leaves alone. -/
theorem State.event_reg {src info : Nat} {ra bk : Nat} (h0 : ra / 1048576 % 32 = bk) (h1 : (70368744701960 : Nat).testBit (32 + bk) = false) :
    (s.event src info).reg ra = s.reg ra :=
  reg_of_kept (State.event_kept (m := 70368744701960) rfl kept_refl) ra h0 h1

@[simp] theorem State.pendEvent_devMem {src info : Nat} {p q : Bool} : (s.pendEvent src info p q).devMem = s.devMem :=
  (State.pendEvent_kept (m := 70368744701952) rfl kept_refl).devMem.resolve_left (by decide)
@[simp] theorem State.pendEvent_hostMem {src info : Nat} {p q : Bool} : (s.pendEvent src info p q).hostMem = s.hostMem :=
  (State.pendEvent_kept (m := 70368744701952) rfl kept_refl).hostMem.resolve_left (by decide)
@[simp] theorem State.pendEvent_now {src info : Nat} {p q : Bool} : (s.pendEvent src info p q).now = s.now :=
  (State.pendEvent_kept (m := 70368744701952) rfl kept_refl).now.resolve_left (by decide)
@[simp] theorem State.pendEvent_sys {src info : Nat} {p q : Bool} : (s.pendEvent src info p q).sys = s.sys :=
  (State.pendEvent_kept (m := 70368744701952) rfl kept_refl).sys.resolve_left (by decide)
@[simp] theorem State.pendEvent_tb {src info : Nat} {p q : Bool} : (s.pendEvent src info p q).tb = s.tb :=
  (State.pendEvent_kept (m := 70368744701952) rfl kept_refl).tb.resolve_left (by decide)
@[simp] theorem State.pendEvent_eth {src info : Nat} {p q : Bool} : (s.pendEvent src info p q).eth = s.eth :=
  (State.pendEvent_kept (m := 70368744701952) rfl kept_refl).eth.resolve_left (by decide)
@[simp] theorem State.pendEvent_ing {src info : Nat} {p q : Bool} : (s.pendEvent src info p q).ing = s.ing :=
  (State.pendEvent_kept (m := 70368744701952) rfl kept_refl).ing.resolve_left (by decide)
@[simp] theorem State.pendEvent_snap {src info : Nat} {p q : Bool} : (s.pendEvent src info p q).snap = s.snap :=
  (State.pendEvent_kept (m := 70368744701952) rfl kept_refl).snap.resolve_left (by decide)
@[simp] theorem State.pendEvent_topo {src info : Nat} {p q : Bool} : (s.pendEvent src info p q).topo = s.topo :=
  (State.pendEvent_kept (m := 70368744701952) rfl kept_refl).topo.resolve_left (by decide)
@[simp] theorem State.pendEvent_det {src info : Nat} {p q : Bool} : (s.pendEvent src info p q).det = s.det :=
  (State.pendEvent_kept (m := 70368744701952) rfl kept_refl).det.resolve_left (by decide)
@[simp] theorem State.pendEvent_modal {src info : Nat} {p q : Bool} : (s.pendEvent src info p q).modal = s.modal :=
  (State.pendEvent_kept (m := 70368744701952) rfl kept_refl).modal.resolve_left (by decide)
@[simp] theorem State.pendEvent_alm {src info : Nat} {p q : Bool} : (s.pendEvent src info p q).alm = s.alm :=
  (State.pendEvent_kept (m := 70368744701952) rfl kept_refl).alm.resolve_left (by decide)
@[simp] theorem State.pendEvent_afe {src info : Nat} {p q : Bool} : (s.pendEvent src info p q).afe = s.afe :=
  (State.pendEvent_kept (m := 70368744701952) rfl kept_refl).afe.resolve_left (by decide)
@[simp] theorem State.pendEvent_flt {src info : Nat} {p q : Bool} : (s.pendEvent src info p q).flt = s.flt :=
  (State.pendEvent_kept (m := 70368744701952) rfl kept_refl).flt.resolve_left (by decide)
@[simp] theorem State.pendEvent_mtr {src info : Nat} {p q : Bool} : (s.pendEvent src info p q).mtr = s.mtr :=
  (State.pendEvent_kept (m := 70368744701952) rfl kept_refl).mtr.resolve_left (by decide)
@[simp] theorem State.pendEvent_cap {src info : Nat} {p q : Bool} : (s.pendEvent src info p q).cap = s.cap :=
  (State.pendEvent_kept (m := 70368744701952) rfl kept_refl).cap.resolve_left (by decide)
@[simp] theorem State.pendEvent_lat {src info : Nat} {p q : Bool} : (s.pendEvent src info p q).lat = s.lat :=
  (State.pendEvent_kept (m := 70368744701952) rfl kept_refl).lat.resolve_left (by decide)
@[simp] theorem State.pendEvent_cores {src info : Nat} {p q : Bool} : (s.pendEvent src info p q).cores = s.cores :=
  (State.pendEvent_kept (m := 70368744701952) rfl kept_refl).cores.resolve_left (by decide)
@[simp] theorem State.pendEvent_tsk {src info : Nat} {p q : Bool} : (s.pendEvent src info p q).tsk = s.tsk :=
  (State.pendEvent_kept (m := 70368744701952) rfl kept_refl).tsk.resolve_left (by decide)
@[simp] theorem State.pendEvent_chd {src info : Nat} {p q : Bool} : (s.pendEvent src info p q).chd = s.chd :=
  (State.pendEvent_kept (m := 70368744701952) rfl kept_refl).chd.resolve_left (by decide)
@[simp] theorem State.pendEvent_ldg {src info : Nat} {p q : Bool} : (s.pendEvent src info p q).ldg = s.ldg :=
  (State.pendEvent_kept (m := 70368744701952) rfl kept_refl).ldg.resolve_left (by decide)
@[simp] theorem State.pendEvent_key {src info : Nat} {p q : Bool} : (s.pendEvent src info p q).key = s.key :=
  (State.pendEvent_kept (m := 70368744701952) rfl kept_refl).key.resolve_left (by decide)
@[simp] theorem State.pendEvent_upd {src info : Nat} {p q : Bool} : (s.pendEvent src info p q).upd = s.upd :=
  (State.pendEvent_kept (m := 70368744701952) rfl kept_refl).upd.resolve_left (by decide)
@[simp] theorem State.pendEvent_hif {src info : Nat} {p q : Bool} : (s.pendEvent src info p q).hif = s.hif :=
  (State.pendEvent_kept (m := 70368744701952) rfl kept_refl).hif.resolve_left (by decide)
@[simp] theorem State.pendEvent_supplyOk {src info : Nat} {p q : Bool} : (s.pendEvent src info p q).supplyOk = s.supplyOk :=
  (State.pendEvent_kept (m := 70368744701952) rfl kept_refl).supplyOk.resolve_left (by decide)
@[simp] theorem State.pendEvent_free {src info : Nat} {p q : Bool} : (s.pendEvent src info p q).free = s.free :=
  (State.pendEvent_kept (m := 70368744701952) rfl kept_refl).free.resolve_left (by decide)
@[simp] theorem State.pendEvent_pending {src info : Nat} {p q : Bool} : (s.pendEvent src info p q).pending = s.pending :=
  (State.pendEvent_kept (m := 70368744701952) rfl kept_refl).pending.resolve_left (by decide)
/-- Registers it leaves alone. -/
theorem State.pendEvent_reg {src info : Nat} {p q : Bool} {ra bk : Nat} (h0 : ra / 1048576 % 32 = bk) (h1 : (70368744701952 : Nat).testBit (32 + bk) = false) :
    (s.pendEvent src info p q).reg ra = s.reg ra :=
  reg_of_kept (State.pendEvent_kept (m := 70368744701952) rfl kept_refl) ra h0 h1

@[simp] theorem State.raise_devMem {e : ErrReg} {n : Nat} : (s.raise e n).devMem = s.devMem :=
  (State.raise_kept (m := 18446744069415108616) rfl rfl (Sub.refl.all rfl _) kept_refl).devMem.resolve_left (by decide)
@[simp] theorem State.raise_hostMem {e : ErrReg} {n : Nat} : (s.raise e n).hostMem = s.hostMem :=
  (State.raise_kept (m := 18446744069415108616) rfl rfl (Sub.refl.all rfl _) kept_refl).hostMem.resolve_left (by decide)
@[simp] theorem State.raise_now {e : ErrReg} {n : Nat} : (s.raise e n).now = s.now :=
  (State.raise_kept (m := 18446744069415108616) rfl rfl (Sub.refl.all rfl _) kept_refl).now.resolve_left (by decide)
@[simp] theorem State.raise_tb {e : ErrReg} {n : Nat} : (s.raise e n).tb = s.tb :=
  (State.raise_kept (m := 18446744069415108616) rfl rfl (Sub.refl.all rfl _) kept_refl).tb.resolve_left (by decide)
@[simp] theorem State.raise_eth {e : ErrReg} {n : Nat} : (s.raise e n).eth = s.eth :=
  (State.raise_kept (m := 18446744069415108616) rfl rfl (Sub.refl.all rfl _) kept_refl).eth.resolve_left (by decide)
@[simp] theorem State.raise_ing {e : ErrReg} {n : Nat} : (s.raise e n).ing = s.ing :=
  (State.raise_kept (m := 18446744069415108616) rfl rfl (Sub.refl.all rfl _) kept_refl).ing.resolve_left (by decide)
@[simp] theorem State.raise_snap {e : ErrReg} {n : Nat} : (s.raise e n).snap = s.snap :=
  (State.raise_kept (m := 18446744069415108616) rfl rfl (Sub.refl.all rfl _) kept_refl).snap.resolve_left (by decide)
@[simp] theorem State.raise_topo {e : ErrReg} {n : Nat} : (s.raise e n).topo = s.topo :=
  (State.raise_kept (m := 18446744069415108616) rfl rfl (Sub.refl.all rfl _) kept_refl).topo.resolve_left (by decide)
@[simp] theorem State.raise_det {e : ErrReg} {n : Nat} : (s.raise e n).det = s.det :=
  (State.raise_kept (m := 18446744069415108616) rfl rfl (Sub.refl.all rfl _) kept_refl).det.resolve_left (by decide)
@[simp] theorem State.raise_modal {e : ErrReg} {n : Nat} : (s.raise e n).modal = s.modal :=
  (State.raise_kept (m := 18446744069415108616) rfl rfl (Sub.refl.all rfl _) kept_refl).modal.resolve_left (by decide)
@[simp] theorem State.raise_alm {e : ErrReg} {n : Nat} : (s.raise e n).alm = s.alm :=
  (State.raise_kept (m := 18446744069415108616) rfl rfl (Sub.refl.all rfl _) kept_refl).alm.resolve_left (by decide)
@[simp] theorem State.raise_afe {e : ErrReg} {n : Nat} : (s.raise e n).afe = s.afe :=
  (State.raise_kept (m := 18446744069415108616) rfl rfl (Sub.refl.all rfl _) kept_refl).afe.resolve_left (by decide)
@[simp] theorem State.raise_flt {e : ErrReg} {n : Nat} : (s.raise e n).flt = s.flt :=
  (State.raise_kept (m := 18446744069415108616) rfl rfl (Sub.refl.all rfl _) kept_refl).flt.resolve_left (by decide)
@[simp] theorem State.raise_mtr {e : ErrReg} {n : Nat} : (s.raise e n).mtr = s.mtr :=
  (State.raise_kept (m := 18446744069415108616) rfl rfl (Sub.refl.all rfl _) kept_refl).mtr.resolve_left (by decide)
@[simp] theorem State.raise_cap {e : ErrReg} {n : Nat} : (s.raise e n).cap = s.cap :=
  (State.raise_kept (m := 18446744069415108616) rfl rfl (Sub.refl.all rfl _) kept_refl).cap.resolve_left (by decide)
@[simp] theorem State.raise_lat {e : ErrReg} {n : Nat} : (s.raise e n).lat = s.lat :=
  (State.raise_kept (m := 18446744069415108616) rfl rfl (Sub.refl.all rfl _) kept_refl).lat.resolve_left (by decide)
@[simp] theorem State.raise_cores {e : ErrReg} {n : Nat} : (s.raise e n).cores = s.cores :=
  (State.raise_kept (m := 18446744069415108616) rfl rfl (Sub.refl.all rfl _) kept_refl).cores.resolve_left (by decide)
@[simp] theorem State.raise_tsk {e : ErrReg} {n : Nat} : (s.raise e n).tsk = s.tsk :=
  (State.raise_kept (m := 18446744069415108616) rfl rfl (Sub.refl.all rfl _) kept_refl).tsk.resolve_left (by decide)
@[simp] theorem State.raise_chd {e : ErrReg} {n : Nat} : (s.raise e n).chd = s.chd :=
  (State.raise_kept (m := 18446744069415108616) rfl rfl (Sub.refl.all rfl _) kept_refl).chd.resolve_left (by decide)
@[simp] theorem State.raise_ldg {e : ErrReg} {n : Nat} : (s.raise e n).ldg = s.ldg :=
  (State.raise_kept (m := 18446744069415108616) rfl rfl (Sub.refl.all rfl _) kept_refl).ldg.resolve_left (by decide)
@[simp] theorem State.raise_key {e : ErrReg} {n : Nat} : (s.raise e n).key = s.key :=
  (State.raise_kept (m := 18446744069415108616) rfl rfl (Sub.refl.all rfl _) kept_refl).key.resolve_left (by decide)
@[simp] theorem State.raise_upd {e : ErrReg} {n : Nat} : (s.raise e n).upd = s.upd :=
  (State.raise_kept (m := 18446744069415108616) rfl rfl (Sub.refl.all rfl _) kept_refl).upd.resolve_left (by decide)
@[simp] theorem State.raise_hif {e : ErrReg} {n : Nat} : (s.raise e n).hif = s.hif :=
  (State.raise_kept (m := 18446744069415108616) rfl rfl (Sub.refl.all rfl _) kept_refl).hif.resolve_left (by decide)
@[simp] theorem State.raise_supplyOk {e : ErrReg} {n : Nat} : (s.raise e n).supplyOk = s.supplyOk :=
  (State.raise_kept (m := 18446744069415108616) rfl rfl (Sub.refl.all rfl _) kept_refl).supplyOk.resolve_left (by decide)
@[simp] theorem State.raise_free {e : ErrReg} {n : Nat} : (s.raise e n).free = s.free :=
  (State.raise_kept (m := 18446744069415108616) rfl rfl (Sub.refl.all rfl _) kept_refl).free.resolve_left (by decide)
@[simp] theorem State.raise_pending {e : ErrReg} {n : Nat} : (s.raise e n).pending = s.pending :=
  (State.raise_kept (m := 18446744069415108616) rfl rfl (Sub.refl.all rfl _) kept_refl).pending.resolve_left (by decide)
/-- Registers it leaves alone: all but its own and those of the event controller. -/
theorem State.raise_reg {e : ErrReg} {n : Nat} {r k j : Nat} (h : r / 1048576 % 32 = k) (g : e.addr / 1048576 % 32 = j) (c : k ≠ j) (d : k ≠ 14) :
    (s.raise e n).reg r = s.reg r := by
  unfold State.raise State.raiseInfo
  have x : (70368744701960 : Nat).testBit (32 + k) = false := by
    have : k < 32 := by omega
    have e : ∀ k < 32, k ≠ 14 → (70368744701960 : Nat).testBit (32 + k) = false := by decide
    exact e k this d
  rw [State.event_reg h x, State.reg_setVal_other]
  intro w
  subst w
  omega

@[simp] theorem State.raiseInfo_devMem {e : ErrReg} {n i : Nat} : (s.raiseInfo e n i).devMem = s.devMem :=
  (State.raiseInfo_kept (m := 18446744069415108616) rfl rfl (Sub.refl.all rfl _) kept_refl).devMem.resolve_left (by decide)
@[simp] theorem State.raiseInfo_hostMem {e : ErrReg} {n i : Nat} : (s.raiseInfo e n i).hostMem = s.hostMem :=
  (State.raiseInfo_kept (m := 18446744069415108616) rfl rfl (Sub.refl.all rfl _) kept_refl).hostMem.resolve_left (by decide)
@[simp] theorem State.raiseInfo_now {e : ErrReg} {n i : Nat} : (s.raiseInfo e n i).now = s.now :=
  (State.raiseInfo_kept (m := 18446744069415108616) rfl rfl (Sub.refl.all rfl _) kept_refl).now.resolve_left (by decide)
@[simp] theorem State.raiseInfo_tb {e : ErrReg} {n i : Nat} : (s.raiseInfo e n i).tb = s.tb :=
  (State.raiseInfo_kept (m := 18446744069415108616) rfl rfl (Sub.refl.all rfl _) kept_refl).tb.resolve_left (by decide)
@[simp] theorem State.raiseInfo_eth {e : ErrReg} {n i : Nat} : (s.raiseInfo e n i).eth = s.eth :=
  (State.raiseInfo_kept (m := 18446744069415108616) rfl rfl (Sub.refl.all rfl _) kept_refl).eth.resolve_left (by decide)
@[simp] theorem State.raiseInfo_ing {e : ErrReg} {n i : Nat} : (s.raiseInfo e n i).ing = s.ing :=
  (State.raiseInfo_kept (m := 18446744069415108616) rfl rfl (Sub.refl.all rfl _) kept_refl).ing.resolve_left (by decide)
@[simp] theorem State.raiseInfo_snap {e : ErrReg} {n i : Nat} : (s.raiseInfo e n i).snap = s.snap :=
  (State.raiseInfo_kept (m := 18446744069415108616) rfl rfl (Sub.refl.all rfl _) kept_refl).snap.resolve_left (by decide)
@[simp] theorem State.raiseInfo_topo {e : ErrReg} {n i : Nat} : (s.raiseInfo e n i).topo = s.topo :=
  (State.raiseInfo_kept (m := 18446744069415108616) rfl rfl (Sub.refl.all rfl _) kept_refl).topo.resolve_left (by decide)
@[simp] theorem State.raiseInfo_det {e : ErrReg} {n i : Nat} : (s.raiseInfo e n i).det = s.det :=
  (State.raiseInfo_kept (m := 18446744069415108616) rfl rfl (Sub.refl.all rfl _) kept_refl).det.resolve_left (by decide)
@[simp] theorem State.raiseInfo_modal {e : ErrReg} {n i : Nat} : (s.raiseInfo e n i).modal = s.modal :=
  (State.raiseInfo_kept (m := 18446744069415108616) rfl rfl (Sub.refl.all rfl _) kept_refl).modal.resolve_left (by decide)
@[simp] theorem State.raiseInfo_alm {e : ErrReg} {n i : Nat} : (s.raiseInfo e n i).alm = s.alm :=
  (State.raiseInfo_kept (m := 18446744069415108616) rfl rfl (Sub.refl.all rfl _) kept_refl).alm.resolve_left (by decide)
@[simp] theorem State.raiseInfo_afe {e : ErrReg} {n i : Nat} : (s.raiseInfo e n i).afe = s.afe :=
  (State.raiseInfo_kept (m := 18446744069415108616) rfl rfl (Sub.refl.all rfl _) kept_refl).afe.resolve_left (by decide)
@[simp] theorem State.raiseInfo_flt {e : ErrReg} {n i : Nat} : (s.raiseInfo e n i).flt = s.flt :=
  (State.raiseInfo_kept (m := 18446744069415108616) rfl rfl (Sub.refl.all rfl _) kept_refl).flt.resolve_left (by decide)
@[simp] theorem State.raiseInfo_mtr {e : ErrReg} {n i : Nat} : (s.raiseInfo e n i).mtr = s.mtr :=
  (State.raiseInfo_kept (m := 18446744069415108616) rfl rfl (Sub.refl.all rfl _) kept_refl).mtr.resolve_left (by decide)
@[simp] theorem State.raiseInfo_cap {e : ErrReg} {n i : Nat} : (s.raiseInfo e n i).cap = s.cap :=
  (State.raiseInfo_kept (m := 18446744069415108616) rfl rfl (Sub.refl.all rfl _) kept_refl).cap.resolve_left (by decide)
@[simp] theorem State.raiseInfo_lat {e : ErrReg} {n i : Nat} : (s.raiseInfo e n i).lat = s.lat :=
  (State.raiseInfo_kept (m := 18446744069415108616) rfl rfl (Sub.refl.all rfl _) kept_refl).lat.resolve_left (by decide)
@[simp] theorem State.raiseInfo_cores {e : ErrReg} {n i : Nat} : (s.raiseInfo e n i).cores = s.cores :=
  (State.raiseInfo_kept (m := 18446744069415108616) rfl rfl (Sub.refl.all rfl _) kept_refl).cores.resolve_left (by decide)
@[simp] theorem State.raiseInfo_tsk {e : ErrReg} {n i : Nat} : (s.raiseInfo e n i).tsk = s.tsk :=
  (State.raiseInfo_kept (m := 18446744069415108616) rfl rfl (Sub.refl.all rfl _) kept_refl).tsk.resolve_left (by decide)
@[simp] theorem State.raiseInfo_chd {e : ErrReg} {n i : Nat} : (s.raiseInfo e n i).chd = s.chd :=
  (State.raiseInfo_kept (m := 18446744069415108616) rfl rfl (Sub.refl.all rfl _) kept_refl).chd.resolve_left (by decide)
@[simp] theorem State.raiseInfo_ldg {e : ErrReg} {n i : Nat} : (s.raiseInfo e n i).ldg = s.ldg :=
  (State.raiseInfo_kept (m := 18446744069415108616) rfl rfl (Sub.refl.all rfl _) kept_refl).ldg.resolve_left (by decide)
@[simp] theorem State.raiseInfo_key {e : ErrReg} {n i : Nat} : (s.raiseInfo e n i).key = s.key :=
  (State.raiseInfo_kept (m := 18446744069415108616) rfl rfl (Sub.refl.all rfl _) kept_refl).key.resolve_left (by decide)
@[simp] theorem State.raiseInfo_upd {e : ErrReg} {n i : Nat} : (s.raiseInfo e n i).upd = s.upd :=
  (State.raiseInfo_kept (m := 18446744069415108616) rfl rfl (Sub.refl.all rfl _) kept_refl).upd.resolve_left (by decide)
@[simp] theorem State.raiseInfo_hif {e : ErrReg} {n i : Nat} : (s.raiseInfo e n i).hif = s.hif :=
  (State.raiseInfo_kept (m := 18446744069415108616) rfl rfl (Sub.refl.all rfl _) kept_refl).hif.resolve_left (by decide)
@[simp] theorem State.raiseInfo_supplyOk {e : ErrReg} {n i : Nat} : (s.raiseInfo e n i).supplyOk = s.supplyOk :=
  (State.raiseInfo_kept (m := 18446744069415108616) rfl rfl (Sub.refl.all rfl _) kept_refl).supplyOk.resolve_left (by decide)
@[simp] theorem State.raiseInfo_free {e : ErrReg} {n i : Nat} : (s.raiseInfo e n i).free = s.free :=
  (State.raiseInfo_kept (m := 18446744069415108616) rfl rfl (Sub.refl.all rfl _) kept_refl).free.resolve_left (by decide)
@[simp] theorem State.raiseInfo_pending {e : ErrReg} {n i : Nat} : (s.raiseInfo e n i).pending = s.pending :=
  (State.raiseInfo_kept (m := 18446744069415108616) rfl rfl (Sub.refl.all rfl _) kept_refl).pending.resolve_left (by decide)
/-- Registers it leaves alone: all but its own and those of the event controller. -/
theorem State.raiseInfo_reg {e : ErrReg} {n i : Nat} {r k j : Nat} (h : r / 1048576 % 32 = k) (g : e.addr / 1048576 % 32 = j) (c : k ≠ j) (d : k ≠ 14) :
    (s.raiseInfo e n i).reg r = s.reg r := by
  unfold State.raiseInfo
  have x : (70368744701960 : Nat).testBit (32 + k) = false := by
    have : k < 32 := by omega
    have e : ∀ k < 32, k ≠ 14 → (70368744701960 : Nat).testBit (32 + k) = false := by decide
    exact e k this d
  rw [State.event_reg h x, State.reg_setVal_other]
  intro w
  subst w
  omega

@[simp] theorem State.cfgErr_devMem {e : ErrReg} : (s.cfgErr e).devMem = s.devMem :=
  (State.cfgErr_kept (m := 18446744069415108616) rfl rfl (Sub.refl.all rfl _) kept_refl).devMem.resolve_left (by decide)
@[simp] theorem State.cfgErr_hostMem {e : ErrReg} : (s.cfgErr e).hostMem = s.hostMem :=
  (State.cfgErr_kept (m := 18446744069415108616) rfl rfl (Sub.refl.all rfl _) kept_refl).hostMem.resolve_left (by decide)
@[simp] theorem State.cfgErr_now {e : ErrReg} : (s.cfgErr e).now = s.now :=
  (State.cfgErr_kept (m := 18446744069415108616) rfl rfl (Sub.refl.all rfl _) kept_refl).now.resolve_left (by decide)
@[simp] theorem State.cfgErr_tb {e : ErrReg} : (s.cfgErr e).tb = s.tb :=
  (State.cfgErr_kept (m := 18446744069415108616) rfl rfl (Sub.refl.all rfl _) kept_refl).tb.resolve_left (by decide)
@[simp] theorem State.cfgErr_eth {e : ErrReg} : (s.cfgErr e).eth = s.eth :=
  (State.cfgErr_kept (m := 18446744069415108616) rfl rfl (Sub.refl.all rfl _) kept_refl).eth.resolve_left (by decide)
@[simp] theorem State.cfgErr_ing {e : ErrReg} : (s.cfgErr e).ing = s.ing :=
  (State.cfgErr_kept (m := 18446744069415108616) rfl rfl (Sub.refl.all rfl _) kept_refl).ing.resolve_left (by decide)
@[simp] theorem State.cfgErr_snap {e : ErrReg} : (s.cfgErr e).snap = s.snap :=
  (State.cfgErr_kept (m := 18446744069415108616) rfl rfl (Sub.refl.all rfl _) kept_refl).snap.resolve_left (by decide)
@[simp] theorem State.cfgErr_topo {e : ErrReg} : (s.cfgErr e).topo = s.topo :=
  (State.cfgErr_kept (m := 18446744069415108616) rfl rfl (Sub.refl.all rfl _) kept_refl).topo.resolve_left (by decide)
@[simp] theorem State.cfgErr_det {e : ErrReg} : (s.cfgErr e).det = s.det :=
  (State.cfgErr_kept (m := 18446744069415108616) rfl rfl (Sub.refl.all rfl _) kept_refl).det.resolve_left (by decide)
@[simp] theorem State.cfgErr_modal {e : ErrReg} : (s.cfgErr e).modal = s.modal :=
  (State.cfgErr_kept (m := 18446744069415108616) rfl rfl (Sub.refl.all rfl _) kept_refl).modal.resolve_left (by decide)
@[simp] theorem State.cfgErr_alm {e : ErrReg} : (s.cfgErr e).alm = s.alm :=
  (State.cfgErr_kept (m := 18446744069415108616) rfl rfl (Sub.refl.all rfl _) kept_refl).alm.resolve_left (by decide)
@[simp] theorem State.cfgErr_afe {e : ErrReg} : (s.cfgErr e).afe = s.afe :=
  (State.cfgErr_kept (m := 18446744069415108616) rfl rfl (Sub.refl.all rfl _) kept_refl).afe.resolve_left (by decide)
@[simp] theorem State.cfgErr_flt {e : ErrReg} : (s.cfgErr e).flt = s.flt :=
  (State.cfgErr_kept (m := 18446744069415108616) rfl rfl (Sub.refl.all rfl _) kept_refl).flt.resolve_left (by decide)
@[simp] theorem State.cfgErr_mtr {e : ErrReg} : (s.cfgErr e).mtr = s.mtr :=
  (State.cfgErr_kept (m := 18446744069415108616) rfl rfl (Sub.refl.all rfl _) kept_refl).mtr.resolve_left (by decide)
@[simp] theorem State.cfgErr_cap {e : ErrReg} : (s.cfgErr e).cap = s.cap :=
  (State.cfgErr_kept (m := 18446744069415108616) rfl rfl (Sub.refl.all rfl _) kept_refl).cap.resolve_left (by decide)
@[simp] theorem State.cfgErr_lat {e : ErrReg} : (s.cfgErr e).lat = s.lat :=
  (State.cfgErr_kept (m := 18446744069415108616) rfl rfl (Sub.refl.all rfl _) kept_refl).lat.resolve_left (by decide)
@[simp] theorem State.cfgErr_cores {e : ErrReg} : (s.cfgErr e).cores = s.cores :=
  (State.cfgErr_kept (m := 18446744069415108616) rfl rfl (Sub.refl.all rfl _) kept_refl).cores.resolve_left (by decide)
@[simp] theorem State.cfgErr_tsk {e : ErrReg} : (s.cfgErr e).tsk = s.tsk :=
  (State.cfgErr_kept (m := 18446744069415108616) rfl rfl (Sub.refl.all rfl _) kept_refl).tsk.resolve_left (by decide)
@[simp] theorem State.cfgErr_chd {e : ErrReg} : (s.cfgErr e).chd = s.chd :=
  (State.cfgErr_kept (m := 18446744069415108616) rfl rfl (Sub.refl.all rfl _) kept_refl).chd.resolve_left (by decide)
@[simp] theorem State.cfgErr_ldg {e : ErrReg} : (s.cfgErr e).ldg = s.ldg :=
  (State.cfgErr_kept (m := 18446744069415108616) rfl rfl (Sub.refl.all rfl _) kept_refl).ldg.resolve_left (by decide)
@[simp] theorem State.cfgErr_key {e : ErrReg} : (s.cfgErr e).key = s.key :=
  (State.cfgErr_kept (m := 18446744069415108616) rfl rfl (Sub.refl.all rfl _) kept_refl).key.resolve_left (by decide)
@[simp] theorem State.cfgErr_upd {e : ErrReg} : (s.cfgErr e).upd = s.upd :=
  (State.cfgErr_kept (m := 18446744069415108616) rfl rfl (Sub.refl.all rfl _) kept_refl).upd.resolve_left (by decide)
@[simp] theorem State.cfgErr_hif {e : ErrReg} : (s.cfgErr e).hif = s.hif :=
  (State.cfgErr_kept (m := 18446744069415108616) rfl rfl (Sub.refl.all rfl _) kept_refl).hif.resolve_left (by decide)
@[simp] theorem State.cfgErr_supplyOk {e : ErrReg} : (s.cfgErr e).supplyOk = s.supplyOk :=
  (State.cfgErr_kept (m := 18446744069415108616) rfl rfl (Sub.refl.all rfl _) kept_refl).supplyOk.resolve_left (by decide)
@[simp] theorem State.cfgErr_free {e : ErrReg} : (s.cfgErr e).free = s.free :=
  (State.cfgErr_kept (m := 18446744069415108616) rfl rfl (Sub.refl.all rfl _) kept_refl).free.resolve_left (by decide)
@[simp] theorem State.cfgErr_pending {e : ErrReg} : (s.cfgErr e).pending = s.pending :=
  (State.cfgErr_kept (m := 18446744069415108616) rfl rfl (Sub.refl.all rfl _) kept_refl).pending.resolve_left (by decide)
/-- Registers it leaves alone: all but its own and those of the event controller. -/
theorem State.cfgErr_reg {e : ErrReg} {r k j : Nat} (h : r / 1048576 % 32 = k) (g : e.addr / 1048576 % 32 = j) (c : k ≠ j) (d : k ≠ 14) :
    (s.cfgErr e).reg r = s.reg r := by
  unfold State.cfgErr State.raise State.raiseInfo
  have x : (70368744701960 : Nat).testBit (32 + k) = false := by
    have : k < 32 := by omega
    have e : ∀ k < 32, k ≠ 14 → (70368744701960 : Nat).testBit (32 + k) = false := by decide
    exact e k this d
  rw [State.event_reg h x, State.reg_setVal_other]
  intro w
  subst w
  omega

@[simp] theorem State.offer_devMem {ty : Nat} {l : List Byte} : (s.offer ty l).devMem = s.devMem :=
  (State.offer_kept (m := 633318700220424) rfl kept_refl).devMem.resolve_left (by decide)
@[simp] theorem State.offer_hostMem {ty : Nat} {l : List Byte} : (s.offer ty l).hostMem = s.hostMem :=
  (State.offer_kept (m := 633318700220424) rfl kept_refl).hostMem.resolve_left (by decide)
@[simp] theorem State.offer_now {ty : Nat} {l : List Byte} : (s.offer ty l).now = s.now :=
  (State.offer_kept (m := 633318700220424) rfl kept_refl).now.resolve_left (by decide)
@[simp] theorem State.offer_tb {ty : Nat} {l : List Byte} : (s.offer ty l).tb = s.tb :=
  (State.offer_kept (m := 633318700220424) rfl kept_refl).tb.resolve_left (by decide)
@[simp] theorem State.offer_eth {ty : Nat} {l : List Byte} : (s.offer ty l).eth = s.eth :=
  (State.offer_kept (m := 633318700220424) rfl kept_refl).eth.resolve_left (by decide)
@[simp] theorem State.offer_ing {ty : Nat} {l : List Byte} : (s.offer ty l).ing = s.ing :=
  (State.offer_kept (m := 633318700220424) rfl kept_refl).ing.resolve_left (by decide)
@[simp] theorem State.offer_snap {ty : Nat} {l : List Byte} : (s.offer ty l).snap = s.snap :=
  (State.offer_kept (m := 633318700220424) rfl kept_refl).snap.resolve_left (by decide)
@[simp] theorem State.offer_topo {ty : Nat} {l : List Byte} : (s.offer ty l).topo = s.topo :=
  (State.offer_kept (m := 633318700220424) rfl kept_refl).topo.resolve_left (by decide)
@[simp] theorem State.offer_det {ty : Nat} {l : List Byte} : (s.offer ty l).det = s.det :=
  (State.offer_kept (m := 633318700220424) rfl kept_refl).det.resolve_left (by decide)
@[simp] theorem State.offer_modal {ty : Nat} {l : List Byte} : (s.offer ty l).modal = s.modal :=
  (State.offer_kept (m := 633318700220424) rfl kept_refl).modal.resolve_left (by decide)
@[simp] theorem State.offer_alm {ty : Nat} {l : List Byte} : (s.offer ty l).alm = s.alm :=
  (State.offer_kept (m := 633318700220424) rfl kept_refl).alm.resolve_left (by decide)
@[simp] theorem State.offer_afe {ty : Nat} {l : List Byte} : (s.offer ty l).afe = s.afe :=
  (State.offer_kept (m := 633318700220424) rfl kept_refl).afe.resolve_left (by decide)
@[simp] theorem State.offer_flt {ty : Nat} {l : List Byte} : (s.offer ty l).flt = s.flt :=
  (State.offer_kept (m := 633318700220424) rfl kept_refl).flt.resolve_left (by decide)
@[simp] theorem State.offer_mtr {ty : Nat} {l : List Byte} : (s.offer ty l).mtr = s.mtr :=
  (State.offer_kept (m := 633318700220424) rfl kept_refl).mtr.resolve_left (by decide)
@[simp] theorem State.offer_cap {ty : Nat} {l : List Byte} : (s.offer ty l).cap = s.cap :=
  (State.offer_kept (m := 633318700220424) rfl kept_refl).cap.resolve_left (by decide)
@[simp] theorem State.offer_lat {ty : Nat} {l : List Byte} : (s.offer ty l).lat = s.lat :=
  (State.offer_kept (m := 633318700220424) rfl kept_refl).lat.resolve_left (by decide)
@[simp] theorem State.offer_cores {ty : Nat} {l : List Byte} : (s.offer ty l).cores = s.cores :=
  (State.offer_kept (m := 633318700220424) rfl kept_refl).cores.resolve_left (by decide)
@[simp] theorem State.offer_tsk {ty : Nat} {l : List Byte} : (s.offer ty l).tsk = s.tsk :=
  (State.offer_kept (m := 633318700220424) rfl kept_refl).tsk.resolve_left (by decide)
@[simp] theorem State.offer_chd {ty : Nat} {l : List Byte} : (s.offer ty l).chd = s.chd :=
  (State.offer_kept (m := 633318700220424) rfl kept_refl).chd.resolve_left (by decide)
@[simp] theorem State.offer_key {ty : Nat} {l : List Byte} : (s.offer ty l).key = s.key :=
  (State.offer_kept (m := 633318700220424) rfl kept_refl).key.resolve_left (by decide)
@[simp] theorem State.offer_upd {ty : Nat} {l : List Byte} : (s.offer ty l).upd = s.upd :=
  (State.offer_kept (m := 633318700220424) rfl kept_refl).upd.resolve_left (by decide)
@[simp] theorem State.offer_hif {ty : Nat} {l : List Byte} : (s.offer ty l).hif = s.hif :=
  (State.offer_kept (m := 633318700220424) rfl kept_refl).hif.resolve_left (by decide)
@[simp] theorem State.offer_supplyOk {ty : Nat} {l : List Byte} : (s.offer ty l).supplyOk = s.supplyOk :=
  (State.offer_kept (m := 633318700220424) rfl kept_refl).supplyOk.resolve_left (by decide)
@[simp] theorem State.offer_free {ty : Nat} {l : List Byte} : (s.offer ty l).free = s.free :=
  (State.offer_kept (m := 633318700220424) rfl kept_refl).free.resolve_left (by decide)
@[simp] theorem State.offer_pending {ty : Nat} {l : List Byte} : (s.offer ty l).pending = s.pending :=
  (State.offer_kept (m := 633318700220424) rfl kept_refl).pending.resolve_left (by decide)
/-- Registers it leaves alone. -/
theorem State.offer_reg {ty : Nat} {l : List Byte} {ra bk : Nat} (h0 : ra / 1048576 % 32 = bk) (h1 : (633318700220424 : Nat).testBit (32 + bk) = false) :
    (s.offer ty l).reg ra = s.reg ra :=
  reg_of_kept (State.offer_kept (m := 633318700220424) rfl kept_refl) ra h0 h1

@[simp] theorem State.complete_devMem {c g : Nat} {st : Status} {r : List Nat} : (s.complete c g st r).devMem = s.devMem :=
  (State.complete_kept (m := 633323011964936) rfl kept_refl).devMem.resolve_left (by decide)
@[simp] theorem State.complete_hostMem {c g : Nat} {st : Status} {r : List Nat} : (s.complete c g st r).hostMem = s.hostMem :=
  (State.complete_kept (m := 633323011964936) rfl kept_refl).hostMem.resolve_left (by decide)
@[simp] theorem State.complete_now {c g : Nat} {st : Status} {r : List Nat} : (s.complete c g st r).now = s.now :=
  (State.complete_kept (m := 633323011964936) rfl kept_refl).now.resolve_left (by decide)
@[simp] theorem State.complete_tb {c g : Nat} {st : Status} {r : List Nat} : (s.complete c g st r).tb = s.tb :=
  (State.complete_kept (m := 633323011964936) rfl kept_refl).tb.resolve_left (by decide)
@[simp] theorem State.complete_eth {c g : Nat} {st : Status} {r : List Nat} : (s.complete c g st r).eth = s.eth :=
  (State.complete_kept (m := 633323011964936) rfl kept_refl).eth.resolve_left (by decide)
@[simp] theorem State.complete_ing {c g : Nat} {st : Status} {r : List Nat} : (s.complete c g st r).ing = s.ing :=
  (State.complete_kept (m := 633323011964936) rfl kept_refl).ing.resolve_left (by decide)
@[simp] theorem State.complete_snap {c g : Nat} {st : Status} {r : List Nat} : (s.complete c g st r).snap = s.snap :=
  (State.complete_kept (m := 633323011964936) rfl kept_refl).snap.resolve_left (by decide)
@[simp] theorem State.complete_topo {c g : Nat} {st : Status} {r : List Nat} : (s.complete c g st r).topo = s.topo :=
  (State.complete_kept (m := 633323011964936) rfl kept_refl).topo.resolve_left (by decide)
@[simp] theorem State.complete_det {c g : Nat} {st : Status} {r : List Nat} : (s.complete c g st r).det = s.det :=
  (State.complete_kept (m := 633323011964936) rfl kept_refl).det.resolve_left (by decide)
@[simp] theorem State.complete_modal {c g : Nat} {st : Status} {r : List Nat} : (s.complete c g st r).modal = s.modal :=
  (State.complete_kept (m := 633323011964936) rfl kept_refl).modal.resolve_left (by decide)
@[simp] theorem State.complete_alm {c g : Nat} {st : Status} {r : List Nat} : (s.complete c g st r).alm = s.alm :=
  (State.complete_kept (m := 633323011964936) rfl kept_refl).alm.resolve_left (by decide)
@[simp] theorem State.complete_afe {c g : Nat} {st : Status} {r : List Nat} : (s.complete c g st r).afe = s.afe :=
  (State.complete_kept (m := 633323011964936) rfl kept_refl).afe.resolve_left (by decide)
@[simp] theorem State.complete_flt {c g : Nat} {st : Status} {r : List Nat} : (s.complete c g st r).flt = s.flt :=
  (State.complete_kept (m := 633323011964936) rfl kept_refl).flt.resolve_left (by decide)
@[simp] theorem State.complete_mtr {c g : Nat} {st : Status} {r : List Nat} : (s.complete c g st r).mtr = s.mtr :=
  (State.complete_kept (m := 633323011964936) rfl kept_refl).mtr.resolve_left (by decide)
@[simp] theorem State.complete_cap {c g : Nat} {st : Status} {r : List Nat} : (s.complete c g st r).cap = s.cap :=
  (State.complete_kept (m := 633323011964936) rfl kept_refl).cap.resolve_left (by decide)
@[simp] theorem State.complete_lat {c g : Nat} {st : Status} {r : List Nat} : (s.complete c g st r).lat = s.lat :=
  (State.complete_kept (m := 633323011964936) rfl kept_refl).lat.resolve_left (by decide)
@[simp] theorem State.complete_cores {c g : Nat} {st : Status} {r : List Nat} : (s.complete c g st r).cores = s.cores :=
  (State.complete_kept (m := 633323011964936) rfl kept_refl).cores.resolve_left (by decide)
@[simp] theorem State.complete_tsk {c g : Nat} {st : Status} {r : List Nat} : (s.complete c g st r).tsk = s.tsk :=
  (State.complete_kept (m := 633323011964936) rfl kept_refl).tsk.resolve_left (by decide)
@[simp] theorem State.complete_chd {c g : Nat} {st : Status} {r : List Nat} : (s.complete c g st r).chd = s.chd :=
  (State.complete_kept (m := 633323011964936) rfl kept_refl).chd.resolve_left (by decide)
@[simp] theorem State.complete_key {c g : Nat} {st : Status} {r : List Nat} : (s.complete c g st r).key = s.key :=
  (State.complete_kept (m := 633323011964936) rfl kept_refl).key.resolve_left (by decide)
@[simp] theorem State.complete_upd {c g : Nat} {st : Status} {r : List Nat} : (s.complete c g st r).upd = s.upd :=
  (State.complete_kept (m := 633323011964936) rfl kept_refl).upd.resolve_left (by decide)
@[simp] theorem State.complete_supplyOk {c g : Nat} {st : Status} {r : List Nat} : (s.complete c g st r).supplyOk = s.supplyOk :=
  (State.complete_kept (m := 633323011964936) rfl kept_refl).supplyOk.resolve_left (by decide)
@[simp] theorem State.complete_free {c g : Nat} {st : Status} {r : List Nat} : (s.complete c g st r).free = s.free :=
  (State.complete_kept (m := 633323011964936) rfl kept_refl).free.resolve_left (by decide)
@[simp] theorem State.complete_pending {c g : Nat} {st : Status} {r : List Nat} : (s.complete c g st r).pending = s.pending :=
  (State.complete_kept (m := 633323011964936) rfl kept_refl).pending.resolve_left (by decide)
/-- Registers it leaves alone. -/
theorem State.complete_reg {c g : Nat} {st : Status} {r : List Nat} {ra bk : Nat} (h0 : ra / 1048576 % 32 = bk) (h1 : (633323011964936 : Nat).testBit (32 + bk) = false) :
    (s.complete c g st r).reg ra = s.reg ra :=
  reg_of_kept (State.complete_kept (m := 633323011964936) rfl kept_refl) ra h0 h1

@[simp] theorem State.completeDelta_devMem {c g : Nat} {st : Status} {r : List Nat} : (s.completeDelta c g st r).devMem = s.devMem :=
  (State.completeDelta_kept (m := 633323011964936) rfl kept_refl).devMem.resolve_left (by decide)
@[simp] theorem State.completeDelta_hostMem {c g : Nat} {st : Status} {r : List Nat} : (s.completeDelta c g st r).hostMem = s.hostMem :=
  (State.completeDelta_kept (m := 633323011964936) rfl kept_refl).hostMem.resolve_left (by decide)
@[simp] theorem State.completeDelta_now {c g : Nat} {st : Status} {r : List Nat} : (s.completeDelta c g st r).now = s.now :=
  (State.completeDelta_kept (m := 633323011964936) rfl kept_refl).now.resolve_left (by decide)
@[simp] theorem State.completeDelta_tb {c g : Nat} {st : Status} {r : List Nat} : (s.completeDelta c g st r).tb = s.tb :=
  (State.completeDelta_kept (m := 633323011964936) rfl kept_refl).tb.resolve_left (by decide)
@[simp] theorem State.completeDelta_eth {c g : Nat} {st : Status} {r : List Nat} : (s.completeDelta c g st r).eth = s.eth :=
  (State.completeDelta_kept (m := 633323011964936) rfl kept_refl).eth.resolve_left (by decide)
@[simp] theorem State.completeDelta_ing {c g : Nat} {st : Status} {r : List Nat} : (s.completeDelta c g st r).ing = s.ing :=
  (State.completeDelta_kept (m := 633323011964936) rfl kept_refl).ing.resolve_left (by decide)
@[simp] theorem State.completeDelta_snap {c g : Nat} {st : Status} {r : List Nat} : (s.completeDelta c g st r).snap = s.snap :=
  (State.completeDelta_kept (m := 633323011964936) rfl kept_refl).snap.resolve_left (by decide)
@[simp] theorem State.completeDelta_topo {c g : Nat} {st : Status} {r : List Nat} : (s.completeDelta c g st r).topo = s.topo :=
  (State.completeDelta_kept (m := 633323011964936) rfl kept_refl).topo.resolve_left (by decide)
@[simp] theorem State.completeDelta_det {c g : Nat} {st : Status} {r : List Nat} : (s.completeDelta c g st r).det = s.det :=
  (State.completeDelta_kept (m := 633323011964936) rfl kept_refl).det.resolve_left (by decide)
@[simp] theorem State.completeDelta_modal {c g : Nat} {st : Status} {r : List Nat} : (s.completeDelta c g st r).modal = s.modal :=
  (State.completeDelta_kept (m := 633323011964936) rfl kept_refl).modal.resolve_left (by decide)
@[simp] theorem State.completeDelta_alm {c g : Nat} {st : Status} {r : List Nat} : (s.completeDelta c g st r).alm = s.alm :=
  (State.completeDelta_kept (m := 633323011964936) rfl kept_refl).alm.resolve_left (by decide)
@[simp] theorem State.completeDelta_afe {c g : Nat} {st : Status} {r : List Nat} : (s.completeDelta c g st r).afe = s.afe :=
  (State.completeDelta_kept (m := 633323011964936) rfl kept_refl).afe.resolve_left (by decide)
@[simp] theorem State.completeDelta_flt {c g : Nat} {st : Status} {r : List Nat} : (s.completeDelta c g st r).flt = s.flt :=
  (State.completeDelta_kept (m := 633323011964936) rfl kept_refl).flt.resolve_left (by decide)
@[simp] theorem State.completeDelta_mtr {c g : Nat} {st : Status} {r : List Nat} : (s.completeDelta c g st r).mtr = s.mtr :=
  (State.completeDelta_kept (m := 633323011964936) rfl kept_refl).mtr.resolve_left (by decide)
@[simp] theorem State.completeDelta_cap {c g : Nat} {st : Status} {r : List Nat} : (s.completeDelta c g st r).cap = s.cap :=
  (State.completeDelta_kept (m := 633323011964936) rfl kept_refl).cap.resolve_left (by decide)
@[simp] theorem State.completeDelta_lat {c g : Nat} {st : Status} {r : List Nat} : (s.completeDelta c g st r).lat = s.lat :=
  (State.completeDelta_kept (m := 633323011964936) rfl kept_refl).lat.resolve_left (by decide)
@[simp] theorem State.completeDelta_cores {c g : Nat} {st : Status} {r : List Nat} : (s.completeDelta c g st r).cores = s.cores :=
  (State.completeDelta_kept (m := 633323011964936) rfl kept_refl).cores.resolve_left (by decide)
@[simp] theorem State.completeDelta_tsk {c g : Nat} {st : Status} {r : List Nat} : (s.completeDelta c g st r).tsk = s.tsk :=
  (State.completeDelta_kept (m := 633323011964936) rfl kept_refl).tsk.resolve_left (by decide)
@[simp] theorem State.completeDelta_chd {c g : Nat} {st : Status} {r : List Nat} : (s.completeDelta c g st r).chd = s.chd :=
  (State.completeDelta_kept (m := 633323011964936) rfl kept_refl).chd.resolve_left (by decide)
@[simp] theorem State.completeDelta_key {c g : Nat} {st : Status} {r : List Nat} : (s.completeDelta c g st r).key = s.key :=
  (State.completeDelta_kept (m := 633323011964936) rfl kept_refl).key.resolve_left (by decide)
@[simp] theorem State.completeDelta_upd {c g : Nat} {st : Status} {r : List Nat} : (s.completeDelta c g st r).upd = s.upd :=
  (State.completeDelta_kept (m := 633323011964936) rfl kept_refl).upd.resolve_left (by decide)
@[simp] theorem State.completeDelta_supplyOk {c g : Nat} {st : Status} {r : List Nat} : (s.completeDelta c g st r).supplyOk = s.supplyOk :=
  (State.completeDelta_kept (m := 633323011964936) rfl kept_refl).supplyOk.resolve_left (by decide)
@[simp] theorem State.completeDelta_free {c g : Nat} {st : Status} {r : List Nat} : (s.completeDelta c g st r).free = s.free :=
  (State.completeDelta_kept (m := 633323011964936) rfl kept_refl).free.resolve_left (by decide)
@[simp] theorem State.completeDelta_pending {c g : Nat} {st : Status} {r : List Nat} : (s.completeDelta c g st r).pending = s.pending :=
  (State.completeDelta_kept (m := 633323011964936) rfl kept_refl).pending.resolve_left (by decide)
/-- Registers it leaves alone. -/
theorem State.completeDelta_reg {c g : Nat} {st : Status} {r : List Nat} {ra bk : Nat} (h0 : ra / 1048576 % 32 = bk) (h1 : (633323011964936 : Nat).testBit (32 + bk) = false) :
    (s.completeDelta c g st r).reg ra = s.reg ra :=
  reg_of_kept (State.completeDelta_kept (m := 633323011964936) rfl kept_refl) ra h0 h1

@[simp] theorem State.refuseState_devMem {c g : Nat} : (s.refuseState c g).devMem = s.devMem :=
  (State.refuseState_kept (m := 633322995187720) rfl kept_refl).devMem.resolve_left (by decide)
@[simp] theorem State.refuseState_hostMem {c g : Nat} : (s.refuseState c g).hostMem = s.hostMem :=
  (State.refuseState_kept (m := 633322995187720) rfl kept_refl).hostMem.resolve_left (by decide)
@[simp] theorem State.refuseState_now {c g : Nat} : (s.refuseState c g).now = s.now :=
  (State.refuseState_kept (m := 633322995187720) rfl kept_refl).now.resolve_left (by decide)
@[simp] theorem State.refuseState_tb {c g : Nat} : (s.refuseState c g).tb = s.tb :=
  (State.refuseState_kept (m := 633322995187720) rfl kept_refl).tb.resolve_left (by decide)
@[simp] theorem State.refuseState_eth {c g : Nat} : (s.refuseState c g).eth = s.eth :=
  (State.refuseState_kept (m := 633322995187720) rfl kept_refl).eth.resolve_left (by decide)
@[simp] theorem State.refuseState_ing {c g : Nat} : (s.refuseState c g).ing = s.ing :=
  (State.refuseState_kept (m := 633322995187720) rfl kept_refl).ing.resolve_left (by decide)
@[simp] theorem State.refuseState_snap {c g : Nat} : (s.refuseState c g).snap = s.snap :=
  (State.refuseState_kept (m := 633322995187720) rfl kept_refl).snap.resolve_left (by decide)
@[simp] theorem State.refuseState_topo {c g : Nat} : (s.refuseState c g).topo = s.topo :=
  (State.refuseState_kept (m := 633322995187720) rfl kept_refl).topo.resolve_left (by decide)
@[simp] theorem State.refuseState_det {c g : Nat} : (s.refuseState c g).det = s.det :=
  (State.refuseState_kept (m := 633322995187720) rfl kept_refl).det.resolve_left (by decide)
@[simp] theorem State.refuseState_modal {c g : Nat} : (s.refuseState c g).modal = s.modal :=
  (State.refuseState_kept (m := 633322995187720) rfl kept_refl).modal.resolve_left (by decide)
@[simp] theorem State.refuseState_alm {c g : Nat} : (s.refuseState c g).alm = s.alm :=
  (State.refuseState_kept (m := 633322995187720) rfl kept_refl).alm.resolve_left (by decide)
@[simp] theorem State.refuseState_afe {c g : Nat} : (s.refuseState c g).afe = s.afe :=
  (State.refuseState_kept (m := 633322995187720) rfl kept_refl).afe.resolve_left (by decide)
@[simp] theorem State.refuseState_flt {c g : Nat} : (s.refuseState c g).flt = s.flt :=
  (State.refuseState_kept (m := 633322995187720) rfl kept_refl).flt.resolve_left (by decide)
@[simp] theorem State.refuseState_mtr {c g : Nat} : (s.refuseState c g).mtr = s.mtr :=
  (State.refuseState_kept (m := 633322995187720) rfl kept_refl).mtr.resolve_left (by decide)
@[simp] theorem State.refuseState_cap {c g : Nat} : (s.refuseState c g).cap = s.cap :=
  (State.refuseState_kept (m := 633322995187720) rfl kept_refl).cap.resolve_left (by decide)
@[simp] theorem State.refuseState_lat {c g : Nat} : (s.refuseState c g).lat = s.lat :=
  (State.refuseState_kept (m := 633322995187720) rfl kept_refl).lat.resolve_left (by decide)
@[simp] theorem State.refuseState_cores {c g : Nat} : (s.refuseState c g).cores = s.cores :=
  (State.refuseState_kept (m := 633322995187720) rfl kept_refl).cores.resolve_left (by decide)
@[simp] theorem State.refuseState_tsk {c g : Nat} : (s.refuseState c g).tsk = s.tsk :=
  (State.refuseState_kept (m := 633322995187720) rfl kept_refl).tsk.resolve_left (by decide)
@[simp] theorem State.refuseState_chd {c g : Nat} : (s.refuseState c g).chd = s.chd :=
  (State.refuseState_kept (m := 633322995187720) rfl kept_refl).chd.resolve_left (by decide)
@[simp] theorem State.refuseState_key {c g : Nat} : (s.refuseState c g).key = s.key :=
  (State.refuseState_kept (m := 633322995187720) rfl kept_refl).key.resolve_left (by decide)
@[simp] theorem State.refuseState_upd {c g : Nat} : (s.refuseState c g).upd = s.upd :=
  (State.refuseState_kept (m := 633322995187720) rfl kept_refl).upd.resolve_left (by decide)
@[simp] theorem State.refuseState_hif {c g : Nat} : (s.refuseState c g).hif = s.hif :=
  (State.refuseState_kept (m := 633322995187720) rfl kept_refl).hif.resolve_left (by decide)
@[simp] theorem State.refuseState_supplyOk {c g : Nat} : (s.refuseState c g).supplyOk = s.supplyOk :=
  (State.refuseState_kept (m := 633322995187720) rfl kept_refl).supplyOk.resolve_left (by decide)
@[simp] theorem State.refuseState_free {c g : Nat} : (s.refuseState c g).free = s.free :=
  (State.refuseState_kept (m := 633322995187720) rfl kept_refl).free.resolve_left (by decide)
@[simp] theorem State.refuseState_pending {c g : Nat} : (s.refuseState c g).pending = s.pending :=
  (State.refuseState_kept (m := 633322995187720) rfl kept_refl).pending.resolve_left (by decide)
/-- Registers it leaves alone. -/
theorem State.refuseState_reg {c g : Nat} {ra bk : Nat} (h0 : ra / 1048576 % 32 = bk) (h1 : (633322995187720 : Nat).testBit (32 + bk) = false) :
    (s.refuseState c g).reg ra = s.reg ra :=
  reg_of_kept (State.refuseState_kept (m := 633322995187720) rfl kept_refl) ra h0 h1

@[simp] theorem State.chdSend_devMem {x : ChdMsg} : (s.chdSend x).devMem = s.devMem :=
  (State.chdSend_kept (m := 1048576) rfl kept_refl).devMem.resolve_left (by decide)
@[simp] theorem State.chdSend_hostMem {x : ChdMsg} : (s.chdSend x).hostMem = s.hostMem :=
  (State.chdSend_kept (m := 1048576) rfl kept_refl).hostMem.resolve_left (by decide)
@[simp] theorem State.chdSend_now {x : ChdMsg} : (s.chdSend x).now = s.now :=
  (State.chdSend_kept (m := 1048576) rfl kept_refl).now.resolve_left (by decide)
@[simp] theorem State.chdSend_sys {x : ChdMsg} : (s.chdSend x).sys = s.sys :=
  (State.chdSend_kept (m := 1048576) rfl kept_refl).sys.resolve_left (by decide)
@[simp] theorem State.chdSend_tb {x : ChdMsg} : (s.chdSend x).tb = s.tb :=
  (State.chdSend_kept (m := 1048576) rfl kept_refl).tb.resolve_left (by decide)
@[simp] theorem State.chdSend_eth {x : ChdMsg} : (s.chdSend x).eth = s.eth :=
  (State.chdSend_kept (m := 1048576) rfl kept_refl).eth.resolve_left (by decide)
@[simp] theorem State.chdSend_ing {x : ChdMsg} : (s.chdSend x).ing = s.ing :=
  (State.chdSend_kept (m := 1048576) rfl kept_refl).ing.resolve_left (by decide)
@[simp] theorem State.chdSend_snap {x : ChdMsg} : (s.chdSend x).snap = s.snap :=
  (State.chdSend_kept (m := 1048576) rfl kept_refl).snap.resolve_left (by decide)
@[simp] theorem State.chdSend_topo {x : ChdMsg} : (s.chdSend x).topo = s.topo :=
  (State.chdSend_kept (m := 1048576) rfl kept_refl).topo.resolve_left (by decide)
@[simp] theorem State.chdSend_det {x : ChdMsg} : (s.chdSend x).det = s.det :=
  (State.chdSend_kept (m := 1048576) rfl kept_refl).det.resolve_left (by decide)
@[simp] theorem State.chdSend_modal {x : ChdMsg} : (s.chdSend x).modal = s.modal :=
  (State.chdSend_kept (m := 1048576) rfl kept_refl).modal.resolve_left (by decide)
@[simp] theorem State.chdSend_alm {x : ChdMsg} : (s.chdSend x).alm = s.alm :=
  (State.chdSend_kept (m := 1048576) rfl kept_refl).alm.resolve_left (by decide)
@[simp] theorem State.chdSend_afe {x : ChdMsg} : (s.chdSend x).afe = s.afe :=
  (State.chdSend_kept (m := 1048576) rfl kept_refl).afe.resolve_left (by decide)
@[simp] theorem State.chdSend_flt {x : ChdMsg} : (s.chdSend x).flt = s.flt :=
  (State.chdSend_kept (m := 1048576) rfl kept_refl).flt.resolve_left (by decide)
@[simp] theorem State.chdSend_mtr {x : ChdMsg} : (s.chdSend x).mtr = s.mtr :=
  (State.chdSend_kept (m := 1048576) rfl kept_refl).mtr.resolve_left (by decide)
@[simp] theorem State.chdSend_cap {x : ChdMsg} : (s.chdSend x).cap = s.cap :=
  (State.chdSend_kept (m := 1048576) rfl kept_refl).cap.resolve_left (by decide)
@[simp] theorem State.chdSend_lat {x : ChdMsg} : (s.chdSend x).lat = s.lat :=
  (State.chdSend_kept (m := 1048576) rfl kept_refl).lat.resolve_left (by decide)
@[simp] theorem State.chdSend_cores {x : ChdMsg} : (s.chdSend x).cores = s.cores :=
  (State.chdSend_kept (m := 1048576) rfl kept_refl).cores.resolve_left (by decide)
@[simp] theorem State.chdSend_tsk {x : ChdMsg} : (s.chdSend x).tsk = s.tsk :=
  (State.chdSend_kept (m := 1048576) rfl kept_refl).tsk.resolve_left (by decide)
@[simp] theorem State.chdSend_evc {x : ChdMsg} : (s.chdSend x).evc = s.evc :=
  (State.chdSend_kept (m := 1048576) rfl kept_refl).evc.resolve_left (by decide)
@[simp] theorem State.chdSend_ldg {x : ChdMsg} : (s.chdSend x).ldg = s.ldg :=
  (State.chdSend_kept (m := 1048576) rfl kept_refl).ldg.resolve_left (by decide)
@[simp] theorem State.chdSend_key {x : ChdMsg} : (s.chdSend x).key = s.key :=
  (State.chdSend_kept (m := 1048576) rfl kept_refl).key.resolve_left (by decide)
@[simp] theorem State.chdSend_upd {x : ChdMsg} : (s.chdSend x).upd = s.upd :=
  (State.chdSend_kept (m := 1048576) rfl kept_refl).upd.resolve_left (by decide)
@[simp] theorem State.chdSend_hif {x : ChdMsg} : (s.chdSend x).hif = s.hif :=
  (State.chdSend_kept (m := 1048576) rfl kept_refl).hif.resolve_left (by decide)
@[simp] theorem State.chdSend_supplyOk {x : ChdMsg} : (s.chdSend x).supplyOk = s.supplyOk :=
  (State.chdSend_kept (m := 1048576) rfl kept_refl).supplyOk.resolve_left (by decide)
@[simp] theorem State.chdSend_free {x : ChdMsg} : (s.chdSend x).free = s.free :=
  (State.chdSend_kept (m := 1048576) rfl kept_refl).free.resolve_left (by decide)
@[simp] theorem State.chdSend_pending {x : ChdMsg} : (s.chdSend x).pending = s.pending :=
  (State.chdSend_kept (m := 1048576) rfl kept_refl).pending.resolve_left (by decide)
/-- Registers it leaves alone. -/
theorem State.chdSend_reg {x : ChdMsg} {ra bk : Nat} (h0 : ra / 1048576 % 32 = bk) (h1 : (1048576 : Nat).testBit (32 + bk) = false) :
    (s.chdSend x).reg ra = s.reg ra :=
  reg_of_kept (State.chdSend_kept (m := 1048576) rfl kept_refl) ra h0 h1

@[simp] theorem State.sendDelta_devMem {x : DeltaBody} : (s.sendDelta x).devMem = s.devMem :=
  (State.sendDelta_kept (m := 281474977759232) rfl kept_refl).devMem.resolve_left (by decide)
@[simp] theorem State.sendDelta_hostMem {x : DeltaBody} : (s.sendDelta x).hostMem = s.hostMem :=
  (State.sendDelta_kept (m := 281474977759232) rfl kept_refl).hostMem.resolve_left (by decide)
@[simp] theorem State.sendDelta_now {x : DeltaBody} : (s.sendDelta x).now = s.now :=
  (State.sendDelta_kept (m := 281474977759232) rfl kept_refl).now.resolve_left (by decide)
@[simp] theorem State.sendDelta_sys {x : DeltaBody} : (s.sendDelta x).sys = s.sys :=
  (State.sendDelta_kept (m := 281474977759232) rfl kept_refl).sys.resolve_left (by decide)
@[simp] theorem State.sendDelta_tb {x : DeltaBody} : (s.sendDelta x).tb = s.tb :=
  (State.sendDelta_kept (m := 281474977759232) rfl kept_refl).tb.resolve_left (by decide)
@[simp] theorem State.sendDelta_eth {x : DeltaBody} : (s.sendDelta x).eth = s.eth :=
  (State.sendDelta_kept (m := 281474977759232) rfl kept_refl).eth.resolve_left (by decide)
@[simp] theorem State.sendDelta_ing {x : DeltaBody} : (s.sendDelta x).ing = s.ing :=
  (State.sendDelta_kept (m := 281474977759232) rfl kept_refl).ing.resolve_left (by decide)
@[simp] theorem State.sendDelta_snap {x : DeltaBody} : (s.sendDelta x).snap = s.snap :=
  (State.sendDelta_kept (m := 281474977759232) rfl kept_refl).snap.resolve_left (by decide)
@[simp] theorem State.sendDelta_topo {x : DeltaBody} : (s.sendDelta x).topo = s.topo :=
  (State.sendDelta_kept (m := 281474977759232) rfl kept_refl).topo.resolve_left (by decide)
@[simp] theorem State.sendDelta_det {x : DeltaBody} : (s.sendDelta x).det = s.det :=
  (State.sendDelta_kept (m := 281474977759232) rfl kept_refl).det.resolve_left (by decide)
@[simp] theorem State.sendDelta_modal {x : DeltaBody} : (s.sendDelta x).modal = s.modal :=
  (State.sendDelta_kept (m := 281474977759232) rfl kept_refl).modal.resolve_left (by decide)
@[simp] theorem State.sendDelta_alm {x : DeltaBody} : (s.sendDelta x).alm = s.alm :=
  (State.sendDelta_kept (m := 281474977759232) rfl kept_refl).alm.resolve_left (by decide)
@[simp] theorem State.sendDelta_afe {x : DeltaBody} : (s.sendDelta x).afe = s.afe :=
  (State.sendDelta_kept (m := 281474977759232) rfl kept_refl).afe.resolve_left (by decide)
@[simp] theorem State.sendDelta_flt {x : DeltaBody} : (s.sendDelta x).flt = s.flt :=
  (State.sendDelta_kept (m := 281474977759232) rfl kept_refl).flt.resolve_left (by decide)
@[simp] theorem State.sendDelta_mtr {x : DeltaBody} : (s.sendDelta x).mtr = s.mtr :=
  (State.sendDelta_kept (m := 281474977759232) rfl kept_refl).mtr.resolve_left (by decide)
@[simp] theorem State.sendDelta_cap {x : DeltaBody} : (s.sendDelta x).cap = s.cap :=
  (State.sendDelta_kept (m := 281474977759232) rfl kept_refl).cap.resolve_left (by decide)
@[simp] theorem State.sendDelta_lat {x : DeltaBody} : (s.sendDelta x).lat = s.lat :=
  (State.sendDelta_kept (m := 281474977759232) rfl kept_refl).lat.resolve_left (by decide)
@[simp] theorem State.sendDelta_cores {x : DeltaBody} : (s.sendDelta x).cores = s.cores :=
  (State.sendDelta_kept (m := 281474977759232) rfl kept_refl).cores.resolve_left (by decide)
@[simp] theorem State.sendDelta_tsk {x : DeltaBody} : (s.sendDelta x).tsk = s.tsk :=
  (State.sendDelta_kept (m := 281474977759232) rfl kept_refl).tsk.resolve_left (by decide)
@[simp] theorem State.sendDelta_evc {x : DeltaBody} : (s.sendDelta x).evc = s.evc :=
  (State.sendDelta_kept (m := 281474977759232) rfl kept_refl).evc.resolve_left (by decide)
@[simp] theorem State.sendDelta_ldg {x : DeltaBody} : (s.sendDelta x).ldg = s.ldg :=
  (State.sendDelta_kept (m := 281474977759232) rfl kept_refl).ldg.resolve_left (by decide)
@[simp] theorem State.sendDelta_key {x : DeltaBody} : (s.sendDelta x).key = s.key :=
  (State.sendDelta_kept (m := 281474977759232) rfl kept_refl).key.resolve_left (by decide)
@[simp] theorem State.sendDelta_upd {x : DeltaBody} : (s.sendDelta x).upd = s.upd :=
  (State.sendDelta_kept (m := 281474977759232) rfl kept_refl).upd.resolve_left (by decide)
@[simp] theorem State.sendDelta_hif {x : DeltaBody} : (s.sendDelta x).hif = s.hif :=
  (State.sendDelta_kept (m := 281474977759232) rfl kept_refl).hif.resolve_left (by decide)
@[simp] theorem State.sendDelta_supplyOk {x : DeltaBody} : (s.sendDelta x).supplyOk = s.supplyOk :=
  (State.sendDelta_kept (m := 281474977759232) rfl kept_refl).supplyOk.resolve_left (by decide)
@[simp] theorem State.sendDelta_free {x : DeltaBody} : (s.sendDelta x).free = s.free :=
  (State.sendDelta_kept (m := 281474977759232) rfl kept_refl).free.resolve_left (by decide)
@[simp] theorem State.sendDelta_pending {x : DeltaBody} : (s.sendDelta x).pending = s.pending :=
  (State.sendDelta_kept (m := 281474977759232) rfl kept_refl).pending.resolve_left (by decide)
/-- Registers it leaves alone. -/
theorem State.sendDelta_reg {x : DeltaBody} {ra bk : Nat} (h0 : ra / 1048576 % 32 = bk) (h1 : (281474977759232 : Nat).testBit (32 + bk) = false) :
    (s.sendDelta x).reg ra = s.reg ra :=
  reg_of_kept (State.sendDelta_kept (m := 281474977759232) rfl kept_refl) ra h0 h1

@[simp] theorem State.takeExc_devMem {k c a : Nat} {w : Bool} : (s.takeExc k c a w).devMem = s.devMem :=
  (State.takeExc_kept (m := 131072) rfl kept_refl).devMem.resolve_left (by decide)
@[simp] theorem State.takeExc_hostMem {k c a : Nat} {w : Bool} : (s.takeExc k c a w).hostMem = s.hostMem :=
  (State.takeExc_kept (m := 131072) rfl kept_refl).hostMem.resolve_left (by decide)
@[simp] theorem State.takeExc_now {k c a : Nat} {w : Bool} : (s.takeExc k c a w).now = s.now :=
  (State.takeExc_kept (m := 131072) rfl kept_refl).now.resolve_left (by decide)
@[simp] theorem State.takeExc_sys {k c a : Nat} {w : Bool} : (s.takeExc k c a w).sys = s.sys :=
  (State.takeExc_kept (m := 131072) rfl kept_refl).sys.resolve_left (by decide)
@[simp] theorem State.takeExc_tb {k c a : Nat} {w : Bool} : (s.takeExc k c a w).tb = s.tb :=
  (State.takeExc_kept (m := 131072) rfl kept_refl).tb.resolve_left (by decide)
@[simp] theorem State.takeExc_eth {k c a : Nat} {w : Bool} : (s.takeExc k c a w).eth = s.eth :=
  (State.takeExc_kept (m := 131072) rfl kept_refl).eth.resolve_left (by decide)
@[simp] theorem State.takeExc_ing {k c a : Nat} {w : Bool} : (s.takeExc k c a w).ing = s.ing :=
  (State.takeExc_kept (m := 131072) rfl kept_refl).ing.resolve_left (by decide)
@[simp] theorem State.takeExc_snap {k c a : Nat} {w : Bool} : (s.takeExc k c a w).snap = s.snap :=
  (State.takeExc_kept (m := 131072) rfl kept_refl).snap.resolve_left (by decide)
@[simp] theorem State.takeExc_topo {k c a : Nat} {w : Bool} : (s.takeExc k c a w).topo = s.topo :=
  (State.takeExc_kept (m := 131072) rfl kept_refl).topo.resolve_left (by decide)
@[simp] theorem State.takeExc_det {k c a : Nat} {w : Bool} : (s.takeExc k c a w).det = s.det :=
  (State.takeExc_kept (m := 131072) rfl kept_refl).det.resolve_left (by decide)
@[simp] theorem State.takeExc_modal {k c a : Nat} {w : Bool} : (s.takeExc k c a w).modal = s.modal :=
  (State.takeExc_kept (m := 131072) rfl kept_refl).modal.resolve_left (by decide)
@[simp] theorem State.takeExc_alm {k c a : Nat} {w : Bool} : (s.takeExc k c a w).alm = s.alm :=
  (State.takeExc_kept (m := 131072) rfl kept_refl).alm.resolve_left (by decide)
@[simp] theorem State.takeExc_afe {k c a : Nat} {w : Bool} : (s.takeExc k c a w).afe = s.afe :=
  (State.takeExc_kept (m := 131072) rfl kept_refl).afe.resolve_left (by decide)
@[simp] theorem State.takeExc_flt {k c a : Nat} {w : Bool} : (s.takeExc k c a w).flt = s.flt :=
  (State.takeExc_kept (m := 131072) rfl kept_refl).flt.resolve_left (by decide)
@[simp] theorem State.takeExc_mtr {k c a : Nat} {w : Bool} : (s.takeExc k c a w).mtr = s.mtr :=
  (State.takeExc_kept (m := 131072) rfl kept_refl).mtr.resolve_left (by decide)
@[simp] theorem State.takeExc_cap {k c a : Nat} {w : Bool} : (s.takeExc k c a w).cap = s.cap :=
  (State.takeExc_kept (m := 131072) rfl kept_refl).cap.resolve_left (by decide)
@[simp] theorem State.takeExc_lat {k c a : Nat} {w : Bool} : (s.takeExc k c a w).lat = s.lat :=
  (State.takeExc_kept (m := 131072) rfl kept_refl).lat.resolve_left (by decide)
@[simp] theorem State.takeExc_tsk {k c a : Nat} {w : Bool} : (s.takeExc k c a w).tsk = s.tsk :=
  (State.takeExc_kept (m := 131072) rfl kept_refl).tsk.resolve_left (by decide)
@[simp] theorem State.takeExc_evc {k c a : Nat} {w : Bool} : (s.takeExc k c a w).evc = s.evc :=
  (State.takeExc_kept (m := 131072) rfl kept_refl).evc.resolve_left (by decide)
@[simp] theorem State.takeExc_chd {k c a : Nat} {w : Bool} : (s.takeExc k c a w).chd = s.chd :=
  (State.takeExc_kept (m := 131072) rfl kept_refl).chd.resolve_left (by decide)
@[simp] theorem State.takeExc_ldg {k c a : Nat} {w : Bool} : (s.takeExc k c a w).ldg = s.ldg :=
  (State.takeExc_kept (m := 131072) rfl kept_refl).ldg.resolve_left (by decide)
@[simp] theorem State.takeExc_key {k c a : Nat} {w : Bool} : (s.takeExc k c a w).key = s.key :=
  (State.takeExc_kept (m := 131072) rfl kept_refl).key.resolve_left (by decide)
@[simp] theorem State.takeExc_upd {k c a : Nat} {w : Bool} : (s.takeExc k c a w).upd = s.upd :=
  (State.takeExc_kept (m := 131072) rfl kept_refl).upd.resolve_left (by decide)
@[simp] theorem State.takeExc_hif {k c a : Nat} {w : Bool} : (s.takeExc k c a w).hif = s.hif :=
  (State.takeExc_kept (m := 131072) rfl kept_refl).hif.resolve_left (by decide)
@[simp] theorem State.takeExc_supplyOk {k c a : Nat} {w : Bool} : (s.takeExc k c a w).supplyOk = s.supplyOk :=
  (State.takeExc_kept (m := 131072) rfl kept_refl).supplyOk.resolve_left (by decide)
@[simp] theorem State.takeExc_free {k c a : Nat} {w : Bool} : (s.takeExc k c a w).free = s.free :=
  (State.takeExc_kept (m := 131072) rfl kept_refl).free.resolve_left (by decide)
@[simp] theorem State.takeExc_pending {k c a : Nat} {w : Bool} : (s.takeExc k c a w).pending = s.pending :=
  (State.takeExc_kept (m := 131072) rfl kept_refl).pending.resolve_left (by decide)
/-- Registers it leaves alone. -/
theorem State.takeExc_reg {k c a : Nat} {w : Bool} {ra bk : Nat} (h0 : ra / 1048576 % 32 = bk) (h1 : (131072 : Nat).testBit (32 + bk) = false) :
    (s.takeExc k c a w).reg ra = s.reg ra :=
  reg_of_kept (State.takeExc_kept (m := 131072) rfl kept_refl) ra h0 h1

@[simp] theorem State.sendMsix_devMem {v : Nat} : (s.sendMsix v).devMem = s.devMem :=
  (State.sendMsix_kept (m := 16777216) rfl kept_refl).devMem.resolve_left (by decide)
@[simp] theorem State.sendMsix_hostMem {v : Nat} : (s.sendMsix v).hostMem = s.hostMem :=
  (State.sendMsix_kept (m := 16777216) rfl kept_refl).hostMem.resolve_left (by decide)
@[simp] theorem State.sendMsix_now {v : Nat} : (s.sendMsix v).now = s.now :=
  (State.sendMsix_kept (m := 16777216) rfl kept_refl).now.resolve_left (by decide)
@[simp] theorem State.sendMsix_sys {v : Nat} : (s.sendMsix v).sys = s.sys :=
  (State.sendMsix_kept (m := 16777216) rfl kept_refl).sys.resolve_left (by decide)
@[simp] theorem State.sendMsix_tb {v : Nat} : (s.sendMsix v).tb = s.tb :=
  (State.sendMsix_kept (m := 16777216) rfl kept_refl).tb.resolve_left (by decide)
@[simp] theorem State.sendMsix_eth {v : Nat} : (s.sendMsix v).eth = s.eth :=
  (State.sendMsix_kept (m := 16777216) rfl kept_refl).eth.resolve_left (by decide)
@[simp] theorem State.sendMsix_ing {v : Nat} : (s.sendMsix v).ing = s.ing :=
  (State.sendMsix_kept (m := 16777216) rfl kept_refl).ing.resolve_left (by decide)
@[simp] theorem State.sendMsix_snap {v : Nat} : (s.sendMsix v).snap = s.snap :=
  (State.sendMsix_kept (m := 16777216) rfl kept_refl).snap.resolve_left (by decide)
@[simp] theorem State.sendMsix_topo {v : Nat} : (s.sendMsix v).topo = s.topo :=
  (State.sendMsix_kept (m := 16777216) rfl kept_refl).topo.resolve_left (by decide)
@[simp] theorem State.sendMsix_det {v : Nat} : (s.sendMsix v).det = s.det :=
  (State.sendMsix_kept (m := 16777216) rfl kept_refl).det.resolve_left (by decide)
@[simp] theorem State.sendMsix_modal {v : Nat} : (s.sendMsix v).modal = s.modal :=
  (State.sendMsix_kept (m := 16777216) rfl kept_refl).modal.resolve_left (by decide)
@[simp] theorem State.sendMsix_alm {v : Nat} : (s.sendMsix v).alm = s.alm :=
  (State.sendMsix_kept (m := 16777216) rfl kept_refl).alm.resolve_left (by decide)
@[simp] theorem State.sendMsix_afe {v : Nat} : (s.sendMsix v).afe = s.afe :=
  (State.sendMsix_kept (m := 16777216) rfl kept_refl).afe.resolve_left (by decide)
@[simp] theorem State.sendMsix_flt {v : Nat} : (s.sendMsix v).flt = s.flt :=
  (State.sendMsix_kept (m := 16777216) rfl kept_refl).flt.resolve_left (by decide)
@[simp] theorem State.sendMsix_mtr {v : Nat} : (s.sendMsix v).mtr = s.mtr :=
  (State.sendMsix_kept (m := 16777216) rfl kept_refl).mtr.resolve_left (by decide)
@[simp] theorem State.sendMsix_cap {v : Nat} : (s.sendMsix v).cap = s.cap :=
  (State.sendMsix_kept (m := 16777216) rfl kept_refl).cap.resolve_left (by decide)
@[simp] theorem State.sendMsix_lat {v : Nat} : (s.sendMsix v).lat = s.lat :=
  (State.sendMsix_kept (m := 16777216) rfl kept_refl).lat.resolve_left (by decide)
@[simp] theorem State.sendMsix_cores {v : Nat} : (s.sendMsix v).cores = s.cores :=
  (State.sendMsix_kept (m := 16777216) rfl kept_refl).cores.resolve_left (by decide)
@[simp] theorem State.sendMsix_tsk {v : Nat} : (s.sendMsix v).tsk = s.tsk :=
  (State.sendMsix_kept (m := 16777216) rfl kept_refl).tsk.resolve_left (by decide)
@[simp] theorem State.sendMsix_evc {v : Nat} : (s.sendMsix v).evc = s.evc :=
  (State.sendMsix_kept (m := 16777216) rfl kept_refl).evc.resolve_left (by decide)
@[simp] theorem State.sendMsix_chd {v : Nat} : (s.sendMsix v).chd = s.chd :=
  (State.sendMsix_kept (m := 16777216) rfl kept_refl).chd.resolve_left (by decide)
@[simp] theorem State.sendMsix_ldg {v : Nat} : (s.sendMsix v).ldg = s.ldg :=
  (State.sendMsix_kept (m := 16777216) rfl kept_refl).ldg.resolve_left (by decide)
@[simp] theorem State.sendMsix_key {v : Nat} : (s.sendMsix v).key = s.key :=
  (State.sendMsix_kept (m := 16777216) rfl kept_refl).key.resolve_left (by decide)
@[simp] theorem State.sendMsix_upd {v : Nat} : (s.sendMsix v).upd = s.upd :=
  (State.sendMsix_kept (m := 16777216) rfl kept_refl).upd.resolve_left (by decide)
@[simp] theorem State.sendMsix_supplyOk {v : Nat} : (s.sendMsix v).supplyOk = s.supplyOk :=
  (State.sendMsix_kept (m := 16777216) rfl kept_refl).supplyOk.resolve_left (by decide)
@[simp] theorem State.sendMsix_free {v : Nat} : (s.sendMsix v).free = s.free :=
  (State.sendMsix_kept (m := 16777216) rfl kept_refl).free.resolve_left (by decide)
@[simp] theorem State.sendMsix_pending {v : Nat} : (s.sendMsix v).pending = s.pending :=
  (State.sendMsix_kept (m := 16777216) rfl kept_refl).pending.resolve_left (by decide)
/-- Registers it leaves alone. -/
theorem State.sendMsix_reg {v : Nat} {ra bk : Nat} (h0 : ra / 1048576 % 32 = bk) (h1 : (16777216 : Nat).testBit (32 + bk) = false) :
    (s.sendMsix v).reg ra = s.reg ra :=
  reg_of_kept (State.sendMsix_kept (m := 16777216) rfl kept_refl) ra h0 h1

@[simp] theorem State.refreshIrq_devMem {n : Nat} {b : Bool} : (s.refreshIrq n b).devMem = s.devMem :=
  (State.refreshIrq_kept (m := 17301504) rfl kept_refl).devMem.resolve_left (by decide)
@[simp] theorem State.refreshIrq_hostMem {n : Nat} {b : Bool} : (s.refreshIrq n b).hostMem = s.hostMem :=
  (State.refreshIrq_kept (m := 17301504) rfl kept_refl).hostMem.resolve_left (by decide)
@[simp] theorem State.refreshIrq_now {n : Nat} {b : Bool} : (s.refreshIrq n b).now = s.now :=
  (State.refreshIrq_kept (m := 17301504) rfl kept_refl).now.resolve_left (by decide)
@[simp] theorem State.refreshIrq_sys {n : Nat} {b : Bool} : (s.refreshIrq n b).sys = s.sys :=
  (State.refreshIrq_kept (m := 17301504) rfl kept_refl).sys.resolve_left (by decide)
@[simp] theorem State.refreshIrq_tb {n : Nat} {b : Bool} : (s.refreshIrq n b).tb = s.tb :=
  (State.refreshIrq_kept (m := 17301504) rfl kept_refl).tb.resolve_left (by decide)
@[simp] theorem State.refreshIrq_eth {n : Nat} {b : Bool} : (s.refreshIrq n b).eth = s.eth :=
  (State.refreshIrq_kept (m := 17301504) rfl kept_refl).eth.resolve_left (by decide)
@[simp] theorem State.refreshIrq_ing {n : Nat} {b : Bool} : (s.refreshIrq n b).ing = s.ing :=
  (State.refreshIrq_kept (m := 17301504) rfl kept_refl).ing.resolve_left (by decide)
@[simp] theorem State.refreshIrq_snap {n : Nat} {b : Bool} : (s.refreshIrq n b).snap = s.snap :=
  (State.refreshIrq_kept (m := 17301504) rfl kept_refl).snap.resolve_left (by decide)
@[simp] theorem State.refreshIrq_topo {n : Nat} {b : Bool} : (s.refreshIrq n b).topo = s.topo :=
  (State.refreshIrq_kept (m := 17301504) rfl kept_refl).topo.resolve_left (by decide)
@[simp] theorem State.refreshIrq_det {n : Nat} {b : Bool} : (s.refreshIrq n b).det = s.det :=
  (State.refreshIrq_kept (m := 17301504) rfl kept_refl).det.resolve_left (by decide)
@[simp] theorem State.refreshIrq_modal {n : Nat} {b : Bool} : (s.refreshIrq n b).modal = s.modal :=
  (State.refreshIrq_kept (m := 17301504) rfl kept_refl).modal.resolve_left (by decide)
@[simp] theorem State.refreshIrq_alm {n : Nat} {b : Bool} : (s.refreshIrq n b).alm = s.alm :=
  (State.refreshIrq_kept (m := 17301504) rfl kept_refl).alm.resolve_left (by decide)
@[simp] theorem State.refreshIrq_afe {n : Nat} {b : Bool} : (s.refreshIrq n b).afe = s.afe :=
  (State.refreshIrq_kept (m := 17301504) rfl kept_refl).afe.resolve_left (by decide)
@[simp] theorem State.refreshIrq_flt {n : Nat} {b : Bool} : (s.refreshIrq n b).flt = s.flt :=
  (State.refreshIrq_kept (m := 17301504) rfl kept_refl).flt.resolve_left (by decide)
@[simp] theorem State.refreshIrq_mtr {n : Nat} {b : Bool} : (s.refreshIrq n b).mtr = s.mtr :=
  (State.refreshIrq_kept (m := 17301504) rfl kept_refl).mtr.resolve_left (by decide)
@[simp] theorem State.refreshIrq_cap {n : Nat} {b : Bool} : (s.refreshIrq n b).cap = s.cap :=
  (State.refreshIrq_kept (m := 17301504) rfl kept_refl).cap.resolve_left (by decide)
@[simp] theorem State.refreshIrq_lat {n : Nat} {b : Bool} : (s.refreshIrq n b).lat = s.lat :=
  (State.refreshIrq_kept (m := 17301504) rfl kept_refl).lat.resolve_left (by decide)
@[simp] theorem State.refreshIrq_cores {n : Nat} {b : Bool} : (s.refreshIrq n b).cores = s.cores :=
  (State.refreshIrq_kept (m := 17301504) rfl kept_refl).cores.resolve_left (by decide)
@[simp] theorem State.refreshIrq_tsk {n : Nat} {b : Bool} : (s.refreshIrq n b).tsk = s.tsk :=
  (State.refreshIrq_kept (m := 17301504) rfl kept_refl).tsk.resolve_left (by decide)
@[simp] theorem State.refreshIrq_chd {n : Nat} {b : Bool} : (s.refreshIrq n b).chd = s.chd :=
  (State.refreshIrq_kept (m := 17301504) rfl kept_refl).chd.resolve_left (by decide)
@[simp] theorem State.refreshIrq_ldg {n : Nat} {b : Bool} : (s.refreshIrq n b).ldg = s.ldg :=
  (State.refreshIrq_kept (m := 17301504) rfl kept_refl).ldg.resolve_left (by decide)
@[simp] theorem State.refreshIrq_key {n : Nat} {b : Bool} : (s.refreshIrq n b).key = s.key :=
  (State.refreshIrq_kept (m := 17301504) rfl kept_refl).key.resolve_left (by decide)
@[simp] theorem State.refreshIrq_upd {n : Nat} {b : Bool} : (s.refreshIrq n b).upd = s.upd :=
  (State.refreshIrq_kept (m := 17301504) rfl kept_refl).upd.resolve_left (by decide)
@[simp] theorem State.refreshIrq_supplyOk {n : Nat} {b : Bool} : (s.refreshIrq n b).supplyOk = s.supplyOk :=
  (State.refreshIrq_kept (m := 17301504) rfl kept_refl).supplyOk.resolve_left (by decide)
@[simp] theorem State.refreshIrq_free {n : Nat} {b : Bool} : (s.refreshIrq n b).free = s.free :=
  (State.refreshIrq_kept (m := 17301504) rfl kept_refl).free.resolve_left (by decide)
@[simp] theorem State.refreshIrq_pending {n : Nat} {b : Bool} : (s.refreshIrq n b).pending = s.pending :=
  (State.refreshIrq_kept (m := 17301504) rfl kept_refl).pending.resolve_left (by decide)
/-- Registers it leaves alone. -/
theorem State.refreshIrq_reg {n : Nat} {b : Bool} {ra bk : Nat} (h0 : ra / 1048576 % 32 = bk) (h1 : (17301504 : Nat).testBit (32 + bk) = false) :
    (s.refreshIrq n b).reg ra = s.reg ra :=
  reg_of_kept (State.refreshIrq_kept (m := 17301504) rfl kept_refl) ra h0 h1

@[simp] theorem State.accessFault_devMem {k a : Nat} {w : Bool} : (s.accessFault k a w).devMem = s.devMem :=
  (State.accessFault_kept (m := 70368744833032) rfl kept_refl).devMem.resolve_left (by decide)
@[simp] theorem State.accessFault_hostMem {k a : Nat} {w : Bool} : (s.accessFault k a w).hostMem = s.hostMem :=
  (State.accessFault_kept (m := 70368744833032) rfl kept_refl).hostMem.resolve_left (by decide)
@[simp] theorem State.accessFault_now {k a : Nat} {w : Bool} : (s.accessFault k a w).now = s.now :=
  (State.accessFault_kept (m := 70368744833032) rfl kept_refl).now.resolve_left (by decide)
@[simp] theorem State.accessFault_tb {k a : Nat} {w : Bool} : (s.accessFault k a w).tb = s.tb :=
  (State.accessFault_kept (m := 70368744833032) rfl kept_refl).tb.resolve_left (by decide)
@[simp] theorem State.accessFault_eth {k a : Nat} {w : Bool} : (s.accessFault k a w).eth = s.eth :=
  (State.accessFault_kept (m := 70368744833032) rfl kept_refl).eth.resolve_left (by decide)
@[simp] theorem State.accessFault_ing {k a : Nat} {w : Bool} : (s.accessFault k a w).ing = s.ing :=
  (State.accessFault_kept (m := 70368744833032) rfl kept_refl).ing.resolve_left (by decide)
@[simp] theorem State.accessFault_snap {k a : Nat} {w : Bool} : (s.accessFault k a w).snap = s.snap :=
  (State.accessFault_kept (m := 70368744833032) rfl kept_refl).snap.resolve_left (by decide)
@[simp] theorem State.accessFault_topo {k a : Nat} {w : Bool} : (s.accessFault k a w).topo = s.topo :=
  (State.accessFault_kept (m := 70368744833032) rfl kept_refl).topo.resolve_left (by decide)
@[simp] theorem State.accessFault_det {k a : Nat} {w : Bool} : (s.accessFault k a w).det = s.det :=
  (State.accessFault_kept (m := 70368744833032) rfl kept_refl).det.resolve_left (by decide)
@[simp] theorem State.accessFault_modal {k a : Nat} {w : Bool} : (s.accessFault k a w).modal = s.modal :=
  (State.accessFault_kept (m := 70368744833032) rfl kept_refl).modal.resolve_left (by decide)
@[simp] theorem State.accessFault_alm {k a : Nat} {w : Bool} : (s.accessFault k a w).alm = s.alm :=
  (State.accessFault_kept (m := 70368744833032) rfl kept_refl).alm.resolve_left (by decide)
@[simp] theorem State.accessFault_afe {k a : Nat} {w : Bool} : (s.accessFault k a w).afe = s.afe :=
  (State.accessFault_kept (m := 70368744833032) rfl kept_refl).afe.resolve_left (by decide)
@[simp] theorem State.accessFault_flt {k a : Nat} {w : Bool} : (s.accessFault k a w).flt = s.flt :=
  (State.accessFault_kept (m := 70368744833032) rfl kept_refl).flt.resolve_left (by decide)
@[simp] theorem State.accessFault_mtr {k a : Nat} {w : Bool} : (s.accessFault k a w).mtr = s.mtr :=
  (State.accessFault_kept (m := 70368744833032) rfl kept_refl).mtr.resolve_left (by decide)
@[simp] theorem State.accessFault_cap {k a : Nat} {w : Bool} : (s.accessFault k a w).cap = s.cap :=
  (State.accessFault_kept (m := 70368744833032) rfl kept_refl).cap.resolve_left (by decide)
@[simp] theorem State.accessFault_lat {k a : Nat} {w : Bool} : (s.accessFault k a w).lat = s.lat :=
  (State.accessFault_kept (m := 70368744833032) rfl kept_refl).lat.resolve_left (by decide)
@[simp] theorem State.accessFault_tsk {k a : Nat} {w : Bool} : (s.accessFault k a w).tsk = s.tsk :=
  (State.accessFault_kept (m := 70368744833032) rfl kept_refl).tsk.resolve_left (by decide)
@[simp] theorem State.accessFault_chd {k a : Nat} {w : Bool} : (s.accessFault k a w).chd = s.chd :=
  (State.accessFault_kept (m := 70368744833032) rfl kept_refl).chd.resolve_left (by decide)
@[simp] theorem State.accessFault_ldg {k a : Nat} {w : Bool} : (s.accessFault k a w).ldg = s.ldg :=
  (State.accessFault_kept (m := 70368744833032) rfl kept_refl).ldg.resolve_left (by decide)
@[simp] theorem State.accessFault_key {k a : Nat} {w : Bool} : (s.accessFault k a w).key = s.key :=
  (State.accessFault_kept (m := 70368744833032) rfl kept_refl).key.resolve_left (by decide)
@[simp] theorem State.accessFault_upd {k a : Nat} {w : Bool} : (s.accessFault k a w).upd = s.upd :=
  (State.accessFault_kept (m := 70368744833032) rfl kept_refl).upd.resolve_left (by decide)
@[simp] theorem State.accessFault_hif {k a : Nat} {w : Bool} : (s.accessFault k a w).hif = s.hif :=
  (State.accessFault_kept (m := 70368744833032) rfl kept_refl).hif.resolve_left (by decide)
@[simp] theorem State.accessFault_supplyOk {k a : Nat} {w : Bool} : (s.accessFault k a w).supplyOk = s.supplyOk :=
  (State.accessFault_kept (m := 70368744833032) rfl kept_refl).supplyOk.resolve_left (by decide)
@[simp] theorem State.accessFault_free {k a : Nat} {w : Bool} : (s.accessFault k a w).free = s.free :=
  (State.accessFault_kept (m := 70368744833032) rfl kept_refl).free.resolve_left (by decide)
@[simp] theorem State.accessFault_pending {k a : Nat} {w : Bool} : (s.accessFault k a w).pending = s.pending :=
  (State.accessFault_kept (m := 70368744833032) rfl kept_refl).pending.resolve_left (by decide)
/-- Registers it leaves alone. -/
theorem State.accessFault_reg {k a : Nat} {w : Bool} {ra bk : Nat} (h0 : ra / 1048576 % 32 = bk) (h1 : (70368744833032 : Nat).testBit (32 + bk) = false) :
    (s.accessFault k a w).reg ra = s.reg ra :=
  reg_of_kept (State.accessFault_kept (m := 70368744833032) rfl kept_refl) ra h0 h1

/-- A sticky bit's register after it is set. -/
theorem State.raise_val {e : ErrReg} {n k : Nat} (h : e.addr / 1048576 % 32 = k) (d : k ≠ 14) :
    (s.raise e n).val e.addr = (s.val e.addr ||| 2 ^ n) % 2 ^ 32 := by
  unfold State.raise State.raiseInfo
  have x : ∀ k < 32, k ≠ 14 → (70368744701960 : Nat).testBit (32 + k) = false := by decide
  rw [State.val_of_reg (State.event_reg h (x k (by omega) d)), State.val_setVal_same]

/-- A sticky bit that is set reads 1. -/
theorem State.raise_bit {e : ErrReg} {n k : Nat} (h : e.addr / 1048576 % 32 = k) (d : k ≠ 14) (hn : n < 32) :
    ((s.raise e n).val e.addr).testBit n = true := by
  rw [State.raise_val h d, Nat.testBit_mod_two_pow]
  simp [hn]

theorem bitAt_zero {v : Nat} : bitAt v 0 = v % 2 := by unfold bitAt; simp

theorem bitAt_div {v i : Nat} : bitAt v i = v / 2 ^ i % 2 := by unfold bitAt; rw [Nat.shiftRight_eq_div_pow]

end Sys2Proof.Machine
end

