-- ==== Sys2Proof/Tests/Slice0.lean ====
section
/-!
SUPPORT. Tests of the model's own, and for the statements that have hypotheses a state and operands that meet them.
-/
namespace Sys2Proof.Tests
open Sys2Proof Sys2Proof.Machine

/-! ### Helpers -/

/-- A device whose blocks are up, in a mode. -/
def up (m : Mode) : State := { sys := { mode := m, blocksUp := true } }

/-- A host command's header. -/
def ch : CmdHdr := { tag := 7, force := false, keep := false, peer := false, format := false }

/-- A host that has agreed a version. -/
def host (m : Mode) : State := (up m).setVal Reg.HIF_AGREED 0x402

def noFrame : RxIn := { bytes := List.replicate 60 0, fcsOk := true, smdOk := true, aborted := false }

/-! ### Well-formedness, decoding, known answers -/

/-- An operand beyond each kind of bound is refused: a core, an address, a width, a value, a port, a fraction, a slot, a tag, a tile, a channel,
an output, an input, a class, a group, a band, a pin, a contact, a publication, a buffer, a queue, a target, a lane, a mode. -/
theorem test_ill_formed_refused : (
    [Instr.registerWrite (.core 8) 0x10000000 4 0, .registerWrite .host (2 ^ 40) 4 0, .registerWrite .host 0x10000000 9 0,
     .registerWrite .i2c 0x10000000 4 (2 ^ 32), .frameReceived 8 0 0 noFrame, .frameReceived 0 0 16 noFrame, .gdoiKeyBind 0 256,
     .gdoiKeyBind (2 ^ 32) 0, .nop { ch with tag := 2 ^ 32 }, .tileCompareFire 256 0 0, .cmpTargetWrite .host 32 0, .compareFire 0 (2 ^ 24),
     .tpoPulseEnd 0 8, .tdcEdge 0 0 128 true, .tdcStampRead .host 8, .snapshotOpen 0 8, .snapSubscribe ch (2 ^ 64) 0 0 0 0 0,
     .snapSubscribe ch 0 0 256 0 0 0, .snapSubscribe ch 0 0 0 4 0 0, .snapUnsubscribe ch 16, .pinHoldExpiry 0 64, .modalUpdateReady 0 64 0,
     .modalUpdateReady 0 0 4, .almAck ch (2 ^ 64), .minonExpiry 0 16, .dinChange 0 16 true, .gooseRepeat 0 8, .modPllRelock 0 128,
     .pulseStart 0 4, .capArm ch (2 ^ 16), .capRead ch 16 0 0 false, .imageLoad ch 4 0 0 true none, .ctrlItemEnqueue 0 1024 false,
     .wait 0 32, .eventEdge 4096 0, .recordPost 24 false, .laneDown 2, .recordOffer (2 ^ 15) [], .updateBegin ch 2 0 0, .modeSet ch 16,
     .i2cAddressMatch 0 128, .aonAlarm 0 (2 ^ 48), .bar2Write (2 ^ 36) [], .pcieLinkUp 8 0, .alignmentException 8] : List Instr).all (fun i => !i.wf) = true := by
  decide +kernel

theorem test_well_formed_kept : (
    [Instr.registerWrite (.core 7) (2 ^ 40 - 4) 4 (2 ^ 32 - 1), .frameReceived 7 0 15 noFrame, .gdoiKeyBind (2 ^ 32 - 1) 255, .nop ch,
     .tdcEdge 7 0 127 true, .modeSet ch 15, .eventEdge 4095 (2 ^ 32 - 1), .laneDown 1, .powerOnReset] : List Instr).all Instr.wf = true := by
  decide +kernel

/-- The command table gives its rows no bits: no word spells a command, and the queue stays as it is. -/
theorem test_no_word_spells_a_command : decodeTableWord 32 0 = none ∧ State.reset.withFetchWord 32 0 = State.reset := ⟨rfl, rfl⟩

/-- The check values of CRC-32C and CRC-CCITT (initial value 0xFFFF) over the bytes of "123456789". -/
theorem test_crc_check_values :
    crc32c [0x31, 0x32, 0x33, 0x34, 0x35, 0x36, 0x37, 0x38, 0x39] = 0xE3069283 ∧
    crcCcitt [0x31, 0x32, 0x33, 0x34, 0x35, 0x36, 0x37, 0x38, 0x39] = 0x29B1 := by decide +kernel

/-- SHA-256 of "abc" (FIPS 180-4). -/
theorem test_sha256_abc : beNat (sha256 [0x61, 0x62, 0x63]) = 0xBA7816BF8F01CFEA414140DE5DAE2223B00361A396177A9CB410FF61F20015AD := by
  decide +kernel

/-- AES-128 of FIPS 197, appendix C.1. -/
theorem test_aes128 :
    beNat (aesEnc (beBytes 16 0x000102030405060708090A0B0C0D0E0F) (beBytes 16 0x00112233445566778899AABBCCDDEEFF)) =
      0x69C4E0D86A7B0430D8CDB78070B4C55A := by decide +kernel

/-- The commands take effect in the order in which they wait. -/
theorem test_first_in_first_out :
    (match step (host .serve |>.withPending [.nop ch, .dispatcherTick 1]) with
      | .next t => decide (t.pending = [.dispatcherTick 1]) && decide (t.hif.cpls = [{ code := 0, status := 0, tag := 7 }])
      | _ => false) = true := by decide

/-! ### Hypotheses of the statements about the whole device -/

theorem witness_EmptyQueueTicks :
    State.reset.powered ∧ State.reset.pending = [] ∧ State.reset.tb.step = none ∧ State.reset.lat.job = none ∧
      State.reset.upd.restartDue = false := ⟨rfl, rfl, rfl, rfl, rfl⟩

theorem witness_CommandsRunWhileSupplied :
    (∃ t, exec (.dispatcherTick 1) State.reset = .next t) ∧ ({ supplyOk := false } : State).supplyOk = false ∧
      Instr.resetPin ≠ .powerOnReset ∧ (up .serve).powered := ⟨⟨_, rfl⟩, rfl, by decide, rfl⟩

theorem witness_StepKeepsForm : State.reset.wf ∧ ∃ t, step State.reset = .next t := ⟨⟨rfl, rfl, rfl⟩, _, rfl⟩

theorem witness_PoweredRunsNeverStop :
    (up .serve).powered ∧ Instr.supplyFail ∉ ((up .serve).withPending [.resetPin, .wake 0]).pending := ⟨rfl, by decide⟩

theorem witness_HostCommandsChecked :
    hostCall (.nop ch) = some (0, ch) ∧ (host .serve).powered ∧ (host .serve).heard 0 7 ∧
    flagsOk 0 { ch with force := true } = false ∧
    (flagsOk 0x0903 ch = true ∧ ((up .serve).setVal Reg.HIF_AGREED 0x3FF).agreed < cmdSince 0x0903 ch) ∧
    (flagsOk 0x0903 ch = true ∧ cmdSince 0x0903 ch ≤ ((up .serve).setVal Reg.HIF_AGREED 0x400).agreed) ∧
    (flagsOk 0x0201 ch = true ∧ cmdSince 0x0201 ch ≤ (host .serve).agreed ∧ (host .serve).sys.mode ∉ hostModes 0x0201) :=
  ⟨rfl, rfl, rfl, by decide⟩

/-! ### Ports -/

def port0 (p : EthPort) : State := ((up .serve).setFld (Reg.ETH_PnCTL 0) F.ETH_PnCTL_EN 1).setPort 0 p

/-- Port 0 enabled, its link up. -/
def linked0 : State := port0 { link := true }

/-- A frame of 60 bytes to the port's own address, from its EtherType on. -/
def typed (c : List Byte) : List Byte := List.replicate 12 0 ++ c ++ List.replicate (48 - c.length) 0

def tagged : List Byte := typed [0x81, 0, 0xC0, 5, 8, 0]

/-- Port 0 with `n` bytes in its receive buffer. -/
def full0 (n : Nat) : State :=
  port0 { link := true, rx := [{ high := false, tag := none, bytes := [], len := n, ns := 0, frac := 0 }] }

theorem witness_FramesReceivedOrCounted :
    linked0.powered ∧ { noFrame with aborted := true }.aborted = true ∧
    (noFrame.aborted = false ∧ (up .serve).portEn 0 = false) ∧
    (linked0.portEn 0 = true ∧ (linked0.port 0).link = true ∧ { noFrame with smdOk := false }.smdOk = false) ∧
    (noFrame.smdOk = true ∧ { noFrame with fcsOk := false }.fcsOk = false) ∧
    (noFrame.fcsOk = true ∧ 59 + 4 < 64 ∧ linked0.fld (Reg.ETH_PnRXCFG 0) F.ETH_PnRXCFG_MAXLEN < 1519 + 4) ∧
    (64 ≤ noFrame.bytes.length + 4 ∧ 1518 + 4 ≤ linked0.fld (Reg.ETH_PnRXCFG 0) F.ETH_PnRXCFG_MAXLEN) ∧
    isPause (typed [0x88, 8, 0, 1]) = true ∧
    (isPause (typed [0x81, 0, 0, 0, 0x81, 0]) = false ∧ untag (typed [0x81, 0, 0, 0, 0x81, 0]) = none) ∧
    (isPause (List.replicate 60 2) = false ∧ linked0.addrOk 0 (List.replicate 60 2) = false) ∧
    (isPause tagged = false ∧ linked0.addrOk 0 tagged = true ∧ untag tagged = some (some (5, 6), List.replicate 12 0 ++ [8, 0] ++ List.replicate 42 0)) ∧
    (linked0.setFld (Reg.ETH_PnRXCFG 0) F.ETH_PnRXCFG_VLFILT 1).vlanOk 0 (some (5, 6)) = false ∧
    (linked0.vlanOk 0 (some (5, 6)) = true ∧ linked0.isHigh 0 (some (5, 6)) tagged = true ∧ linked0.isHigh 0 (some (5, 5)) (typed []) = false) ∧
    (((full0 (524288 - 64)).port 0).used + 64 ≤ rxBuffer 0 ∧ rxBuffer 0 < ((full0 (524288 - 63)).port 0).used + 64) ∧
    (let cap := rxBuffer 0 - linked0.fld (Reg.ETH_PnRXCFG 0) F.ETH_PnRXCFG_HIRES * 16384
     ((full0 (458752 - 64)).port 0).used + 64 ≤ cap ∧ cap < ((full0 (458752 - 63)).port 0).used + 64) := by
  refine ⟨rfl, ?_⟩; decide +kernel

/-- A frame of `n` data bytes to send. -/
def send (n : Nat) : TxFrame := { bytes := List.replicate n 0 }

/-- A two-step PTP Sync in EB. -/
def sync2 : TxProg := ⟨1, { bytes := List.replicate 60 0, ptp := some ⟨0, 9, false, 34, none⟩ }, 0⟩

def sync1 : TxProg := ⟨1, { bytes := List.replicate 60 0, ptp := some ⟨0, 9, true, 34, none⟩ }, 0⟩

theorem witness_FramesTransmitted :
    linked0.powered ∧
    ((port0 { inProg := some ⟨2, send 60, 0⟩ }).port 0).inProg = some ⟨2, send 60, 0⟩ ∧ (linked0.port 0).inProg = none ∧
    (((port0 { inProg := some sync2 }).port 0).inProg = some sync2 ∧ ((port0 { inProg := some sync2 }).port 0).stamps.length < 64) ∧
    64 ≤ ((port0 { inProg := some sync2, stamps := List.replicate 64 ⟨0, 0, 0, 0⟩ }).port 0).stamps.length ∧
    bitAt (stampHi (linked0.port 0).stamps) 31 = 0 ∧ linked0.mayRead .host (Reg.ETH_PnTXTSHI 0) := by
  refine ⟨rfl, ?_, ?_, ?_, ?_, ?_, trivial, rfl⟩ <;> decide +kernel

theorem witness_PortsAndLinks :
    linked0.powered ∧ linked0.mayWrite .host (Reg.ETH_PnCTL 0) 0 ∧ linked0.mayWrite (.core 0) (Reg.ETH_PnCTL 0) 1 ∧
    (linked0.portEn 0 = true ∧ (ctlAfter 0 false (linked0.reg (Reg.ETH_PnCTL 0)) 0).2 = true ∧
      ∃ t, exec (.portCtlWrite .host 0 0 true) linked0 = .next t ∧ t.portEn 0 = false) ∧
    (let s := linked0.setVal (Reg.ETH_PnPREEMPT 3) 1
     s.flag (Reg.ETH_PnPREEMPT 3) F.ETH_PnPREEMPT_PEN = true ∧ s.flag (Reg.ETH_PnPREEMPT 3) F.ETH_PnPREEMPT_VDIS = false) ∧
    (let s := linked0.setVal (Reg.ETH_PnPREEMPT 3) 3
     s.flag (Reg.ETH_PnPREEMPT 3) F.ETH_PnPREEMPT_PEN = true ∧ s.flag (Reg.ETH_PnPREEMPT 3) F.ETH_PnPREEMPT_VDIS = true) ∧
    (linked0.setVal (Reg.ETH_PnPREEMPT 3) 0).flag (Reg.ETH_PnPREEMPT 3) F.ETH_PnPREEMPT_PEN = false ∧
    ((up .serve).port 0).link = false ∧ (linked0.port 0).link = true ∧ (linked0.port 0).inProg = none ∧ (linked0.port 0).held = none := by
  refine ⟨rfl, ⟨trivial, rfl⟩, ⟨rfl, rfl⟩, ⟨by decide +kernel, by decide +kernel, _, rfl, by decide +kernel⟩, ?_⟩
  decide +kernel

/-- Port 0 verifying, with a number of verify mPackets sent. -/
def verifying (n : Nat) : State := port0 { link := true, vstate := 2, verifySent := n }

theorem witness_PreemptionVerified :
    linked0.powered ∧
    ((linked0.port 0).inProg = none ∧ (linked0.port 0).ea = [] ∧ (linked0.port 0).link = true ∧ linked0.portEn 0 = true ∧
      (send 508).bytes.length + 4 ≤ 512) ∧
    (let s := port0 { link := true, active := true, inProg := some ⟨2, send 256, 0⟩ }
     (s.port 0).inProg = some ⟨2, send 256, 0⟩ ∧ s.mayPreempt 0 ⟨2, send 256, 0⟩ 192 = true ∧ s.mayPreempt 0 ⟨2, send 256, 0⟩ 63 = false ∧
     (s.port 0).ea = [] ∧ s.portEn 0 = true) ∧
    (512 < (send 509).bytes.length + 4 ∧ (linked0.port 4).inProg = none) ∧
    ((port0 { inProg := some sync1 }).port 0).inProg = some sync1 ∧ linked0.mayWrite .host (Reg.ETH_PnPREEMPT 0) 1 ∧
    (let s := linked0.setVal (Reg.ETH_PnPREEMPT 0) 0
     s.flag (Reg.ETH_PnPREEMPT 0) F.ETH_PnPREEMPT_PEN = false ∧ F.ETH_PnPREEMPT_PEN.of (BitVec.ofNat 32 1) = 1 ∧
     F.ETH_PnPREEMPT_VDIS.of (BitVec.ofNat 32 1) = 0 ∧ (s.port 0).link = true) ∧
    (((verifying 2).port 0).vstate = 2 ∧ ((verifying 2).port 0).verifySent < 3 ∧ 3 ≤ ((verifying 3).port 0).verifySent ∧
      ((verifying 2).port 0).verifyAt + (verifying 2).fld (Reg.ETH_PnPREEMPT 0) F.ETH_PnPREEMPT_VERIFY_T * 1000000 ≤
        ((verifying 2).advanceNs 10000000).ns ∧
      ((verifying 2).advanceNs 9999999).ns <
        ((verifying 2).port 0).verifyAt + (verifying 2).fld (Reg.ETH_PnPREEMPT 0) F.ETH_PnPREEMPT_VERIFY_T * 1000000) ∧
    (linked0.port 0).vstate ≠ 2 := by
  refine ⟨rfl, by decide +kernel, by decide +kernel, by decide +kernel, by decide +kernel, ⟨trivial, rfl⟩, ?_⟩; decide +kernel

/-! ### Streams and the registry -/

/-- A frame that carries an IPv4 UDP datagram from 10.0.0.1 to a port. -/
def udp4 (port : Nat) (pl : List Byte) (sum : Nat) : List Byte :=
  let n := 8 + pl.length
  let h := beBytes 2 0x4500 ++ beBytes 2 (20 + n) ++ [0, 0, 0, 0, 64, 17]
  let a := beBytes 4 0x0A000001 ++ beBytes 4 0x0A000002
  List.replicate 12 0 ++ [8, 0] ++ h ++ beBytes 2 (0xFFFF - inetFold (inetSum (h ++ a))) ++ a ++ beBytes 2 9 ++ beBytes 2 port ++ beBytes 2 n ++
    beBytes 2 sum ++ pl

def rxOf (b : List Byte) : RxFrame := { high := false, tag := none, bytes := b, len := b.length + 4, ns := 1000, frac := 3 }

/-- The UDP datagram that `udp4` builds. -/
def dgram (port : Nat) (pl : List Byte) (sum : Nat) : Datagram :=
  { v6 := false, src := mapped4 0x0A000001, dst := mapped4 0x0A000002, ident := 0, offset := 0, more := false, headOk := true, simple := true
    body := beBytes 2 9 ++ beBytes 2 port ++ beBytes 2 (8 + pl.length) ++ beBytes 2 sum ++ pl }

/-- A C37.118.2 data frame of a size, with its CRC. -/
def c37 (size : Nat) : List Byte :=
  let b := beBytes 2 0xAA01 ++ beBytes 2 size ++ beBytes 2 5 ++ beBytes 4 100 ++ beBytes 4 500000 ++ List.replicate (size - 16) 0
  b ++ beBytes 2 (crcCcitt b)

def rsvPort : Nat := 102

def vtdPort : Nat := 47130

/-- A VTD datagram of one code, of a vertex, with a SEQ. -/
def vtd (vid seq : Nat) : List Byte :=
  [0xA6, 2, 0, 1] ++ beBytes 4 (vid * 4096 + seq) ++ beBytes 8 0 ++ beBytes 2 0x1000 ++ List.replicate 6 0

def entry (vid fmt : Nat) (addr port srcId : Nat) : RegEntry :=
  { vid := vid, sc := 0, fmt := fmt, authReq := false, addrChk := false, paused := false, keySlot := 0, keySlot2 := 0, k2Valid := false
    svidLen := 0, srcId := srcId, udpPort := port, desc := 3, addr := addr }

def pm : PmuDesc := { format := 0, phasors := [], analogs := [], ndig := 0, fnom := 50 }

def desc1 : Desc := { rsv := false, pmus := [pm], timeBase := 1000000, rate := 50, members := [], confRev := 0 }

def descR : Desc := { rsv := true, pmus := [], timeBase := 1, rate := 50, members := [.timestamp], confRev := 4 }

/-- A device with registry entries, descriptor 3, and a frame at port 0. -/
def stream (es : List RegEntry) (d : Desc) (b : List Byte) : State :=
  let s := (host .serve).setPort 0 { link := true, rx := [rxOf b] }
  { s with ing := { s.ing with streams := es.zipIdx.map (fun p => (p.2, some p.1)), descs := [(3, some d)] } }

def spdu (ok : Bool) (n sig : Nat) : Spdu :=
  { encrypted := false, sampled := true, keyId := 1, sig := sig, tag := [], covered := [], iv := [], lengthOk := ok
    asdus := List.replicate n { svid := [1], smpCnt := 0, confRev := 4, smpSynch := 2, refrTm := none, data := List.replicate 8 0 } }

theorem witness_StreamFramesDiscarded :
    (stream [] desc1 []).powered ∧
    (let f := udp4 4713 (c37 18) 1; let s := stream [] desc1 f
     (s.port 0).nextRx = some (rxOf f) ∧ s.hwProto 0 (rxOf f) = some (.c37, dgram 4713 (c37 18) 1) ∧ (dgram 4713 (c37 18) 1).sumOk = false) ∧
    (let p := beBytes 2 0xAA01 ++ beBytes 2 15 ++ List.replicate 16 0; let f := udp4 4713 p 0; let s := stream [] desc1 f
     s.hwProto 0 (rxOf f) = some (.c37, dgram 4713 p 0) ∧ (dgram 4713 p 0).sumOk = true ∧ (dgram 4713 p 0).headOk = true ∧
     (dgram 4713 p 0).payload = p ∧ beAt p 2 2 < 16) ∧
    (let p := (c37 18).take 17 ++ [0]; let f := udp4 4713 p 0; let s := stream [] desc1 f
     s.hwProto 0 (rxOf f) = some (.c37, dgram 4713 p 0) ∧ 4 ≤ p.length ∧ beAt p 2 2 ≤ p.length ∧ 16 ≤ beAt p 2 2 ∧
     beAt p (beAt p 2 2 - 2) 2 ≠ crcCcitt (p.take (beAt p 2 2 - 2))) ∧
    (let p := c37 18; let f := udp4 4713 p 0; let s := stream [] desc1 f
     s.hwProto 0 (rxOf f) = some (.c37, dgram 4713 p 0) ∧ beAt p (beAt p 2 2 - 2) 2 = crcCcitt (p.take (beAt p 2 2 - 2)) ∧
     s.entriesOf ⟨0, mapped4 0x0A000001, 4713, beAt p 4 2⟩ = []) ∧
    (let f := udp4 rsvPort [1] 0; let s := stream [] desc1 f
     (s.port 0).nextRx = some (rxOf f) ∧ s.hwProto 0 (rxOf f) = some (.rsv, dgram rsvPort [1] 0) ∧ (dgram rsvPort [1] 0).sumOk = true ∧
     (spdu false 1 0).lengthOk = false ∧ 8 < (spdu true 9 0).asdus.length) ∧
    (let f := udp4 vtdPort (vtd 0x2000 1) 1; let s := stream [] desc1 f
     (s.port 0).nextRx = some (rxOf f) ∧ s.hwProto 0 (rxOf f) = some (.vtd, dgram vtdPort (vtd 0x2000 1) 1) ∧
     (dgram vtdPort (vtd 0x2000 1) 1).sumOk = false) ∧
    (let p : List Byte := [0xA6, 3, 0, 1]; let f := udp4 vtdPort p 0
     (stream [] desc1 f).hwProto 0 (rxOf f) = some (.vtd, dgram vtdPort p 0) ∧ (dgram vtdPort p 0).sumOk = true ∧ 2 < leAt p 1 1) ∧
    (let p := vtd 0x2000 1 ++ [0]; let f := udp4 vtdPort p 0
     (stream [] desc1 f).hwProto 0 (rxOf f) = some (.vtd, dgram vtdPort p 0) ∧ leAt p 0 1 = 0xA6 ∧ leAt p 1 1 = 2 ∧ leAt p 2 1 = 0 ∧
     p.length ≠ 16 + 8 * leAt p 3 1) := by
  refine ⟨rfl, ?_⟩; decide +kernel

/-- The entry of a stream of 10.0.0.1 of a format, on a port, with an identifier. -/
def known (fmt port srcId : Nat) : RegEntry := entry 12 fmt (mapped4 0x0A000001) port srcId

def telem (last : Nat) (b : List Byte) : State :=
  let s := stream [] desc1 b
  { s with ing := { s.ing with telem := [(0x2000, some (entry 0x2000 3 0 0 0))], lastSeq := [(0x2000, some last)] } }

theorem witness_StreamFramesAccepted :
    (stream [] desc1 []).powered ∧
    (let b := c37 22; let f := udp4 4713 b 0; let e := known 0 4713 5; let s := stream [e] desc1 f; let w := beAt b 14 2
     s.hwProto 0 (rxOf f) = some (.c37, dgram 4713 b 0) ∧ (dgram 4713 b 0).payload = b ∧ beAt b 2 2 ≤ b.length ∧
     beAt b (beAt b 2 2 - 2) 2 = crcCcitt (b.take (beAt b 2 2 - 2)) ∧ (s.entriesOf ⟨0, mapped4 0x0A000001, 4713, 5⟩).head? = some e ∧
     s.descAt e.desc = some desc1 ∧ desc1.pmus = [pm] ∧ beAt b 2 2 = descSize desc1 ∧ beAt b 10 4 % 2 ^ 24 < desc1.timeBase ∧
     s.entryOf 0 (mapped4 0x0A000001) 4713 5 = some e ∧ e.paused = false ∧ e.authReq = false ∧ bitAt w 10 = 0) ∧
    (let f := udp4 rsvPort [1] 0; let e := known 2 rsvPort (crc32c [1]); let s := stream [e] descR f; let p := spdu true 1 0
     s.hwProto 0 (rxOf f) = some (.rsv, dgram rsvPort [1] 0) ∧ p.asdus.length = 1 ∧
     (∀ a ∈ p.asdus, s.entryOf 2 (mapped4 0x0A000001) rsvPort (crc32c a.svid) = some e ∧ s.descAt e.desc = some descR ∧
       a.data.length = (descR.members.map memberSize).sum ∧ rsvStamp a.data descR.members 0 = some (0, 0) ∧ a.confRev = descR.confRev) ∧
     p.sig = 0 ∧ (spdu true 1 1).sig ≠ 0 ∧ s.spduTagOk (spdu true 1 1) = false) ∧
    (let b := vtd 0x2000 2; let f := udp4 vtdPort b 0; let s := telem 2 f
     s.hwProto 0 (rxOf f) = some (.vtd, dgram vtdPort b 0) ∧ (dgram vtdPort b 0).payload = b ∧ codesOk b (leAt b 3 1) = true ∧
     beAt b 4 4 / 4096 = 0x2000 ∧ beAt b 4 4 % 4096 = 2 ∧ tget (fun _ => none) s.ing.telem 0x2000 = some (entry 0x2000 3 0 0 0) ∧
     beAt b 8 8 ≤ (s.advanceNs 0).ns + s.val Reg.ING_VTDSKEW % 65536 * 1000000 ∧
     tget (fun _ => none) (telem 2 f).ing.lastSeq 0x2000 = some 2 ∧ tget (fun _ => none) (telem 4095 f).ing.lastSeq 0x2000 = some 4095 ∧
     (2 + 4096 - 2) % 4096 = 0 ∧ 0 < (2 + 4096 - 4095) % 4096 ∧ (2 + 4096 - 4095) % 4096 < 2048) := by
  refine ⟨rfl, ?_⟩; decide +kernel

/-- A first fragment of an IPv4 UDP datagram. -/
def frag4 : List Byte := List.replicate 12 0 ++ [8, 0] ++ [0x45, 0, 0, 28, 0, 0, 0x20, 0, 64, 17] ++ List.replicate 18 0

theorem witness_FirmwarePath :
    (stream [] desc1 frag4).powered ∧
    (let s := stream [] desc1 frag4
     (s.port 0).nextRx = some (rxOf frag4) ∧ s.hwProto 0 (rxOf frag4) = none ∧
     (∃ d, datagramOf frag4 = some d ∧ d.fragment = true ∧ d.more = true) ∧ s.ing.frags = [] ∧ s.chd.digests = []) ∧
    ([1, 2, 3] : List Byte).length < 4 ∧
    ((stream [] desc1 []).entriesOf ⟨0, 0, 0, 0⟩ = [] ∧
      ((stream [known 0 4713 5] desc1 []).entriesOf ⟨0, mapped4 0x0A000001, 4713, 5⟩).head? = some (known 0 4713 5)) ∧
    bitAt ((up .serve).val (Reg.ING_KIDSLOTk 0)) 31 = 0 ∧
    (let s := (List.range 64).foldl (fun (s : State) i => s.setVal (Reg.ING_KIDSLOTk i) (2 ^ 31)) (up .serve)
     (∀ i, i < 64 → bitAt (s.val (Reg.ING_KIDSLOTk i)) 31 = 1) ∧ s.kidSlot 5 = none ∧ s.kidSlot 0 ≠ none) := by
  refine ⟨rfl, ⟨?_, ?_, ⟨_, rfl, ?_, ?_⟩, ?_, ?_⟩, ?_⟩ <;> decide +kernel

/-- The words of a telemetry entry, and of a C37.118.2 one. -/
def telemWords (vid : Nat) : List Nat := [vid + 3 * 2 ^ 23, 0, 0, 0, 0, 0, 0, 0]

def streamWords : List Nat := [12, 0, 5, 4713, 0, 0, 0, 0]

/-- A device with room for 0x3000 vertices and ten streams. -/
def reg0 : State := let s := (host .serve).setVal Reg.TOPO_VCAP 0x3000; { s with lat := { s.lat with streamsCap := 10 } }

def reg1 : State := { reg0 with ing := { reg0.ing with telem := [(0x2FFF, some (entryOfWords (telemWords 0x2FFF)))] } }

theorem witness_RegistryEdited :
    reg0.powered ∧ reg0.admits 0x0311 ch ∧ reg0.admits 0x0312 ch ∧ reg0.sys.mode.edits = true ∧
    ((entryOfWords (telemWords 0x2FFF)).vid + 2 - 1 ≥ reg0.val Reg.TOPO_VCAP ∧ 65536 < 65537) ∧
    (let e := entryOfWords (telemWords 0x2FFF)
     e.vid + 1 - 1 < reg0.val Reg.TOPO_VCAP ∧ vidOk e.fmt e.vid = true ∧ reg0.entrySlotsOk e = true ∧ e.fmt = 3 ∧
     (∀ v ∈ vidRange e.vid 1, tget (fun _ => none) reg0.ing.telem v = none) ∧
     ∀ v ∈ vidRange e.vid 1, tget (fun _ => none) reg1.ing.telem v ≠ none) ∧
    (let e := entryOfWords streamWords
     entryClear streamWords = true ∧ entryClear (telemWords 0x2FFF) = true ∧ entryClear [2 ^ 30] = false ∧
     vidOk e.fmt e.vid = true ∧ e.fmt < 3 ∧ reg0.streamArg e false = false ∧ reg0.streamEntries.contains e = false ∧
     reg0.streamEntries.length < reg0.lat.streamsCap ∧ bitAt (streamWords.getD 0 0) 29 ≠ 1) ∧
    (∃ i, reg0.freeSlot (entryOfWords streamWords) = some i) ∧
    (let s := { reg0 with ing := { reg0.ing with removals := [{ tag := 9, vids := [0x2FFF] }] } }
     s.ing.removals.find? (·.tag == 9) = some { tag := 9, vids := [0x2FFF] }) := by
  refine ⟨rfl, ⟨rfl, by decide +kernel, rfl⟩, ⟨rfl, by decide +kernel, rfl⟩, ?_, ?_, ?_, ?_, ⟨_, rfl⟩, ?_⟩ <;> decide +kernel

/-! ### Time -/

def serve : State := up .serve

theorem witness_TimeRequestsAndTheirTick :
    serve.powered ∧ serve.mayWrite .host Reg.TB_INCRI 4 ∧ serve.mayWrite (.core 0) Reg.TB_STEPCMD 1 ∧
    (1 % 4 ≠ 3 ∧ serve.tb.step = none ∧ (serve.setVal Reg.TB_SETNS 999999999).val Reg.TB_SETNS < 1000000000) ∧
    (({ serve with tb := { step := some true } }).tb.step ≠ none ∧ 1000000000 ≤ (serve.setVal Reg.TB_SETNS 1000000000).val Reg.TB_SETNS) ∧
    (serve.setFld Reg.TB_STAT F.TB_STAT_INCRPEND 1).flag Reg.TB_STAT F.TB_STAT_INCRPEND = true ∧
    (incrOk serve.incrWords = true ∧ incrOk (serve.setVal Reg.TB_INCRI 5).incrWords = false) ∧
    incrOk 17188459118 = true ∧ incrOk 17188459119 = false ∧ incrOk 17171279250 = true ∧ incrOk 17171279249 = false ∧
    ({ serve with tb := { step := some true } }).tb.step = some true ∧
    (serve.val Reg.TB_SETSLO + serve.val Reg.TB_SETSHI % 65536 * 2 ^ 32) * 1000000000 + serve.val Reg.TB_SETNS < 2 ^ 48 * 1000000000 ∧
    (let s := { (serve.advanceNs 9).setVal Reg.TB_ADJNS 0xFFFFFFFF with tb := { step := some false } }
     s.tb.step = some false ∧ ((8 * 2 ^ 24 + s.tb.incr : Nat) : Int) = s.now + s.tb.incr + signed 32 (s.val Reg.TB_ADJNS) * 2 ^ 24) := by
  refine ⟨rfl, ⟨trivial, rfl⟩, ⟨rfl, rfl⟩, ?_⟩; decide +kernel

/-- A pending leap change at second 10. -/
def leap : State := (serve.setVal Reg.TB_LEAPSLO 10).setFld Reg.TB_LEAPSHI F.TB_LEAPSHI_PENDING 1

theorem witness_LatchedReadsAndLeapSecond :
    serve.powered ∧ serve.mayRead .host Reg.TB_NOWNS ∧ serve.mayRead (.core 7) Reg.TB_NOW64LO ∧ serve.mayRead .i2c (Reg.TB_TDCkHI 7) ∧
    (leap.flag Reg.TB_LEAPSHI F.TB_LEAPSHI_PENDING = true ∧ leap.leapSec ≤ (leap.advanceNs 10000000000).taiSec ∧
      (leap.advanceNs 9999999999).taiSec < leap.leapSec) ∧
    serve.flag Reg.TB_LEAPSHI F.TB_LEAPSHI_PENDING = false := by
  refine ⟨rfl, ⟨trivial, rfl⟩, ⟨rfl, rfl⟩, ⟨trivial, rfl⟩, ?_⟩; decide +kernel

def announce (best : Bool) : PtpMsg :=
  { onActive := true, announce := true, ownBest := best, slaveOnly := false, utcOffset := some 37, leap61 := false, leap59 := false, leapAt := 0 }

def irig (good : Bool) : IrigFrame := { good := good, sod := 86399, doy := 366, year := none, utc := 5, leap := none }

def irigOn : State := serve.setFld Reg.TB_IRIGCFG F.TB_IRIGCFG_EN 1

theorem witness_TimeSourcesHoldoverAndPll :
    serve.powered ∧
    ((announce true).onActive = true ∧ (announce true).announce = true ∧ ((announce false).ownBest && !(announce false).slaveOnly) = false ∧
      (announce false).utcOffset = some 37) ∧
    ({ announce true with announce := false }.announce = false ∧ serve.tb.ptpMaster = false) ∧
    (irigOn.flag Reg.TB_IRIGCFG F.TB_IRIGCFG_EN = true ∧ (irig true).good = true ∧ (irig false).good = false ∧ irigOn.tb.irigPrev ≠ some ((irig true).utc - 1)) ∧
    (let s := { irigOn.setVal Reg.TB_IRIGSTAT 0x100 with tb := { irigPrev := some 4 } }
     s.tb.irigPrev = some ((irig true).utc - 1) ∧ 1 ≤ (irig true).utc ∧ 1 ≤ s.val Reg.TB_IRIGSTAT / 256 % 256) ∧
    (let s := { serve with tb := { holdFrom := some 0 } }
     s.tb.holdFrom = some 0 ∧ 1000 < holdError ⟨1001, 0, 0, 0⟩ ((s.advanceNs 0).ns - 0) ∧ ¬ 1000 < holdError ⟨1000, 0, 0, 0⟩ ((s.advanceNs 0).ns - 0)) := by
  refine ⟨rfl, ?_⟩; decide +kernel

/-- A tile timer about to wrap, at one count per cycle. -/
def wrapping : State := { serve with tb := { tiles := [(255, { value := (2 ^ 32 - 2) * 2 ^ 24, rate := 2 ^ 24 })] } }

theorem witness_TileTimersAndCompareChannels :
    serve.powered ∧ (serve.setFld Reg.TB_CTL F.TB_CTL_ECHOEN 1).flag Reg.TB_CTL F.TB_CTL_ECHOEN = true ∧ (serve.advanceNs 1000000).ns % 1000000 = 0 ∧
    ((wrapping.tileTimer 255).slew = 0 ∧
      (let x := wrapping.tileTimer 255; let far := (1 + 2 ^ 32 - x.value / 2 ^ 24 - 1) % 2 ^ 32
       far < (x.value + 3 * x.rate) / 2 ^ 24 - x.value / 2 ^ 24 ∧ (x.value + 2 * x.rate) / 2 ^ 24 - x.value / 2 ^ 24 ≤ far)) ∧
    serve.mayWrite .host (Reg.TB_CMPnTGT 23) 5 ∧ serve.mayWrite (.core 5) (Reg.TB_CMPnCTL 31) 5 ∧
    (notOwner .host 23 = false ∧ notOwner .host 24 = true ∧ notOwner (.core 6) 31 = true ∧ notOwner (.core 5) 31 = false) ∧
    (serve.setFld (Reg.TB_CMPnCTL 23) F.TB_CMPnCTL_EN 1).flag (Reg.TB_CMPnCTL 23) F.TB_CMPnCTL_EN = true ∧
    (serve.cmpCtlOk 31 1 = true ∧ serve.cmpCtlOk 31 3 = false ∧ (serve.setVal (Reg.TB_CMPnPER 31) 100).cmpCtlOk 31 3 = true ∧
      (serve.setVal (Reg.TB_CMPnPER 31) 99).cmpCtlOk 31 3 = false) := by
  refine ⟨rfl, by decide +kernel, by decide +kernel, by decide +kernel, ⟨trivial, rfl⟩, ⟨rfl, rfl⟩, ?_⟩; decide +kernel

/-- Channel 31 armed for 5 ns, as a one-shot or as a periodic channel. -/
def armed (periodic : Nat) : State :=
  let s := ((serve.setFld (Reg.TB_CMPnSTAT 31) F.TB_CMPnSTAT_ARMED 1).setVal (Reg.TB_CMPnPER 31) 100).setFld (Reg.TB_CMPnCTL 31) F.TB_CMPnCTL_PERIODIC periodic
  { s with tb := { cmp := [(31, { target := 5 * 65536 })] } }

def tdcOn (d : Tdc) : State :=
  let s := (serve.setFld Reg.TB_CTL F.TB_CTL_TDCEN 1).setFld (Reg.TB_TDCkCFG 2) F.TB_TDCkCFG_EN 1
  { s with tb := { tdc := [(2, d)] } }

theorem witness_TimePinsAct :
    serve.powered ∧
    (31 ∈ ({ armed 0 with now := 5 * 2 ^ 24 } : State).dueCmps ∧ 31 ∉ ({ armed 0 with now := 4 * 2 ^ 24 } : State).dueCmps ∧
      (armed 0).flag (Reg.TB_CMPnCTL 31) F.TB_CMPnCTL_PERIODIC = false ∧ (armed 1).flag (Reg.TB_CMPnCTL 31) F.TB_CMPnCTL_PERIODIC = true) ∧
    (let s := { serve with tb := { tpo := [(7, { active := true, endsAt := some 9 })] } }
     (s.tpo 7).endsAt = some 9 ∧ 9 ≤ (s.advanceNs 9).ns) ∧
    ((tdcOn {}).flag Reg.TB_CTL F.TB_CTL_TDCEN = true ∧ (tdcOn {}).flag (Reg.TB_TDCkCFG 2) F.TB_TDCkCFG_EN = true ∧
      edgeTaken (bitsOf ((tdcOn {}).val (Reg.TB_TDCkCFG 2)) 1 2) true = true ∧ ((tdcOn {}).tdc 2).last = none) ∧
    (((tdcOn { fifo := List.replicate 15 ⟨0, 0, false⟩ }).tdc 2).fifo.length < 16 ∧
      16 ≤ ((tdcOn { fifo := List.replicate 16 ⟨0, 0, false⟩ }).tdc 2).fifo.length) := by
  refine ⟨rfl, ?_⟩; decide +kernel

/-! ### Snapshots -/

/-- Class 0 at 50 instants a second with the class on, and what it holds. -/
def classOn (c : SnapClass) : State :=
  let s := ((serve.setFld Reg.SNAP_CTL F.SNAP_CTL_EN 1).setFld (Reg.SNAP_SCnCFG 0) F.SNAP_SCnCFG_EN 1).setFld (Reg.SNAP_SCnCFG 0) F.SNAP_SCnCFG_RATE 50
  s.setSc 0 c

def slotLate : Slot := { late := true }

/-- A snapshot of instant 20 ms that closes at 21 ms, member 5 present or not. -/
def snapOf (ms : List Nat) (slots : List (Nat × Slot)) : Snapshot :=
  { seq := 1, inst := 20000000, win := 1000, tc := 21000000, members := ms, counted := [], slots := slots }

def held (x : Snapshot) : State := classOn { snaps := [x] }

theorem witness_SnapshotsOpenAndRelease :
    (classOn {}).powered ∧
    (let s := classOn { lastInst := some 0 }; let u := s.advanceNs 20000000; let i := latestInst (s.rate 0) u.ns
     u.snapRunning = true ∧ s.scEn 0 = true ∧ s.rate 0 ≠ 0 ∧ (s.sc 0).isNew (instantOf (s.rate 0) i.1 i.2) = true ∧
     (let j := latestInst (s.rate 0) (s.advanceNs 19999999).ns; (s.sc 0).isNew (instantOf (s.rate 0) j.1 j.2) = false)) ∧
    ((up .quiesce).snapRunning = false ∧ serve.scEn 0 = false) ∧
    (let x := snapOf [5, 6] [(5, {})]; let s := held x
     (s.advanceNs 0).snapRunning = true ∧ (s.sc 0).head = some x ∧ s.followsDigest 0 x = false ∧ (s.advanceNs 20999999).ns < x.tc ∧
     x.tc ≤ (s.advanceNs 21000000).ns ∧ x.promoting = false ∧ x.members.Nodup ∧ x.slots.any (·.1 == 5) = true ∧ x.slots.any (·.1 == 6) = false) := by
  refine ⟨rfl, ?_⟩; decide +kernel

/-- A class released provisionally from 500 us on. -/
def provOn (x : Snapshot) : State := (held x).setFld (Reg.SNAP_SCnCFG 0) F.SNAP_SCnCFG_PROV 1

/-- A snapshot whose one counted member is present, with a window of 20 ms. -/
def covered : Snapshot :=
  { seq := 1, inst := 20000000, win := 20000, tc := 40000000, members := [5], counted := [(5, 1, true)], slots := [(5, {})] }

theorem witness_SnapshotsReleasedEarlyAndAmended :
    (provOn covered).powered ∧
    (let s := provOn covered
     (s.advanceNs 0).snapRunning = true ∧ s.scEn 0 = true ∧ (s.sc 0).head = some covered ∧ s.followsDigest 0 covered = false ∧
     s.sys.mode ≠ .shadow ∧ s.sys.mode.provisional = true ∧ (s.advanceNs 20500000).provOk 0 covered = true ∧
     (s.advanceNs 20499999).provOk 0 covered = false) ∧
    (Mode.settle.provisional = false) ∧
    (let x := { snapOf [5] [(5, slotLate)] with finalAt := some 21000000 }; let y := { x with slots := [] }; let s := held x
     (s.sc 0).snaps.find? (fun x => x.finalAt.isSome && s.horizon 0 x ≤ (s.advanceNs 21000000).ns) = some x ∧
     (s.sc 0).snaps.find? (fun x => x.finalAt.isSome && s.horizon 0 x ≤ (s.advanceNs 20999999).ns) = none ∧
     (s.advanceNs 21000000).snapRunning = true ∧ x.slots.any (fun p => p.2.late) = true ∧ y.slots.any (fun p => p.2.late) = false) ∧
    (let x := { snapOf [5] [] with promoting := true, spill := 2 }
     ((held x).sc 0).head = some x ∧ x.promoting = true ∧ ((held (snapOf [5] [])).sc 0).head = some (snapOf [5] []) ∧ (snapOf [5] []).promoting = false) := by
  refine ⟨rfl, ?_⟩; decide +kernel

def subbed (k : Nat) : State := (host .serve).setVal (Reg.SNAP_SUBkCTL k) 1

theorem witness_SubscriptionsAndLast :
    (host .serve).powered ∧ (host .serve).admits 0x0301 ch ∧ (host .serve).admits 0x0302 ch ∧ (host .serve).sys.mode.subs = true ∧
    (let s := (List.range 16).foldl (fun (s : State) k => s.setVal (Reg.SNAP_SUBkCTL k) 1) (host .serve)
     ∀ k, k < 16 → bitAt (s.val (Reg.SNAP_SUBkCTL k)) 0 = 1) ∧
    (List.range 16).find? (fun k => bitAt ((subbed 0).val (Reg.SNAP_SUBkCTL k)) 0 = 0) = some 1 ∧
    (15 < 16 ∧ 65536 < 131072 ∧ 2 ^ Nat.log2 17 ≠ 17) ∧ (2 ^ Nat.log2 16 = 16 ∧ 2 ^ Nat.log2 65536 = 65536) ∧
    (256 % 256 = 0 ∧ 8 % 8 = 0 ∧ 3 < 4 ∧ 7 < 8 ∧ 23 < 24) ∧ (255 % 256 ≠ 0 ∧ 7 % 8 ≠ 0 ∧ 3 ≤ 3 ∧ 8 ≤ 23) ∧
    (bitAt ((subbed 15).val (Reg.SNAP_SUBkCTL 15)) 0 = 1 ∧ bitAt ((subbed 15).val (Reg.SNAP_SUBkCTL 0)) 0 = 0) ∧
    (serve.mayRead .host (Reg.SNAP_LASTn 7)) ∧ (serve.sc 7).last = none ∧
    (let l : LastRel := { seq := 1, kind := 3, inst := 0, members := 0, present := 0, cover := 0, rel := 0, flags := 0 }
     ((classOn { last := some l }).sc 0).last = some l ∧ l.kind < 4) := by
  refine ⟨rfl, ⟨rfl, by decide +kernel, rfl⟩, ⟨rfl, by decide +kernel, rfl⟩, rfl, by decide +kernel, by decide +kernel, by decide +kernel,
    by decide +kernel, by decide +kernel, by decide +kernel, by decide +kernel, ⟨trivial, rfl⟩, rfl, by decide +kernel⟩

theorem witness_LevelsAndWeights :
    serve.powered ∧ serve.mayWrite .host (Reg.SNAP_SCnPSTATE 7) 9 ∧ (8 < 9 % 16 ∧ 8 % 16 ≤ 8 ∧ serve.plevel 7 ≠ 8) ∧
    (let s := serve.setPstate 7 1 0 0 0
     s.val Reg.SNAP_PRELAX % 65536 ≠ 0 ∧ s.plevel 7 ≠ 0 ∧
     (s.sc 7).relaxFrom + s.val Reg.SNAP_PRELAX % 65536 * 1000000000 ≤ (s.advanceNs 3600000000000).ns ∧
     (s.advanceNs 3599999999999).ns < (s.sc 7).relaxFrom + s.val Reg.SNAP_PRELAX % 65536 * 1000000000) ∧
    (serve.plevel 7 = 0 ∧ (serve.setVal Reg.SNAP_PRELAX 0).val Reg.SNAP_PRELAX % 65536 = 0) ∧
    ((serve.advanceNs 600000000000).taiSec % (serve.val Reg.SNAP_PRBLEAK % 65536) = 0 ∧
      (serve.advanceNs 601000000000).taiSec % (serve.val Reg.SNAP_PRBLEAK % 65536) ≠ 0) ∧
    serve.mayWrite .host Reg.SNAP_PWVAL 0x1FF := by
  refine ⟨rfl, ⟨trivial, rfl⟩, by decide +kernel, by decide +kernel, by decide +kernel, by decide +kernel, ⟨trivial, rfl⟩⟩

/-! ### Topology -/

def topo0 (t : Topo) : State := let s := (host .serve).setFld Reg.TOPO_CTL F.TOPO_CTL_EN 1; { s with topo := t }

def work0 : TopoWork := { batch := some { tag := some 7, ops := [] }, fresh := [], facets := [], merges := 1, splits := 2 }

/-- A SYNCED Standby at a tick of 10 ms, with a staged change of edge states or not. -/
def standbyTick (ds : List DeltaBody) : State :=
  let s := (up .shadow).setFld Reg.TOPO_CTL F.TOPO_CTL_EN 1
  { s with chd := { role := .standby, synced := true, staged := ds } }

/-- Edge 2 valid and in service always, its state still open. -/
def edge2 : State := ((topo0 {}).setVal Reg.TOPO_ECAP 3).putEdge 2 1 (2 ^ 28)

/-- A host buffer with one operation. -/
def withOp (op target : Nat) : State := (topo0 {}).putHost 0 (leBytes 4 (op + target * 256))

theorem witness_TopologyAndAggregation :
    serve.powered ∧ ((up .referee).sys.mode.topo = false ∧ (serve.setFld Reg.TOPO_CTL F.TOPO_CTL_EN 0).flag Reg.TOPO_CTL F.TOPO_CTL_EN = false ∧
      (serve.advanceNs 9999999).ns % serve.topoPeriod ≠ 0) ∧
    (serve.sys.mode.topo = true ∧ (topo0 {}).flag Reg.TOPO_CTL F.TOPO_CTL_EN = true ∧ (serve.advanceNs 10000000).ns % serve.topoPeriod = 0) ∧
    ((standbyTick []).follows = true ∧ ((standbyTick []).advanceNs 10000000).stagedEdges = [] ∧ (∀ d ∈ (standbyTick []).chd.staged, d ≠ .topoCommit 10000000)) ∧
    ((standbyTick [.edges 10000000 [(2, 1)]]).advanceNs 10000000).stagedEdges ≠ [] ∧
    (let s := (topo0 { work := some work0 }).setFld Reg.TOPO_STAT F.TOPO_STAT_SPLITBUSY 1
     s.follows = false ∧ s.topo.work = some work0 ∧ s.flag Reg.TOPO_STAT F.TOPO_STAT_SPLITBUSY = true) ∧
    (let s := topo0 { work := some work0 }
     s.flag Reg.TOPO_STAT F.TOPO_STAT_SPLITBUSY = false ∧ work0.batch = some { tag := some 7, ops := [] } ∧ s.holds = false ∧
     ({ s with chd := { role := .active, partner := { synced := true, paired := true } } } : State).holds = true) ∧
    ((topo0 {}).topo.work = none ∧ (topo0 {}).topo.batch = none ∧ (topo0 {}).topo.dirty = false ∧ (topo0 {}).edgeList = []) ∧
    ((topo0 { dirty := true }).topo.dirty = true ∧ 2 ∈ edge2.edgeList ∧ (edge2.advanceNs 10000000).edgeNow 2 ≠ edge2.edgeState 2) ∧
    (topo0 { batch := some { tag := none, ops := [] } }).topo.batch ≠ none ∧
    (let s := withOp 9 0; let ops := topoOps (s.hostBytes 0 (32 * 1)) 1
     s.sys.mode.edits = true ∧ firstFault (chargedOps (s.applyOps ops) ops) ops 0 s = some (.arg, 0)) ∧
    (let s := withOp 4 63; let ops := topoOps (s.hostBytes 0 (32 * 1)) 1
     firstFault (chargedOps (s.applyOps ops) ops) ops 0 s = none) ∧
    (let s := withOp 4 64; let ops := topoOps (s.hostBytes 0 (32 * 1)) 1
     firstFault (chargedOps (s.applyOps ops) ops) ops 0 s = some (.range, 0)) ∧
    (let s := (topo0 {}).setFld Reg.TOPO_CTL F.TOPO_CTL_AGGEN 1
     s.flag Reg.TOPO_CTL F.TOPO_CTL_AGGEN = true ∧ s.latRuns = true ∧
     (s.advanceNs 1000000000).ns % (s.val Reg.TOPO_AGGINT % 65536 * 1000000) = 0 ∧
     (s.advanceNs 999999999).ns % (s.val Reg.TOPO_AGGINT % 65536 * 1000000) ≠ 0) ∧
    (let p : AggPass := { tref := 1000000000, facets := [], hulls := [] }
     (topo0 { agg := some p }).topo.agg = some p ∧ (topo0 {}).topo.agg = none ∧ (up .configure).latRuns = false) ∧
    (topo0 {}).admits 0x0401 ch := by
  refine ⟨rfl, by decide +kernel, by decide +kernel, by decide +kernel, by decide +kernel, by decide +kernel, by decide +kernel, by decide +kernel,
    by decide +kernel, by decide +kernel, by decide +kernel, by decide +kernel, by decide +kernel, by decide +kernel, by decide +kernel,
    ⟨rfl, by decide +kernel, rfl⟩⟩

/-! ### Detectors and oscillation analysis -/

/-- A DET table selection with the first two words of its entry. -/
def tsel (table index w0 w1 : Nat) : State :=
  ((serve.setVal Reg.DET_TSEL (table + index * 16)).setVal (Reg.DET_TVALj 0) w0).setVal (Reg.DET_TVALj 1) w1

/-- The same of MODAL. -/
def msel (table index w0 : Nat) : State := (serve.setVal Reg.MODAL_TSEL (table + index * 16)).setVal (Reg.MODAL_TVALj 0) w0

theorem witness_BanksAndTables :
    serve.powered ∧ serve.mayWrite .host Reg.DET_TCMD 1 ∧ serve.mayWrite (.core 0) Reg.MODAL_TCMD 2 ∧ (up .shadow).sys.mode = .shadow ∧
    (detTableSize 1 ≤ bitsOf ((tsel 1 64 0 0).val Reg.DET_TSEL) 4 16 ∧ bitsOf ((tsel 1 63 0 0).val Reg.DET_TSEL) 4 16 < detTableSize 1) ∧
    (let w := detEntry 2 ((tsel 2 4095 0x10001 1).tvals (Reg.DET_TVALj 0)); w.getD 0 0 % 65536 = w.getD 0 0 / 65536) ∧
    (let w := detEntry 2 ((tsel 2 4095 0x10002 0x00050005).tvals (Reg.DET_TVALj 0)); bitsOf (w.getD 1 0) 0 12 ≤ bitsOf (w.getD 1 0) 16 12) ∧
    (let w := detEntry 2 ((tsel 2 4095 0x10002 1801).tvals (Reg.DET_TVALj 0))
     w.getD 0 0 % 65536 ≠ w.getD 0 0 / 65536 ∧ bitsOf (w.getD 1 0) 16 12 < bitsOf (w.getD 1 0) 0 12 ∧ 1800 < bitsOf (w.getD 1 0) 0 12) ∧
    (let w := detEntry 2 ((tsel 2 4095 0x10002 1800).tvals (Reg.DET_TVALj 0))
     w.getD 0 0 % 65536 ≠ w.getD 0 0 / 65536 ∧ bitsOf (w.getD 1 0) 16 12 < bitsOf (w.getD 1 0) 0 12 ∧ bitsOf (w.getD 1 0) 0 12 ≤ 1800) ∧
    ((serve.setFld Reg.DET_STAT F.DET_STAT_TBUSY 1).flag Reg.DET_STAT F.DET_STAT_TBUSY = true ∧ serve.flag Reg.DET_STAT F.DET_STAT_TBUSY = false ∧
      serve.lat.abank = 0 ∧ ({ serve with lat := { abank := 1 } } : State).lat.abank ≠ 0) ∧
    ((msel 1 64 0).modRefused 1 64 (modEntry 1 ((msel 1 64 0).tvals (Reg.MODAL_TVALj 0))) = true ∧
      (msel 2 4095 9).modRefused 2 4095 (modEntry 2 ((msel 2 4095 9).tvals (Reg.MODAL_TVALj 0))) = false ∧
      (msel 0 1 0).modRefused 0 1 (modEntry 0 ((msel 0 1 0).tvals (Reg.MODAL_TVALj 0))) = false) ∧
    ((serve.setFld Reg.MODAL_STAT F.MODAL_STAT_TBUSY 1).flag Reg.MODAL_STAT F.MODAL_STAT_TBUSY = true ∧
      serve.flag Reg.MODAL_STAT F.MODAL_STAT_TBUSY = false) := by
  refine ⟨rfl, ⟨trivial, rfl⟩, ⟨rfl, rfl⟩, rfl, ?_⟩; decide +kernel

def run0 (prov : Bool) (c : Option (List HullRun)) : DetRun := { sc := 0, prov := prov, bank := 0, time := 0, snap := snapOf [] [], cohere := c }

def running (r : DetRun) : State := { serve with det := { runs := [r] } }

def update0 (cols : List ModCol) : ModRun :=
  { group := 63, band := 3, sc := 0, u := 1, bank := 0, inst := 0, relAt := 0, cols := cols, left := 0, base := [] }

def growth0 : ModGrow := { group := 63, band := 3, sc := 0, chan := 0, bank := 0, inst := 0, k := 1, e := 0, e0 := 0, gth := 0 }

theorem witness_RunsAndUpdatesEnd :
    serve.powered ∧ serve.det.runs.find? (fun r => r.sc == 0 && r.prov == true && r.cohere.isNone) = none ∧
    ((running (run0 true none)).det.runs.find? (fun r => r.sc == 0 && r.prov == true && r.cohere.isNone) = some (run0 true none) ∧
      (running (run0 false (some []))).det.runs.find? (fun r => r.sc == 0 && r.prov == false && r.cohere.isNone) = none) ∧
    ((running (run0 true (some []))).det.runs.find? (fun r => r.sc == 0) = some (run0 true (some [])) ∧
      (running (run0 true (some []))).runReady (run0 true (some [])) = true ∧ (running (run0 true none)).runReady (run0 true none) = false ∧
      (running (run0 false (some []))).runReady (run0 false (some [])) = true) ∧
    (let c : ModCol := { chan := 0, vals := [] }
     ({ serve with modal := { runs := [update0 [c]] } } : State).modal.runs.find? (fun r => r.group == 63 && r.band == 3) = some (update0 [c]) ∧
     (update0 []).cols = [] ∧ (update0 [c]).cols ≠ [] ∧ serve.modal.runs.find? (fun r => r.group == 63 && r.band == 3) = none) ∧
    (({ serve with modal := { grows := [growth0] } } : State).modal.grows.find? (fun r => r.group == 63 && r.band == 3) = some growth0 ∧
      serve.modal.grows.find? (fun r => r.group == 63 && r.band == 3) = none) := by
  refine ⟨rfl, ?_⟩; decide +kernel

/-! ### Alarm lines -/

def alm (a : Alm) : State := { serve with alm := a }

/-- Channel 63 enabled. -/
def chan63 (c : AlmChan) : State := (alm { chans := [(63, c)] }).setFld (Reg.ALM_ALCkCFG 63) F.ALM_ALCkCFG_EN 1

/-- Pin 15 enabled, and selecting channel 63 or none. -/
def pin15 (p : AlmPin) (sel : Nat) : State :=
  let s := ((chan63 { pinact := true }).setFld (Reg.ALM_OUTmCFG 15) F.ALM_OUTmCFG_EN 1).setVal (Reg.ALM_OUTmSELHI 15) sel
  { s with alm := { s.alm with pins := [(15, p)] } }

def heldC (hend : Nat) : AlmChan := { subs := [{ kind := 1, subject := 4 }], held := [⟨2, 9, hend⟩] }

theorem witness_PinsAndInputs :
    serve.powered ∧ 63 < 64 ∧ serve.flag Reg.ALM_CTL F.ALM_CTL_EN = true ∧
    (let s := chan63 (heldC 5); let u := s.advanceNs 5
     s.flag (Reg.ALM_ALCkCFG 63) F.ALM_ALCkCFG_EN = true ∧
     s.condition 63 (((u.published 63).filter (fun x => !x.noPin)).map (·.kind) ++
       (((s.chan 63).held.filter (fun h => u.ns < h.hend)).filter (fun h => s.takes 63 h.kind)).map (·.kind)) = true) ∧
    (let s := chan63 { held := [⟨2, 9, 5⟩] }; let u := s.advanceNs 5
     s.condition 63 (((u.published 63).filter (fun x => !x.noPin)).map (·.kind) ++
       (((s.chan 63).held.filter (fun h => u.ns < h.hend)).filter (fun h => s.takes 63 h.kind)).map (·.kind)) = false ∧
     (s.chan 63).latched = false ∧ s.flag (Reg.ALM_ALCkCFG 63) F.ALM_ALCkCFG_LATCH = false ∧ (s.chan 63).pinUntil = none) ∧
    ((pin15 {} (2 ^ 31)).outSel 15 &&& (pin15 {} (2 ^ 31)).pinactMask ≠ 0) ∧
    (let s := pin15 { active := true, since := some 0 } 0
     s.outSel 15 &&& s.pinactMask = 0 ∧ s.driverOn 15 = true ∧ (s.pin 15).active = true ∧ (s.pin 15).since = some 0 ∧
     s.fld (Reg.ALM_OUTmCFG 15) F.ALM_OUTmCFG_MINON = 50 ∧
     (s.advanceNs 49999999).ns < 0 + s.fld (Reg.ALM_OUTmCFG 15) F.ALM_OUTmCFG_MINON * 1000000 ∧
     ¬ (s.advanceNs 50000000).ns < 0 + s.fld (Reg.ALM_OUTmCFG 15) F.ALM_OUTmCFG_MINON * 1000000) ∧
    ((pin15 { active := true } 0).conductsPin 15 = true ∧ ((pin15 { active := true } 0).pin 15).ovld = false ∧ (pin15 {} 0).conductsPin 15 = false) ∧
    (let s := serve.setVal Reg.ALM_DINCFG (2 ^ 31)
     bitAt (s.val Reg.ALM_DINCFG) (16 + 15) = 1 ∧ (bitAt s.alm.din 15 == 1) ≠ true ∧ (bitAt s.alm.din 15 == 1) = false ∧
     bitAt (serve.val Reg.ALM_DINCFG) (16 + 15) = 0) := by
  refine ⟨rfl, ?_⟩; decide +kernel

def gpub (next : Option Nat) : Gpub :=
  { appid := 0, dst := 0, vlan := 0, pcp := 0, gocbRef := [], datSet := [], goID := [], confRev := 0, ports := 1, members := [], next := next, gap := 1000 }

def notice (tag : Nat) : State :=
  ((((host .serve).setFld Reg.ALM_CTL F.ALM_CTL_ANEN 1).setFld Reg.ALM_ANCFG F.ALM_ANCFG_REFRESH 1000).setFld Reg.ALM_ANCFG F.ALM_ANCFG_TAGEN tag).setFld
    Reg.ALM_ANCFG F.ALM_ANCFG_KEYSLOT 5

theorem witness_PublicationsAndAcknowledgement :
    serve.powered ∧
    (let s := (alm { pubs := [(7, some (gpub (some 10)))] }).setFld Reg.ALM_CTL F.ALM_CTL_GOOSEEN 1
     s.publishing = true ∧ s.pub 7 = some (gpub (some 10)) ∧ 10 ≤ (s.advanceNs 10).ns ∧ (s.advanceNs 9).ns < 10 ∧ s.pub 6 = none) ∧
    ((up .settle).publishing = false ∧ (up .settle).noticing = false) ∧
    ((notice 0).noticing = true ∧ (notice 0).fld Reg.ALM_ANCFG F.ALM_ANCFG_REFRESH ≠ 0 ∧
      (notice 0).alm.noticeAt + (notice 0).fld Reg.ALM_ANCFG F.ALM_ANCFG_REFRESH * 1000000 ≤ ((notice 0).advanceNs 1000000000).ns ∧
      ((notice 0).advanceNs 499999999).ns < (notice 0).alm.noticeAt + (notice 0).fld Reg.ALM_ANCFG F.ALM_ANCFG_REFRESH * 1000000) ∧
    ((notice 0).flag Reg.ALM_ANCFG F.ALM_ANCFG_TAGEN = false ∧ (notice 1).flag Reg.ALM_ANCFG F.ALM_ANCFG_TAGEN = true ∧
      ((notice 1).slot ((notice 1).fld Reg.ALM_ANCFG F.ALM_ANCFG_KEYSLOT)).signs = false ∧
      (let s := { notice 1 with key := { slots := [(5, { valid := true })] } }; (s.slot (s.fld Reg.ALM_ANCFG F.ALM_ANCFG_KEYSLOT)).signs = true)) ∧
    (2 ^ 64 % 2 ^ 64 = 0 ∧ 2 ^ 63 % 2 ^ 64 ≠ 0 ∧ serve.sys.mode.acks = true) ∧
    (let s := chan63 { active := true, latched := true }
     63 ∈ (List.range 64).filter (fun k => bitAt (2 ^ 63) k = 1 && (s.chan k).active) ∧ s.condition 63 ((s.published 63).map (·.kind)) = false) ∧
    (∃ d, findReg (alcAddr 63 .cfg) = some d ∧ d.inRange false (BitVec.ofNat 32 0x101) = true) ∧ (bitsOf 0x106 1 2 = 3 ∧ ¬ bitsOf 0x104 1 2 = 3) ∧
    (notice 0).admits 0x0501 ch ∧ serve.mayWrite .host (alcAddr 63 .cfg) 0x101 := by
  refine ⟨rfl, by decide +kernel, by decide +kernel, by decide +kernel, by decide +kernel, by decide +kernel, by decide +kernel,
    ⟨_, rfl, by decide +kernel⟩, by decide +kernel, ⟨rfl, by decide +kernel, rfl⟩, ⟨trivial, rfl⟩⟩

/-! ### Front end -/

/-- Modulators locked, channels of a mask enabled. -/
def afe (a : Afe) (en : Nat) : State := { (host .serve).setVal Reg.AFE_MCHEN en with afe := { a with modLock := true } }

def trimming (copying : Bool) (tag : Option Nat) : Afe := { trim := some { copying := copying, tag := tag } }

theorem witness_ModulatorsAndTrim :
    serve.powered ∧ serve.afe.modLock = false ∧ (afe {} 1).afe.modLock = true ∧
    ((afe {} 128).settling 7 = false ∧ bitAt (afe {} 128).afe.ovl 7 = 0 ∧ (afe {} 0).settling 7 = true ∧ bitAt (afe { ovl := 128 } 128).afe.ovl 7 = 1) ∧
    (host .serve).sys.mode ∈ hostModes 0x0B01 ∧ ((afe (trimming false none) 0).afe.trim ≠ none ∧ (afe {} 0).afe.trim = none) ∧ (bitAt 1 0 = 1 ∧ bitAt 2 0 = 0) ∧
    (∀ j, (afe (trimming false none) 0).afe.trim = some j → j.copying = false) ∧
    ((afe (trimming true (some 7)) 0).afe.trim = some { copying := true, tag := some 7 } ∧ (afe (trimming true none) 0).afe.trim = some { copying := true, tag := none }) ∧
    (∃ a ∈ trimAddrs, a ∈ [Reg.AFE_MTRIMcg 0 0]) ∧
    (afe {} 0).admits 0x0B01 ch ∧ (afe {} 0).heard 0x0B01 7 ∧ serve.mayWrite .host Reg.SYS_TRIMRELOAD 1 := by
  refine ⟨rfl, rfl, rfl, by decide +kernel, by decide +kernel, by decide +kernel, by decide +kernel, ?_, by decide +kernel, ⟨Reg.AFE_MTRIMcg 0 0, by decide +kernel, by decide +kernel⟩,
    ⟨rfl, by decide +kernel, rfl⟩, rfl, ⟨trivial, rfl⟩⟩
  intro j h; cases h; rfl

/-- The auxiliary converter on. -/
def aux (a : Afe) : State := (afe a 0).setFld Reg.AFE_AUXCFG F.AFE_AUXCFG_AUXEN 1

def conv (inj : Bool) (entry : Nat) : AuxConv := { inj := inj, entry := entry, chan := 3, range := 0, start := 0 }

theorem witness_AuxiliaryConverter :
    serve.powered ∧ serve.modGated = false ∧ ((aux {}).flag Reg.AFE_AUXCFG F.AFE_AUXCFG_AUXEN = true ∧
      ((aux {}).setFld Reg.AFE_AUXCFG F.AFE_AUXCFG_AUXEN 0).flag Reg.AFE_AUXCFG F.AFE_AUXCFG_AUXEN = false) ∧
    serve.mayWrite .host Reg.AFE_AUXCMD 1 ∧ serve.mayWrite .host Reg.AFE_AUXCMD 2 ∧ serve.mayWrite .host Reg.AFE_AUXCMD 4 ∧
    (∀ j, (aux (trimming false none)).afe.trim = some j → j.copying = false) ∧ ¬ (∀ j, (aux (trimming true none)).afe.trim = some j → j.copying = false) ∧
    ((aux { regNext := some 1 }).afe.regNext ≠ none ∧ (aux { injPend := true, regHeld := true }).afe.injPend = true ∧ (aux { injNext := some 0 }).afe.injNext ≠ none ∧
      (aux { injNext := some 0 }).afe.regHeld = false ∧ (aux {}).afe.regNext = none ∧ (aux {}).afe.injNext = none ∧ (aux {}).afe.injPend = false) ∧
    ((aux { conv := some (conv false 0) }).afe.conv ≠ none ∧ (aux {}).afe.conv = none ∧ (aux {}).afe.modLock = true ∧ (aux {}).afe.regNext.getD 0 = 0) ∧
    ((aux {}).setFld Reg.AFE_AUXCFG F.AFE_AUXCFG_URGENT 1).flag Reg.AFE_AUXCFG F.AFE_AUXCFG_URGENT = true ∧
    (let s := (aux { conv := some (conv true 0), injNext := some 1 }).setVal Reg.AFE_AUXCFG 0x20101
     s.afe.conv = some (conv true 0) ∧ 0 + 1 < bitsOf (s.val Reg.AFE_AUXCFG) 16 3 ∧ bitAt (s.val Reg.AFE_AUXDATA) 31 = 0) ∧
    (let s := (aux { conv := some (conv false 22), regNext := some 23 }).setVal Reg.AFE_AUXCFG 0x11801
     22 + 1 < bitsOf (s.val Reg.AFE_AUXCFG) 8 5 ∧ bitsOf (s.val Reg.AFE_AUXCFG) 8 5 ≤ 23 + 1 ∧ bitAt (s.val Reg.AFE_AUXCFG) 1 = 0 ∧ s.afe.regStop = false) ∧
    bitAt ((aux {}).setVal Reg.AFE_AUXDATA (2 ^ 31) |>.val Reg.AFE_AUXDATA) 31 = 1 ∧ (up .referee).modGated = true ∧
    serve.mayRead .host Reg.AFE_AUXDATA := by
  refine ⟨rfl, rfl, by decide +kernel, ⟨trivial, rfl⟩, ⟨trivial, rfl⟩, ⟨trivial, rfl⟩, ?_, ?_, by decide +kernel, by decide +kernel, by decide +kernel, by decide +kernel,
    by decide +kernel, by decide +kernel, rfl, ⟨trivial, rfl⟩⟩
  · intro j h; cases h; rfl
  · intro h; exact absurd (h _ rfl) (by decide)

/-! ### Filter chain -/

def chain (x : FltChan) : State := { (afe {} 1).setVal (Reg.FLT_CHcCFG 0) 0x2202 with flt := { chans := [(0, x)] } }

theorem witness_FilterChains :
    serve.powered ∧ (up .dormant).modGated = true ∧ serve.modGated = false ∧
    (let s := chain {}
     cicR (s.chCfg 0) = 128 ∧ firD (s.chCfg 0) = 4 ∧ (s.fltChan 0).cicCnt + 1 < cicR (s.chCfg 0) ∧ s.settling 0 = false) ∧
    (cicR ((chain { cicCnt := 127 }).chCfg 0) ≤ ((chain { cicCnt := 127 }).fltChan 0).cicCnt + 1 ∧
      ((chain { cicCnt := 127, firCnt := 2 }).fltChan 0).firCnt + 1 < firD ((chain {}).chCfg 0) ∧
      firD ((chain {}).chCfg 0) ≤ ((chain { cicCnt := 127, firCnt := 3 }).fltChan 0).firCnt + 1) ∧
    (bitAt 1 0 = 1 ∧ ({ serve with flt := { swapPend := true } } : State).flt.swapPend = true ∧ serve.flt.swapPend = false) ∧
    (serve.mayWrite .host Reg.FLT_BANKCMD 1 ∧ serve.mayWrite .host Reg.FLT_CVAL 1 ∧ serve.mayRead .host Reg.FLT_CVAL) ∧
    (∃ d, findReg (Reg.FLT_CHcPTRIM 7) = some d ∧ d.inRange false (BitVec.ofNat 32 2047) = true) ∧
    ((afe {} 1).ptrimOk 7 2048 = false ∧ (afe {} 1).ptrimOk 7 2047 = true) ∧ serve.mayWrite .host (Reg.FLT_CHcPTRIM 7) 2047 ∧
    ((serve.setFld Reg.FLT_SYNCCFG F.FLT_SYNCCFG_PINEN 1).flag Reg.FLT_SYNCCFG F.FLT_SYNCCFG_PINEN = true ∧
      serve.flag Reg.FLT_SYNCCFG F.FLT_SYNCCFG_PINEN = false ∧ (afe {} 1).flt.lastSync ≠ some (stampOf 5 0) ∧
      ({ serve with flt := { lastSync := some (stampOf 5 0) } } : State).flt.lastSync = some (stampOf 5 0) ∧ (afe {} 1).chEnabled 0 = true ∧ (afe {} 1).chEnabled 1 = false) ∧
    serve.mayWrite (.core 5) Reg.SYS_CMD 1 ∧
    (let s := { serve with flt := { phRun := true } }
     s.flt.phRun = true ∧ s.sys.mode.lattice = true ∧ (s.advanceNs 5).localSlot 0 = none ∧
     ((s.setFld Reg.FLT_PHCFG F.FLT_PHCFG_PHCHAN 0).advanceNs 5).localSlot 0 ≠ none) := by
  refine ⟨rfl, rfl, by decide +kernel, by decide +kernel, by decide +kernel, by decide +kernel, ⟨⟨trivial, rfl⟩, ⟨trivial, rfl⟩, trivial, rfl⟩, ⟨_, rfl, by decide +kernel⟩,
    by decide +kernel, ⟨trivial, rfl⟩, by decide +kernel, ⟨rfl, rfl⟩, by decide +kernel⟩

/-! ### Metering -/

/-- Samples of 50 Hz cycles `k` and `k + 1` and the first of the one after, latest first. -/
def cycleOf (k : Nat) (settle : Bool) : List Tap1 :=
  (((List.range 129).map (fun i => (⟨0, 64 * k + i, 0, 1, settle, false⟩ : Tap1))).reverse)

/-- Metering of one element from channels 0 and 4, at 64 samples a cycle. -/
def meter (m : Mode) (x : Mtr) (settle : Bool) : State :=
  { ((((host m).setFld Reg.MTR_CFG F.MTR_CFG_WIRING 2).setVal (Reg.FLT_CHcCFG 0) 0x2202).setVal (Reg.FLT_CHcCFG 4) 0x2202) with
    mtr := { x with suited := true },
    flt := { chans := [(0, { samples := cycleOf 2 settle }), (4, { samples := cycleOf 2 settle })] } }

theorem witness_MeteringCycles :
    (meter .serve {} false).powered ∧ serve.mtrRun = false ∧
    ((meter .serve {} false).mtrRun = true ∧ (meter .serve {} false).mtrRegs = true ∧ (meter .test {} false).mtrRun = true ∧
      (meter .test {} false).mtrRegs = false) ∧
    ((∀ c ∈ (meter .serve {} false).mtrChans, (meter .serve {} false).cycleDone c 2 = true) ∧
      ¬ (∀ c ∈ (meter .serve {} false).mtrChans, (meter .serve {} false).cycleDone c 3 = true)) ∧
    ((meter .serve {} false).mtrElems.filter (fun e => !(meter .serve {} false).elemClean e 2) = [] ∧
      (meter .serve {} true).mtrElems.filter (fun e => !(meter .serve {} true).elemClean e 2) ≠ []) ∧
    (∀ j, (meter .serve { lastK := some 1 } false).mtr.lastK = some j → j < 2 ∨ (meter .serve { lastK := some 1 } false).mtr.stepped = true) ∧
    ¬ (∀ j, (meter .serve { lastK := some 2 } false).mtr.lastK = some j → j < 2 ∨ (meter .serve { lastK := some 2 } false).mtr.stepped = true) ∧
    (meter .serve { cycEnd := some 5 } false).mtr.cycEnd ≠ none := by
  refine ⟨rfl, by decide +kernel, by decide +kernel, by decide +kernel, by decide +kernel, ?_, ?_, by decide⟩
  · intro j h; cases h; exact Or.inl (by decide)
  · intro h; exact absurd (h 2 rfl) (by decide +kernel)

def pulsing (on : Nat) (p : PulseOut) : State :=
  (meter .serve { pulses := [(3, p)] } false).setFld (Reg.MTR_PLSnCFG 3) F.MTR_PLSnCFG_EN on

theorem witness_MeteringPulsesAndSaves :
    ((pulsing 0 { backlog := 65535 }).pulseDriven 3 = false ∧ (pulsing 1 { backlog := 65535 }).pulseDriven 3 = true ∧
      (pulsing 1 { backlog := 65535 }).pulse 3 = { backlog := 65535 } ∧ serve.pulse 3 = {}) ∧
    (let s := pulsing 1 { backlog := 1, last := some 0 }; let w := s.fld (Reg.MTR_PLSnCFG 3) F.MTR_PLSnCFG_WIDTH * 1000000
     w ≠ 0 ∧ 0 + 2 * w ≤ (s.advanceNs (2 * w)).ns ∧ ¬ 0 + 2 * w ≤ (s.advanceNs (2 * w - 1)).ns) ∧
    (let s := pulsing 1 { on := some 0 }; let w := s.fld (Reg.MTR_PLSnCFG 3) F.MTR_PLSnCFG_WIDTH * 1000000
     (s.pulse 3).on = some 0 ∧ 0 + w ≤ (s.advanceNs w).ns ∧ (s.advanceNs (w - 1)).ns < 0 + w) ∧
    (let u := (meter .serve {} false).advanceNs 10000000000
     (meter .serve {} false).flag Reg.MTR_CTL F.MTR_CTL_SAVEEN = true ∧
     u.ns % ((meter .serve {} false).val Reg.MTR_SAVEINT % 4096 * 1000000000) = 0 ∧
     (serve.advanceNs 1).ns % (serve.val Reg.MTR_SAVEINT % 4096 * 1000000000) ≠ 0 ∧
     u.ns * (meter .serve {} false).fltNom / 1000000000 - 1 = 499) ∧
    ((meter .serve { save := some (.wait 499) } false).mtr.save ≠ none ∧ (meter .serve {} false).mtr.save = none ∧
      (meter .serve {} false).mtrRun = true ∧ ¬ (∀ j, (meter .serve { lastK := some 498 } false).mtr.lastK = some j → 499 ≤ j) ∧
      (∀ j, (meter .serve { lastK := some 499 } false).mtr.lastK = some j → 499 ≤ j)) ∧
    ((meter .serve { save := some (.write [1] 9 1 0 true) } false).mtr.save = some (.write [1] 9 1 0 true) ∧
      (meter .serve { save := some (.write [1] 9 1 0 false) } false).mtr.save = some (.write [1] 9 1 0 false)) ∧
    (({ serve with ldg := { cstate := .active, lcPwr := true } } : State).ldg.cstate = .active ∧ serve.ldg.cstate ≠ .active ∧ serve.ldg.lcPwr = false) ∧
    (∀ im seq slot start cart, serve.mtr.save ≠ some (.write im seq slot start cart)) ∧
    serve.mayRead (.core 0) Reg.MTR_CYCLO ∧ serve.mayWrite .host Reg.MTR_CLRCMD 0x4D540001 ∧
    ((bitAt 0x4D540001 0 = 1 ∧ 0x4D540001 / 65536 % 65536 = 0x4D54) ∧ ¬ (bitAt 0x4D540000 0 = 1 ∧ 0x4D540000 / 65536 % 65536 = 0x4D54) ∧
      serve.sys.mode ≠ .configure ∧ (up .configure).mayWrite .host Reg.MTR_CLRCMD 0x4D540001) := by
  refine ⟨by decide +kernel, by decide +kernel, by decide +kernel, by decide +kernel, ⟨by decide, rfl, by decide +kernel, ?_, ?_⟩, by decide +kernel,
    by decide +kernel, ?_, ⟨rfl, rfl⟩, ⟨trivial, rfl⟩, ⟨by decide, by decide, by decide, ⟨trivial, rfl⟩⟩⟩
  · intro h; exact absurd (h 498 rfl) (by decide)
  · intro j h; cases h; decide
  · intro im seq slot start cart h; cases h

/-! ### Capture -/

/-- Buffer 0 of tap-1 samples of channel 0: 16 frames, 1 after the trigger, 1 MiB of the region. -/
def buffer (m : Mode) (x : CapBuf) : State :=
  { ((((((host m).setVal Reg.AFE_MCHEN 1).setVal (Reg.CAP_BnCHAN 0) 1).setVal (Reg.CAP_BnDEPTH 0) 16).setVal (Reg.CAP_BnPOST 0) 1).setVal
      (Reg.CAP_BnREGION 0) 0x10000) with cap := { bufs := [(0, x)] } }

theorem witness_CapturesArmedReadAndReleased :
    serve.powered ∧ (buffer .serve {}).admits 0x0601 ch ∧ (host .serve).sys.mode ∈ hostModes 0x0601 ∧ (host .serve).sys.mode ∈ hostModes 0x0602 ∧
    (65536 ≤ 2 ^ 16 ∧ (List.range 16).filter (fun b => bitAt 0 b == 1) = [] ∧ serve.capArmOk 0 1 = false ∧
      (List.range 16).filter (fun b => bitAt 1 b == 1) = [0] ∧ (buffer .serve {}).capArmOk 0 1 = true) ∧
    (((buffer .serve { state := .stopped }).buf 0).state ≠ .idle ∧ (buffer .serve { state := .stopped }).capArmOk 0 1 = true ∧
      ((buffer .serve {}).buf 0).state = .idle) ∧
    ((buffer .serve {}).flag Reg.CAP_CTL F.CAP_CTL_EN = true ∧
      (let s := (buffer .serve {}).setFld Reg.CAP_CTL F.CAP_CTL_EN 0; s.flag Reg.CAP_CTL F.CAP_CTL_EN = false ∧ s.capArmOk 0 1 = true)) ∧
    (buffer .serve {}).admits 0x0602 ch ∧ (4 % 8 ≠ 0 ∧ 15 < 16 ∧ (serve.buf 15).state.held = false) ∧
    (((buffer .serve { state := .stopped, total := 1 }).buf 0).state.held = true ∧ 384 < (buffer .serve { state := .stopped, total := 1 }).capRecLen 0 ∧
      (buffer .serve { state := .stopped }).capRecLen 0 ≤ 384) ∧
    (({ ch with keep := true } : CmdHdr).keep = true ∧ ((buffer .serve { state := .archiving }).buf 0).state = .archiving) ∧
    ((buffer .serve { state := .stopped }).flag (Reg.CAP_BnCFG 0) F.CAP_BnCFG_AUTOARM = false ∧ (buffer .quiesce {}).acquires = false ∧
      (let s := (buffer .serve { state := .stopped }).setFld (Reg.CAP_BnCFG 0) F.CAP_BnCFG_AUTOARM 1
       s.flag (Reg.CAP_BnCFG 0) F.CAP_BnCFG_AUTOARM = true ∧ s.acquires = true ∧ s.flag Reg.CAP_CTL F.CAP_CTL_EN = true ∧ (s.buf 0).state = .stopped)) ∧
    (serve.mayWrite .host Reg.CAP_STOP 0x8000 ∧ serve.mayWrite .i2c Reg.CAP_RELEASE 1) ∧
    (bitAt 0x8000 15 = 1 ∧ ((buffer .serve { state := .post }).buf 0).state.running = true ∧ (serve.buf 0).state.running = false) := by
  refine ⟨rfl, ⟨rfl, by decide +kernel, rfl⟩, by decide +kernel, by decide +kernel, by decide +kernel, by decide +kernel, by decide +kernel,
    ⟨rfl, by decide +kernel, rfl⟩, by decide +kernel, by decide +kernel, by decide +kernel, by decide +kernel, ⟨⟨trivial, rfl⟩, ⟨trivial, rfl⟩⟩, by decide +kernel⟩

/-- Two triggers on their way. -/
def triggered (x : CapBuf) : State :=
  let s := (buffer .serve x).setVal (Reg.CAP_BnTRIG 0) 0x200
  { s with cap := { s.cap with trigs := [⟨10, 0, 77, 1, 1⟩, ⟨8, 0, 78, 1, 2⟩] } }

/-- For the second half of CapturesArmedReadAndReleased. -/
theorem witness_MasksAndArchive :
    serve.powered ∧ serve.mayWrite .host Reg.CAP_HOSTTRIG 1 ∧
    ((List.range 16).map (fun b => if bitAt 0xFFFF b = 1 ∧ bitAt (serve.val (Reg.CAP_BnTRIG b)) 9 = 1 then 2 ^ b else 0)).sum = 0 ∧
    ((List.range 16).map (fun b => if bitAt 0xFFFF b = 1 ∧ bitAt ((triggered {}).val (Reg.CAP_BnTRIG b)) 9 = 1 then 2 ^ b else 0)).sum ≠ 0 ∧
    (∀ g ∈ (triggered {}).cap.trigs, bitAt g.bufs 1 = 1 → (triggered {}).capSelected 1 g = false) ∧
    (serve.mayWrite .host Reg.CAP_MVAL 5 ∧ serve.mayRead .host Reg.CAP_MVAL ∧
      ((triggered { state := .armed }).buf ((triggered {}).val Reg.CAP_MSEL % 16)).state ≠ .idle ∧ (serve.buf (serve.val Reg.CAP_MSEL % 16)).state = .idle) ∧
    ((serve.buf 0).state ≠ .archiving ∧ ((buffer .serve { state := .archiving }).buf 0).state = .archiving ∧
      ((buffer .serve { state := .archiving, relAtEnd := true }).buf 0).relAtEnd = true ∧
      (buffer .serve { state := .archiving }).ldg.cstate ≠ .active ∧
      (let s : State := { buffer .serve { state := .archiving } with ldg := { cstate := .active, lcPwr := true } }
       s.ldg.lcPwr = true ∧ s.ldg.cstate = .active ∧ s.flag (Reg.CAP_BnCFG 0) F.CAP_BnCFG_ARCHREL = false ∧
       s.flag (Reg.CAP_BnCFG 0) F.CAP_BnCFG_AUTOARM = false ∧ (s.setFld (Reg.CAP_BnCFG 0) F.CAP_BnCFG_ARCHREL 1).flag (Reg.CAP_BnCFG 0) F.CAP_BnCFG_ARCHREL = true)) := by
  refine ⟨rfl, ⟨trivial, rfl⟩, by decide +kernel, by decide +kernel, by decide +kernel, ⟨⟨trivial, rfl⟩, ⟨trivial, rfl⟩, ?_⟩, by decide +kernel⟩
  decide +kernel

theorem witness_TriggersTakenAndMissed :
    (triggered {}).powered ∧ (triggered { state := .armed }).powered ∧
    (let mine := fun s : State => s.cap.trigs.filter (fun g => bitAt g.bufs 0 == 1 && s.capSelected 0 g)
     ((triggered {}).buf 0).state = .idle ∧ mine (triggered {}) = [⟨10, 0, 77, 1, 1⟩] ∧
     ((triggered { state := .armed }).buf 0).state = .armed ∧ ((triggered { state := .armed }).buf 0).total = 0 ∧
     mine (triggered { state := .armed }) = [⟨10, 0, 77, 1, 1⟩] ∧
     ((triggered { state := .stopped }).buf 0).state.held = true ∧ mine (triggered { state := .stopped }) ≠ [] ∧
     ((triggered { state := .archiving }).buf 0).state.held = true) := by
  refine ⟨rfl, rfl, ?_⟩; decide +kernel

/-! ### The lattice -/

/-- A record of an image, at a position. -/
def irec (type index start : Nat) (body : List Byte) : ImgRec := { type := type, rver := 1, index := index, crc := crc32c body, start := start, body := body }

def ImgRec.image (r : ImgRec) : List Byte :=
  leBytes 4 (r.type + 256) ++ leBytes 4 (16 + r.body.length) ++ leBytes 4 r.index ++ leBytes 4 r.crc ++ r.body

/-- The record of tile `k` with kernel `k`. -/
def itile (k : Nat) : ImgRec := irec 3 (k - 1) (184 + 32 * k) (leBytes 4 (k + k * 256) ++ leBytes 12 0)

/-- The least capacities, one tile of each kernel that R310 asks for, no routes; the signature is (x of the base point, 1). -/
def imageRecs : List ImgRec :=
  [irec 1 0 64 (leBytes 4 8192 ++ leBytes 4 (1 + 2 ^ 23) ++ leBytes 4 0 ++ leBytes 4 256 ++ leBytes 4 1 ++ List.replicate 148 0),
   itile 2, itile 3, itile 4, itile 5, itile 6, itile 7, irec 15 7 440 (leBytes 8 0 ++ beBytes 48 p384G.1 ++ beBytes 48 1)]

/-- Format 4. -/
def image : List Byte :=
  [0x41, 0x47, 0x4C, 0x49] ++ leBytes 8 4 ++ leBytes 4 7 ++ List.replicate 16 0 ++ leBytes 4 560 ++ leBytes 4 8 ++ leBytes 24 0 ++
    (imageRecs.map ImgRec.image).flatten

/-- A load that waits for its end. -/
def loading (im : Option (List Byte)) (mm : Option Nat) : State :=
  { host .configure with lat := { job := some { tag := 7, image := im, mismatch := mm } } }

/-- Twice the base point of P-384 (a published multiple of it). -/
theorem test_p384_double : ((ecAdd (some p384G) (some p384G)).map (·.1)) =
    some 0x08D999057BA3D2D969260045C55B97F089025959A6F434D651D207D19FB96E9E4FE0E86EBE0E64F85B96A9C75295DF61 := by decide +kernel

theorem image_step2 : loadStep2 image = .inr imageRecs := by decide +kernel

theorem image_step4 : (loading (some image) none).loadStep4 image imageRecs = none := by decide +kernel

theorem checks_pass (s : State) (img : List Byte) (rs : List ImgRec) (h2 : loadStep2 img = .inr rs) (h3 : s.loadStep3 img rs = none)
    (h4 : s.loadStep4 img rs = none) : s.loadChecks (some img) = .inr (img, rs) := by
  simp only [State.loadChecks, h2, h3, h4]; rfl

theorem step3_passes (s : State) (img : List Byte) (rs : List ImgRec) (g : ImgRec) (idx start r t : Nat) (last : rs.getLast? = some g)
    (hi : leAt g.body 0 1 % 4 = idx) (hs : g.start = start) (hr : beAt g.body 8 48 = r) (ht : beAt g.body 0x38 48 = t)
    (key : ecdsaVerify (Config.fusePubKey idx) (sha384 (img.take start)) r t = true) (rev : Config.fuseRevoked idx = false)
    (compat : (List.range 4).any (fun k => leAt img (0x10 + 4 * k) 4 != s.val (Reg.LAT_COMPATk k)) = false) (hw : leAt img 0x0C 2 = 7)
    (klib : Config.klibSupported (imgKlib img) = true) (ok : (imgTiles rs).find? (fun t => t.kver != imgKlib img) = none) :
    s.loadStep3 img rs = none := by
  simp only [State.loadStep3, last, hi, hs, hr, ht, key, rev, compat, hw, klib, ok]; rfl

/-- The image passes every check, where the key that the fuses hold verifies its signature, the firmware has its kernel library and the
compatibility hash is the image's. -/
theorem witness_image_in_force
    (key : ecdsaVerify (Config.fusePubKey 0) (sha384 (image.take 440)) p384G.1 1 = true)
    (rev : Config.fuseRevoked 0 = false) (klib : Config.klibSupported 0 = true)
    (compat : (List.range 4).any (fun k => leAt image (0x10 + 4 * k) 4 != (loading (some image) none).val (Reg.LAT_COMPATk k)) = false) :
    (loading (some image) none).loadChecks (some image) = .inr (image, imageRecs) := by
  exact checks_pass _ _ _ image_step2
    (step3_passes _ _ _ (irec 15 7 440 (leBytes 8 0 ++ beBytes 48 p384G.1 ++ beBytes 48 1)) 0 440 p384G.1 1 rfl (by decide +kernel) rfl
      (by decide +kernel) (by decide +kernel) key rev compat (by decide +kernel) (by rw [show imgKlib image = 0 by decide +kernel]; exact klib) (by decide +kernel)) image_step4

def hold0 : CtlHold := { chan := 0, time := 0, frac := 0, late := false, count := 0 }

/-- A queue holding `n` items, and its holding register. -/
def queued (n : Nat) : State := { serve with lat := { holds := [(1023, some hold0)], queues := [(1023, List.replicate n 5)] } }

def tiled (m : Mode) (fault : Bool) : State := { up m with lat := { tiles := [(255, some { kernel := 2, inst := 0, sram := 0, fault := fault })] } }

/-- A swap pending since 0 ns, class 0 or classes 0 and 1 enabled. -/
def swapping (two : Bool) (done : Nat) : State :=
  let s := serve.setFld (Reg.SNAP_SCnCFG 0) F.SNAP_SCnCFG_EN 1
  { (if two then s.setFld (Reg.SNAP_SCnCFG 1) F.SNAP_SCnCFG_EN 1 else s) with lat := { swapPend := true, swapDone := done } }

theorem witness_LatticeImagesAndBanks :
    serve.powered ∧ (host .configure).admits 0x0201 ch ∧ (host .configure).sys.mode = .configure ∧ (4 % 8 ≠ 0 ∧ (host .configure).lat.job = none) ∧
    ((loading (some image) none).lat.job ≠ none ∧ (loading (some image) none).admits 0x0201 ch) ∧
    ((loading none none).lat.job = some { tag := 7, image := none, mismatch := none } ∧ (loading none none).loadChecks none = .inl (0x12, 0) ∧
      (loading none none).heard 0x0201 7) ∧
    ((loading (some image) (some 3)).lat.job = some { tag := 7, image := some image, mismatch := some 3 }) ∧
    (serve.mayWrite .host Reg.LAT_QCMD 1 ∧ serve.mayWrite .host Reg.LAT_SWAPCMD 1) ∧
    (serve.ctlHold 0 = none ∧ (queued 63).ctlHold 1023 = some hold0 ∧ ((queued 63).queue 1023).length < 64 ∧ 64 ≤ ((queued 64).queue 1023).length) ∧
    (serve.tile 0 = none ∧ (∃ x, (tiled .serve true).tile 255 = some x ∧ x.fault = true) ∧ (∃ x, (tiled .serve false).tile 255 = some x ∧ x.fault = false) ∧
      (tiled .serve false).sys.mode ∉ [.boot, .dormant, .lockout] ∧ (tiled .lockout false).sys.mode ∈ [.boot, .dormant, .lockout]) ∧
    ((up .shadow).sys.mode = .shadow ∧ (swapping false 0).lat.swapPend = true ∧ serve.sys.mode ≠ .shadow ∧ serve.lat.swapPend = false ∧
      (∀ c, c < 8 → serve.scEn c = false) ∧ (∃ c, c < 8 ∧ (swapping false 0).scEn c = true)) ∧
    (((swapping true 0).advanceNs 1999999999).ns < (swapping true 0).lat.swapAt + 2000000000 ∧
      (swapping true 0).lat.swapAt + 2000000000 ≤ ((swapping true 0).advanceNs 2000000000).ns ∧
      (swapping false 0).scSwapped 0 = false ∧ (∀ m, m < 8 → m ≠ 0 → (swapping false 0).scSwapped m = true) ∧
      (∃ m, m < 8 ∧ m ≠ 0 ∧ (swapping true 0).scSwapped m = false) ∧ (swapping true 1).scSwapped 0 = true) := by
  refine ⟨rfl, ⟨rfl, by decide +kernel, rfl⟩, rfl, by decide +kernel, ⟨by decide +kernel, ⟨rfl, by decide +kernel, rfl⟩⟩, ⟨rfl, rfl, rfl⟩, rfl,
    ⟨⟨trivial, rfl⟩, ⟨trivial, rfl⟩⟩, by decide +kernel, ⟨rfl, ⟨_, rfl, rfl⟩, ⟨_, rfl, rfl⟩, by decide, by decide⟩, ⟨rfl, rfl, by decide, rfl, by decide +kernel, ⟨0, by decide +kernel⟩⟩,
    ⟨by decide +kernel, by decide +kernel, by decide +kernel, by decide +kernel, ⟨1, by decide +kernel⟩, by decide +kernel⟩⟩

/-! ### Events, cores and the dispatcher -/

/-- One event target in a state of its own, with source 0x240 enabled for target 5 at priority 2. -/
def evt (n : Nat) (x : EvcTarget) : State := { serve with evc := { srccfg := [(0x240, 0x845)], targets := [(n, x)] } }

def ev240 : EvcRec := { src := 0x240, prio := 2 }

theorem witness_EdgesPendAndRecordsPost :
    serve.powered ∧ isLevelSrc 0x240 = false ∧ serve.sys.mode ≠ .dormant ∧ (up .dormant).sys.mode = .dormant ∧
    (bitAt (serve.srcCfg 0x240) 11 = 0 ∧ bitAt ((evt 5 {}).srcCfg 0x240) 11 = 1 ∧ (evt 5 { pend := [ev240] }).pendingAt 0x240 = some 5 ∧
      (evt 5 {}).pendingAt 0x240 = none) ∧
    (let s := (evt 5 { pend := [ev240] }).setFld (Reg.EVC_TGTnCTL 5) F.EVC_TGTnCTL_EN 1 |>.setVal (Reg.EVC_TGTnBASELO 5) 0x1000000
     s.flag Reg.EVC_CTL F.EVC_CTL_EN = true ∧ s.asleep 5 = false ∧ (s.target 5).ring.length < s.ringSize 5 ∧
     bestPend (s.target 5).pend = some ev240 ∧ s.ringFails 5 (s.ringBase 5 + 16 * (s.target 5).head) false = false ∧
     (s.setVal (Reg.EVC_TGTnBASELO 5) 0).ringFails 5 ((s.setVal (Reg.EVC_TGTnBASELO 5) 0).ringBase 5 + 16 * (s.target 5).head) false = true) ∧
    (let s : State := { (evt 23 { pend := [ev240] }).setFld (Reg.EVC_TGTnCTL 23) F.EVC_TGTnCTL_EN 1 with hif := { linkUp := true } }
     s.asleep 23 = false ∧ (s.target 23).ring.length < s.ringSize 23 ∧ bestPend (s.target 23).pend = some ev240 ∧
     s.ringFails 23 (s.ringBase 23 + 16 * (s.target 23).head) false = false ∧ s.ringFails 23 (s.ringBase 23 + 16 * (s.target 23).head) true = true) := by
  refine ⟨rfl, ?_⟩; decide +kernel

def ring0 : RingRec := { slot := 4095, src := 0x240, prio := 2, level := false }

theorem witness_PriorityAndClaim :
    bestPend [{ ev240 with prio := 3 }, ev240] = some ev240 ∧ serve.powered ∧ serve.mayRead .host (Reg.EVC_TGTnCLAIM 23) ∧
    ((evt 23 { frozen := true }).target 23).frozen = true ∧ 16 ≤ ((evt 23 { stack := List.replicate 16 (0, 0) }).target 23).stack.length ∧
    bestClaim (serve.target 23) = none ∧
    (((evt 23 { ring := [ring0] }).target 23).frozen = false ∧ ((evt 23 { ring := [ring0] }).target 23).stack.length < 16 ∧
      bestClaim ((evt 23 { ring := [ring0] }).target 23) = some ring0) := by
  refine ⟨by decide, rfl, ⟨trivial, rfl⟩, ?_⟩; decide +kernel

theorem witness_CompletionPopsStack :
    serve.powered ∧ serve.mayWrite .host (Reg.EVC_TGTnDONE 23) 4095 ∧ serve.mayWrite .host (Reg.EVC_TGTnRESET 23) 1 ∧
    ((evt 23 { frozen := true }).target 23).frozen = true ∧
    (((evt 23 { stack := [(4095, 2)] }).target 23).frozen = false ∧ ((evt 23 { stack := [(4095, 2)] }).target 23).stack = (4095 % 4096, 2) :: []) ∧
    (Nat.testBit (2 ^ 31) 31 = true ∧ Nat.testBit 4095 31 = false) ∧
    (((evt 23 { stack := [(4095, 2)] }).target 23).stack.head?.map (·.1)) ≠ some (1 % 4096) ∧ ((serve.target 23).stack.head?.map (·.1)) ≠ some (4096 % 4096) ∧
    (∃ r ∈ ((evt 23 { ring := [{ ring0 with claimed := true }] }).target 23).ring, r.claimed = true) := by
  refine ⟨rfl, ⟨trivial, rfl⟩, ⟨trivial, rfl⟩, by decide, by decide, by decide, by decide, by decide, ⟨_, List.mem_singleton.2 rfl, rfl⟩⟩

theorem witness_LevelsAndReroute :
    serve.powered ∧ serve.mayWrite .host Reg.EVC_SWSET 255 ∧ serve.mayWrite .host Reg.EVC_SWCLR 255 ∧
    (let s : State := { serve with evc := { srccfg := [(0x8FF, 0x845)] } }
     bitAt (s.srcCfg (0x800 + 255 % 256)) 11 = 1 ∧ s.pendingAt (0x800 + 255 % 256) = none ∧ s.postedRec (0x800 + 255 % 256) = false) ∧
    (let s := evt 5 { pend := [ev240, { ev240 with src := 0x241, rerouted := true }], asleepFrom := some 0 }
     (s.advanceNs (serve.val Reg.EVC_REROUTE_T % 65536 * 1000)).rerouteDue 5 = true ∧ (s.advanceNs 0).rerouteDue 5 = false) ∧
    ((evt 5 {}).advanceNs 9).rerouteDue 5 = false := by
  refine ⟨rfl, ⟨trivial, rfl⟩, ⟨trivial, rfl⟩, ?_⟩; decide +kernel

/-- Core 7 in a state of its own, with target 7 holding records. -/
def coreOf (c : Core) (x : EvcTarget) : State := { evt 7 x with cores := [(7, c)] }

theorem witness_CoresTakeExceptionsAndWait :
    serve.powered ∧ serve.mayAccess 7 0x1000000000 0 true = false ∧ serve.mayAccess 6 0 0 false = false ∧ serve.region (2 ^ 40 - 4) = .unmapped ∧
    (((coreOf {} { ring := [ring0] }).target 7).irqNow = true ∧ (serve.target 7).irqNow = false) ∧
    (bitAt (0x40 % 2 ^ 32) 6 = 1 ∧ bitAt (0 % 2 ^ 32) 6 = 0 ∧ bitAt (0 % 2 ^ 32) 7 = 0 ∧ bitAt (0x80 % 2 ^ 32) 7 = 1) ∧
    (((coreOf { preempt := true } {}).core 7).preempt = true ∧ (serve.core 7).preempt = false) ∧
    (2 % 4 ≠ 3 ∧ 31 % 4 = 3 ∧ serve.wakeLine 7 (0x1A % 32) = false ∧ (coreOf { preempt := true } {}).wakeLine 7 (0x1A % 32) = true) ∧
    (serve.sys.mode ≠ .dormant ∧ serve.sys.windowFrom = none ∧ ((coreOf { waiting := some 0x1A, preempt := true } {}).core 7).waiting = some 0x1A ∧
      (coreOf { waiting := some 0x1A, preempt := true } {}).wakeLine 7 0x1A = true ∧ (coreOf { waiting := some 0x19 } {}).wakeLine 7 0x19 = false ∧
      0x1A % 4 = 2 ∧ 0x19 % 4 ≠ 2) := by
  refine ⟨rfl, ?_⟩; decide +kernel

/-- Task 4095 in a state of its own, queued at its level if READY, delayed to tick 5 if DELAYED. -/
def tasked (x : Task) (runs : Tab (Option Nat)) : State :=
  { serve with tsk := { tasks := [(4095, x)], levels := if x.state = .ready then [(x.prio, [4095])] else [], runs := runs,
                        delays := if x.state = .delayed then [(4095, 5)] else [] } }

theorem witness_TasksQueuedAndCancelled :
    serve.powered ∧ serve.mayWrite (.core 7) Reg.TSK_READY 4095 ∧ taskAllowed (.core 7) (4095 % 4096) = true ∧ taskAllowed (.core 7) (3583 % 4096) = false ∧
    taskAllowed .host (0 % 4096) = true ∧ serve.mayWrite (.core 7) Reg.TSK_DELAY 4095 ∧ serve.mayWrite (.core 7) Reg.TSK_CANCEL 4095 ∧
    (serve.task (4095 % 4096)).state = .idle ∧ ((tasked { state := .running } []).task (4095 % 4096)).state = .running ∧
    ((tasked { state := .ready } []).task 4095).state = .ready ∧ ((tasked { state := .delayed } []).task 4095).state = .delayed ∧
    (0xFFFFFFFF / 4096 % 2 ^ 20 ≠ 0 ∧ 4095 / 4096 % 2 ^ 20 = 0) := by
  refine ⟨rfl, ⟨rfl, rfl⟩, rfl, rfl, rfl, ⟨rfl, rfl⟩, ⟨rfl, rfl⟩, rfl, rfl, rfl, rfl, by decide⟩

theorem witness_TasksServed :
    serve.powered ∧ serve.mayRead (.core 7) Reg.TSK_NEXT ∧ serve.flag Reg.TSK_CTL F.TSK_CTL_EN = true ∧
    (let s := tasked { state := .ready, cores := 128 } []
     (s.readyOrder.filter (fun n => bitAt (s.task n).cores 7 = 1)).find? (fun n => !s.flowBusy (s.task n)) = some 4095 ∧
     (s.readyOrder.filter (fun n => bitAt (s.task n).cores 6 = 1)).find? (fun n => !s.flowBusy (s.task n)) = none) ∧
    taskAllowed (.core 7) (4095 % 4096) = true ∧ serve.mayWrite (.core 7) Reg.TSK_DONE 4095 ∧ serve.mayWrite (.core 7) Reg.TSK_YIELD 4095 ∧
    ((tasked { state := .running } [(7, some 4095)]).runOf 7 = some (4095 % 4096) ∧ ((tasked { state := .running } [(7, some 4095)]).task 4095).rerun = false ∧
      ((tasked { state := .running, rerun := true } [(7, some 4095)]).task 4095).rerun = true ∧ serve.runOf 7 ≠ some (4095 % 4096)) ∧
    ((4095, 5) ∈ (tasked { state := .delayed } []).tsk.delays ∧ reached ((0 + 5) % 2 ^ 32) 5 = true ∧ reached ((0 + 4) % 2 ^ 32) 5 = false) := by
  refine ⟨rfl, ⟨rfl, rfl⟩, by decide +kernel, by decide +kernel, rfl, ⟨rfl, rfl⟩, ⟨rfl, rfl⟩, by decide +kernel, by decide +kernel⟩

/-! ### Redundant pairs -/

/-- A paired unit 1, or a referee, with messaging on. -/
def unitIn (m : Mode) (c : Chd) : State :=
  { (((host m).setFld Reg.CHD_CFG F.CHD_CFG_PAIRED 1).setFld Reg.CHD_CFG F.CHD_CFG_UNIT_ID 1).setFld Reg.CHD_CTL F.CHD_CTL_EN 1 with chd := c }

/-- A sound message. -/
def hdr (l : ChdLink) (epoch : Nat) : ChdHdr :=
  { link := l, magic := 0xA6C4, version := 2, unitId := 2, length := 20, size := 20, epoch := epoch, msgnum := 1, crcOk := true }

def peer2 : Peer := { heard := some 0, unitId := 2, paired := true }

def hello (lo hi last : Nat) : HelloBody :=
  { lowest := lo, highest := hi, role := 1, mode := 3, imageId := 0, compat := 0, klibver := 0, schemaMaj := 0, home := false, lastEpoch := last }

def beat (epoch : Nat) : HbBody := { role := 1, mode := 3, synced := true, fenced := false, age := 0, deltaSeq := 0, epoch := epoch }

theorem calmNew (s : State) (l : ChdLink) (b : Bool) (up : s.chdUp = true) (link : s.hasLink l = true)
    (new : s.chd.lastNum = []) (open_ : s.chd.fenced = false) : s.calm (hdr l 0) b := by
  refine ⟨⟨up, rfl, link, ?_⟩, open_, Nat.zero_le _⟩
  intro ⟨x, hx, _⟩
  rw [new] at hx; cases hx

theorem witness_LinksAndPeers :
    (unitIn .serve {}).powered ∧ chdMsg (.unfence 0 (hdr .referee 0)) = some (0, hdr .referee 0, false) ∧ (unitIn .boot {}).chdUp = false ∧
    (goodMsg (hdr (.unit 0) 0) = true ∧ (unitIn .serve {}).hasLink (.unit 0) = false) ∧ goodMsg { hdr .referee 0 with crcOk := false } = false ∧
    ((unitIn .serve {}).chdUp = true ∧ (unitIn .serve {}).hasLink .referee = true ∧
      (unitIn .serve { lastNum := [(1, some 1)] }).again (hdr .referee 0) false ∧ (unitIn .serve { lastNum := [(1, some 1)] }).again (hdr .referee 0) true) ∧
    ((unitIn .serve {}).calm (hdr (.chord 0) 0) true ∧ (unitIn .serve {}).calm (hdr .referee 0) true ∧
      (unitIn .referee { role := .referee }).calm (hdr (.unit 1) 0) true) ∧
    (commonVersion 3 3 = 0 ∧ commonVersion 1 2 ≠ 0 ∧ (unitIn .serve {}).idTaken (.chord 0) 1 = true ∧ (unitIn .serve {}).idTaken (.chord 0) 2 = false) ∧
    ((unitIn .referee { role := .referee }).peer (.unit (1 - 1))).paired = false ∧
    ((∀ l ∈ (unitIn .serve { lanes := 1, partner := peer2 }).liveLinks, ((unitIn .serve { lanes := 1, partner := peer2 }).peer l).paired = true) ∧
      (unitIn .serve { lanes := 1, partner := peer2 }).liveLinks = [.chord 0]) ∧
    ((unitIn .serve {}).calm (hdr (.chord 0) 0) false ∧ (beat 0).epoch ≤ (unitIn .serve {}).epoch ∧ ((unitIn .serve {}).peer (.chord 0)).paired = false ∧
      ((unitIn .serve { partner := peer2 }).peer (.chord 0)).paired = true ∧ (unitIn .serve { partner := peer2 }).sys.settleLeft = none ∧
      ((unitIn .serve { ref := peer2 }).peer .referee).paired = true ∧
      ((unitIn .referee { role := .referee, units := [(1, peer2)] }).peer (.unit 1)).paired = true) ∧
    ((unitIn .serve {}).chd.lanes = 0 ∧ (unitIn .serve {}).hasLink (.chord 1) = true ∧ bitAt (unitIn .serve { lanes := 2 }).chd.lanes 1 = 1 ∧
      bitAt (unitIn .serve { lanes := 2 }).chd.lanes 0 = 0) ∧
    (((unitIn .serve { partner := peer2 }).advanceNs 750000).heardLately peer2 = false ∧
      ((unitIn .serve { partner := peer2 }).advanceNs 749999).heardLately peer2 = true) := by
  refine ⟨rfl, rfl, rfl, by decide +kernel, by decide, ⟨by decide +kernel, by decide +kernel, ⟨1, rfl, by decide⟩, ⟨1, rfl, by decide⟩⟩,
    ⟨calmNew _ _ _ (by decide +kernel) (by decide +kernel) rfl rfl, calmNew _ _ _ (by decide +kernel) (by decide +kernel) rfl rfl,
     calmNew _ _ _ (by decide +kernel) (by decide +kernel) rfl rfl⟩,
    by decide +kernel, rfl, by decide +kernel,
    ⟨calmNew _ _ _ (by decide +kernel) (by decide +kernel) rfl rfl, by decide +kernel⟩, by decide +kernel, by decide +kernel⟩

/-- A referee whose units are 0, the Active, and 1. -/
def refOf (a b : Peer) : State := unitIn .referee { role := .referee, actPort := some 0, units := [(0, a), (1, b)] }

def act0 (t : Nat) : Peer := { peer2 with role := 1, mode := 3, hbTime := some t }
def std1 (t : Nat) : Peer := { peer2 with role := 2, mode := 4, hbTime := some t, synced := true }

theorem witness_RefereeAndEpochs :
    (unitIn .serve {}).powered ∧ (unitIn .serve {}).chd.role ≠ .referee ∧ (refOf (act0 0) (std1 0)).chd.actPort = some 0 ∧
    ((refOf (act0 0) (std1 0)).chdUp = true ∧ ((refOf (act0 0) (std1 0)).advanceNs 749999).activeFailed (act0 0) (std1 0) = false) ∧
    (((refOf (act0 0) (std1 0)).advanceNs 750000).activeFailed (act0 0) (std1 0) = true ∧
      ¬ ((∃ x, (std1 0).hbTime = some x ∧ ((refOf (act0 0) (std1 0)).advanceNs 750000).ns < x + 750000))) ∧
    (let b := { std1 10 with age := 0xFFFF }
     ((refOf { act0 0 with fenced := true } b).advanceNs 750000).activeFailed { act0 0 with fenced := true } b = true ∧
     ((refOf { act0 0 with fenced := true } b).advanceNs 750000).ns < 10 + 750000 ∧ b.mode = 4 ∧ b.synced = true ∧ b.hbTime = some 10) ∧
    ((unitIn .shadow { role := .standby }).takesMsg (hdr .referee 0) false ∧ (unitIn .shadow { role := .standby }).epoch < 1 ∧
      (hdr .referee 0).link = .referee ∧ ¬ (unitIn .shadow { role := .standby }).epoch < 0 ∧ (unitIn .shadow { role := .standby }).sys.mode = .shadow) ∧
    ((unitIn .serve { role := .active }).takesMsg (hdr .referee 9) false ∧
      ((unitIn .serve { role := .active }).epoch < (hdr .referee 9).epoch ∧ 2 ≠ (unitIn .serve { role := .active }).unitId) ∧
      ¬ (unitIn .serve { role := .active }).epoch < (hdr .referee 0).epoch) ∧
    ((unitIn .serve { role := .active, fenced := true }).takesMsg (hdr .referee 0) false ∧
      (hdr .referee 0).epoch = (unitIn .serve { role := .active, fenced := true }).epoch) ∧
    (let s := unitIn .serve { role := .active }
     s.chd.role = .active ∧ s.chd.fenced = false ∧ s.val Reg.CHD_FENCE_T % 16384 * 1000 ≠ 0 ∧
     s.chd.validAt + s.val Reg.CHD_FENCE_T % 16384 * 1000 ≤ (s.advanceNs (s.val Reg.CHD_FENCE_T % 16384 * 1000)).ns ∧
     ¬ s.chd.validAt + s.val Reg.CHD_FENCE_T % 16384 * 1000 ≤ (s.advanceNs 0).ns) := by
  refine ⟨rfl, by decide, rfl, by decide +kernel, ⟨by decide +kernel, ?_⟩, by decide +kernel,
    ⟨(calmNew _ _ _ (by decide +kernel) (by decide +kernel) rfl rfl).1, by decide +kernel⟩, ⟨⟨by decide +kernel, rfl, by decide +kernel, ?_⟩, by decide +kernel⟩,
    ⟨⟨by decide +kernel, rfl, by decide +kernel, ?_⟩, by decide +kernel⟩, by decide +kernel⟩
  · rintro ⟨x, h, l⟩; cases h; exact absurd l (by decide +kernel)
  · rintro ⟨x, h, _⟩; cases h
  · rintro ⟨x, h, _⟩; cases h

/-- A Standby whose class 0 is on, with what the class holds. -/
def standby (c : Chd) (k : SnapClass) : State :=
  (((unitIn .shadow { c with role := .standby, synced := true, partner := peer2 }).setFld Reg.SNAP_CTL F.SNAP_CTL_EN 1).setFld (Reg.SNAP_SCnCFG 0)
    F.SNAP_SCnCFG_EN 1).setSc 0 k

def snap0 : Snapshot := snapOf [5] [(5, {})]

/-- The digest of that snapshot, naming its member with the FHASH it has or another. -/
def dig (good : Bool) : DigestBody :=
  { seq := 1, sc := 0, nmemb := 1, vhash := 0, dig := 0, fhash := [(0, if good then ({} : Slot).fhash 5 else ({} : Slot).fhash 5 + 1)] }

def asked (good prov : Bool) : DigestWait := { body := dig good, prov := prov }

theorem witness_StandbyDigests :
    (standby {} {}).powered ∧ (standby {} {}).calm (hdr (.chord 0) 0) false ∧ (hdr (.chord 0) 0).link = .chord 0 ∧ (standby {} {}).chd.partner.paired = true ∧
    ((((unitIn .serve {}).advanceNs 0).noteMsg (hdr (.chord 0) 0)).wantsDigest (dig true) false = false ∧
      (((standby {} {}).advanceNs 0).noteMsg (hdr (.chord 0) 0)).wantsDigest (dig true) false = true ∧ (standby {} {}).chd.digests = [] ∧
      ((standby {} {}).sc (dig true).sc).head = none) ∧
    (let s := standby {} { snaps := [snap0] }; let v := (s.advanceNs 0).noteMsg (hdr (.chord 0) 0)
     s.calm (hdr (.chord 0) 0) false ∧ v.wantsDigest (dig true) false = true ∧ (s.sc 0).head = some snap0 ∧ snap0.seq = (dig true).seq ∧
     unmatched snap0 (dig true) = [] ∧ unmatched snap0 (dig false) ≠ [] ∧ snap0.promoting = false ∧ v.snapRunning = true ∧ s.scEn 0 = true) ∧
    (let v := ((standby { version := 2 } {}).advanceNs 0).noteMsg (hdr (.chord 0) 0)
     v.chd.version = 2 ∧ v.wantsDigest (dig true) true = true ∧ (((standby {} {}).advanceNs 0).noteMsg (hdr (.chord 0) 0)).chd.version ≠ 2) ∧
    ((unitIn .serve { role := .active, partner := peer2 }).calm (hdr (.chord 0) 0) false ∧ (unitIn .serve { role := .active, partner := peer2 }).chd.role = .active) ∧
    (((standby {} {}).snapOf 0 1 = none ∧ (standby {} { snaps := [snap0] }).snapOf 0 1 = some snap0 ∧ snap0.finalAt = none ∧ snap0.members[0]? = some 5 ∧
      snap0.members[1]? = none) ∧ (List.replicate 384 (0 : Byte)).length = 384) ∧
    (let s := standby { digests := [asked false false] } { snaps := [snap0] }; let w := s.val Reg.CHD_MIRWAIT % 8192 * 1000
     w ≠ 0 ∧ (s.sc 0).head = some snap0 ∧ s.digestOf? 0 1 false = some (asked false false) ∧ (asked false false).askedAt + w ≤ (s.advanceNs w).ns ∧
     ¬ (asked false false).askedAt + w ≤ (s.advanceNs (w - 1)).ns) ∧
    (∀ x, ((standby {} {}).sc 0).head = some x → x.seq ≠ 1) := by
  refine ⟨rfl, calmNew _ _ _ (by decide +kernel) (by decide +kernel) rfl rfl, rfl, rfl, by decide +kernel,
    ⟨calmNew _ _ _ (by decide +kernel) (by decide +kernel) rfl rfl, by decide +kernel⟩, by decide +kernel,
    ⟨calmNew _ _ _ (by decide +kernel) (by decide +kernel) rfl rfl, rfl⟩, by decide +kernel, by decide +kernel, ?_⟩
  intro x h; cases h

theorem witness_StandbyTransfers :
    ((standby {} {}).chd.role = .standby ∧ (unitIn .serve { partner := peer2 }).chd.role ≠ .standby ∧
      (unitIn .serve { partner := peer2 }).calm (hdr (.chord 0) 0) false ∧ (unitIn .serve { partner := peer2 }).chd.role ≠ .active) ∧
    (Reg.SNAP_SCnCFG 0 ≠ Reg.CHD_DELTAS) ∧ ((standby {} {}).sys.mode = .shadow ∧ (standby {} {}).chd.imageMis = false ∧
      (standby { imageMis := true } {}).chd.imageMis = true ∧ (standby { imageMis := true } {}).calm (hdr (.chord 0) 0) false) ∧
    (((List.range 8).filter (standby {} {}).scEn).map (fun c => (c, ([] : List Nat).getD c 0, false)) ≠ [] ∧
      (let s := unitIn .shadow { role := .standby, partner := peer2 }
       s.calm (hdr (.chord 0) 0) false ∧ ((List.range 8).filter s.scEn).map (fun c => (c, ([] : List Nat).getD c 0, false)) = [])) := by
  refine ⟨⟨rfl, by decide, calmNew _ _ _ (by decide +kernel) (by decide +kernel) rfl rfl, by decide⟩, by decide,
    ⟨rfl, rfl, rfl, calmNew _ _ _ (by decide +kernel) (by decide +kernel) rfl rfl⟩, by decide +kernel,
    ⟨calmNew _ _ _ (by decide +kernel) (by decide +kernel) rfl rfl, by decide +kernel⟩⟩

/-- An Active linked to a SYNCED Standby. -/
def active (m : Mode) (c : Chd) : State := unitIn m { c with role := .active, partner := { peer2 with synced := true, home := true } }

def settled (p : Peer) : State :=
  { unitIn .settle { partner := p } with sys := { mode := .settle, blocksUp := true, settleLeft := some 0, modeTag := some 7 } }

theorem witness_UnitsExchangeRoles :
    (host .serve).powered ∧ ((host .serve).admits 0x0A01 ch ∧ (host .serve).admits 0x0A02 ch) ∧ (host .serve).linked = false ∧
    ((active .serve {}).admits 0x0A01 ch ∧ (active .serve {}).admits 0x0A02 ch ∧ (active .serve {}).linked = true ∧
      (active .serve {}).sys.mode.serving = true ∧ (active .serve {}).home = false ∧ (active .serve {}).chd.partner.home = true ∧
      (active .serve {}).chd.handover = none ∧ (active .serve { handover := some 9 }).chd.handover ≠ none ∧
      (unitIn .serve { partner := peer2 }).linked = true ∧ (unitIn .serve { partner := peer2 }).chd.role ≠ .active ∧
      (unitIn .serve { partner := peer2 }).admits 0x0A01 ch ∧ (active .serve { handover := some 9 }).admits 0x0A01 ch ∧
      (active .serve {}).flag Reg.CHD_CTL F.CHD_CTL_EN = true) ∧
    ((standby {} {}).calm (hdr (.chord 0) 0) false ∧ (active .serve { handover := some 9 }).calm (hdr (.chord 0) 0) false ∧
      (active .serve { handover := some 9 }).chd.handover = some 9 ∧ (unitIn .serve { partner := peer2 }).calm (hdr (.chord 0) 0) false ∧
      (unitIn .serve { partner := peer2 }).chd.role = .solo) ∧
    (let s := active .serve { handover := some 9, switchTag := some (0x0A01, 7), echoed := true }
     (s.advanceNs 8).ns < 9 ∧ 9 ≤ (s.advanceNs 9).ns ∧ s.chd.handover = some 9 ∧ s.chd.switchTag = some (0x0A01, 7) ∧ s.heard 0x0A01 7 ∧
     s.chd.echoed = true ∧ s.sys.mode ≠ .shadow ∧ s.sys.mode ≠ .referee ∧ (active .serve { handover := some 9 }).chd.echoed = false ∧
     (standby { handover := some 9 } {}).chd.handover = some 9 ∧ (standby { handover := some 9 } {}).chd.role = .standby ∧
     (standby { handover := some 9 } {}).sys.mode = .shadow) ∧
    ((unitIn .serve {}).sys.settleLeft = none ∧ (settled {}).sys.settleLeft = some 0 ∧ ((settled {}).advanceNs 749999).partnerActive = false ∧
      ((settled {}).advanceNs 749999).ns < 0 + 750000 ∧ 0 + 750000 ≤ ((settled {}).advanceNs 750000).ns ∧
      ((settled { peer2 with role := 1 }).advanceNs 0).partnerActive = true ∧ (settled {}).inPair = true ∧ (settled {}).sys.mode ≠ .referee ∧
      (settled {}).sys.modeTag = some 7 ∧ (settled {}).heard 0x0101 7) := by
  refine ⟨rfl, ⟨⟨rfl, by decide +kernel, rfl⟩, ⟨rfl, by decide +kernel, rfl⟩⟩, rfl,
    ⟨⟨rfl, by decide +kernel, rfl⟩, ⟨rfl, by decide +kernel, rfl⟩, by decide +kernel, rfl, by decide +kernel, rfl, rfl, by decide, by decide +kernel, by decide,
      ⟨rfl, by decide +kernel, rfl⟩, ⟨rfl, by decide +kernel, rfl⟩, by decide +kernel⟩,
    ⟨calmNew _ _ _ (by decide +kernel) (by decide +kernel) rfl rfl, calmNew _ _ _ (by decide +kernel) (by decide +kernel) rfl rfl, rfl,
      calmNew _ _ _ (by decide +kernel) (by decide +kernel) rfl rfl, rfl⟩,
    ⟨by decide, by decide, rfl, rfl, rfl, rfl, by decide, by decide, rfl, rfl, rfl, rfl⟩,
    ⟨rfl, rfl, by decide +kernel, by decide, by decide, by decide +kernel, by decide +kernel, by decide, rfl, rfl⟩⟩

/-! ### The ledger cartridge -/

def ledger (m : Mode) (l : Ldg) : State := { host m with ldg := l }

def cart0 (answer : List Byte) (owner : Option Nat) : CartIdent :=
  { cid := 5, model := 0x0256, wear := 240000, answer := answer, owner := owner, sealPage := 0, content := [] }

theorem other_owner (e : List Byte) (d : Nat) : (cart0 e (some (d + 1))).owner ≠ some d := by
  intro h; injection h with h; omega

/-- Attaching under the AUTH key of slot 2. -/
def attaching (format : Bool) (id : Option CartIdent) : State :=
  { (ledger .serve { cstate := .attaching, lcPwr := true, ident := id, cmd := some (0x0702, 7, false, format) }).setVal Reg.LDG_CFG 2 with
    key := { slots := [(2, { valid := true, use := 3, alg := 2 })] } }

theorem witness_CartridgeAttachesAndLeaves :
    (host .serve).powered ∧ (host .serve).admits 0x0702 ch ∧ (host .serve).admits 0x0701 ch ∧ (host .serve).notBootDormant = true ∧
    ((attaching false none).ldg.cstate = .attaching ∧ (attaching false none).admits 0x0702 ch ∧ (attaching false none).admits 0x0701 ch ∧
      (ledger .serve { cstate := .active }).admits 0x0702 ch ∧ (ledger .serve { cstate := .active }).admits 0x0701 ch ∧
      (ledger .serve { cstate := .active }).ldg.cstate = .active ∧ (host .serve).ldg.cstate = .absent) ∧
    ((host .serve).admits 0x0702 { ch with peer := true } ∧ (host .serve).chd.hadTransfer = false ∧ ch.peer = false) ∧
    (({ ledger .serve { cstate := .active } with mtr := { save := some (.write [1] 9 1 0 true) } } : State).mtr.save = some (.write [1] 9 1 0 true)) ∧
    ((up .dormant).sys.mode = .dormant ∧ serve.sys.mode ≠ .dormant ∧ serve.ldg.silent + 1 < 3 ∧ 3 ≤ (ledger .serve { silent := 2 }).ldg.silent + 1 ∧
      (ledger .serve { silent := 2, cstate := .ejected }).ldg.cstate = .ejected ∧ (ledger .serve { silent := 2, cstate := .ejecting }).ldg.cstate = .ejecting) ∧
    (serve.ldg.cstate ≠ .attaching ∧ (attaching false (some (cart0 [] none))).ldg.ident ≠ none ∧ (attaching false none).ldg.ident = none ∧
      { cart0 [] none with model := 1 }.model ≠ 0x0256 ∧ (cart0 [] none).model = 0x0256) ∧
    (({ attaching false none with key := {} } : State).advanceNs 0).expectedAnswer 5 ≠ some (cart0 [] none).answer ∧
    (∃ e, ((attaching false none).advanceNs 0).expectedAnswer (cart0 e none).cid = some (cart0 e none).answer ∧
      ((cart0 e (some ((attaching false none).deviceId + 1))).owner ≠ none ∧
        (cart0 e (some ((attaching false none).deviceId + 1))).owner ≠ some (attaching false none).deviceId) ∧
      (cart0 e none).owner = none ∧ (attaching true none).ldg.cmd = some (0x0702, 7, false, true)) ∧
    ((attaching false (some (cart0 [] none))).ldg.ident = some (cart0 [] none) ∧
      (let s := (attaching false (some (cart0 [] none))).setVal Reg.LDG_COALWIN 0
       s.flag Reg.LDG_CTL F.LDG_CTL_JEN = true ∧ s.val Reg.LDG_COALWIN % 65536 = 0 ∧ s.ldg.fbLoss = [] ∧ s.ldg.lost = 0 ∧ s.ldg.ident = some (cart0 [] none) ∧
       s.ldg.stagedEnd + 256 ≤ s.ldg.committed + 65536)) ∧
    ((ledger .serve { cstate := .ejecting }).ldg.lcPwr = false ∧ (ledger .serve { cstate := .ejecting, lcPwr := true }).ldg.lcPwr = true ∧
      (ledger .serve { cstate := .ejecting, lcPwr := true }).ldg.stagedEnd ≤ (ledger .serve {}).ldg.committed + 17 * 4080) ∧
    (let s := ledger .serve { cstate := .ejecting, ejectFrom := some 0 }; let w := s.val Reg.LDG_EJECT_T % 65536 * 1000000
     w ≠ 0 ∧ s.ldg.ejectFrom = some 0 ∧ 0 + w ≤ (s.advanceNs w).ns ∧ ¬ 0 + w ≤ (s.advanceNs (w - 1)).ns) ∧
    (serve.ldg.lcPwr = false ∧ (attaching false none).ldg.lcPwr = true) := by
  obtain ⟨e, he⟩ : ∃ e, ((attaching false none).advanceNs 0).expectedAnswer 5 = some e := Option.isSome_iff_exists.1 (by decide +kernel)
  refine ⟨rfl, ⟨rfl, by decide +kernel, rfl⟩, ⟨rfl, by decide +kernel, rfl⟩, rfl,
    ⟨rfl, ⟨rfl, by decide +kernel, rfl⟩, ⟨rfl, by decide +kernel, rfl⟩, ⟨rfl, by decide +kernel, rfl⟩, ⟨rfl, by decide +kernel, rfl⟩, rfl, rfl⟩,
    ⟨⟨rfl, by decide +kernel, rfl⟩, rfl, rfl⟩, rfl, by decide, by decide, by decide +kernel,
    ⟨e, he, ⟨nofun, other_owner _ _⟩, rfl, rfl⟩, by decide +kernel, by decide, by decide +kernel, by decide⟩

/-- A staged record of the first 8 payload bytes 1. -/
def staged0 : StagedRec :=
  { seq := 0, type := 0x40, key := recKey 0x40 (List.replicate 8 1), time := 0, rep := 1, backref := false, payload := List.replicate 8 1, start := 0 }

def full (c : CState) (power : Bool) : State := ledger .serve { cstate := c, lcPwr := power, staged := [staged0], stagedEnd := 4080, pageFrom := some 0 }

theorem witness_RecordsStagedAndCommitted :
    serve.powered ∧ (serve.setFld Reg.LDG_CTL F.LDG_CTL_JEN 0).flag Reg.LDG_CTL F.LDG_CTL_JEN = false ∧ serve.flag Reg.LDG_CTL F.LDG_CTL_JEN = true ∧
    ((ledger .serve { fbLoss := [(3, 9)] }).ldg.fbLoss = (3, 9) :: [] ∧ (ledger .serve { fbLoss := [(3, 9)] }).ldg.fits 40 = true ∧ serve.ldg.fbLoss = [] ∧
      serve.ldg.lost = 0) ∧
    (let s := (full .active true).setVal Reg.LDG_COALWIN 5
     s.ldg.staged.reverse.find? (·.key == recKey 0x40 (pad8 (List.replicate 8 1))) = some staged0 ∧ s.val Reg.LDG_COALWIN % 65536 * 1000000 ≠ 0 ∧
     s.ns ≤ staged0.time + s.val Reg.LDG_COALWIN % 65536 * 1000000 ∧ serve.ldg.staged.reverse.find? (·.key == recKey 0x40 (pad8 [1])) = none ∧
     serve.ldg.fits (24 + (pad8 [1]).length) = true ∧ (ledger .serve { stagedEnd := 65536 }).ldg.fits (24 + (pad8 [1]).length) = false) ∧
    (let s : State := { serve.setVal Reg.LDG_COALWIN 5 with ldg := { done := [(recKey 0x40 (pad8 [1]), 4, 0)] } }
     s.ldg.done.find? (·.1 == recKey 0x40 (pad8 [1])) = some (recKey 0x40 (pad8 [1]), 4, 0) ∧ s.ns ≤ 0 + s.val Reg.LDG_COALWIN % 65536 * 1000000) ∧
    ((full .active true).ldg.committed + 4080 ≤ (full .active true).ldg.stagedEnd ∧ ¬ serve.ldg.committed + 4080 ≤ serve.ldg.stagedEnd ∧
      (full .active true).ldg.toCart = true ∧ (full .absent true).ldg.toCart = false ∧ (full .active false).ldg.lcPwr = false ∧ (full .active true).ldg.lcPwr = true) ∧
    (let w := serve.val Reg.LDG_COMMIT_T % 1024 * 1000000
     w ≠ 0 ∧ (full .active true).ldg.pageFrom = some 0 ∧ 0 + w ≤ ((full .active true).advanceNs w).ns ∧ ¬ 0 + w ≤ ((full .active true).advanceNs (w - 1)).ns ∧
     (full .active true).ldg.committed < (full .active true).ldg.stagedEnd) ∧
    (serve.mayWrite .host Reg.LDG_RDCMD 1 ∧ serve.ldg.cstate ≠ .active ∧ (full .active true).ldg.copy = none ∧ (full .active true).mayWrite .host Reg.LDG_RDCMD 1) ∧
    ((ledger .serve { copy := some (0x4000000, 0x1000000000, 1) }).ldg.copy = some (0x4000000, 0x1000000000, 1) ∧
      badPage (ledger .serve {}).ldg.cart (0x4000000 + 4096 * 0) = true) := by
  refine ⟨rfl, by decide +kernel, by decide +kernel, by decide, by decide +kernel, by decide +kernel, by decide, by decide +kernel,
    ⟨⟨trivial, rfl⟩, by decide, rfl, ⟨trivial, rfl⟩⟩, ⟨rfl, by decide +kernel⟩⟩

/-! ### Key update and image update -/

/-- A device of identity 0 with no OTP step burned, whose cartridge is in a state of its own. -/
def keyed (c : CState) (power : Bool) (m : List Byte) : State :=
  { ledger .serve { cstate := c, lcPwr := power } with
    regs := [(Reg.HIF_AGREED, 0x402), (Reg.KEY_OTPLEFT, 4096), (Reg.KEY_DEVIDk 0, 0), (Reg.KEY_DEVIDk 1, 0), (Reg.KEY_DEVIDk 2, 0), (Reg.KEY_DEVIDk 3, 0)]
    hostMem := Mem.putBytes [] 64 m }

/-- A message that erases slot 5 and raises the counter to 65 536, without its MAC. -/
def keyHead : List Byte := [0xA6, 0xB5, 1, 1] ++ List.replicate 16 0 ++ beBytes 8 65536 ++ List.replicate 4 0 ++ [5, 2] ++ List.replicate 46 0

def keyTag : List Byte := hmacSha256 ((keyed .active true []).deriveK0 [0x4B, 0x55] (List.replicate 16 0)) keyHead

def keyMsg : List Byte := keyHead ++ keyTag

theorem keyMsg_length : keyMsg.length = 112 := by simp [keyMsg, keyTag, keyHead, beBytes_length]

theorem read_back (m : Mem) (a n : Nat) (l : List Byte) (h : l.length = n) : (m.putBytes a l).bytes a n = l := by
  subst h; exact Mem.bytes_putBytes m a l

theorem keyed_hostMem (c : CState) (p : Bool) (m : List Byte) : (keyed c p m).hostMem = Mem.putBytes [] 64 m := rfl

theorem keyMsg_read (c : CState) (p : Bool) : (keyed c p keyMsg).hostBytes 64 112 = keyMsg := by
  rw [State.hostBytes, keyed_hostMem]
  exact read_back _ _ _ _ keyMsg_length

theorem keyMsg_tag : sliceOf keyMsg 80 32 = keyTag := by
  have h : keyHead.length = 80 := rfl
  have t : keyTag.length = 32 := hmacSha256_length _ _
  unfold keyMsg
  generalize keyTag = x at t ⊢
  have := sliceOf_append keyHead x []
  rwa [List.append_nil, h, t] at this

theorem keyCheck_passes (s : State) (m : List Byte) (magic : beAt m 0 2 = 0xA6B5) (one : leAt m 3 1 = 1)
    (zeros : (!(sliceOf m 29 3).all (· == 0) || ((List.range 1).map (keyEntry m)).any (fun e => !e.zeros)) = false) (ver : leAt m 2 1 = 1)
    (dev : beNat (sliceOf m 4 16) = s.deviceId)
    (tag : sliceOf m 80 32 = hmacSha256 (s.deriveK0 [0x4B, 0x55] (sliceOf m 4 16)) (m.take 80)) (c : s.keyCounter < beAt m 20 8)
    (steps : ¬ (s.burned + 16 < beAt m 20 8 / 65536) ∧ ¬ (4096 < beAt m 20 8 / 65536)) (wrap : leAt m 28 1 = 0)
    (entry : (List.range 1).find? (entryBad ((List.range 1).map (keyEntry m))) = none) (erase : (keyEntry m 0).op = 2) :
    s.keyCheck m 112 = none := by
  unfold State.keyCheck
  simp only [magic, one, zeros, ver, dev, tag, wrap, entry, State.wrapFit, steps.1, steps.2, Nat.not_le.2 c, ne_eq, not_true_eq_false]
  simp [erase]

theorem witness_KeyMessagesApplied :
    (keyed .active true keyMsg).powered ∧ (keyed .active true keyMsg).admits 0x0801 ch ∧ (keyed .active true keyMsg).notBootDormant = true ∧
    ({ keyed .active true [] with key := { busy := true } } : State).key.busy = true ∧ (keyed .absent true []).ldg.cstate ≠ .active ∧
    (∃ f, (keyed .active true []).keyCheck ((keyed .active true []).hostBytes 64 112) 112 = some f ∧ f.status ≠ .auth) ∧
    (∃ f, (keyed .active true [0xA6, 0xB5, 1, 1, 9]).keyCheck ((keyed .active true [0xA6, 0xB5, 1, 1, 9]).hostBytes 64 112) 112 = some f ∧ f.status = .auth) ∧
    (∀ p, (keyed .active p keyMsg).keyCheck ((keyed .active p keyMsg).hostBytes 64 112) 112 = none) ∧ (keyed .active false []).ldg.lcPwr = false ∧
    (keyEntry keyMsg 0).op = 2 := by
  refine ⟨rfl, ⟨rfl, by decide +kernel, rfl⟩, rfl, rfl, by decide, ⟨⟨1, .arg, 0⟩, by rfl, by decide⟩, ⟨⟨3, .auth, 0⟩, by rfl, by decide⟩, ?_, rfl, by decide +kernel⟩
  intro p
  rw [keyMsg_read]
  apply keyCheck_passes
  · decide +kernel
  · decide +kernel
  · decide +kernel
  · decide +kernel
  · cases p <;> decide +kernel
  · rw [keyMsg_tag, show sliceOf keyMsg 4 16 = List.replicate 16 0 by decide +kernel, show keyMsg.take 80 = keyHead by decide +kernel]; rfl
  · cases p <;> decide +kernel
  · cases p <;> decide +kernel
  · decide +kernel
  · decide +kernel
  · decide +kernel

/-- A manifest of one block in part 1, copied from the active bank or transferred; its signature is (x of the base point, 1). -/
def manifest (copy : Bool) (hash : List Byte) : List Byte :=
  [0x41, 0x47, 0x4C, 0x4D] ++ leBytes 2 1 ++ leBytes 2 7 ++ leBytes 4 9 ++ leBytes 4 0xB1 ++ leBytes 4 255 ++ leBytes 8 0 ++ leBytes 4 1 ++
    leBytes 4 456 ++ leBytes 28 0 ++
    (leBytes 4 (if copy then 257 else 1) ++ leBytes 4 0 ++ leBytes 4 1 ++ leBytes 4 1 ++ leBytes 16 1) ++
    ((List.range 6).map (fun i => leBytes 4 (i + 2) ++ leBytes 4 0 ++ leBytes 4 1 ++ leBytes 20 0)).flatten ++ leBytes 32 0 ++ hash ++
    leBytes 8 0 ++ beBytes 48 p384G.1 ++ beBytes 48 1

def zeros32 : List Byte := List.replicate 32 0

theorem manifestCheck_passes (s : State) (m : List Byte) (n : manNblk m = 1)
    (head : (m.take 4 ≠ [0x41, 0x47, 0x4C, 0x4D] || leAt m 0x20 4 ≠ 456 || m.length ≠ 456 || leAt m 6 2 ≠ 7 ||
      (!(sliceOf m 0x24 28).all (· == 0) || leAt m 0x0D 3 ≠ 0 || leAt m 0x11 3 ≠ 0 || 2 ≤ leAt m 0x14 4 ||
        (manParts m).any (fun p => !p.zeros) || leAt m 356 4 ≠ 0) || leAt m 8 4 = 0) = false)
    (ver : leAt m 4 2 = 1) (idx : leAt m 352 4 % 4 = 0) (r : beAt m 360 48 = p384G.1) (t : beAt m 408 48 = 1)
    (key : ecdsaVerify (Config.fusePubKey 0) (sha384 (m.take 352)) p384G.1 1 = true) (rev : Config.fuseRevoked 0 = false)
    (hw : leAt m 0x0C 1 = 0xB1) (sec : leAt m 0x10 1 = 255) (low : s.upd.secMin = 0) (parts : partsBad m = false) :
    s.manifestCheck m = none := by
  have hs : ¬ (255 < s.secverMin) := by unfold State.secverMin; rw [low]; omega
  simp only [State.manifestCheck, n, idx, ver, hw, sec, hs, rev, parts]
  simp only [Nat.reduceMul, Nat.reduceAdd, head, r, t, key]
  rfl

/-- The manifest passes every check where the key that the fuses hold verifies its signature. -/
theorem witness_manifest_in_force (s : State) (copy : Bool) (low : s.upd.secMin = 0)
    (key : ecdsaVerify (Config.fusePubKey 0) (sha384 ((manifest copy zeros32).take 352)) p384G.1 1 = true) (rev : Config.fuseRevoked 0 = false) :
    s.manifestCheck (manifest copy zeros32) = none :=
  manifestCheck_passes _ _ (by cases copy <;> rfl) (by cases copy <;> decide +kernel) (by cases copy <;> rfl) (by cases copy <;> rfl)
    (by cases copy <;> decide +kernel) (by cases copy <;> decide +kernel) key rev (by cases copy <;> rfl) (by cases copy <;> rfl) low (by cases copy <;> decide +kernel)

def relay (up : Bool) (v index frag total : Nat) : RelayHdr :=
  { up := up, magic := 0xA6F0, version := v, session := 9, index := index, frag := frag, plen := 1024, total := total, pos := 62 }

def updating (u : Upd) : State := { host .serve with upd := u }

/-- A transfer of that manifest, block 1 lacking its last fragment, or more of them. -/
def transfer (hash : List Byte) (held fails : Nat) : Upd :=
  { ustate := .transfer, upver := 3, dnver := 3, session := 9, manifest := manifest false hash,
    blockFrags := [(1, (List.range held).map (fun i => (i, [])))], fails := [(1, fails)] }

/-- Which of two manifests a host's bytes do not match. -/
theorem one_hash_wrong (b : List Byte) : sha256 b ≠ zeros32 ∨ sha256 b ≠ List.replicate 32 1 := by
  by_cases h : sha256 b = zeros32
  · right; rw [h]; decide
  · left; exact h

theorem witness_UpdatesBegin :
    (host .serve).powered ∧ (host .serve).admits 0x0901 ch ∧ (host .serve).notBootDormant = true ∧ (host .serve).sys.mode ≠ .configure ∧
    ((updating { trialEnd := some 5 }).upd.trialEnd ≠ none ∧ (updating {}).upd.free = true ∧ (updating (transfer zeros32 63 0)).upd.free = false) ∧
    (let room := serve.val Reg.UPD_STAGESIZE % 1024
     ¬ (room * 16 < manNblk ((host .serve).hostBytes 0 0x140) + 1 ∨ room * 0x100000 < 65536 * 2) ∧ room * 0x100000 < 2 ^ 32 - 1) ∧
    (∃ f, (host .serve).manifestCheck ((host .serve).hostBytes 0 (min (leAt ((host .serve).hostBytes 0 0x140) 0x20 4) 61832)) = some f) ∧
    (let s : State := { host .serve with hostMem := Mem.putBytes [] 0 (manifest true zeros32) }
     s.hostBytes 0 (min (leAt (s.hostBytes 0 0x140) 0x20 4) 61832) = manifest true zeros32 ∧ transferBlocks (manifest true zeros32) = [] ∧
     s.upd.secMin = 0 ∧ manNblk (s.hostBytes 0 0x140) = 1) ∧
    (transferBlocks (manifest false zeros32) = [1] ∧ manHash (manifest false zeros32) 1 = zeros32 ∧
      manHash (manifest false (List.replicate 32 1)) 1 = List.replicate 32 1) := by
  refine ⟨rfl, ⟨rfl, by decide +kernel, rfl⟩, rfl, by decide, ⟨by decide, by decide, by decide⟩, by decide +kernel, ⟨⟨1, .arg⟩, by rfl⟩, by decide +kernel, by decide +kernel⟩

theorem witness_UpdateSessionsRun :
    ({ relay true 3 0 0 456 with magic := 1 }.magic ≠ 0xA6F0 ∧ (relay true 3 0 0 456).magic = 0xA6F0 ∧ (relay true 3 0 0 456).pos ≤ 63) ∧
    ((updating { upver := 3 }).frameOk (relay true 3 0 0 456) = true ∧ (updating {}).frameOk (relay true 3 0 0 456) = false ∧
      (updating { upver := 3, armed := true }).upd.free = true ∧ (updating { upver := 3, armed := true }).upd.armed = true ∧
      (updating { upver := 3, ustate := .manifest, session := 9 }).upd.free = false) ∧
    ([] ∈ (List.range ((456 + 1023) / 1024)).map (fun i => tget (fun _ => []) (tput (fun _ => ([] : List Byte)) [] 0 []) i) ∧
      ((List.range ((456 + 1023) / 1024)).map (fun i => tget (fun _ => []) (tput (fun _ => ([] : List Byte)) [] 0 (manifest true zeros32)) i)).flatten.take 456
        = manifest true zeros32 ∧
      (∃ f, serve.manifestCheck (([[0]] : List (List Byte)).flatten.take 456) = some f)) ∧
    ((updating (transfer zeros32 63 0)).frameOk (relay true 3 1 63 0) = true ∧ 1 ∉ (updating (transfer zeros32 63 0)).upd.verified ∧
      1 ∈ transferBlocks (updating (transfer zeros32 63 0)).upd.manifest ∧
      (let held := fun (u : Upd) => (tget (fun _ => []) u.blockFrags 1).filter (·.1 ≠ 63) ++ [(63, ([] : List Byte))]
       missingFrags (held (transfer zeros32 62 0)) ≠ [] ∧ missingFrags (held (transfer zeros32 63 0)) = [] ∧
       ((List.range 64).map (fun i => (((held (transfer zeros32 63 0)).find? (·.1 == i)).map (·.2)).getD [])).flatten = [])) ∧
    (sha256 [] ≠ manHash (manifest false zeros32) 1 ∧ sha256 [] = manHash (manifest false (beBytes 32
      0xE3B0C44298FC1C149AFBF4C8996FB92427AE41E4649B934CA495991B7852B855)) 1) ∧
    (tget (fun _ => 0) (transfer zeros32 63 2).fails 1 + 1 < 4 ∧ 4 ≤ tget (fun _ => 0) (transfer zeros32 63 3).fails 1 + 1) ∧
    (tget (fun _ => []) (transfer zeros32 63 0).blockFrags 1 ≠ [] ∧ tget (fun _ => 0) (transfer zeros32 63 0).blockAt 1 + 2000000 ≤ (serve.advanceNs 2000000).ns ∧
      ¬ tget (fun _ => 0) (transfer zeros32 63 0).blockAt 1 + 2000000 ≤ (serve.advanceNs 1999999).ns) ∧
    ((updating { dnver := 3, verified := [1], session := 9 }).frameOk (relay false 3 1 0 0) = true ∧
      1 ∈ (updating { dnver := 3, verified := [1], session := 9 }).upd.verified ∧ (updating { dnver := 3 }).frameOk (relay false 3 1 0 0) = true) ∧
    (serve.mayWrite .host Reg.UPD_ABORT 1 ∧ serve.upd.ustate = .idle ∧ (updating (transfer zeros32 63 0)).upd.ustate ≠ .idle) ∧
    ((updating { ustate := .storing, manifest := manifest false zeros32 }).upd.ustate = .storing ∧
      ((List.range (manNblk (manifest false zeros32))).map (· + 1)).filter (manCopied (manifest false zeros32)) = [] ∧
      ((List.range (manNblk (manifest true zeros32))).map (· + 1)).filter (manCopied (manifest true zeros32)) = [1]) := by
  refine ⟨by decide, by decide +kernel, ⟨by decide, by decide +kernel, ⟨⟨1, .arg⟩, by rfl⟩⟩, by decide +kernel, by decide +kernel, by decide, by decide +kernel,
    by decide +kernel, ⟨⟨trivial, rfl⟩, rfl, by decide⟩, by decide +kernel⟩

theorem witness_TrialsEnd :
    (host .serve).powered ∧ (host .serve).admits 0x0902 ch ∧ (host .serve).notBootDormant = true ∧ (host .serve).sys.mode ≠ .configure ∧
    ((updating { trialEnd := some 5 }).upd.trialEnd ≠ none ∧ (updating { trialEnd := some 5 }).admits 0x0902 ch ∧
      ¬ ((host .serve).upd.trialEnd ≠ none ∨ ((host .serve).chd.role = .active ∧ (host .serve).redun = true ∧ ch.force = false)) ∧
      (host .serve).upd.ustate ≠ .stored ∧ (updating { ustate := .stored }).upd.ustate = .stored ∧ (updating { ustate := .stored }).admits 0x0902 ch) ∧
    (let s : State := { unitIn .serve { role := .active, partner := { peer2 with role := 2, synced := true }, ref := peer2 } with upd := {} }
     s.chd.role = .active ∧ s.redun = true ∧ s.admits 0x0902 ch) ∧
    (5 ≤ ((updating { trialEnd := some 5 }).advanceNs 5).ns ∧ ((updating { trialEnd := some 5 }).advanceNs 4).ns < 5) ∧
    (let s : State := { updating { trialEnd := some 5 } with lat := { loaded := true } }
     ((manParts (s.upd.flash.bytes (bankBase s.upd.ctl.bankB) 0x140)).take 7).map (·.version) = List.replicate 7 0 ∧ s.imageLoaded = true ∧
     s.ldg.cstate = .absent ∧ serve.imageLoaded = false ∧ s.upd.trialEnd ≠ none ∧
     (s.setFld Reg.UPD_CTL F.UPD_CTL_AUTOCONF 1).flag Reg.UPD_CTL F.UPD_CTL_AUTOCONF = true) ∧
    ((host .serve).admits 0x0903 ch ∧ (updating { trialEnd := some 5, selfok := true }).upd.selfok = true ∧
      (updating { trialEnd := some 5, selfok := true }).admits 0x0903 ch ∧ (updating { trialEnd := some 5 }).upd.selfok = false ∧
      (updating { trialEnd := some 5 }).admits 0x0903 ch) := by
  refine ⟨rfl, ⟨rfl, by decide +kernel, rfl⟩, rfl, by decide,
    ⟨by decide, ⟨rfl, by decide +kernel, rfl⟩, by decide +kernel, by decide, rfl, ⟨rfl, by decide +kernel, rfl⟩⟩,
    ⟨rfl, by decide +kernel, ⟨rfl, by decide +kernel, rfl⟩⟩, by decide, by decide +kernel,
    ⟨⟨rfl, by decide +kernel, rfl⟩, rfl, ⟨rfl, by decide +kernel, rfl⟩, rfl, ⟨rfl, by decide +kernel, rfl⟩⟩⟩

/-! ### Modes, power and resets -/

/-- A device with a lattice image and 32 GiB of memory in a mode, what the block of modes holds beside. -/
def inMode (y : Sys) : State := { host y.mode with sys := { y with blocksUp := true, usable := 0x800000000 }, lat := { loaded := true } }

/-- The default layout in force. -/
def laidOut (y : Sys) : State := layoutWrites.foldl (fun s w => s.setVal w.1 w.2) (inMode y)

/-- In SETTLE with the servo locked since 0, at 700 s; in a pair or not. -/
def settling (paired active : Bool) (low : Option Nat) : State :=
  let s : State := { inMode { mode := .settle } with tb := { lowSince := low }, chd := { partner := if active then { peer2 with role := 1, heard := some 700000000000 } else {} },
                                                     now := 700000000000 * 2 ^ 24 }
  if paired then s.setFld Reg.CHD_CFG F.CHD_CFG_PAIRED 1 else s

theorem witness_ModeCommands :
    (inMode { mode := .configure }).powered ∧ (inMode { mode := .configure }).admits 0x0101 ch ∧ modeTarget 6 = none ∧ modeTarget 15 = none ∧ modeTarget 1 = some .configure ∧
    ((inMode { mode := .configure, trans := some .dormant }).sys.trans ≠ none ∧ (inMode { mode := .configure, trans := some .dormant }).admits 0x0101 ch ∧
      (loading none none).lat.job ≠ none ∧ (loading none none).sys.mode = .configure ∧ Mode.settle ≠ .configure) ∧
    ((inMode { mode := .serve }).modeRow .settle = false ∧ (inMode { mode := .serve }).admits 0x0101 ch) ∧
    ((inMode { mode := .configure }).modeRow .settle = true ∧ (inMode { mode := .configure }).layoutOk = false) ∧
    (let s := laidOut { mode := .configure }
     s.layoutOk = true ∧ s.modeRow .settle = true ∧ s.modeRow .test = true ∧ s.modeRow .quiesce = true ∧ s.modeRow .dormant = true ∧ s.sys.trans = none ∧ s.lat.job = none ∧
     (s.setFld Reg.CHD_CFG F.CHD_CFG_UNIT_ID 1).modeRow .referee = true ∧ (s.setFld Reg.CHD_CFG F.CHD_CFG_UNIT_ID 1).layoutOk = true ∧
     modeTarget 2 = some .settle ∧ modeTarget 5 = some .referee ∧ modeTarget 10 = some .dormant) ∧
    ((inMode { mode := .quiesce }).modeRow .configure = true ∧ (inMode { mode := .quiesce }).admits 0x0101 ch) ∧
    ((settling true false none).modeRow .shadow = true ∧ (settling true false none).admits 0x0101 ch ∧ modeTarget 4 = some .shadow) ∧
    ((settling false false (some 0)).modeRow .serve = true ∧ (settling false false (some 0)).inPair = false ∧ (settling true true (some 0)).modeRow .serve = true ∧
      (settling true true (some 0)).inPair = true ∧ (settling true true (some 0)).partnerActive = true ∧ (settling true false (some 0)).partnerActive = false) := by
  refine ⟨rfl, ⟨rfl, by decide +kernel, rfl⟩, rfl, rfl, rfl, ⟨by decide, ⟨rfl, by decide +kernel, rfl⟩, by decide, rfl, by decide⟩, ⟨rfl, ⟨rfl, by decide +kernel, rfl⟩⟩,
    by decide +kernel, by decide +kernel, ⟨rfl, ⟨rfl, by decide +kernel, rfl⟩⟩, ⟨by decide +kernel, ⟨rfl, by decide +kernel, rfl⟩, rfl⟩, by decide +kernel⟩

theorem witness_ModesChangeOnTheirOwn :
    (settling false false (some 0)).powered ∧
    (let s := settling false false (some 0); let u := s.advanceNs 700000000000
     s.sys.mode = .settle ∧ s.sys.trans = none ∧ u.settleOver = true ∧ s.inPair = false ∧ ((settling false false none).advanceNs 0).settleOver = false) ∧
    (let s := settling true true (some 0); s.inPair = true ∧ (s.advanceNs 700000000000).settleOver = true ∧ (s.advanceNs 700000000000).partnerActive = true) ∧
    (let s := settling true false (some 0); s.inPair = true ∧ (s.advanceNs 700000000000).settleOver = true ∧ (s.advanceNs 700000000000).partnerActive = false) ∧
    (let s := settling false false none; let u := s.advanceNs 700000000000
     u.servoLocked = false ∧ s.sys.settleSince + s.val Reg.SYS_SETTLEMAX % 4096 * 1000000000 ≤ u.ns) ∧
    ((up .boot).sys.mode = .boot ∧ (up .dormant).sys.mode = .dormant ∧ serve.sys.mode ≠ .boot ∧ serve.sys.mode ≠ .dormant ∧ serve.sys.mode = .serve ∧
      (up .test).sys.mode ≠ .boot) ∧
    ((10000000 : Int).natAbs ≤ 10000000 ∧ ¬ (-10000001 : Int).natAbs ≤ 10000000 ∧ (up .holdover).sys.mode = .holdover ∧
      serve.sys.mode ∈ [Mode.serve, .shadow, .trial, .holdover] ∧ (up .test).sys.mode ∉ [Mode.serve, .shadow, .trial, .holdover] ∧ serve.tb.step = none) ∧
    ((inMode { mode := .settle, modeTag := some 7 }).sys.modeTag = some 7 ∧ (inMode { mode := .settle, modeTag := some 7 }).heard 0x0101 7 ∧
      ¬ ((inMode { mode := .settle, modeTag := some 7 }).sys.mode = .boot ∨ (inMode { mode := .settle, modeTag := some 7 }).sys.mode = .dormant ∨
        (inMode { mode := .settle, modeTag := some 7 }).sys.mode = .lockout)) := by
  refine ⟨rfl, by decide +kernel, by decide +kernel, by decide +kernel, by decide +kernel, by decide, by decide, ⟨rfl, rfl, by decide⟩⟩

theorem witness_DormantAndWake :
    serve.powered ∧ serve.sys.aonPend.find? (fun p => p.1 == AonReg.pwrreq) = none ∧
    (let s := inMode { mode := .quiesce, aonPend := [(.pwrreq, 2)], modeTag := some 7 }
     s.sys.aonPend.find? (fun p => p.1 == AonReg.pwrreq) = some (.pwrreq, 2) ∧ s.sys.settleLeft = none ∧ s.sys.modeTag = some 7 ∧ s.heard 0x0101 7) ∧
    (let s := inMode { mode := .quiesce, windowFrom := some 0 }
     s.sys.windowFrom = some 0 ∧ 0 + 122070 ≤ (s.advanceNs 122070).ns ∧ ¬ 0 + 122070 ≤ (s.advanceNs 122069).ns ∧ s.sys.mode = .quiesce) ∧
    (let s := serve.setVal Reg.SYS_ID 0
     s.val Reg.SYS_I2CADDR % 128 = s.val Reg.SYS_I2CADDR % 128 ∧ (up .dormant).sys.mode = .dormant ∧ s.sys.mode ≠ .dormant ∧ s.sys.windowFrom = none ∧
     (inMode { mode := .quiesce, windowFrom := some 0 }).sys.windowFrom ≠ none ∧ (inMode { mode := .quiesce, windowFrom := some 0 }).sys.mode ≠ .dormant) ∧
    (serve.sys.wakeNLow = false ∧ (inMode { mode := .dormant, wakeNLow := true }).sys.wakeNLow = true) ∧
    (let s : State := { inMode { mode := .dormant, i2cLatch := true, dormantLast := some (0x10000000, 8, true) } with cores := [(7, { waiting := some 6 })] }
     s.sys.mode = .dormant ∧ s.wakeSources ≠ 0 ∧ (inMode { mode := .dormant }).wakeSources = 0 ∧ (s.core 7).waiting = some 6 ∧ bitAt 6 2 = 1 ∧
     s.sys.dormantLast = some (0x10000000, 8, true)) := by
  refine ⟨rfl, rfl, ⟨rfl, rfl, rfl, rfl⟩, by decide +kernel, ⟨rfl, rfl, by decide, rfl, by decide, by decide⟩, by decide, by decide +kernel⟩

theorem witness_ResetsHaveTheirScope :
    serve.powered ∧ serve.mayWrite .host Reg.SYS_RSTCMD 0x52530001 ∧ 0x52530001 / 2 ^ 16 % 2 ^ 16 = 0x5253 ∧ bitAt 0x52530001 0 = 1 ∧ bitAt 0x52530000 0 = 0 ∧
    1 / 2 ^ 16 % 2 ^ 16 ≠ 0x5253 ∧ serve.mayWrite .host Reg.SYS_WDKICK 0 ∧
    (let s := inMode { mode := .serve, aonWdog := 0x8000003C }
     bitAt s.sys.aonWdog 31 = 1 ∧ s.sys.mode ≠ .dormant ∧ s.sys.wdogFrom + s.sys.aonWdog % 64 * 1000000000 ≤ (s.advanceNs 60000000000).ns ∧
     ¬ s.sys.wdogFrom + s.sys.aonWdog % 64 * 1000000000 ≤ (s.advanceNs 59999999999).ns) := by
  refine ⟨rfl, ⟨trivial, rfl⟩, by decide, by decide, by decide, by decide, ⟨trivial, rfl⟩, by decide⟩

def startEnv (boot firmware : Bool) : StartEnv := { bootVerified := boot, firmwareVerified := firmware, cart := none, usableBytes := 0x800000000, image := [] }

theorem witness_StartUpRuns :
    State.reset.powered ∧ State.reset.sys.mode = .boot ∧ State.reset.sys.blocksUp = false ∧ ¬ (serve.sys.mode = .boot ∧ serve.sys.blocksUp = false) ∧
    (startEnv false true).bootVerified = false ∧ (startEnv true false).firmwareVerified = false ∧ (startEnv true true).settings = [] ∧
    (State.reset.setVal Reg.SYS_BOOTCFG 1).val Reg.SYS_BOOTCFG % 16 = 1 ∧
    (let s : State := { State.reset with upd := { ctl := { trial := true } } }
     s.upd.ctl.trial = true ∧ s.upd.ctl.tried = false ∧ s.sys.mode = .boot ∧ ({ s with upd := { ctl := { trial := true, tried := true } } } : State).upd.ctl.tried = true ∧
     State.reset.upd.ctl.trial = false) := by
  refine ⟨rfl, rfl, rfl, by decide, rfl, rfl, rfl, by decide +kernel, by decide⟩

/-! ### The host interface -/

/-- Both rings on, the command ring at 0, the completion ring at 0x10000, with what host memory and the interface hold. -/
def rings (mem : Mem) (x : Hif) : State :=
  { ((host .serve).setFld Reg.HIF_CTL F.HIF_CTL_CMDEN 1).setVal Reg.HIF_CPLBASELO 0x10000 with hostMem := mem, hif := x }

def cpl0 : Cpl := { code := 0, status := 0, tag := 7 }

theorem witness_RingsCarryCommands :
    (rings [] {}).powered ∧ (rings [] {}).mayWrite .host Reg.HIF_CMDTAIL 1 ∧
    (let s := rings [] {}; let h := s.val Reg.HIF_CMDHEAD % s.cmdSlots; let e := s.hostBytes (s.cmdBase + 64 * h) 64
     s.flag Reg.HIF_CTL F.HIF_CTL_CMDEN = true ∧ s.sys.blocksUp = true ∧ s.sys.mode ≠ .dormant ∧ s.sys.trans = none ∧ s.busyCmds < 32 ∧
     h ≠ (h + 1) % s.cmdSlots ∧ (s.val Reg.HIF_CMDTAIL / 4096 * 4096 + 1 % 4096) % s.cmdSlots = (h + 1) % s.cmdSlots ∧ entryOk e = true ∧ leAt e 0 2 = 0) ∧
    (rings [] {}).admits 0 (entryHdr ((rings [] {}).hostBytes 0 64)) ∧
    (let s := rings [(0, 0xFF), (1, 0xFF)] {}; let e := s.hostBytes 0 64; s.cmdBase + 64 * (s.val Reg.HIF_CMDHEAD % s.cmdSlots) = 0 ∧ entryOk e = false) ∧
    (rings [(0, 0xFF), (1, 0xFF)] {}).heard (leAt ((rings [(0, 0xFF), (1, 0xFF)] {}).hostBytes 0 64) 0 2) (leAt ((rings [(0, 0xFF), (1, 0xFF)] {}).hostBytes 0 64) 4 4) ∧
    (serve.flag Reg.HIF_CTL F.HIF_CTL_CMDEN = false) ∧
    ((rings [] {}).val Reg.HIF_CMDHEAD % (rings [] {}).cmdSlots = (rings [] {}).val Reg.HIF_CMDTAIL % (rings [] {}).cmdSlots ∧ (up .dormant).sys.mode = .dormant ∧
      (rings [] {}).hif.cpls = [] ∧ (rings [] {}).lat.job = none ∧ (rings [] { cpls := [cpl0] }).hif.cpls = cpl0 :: [] ∧ (rings [] { cpls := [cpl0] }).cplFull = false ∧
      ((rings [] { cpls := [cpl0] }).setVal Reg.HIF_CPLTAIL 1).cplFull = true ∧ (rings [] {}).upd.restartDue = false ∧
      ({ rings [] { cpls := [cpl0] } with upd := { restartDue := true } } : State).upd.restartDue = true ∧
      ((rings [] {}).setFld Reg.HIF_CTL F.HIF_CTL_CPLIRQ 1).flag Reg.HIF_CTL F.HIF_CTL_CPLIRQ = true) ∧
    ((host .serve).admits 0 ch ∧ serve.mayWrite .host Reg.HIF_DRVVER (0x300 + 0x402 * 65536) ∧ max 0x300 0x300 ≤ min 0x402 0x402 ∧ min 0x2FF 0x402 < max 0x100 0x300) := by
  refine ⟨rfl, ⟨trivial, rfl⟩, by decide +kernel, ⟨rfl, by decide +kernel, rfl⟩, by decide +kernel, rfl, by decide +kernel, by decide +kernel,
    ⟨⟨rfl, by decide +kernel, rfl⟩, ⟨trivial, rfl⟩, by decide, by decide⟩⟩

/-- The I²C target asked. -/
def i2c (en ptr : Nat) : State := { serve.setFld Reg.HIF_I2CCFG F.HIF_I2CCFG_EN en with hif := { i2cPtr := ptr } }

theorem witness_AccessesReachTheDevice :
    serve.powered ∧ serve.mayWrite .host Reg.SYS_SETTLEMIN 1000 ∧ serve.region Reg.SYS_SETTLEMIN = .regWindow ∧ serve.mayWrite .host Reg.SYS_ERRSTAT 1 ∧
    (serve.mayWrite .host Reg.LDG_CFG 1 ∧ serve.sys.mode ≠ .configure) ∧ (serve.mayWrite (.core 0) 0x1000000 5 ∧ serve.region 0x1000000 = .sysSram) ∧
    (let s := inMode { mode := .serve }; s.region (0x1800000000 - 4) = .lpddr ∧ s.mayWrite (.core 5) (0x1800000000 - 4) 5) ∧
    ((up .quiesce).isOff Reg.LAT_QSEL = true ∧ (up .quiesce).sys.mode ≠ .dormant ∧ (up .quiesce).region Reg.LAT_QSEL = .regWindow) ∧
    (serve.region (Reg.ETH_PnRXOK 7) = .regWindow ∧ isRc (Reg.ETH_PnRXOK 7 - Reg.ETH_PnRXOK 7 % 4) = true ∧ serve.mayRead .host (Reg.ETH_PnRXOK 7)) ∧
    (let s := inMode { mode := .configure }
     bar2Addr 0x100000000 = some 0x1000000000 ∧ s.isOff 0x1000000000 = false ∧ s.region 0x1000000000 = .lpddr ∧ s.sys.mode = .configure ∧
     (inMode { mode := .serve }).isOff 0x1000000000 = false ∧ (inMode { mode := .serve }).region 0x1000000000 = .lpddr ∧ bar2Addr 0x7FFFFFF = some 0x207FFFFFF ∧
     s.region 0x207FFFFFF = .vertexStore ∧ s.isOff 0x207FFFFFF = false ∧ bar2Addr 0x9000000 = none ∧ s.isOff (2 ^ 40 + 0x9000000) = false) ∧
    ((up .dormant).sys.mode = .dormant ∧ ¬ (serve.sys.mode = .dormant ∨ serve.sys.windowFrom ≠ none) ∧ (i2c 0 0).flag Reg.HIF_I2CCFG F.HIF_I2CCFG_EN = false ∧
      (i2c 1 0).flag Reg.HIF_I2CCFG F.HIF_I2CCFG_EN = true ∧ beAt [0, 0, 0, 1] 0 4 % 4 ≠ 0 ∧ 0x4000000 ≤ beAt [4, 0, 0, 0] 0 4 ∧
      beAt [3, 0xFF, 0xFF, 0xFC] 0 4 % 4 = 0 ∧ beAt [3, 0xFF, 0xFF, 0xFC] 0 4 < 0x4000000 ∧ (i2c 1 0).hif.i2cPtr = 0) := by
  refine ⟨rfl, ⟨trivial, rfl⟩, by decide +kernel, ⟨trivial, rfl⟩, ⟨⟨trivial, rfl⟩, by decide⟩, ⟨⟨rfl, rfl⟩, by decide +kernel⟩, ⟨by decide +kernel, ⟨rfl, rfl⟩⟩,
    by decide +kernel, ⟨by decide +kernel, by decide +kernel, ⟨trivial, rfl⟩⟩, by decide +kernel, by decide +kernel⟩

end Sys2Proof.Tests
end

section
/-!
SUPPORT and PROOF. The ports: what a port reads after each operation that a sent frame runs through, and the statement about sent frames
and their stamps (chapter 02).
-/
namespace Sys2Proof.Machine

variable {s t : State} {n m a : Nat} {p : EthPort} {x : TxProg} {pt : PtpTx}

/-! ### A port read after an update -/

@[simp] theorem State.port_setPort_same : (s.setPort n p).port n = p := tget_tput_same

theorem State.port_setPort_other (h : m ≠ n) : (s.setPort n p).port m = s.port m := tget_tput_other h

theorem State.port_of_eth (h : t.eth = s.eth) : t.port n = s.port n := by unfold State.port; rw [h]

@[simp] theorem State.advanceNs_port {ns : Nat} : (s.advanceNs ns).port n = s.port n := rfl

@[simp] theorem State.bump_port : (s.bump a).port n = s.port n := rfl

@[simp] theorem State.answer_port {ws : List Nat} : (s.answer ws).port n = s.port n := rfl

@[simp] theorem State.raise_port {e : ErrReg} {b : Nat} : (s.raise e b).port n = s.port n := State.port_of_eth State.raise_eth

/-! ### Registers that an event and a sticky bit leave alone -/

theorem State.pendEvent_reg_other {src info : Nat} {l r : Bool} (h : a ≠ Reg.EVC_MERGEDCNT) : (s.pendEvent src info l r).reg a = s.reg a := by
  unfold State.pendEvent
  dsimp only
  split
  · rfl
  · split
    · exact State.reg_bump_other h
    · rfl

/-- An event may count a merged record and writes no other register. -/
theorem State.event_reg_other {src info : Nat} (h : a ≠ Reg.EVC_MERGEDCNT) : (s.event src info).reg a = s.reg a := by
  unfold State.event
  split
  · split <;> rfl
  · exact State.pendEvent_reg_other h

/-- A sticky bit set writes its own register, and may count a merged record. -/
theorem State.raise_reg_other {e : ErrReg} {b : Nat} (he : a ≠ e.addr) (h : a ≠ Reg.EVC_MERGEDCNT) : (s.raise e b).reg a = s.reg a := by
  unfold State.raise State.raiseInfo
  rw [State.event_reg_other h, State.reg_setVal_other he]

/-! ### The next frame starts -/

/-- The queues are served from the front; what has left and its stamps stay. -/
theorem EthPort.pickNext_keeps {p1 : EthPort} (h : p.pickNext = some (x, p1)) : p1.out = p.out ∧ p1.stamps = p.stamps := by
  unfold EthPort.pickNext at h
  split at h
  case h_4 =>
    split at h
    · cases h
    · split at h <;> cases h
      exact ⟨rfl, rfl⟩
  all_goals cases h; exact ⟨rfl, rfl⟩

/-- An idle MAC starts the next frame, or nothing happens. -/
theorem State.startTx_cases (s : State) (n : Nat) :
    s.startTx n = s ∨ ∃ x p1, (s.port n).pickNext = some (x, p1) ∧ s.startTx n = s.setPort n { p1 with inProg := some x } := by
  unfold State.startTx
  dsimp only
  split
  · exact .inl rfl
  · split
    · exact .inl rfl
    · next x p1 h => exact .inr ⟨x, p1, h, rfl⟩

@[simp] theorem State.startTx_reg : (s.startTx n).reg a = s.reg a := by
  obtain h | ⟨x, p1, -, h⟩ := s.startTx_cases n <;> rw [h]
  rfl

@[simp] theorem State.startTx_val : (s.startTx n).val a = s.val a := State.val_of_reg State.startTx_reg

@[simp] theorem State.startTx_out : ((s.startTx n).port n).out = (s.port n).out := by
  obtain h | ⟨x, p1, hp, h⟩ := s.startTx_cases n <;> rw [h]
  rw [State.port_setPort_same]
  exact (EthPort.pickNext_keeps hp).1

@[simp] theorem State.startTx_stamps : ((s.startTx n).port n).stamps = (s.port n).stamps := by
  obtain h | ⟨x, p1, hp, h⟩ := s.startTx_cases n <;> rw [h]
  rw [State.port_setPort_same]
  exact (EthPort.pickNext_keeps hp).2

theorem State.startTx_port_other (h : m ≠ n) : (s.startTx n).port m = s.port m := by
  obtain e | ⟨x, p1, -, e⟩ := s.startTx_cases n <;> rw [e]
  exact State.port_setPort_other h

/-! ### A frame has left -/

/-- The frame as it leaves: a one-step Sync carries its time (R47). -/
def TxProg.sentFrame (x : TxProg) (stamp : Nat) : TxFrame :=
  match x.frame.ptp with
  | some pt => if pt.oneStep && pt.msgType = 0 then oneStepFrame x.frame pt (stamp / 16) else x.frame
  | none => x.frame

/-- The stamp of a PTP message that has left (R48). -/
def txStampOf (pt : PtpTx) (stamp : Nat) : TxStamp :=
  { ns32 := stamp / 16 % 2 ^ 32, frac := stamp % 16, seqId := pt.seqId, msgType := pt.msgType }

/-- A frame that has left is recorded and counted. -/
def State.frameLeft (s : State) (n : Nat) (f : TxFrame) : State :=
  (s.setPort n { s.port n with inProg := none, out := (s.port n).out ++ [f] }).bump (Reg.ETH_PnTXOK n)

/-- What is done with the stamp of a frame that has left (R48). -/
def State.stampSent (s : State) (n stamp : Nat) (x : TxProg) : State :=
  match x.queue, x.frame.ptp with
  | 1, some pt =>
    if pt.oneStep then s
    else if 64 ≤ (s.port n).stamps.length then s.raise (E.ETH n) 1
    else s.setPort n { s.port n with stamps := (s.port n).stamps ++ [txStampOf pt stamp] }
  | _, _ => s

/-- `transmitted` in its three parts: the frame leaves, its stamp is dealt with, the next frame starts. -/
theorem State.transmitted_eq {ns frac stamp : Nat} (hx : (s.port n).inProg = some x)
    (hs : stamp = 16 * ns + frac + s.val (Reg.ETH_PnTSLATTX n) % 65536) :
    s.transmitted n ns frac = ((s.frameLeft n (x.sentFrame stamp)).stampSent n stamp x).startTx n := by
  have hst (f : TxFrame) : ((s.frameLeft n f).port n).stamps = (s.port n).stamps := by simp [State.frameLeft]
  subst hs
  unfold State.transmitted State.stampSent
  simp only [hx, hst]
  rfl

theorem State.transmitted_idle {ns frac : Nat} (h : (s.port n).inProg = none) : s.transmitted n ns frac = s := by
  simp [State.transmitted, h]

theorem State.frameLeft_port {f : TxFrame} : (s.frameLeft n f).port n = { s.port n with inProg := none, out := (s.port n).out ++ [f] } := by
  simp [State.frameLeft]

theorem State.frameLeft_port_other {f : TxFrame} (h : m ≠ n) : (s.frameLeft n f).port m = s.port m := State.port_setPort_other h

theorem State.frameLeft_reg_other {f : TxFrame} (h : a ≠ Reg.ETH_PnTXOK n) : (s.frameLeft n f).reg a = s.reg a := State.reg_bump_other h

@[simp] theorem State.frameLeft_txok {f : TxFrame} :
    (s.frameLeft n f).val (Reg.ETH_PnTXOK n) = min (s.val (Reg.ETH_PnTXOK n) + 1) 0xFFFFFFFF := State.val_bump_same

/-- A stamp is kept, discarded with TSOVF, or there is none. -/
theorem State.stampSent_cases (s : State) (n stamp : Nat) (x : TxProg) :
    s.stampSent n stamp x = s ∨ s.stampSent n stamp x = s.raise (E.ETH n) 1 ∨
      ∃ l, s.stampSent n stamp x = s.setPort n { s.port n with stamps := l } := by
  unfold State.stampSent
  split
  · split
    · exact .inl rfl
    · split
      · exact .inr (.inl rfl)
      · exact .inr (.inr ⟨_, rfl⟩)
  · exact .inl rfl

variable {stamp : Nat}

@[simp] theorem State.stampSent_out : ((s.stampSent n stamp x).port n).out = (s.port n).out := by
  obtain h | h | ⟨l, h⟩ := s.stampSent_cases n stamp x <;> simp [h]

theorem State.stampSent_port_other (hm : m ≠ n) : (s.stampSent n stamp x).port m = s.port m := by
  obtain h | h | ⟨l, h⟩ := s.stampSent_cases n stamp x <;> simp [h, State.port_setPort_other hm]

theorem State.stampSent_reg_other (he : a ≠ Reg.ETH_PnERRSTAT n) (hm : a ≠ Reg.EVC_MERGEDCNT) : (s.stampSent n stamp x).reg a = s.reg a := by
  obtain h | h | ⟨l, h⟩ := s.stampSent_cases n stamp x <;> rw [h]
  · exact State.raise_reg_other he hm
  · rfl

theorem State.stampSent_none (h : x.frame.ptp = none) : s.stampSent n stamp x = s := by simp [State.stampSent, h]

theorem State.stampSent_room (hp : x.frame.ptp = some pt) (hq : x.queue = 1) (ho : pt.oneStep = false) (hl : (s.port n).stamps.length < 64) :
    s.stampSent n stamp x = s.setPort n { s.port n with stamps := (s.port n).stamps ++ [txStampOf pt stamp] } := by
  simp [State.stampSent, hp, hq, ho, Nat.not_le.mpr hl]

theorem State.stampSent_full (hp : x.frame.ptp = some pt) (hq : x.queue = 1) (ho : pt.oneStep = false) (hl : 64 ≤ (s.port n).stamps.length) :
    s.stampSent n stamp x = s.raise (E.ETH n) 1 := by
  simp [State.stampSent, hp, hq, ho, hl]

theorem TxProg.sentFrame_none (h : x.frame.ptp = none) : x.sentFrame stamp = x.frame := by simp [TxProg.sentFrame, h]

theorem TxProg.sentFrame_twoStep (h : x.frame.ptp = some pt) (ho : pt.oneStep = false) : x.sentFrame stamp = x.frame := by
  simp [TxProg.sentFrame, h, ho]

/-! ### FRAME_TRANSMITTED, case by case -/

section Sent

variable {ns frac : Nat} (hx : (s.port n).inProg = some x)

include hx

theorem State.transmitted_txok : (s.transmitted n ns frac).val (Reg.ETH_PnTXOK n) = min (s.val (Reg.ETH_PnTXOK n) + 1) 0xFFFFFFFF := by
  have he : Reg.ETH_PnTXOK n ≠ Reg.ETH_PnERRSTAT n := by unfold Reg.ETH_PnTXOK Reg.ETH_PnERRSTAT; omega
  have hm : Reg.ETH_PnTXOK n ≠ Reg.EVC_MERGEDCNT := by unfold Reg.ETH_PnTXOK Reg.EVC_MERGEDCNT; omega
  rw [State.transmitted_eq hx rfl, State.startTx_val, State.val_of_reg (State.stampSent_reg_other he hm), State.frameLeft_txok]

theorem State.transmitted_port_other (h : m ≠ n) : (s.transmitted n ns frac).port m = s.port m := by
  rw [State.transmitted_eq hx rfl, State.startTx_port_other h, State.stampSent_port_other h, State.frameLeft_port_other h]

theorem State.transmitted_regs : RegsBut [Reg.ETH_PnTXOK n, Reg.ETH_PnERRSTAT n, Reg.EVC_MERGEDCNT] s (s.transmitted n ns frac) := by
  intro a ha
  simp only [List.mem_cons, List.not_mem_nil, or_false, not_or] at ha
  obtain ⟨hok, he, hm⟩ := ha
  rw [State.transmitted_eq hx rfl, State.startTx_reg, State.stampSent_reg_other he hm, State.frameLeft_reg_other hok]

/-- Every frame is recorded as it leaves. -/
theorem State.transmitted_out (hs : stamp = 16 * ns + frac + s.val (Reg.ETH_PnTSLATTX n) % 65536) :
    ((s.transmitted n ns frac).port n).out = (s.port n).out ++ [x.sentFrame stamp] := by
  rw [State.transmitted_eq hx hs, State.startTx_out, State.stampSent_out, State.frameLeft_port]

theorem State.transmitted_stamps_none (h : x.frame.ptp = none) : ((s.transmitted n ns frac).port n).stamps = (s.port n).stamps := by
  rw [State.transmitted_eq hx rfl, State.startTx_stamps, State.stampSent_none h, State.frameLeft_port]

theorem State.transmitted_stamps_room (hs : stamp = 16 * ns + frac + s.val (Reg.ETH_PnTSLATTX n) % 65536) (hp : x.frame.ptp = some pt)
    (hq : x.queue = 1) (ho : pt.oneStep = false) (hl : (s.port n).stamps.length < 64) :
    ((s.transmitted n ns frac).port n).stamps = (s.port n).stamps ++ [txStampOf pt stamp] := by
  rw [State.transmitted_eq hx hs, State.startTx_stamps, State.stampSent_room hp hq ho (by rwa [State.frameLeft_port]), State.port_setPort_same,
    State.frameLeft_port]

/-- A stamp that finds the FIFO full is discarded with TSOVF. -/
theorem State.transmitted_full (hp : x.frame.ptp = some pt) (hq : x.queue = 1) (ho : pt.oneStep = false) (hl : 64 ≤ (s.port n).stamps.length) :
    ((s.transmitted n ns frac).port n).stamps = (s.port n).stamps ∧
      ((s.transmitted n ns frac).val (Reg.ETH_PnERRSTAT n)).testBit 1 = true := by
  have hw : (E.ETH n).addr / 1048576 % 32 = 2 := by show Reg.ETH_PnERRSTAT n / 1048576 % 32 = 2; unfold Reg.ETH_PnERRSTAT; omega
  rw [State.transmitted_eq hx rfl, State.startTx_stamps, State.startTx_val, State.stampSent_full hp hq ho (by rwa [State.frameLeft_port])]
  exact ⟨by rw [State.raise_port, State.frameLeft_port], State.raise_bit hw (by decide) (by decide)⟩

end Sent

theorem exec_frameTransmitted {ns frac : Nat} (h : s.powered) :
    exec (.frameTransmitted n ns frac) s = .next ((s.advanceNs ns).transmitted n ns frac) := by
  show execFrameTransmitted n ns frac s = _
  exact State.liveAt_powered h

theorem exec_frameTransmitted_frame {ns frac : Nat} (h : exec (.frameTransmitted n ns frac) s = .next t) :
    Frame [.now, .sys, .eth, .evc] [.ETH, .EVC] s t :=
  frame_of_kept (execFrameTransmitted_kept Sub.refl h) (by decide)

/-! ### TX_STAMP_READ -/

theorem exec_txStampRead {req : Requester} (h : s.powered) (hr : s.mayRead req (Reg.ETH_PnTXTSHI n)) :
    exec (.txStampRead req n) s = .next (s.readTxStamp n) := by
  show execTxStampRead req n s = _
  rw [execTxStampRead, State.live_powered h, State.readBy_may hr]

theorem State.readTxStamp_port : (s.readTxStamp n).port n = { s.port n with stamps := (s.port n).stamps.drop 1 } := by
  unfold State.readTxStamp
  rw [State.answer_port, State.port_setPort_same]

/-- With VALID 0 the read removes nothing. -/
theorem State.readTxStamp_port_empty (h : (s.port n).stamps = []) : (s.readTxStamp n).port n = s.port n := by
  rw [State.readTxStamp_port, h, List.drop_nil, ← h]

theorem State.readTxStamp_port_other (h : m ≠ n) : (s.readTxStamp n).port m = s.port m := State.port_setPort_other h

theorem State.readTxStamp_frame : Frame [.eth, .hif] [] s (s.readTxStamp n) :=
  frame_of_kept (State.readTxStamp_kept Sub.refl kept_refl) (by decide)

/-- VALID reads 0 from an empty FIFO alone. -/
theorem stampHi_valid_zero {l : List TxStamp} (h : bitAt (stampHi l) 31 = 0) : l = [] := by
  cases l with
  | nil => rfl
  | cons t r =>
    rw [bitAt_div, stampHi] at h
    omega

/-! ### The statement -/

/-- Settles O10: the frame leaves, its stamp is dealt with, and the next frame starts; each part is read off on its own. -/
theorem framesTransmitted : Obligations.FramesTransmitted := by
  refine ⟨fun s n ns frac hp => ⟨fun hi => ?_, fun x hx => ?_⟩, fun s req n hp hr => ?_⟩
  · rw [exec_frameTransmitted hp, State.transmitted_idle (by rwa [State.advanceNs_port])]
  · have hx' : ((s.advanceNs ns).port n).inProg = some x := by rwa [State.advanceNs_port]
    refine ⟨_, exec_frameTransmitted hp, State.transmitted_txok hx', fun hn => ?_, fun pt hpt hq ho => ?_,
      fun m hm => State.transmitted_port_other hx' hm, State.transmitted_regs hx', exec_frameTransmitted_frame (exec_frameTransmitted hp)⟩
    · rw [State.transmitted_out hx' rfl, TxProg.sentFrame_none hn]
      exact ⟨rfl, State.transmitted_stamps_none hx' hn⟩
    · rw [State.transmitted_out hx' rfl, TxProg.sentFrame_twoStep hpt ho]
      exact ⟨rfl, State.transmitted_stamps_room hx' rfl hpt hq ho, State.transmitted_full hx' hpt hq ho⟩
  · exact ⟨_, exec_txStampRead hp hr, rfl, fun hv => State.readTxStamp_port_empty (stampHi_valid_zero hv), State.readTxStamp_port,
      fun m hm => State.readTxStamp_port_other hm, fun a _ => rfl, State.readTxStamp_frame⟩

end Sys2Proof.Machine
end

section
/-!
SUPPORT and PROOF. The tick of the time base: what a request for an increment or a step leaves pending, what the tick that follows does
with it, and the statement about both (chapter 04).
-/
namespace Sys2Proof.Machine

variable {s t : State} {a v : Nat} {set : Bool} {req : Requester}

/-! ### A flag read after a write to its register -/

theorem State.flag_setFld_same {f : Fld} {x : Nat} (h : f.lo + f.width ≤ 32) : (s.setFld a f x).flag a f = (x % 2 ^ f.width == 1) := by
  unfold State.flag; rw [State.fld_setFld_same h]

theorem State.flag_setFld_other {f g : Fld} {x : Nat} (h : f.lo + f.width ≤ 32) (d : g.lo + g.width ≤ f.lo ∨ f.lo + f.width ≤ g.lo) :
    (s.setFld a f x).flag a g = s.flag a g := by
  unfold State.flag; rw [State.fld_setFld_other h d]

/-! ### What is asked for (R79, R81) -/

theorem State.writeIncri_incri : (s.writeIncri v).val Reg.TB_INCRI = v % 256 := by
  unfold State.writeIncri
  rw [State.val_of_reg (State.reg_setFld_other (by decide)), State.val_setVal_small (by omega)]

theorem State.writeIncri_incrpend : (s.writeIncri v).flag Reg.TB_STAT F.TB_STAT_INCRPEND = true := State.flag_setFld_same (by decide)

theorem State.writeIncri_regs : RegsBut [Reg.TB_INCRI, Reg.TB_STAT] s (s.writeIncri v) := by
  intro a ha
  simp only [List.mem_cons, List.not_mem_nil, or_false, not_or] at ha
  obtain ⟨hincri, hstat⟩ := ha
  unfold State.writeIncri
  rw [State.reg_setFld_other hstat, State.reg_setVal_other hincri]

theorem State.writeIncri_frame : Frame [] [.TB] s (s.writeIncri v) := frame_of_kept (State.writeIncri_kept Sub.refl kept_refl) (by decide)

/-- A step recorded for the next tick. -/
def State.requestStep (s : State) (set : Bool) : State :=
  ({ s with tb := { s.tb with step := some set } }).setFld Reg.TB_STAT F.TB_STAT_STEPPEND 1

theorem State.requestStep_steppend : (s.requestStep set).flag Reg.TB_STAT F.TB_STAT_STEPPEND = true := State.flag_setFld_same (by decide)

theorem State.requestStep_regs : RegsBut [Reg.TB_STAT] s (s.requestStep set) := fun _ ha => State.reg_setFld_other (by simpa using ha)

theorem State.requestStep_frame : Frame [.tb] [.TB] s (s.requestStep set) :=
  frame_of_kept (m := 8589934608) (State.setFld_kept rfl rfl (by decide) (kept_tb (by decide) kept_refl)) (by decide)

/-- A word with SET or ADJ alone, over no other request and with SETNS below a second for SET, asks for a step. -/
theorem State.writeStepcmd_accepted (hz : v % 4 ≠ 0) (hb : v % 4 ≠ 3) (hs : s.tb.step = none)
    (hns : v % 4 = 1 → s.val Reg.TB_SETNS < 1000000000) : s.writeStepcmd v = s.requestStep (decide (v % 4 = 1)) := by
  unfold State.writeStepcmd State.requestStep
  obtain h | h : v % 4 = 1 ∨ v % 4 = 2 := by omega
  · have hset : bitAt v 0 = 1 := by rw [bitAt_zero]; omega
    have hadj : bitAt v 1 = 0 := by rw [bitAt_div]; omega
    simp [hset, hadj, hs, h, hns h]
  · have hset : bitAt v 0 = 0 := by rw [bitAt_zero]; omega
    have hadj : bitAt v 1 = 1 := by rw [bitAt_div]; omega
    simp [hset, hadj, hs, h]

/-- A word with both bits, one over a pending request, and a SET to a SETNS of a second or more are discarded with CFGERR. -/
theorem State.writeStepcmd_discarded (hz : v % 4 ≠ 0)
    (h : v % 4 = 3 ∨ s.tb.step ≠ none ∨ (v % 4 = 1 ∧ 1000000000 ≤ s.val Reg.TB_SETNS)) : s.writeStepcmd v = s.cfgErr E.TB := by
  have hasked : ¬ (¬ bitAt v 0 = 1 ∧ ¬ bitAt v 1 = 1) := by rw [bitAt_zero, bitAt_div]; omega
  have hbad : bitAt v 0 = 1 ∧ bitAt v 1 = 1 ∨ s.tb.step.isSome = true ∨ (bitAt v 0 = 1 ∧ 1000000000 ≤ s.val Reg.TB_SETNS) := by
    obtain h | h | ⟨h, hns⟩ := h
    · exact .inl (by rw [bitAt_zero, bitAt_div]; omega)
    · exact .inr (.inl (Option.isSome_iff_ne_none.mpr h))
    · exact .inr (.inr ⟨by rw [bitAt_zero]; omega, hns⟩)
  unfold State.writeStepcmd
  simp only [Bool.and_eq_true, Bool.or_eq_true, Bool.not_eq_true', decide_eq_true_eq, decide_eq_false_iff_not, or_assoc]
  rw [if_neg hasked, if_pos hbad]

theorem State.cfgErr_tb_bit : ((s.cfgErr E.TB).val Reg.TB_ERRSTAT).testBit 3 = true :=
  State.raise_bit (e := E.TB) (k := 1) rfl (by decide) (by decide)

theorem State.cfgErr_tb_frame : Frame [.sys, .evc] [.TB, .EVC] s (s.cfgErr E.TB) :=
  frame_of_kept (m := 70377334636552) (State.cfgErr_kept rfl rfl (by decide) kept_refl) (by decide)

/-! ### A pending increment is committed (R79) -/

/-- An increment in force, in 2^-24 ns per tick. -/
def State.withIncr (s : State) (n : Nat) : State := { s with tb := { s.tb with incr := n } }

@[simp] theorem State.withIncr_reg {n : Nat} : (s.withIncr n).reg a = s.reg a := rfl

@[simp] theorem State.withIncr_val {n : Nat} : (s.withIncr n).val a = s.val a := State.val_of_reg State.withIncr_reg

@[simp] theorem State.withIncr_flag {n : Nat} {f : Fld} : (s.withIncr n).flag a f = s.flag a f := State.flag_of_reg State.withIncr_reg

theorem State.incrWords_of_reg (hi : t.reg Reg.TB_INCRI = s.reg Reg.TB_INCRI) (hf : t.reg Reg.TB_INCRF = s.reg Reg.TB_INCRF) :
    t.incrWords = s.incrWords := by
  unfold State.incrWords; rw [State.val_of_reg hi, State.val_of_reg hf]

/-- Nothing is pending, or the increment comes into force, or it is refused with INCRRNG. -/
theorem State.commitIncr_cases (s : State) :
    (s.flag Reg.TB_STAT F.TB_STAT_INCRPEND = false ∧ s.commitIncr = s) ∨
    (s.flag Reg.TB_STAT F.TB_STAT_INCRPEND = true ∧ incrOk s.incrWords = true ∧
      s.commitIncr = (s.setFld Reg.TB_STAT F.TB_STAT_INCRPEND 0).withIncr (s.incrWords / 256)) ∨
    (s.flag Reg.TB_STAT F.TB_STAT_INCRPEND = true ∧ incrOk s.incrWords = false ∧
      s.commitIncr = (s.setFld Reg.TB_STAT F.TB_STAT_INCRPEND 0).raise E.TB 0) := by
  unfold State.commitIncr
  split
  case isFalse h => exact .inl ⟨by simpa using h, rfl⟩
  case isTrue h =>
    dsimp only
    split
    case isTrue ho => exact .inr (.inl ⟨h, ho, rfl⟩)
    case isFalse ho => exact .inr (.inr ⟨h, by simpa using ho, rfl⟩)

@[simp] theorem State.commitIncr_now : s.commitIncr.now = s.now := by
  obtain ⟨-, h⟩ | ⟨-, -, h⟩ | ⟨-, -, h⟩ := s.commitIncr_cases <;> simp [h, State.withIncr]

/-- The increment in force changes when one in range is pending; nothing else of the time base does. -/
theorem State.commitIncr_tb : s.commitIncr.tb = { s.tb with
    incr := if s.flag Reg.TB_STAT F.TB_STAT_INCRPEND = true ∧ incrOk s.incrWords = true then s.incrWords / 256 else s.tb.incr } := by
  obtain ⟨hp, h⟩ | ⟨hp, ho, h⟩ | ⟨hp, ho, h⟩ := s.commitIncr_cases
  · simp [h, hp]
  · simp [h, hp, ho, State.withIncr]
  · simp [h, ho]

theorem State.commitIncr_tb_taken (hp : s.flag Reg.TB_STAT F.TB_STAT_INCRPEND = true) (ho : incrOk s.incrWords = true) :
    s.commitIncr.tb = { s.tb with incr := s.incrWords / 256 } := by
  rw [State.commitIncr_tb, if_pos ⟨hp, ho⟩]

theorem State.commitIncr_tb_refused (ho : incrOk s.incrWords = false) : s.commitIncr.tb = s.tb := by
  rw [State.commitIncr_tb, if_neg (by simp [ho])]

theorem State.commitIncr_reg_other (hs : a ≠ Reg.TB_STAT) (he : a ≠ Reg.TB_ERRSTAT) (hm : a ≠ Reg.EVC_MERGEDCNT) :
    s.commitIncr.reg a = s.reg a := by
  obtain ⟨-, h⟩ | ⟨-, -, h⟩ | ⟨-, -, h⟩ := s.commitIncr_cases <;> rw [h]
  · rw [State.withIncr_reg, State.reg_setFld_other hs]
  · rw [State.raise_reg_other he hm, State.reg_setFld_other hs]

/-- An increment in range writes STAT alone. -/
theorem State.commitIncr_regs (ho : incrOk s.incrWords = true) : RegsBut [Reg.TB_STAT] s s.commitIncr := by
  intro a ha
  obtain ⟨-, h⟩ | ⟨-, -, h⟩ | ⟨-, hn, -⟩ := s.commitIncr_cases
  · rw [h]
  · rw [h, State.withIncr_reg, State.reg_setFld_other (by simpa using ha)]
  · rw [ho] at hn; cases hn

/-- The tick ends what was pending, taken or refused. -/
theorem State.commitIncr_incrpend : s.commitIncr.flag Reg.TB_STAT F.TB_STAT_INCRPEND = false := by
  obtain ⟨hp, h⟩ | ⟨-, -, h⟩ | ⟨-, -, h⟩ := s.commitIncr_cases <;> rw [h]
  · exact hp
  · rw [State.withIncr_flag]
    exact State.flag_setFld_same (by decide)
  · rw [State.flag_of_reg (State.raise_reg_other (by decide) (by decide))]
    exact State.flag_setFld_same (by decide)

@[simp] theorem State.commitIncr_steppend : s.commitIncr.flag Reg.TB_STAT F.TB_STAT_STEPPEND = s.flag Reg.TB_STAT F.TB_STAT_STEPPEND := by
  obtain ⟨-, h⟩ | ⟨-, -, h⟩ | ⟨-, -, h⟩ := s.commitIncr_cases <;> rw [h]
  · rw [State.withIncr_flag, State.flag_setFld_other (by decide) (by decide)]
  · rw [State.flag_of_reg (State.raise_reg_other (by decide) (by decide))]
    exact State.flag_setFld_other (by decide) (by decide)

/-- A sticky bit of TB stays set when another is set. -/
theorem State.raise_tb_keeps_bit {n i : Nat} (hi : i < 32) (h : (s.val Reg.TB_ERRSTAT).testBit i = true) :
    ((s.raise E.TB n).val Reg.TB_ERRSTAT).testBit i = true := by
  have hv : (s.raise E.TB n).val Reg.TB_ERRSTAT = (s.val Reg.TB_ERRSTAT ||| 2 ^ n) % 2 ^ 32 :=
    State.raise_val (e := E.TB) (k := 1) rfl (by decide)
  rw [hv, Nat.testBit_mod_two_pow, Nat.testBit_or, h]
  simp [hi]

theorem State.commitIncr_keeps_bit {i : Nat} (hi : i < 32) (hb : (s.val Reg.TB_ERRSTAT).testBit i = true) :
    (s.commitIncr.val Reg.TB_ERRSTAT).testBit i = true := by
  have hfld {u : State} : (u.setFld Reg.TB_STAT F.TB_STAT_INCRPEND 0).val Reg.TB_ERRSTAT = u.val Reg.TB_ERRSTAT :=
    State.val_of_reg (State.reg_setFld_other (by decide))
  obtain ⟨-, h⟩ | ⟨-, -, h⟩ | ⟨-, -, h⟩ := s.commitIncr_cases <;> rw [h]
  · exact hb
  · rw [State.withIncr_val, hfld]
    exact hb
  · exact State.raise_tb_keeps_bit hi (by rwa [hfld])

/-- INCRRNG is set for a pending increment out of range. -/
theorem State.commitIncr_incrrng (hp : s.flag Reg.TB_STAT F.TB_STAT_INCRPEND = true) (ho : incrOk s.incrWords = false) :
    (s.commitIncr.val Reg.TB_ERRSTAT).testBit 0 = true := by
  obtain ⟨hn, -⟩ | ⟨-, hn, -⟩ | ⟨-, -, h⟩ := s.commitIncr_cases
  · rw [hp] at hn; cases hn
  · rw [ho] at hn; cases hn
  · rw [h]; exact State.raise_bit (e := E.TB) (k := 1) rfl (by decide) (by decide)

/-! ### The time after a tick (R78, R81) -/

theorem State.nowAfterTick_plain (h : s.tb.step = none) : s.nowAfterTick = (s.now + s.tb.incr) % (2 ^ 48 * 1000000000 * 2 ^ 24) := by
  unfold State.nowAfterTick
  rw [h]
  exact congrArg (· % _) (Int.toNat_natCast _)

/-- The second and nanosecond that SET names, in ns. -/
def State.setTime (s : State) : Nat := (s.val Reg.TB_SETSLO + s.val Reg.TB_SETSHI % 65536 * 2 ^ 32) * 1000000000 + s.val Reg.TB_SETNS

theorem State.nowAfterTick_set (h : s.tb.step = some true) (hr : s.setTime < 2 ^ 48 * 1000000000) : s.nowAfterTick = s.setTime * 2 ^ 24 := by
  have hc : ((s.setTime : Int) * 2 ^ 24).toNat = s.setTime * 2 ^ 24 := by omega
  have ht : s.nowAfterTick = ((s.setTime : Int) * 2 ^ 24).toNat % (2 ^ 48 * 1000000000 * 2 ^ 24) := by
    unfold State.nowAfterTick; rw [h]; rfl
  rw [ht, hc, Nat.mod_eq_of_lt (by omega)]

theorem State.nowAfterTick_adj {x : Nat} (h : s.tb.step = some false) (hx : x < 2 ^ 48 * 1000000000 * 2 ^ 24)
    (he : (x : Int) = s.now + s.tb.incr + signed 32 (s.val Reg.TB_ADJNS) * 2 ^ 24) : s.nowAfterTick = x := by
  have ht : s.nowAfterTick =
      ((s.now + s.tb.incr : Nat) + signed 32 (s.val Reg.TB_ADJNS) * 2 ^ 24 : Int).toNat % (2 ^ 48 * 1000000000 * 2 ^ 24) := by
    unfold State.nowAfterTick; rw [h]
  rw [ht, Int.natCast_add, ← he, Int.toNat_natCast, Nat.mod_eq_of_lt hx]

/-! ### An applied step (R81) -/

/-- What an applied step writes in the time base itself: the request is over, the next echo tells of it, and it is counted and marked. -/
def State.markStep (s : State) : State :=
  ((({ s with tb := { s.tb with step := none, stepSinceEcho := true } }).setFld Reg.TB_STAT F.TB_STAT_STEPPEND 0).bump
    Reg.TB_STEPCNT).raise E.TB 1

/-- What an applied step does to the other blocks leaves the time base alone. -/
theorem State.stepped_kept_markStep (s : State) : Kept 915979088997032 s.markStep s.stepped :=
  State.fltTimeStep_kept rfl (State.capTimeStep_kept rfl (State.discardAtStep_kept rfl kept_refl))

@[simp] theorem State.stepped_now : s.stepped.now = s.now := by
  rw [s.stepped_kept_markStep.now.resolve_left (by decide)]
  simp [State.markStep]

@[simp] theorem State.stepped_tb : s.stepped.tb = { s.tb with step := none, stepSinceEcho := true } := by
  rw [s.stepped_kept_markStep.tb.resolve_left (by decide)]
  simp [State.markStep]

theorem State.stepped_reg_markStep (ha : a / 1048576 % 32 = 1) : s.stepped.reg a = s.markStep.reg a :=
  reg_of_kept s.stepped_kept_markStep a ha (by decide)

/-- A register of the time base that a step does not write. -/
theorem State.stepped_reg_other (ha : a / 1048576 % 32 = 1) (hs : a ≠ Reg.TB_STAT) (hc : a ≠ Reg.TB_STEPCNT) (he : a ≠ Reg.TB_ERRSTAT) :
    s.stepped.reg a = s.reg a := by
  have hm : a ≠ Reg.EVC_MERGEDCNT := by rintro rfl; revert ha; decide
  rw [State.stepped_reg_markStep ha, State.markStep, State.raise_reg_other he hm, State.reg_bump_other hc, State.reg_setFld_other hs]
  rfl

theorem State.stepped_stat : s.stepped.reg Reg.TB_STAT = (s.setFld Reg.TB_STAT F.TB_STAT_STEPPEND 0).reg Reg.TB_STAT := by
  rw [State.stepped_reg_markStep (by decide), State.markStep, State.raise_reg_other (by decide) (by decide), State.reg_bump_other (by decide)]
  rfl

@[simp] theorem State.stepped_steppend : s.stepped.flag Reg.TB_STAT F.TB_STAT_STEPPEND = false := by
  rw [State.flag_of_reg State.stepped_stat]
  exact State.flag_setFld_same (by decide)

@[simp] theorem State.stepped_incrpend : s.stepped.flag Reg.TB_STAT F.TB_STAT_INCRPEND = s.flag Reg.TB_STAT F.TB_STAT_INCRPEND := by
  rw [State.flag_of_reg State.stepped_stat]
  exact State.flag_setFld_other (by decide) (by decide)

theorem State.stepped_incrWords : s.stepped.incrWords = s.incrWords :=
  State.incrWords_of_reg (State.stepped_reg_other (by decide) (by decide) (by decide) (by decide))
    (State.stepped_reg_other (by decide) (by decide) (by decide) (by decide))

theorem State.stepped_stepcnt : s.stepped.val Reg.TB_STEPCNT = min (s.val Reg.TB_STEPCNT + 1) 0xFFFFFFFF := by
  have hf {u : State} : (u.setFld Reg.TB_STAT F.TB_STAT_STEPPEND 0).val Reg.TB_STEPCNT = u.val Reg.TB_STEPCNT :=
    State.val_of_reg (State.reg_setFld_other (by decide))
  rw [State.val_of_reg (State.stepped_reg_markStep (by decide)), State.markStep, State.val_of_reg (State.raise_reg_other (by decide) (by decide)),
    State.val_bump_same, hf]
  rfl

theorem State.stepped_stepbit : (s.stepped.val Reg.TB_ERRSTAT).testBit 1 = true := by
  rw [State.val_of_reg (State.stepped_reg_markStep (by decide))]
  exact State.raise_bit (e := E.TB) (k := 1) rfl (by decide) (by decide)

/-! ### The tick (R78, R79, R81) -/

/-- The time moved by the tick's step, with the timers that count elapsed time carried over it. -/
def State.stepTime (s : State) : State :=
  ({ s.mtrTimeStep with now := s.nowAfterTick }).shiftTimers ((s.nowAfterTick / 2 ^ 24 : Nat) - ((s.now + s.tb.incr) / 2 ^ 24 : Nat))

theorem State.tbTick_step (h : s.tb.step = some set) : s.tbTick = s.stepTime.stepped.commitIncr := by
  unfold State.tbTick
  simp only [h, Option.isSome_some, if_true]
  rfl

theorem State.tbTick_plain (h : s.tb.step = none) : s.tbTick = State.commitIncr { s with now := s.nowAfterTick } := by
  unfold State.tbTick
  simp only [h, Option.isSome_none, Bool.false_eq_true, if_false]

/-- Timers of the time base are carried over a step; the increment and the rest of it stay. -/
theorem State.shiftTimers_tb (s : State) (d : Int) :
    (s.shiftTimers d).tb = { s.tb with holdFrom := s.tb.holdFrom.map (carried d), lowSince := s.tb.lowSince.map (carried d) } := by
  unfold State.shiftTimers
  refine (kept_foldl (m := 524288) kept_refl fun x n k => ?_).tb.resolve_left (by decide)
  dsimp only
  split
  · exact State.setTarget_kept rfl k
  · exact k

theorem State.mtrTimeStep_kept_self (s : State) : Kept 642114793332744 s s.mtrTimeStep := State.mtrTimeStep_kept rfl kept_refl

theorem State.stepTime_tb_incr : s.stepTime.tb.incr = s.tb.incr := by
  unfold State.stepTime
  rw [State.shiftTimers_tb]
  dsimp only
  rw [s.mtrTimeStep_kept_self.tb.resolve_left (by decide)]

theorem State.stepTime_now : s.stepTime.now = s.nowAfterTick :=
  (State.shiftTimers_kept (m := 12142776) rfl kept_refl).now.resolve_left (by decide)

/-- No register of the time base is written by what a step does to the meters and the timers. -/
theorem State.stepTime_kept (s : State) : Kept 642114802772156 s s.stepTime :=
  State.shiftTimers_kept rfl (kept_now (by decide) (State.mtrTimeStep_kept rfl kept_refl))

theorem State.stepTime_reg (ha : a / 1048576 % 32 = 1) : s.stepTime.reg a = s.reg a := reg_of_kept s.stepTime_kept a ha (by decide)

theorem State.stepTime_incrWords : s.stepTime.incrWords = s.incrWords :=
  State.incrWords_of_reg (State.stepTime_reg (by decide)) (State.stepTime_reg (by decide))

section Stepped

variable (h : s.tb.step = some set)

include h

theorem State.tbTick_step_now : s.tbTick.now = s.nowAfterTick := by
  rw [State.tbTick_step h, State.commitIncr_now, State.stepped_now, State.stepTime_now]

theorem State.tbTick_step_incr : s.tbTick.tb.incr =
    if s.flag Reg.TB_STAT F.TB_STAT_INCRPEND = true ∧ incrOk s.incrWords = true then s.incrWords / 256 else s.tb.incr := by
  have hp : s.stepTime.flag Reg.TB_STAT F.TB_STAT_INCRPEND = s.flag Reg.TB_STAT F.TB_STAT_INCRPEND :=
    State.flag_of_reg (State.stepTime_reg (by decide))
  rw [State.tbTick_step h, State.commitIncr_tb, State.stepped_incrpend, State.stepped_incrWords, State.stepped_tb, hp, State.stepTime_incrWords,
    State.stepTime_tb_incr]

theorem State.tbTick_step_over : s.tbTick.tb.step = none ∧ s.tbTick.tb.stepSinceEcho = true := by
  rw [State.tbTick_step h, State.commitIncr_tb, State.stepped_tb]
  exact ⟨rfl, rfl⟩

theorem State.tbTick_step_steppend : s.tbTick.flag Reg.TB_STAT F.TB_STAT_STEPPEND = false := by
  rw [State.tbTick_step h, State.commitIncr_steppend, State.stepped_steppend]

theorem State.tbTick_step_incrpend : s.tbTick.flag Reg.TB_STAT F.TB_STAT_INCRPEND = false := by
  rw [State.tbTick_step h, State.commitIncr_incrpend]

theorem State.tbTick_step_stepbit : (s.tbTick.val Reg.TB_ERRSTAT).testBit 1 = true := by
  rw [State.tbTick_step h]
  exact State.commitIncr_keeps_bit (by decide) State.stepped_stepbit

theorem State.tbTick_step_stepcnt : s.tbTick.val Reg.TB_STEPCNT = min (s.val Reg.TB_STEPCNT + 1) 0xFFFFFFFF := by
  rw [State.tbTick_step h, State.val_of_reg (State.commitIncr_reg_other (by decide) (by decide) (by decide)), State.stepped_stepcnt,
    State.val_of_reg (State.stepTime_reg (by decide))]

end Stepped

theorem State.tbTick_plain_frame (h : s.tb.step = none) : Frame [.now, .tb, .sys, .evc] [.TB, .EVC] s s.tbTick := by
  rw [State.tbTick_plain h]
  exact frame_of_kept (m := 70377334636572) (State.commitIncr_kept rfl (kept_now (by decide) kept_refl)) (by decide)

/-! ### The four instructions -/

theorem exec_incriWrite (h : s.powered) (hw : s.mayWrite req Reg.TB_INCRI v) : exec (.incriWrite req v) s = .next (s.writeIncri v) := by
  show execIncriWrite req v s = _
  rw [execIncriWrite, State.live_powered h, State.writeBy_may hw]

theorem exec_stepcmd (h : s.powered) (hw : s.mayWrite req Reg.TB_STEPCMD v) : exec (.stepcmd req v) s = .next (s.writeStepcmd v) := by
  show execStepcmd req v s = _
  rw [execStepcmd, State.live_powered h, State.writeBy_may hw]

theorem exec_incrementCommit (h : s.powered) (hp : s.flag Reg.TB_STAT F.TB_STAT_INCRPEND = true) :
    exec .incrementCommit s = .next s.tbTick := by
  show execIncrementCommit s = _
  rw [execIncrementCommit, State.live_powered h, if_pos hp]

theorem exec_stepApply (h : s.powered) (hs : s.tb.step = some set) : exec .stepApply s = .next s.tbTick := by
  show execStepApply s = _
  rw [execStepApply, State.live_powered h, if_pos (by rw [hs]; rfl)]

theorem exec_stepApply_frame (h : exec .stepApply s = .next t) :
    Frame [.now, .sys, .tb, .eth, .snap, .det, .alm, .flt, .mtr, .cap, .lat, .evc, .chd, .ldg, .upd]
      [.SYS, .TB, .ETH, .SNAP, .TOPO, .DET, .MODAL, .ALM, .AFE, .FLT, .MTR, .CAP, .LAT, .EVC, .TSK, .CHD, .LDG, .KEY, .UPD, .HIF, .NOC] s t :=
  frame_of_kept (execStepApply_kept Sub.refl h) (by decide)

/-! ### The statement -/

/-- Settles O17: each request waits in its register and in STEPPEND or INCRPEND; the tick moves the time, applies the step, and commits
last. -/
theorem timeRequestsAndTheirTick : Obligations.TimeRequestsAndTheirTick := by
  refine ⟨fun s req v hp hw => ?_, fun s req v hp hw hz => ⟨fun hb hs hns => ?_, fun hbad => ?_⟩, fun s hp hi hs => ?_, fun s set hp hs => ?_⟩
  · exact ⟨_, exec_incriWrite hp hw, State.writeIncri_incri, State.writeIncri_incrpend, rfl, State.writeIncri_regs, State.writeIncri_frame⟩
  · rw [exec_stepcmd hp hw, State.writeStepcmd_accepted hz hb hs hns]
    exact ⟨_, rfl, rfl, State.requestStep_steppend, State.requestStep_regs, State.requestStep_frame⟩
  · rw [exec_stepcmd hp hw, State.writeStepcmd_discarded hz hbad]
    exact ⟨_, rfl, State.cfgErr_tb, State.cfgErr_tb_bit, State.cfgErr_tb_frame⟩
  · refine ⟨_, exec_incrementCommit hp hi, ?_, ?_, fun ho => ?_, fun ho => ?_, State.tbTick_plain_frame hs⟩ <;> rw [State.tbTick_plain hs]
    · rw [State.commitIncr_now, State.nowAfterTick_plain hs]
    · exact State.commitIncr_incrpend
    · exact ⟨State.commitIncr_tb_taken hi ho, State.commitIncr_regs ho⟩
    · exact ⟨State.commitIncr_tb_refused ho, State.commitIncr_incrrng hi ho⟩
  · exact ⟨_, exec_stepApply hp hs, fun hset hr => (State.tbTick_step_now hs).trans (State.nowAfterTick_set (hset ▸ hs) hr),
      fun hset x hx he => (State.tbTick_step_now hs).trans (State.nowAfterTick_adj (hset ▸ hs) hx he), State.tbTick_step_steppend hs,
      State.tbTick_step_stepbit hs, State.tbTick_step_incrpend hs, State.tbTick_step_incr hs, (State.tbTick_step_over hs).1,
      (State.tbTick_step_over hs).2, State.tbTick_step_stepcnt hs, exec_stepApply_frame (exec_stepApply hp hs)⟩

end Sys2Proof.Machine
end

section
/-!
SUPPORT and PROOF. The capture triggers: what each operation that a trigger runs through leaves of the other buffers and of the registers,
what a buffer makes of one trigger by the state it is in, and the statement about the triggers of one cycle (chapter 14).
-/
namespace Sys2Proof.Machine

variable {s t : State} {a b j n code cause : Nat} {x : CapBuf} {g : CapTrig} {l : List CapTrig} {as : List Nat}

/-! ### A buffer read after an update -/

@[simp] theorem State.buf_setBuf_same : (s.setBuf b x).buf b = x := tget_tput_same

theorem State.buf_setBuf_other (h : j ≠ b) : (s.setBuf b x).buf j = s.buf j := tget_tput_other h

theorem State.buf_of_cap (h : t.cap = s.cap) : t.buf j = s.buf j := by unfold State.buf; rw [h]

@[simp] theorem State.bump_buf : (s.bump a).buf j = s.buf j := rfl

@[simp] theorem State.bumpBy_buf : (s.bumpBy a n).buf j = s.buf j := rfl

@[simp] theorem State.advanceNs_buf : (s.advanceNs n).buf j = s.buf j := rfl

@[simp] theorem State.event_buf {src info : Nat} : (s.event src info).buf j = s.buf j := State.buf_of_cap State.event_cap

@[simp] theorem State.raise_buf {e : ErrReg} : (s.raise e n).buf j = s.buf j := State.buf_of_cap State.raise_cap

/-! ### What is left alone -/

/-- Of the capture engine and the registers, `t` differs from `s` at most in buffer `b` and in the registers at `as`. -/
structure OnlyBuf (as : List Nat) (b : Nat) (s t : State) : Prop where
  trigs : t.cap.trigs = s.cap.trigs
  mask : t.cap.mask = s.cap.mask
  others : ∀ j, j ≠ b → t.buf j = s.buf j
  regs : RegsBut as s t

namespace OnlyBuf

theorem refl : OnlyBuf as b s s := ⟨rfl, rfl, fun _ _ => rfl, fun _ _ => rfl⟩

theorem trans {u : State} (h : OnlyBuf as b s t) (k : OnlyBuf as b t u) : OnlyBuf as b s u where
  trigs := k.trigs.trans h.trigs
  mask := k.mask.trans h.mask
  others j hj := (k.others j hj).trans (h.others j hj)
  regs a ha := (k.regs a ha).trans (h.regs a ha)

theorem of_cap (hc : t.cap = s.cap) (hr : RegsBut as s t) : OnlyBuf as b s t :=
  ⟨by rw [hc], by rw [hc], fun _ _ => State.buf_of_cap hc, hr⟩

theorem setBuf : OnlyBuf as b s (s.setBuf b x) := ⟨rfl, rfl, fun _ hj => State.buf_setBuf_other hj, fun _ _ => rfl⟩

theorem bumpBy (ha : a ∈ as) : OnlyBuf as b s (s.bumpBy a n) :=
  of_cap rfl fun _ hr => State.reg_bumpBy_other (ne_of_mem_of_not_mem ha hr).symm

theorem bump (ha : a ∈ as) : OnlyBuf as b s (s.bump a) := bumpBy ha

theorem event {src info : Nat} (hm : Reg.EVC_MERGEDCNT ∈ as) : OnlyBuf as b s (s.event src info) :=
  of_cap State.event_cap fun _ hr => State.event_reg_other (ne_of_mem_of_not_mem hm hr).symm

theorem raise (he : E.CAP.addr ∈ as) (hm : Reg.EVC_MERGEDCNT ∈ as) : OnlyBuf as b s (s.raise E.CAP n) :=
  of_cap State.raise_cap fun _ hr => State.raise_reg_other (ne_of_mem_of_not_mem he hr).symm (ne_of_mem_of_not_mem hm hr).symm

/-- A buffer's selection of trigger sources is read from two registers. -/
theorem capSelected (h : OnlyBuf as b s t) (ht : Reg.CAP_BnTRIG b ∉ as) (hm : Reg.CAP_BnMASK b ∉ as) : t.capSelected b = s.capSelected b := by
  funext g
  unfold State.capSelected State.maskAct
  rw [State.val_of_reg (h.regs _ ht), State.fld_of_reg (h.regs _ hm)]

end OnlyBuf

/-! ### Marks -/

/-- What a mark holds of its trigger: time, source code, and whether it is the primary one. -/
def CapMark.key (m : CapMark) : Nat × Nat × Bool := (m.time, m.src, m.primary)

/-- The triggers that a buffer has marked. -/
def CapBuf.keys (x : CapBuf) : List (Nat × Nat × Bool) := x.marks.map CapMark.key

theorem CapBuf.keys_head (x : CapBuf) : x.marks.head?.map (fun m => (m.time, m.src, m.primary)) = x.keys.head? := List.head?_map.symm

theorem map_key_map {f : CapMark → CapMark} {l : List CapMark} (hf : ∀ m, (f m).key = m.key) :
    (l.map f).map CapMark.key = l.map CapMark.key := by
  rw [List.map_map]
  exact List.map_congr_left fun m _ => hf m

/-- A frame fixed in those marks that a condition picks changes no key. -/
theorem map_key_frames {c : CapMark → Prop} [DecidablePred c] {fr : CapMark → Option Nat} {l : List CapMark} :
    (l.map fun m => if c m then { m with frame := fr m } else m).map CapMark.key = l.map CapMark.key :=
  map_key_map fun m => by split <;> rfl

@[simp] theorem CapBuf.settleMarks_keys : (x.settleMarks n).keys = x.keys := by
  unfold CapBuf.settleMarks CapBuf.keys
  exact map_key_map fun m => by split <;> rfl

/-- A mark gets its frame, and the count its base, whatever is due. -/
theorem CapBuf.resolve_keys : x.resolve.1.keys = x.keys := by
  unfold CapBuf.resolve CapBuf.keys
  dsimp only
  repeat' split
  all_goals exact map_key_frames

theorem CapBuf.resolve_state : x.resolve.1.state = x.state := by
  unfold CapBuf.resolve
  dsimp only
  repeat' split
  all_goals rfl

/-! ### A buffer stops (R289, R300) -/

/-- A buffer stopped, before an archive write is looked at: its header written and its stop posted. -/
def State.capHeaded (s : State) (b cause : Nat) : State :=
  let x := (s.buf b).settleMarks s.free
  let s0 := { s with free := s.free + 1 }
  let s1 := s0.setBuf b { x with state := .stopped, cause := cause, acc := none, queues := [], baseAt := none }
  let s2 := s1.putDev (s1.capAddr b) (s1.capHeader b (s1.capRstart b))
  if s2.flag Reg.CAP_CTL F.CAP_CTL_STOPEV then s2.event 0x179 (b + cause * 16) else s2

/-- A stopped buffer stays so, or its archive write begins, or fails with ARCHFAIL. -/
theorem State.capHalt_cases (s : State) (b cause : Nat) :
    s.capHalt b cause = s.capHeaded b cause ∨
    s.capHalt b cause = (s.capHeaded b cause).setBuf b { (s.capHeaded b cause).buf b with state := .archiving } ∨
    s.capHalt b cause = (s.capHeaded b cause).raise E.CAP 2 := by
  have h : s.capHalt b cause =
      if !(s.capHeaded b cause).flag (Reg.CAP_BnCFG b) F.CAP_BnCFG_ARCH then s.capHeaded b cause
      else if (s.capHeaded b cause).archiveOk then
        (s.capHeaded b cause).setBuf b { (s.capHeaded b cause).buf b with state := .archiving }
      else (s.capHeaded b cause).raise E.CAP 2 := rfl
  rw [h]
  split
  · exact .inl rfl
  · split
    · exact .inr (.inl rfl)
    · exact .inr (.inr rfl)

theorem State.capHeaded_buf : (s.capHeaded b cause).buf b =
    { (s.buf b).settleMarks s.free with state := .stopped, cause := cause, acc := none, queues := [], baseAt := none } := by
  unfold State.capHeaded
  dsimp only
  split
  · rw [State.event_buf]
    exact State.buf_setBuf_same
  · exact State.buf_setBuf_same

theorem State.capHeaded_keys : ((s.capHeaded b cause).buf b).keys = (s.buf b).keys := by
  rw [State.capHeaded_buf]
  exact CapBuf.settleMarks_keys (n := s.free)

theorem State.capHalt_keys : ((s.capHalt b cause).buf b).keys = (s.buf b).keys := by
  obtain h | h | h := s.capHalt_cases b cause <;> rw [h]
  · exact State.capHeaded_keys
  · rw [State.buf_setBuf_same]
    exact State.capHeaded_keys
  · rw [State.raise_buf]
    exact State.capHeaded_keys

theorem State.capHalt_held : ((s.capHalt b cause).buf b).state.held = true := by
  obtain h | h | h := s.capHalt_cases b cause <;> rw [h]
  · rw [State.capHeaded_buf]; rfl
  · rw [State.buf_setBuf_same]; rfl
  · rw [State.raise_buf, State.capHeaded_buf]; rfl

namespace OnlyBuf

variable (he : E.CAP.addr ∈ as) (hm : Reg.EVC_MERGEDCNT ∈ as)

include hm in
theorem capHeaded : OnlyBuf as b s (s.capHeaded b cause) := by
  unfold State.capHeaded
  dsimp only
  have hb {y : CapBuf} {m : Mem} : OnlyBuf as b s { ({ s with free := s.free + 1 } : State).setBuf b y with devMem := m } :=
    trans (t := s.setBuf b y) setBuf (of_cap rfl fun _ _ => rfl)
  split
  · exact hb.trans (event hm)
  · exact hb

include he hm in
theorem capHalt : OnlyBuf as b s (s.capHalt b cause) := by
  obtain h | h | h := s.capHalt_cases b cause <;> rw [h]
  · exact capHeaded hm
  · exact (capHeaded hm).trans setBuf
  · exact (capHeaded hm).trans (raise he hm)

end OnlyBuf

/-! ### The marks looked at again (R292, R293) -/

/-- The buffer's marks looked at again, with TRIGCLIP for a primary frame no longer held. -/
def State.capResolved (s : State) (b : Nat) : State :=
  let s1 := s.setBuf b (s.buf b).resolve.1
  if (s.buf b).resolve.2 then s1.raise E.CAP 4 else s1

/-- Nothing stored, or the marks are looked at again and a full buffer stops. -/
theorem State.capCheck_cases (s : State) (b : Nat) :
    s.capCheck b = s ∨ s.capCheck b = s.capResolved b ∨
    ∃ cut, s.capCheck b = ((s.capResolved b).setBuf b { (s.capResolved b).buf b with extcut := cut }).capHalt b 1 := by
  have h : s.capCheck b =
      if (s.buf b).total = 0 then s
      else if ((s.capResolved b).capFull b).1 then
        ((s.capResolved b).setBuf b { (s.capResolved b).buf b with extcut := ((s.capResolved b).capFull b).2 }).capHalt b 1
      else s.capResolved b := rfl
  rw [h]
  split
  · exact .inl rfl
  · split
    · exact .inr (.inr ⟨_, rfl⟩)
    · exact .inr (.inl rfl)

theorem State.capCheck_empty (h : (s.buf b).total = 0) : s.capCheck b = s := by unfold State.capCheck; rw [if_pos h]

theorem State.capResolved_buf : (s.capResolved b).buf b = (s.buf b).resolve.1 := by
  unfold State.capResolved
  dsimp only
  split
  · rw [State.raise_buf, State.buf_setBuf_same]
  · exact State.buf_setBuf_same

theorem State.capCheck_keys : ((s.capCheck b).buf b).keys = (s.buf b).keys := by
  have hr : ((s.capResolved b).buf b).keys = (s.buf b).keys := by rw [State.capResolved_buf]; exact CapBuf.resolve_keys
  obtain h | h | ⟨cut, h⟩ := s.capCheck_cases b <;> rw [h]
  · exact hr
  · rw [State.capHalt_keys, State.buf_setBuf_same]
    exact hr

/-- A buffer stays in its state or is held. -/
theorem State.capCheck_state : ((s.capCheck b).buf b).state = (s.buf b).state ∨ ((s.capCheck b).buf b).state.held = true := by
  obtain h | h | ⟨cut, h⟩ := s.capCheck_cases b <;> rw [h]
  · exact .inl rfl
  · exact .inl (by rw [State.capResolved_buf]; exact CapBuf.resolve_state)
  · exact .inr State.capHalt_held

namespace OnlyBuf

variable (he : E.CAP.addr ∈ as) (hm : Reg.EVC_MERGEDCNT ∈ as)

include he hm

theorem capResolved : OnlyBuf as b s (s.capResolved b) := by
  unfold State.capResolved
  dsimp only
  split
  · exact setBuf.trans (raise he hm)
  · exact setBuf

theorem capCheck : OnlyBuf as b s (s.capCheck b) := by
  obtain h | h | ⟨cut, h⟩ := s.capCheck_cases b <;> rw [h]
  · exact refl
  · exact capResolved he hm
  · exact ((capResolved he hm).trans setBuf).trans (capHalt he hm)

end OnlyBuf

/-! ### One trigger taken by one buffer, by the state of the buffer (R290-R294) -/

/-- The crossings of one trigger beyond the first are counted in MERGED (R291). -/
def State.capMerged (s : State) (g : CapTrig) : State := if g.code = 8 then s.bumpBy Reg.CAP_MERGED (g.count - 1) else s

/-- A buffer whose POST count a trigger has started (R292). -/
def CapBuf.started (x : CapBuf) (g : CapTrig) : CapBuf :=
  { x with state := .post, marks := [{ time := g.time, src := g.code, primary := true, restart := false }], baseAt := some g.time }

/-- A trigger starts the POST count (R292). -/
def State.capStart (s : State) (b : Nat) (g : CapTrig) : State :=
  ((s.setBuf b ((s.buf b).started g)).capAccept b g.code).capCheck b

/-- A secondary trigger (R293). -/
def State.capSecond (s : State) (b : Nat) (g : CapTrig) : State :=
  let x := s.buf b
  let again := bitAt (s.val Reg.CAP_RETRIG_EXT) b == 1 && x.restarts < s.val Reg.CAP_RETRIG_MAX % 16
  let m : CapMark := { time := g.time, src := g.code, primary := false, restart := again }
  let s1 := if x.marks.length < 16 then s else s.bump (Reg.CAP_BnMARKOVF b)
  let x1 := { x with marks := if x.marks.length < 16 then x.marks ++ [m] else x.marks }
  let x2 := if again then { x1 with restarts := x1.restarts + 1, baseAt := some g.time } else x1
  ((s1.setBuf b x2).capAccept b g.code).capCheck b

/-- A trigger missed (R294). -/
def State.capMiss (s : State) (b : Nat) : State := (s.bump (Reg.CAP_BnMISSED b)).raise E.CAP 1

/-- What a buffer makes of a trigger it has selected. -/
def State.capAct (s : State) (b : Nat) (g : CapTrig) : State :=
  match ((s.capMerged g).buf b).state with
  | .idle => s.capMerged g
  | .armed => (s.capMerged g).capStart b g
  | .post => (s.capMerged g).capSecond b g
  | _ => (s.capMerged g).capMiss b

theorem State.capTake1_eq : s.capTake1 b g = if s.capSelected b g then s.capAct b g else s := by
  have h : s.capTake1 b g = if !s.capSelected b g then s else s.capAct b g := rfl
  rw [h]
  cases s.capSelected b g <;> rfl

@[simp] theorem State.capMerged_buf : (s.capMerged g).buf j = s.buf j := by unfold State.capMerged; split <;> rfl

theorem State.capAct_idle (h : (s.buf b).state = .idle) : s.capAct b g = s.capMerged g := by simp [State.capAct, h]

theorem State.capAct_armed (h : (s.buf b).state = .armed) : s.capAct b g = (s.capMerged g).capStart b g := by simp [State.capAct, h]

theorem State.capAct_post (h : (s.buf b).state = .post) : s.capAct b g = (s.capMerged g).capSecond b g := by simp [State.capAct, h]

theorem State.capAct_held (h : (s.buf b).state.held = true) : s.capAct b g = (s.capMerged g).capMiss b := by
  cases hs : (s.buf b).state <;> rw [hs] at h
  case stopped | archiving => simp [State.capAct, hs]
  all_goals cases h

namespace OnlyBuf

theorem capMerged (h : Reg.CAP_MERGED ∈ as) : OnlyBuf as b s (s.capMerged g) := by
  unfold State.capMerged
  split
  · exact bumpBy h
  · exact refl

theorem capAccept (ht : Reg.CAP_BnTRIGS b ∈ as) (hm : Reg.EVC_MERGEDCNT ∈ as) : OnlyBuf as b s (s.capAccept b code) := by
  unfold State.capAccept
  dsimp only
  split
  · exact (bump ht).trans (event hm)
  · exact bump ht

end OnlyBuf

/-- The registers that a trigger taken by buffer `b` may write. -/
def capTrigRegs (b : Nat) : List Nat :=
  [Reg.CAP_MERGED, Reg.CAP_BnTRIGS b, Reg.CAP_BnMARKOVF b, Reg.CAP_BnMISSED b, E.CAP.addr, Reg.EVC_MERGEDCNT]

theorem OnlyBuf.capAct : OnlyBuf (capTrigRegs b) b s (s.capAct b g) := by
  have hmerged : OnlyBuf (capTrigRegs b) b s (s.capMerged g) := capMerged (by simp [capTrigRegs])
  have haccept {u : State} {y : CapBuf} : OnlyBuf (capTrigRegs b) b u (((u.setBuf b y).capAccept b g.code).capCheck b) :=
    (setBuf.trans (capAccept (by simp [capTrigRegs]) (by simp [capTrigRegs]))).trans
      (capCheck (by simp [capTrigRegs]) (by simp [capTrigRegs]))
  cases h : (s.buf b).state with
  | idle => rw [State.capAct_idle h]; exact hmerged
  | armed => rw [State.capAct_armed h]; exact hmerged.trans haccept
  | post =>
    rw [State.capAct_post h]
    refine hmerged.trans ?_
    unfold State.capSecond
    dsimp only
    split
    · exact haccept
    · exact (bump (by simp [capTrigRegs])).trans haccept
  | stopped | archiving =>
    rw [State.capAct_held (by rw [h]; rfl)]
    exact hmerged.trans ((bump (by simp [capTrigRegs])).trans (raise (by simp [capTrigRegs]) (by simp [capTrigRegs])))

theorem State.capAct_selected : (s.capAct b g).capSelected b = s.capSelected b := by
  refine OnlyBuf.capAct.capSelected (as := capTrigRegs b) ?_ ?_ <;>
  · simp only [capTrigRegs, E.CAP, Reg.CAP_BnTRIG, Reg.CAP_BnMASK, Reg.CAP_MERGED, Reg.CAP_BnTRIGS, Reg.CAP_BnMARKOVF, Reg.CAP_BnMISSED,
      Reg.CAP_ERRSTAT, Reg.EVC_MERGEDCNT, List.mem_cons, List.not_mem_nil, or_false]
    omega

/-! ### The triggers of one cycle, in their order (R291) -/

/-- Triggers acted on one after the other. -/
def State.capActs (s : State) (b : Nat) (l : List CapTrig) : State := l.foldl (fun s g => s.capAct b g) s

/-- The selection stays while triggers are taken, so that those not selected may be left out beforehand. -/
theorem State.foldl_capTake1 : l.foldl (fun s g => s.capTake1 b g) s = s.capActs b (l.filter (s.capSelected b)) := by
  induction l generalizing s with
  | nil => rfl
  | cons g l ih =>
    rw [List.foldl_cons, ih, State.capTake1_eq]
    cases h : s.capSelected b g with
    | false => rw [if_neg (by simp), List.filter_cons_of_neg (by simp [h])]
    | true => rw [if_pos rfl, State.capAct_selected, List.filter_cons_of_pos h]; rfl

theorem insertTrig_perm : (insertTrig g l).Perm (g :: l) := by
  induction l with
  | nil => exact .refl _
  | cons h r ih =>
    unfold insertTrig
    split
    · exact .refl _
    · exact (ih.cons h).trans (.swap g h r)

theorem foldr_insertTrig_perm : (l.foldr insertTrig []).Perm l := by
  induction l with
  | nil => exact .refl _
  | cons g l ih => exact insertTrig_perm.trans (ih.cons g)

/-- The triggers that a buffer takes in this cycle, in their order. -/
def State.capMine (s : State) (b : Nat) : List CapTrig :=
  ((s.cap.trigs.filter (fun g => bitAt g.bufs b == 1)).foldr insertTrig []).filter (s.capSelected b)

theorem State.capMine_perm : (s.capMine b).Perm (s.cap.trigs.filter (fun g => bitAt g.bufs b == 1 && s.capSelected b g)) := by
  have h := (foldr_insertTrig_perm (l := s.cap.trigs.filter (fun g => bitAt g.bufs b == 1))).filter (s.capSelected b)
  rw [List.filter_filter] at h
  exact h.trans (.of_eq (List.filter_congr fun g _ => Bool.and_comm _ _))

/-- The triggers on their way, without those of buffer `b`. -/
def State.capTaken (s : State) (b : Nat) : State :=
  { s with cap := { s.cap with
    trigs := (s.cap.trigs.map (fun g => { g with bufs := maskClear g.bufs b })).filter (fun g => g.bufs != 0) } }

theorem State.capTake_eq : s.capTake b = (s.capTaken b).capActs b (s.capMine b) := State.foldl_capTake1

theorem bitAt_maskClear {m : Nat} : bitAt (maskClear m b) b = 0 := by
  unfold maskClear
  rw [bitAt_div, Nat.mul_comm, Nat.sub_mul_div]
  omega

theorem State.capTaken_trigs {g : CapTrig} (h : g ∈ (s.capTaken b).cap.trigs) : bitAt g.bufs b = 0 := by
  obtain ⟨g', -, rfl⟩ := List.mem_map.mp (List.mem_of_mem_filter h)
  exact bitAt_maskClear

theorem OnlyBuf.capActs : OnlyBuf (capTrigRegs b) b s (s.capActs b l) := by
  induction l generalizing s with
  | nil => exact refl
  | cons g l ih => exact capAct.trans ih

/-- An idle buffer ignores triggers. -/
theorem State.capActs_idle (h : (s.buf b).state = .idle) :
    (s.capActs b l).buf b = s.buf b ∧ OnlyBuf [Reg.CAP_MERGED] b s (s.capActs b l) := by
  induction l generalizing s with
  | nil => exact ⟨rfl, .refl⟩
  | cons g l ih =>
    have hg : s.capActs b (g :: l) = (s.capMerged g).capActs b l := by rw [← State.capAct_idle h]; rfl
    obtain ⟨hb, ho⟩ := ih (s := s.capMerged g) (by rwa [State.capMerged_buf])
    rw [hg]
    exact ⟨by rw [hb, State.capMerged_buf], (OnlyBuf.capMerged (by simp)).trans ho⟩

/-! ### A held buffer misses its triggers (R294) -/

theorem State.capMiss_buf : (s.capMiss b).buf j = s.buf j := State.raise_buf

theorem State.capMiss_missed : (s.capMiss b).val (Reg.CAP_BnMISSED b) = min (s.val (Reg.CAP_BnMISSED b) + 1) 0xFFFFFFFF := by
  have he : Reg.CAP_BnMISSED b ≠ E.CAP.addr := by
    simp only [Reg.CAP_BnMISSED, E.CAP, Reg.CAP_ERRSTAT]; omega
  have hm : Reg.CAP_BnMISSED b ≠ Reg.EVC_MERGEDCNT := by unfold Reg.CAP_BnMISSED Reg.EVC_MERGEDCNT; omega
  unfold State.capMiss
  rw [State.val_of_reg (State.raise_reg_other he hm), State.val_bump_same]

theorem State.capMiss_bit : ((s.capMiss b).val Reg.CAP_ERRSTAT).testBit 1 = true :=
  State.raise_bit (e := E.CAP) (k := 12) rfl (by decide) (by decide)

theorem State.capMerged_missed : (s.capMerged g).val (Reg.CAP_BnMISSED b) = s.val (Reg.CAP_BnMISSED b) := by
  refine State.val_of_reg ((OnlyBuf.capMerged (b := b) (as := [Reg.CAP_MERGED]) (by simp)).regs _ ?_)
  simp only [Reg.CAP_BnMISSED, Reg.CAP_MERGED, List.mem_singleton]
  omega

theorem State.capActs_held (h : (s.buf b).state.held = true) :
    (s.capActs b l).buf b = s.buf b ∧
    (l ≠ [] → (s.capActs b l).val (Reg.CAP_BnMISSED b) = min (s.val (Reg.CAP_BnMISSED b) + l.length) 0xFFFFFFFF ∧
      ((s.capActs b l).val Reg.CAP_ERRSTAT).testBit 1 = true) := by
  induction l generalizing s with
  | nil => exact ⟨rfl, fun hn => absurd rfl hn⟩
  | cons g l ih =>
    have hg : s.capActs b (g :: l) = ((s.capMerged g).capMiss b).capActs b l := by rw [← State.capAct_held h]; rfl
    have hbuf : ((s.capMerged g).capMiss b).buf b = s.buf b := by rw [State.capMiss_buf, State.capMerged_buf]
    have hval : ((s.capMerged g).capMiss b).val (Reg.CAP_BnMISSED b) = min (s.val (Reg.CAP_BnMISSED b) + 1) 0xFFFFFFFF := by
      rw [State.capMiss_missed, State.capMerged_missed]
    obtain ⟨hb, hn⟩ := ih (s := (s.capMerged g).capMiss b) (by rwa [hbuf])
    rw [hg]
    refine ⟨hb.trans hbuf, fun _ => ?_⟩
    by_cases hl : l = []
    · subst hl
      exact ⟨hval, State.capMiss_bit⟩
    · obtain ⟨hmissed, hbit⟩ := hn hl
      refine ⟨?_, hbit⟩
      rw [hmissed, hval, List.length_cons]
      omega

/-! ### An armed buffer starts its POST count (R292) -/

@[simp] theorem State.capAccept_buf : (s.capAccept b code).buf j = s.buf j := by
  unfold State.capAccept
  dsimp only
  split
  · rw [State.event_buf, State.bump_buf]
  · rfl

theorem State.capAccept_trigs : (s.capAccept b code).val (Reg.CAP_BnTRIGS b) = min (s.val (Reg.CAP_BnTRIGS b) + 1) 0xFFFFFFFF := by
  have hm : Reg.CAP_BnTRIGS b ≠ Reg.EVC_MERGEDCNT := by unfold Reg.CAP_BnTRIGS Reg.EVC_MERGEDCNT; omega
  unfold State.capAccept
  dsimp only
  split
  · rw [State.val_of_reg (State.event_reg_other hm), State.val_bump_same]
  · exact State.val_bump_same

theorem State.capCheck_trigs : (s.capCheck b).val (Reg.CAP_BnTRIGS b) = s.val (Reg.CAP_BnTRIGS b) := by
  refine State.val_of_reg ((OnlyBuf.capCheck (as := [E.CAP.addr, Reg.EVC_MERGEDCNT]) (by simp) (by simp)).regs _ ?_)
  simp only [Reg.CAP_BnTRIGS, E.CAP, Reg.CAP_ERRSTAT, Reg.EVC_MERGEDCNT, List.mem_cons, List.not_mem_nil, or_false]
  omega

theorem State.capMerged_trigs : (s.capMerged g).val (Reg.CAP_BnTRIGS b) = s.val (Reg.CAP_BnTRIGS b) := by
  refine State.val_of_reg ((OnlyBuf.capMerged (b := b) (as := [Reg.CAP_MERGED]) (by simp)).regs _ ?_)
  simp only [Reg.CAP_BnTRIGS, Reg.CAP_MERGED, List.mem_singleton]
  omega

theorem State.capStart_keys : ((s.capStart b g).buf b).keys = [(g.time, g.code, true)] := by
  rw [State.capStart, State.capCheck_keys, State.capAccept_buf, State.buf_setBuf_same]
  rfl

theorem State.capStart_state : ((s.capStart b g).buf b).state ≠ .armed ∧ ((s.capStart b g).buf b).state ≠ .idle := by
  rw [State.capStart]
  obtain h | h := State.capCheck_state (s := (s.setBuf b ((s.buf b).started g)).capAccept b g.code) (b := b)
  · rw [h, State.capAccept_buf, State.buf_setBuf_same]
    exact ⟨nofun, nofun⟩
  · constructor <;> intro hs <;> rw [hs] at h <;> cases h

theorem State.capStart_trigs : (s.capStart b g).val (Reg.CAP_BnTRIGS b) = min (s.val (Reg.CAP_BnTRIGS b) + 1) 0xFFFFFFFF := by
  rw [State.capStart, State.capCheck_trigs, State.capAccept_trigs]
  rfl

/-- With no frame stored the count begins and nothing is fixed yet. -/
theorem State.capStart_empty (h : (s.buf b).total = 0) : (s.capStart b g).buf b = (s.buf b).started g := by
  have hb : ((s.setBuf b ((s.buf b).started g)).capAccept b g.code).buf b = (s.buf b).started g := by
    rw [State.capAccept_buf, State.buf_setBuf_same]
  rw [State.capStart, State.capCheck_empty (by rw [hb]; exact h), hb]

/-! ### CAPTURE_TRIGGER -/

theorem exec_captureTrigger (h : s.powered) : exec (.captureTrigger n b) s =
    .next (if 16 ≤ b then s.advanceNs n else (s.advanceNs n).capTake b) := by
  show execCaptureTrigger n b s = _
  exact State.liveAt_powered h

theorem exec_captureTrigger_frame (h : exec (.captureTrigger n b) s = .next t) :
    Frame [.devMem, .now, .sys, .cap, .evc, .free] [.CAP, .EVC] s t :=
  frame_of_kept (execCaptureTrigger_kept Sub.refl h) (by decide)

/-! ### The statement -/

/-- Settles O36: the triggers of the cycle are those selected, in their order; each acts by the state of the buffer. -/
theorem triggersTakenAndMissed : Obligations.TriggersTakenAndMissed := by
  refine ⟨fun s n b hp hb => by rw [exec_captureTrigger hp, if_pos hb], fun s n b hp hb => ?_⟩
  have hexec : exec (.captureTrigger n b) s = .next (((s.advanceNs n).capTaken b).capActs b (s.capMine b)) := by
    rw [exec_captureTrigger hp, if_neg (by omega), State.capTake_eq]
    rfl
  have honly : OnlyBuf (capTrigRegs b) b ((s.advanceNs n).capTaken b) _ := .capActs (l := s.capMine b)
  refine ⟨_, hexec, fun g hg => State.capTaken_trigs (honly.trigs ▸ hg), honly.others, honly.mask, exec_captureTrigger_frame hexec,
    fun hi => ?_, fun hh => ?_, fun g hg ha => ?_⟩
  · obtain ⟨hbuf, ho⟩ := State.capActs_idle (s := (s.advanceNs n).capTaken b) (l := s.capMine b) hi
    exact ⟨hbuf, ho.regs⟩
  · obtain ⟨hbuf, hn⟩ := State.capActs_held (s := (s.advanceNs n).capTaken b) (l := s.capMine b) hh
    refine ⟨hbuf, fun hne => ?_⟩
    rw [← State.capMine_perm.length_eq]
    exact hn fun h0 => hne (List.perm_nil.mp (h0 ▸ State.capMine_perm.symm))
  · have hmine : s.capMine b = [g] := List.perm_singleton.mp (hg ▸ State.capMine_perm)
    have hstart : ((s.advanceNs n).capTaken b).capActs b (s.capMine b) = (((s.advanceNs n).capTaken b).capMerged g).capStart b g := by
      rw [hmine, ← State.capAct_armed (s := (s.advanceNs n).capTaken b) ha]; rfl
    have hbuf : (((s.advanceNs n).capTaken b).capMerged g).buf b = s.buf b := State.capMerged_buf
    rw [hstart, CapBuf.keys_head, State.capStart_keys, State.capStart_trigs, State.capMerged_trigs]
    refine ⟨rfl, State.capStart_state.1, State.capStart_state.2, rfl, fun h0 => ?_⟩
    rw [State.capStart_empty (by rwa [hbuf]), hbuf]
    rfl

end Sys2Proof.Machine
end
